-- ==== Sys2Proof/Word.lean ====
section
/-! DEFINITION. The word types of the device: a 32-bit register or payload word (R68, R99) and a byte
of a frame. Everything a test could show wrong about bits stands in Machine/Bits.lean. -/

namespace Sys2Proof

/-- A 32-bit register or payload word (R68). -/
abbrev Word := BitVec 32

/-- One byte of a frame, of a key or of a message. -/
abbrev Byte := BitVec 8

/-- A word from a natural number, modulo 2^32. -/
abbrev word (n : Nat) : Word := BitVec.ofNat 32 n

end Sys2Proof
end

