-- ==== Sys2Proof/Syntax.lean ====
section
/-! DEFINITION. The commands of the block: one constructor of Instr for each row of
spec/opcode_table.json. A host command row carries the request as it stands once it has passed the
stages 1 to 3 of R32. An event row carries the device time t at which it happens, in ticks of 5 ns, and
what the spec leaves to the outside world. -/

namespace Sys2Proof

/-- The five ports by which a request enters (R79). -/
inductive Port where
  | qspi | mac0 | mac1 | plyUp | plyDown
  deriving DecidableEq, Repr, Inhabited

/-- The IPv4 address and UDP port of a host on a MAC (R416); not used on the other ports. -/
structure Peer where
  addr : Nat
  udp : Nat
  deriving DecidableEq, Repr, Inhabited

/-- A request that has passed the stages 1 to 3 of R32: the header fields of R71 and the payload. -/
structure Req where
  /-- device time at which it is taken, in ticks -/
  t : Nat
  port : Port
  peer : Peer
  /-- SLOT -/
  slot : Nat
  /-- DEVICE -/
  device : Nat
  tag : Nat
  ordered : Bool
  noresp : Bool
  snapalign : Bool
  urgent : Bool
  object : Word
  /-- SEQ -/
  seq : Nat
  payload : List Word
  deriving DecidableEq, Repr, Inhabited

/-- A heartbeat as a Ply port receives it (R420). -/
structure Beat where
  /-- device time of its receipt -/
  t : Nat
  /-- the port it came by: 0 up, 1 down -/
  p : Nat
  /-- the device that sent it, and whether a neighbour has relayed it (R422) -/
  dev : Nat
  relayed : Bool
  /-- the sender's device time at the comma; the receiver's device time that it echoes and the sender's tick of that
  receipt, 0 and 0 for none -/
  time : Nat
  echo : Nat
  rx : Nat
  /-- the sender's presence mask -/
  present : Nat
  /-- LOOM_PWR_EST -/
  power : Nat
  /-- the sender's own error to device 0, in ticks (R427, log entry 77) -/
  err : Int := 0
  /-- the flags ALIGNED (R603), PDIE_WARM (R428), RECOVERY (R602) and PARK (R423) -/
  aligned : Bool
  warm : Bool
  recovery : Bool
  park : Bool
  /-- the chain entries, each: local skein, partner device, partner skein, role (1 secondary), state, role-swap offer (1)
  or acceptance (2), GIVE_NOW (1), SKEIN_PERIOD and PHASE of the local skein, give-back due at the next boundary (1), local skein unfit
  for a chain entry (1), LOOM_PWR_LIMIT of the sender -/
  entries : List (List Nat)
  deriving DecidableEq, Repr, Inhabited

/-- A decoded classical frame's identifier, bit 29 its IDE, and the frame errors since the decoded frame before it (R385). -/
structure FrameHead where
  id : Word := 0
  errs : Nat := 0
  deriving DecidableEq, Repr, Inhabited

/-- What the line does to a frame of the Weft link: the bits that arrive turned over, bit 63 the highest of byte 0, and
whether a symbol arrives with a code or running-disparity error (R229). -/
structure LineErr where
  flip : Nat := 0
  symbol : Bool := false
  deriving DecidableEq, Repr, Inhabited

/-- The tick of a mark on the Weft link, and what the line does to it. -/
structure MarkAt where
  t : Nat := 0
  line : LineErr := {}
  deriving DecidableEq, Repr, Inhabited

/-- A token's answer in a slot, as the REPORT gives it (R503): the token, STS quality in %, STS first path, the two times of
the anchor, the two of the token, the token's REPORT payload and the MIC received. -/
structure TokAnswer where
  tok : Nat
  qual : Nat
  path : Nat
  tround1 : Nat
  treply2 : Nat
  treply1 : Nat
  tround2 : Nat
  payload : List Byte := []
  mic : List Byte := []
  deriving DecidableEq, Repr, Inhabited

/-- The commands, one constructor for each row of spec/opcode_table.json, in the table's order. -/
inductive Instr where
  /-- PING (R97). Host command that returns SYS_ID in one word. -/
  | ping (r : Req)
  /-- GET_INFO (R97). Host command that returns device information. -/
  | getInfo (r : Req)
  /-- SESSION_OPEN (R90). Opens an authenticated or unauthenticated session on a host slot and derives the session key. -/
  | sessionOpen (r : Req)
  /-- SESSION_CLOSE (R95). Ends the slot's session and binding once its commands in flight have completed. -/
  | sessionClose (r : Req)
  /-- SUBSCRIBE (R97). Writes one word to HOST_EVT_MASKn of the slot. -/
  | subscribe (r : Req)
  /-- GET_TIME (R97). Returns the 64-bit device time at completion. -/
  | getTime (r : Req)
  /-- FUNC_ENABLE (R85). Enables or disables one function group and applies its disable states. -/
  | funcEnable (r : Req)
  /-- READ_REG (R100). Reads one register word. -/
  | readReg (r : Req)
  /-- WRITE_REG (R100). Writes one register word. -/
  | writeReg (r : Req)
  /-- READ_BLOCK (R100). Reads 1 to 256 consecutive register words within one block. -/
  | readBlock (r : Req)
  /-- MODIFY_REG (R102). Atomically reads a register and writes it under a mask, returning the old value. -/
  | modifyReg (r : Req)
  /-- WRITE_BLOCK (R100). Writes 1 to 256 consecutive register words within one block. -/
  | writeBlock (r : Req)
  /-- LOAD_SET (R143). Sets the DUTY and HIZ of a host-owned skein after budget and fault checks. -/
  | loadSet (r : Req)
  /-- LOAD_GET (R145). Returns the control, status, committed current and sensed current of a skein. -/
  | loadGet (r : Req)
  /-- SKEIN_DEFINE (R146). Creates, changes or deletes an off skein, completing after the next Loom pass. -/
  | skeinDefine (r : Req)
  /-- BRIDGE_SET (R147). Sets the target state, decay and duty of a bridge pair. -/
  | bridgeSet (r : Req)
  /-- LOAD_CLEAR_LATCH (R223). Clears latched cells, restarts learning or clears the degraded flag of a skein. -/
  | loadClearLatch (r : Req)
  /-- LOAD_SENSE (R224). Returns the current, protection status and per-cell sense of a skein. -/
  | loadSense (r : Req)
  /-- FAILSAFE_SET (R251). Writes a skein's fail-safe entry into the P-die fail-safe memory. -/
  | failsafeSet (r : Req)
  /-- FS_MEMORY_VERIFIED (R251). Both copies of a fail-safe entry verify and the new entry comes into force. -/
  | fsMemoryVerified (t : Nat) (w : Nat) (ok : Bool)
  /-- ACT_PROFILE_SET (R271). Writes and checks the binding and profile of an actuator slot. -/
  | actProfileSet (r : Req)
  /-- ACT_FIRE (R272). Fires an actuator slot into PEAK or defers it on a shared high side. -/
  | actFire (r : Req)
  /-- ACT_STOP (R273). Stops an actuator slot, sending it to IDLE or RELEASE. -/
  | actStop (r : Req)
  /-- ACT_STATUS (R274). Returns the status and measurements of an actuator slot. -/
  | actStatus (r : Req)
  /-- DIM_SET (R302). Sets the level of a lighting skein, optionally with a fade. -/
  | dimSet (r : Req)
  /-- MATRIX_WRITE (R303). Writes pixels into the back buffer of a matrix port. -/
  | matrixWrite (r : Req)
  /-- MATRIX_SWAP (R304). Swaps the displayed and back buffers of a matrix port at the next frame start. -/
  | matrixSwap (r : Req)
  /-- WHORL_LOAD (R305). Writes words into Whorl program memory. -/
  | whorlLoad (r : Req)
  /-- WHORL_RUN (R306). Starts a Whorl engine at an address within a range. -/
  | whorlRun (r : Req)
  /-- WHORL_STOP (R306). Stops a Whorl engine with no reason. -/
  | whorlStop (r : Req)
  /-- DERATE_GET (R307). Returns the derating factor and temperature of a lighting skein or port. -/
  | derateGet (r : Req)
  /-- FIO_CFG (R333). Configures consecutive field pins. -/
  | fioCfg (r : Req)
  /-- FIO_READ (R334). Returns field-pin input and output states. -/
  | fioRead (r : Req)
  /-- FIO_WRITE (R335). Sets masked field outputs together at one commit tick. -/
  | fioWrite (r : Req)
  /-- FIO_COUNT_READ (R336). Reads a counter channel, optionally clearing it at one tick. -/
  | fioCountRead (r : Req)
  /-- CAN_CFG (R371). Configures a CAN controller, restarting it where needed. -/
  | canCfg (r : Req)
  /-- CAN_TX (R372). Queues a CAN frame, or stores a trigger frame, and returns its handle. -/
  | canTx (r : Req)
  /-- CAN_RX_READ (R373). Reads a receive buffer or records from the receive FIFO. -/
  | canRxRead (r : Req)
  /-- CAN_FILTER_SET (R374). Writes acceptance filter entries that come into force together. -/
  | canFilterSet (r : Req)
  /-- NT_CFG (R375). Writes the network-time configuration. -/
  | ntCfg (r : Req)
  /-- NM_SLEEP_REQ (R400). Raises or releases the host need on a ring-consent channel. -/
  | nmSleepReq (r : Req)
  /-- NM_STATUS (R401). Returns a channel's status and presence and clears the transceiver WAKE flag. -/
  | nmStatus (r : Req)
  /-- GW_ROUTE_SET (R407). Writes gateway routing entries that come into force together. -/
  | gwRouteSet (r : Req)
  /-- RANGE_START (R519). Starts or stops a ranging run. -/
  | rangeStart (r : Req)
  /-- RANGE_RESULT (R520). Returns the ranging status of the last round. -/
  | rangeResult (r : Req)
  /-- RANGE_ZONE_CFG (R521). Writes zone, anchor, token or radio configuration and sends SETUP to anchors. -/
  | rangeZoneCfg (r : Req)
  /-- LOCKOUT_CLEAR (R522). Ends any ranging lock-out and resets the failure count. -/
  | lockoutClear (r : Req)
  /-- IMMO_CFG (R523). Writes the immobiliser release configuration. -/
  | immoCfg (r : Req)
  /-- KEY_PROVISION (R490). Imports a wrapped key into an empty slot and persists it. -/
  | keyProvision (r : Req)
  /-- KEY_DERIVE (R491). Derives a child key from a DERIVE parent slot. -/
  | keyDerive (r : Req)
  /-- KEY_INVALIDATE (R477). Empties a slot, raises its generation and optionally cascades to descendants. -/
  | keyInvalidate (r : Req)
  /-- TRANSPORT_ROOT_RETIRE (R492). Retires the transport root by programming an OTP bit. -/
  | transportRootRetire (r : Req)
  /-- ENCRYPT (R493). CRYPTO_OP operation that encrypts or GCM-seals data. -/
  | encrypt (r : Req)
  /-- DECRYPT (R493). CRYPTO_OP operation that decrypts or GCM-opens data. -/
  | decrypt (r : Req)
  /-- MAC_GEN (R493). CRYPTO_OP operation that generates a CMAC tag. -/
  | macGen (r : Req)
  /-- MAC_VER (R493). CRYPTO_OP operation that verifies a truncated CMAC tag. -/
  | macVer (r : Req)
  /-- SHA_256 (R493). CRYPTO_OP operation that hashes one-shot or streamed per host slot. -/
  | sha256 (r : Req)
  /-- ECDSA_VERIFY (R493). CRYPTO_OP operation that verifies a P-256 signature. -/
  | ecdsaVerify (r : Req)
  /-- RANDOM (R493). CRYPTO_OP operation that returns TRNG bytes. -/
  | random (r : Req)
  /-- KEY_INFO (R494). Returns a slot's record and check value, or the transport root status. -/
  | keyInfo (r : Req)
  /-- ZEROISE (R495). Host-issued zeroisation of the key store. -/
  | zeroise (r : Req)
  /-- CFG_WRITE_MERGE (R534). CFG_WRITE object 0: merges records into the stored configuration. -/
  | cfgWriteMerge (r : Req)
  /-- CFG_WRITE_STAGE_NEW (R534). CFG_WRITE object 1: empties the staging area and adds records. -/
  | cfgWriteStageNew (r : Req)
  /-- CFG_WRITE_STAGE_ADD (R534). CFG_WRITE object 2: adds records to the staging area. -/
  | cfgWriteStageAdd (r : Req)
  /-- CFG_WRITE_REPLACE (R633). CFG_WRITE object 3: replaces the stored configuration with the staging area. -/
  | cfgWriteReplace (r : Req)
  /-- CFG_WRITE_LIVE (R633). CFG_WRITE object 4: stores the live values of the named classes. -/
  | cfgWriteLive (r : Req)
  /-- CFG_READ (R535). Reads matching records from the authoritative configuration bank. -/
  | cfgRead (r : Req)
  /-- UPDATE_BEGIN (R542). Checks a signed descriptor and opens an update session. -/
  | updateBegin (r : Req)
  /-- UPDATE_BLOCK (R543). Writes and verifies one image block. -/
  | updateBlock (r : Req)
  /-- UPDATE_VERIFY (R544). Re-checks every block and the hashes of the received image. -/
  | updateVerify (r : Req)
  /-- UPDATE_COMMIT (R546). Saves the fallback configuration, writes the boot record and arms the handover. -/
  | updateCommit (r : Req)
  /-- UPDATE_ABORT (R545). Ends an update session or reverts a trial image. -/
  | updateAbort (r : Req)
  /-- UPDATE_CONFIRM (R551). Confirms a trial image and raises the anti-rollback counter. -/
  | updateConfirm (r : Req)
  /-- RECOVERY_UPDATE_COMMIT (R601). In recovery, commits the verified image and restarts into it in TRIAL. -/
  | recoveryUpdateCommit (r : Req)
  /-- FAULT_STATUS (R460). Returns fault status, class status and sticky bits. -/
  | faultStatus (r : Req)
  /-- FAULT_ACK (R461). Acknowledges classes, releases capture records or clears sticky bits. -/
  | faultAck (r : Req)
  /-- FAULT_CAPTURE_READ (R462). Returns a class's capture record. -/
  | faultCaptureRead (r : Req)
  /-- FAULT_REACTION_SET (R463). Sets the reaction level and L3 form of a fault source. -/
  | faultReactionSet (r : Req)
  /-- FAULT_INJECT (R464). Injects a fault of a source, in the collector or in hardware. -/
  | faultInject (r : Req)
  /-- PWR_STATE_REQ (R585). Requests a power state, starting entry into SLEEP, DEEP SLEEP or OFF. -/
  | pwrStateReq (r : Req)
  /-- CLK_STATUS (R586). Returns clock, gating, power, wake and regulator status. -/
  | clkStatus (r : Req)
  /-- CLK_GATE (R587). Registers clock-gate closes as pending and opens units. -/
  | clkGate (r : Req)
  /-- WAKE_CFG (R588). Writes the wake source, pin and timer configuration. -/
  | wakeCfg (r : Req)
  /-- SNAP_TAKE (R108). Holds a snapshot set and fixes its latch tick, locally or for the chain. -/
  | snapTake (r : Req)
  /-- SNAP_READ (R111). Reads counters from a latched snapshot set. -/
  | snapRead (r : Req)
  /-- SNAP_RELEASE (R111). Frees a snapshot set. -/
  | snapRelease (r : Req)
  /-- COUNTER_READ (R111). Reads live counter values. -/
  | counterRead (r : Req)
  /-- LOOM_PLACEMENT_GET (R181). Returns a skein's placement map and status. -/
  | loomPlacementGet (r : Req)
  /-- LOOM_ROTATE_CFG (R182). Writes a skein's rotation interval and shedding priority. -/
  | loomRotateCfg (r : Req)
  /-- LOOM_PIN (R183). Writes a skein's pinned and excluded cells. -/
  | loomPin (r : Req)
  /-- LOOM_CHAIN_CFG (R184). Creates, changes or deletes a cross-device chain entry. -/
  | loomChainCfg (r : Req)
  /-- LOOM_BUDGET_GET (R185). Returns the bank and package committed currents and the power estimate. -/
  | loomBudgetGet (r : Req)
  /-- SKEIN_CTL_WRITE (R144). A register write to SKEIN_CTL, carried out as LOAD_SET or ignored. -/
  | skeinCtlWrite (k : Nat) (v : Word) (r : Req)
  /-- LOOM_SKEIN_REG_WRITE (R186). A write to LOOM_SKEIN_CFG or LOOM_SKEIN_PIN, carried out as the matching opcode. -/
  | loomSkeinRegWrite (k : Nat) (pin : Bool) (v : Word) (r : Req)
  /-- FIO_PIN_CFG_WRITE (R333). A write to FIO_PINi_CFG, carried out as FIO_CFG. -/
  | fioPinCfgWrite (i : Nat) (v : Word) (r : Req)
  /-- FIO_OUT_WRITE (R335). A write to FIO_OUTn, carried out as FIO_WRITE. -/
  | fioOutWrite (n : Nat) (v : Word) (r : Req)
  /-- WHORL_PROGRAM_WRITE (R305). A write to Whorl program memory, carried out as WHORL_LOAD. -/
  | whorlProgramWrite (i : Nat) (v : Word) (r : Req)
  /-- ROUTE_ENTRY_WRITE (R407). A write to a routing entry, carried out as GW_ROUTE_SET. -/
  | routeEntryWrite (e : Nat) (j : Nat) (v : Word) (r : Req)
  /-- CAN_TRIG_WRITE (R376). A write to a trigger register, taking effect at the next cycle start. -/
  | canTrigWrite (i : Nat) (win : Bool) (v : Word) (r : Req)
  /-- CAN_AUTH_WRITE (R363). A write to an authentication profile, checking the key attribute on enable. -/
  | canAuthWrite (a : Nat) (j : Nat) (v : Word) (r : Req)
  /-- WDOG_KICK (R440). A firmware write to SPINDLE_WDOG_KICK checked for timing and value. -/
  | wdogKick (t : Nat) (c : Nat) (v : Nat)
  /-- RETRAIN (R236). WEFT_CTL.RETRAIN write that stops down frames and retrains the link. -/
  | retrain (v : Word) (r : Req)
  /-- WEFT_HOLD_WRITE (R243). A write of WEFT_CTL.HOLD sent to the P-die and its fail-safe memory. -/
  | weftHoldWrite (hold : Nat) (r : Req)
  /-- COLI_WRITE (R286). A write of column current codes refused if the port sum exceeds 2,125. -/
  | coliWrite (p : Nat) (q : Nat) (v : Word) (r : Req)
  /-- PORT_FS_WRITE (R300). A write of a port's fail-safe choice into the fail-safe memory. -/
  | portFsWrite (p : Nat) (v : Word) (r : Req)
  /-- FRAME_MEMORY_WRITE (R289). A write to the frame memory window, sent to the P-die for changed pixels. -/
  | frameMemoryWrite (i : Nat) (v : Word) (r : Req)
  /-- ROOT_SELECT_WRITE (R565). A write to CLK_SRC.SEL that starts a root switch. -/
  | rootSelectWrite (v : Word) (r : Req)
  /-- VCORE_SET_WRITE (R583). A write to REG_VCORE.SET that sends VOUT_COMMAND to the PMIC. -/
  | vcoreSetWrite (v : Word) (r : Req)
  /-- FIO_FAULT_CLEAR (R326). Writing 1 to FIO_STAT.FAULT clears it and re-arms latched outputs. -/
  | fioFaultClear (r : Req)
  /-- EXT_TEMP_WRITE (R292). A host write of LIGHT_EXT_TEMP that clears staleness. -/
  | extTempWrite (v : Word) (r : Req)
  /-- ERRCAP_READ (R7). A read of CAN_ERRCAPk that returns and clears its RC fields. -/
  | errcapRead (k : Nat) (r : Req)
  /-- GENERIC_REG_WRITE (R630). A write to a register with no row of its own, rejecting out-of-range fields. -/
  | genericRegWrite (a : Nat) (v : Word) (r : Req)
  /-- EODEN_REQUEST (R32). A complete request frame is received and passes or fails the check stages. -/
  | eodenRequest (t : Nat) (port : Port) (peer : Peer) (frame : List Byte)
  /-- REQUEST_DISPATCH (R81). A waiting request is taken by its owning subsystem in urgency and acceptance order. -/
  | requestDispatch (t : Nat)
  /-- RESPONSE_SENT (R78). The last byte of a response or event leaves its port, freeing tag or queue entry. -/
  | responseSent (t : Nat) (port : Port)
  /-- SNAPALIGN_EXPIRED (R112). A SNAPALIGN command still waiting after 200 management ticks completes with EXPIRED. -/
  | snapalignExpired
  /-- SNAPSHOT_LATCH (R109). At the latch tick the set latches its counters and SNAPALIGN commands are released. -/
  | snapshotLatch
  /-- QSPI_SEND (R411). A QSPI SEND transaction delivers one request frame or is discarded. -/
  | qspiSend (t : Nat) (len : Nat) (data : List Byte)
  /-- QSPI_STATUS (R411). A QSPI STATUS transaction returns the next output length and free input space. -/
  | qspiStatus (t : Nat)
  /-- QSPI_FETCH (R413). A QSPI FETCH returns the oldest output frame and may release INTN. -/
  | qspiFetch (t : Nat)
  /-- UDP_DATAGRAM_RX (R415). An Eoden UDP datagram arrives on a MAC, or is dropped. -/
  | udpDatagramRx (t : Nat) (m : Nat) (peer : Peer) (dst : Nat) (dport : Nat) (vlan : Option Nat) (plain : Bool) (data : List Byte)
  /-- ARP_REQUEST (R415). The device answers an ARP request for its address. -/
  | arpRequest (t : Nat) (m : Nat) (asked : Nat) (fromAddr : Nat)
  /-- ICMP_ECHO (R415). The device answers an ICMP echo request. -/
  | icmpEcho (t : Nat) (m : Nat) (asked : Nat) (fromAddr : Nat)
  /-- GPTP_SYNC (R418). An 802.1AS Sync with Follow_Up updates the gPTP offset and rate. -/
  | gptpSync (t : Nat) (m : Nat) (ns : Nat)
  /-- GPTP_SYNC_LOSS (R418). Three Sync intervals pass without a Sync and SYNCED clears. -/
  | gptpSyncLoss (t : Nat)
  /-- PDELAY_REQUEST (R417). A peer-delay exchange message is answered or measured. -/
  | pdelayRequest (t : Nat) (m : Nat) (measured : Option Nat)
  /-- ANNOUNCE (R417). An Announce message names the grandmaster, possibly setting GM_CHANGE. -/
  | announce (t : Nat) (m : Nat) (gm : Nat)
  /-- PLY_TRAINING (R420). A Ply link trains once both ends run. -/
  | plyTraining (t : Nat) (p : Nat) (latency : Nat)
  /-- PLY_RETRAIN (R420). A Ply link retrains after 10 µs without a valid symbol. -/
  | plyRetrain (t : Nat) (p : Nat)
  /-- PLY_EODEN_PACKET (R425). An EODEN packet arrives on a Ply port and is forwarded or taken. -/
  | plyEodenPacket (t : Nat) (p : Nat) (crc : List Byte) (packet : List Byte)
  /-- HEARTBEAT (R422). A received heartbeat updates presence, alignment, order and chain-entry views and is relayed. -/
  | heartbeat (h : Beat)
  /-- HEARTBEAT_SEND (R422). Every 50 µs the L-die sends a heartbeat on each trained port. -/
  | heartbeatSend
  /-- PLY_MARK (R109). A chain snapshot mark arrives, is relayed and holds the named set. -/
  | plyMark (t : Nat) (p : Nat) (set : Nat) (tick : Nat)
  /-- MIRROR (R176). A MIRROR packet carries cross-device skein duty or a passed command. -/
  | mirror (t : Nat) (dev : Nat) (k : Nat) (kind : Nat) (value : Nat) (effect : Nat) (status : Nat)
  /-- MIRROR_SEND (R176). The primary sends the skein DUTY at least every 50 µs. -/
  | mirrorSend (t : Nat)
  /-- CREDIT (R421). A CREDIT packet reports the receiver's free buffer. -/
  | credit (t : Nat) (p : Nat) (n : Nat)
  /-- PLY_LOSS (R422). 250 µs without a heartbeat declares a device lost. -/
  | plyLoss (d : Nat)
  /-- WEFT_TRAINING (R237). Weft training runs its steps to adoption after the L-die is out of reset. -/
  | weftTraining (t : Nat) (latency : Nat)
  /-- TRAINING_TIMEOUT (R236). Training not complete after 1 ms returns the link to DOWN. -/
  | trainingTimeout
  /-- TRAINING_RETRY (R236). A new training attempt starts 1 ms after a failed one. -/
  | trainingRetry
  /-- REFRESH (R233). A REFRESH down frame whose slot content the P-die applies if it differs. -/
  | refresh (t : Nat) (slot : Nat) (e : LineErr)
  /-- SETPOINT (R128). A SETPOINT down frame whose DUTY, state and cap the P-die applies at once. -/
  | setpoint (t : Nat) (k : Nat) (e : LineErr)
  /-- CONFIG (R233). A CONFIG down frame writes a P-die configuration word and is echoed. -/
  | config (t : Nat) (e : LineErr)
  /-- CONFIG_ECHO_TIMEOUT (R233). A CONFIG frame whose echo has not arrived within 1 µs is re-sent. -/
  | configEchoTimeout
  /-- TIME_EXCHANGE (R238). A time exchange mark keeps the P-die device time aligned. -/
  | timeExchange (t : Nat) (e : LineErr)
  /-- LADDER_RELEASE (R209). A ladder release mark ends the pause of a rung timed by the L-die. -/
  | ladderRelease (m : MarkAt) (n : Nat)
  /-- ADOPT_DONE (R241). The P-die accepts ADOPT_DONE, the link goes LIVE and hold-over ends. -/
  | adoptDone (m : MarkAt)
  /-- ADOPTION_READBACK_START (R237). The P-die's mark opens the adoption readback cycle. -/
  | adoptionReadbackStart (m : MarkAt)
  /-- READBACK (R234). A READBACK up frame refreshes the L-die copies of P-die state. -/
  | readback (t : Nat) (slot : Nat) (e : LineErr) (m : List Nat)
  /-- CELL_OUT (R232). A pre-empting CELL_OUT frame brings a cell-out report to the L-die. -/
  | cellOut (t : Nat) (e : LineErr)
  /-- EVENT_FRAME (R234). An EVENT up frame carries a P-die event to the L-die. -/
  | eventFrame (t : Nat) (e : LineErr)
  /-- IDLE_FRAME (R230). An IDLE frame carries device time when nothing else is due. -/
  | idleFrame (t : Nat) (up : Bool) (e : LineErr)
  /-- UNACKED_RESEND (R234). A CELL_OUT or EVENT frame unacknowledged for 8 frame times is sent again. -/
  | unackedResend (t : Nat) (e : LineErr)
  /-- LINK_SILENCE (R18). 10 µs without a valid down frame declares silence and starts hold-over. -/
  | linkSilence (t : Nat)
  /-- UP_LOSS (R236). 10 µs without a valid up frame takes the link DOWN from the L-die side. -/
  | upLoss (t : Nat)
  /-- HOLDOVER_EXPIRY (R241). The hold-over time expires and the P-die applies the fail-safe states. -/
  | holdoverExpiry
  /-- FS_FORCE (R445). An FS_FORCE configuration word makes the P-die apply the fail-safe states. -/
  | fsForce (t : Nat) (e : LineErr)
  /-- TRIP_DECISION (R192). A switch current exceeds the threshold in force and the gate discharges. -/
  | tripDecision (t : Nat) (n : Nat) (current : Nat)
  /-- CLASSIFICATION_CLOSE (R158). 400 ticks after the earliest trip, a skein's reports are classified as load or cell faults. -/
  | classificationClose (k : Nat)
  /-- LIMIT_TIMEOUT (R195). A cell in regulation for LIM_T is turned off with cause LIMIT, jointly with others. -/
  | limitTimeout (t : Nat) (n : Nat) (others : List Nat)
  /-- THERMAL_SHUTDOWN (R203). A cell's thermal comparator trips and turns both switches off. -/
  | thermalShutdown (t : Nat) (n : Nat)
  /-- THERMAL_RELEASE (R203). The cell's junction falls 15 °C below the trip point and the shutdown releases. -/
  | thermalRelease (t : Nat) (n : Nat)
  /-- CLAMP_PULSE_END (R206). At the end of a clamp pulse the ledger is checked and the cell may lock. -/
  | clampPulseEnd (t : Nat) (n : Nat) (energy : Nat)
  /-- GATE_STUCK (R222). A gate not reported off after 100 µs latches the cell with cause GATE. -/
  | gateStuck (t : Nat) (n : Nat)
  /-- PUMP_LOW (R222). A charge pump below its minimum for 1 µs turns the high side off. -/
  | pumpLow (t : Nat) (n : Nat)
  /-- PUMP_RECOVERED (R222). The charge pump recovered for 1 ms ends cause PUMP. -/
  | pumpRecovered (t : Nat) (n : Nat)
  /-- LADDER_PAUSE_END (R209). A rung 1–3 pause timed by the P-die ends and the cell becomes READY. -/
  | ladderPauseEnd (n : Nat)
  /-- LADDER_MGMT_PAUSE_END (R209). A rung 4+ pause counted in management ticks ends and the release is sent. -/
  | ladderMgmtPauseEnd (n : Nat)
  /-- CLEAN_RUN (R208). CLEAN × 100 ms of conduction without a report resets TRIES. -/
  | cleanRun (t : Nat) (n : Nat)
  /-- DROOP_SET (R214). A bank supply more than DV below reference for 200 ns sets the droop flag. -/
  | droopSet (t : Nat) (b : Nat)
  /-- DROOP_CLEAR (R214). The drop stays below DV/2 for 1 µs and the droop flag clears. -/
  | droopClear (t : Nat) (b : Nat)
  /-- DROOP_SUSPENSION_END (R215). 5 ms after the droop flag clears, held retries start and widening ends. -/
  | droopSuspensionEnd (b : Nat)
  /-- OFF_STATE_DIAG_FILTER (R216). An off-state condition held for OL_FILT sets or clears OPEN or STB. -/
  | offStateDiagFilter (t : Nat) (k : Nat) (opn : Bool) (stb : Bool)
  /-- SENSE_BAD (R219). An off-state sense reading held for 10 ms sets or clears SENSE_BAD. -/
  | senseBad (t : Nat) (n : Nat) (bad : Bool)
  /-- SENSE_SELF_TEST_DONE (R221). The P-die sense self-test completes and ISNS leaves the fault level. -/
  | senseSelfTestDone (t : Nat)
  /-- MSEL_CHANGE (R221). A change of MSEL selects another ISNS source. -/
  | mselChange (t : Nat) (code : Nat)
  /-- TAMPER_FLAG (R57). TAMP high for 10 µs sets the sticky tamper flag. -/
  | tamperFlag (t : Nat)
  /-- FINGERPRINT_RECORD (R196). An inrush window ends and its 64-point record is accepted or rejected. -/
  | fingerprintRecord (t : Nat) (k : Nat) (currents : List (Option Nat)) (supplies : List Nat)
  /-- INRUSH_END (R139). A skein's inrush window closes and IPEAK stops counting. -/
  | inrushEnd (k : Nat)
  /-- GATE_OFF_REPORTED (R133). Gate sense reports the outgoing switches off and the dead time starts. -/
  | gateOffReported (t : Nat) (k : Nat)
  /-- DEADTIME_END (R133). The dead time ends and the incoming switches turn on. -/
  | deadtimeEnd (k : Nat)
  /-- BRAKE_PHASE_END (R136). The REV_BRAKE phase ends and the bridge moves to its new direction. -/
  | brakePhaseEnd (k : Nat)
  /-- HANDOVER_LEAVE (R155). At the leave point the P-die removes the outgoing cell, which becomes STANDBY. -/
  | handoverLeave (k : Nat)
  /-- MANAGEMENT_TICK (R21). A management-tick boundary starts the management-plane passes. -/
  | managementTick (m : Nat) (rails : List Nat)
  /-- ROTATION_DUE (R170). ROT_INT ticks after the last active-set change one cell rotates. -/
  | rotationDue (k : Nat)
  /-- SHED_LIFT (R172). After 200 passes below 90 % of the limit one shedding cap is lifted. -/
  | shedLift
  /-- GIVEBACK (R179). The give-back count reaches GIVEBACK, or GIVE_NOW is set, and the load returns to the primary. -/
  | giveback (t : Nat) (j : Nat)
  /-- ROLE_SWAP (R180). After 20 passes of high dissipation the primary offers and runs a role swap. -/
  | roleSwap (t : Nat) (j : Nat)
  /-- QUIET_PERIOD_END (R451). A class's quiet period ends with no new fault and the class becomes CLEAR. -/
  | quietPeriodEnd (c : Nat)
  /-- EXT_TEMP_STALE (R292). LIGHT_EXT_TEMP not written for 200 ticks sets EXT_STALE. -/
  | extTempStale
  /-- INTEGRATION_TIMEOUT (R371). A CAN_CFG without integration after 100 ticks completes with FAULT_ACTIVE. -/
  | integrationTimeout (k : Nat)
  /-- UPDATE_INACTIVITY (R541). 6,000 ticks without an update opcode from the holder end the session. -/
  | updateInactivity
  /-- TRIAL_EXPIRY (R550). TRIAL_T expires and the trial image reverts. -/
  | trialExpiry
  /-- LOCKOUT_END (R512). A ranging lock-out period ends and FAILS returns to 0. -/
  | lockoutEnd
  /-- PEAK_END (R257). PEAK ends after the kink extension or PEAK_MAX and the slot enters HOLD. -/
  | peakEnd (a : Nat) (means : List Nat)
  /-- HOLD_END (R257). HOLD_T after HOLD began the slot enters RELEASE. -/
  | holdEnd (a : Nat)
  /-- RELEASE_END (R257). REL_T after RELEASE began the slot returns to IDLE. -/
  | releaseEnd (a : Nat)
  /-- CHOP_THRESHOLD (R259). A sense sample reaches the phase threshold and the chopping skein turns off. -/
  | chopThreshold (t : Nat) (a : Nat) (sample : Nat) (means : List Nat)
  /-- CHOP_OFF_END (R259). An off-interval of TOFF ends and the chopping skein conducts again. -/
  | chopOffEnd (a : Nat)
  /-- FADE_STEP (R280). At each 1 ms inside a fade the skein level steps. -/
  | fadeStep (k : Nat)
  /-- FADE_END (R280). A fade reaches its end tick and the level becomes the target. -/
  | fadeEnd (k : Nat)
  /-- FRAME_START (R284). A matrix frame starts, applying pending swaps and configuration. -/
  | frameStart (p : Nat)
  /-- SWAP_COPY_DONE (R290). The copy after a swap completes and port writes resume. -/
  | swapCopyDone (p : Nat)
  /-- LSYNC_EDGE (R284). A filtered rising LSYNC edge starts or holds a frame. -/
  | lsyncEdge (t : Nat)
  /-- LSYNC_LOSS (R284). No LSYNC edge for 100 ms makes the port free-run and sets LSYNC_LOST. -/
  | lsyncLoss (p : Nat)
  /-- ROW_OVERCURRENT (R291). A row above its threshold for 1 µs turns off, latching after 8 frames. -/
  | rowOvercurrent (t : Nat) (p : Nat) (r : Nat)
  /-- COLUMN_OPEN (R291). A column open in 16 consecutive frames sets its OPEN bit. -/
  | columnOpen (t : Nat) (p : Nat) (c : Nat)
  /-- COLUMN_SHORT (R291). A column short for 2 µs turns off, latching after 8 frames. -/
  | columnShort (t : Nat) (p : Nat) (c : Nat)
  /-- WHORL_END (R296). Whorl END: the engine goes IDLE. -/
  | whorlEnd (t : Nat) (e : Nat)
  /-- WHORL_SET (R296). Whorl SET writes a level to a skein or region. -/
  | whorlSet (t : Nat) (e : Nat)
  /-- WHORL_SETR (R296). Whorl SETR writes LVr to a skein or region. -/
  | whorlSetr (t : Nat) (e : Nat)
  /-- WHORL_FADE (R296). Whorl FADE starts a fade of a skein to LVr. -/
  | whorlFade (t : Nat) (e : Nat)
  /-- WHORL_LDI (R296). Whorl LDI loads a level variable. -/
  | whorlLdi (t : Nat) (e : Nat)
  /-- WHORL_ADDI (R296). Whorl ADDI adds to a level variable with saturation. -/
  | whorlAddi (t : Nat) (e : Nat)
  /-- WHORL_WAIT (R295). Whorl WAIT advances T and waits for it. -/
  | whorlWait (t : Nat) (e : Nat)
  /-- WHORL_WAITR (R295). Whorl WAITR advances T by LVr and waits. -/
  | whorlWaitr (t : Nat) (e : Nat)
  /-- WHORL_SYNC (R295). Whorl SYNC aligns T to a multiple of device time and waits. -/
  | whorlSync (t : Nat) (e : Nat)
  /-- WHORL_WAIT_EXPIRY (R295). Device time reaches T and a waiting engine continues. -/
  | whorlWaitExpiry (e : Nat)
  /-- WHORL_LOOP (R296). Whorl LOOP decrements LVr and jumps while non-zero. -/
  | whorlLoop (t : Nat) (e : Nat)
  /-- WHORL_JMP (R296). Whorl JMP jumps to an address. -/
  | whorlJmp (t : Nat) (e : Nat)
  /-- WHORL_PIX (R296). Whorl PIX writes LVr to one back-buffer pixel. -/
  | whorlPix (t : Nat) (e : Nat)
  /-- WHORL_SHIFT (R296). Whorl SHIFT moves a region's back-buffer content one pixel. -/
  | whorlShift (t : Nat) (e : Nat)
  /-- WHORL_SWAP (R296). Whorl SWAP swaps a port and waits until it is in force. -/
  | whorlSwap (t : Nat) (e : Nat)
  /-- WHORL_EVT (R296). Whorl EVT raises LIGHT_STATUS with a code. -/
  | whorlEvt (t : Nat) (e : Nat)
  /-- WHORL_BAD_INSTR (R296). An undefined opcode stops the engine with reason BAD_INSTR. -/
  | whorlBadInstr (t : Nat) (e : Nat)
  /-- DEBOUNCED_CHANGE (R316). DEB_T agreeing samples change a pin's debounced state. -/
  | debouncedChange (t : Nat) (pins : List Nat)
  /-- FIO_EVENT_GAP_END (R318). EVT_GAP after the last event the gathered triggers are raised as FIO_CHANGE. -/
  | fioEventGapEnd
  /-- WETTING_BOOST_END (R313). 20 ms after a change to 1 the wetting current returns to 2 mA. -/
  | wettingBoostEnd (i : Nat)
  /-- OUTPUT_TRIP (R325). A field output above its trip threshold for 5 µs latches off and sets FAULT. -/
  | outputTrip (t : Nat) (i : Nat)
  /-- OUTPUT_THERMAL (R325). A field output's thermal shutdown latches it off and sets FAULT. -/
  | outputThermal (t : Nat) (i : Nat)
  /-- HALL_OVERCURRENT (R325). A HALL input above 25 mA for 10 µs sets FAULT and limits the sink. -/
  | hallOvercurrent (t : Nat) (i : Nat)
  /-- POLL (R328). Every POLL_T the P-die sinks and samples polled pins. -/
  | poll (states : Nat)
  /-- CAN_FRAME_VALID (R355). A received frame reaches its valid point and is filtered, verified and delivered. -/
  | canFrameValid (t : Nat) (sof : Nat) (k : Nat) (w0 : Word) (rtr : Bool) (brs : Bool) (esi : Bool) (af : Word) (xl : Word) (data : List Byte)
  /-- CAN_TX_SUCCESS (R351). A frame is sent without error up to EOF and leaves its queue. -/
  | canTxSuccess (t : Nat) (sof : Nat) (k : Nat) (src : Nat) (meas : Nat)
  /-- CAN_TX_ERROR (R350). A transmit attempt ends in error and the frame retransmits or fails. -/
  | canTxError (t : Nat) (k : Nat) (src : Nat) (lec : Nat) (data : Bool) (quiet : Bool)
  /-- ARBITRATION_LOSS (R348). A frame loses arbitration and stays at its queue head. -/
  | arbitrationLoss (t : Nat) (k : Nat) (src : Nat)
  /-- BOFF_DELAY_END (R345). With AUTO_REC, BOFF_DELAY expires and recovery starts. -/
  | boffDelayEnd (k : Nat)
  /-- RECOVERY_DONE (R345). 128 recessive sequences return a recovering controller to ACTIVE. -/
  | recoveryDone (t : Nat) (k : Nat)
  /-- INTEGRATION_DONE (R345). 11 recessive bits take an integrating controller to its mode's state. -/
  | integrationDone (t : Nat) (k : Nat)
  /-- RESTRICTED_ERROR (R345). An error in RESTRICTED returns the controller through INTEGRATING. -/
  | restrictedError (t : Nat) (k : Nat) (lec : Nat) (data : Bool)
  /-- TRIGGER_FIRE (R367). A trigger's cycle and offset arrive and its frame gets one attempt. -/
  | triggerFire (t : Nat) (i : Nat)
  /-- TRIGGER_MISS (R367). A trigger frame not started within WIN is counted as missed. -/
  | triggerMiss (i : Nat)
  /-- REFERENCE_MESSAGE (R366). A valid reference message restarts the cycle and corrects the offset. -/
  | referenceMessage (t : Nat) (sof : Nat) (k : Nat) (w0 : Word) (data : List Byte)
  /-- REFERENCE_SEND (R365). At a cycle start a master or active backup sends the reference message. -/
  | referenceSend (t : Nat) (sof : Nat)
  /-- NT_LOSS (R366). NMISS missed cycles clear SYNCED. -/
  | ntLoss
  /-- WAKE_UP_PATTERN (R384). A transceiver in STANDBY recognises a wake-up pattern. -/
  | wakeUpPattern (t : Nat) (n : Nat) (a : Nat) (b : Nat) (c : Nat)
  /-- WAKE_UP_FRAME (R385). A decoded frame matching the selective-wake filter wakes the transceiver. -/
  | wakeUpFrame (t : Nat) (n : Nat) (head : FrameHead) (dlc : Nat) (data : List Byte)
  /-- FEC_WAKE (R385). The frame error counter reaches 32 and the transceiver wakes. -/
  | fecWake (t : Nat) (n : Nat)
  /-- TXD_DOM_TIMEOUT (R382). TXD dominant too long releases the bus and sets TXD_DOM. -/
  | txdDomTimeout (t : Nat) (n : Nat)
  /-- TRX_THERMAL (R382). A transceiver's thermal shutdown turns its transmitter off or on. -/
  | trxThermal (t : Nat) (n : Nat) (on : Bool)
  /-- RING_FRAME_RX (R390). A ring frame is received, updating presence and possibly passing the token. -/
  | ringFrameRx (t : Nat) (sof : Nat) (k : Nat) (w0 : Word) (data : List Byte)
  /-- TOKEN_SEND (R390). T_TYP after receiving the token a member sends its ring or COMMIT frame. -/
  | tokenSend (c : Nat)
  /-- SUCCESSOR_TIMEOUT (R390). No successor frame within T_MAX removes it and re-sends the token. -/
  | successorTimeout (c : Nat)
  /-- PRESENCE_TIMEOUT (R389). No frame from an address for 4 × T_MAX removes it from presence. -/
  | presenceTimeout (c : Nat) (a : Nat)
  /-- REFORM_SEND (R390). A member that heard no ring frame for 4 × T_MAX sends REFORM. -/
  | reformSend (c : Nat)
  /-- RING_RESTART_FRAME (R392). A ring frame queued after WAKE or REFORM is sent at 2 ms + ADDR × 1 ms. -/
  | ringRestartFrame (c : Nat)
  /-- ALONE_DECLARE (R393). The device declares itself alone on a channel. -/
  | aloneDeclare (t : Nat) (c : Nat)
  /-- COMMIT_RX (R394). A COMMIT frame puts the channel in COMMIT from t_C. -/
  | commitRx (t : Nat) (sof : Nat) (k : Nat) (w0 : Word) (data : List Byte)
  /-- SILENCE_TICK (R394). At t_S the channel enters ASLEEP and the controller stops. -/
  | silenceTick (c : Nat)
  /-- NM_WAKE (R395). A need, transceiver wake or gateway wake arises on a channel. -/
  | nmWake (t : Nat) (c : Nat)
  /-- WAKE_QUIET_GAP (R395). After 2 ms of recessive bus a pending wake sends the WAKE frame. -/
  | wakeQuietGap (t : Nat) (c : Nat)
  /-- WAKE_FRAME_RX (R396). A WAKE frame abandons COMMIT and re-forms the ring. -/
  | wakeFrameRx (t : Nat) (sof : Nat) (k : Nat) (w0 : Word) (data : List Byte)
  /-- GW_DATAGRAM_RX (R405). A gateway UDP datagram is taken as frames of its Ethernet segment. -/
  | gwDatagramRx (t : Nat) (m : Nat) (peer : Nat) (data : List Byte)
  /-- GW_DATAGRAM_SEND (R405). A gateway datagram is sent within 100 µs of its first record. -/
  | gwDatagramSend (t : Nat) (m : Nat)
  /-- SEGMENT_ISOLATION (R406). A segment becomes isolated or released. -/
  | segmentIsolation (t : Nat) (g : Nat)
  /-- LOCKSTEP_MISMATCH (R435). A lockstep mismatch suppresses the request and freezes both cores. -/
  | lockstepMismatch (t : Nat)
  /-- CHECKER_SELF_TEST (R437). Every 1 ms the checker injects four faults and checks detection. -/
  | checkerSelfTest (miss : Nat)
  /-- DELAY_COPY_ERROR (R438). A delay-register copy disagreement or parity error freezes the cores. -/
  | delayCopyError (t : Nat)
  /-- WATCHDOG_EXPIRY (R440). No kick within WDOG_T reports SPINDLE_WDOG. -/
  | watchdogExpiry (c : Nat)
  /-- MEMORY_ERROR (R436). An ECC or parity error is corrected, refused or refetched. -/
  | memoryError (t : Nat) (kind : Nat) (addr : Nat) (access : Nat) (master : Nat) (core : Nat)
  /-- FAULT_REPORT (R445). The collector takes a fault report and decides, escalates and applies the reaction. -/
  | faultReport (t : Nat) (src : Nat) (inst : Nat) (detail : Nat) (addr : Nat) (access : Nat) (master : Nat)
  /-- ALV_TOGGLE (R457). At each 0.5 ms multiple ALV changes level or goes low. -/
  | alvToggle
  /-- ZEROISATION_STEP_DONE (R484). A zeroisation step completes, with the erasure ending in an empty store. -/
  | zeroisationStepDone (t : Nat)
  /-- KEY_STORE_READY (R483). After ADOPT_DONE the key store checks its banks and leaves LOCKED. -/
  | keyStoreReady (t : Nat) (a : Nat) (b : Nat)
  /-- KEY_BANK_VERIFIED (R481). A key store bank write verifies and becomes authoritative. -/
  | keyBankVerified (t : Nat) (ok : Bool)
  /-- TRNG_HEALTH_FAIL (R489). The TRNG health tests fail and random operations stop. -/
  | trngHealthFail (t : Nat)
  /-- TRNG_HEALTH_PASS (R489). The TRNG health tests pass again and held work resumes. -/
  | trngHealthPass (t : Nat)
  /-- CFG_BANK_VERIFIED (R530). A configuration bank write verifies or finally fails. -/
  | cfgBankVerified (t : Nat) (ok : Bool)
  /-- HANDOVER (R547). At the boundary after commit writes, the new image takes over. -/
  | handover (t : Nat)
  /-- HANDOVER_FAILURE (R548). A failed handover reverts by an L3 WARM restart into the fallback bank. -/
  | handoverFailure (t : Nat)
  /-- XI_MEASUREMENT (R557). The 100 µs measurement of XI selects the root source. -/
  | xiMeasurement (t : Nat) (outcome : Nat)
  /-- ROOT_FAILURE (R562). The reference monitor declares the root failed and the PLL coasts. -/
  | rootFailure (t : Nat)
  /-- AUTO_RC_SWITCH (R564). With AUTO_RC, 200,000 ticks into COAST the root switches to the RC. -/
  | autoRcSwitch
  /-- ROOT_SWITCH_LOCK (R565). The PLL relocks after a root switch and COAST clears. -/
  | rootSwitchLock (t : Nat) (forced : Bool)
  /-- PLL_LOCK_LOSS (R592). The PLL loses lock with its reference present. -/
  | pllLockLoss (t : Nat)
  /-- ABORT_POINT (R571). An entry phase ends at its abort point, which may abandon entry on a latched wake. -/
  | abortPoint (t : Nat)
  /-- ENTRY_PHASE_TIMEOUT (R571). An entry phase exceeds its limit and entry is abandoned. -/
  | entryPhaseTimeout
  /-- ENTRY_COMMIT (R573). After AP4 the device carries out entry into the target state. -/
  | entryCommit (t : Nat)
  /-- WAKE_LATCH (R574). An enabled wake source latches and starts restore. -/
  | wakeLatch (t : Nat) (src : Nat) (up : Bool)
  /-- DEEP_SLEEP_WAKE (R575). The squelch detector sees the P-die's K28.5 burst and starts the restore. -/
  | deepSleepWake (t : Nat)
  /-- RESTORE (R577). The restore sequence brings rails, clocks and firmware back to RUN. -/
  | restore (t : Nat) (miss : Nat) (bad : Nat)
  /-- RAIL_TIMEOUT (R578). A rail not within limits 5 ms after its request keeps the L-die in reset. -/
  | railTimeout (t : Nat) (rail : Nat)
  /-- RESTORE_RETRY (R578). The always-on domain repeats the restore every 100 ms. -/
  | restoreRetry (t : Nat)
  /-- REG_REQUEST_TIMEOUT (R581). A regulator request not acknowledged within 1 ms is repeated or fails. -/
  | regRequestTimeout (t : Nat) (status : Nat)
  /-- P_DIE_POWER_ON (R568). VBAT below 4.2 V for 5 µs resets the whole P-die. -/
  | pDiePowerOn (t : Nat)
  /-- P_DIE_POWER_ON_RELEASE (R594). The P-die leaves power-on reset and takes its fail-safe memory into force. -/
  | pDiePowerOnRelease (t : Nat)
  /-- L_DIE_POWER_ON (R568). First power or a rail dropout resets the whole L-die. -/
  | lDiePowerOn (t : Nat) (id : Nat) (split : Bool) (bootsel : Bool)
  /-- RSTN (R40). RSTN asserted resets the L-die only. -/
  | rstn (t : Nat) (ns : Nat) (id : Nat) (split : Bool) (bootsel : Bool)
  /-- L3_WARM (R447). The warm form of L3 resets the L-die except PLL, dividers and retention. -/
  | l3Warm (t : Nat)
  /-- L3_CHIP (R447). The chip form of L3 resets the L-die including clock and power manager. -/
  | l3Chip (t : Nat)
  /-- TRSTN (R568). TRSTN low resets the JTAG TAP only. -/
  | trstn (t : Nat)
  /-- FIRMWARE_STARTED (R597). The firmware has read its configuration and Weft training may begin. -/
  | firmwareStarted (t : Nat) (bad : Nat)
  /-- CHAIN_WAIT_TIMEOUT (R603). A cold non-zero device starts training 20 ms after firmware start without an ALIGNED heartbeat. -/
  | chainWaitTimeout
  /-- RECOVERY_START (R599). The recovery loader starts in place of the firmware. -/
  | recoveryStart (t : Nat) (bad : Nat)
  /-- ANCHOR_SLOT_START (R506). ANCnASYNC rises at the start of an anchor's ranging slot. -/
  | anchorSlotStart
  /-- REPORT_READ (R506). The device reads the anchor's REPORT for the slot. -/
  | reportRead (good : Bool) (pre : Option Nat) (answers : List TokAnswer)
  /-- SLOT_RESULT (R508). The slot result is decided from the checked token answers. -/
  | slotResult
  /-- MAC_LINK_CHANGE (R406). An Ethernet MAC link comes up or goes down, as SGMII auto-negotiation or the RGMII PHY reports, releasing or isolating its gateway segment. -/
  | macLinkChange (t : Nat) (m : Nat) (up : Bool) (fast : Bool)
  /-- CAN_RX_ERROR (R357). An error detected while a controller receives raises REC and may make the controller error-passive. -/
  | canRxError (t : Nat) (k : Nat) (lec : Nat) (data : Bool) (eight : Bool)
  /-- REG_REQUEST_ACKNOWLEDGED (R581). A regulator request is acknowledged when STATUS_WORD shows the requested rail condition. -/
  | regRequestAcknowledged (t : Nat) (status : Nat)
  /-- UNIT_GATE_CLOSED (R561). A pending CLK_GATE close takes effect once the unit's handshake is idle and its own condition is met. -/
  | unitGateClosed (t : Nat) (u : Nat)
  /-- RETRY_WINDOW_END (R210). The INRUSH_T retry window opened by a retry ends, and the steady TRIP threshold is in force again. -/
  | retryWindowEnd (k : Nat)
  /-- OTP_PROGRAM_DONE (R492). An OTP programming, the transport-root retirement or the anti-rollback raise, reads back programmed or fails after three attempts. -/
  | otpProgramDone (t : Nat) (ok : Bool)
  /-- UPDATE_WRITE_VERIFIED (R546). An MRAM operation of the update flow completes: the FALLBACK copy, a boot-record write, or the image re-read of UPDATE_VERIFY. -/
  | updateWriteVerified (t : Nat) (ok : Bool) (bad : Option Nat)
  deriving DecidableEq, Repr

end Sys2Proof
end

