-- ==== Sys2Proof/WellFormed.lean ====
section
/-! DEFINITION. Which commands are well formed: every field of a header fits its bits (R71), and every index names a piece of the
block that the spec gives it. -/

namespace Sys2Proof

/-- An IPv4 address and a UDP port fit their fields (R416). -/
def Peer.wf (p : Peer) : Bool := p.addr < 2 ^ 32 && p.udp < 2 ^ 16

/-- The header fields of a request fit their bits, and its payload has at most 1,024 bytes (R71). -/
def Req.wf (r : Req) : Bool :=
  r.slot < 4 && r.device < 4 && r.tag < 256 && r.seq < 2 ^ 32 && decide (r.payload.length ≤ 256) && r.peer.wf

/-- A heartbeat comes by a Ply port from a device of the chain (R36, R420). -/
def Beat.wf (h : Beat) : Bool := h.p < 2 && h.dev < 4

/-- The command is well formed. -/
def Instr.wf (c : Instr) : Bool :=
  match c with
  | .ping r => r.wf
  | .getInfo r => r.wf
  | .sessionOpen r => r.wf
  | .sessionClose r => r.wf
  | .subscribe r => r.wf
  | .getTime r => r.wf
  | .funcEnable r => r.wf
  | .readReg r => r.wf
  | .writeReg r => r.wf
  | .readBlock r => r.wf
  | .modifyReg r => r.wf
  | .writeBlock r => r.wf
  | .loadSet r => r.wf
  | .loadGet r => r.wf
  | .skeinDefine r => r.wf
  | .bridgeSet r => r.wf
  | .loadClearLatch r => r.wf
  | .loadSense r => r.wf
  | .failsafeSet r => r.wf
  | .fsMemoryVerified _ w _ => decide (w < 51)
  | .actProfileSet r => r.wf
  | .actFire r => r.wf
  | .actStop r => r.wf
  | .actStatus r => r.wf
  | .dimSet r => r.wf
  | .matrixWrite r => r.wf
  | .matrixSwap r => r.wf
  | .whorlLoad r => r.wf
  | .whorlRun r => r.wf
  | .whorlStop r => r.wf
  | .derateGet r => r.wf
  | .fioCfg r => r.wf
  | .fioRead r => r.wf
  | .fioWrite r => r.wf
  | .fioCountRead r => r.wf
  | .canCfg r => r.wf
  | .canTx r => r.wf
  | .canRxRead r => r.wf
  | .canFilterSet r => r.wf
  | .ntCfg r => r.wf
  | .nmSleepReq r => r.wf
  | .nmStatus r => r.wf
  | .gwRouteSet r => r.wf
  | .rangeStart r => r.wf
  | .rangeResult r => r.wf
  | .rangeZoneCfg r => r.wf
  | .lockoutClear r => r.wf
  | .immoCfg r => r.wf
  | .keyProvision r => r.wf
  | .keyDerive r => r.wf
  | .keyInvalidate r => r.wf
  | .transportRootRetire r => r.wf
  | .encrypt r => r.wf
  | .decrypt r => r.wf
  | .macGen r => r.wf
  | .macVer r => r.wf
  | .sha256 r => r.wf
  | .ecdsaVerify r => r.wf
  | .random r => r.wf
  | .keyInfo r => r.wf
  | .zeroise r => r.wf
  | .cfgWriteMerge r => r.wf
  | .cfgWriteStageNew r => r.wf
  | .cfgWriteStageAdd r => r.wf
  | .cfgWriteReplace r => r.wf
  | .cfgWriteLive r => r.wf
  | .cfgRead r => r.wf
  | .updateBegin r => r.wf
  | .updateBlock r => r.wf
  | .updateVerify r => r.wf
  | .updateCommit r => r.wf
  | .updateAbort r => r.wf
  | .updateConfirm r => r.wf
  | .recoveryUpdateCommit r => r.wf
  | .faultStatus r => r.wf
  | .faultAck r => r.wf
  | .faultCaptureRead r => r.wf
  | .faultReactionSet r => r.wf
  | .faultInject r => r.wf
  | .pwrStateReq r => r.wf
  | .clkStatus r => r.wf
  | .clkGate r => r.wf
  | .wakeCfg r => r.wf
  | .snapTake r => r.wf
  | .snapRead r => r.wf
  | .snapRelease r => r.wf
  | .counterRead r => r.wf
  | .loomPlacementGet r => r.wf
  | .loomRotateCfg r => r.wf
  | .loomPin r => r.wf
  | .loomChainCfg r => r.wf
  | .loomBudgetGet r => r.wf
  | .skeinCtlWrite k _ r => decide (k < 48) && r.wf
  | .loomSkeinRegWrite k _ _ r => decide (k < 48) && r.wf
  | .fioPinCfgWrite i _ r => decide (i < 80) && r.wf
  | .fioOutWrite n _ r => decide (n < 3) && r.wf
  | .whorlProgramWrite i _ r => decide (i < 1024) && r.wf
  | .routeEntryWrite e j _ r => decide (e < 2048) && decide (j < 4) && r.wf
  | .canTrigWrite i _ _ r => decide (i < 16) && r.wf
  | .canAuthWrite a j _ r => decide (a < 64) && decide (j < 4) && r.wf
  | .wdogKick _ c v => decide (c < 2) && decide (v < 256)
  | .retrain _ r => r.wf
  | .weftHoldWrite hold r => decide (hold < 1024) && r.wf
  | .coliWrite p q _ r => decide (p < 2) && decide (q < 12) && r.wf
  | .portFsWrite p _ r => decide (p < 2) && r.wf
  | .frameMemoryWrite i _ r => decide (i < 1536) && r.wf
  | .rootSelectWrite _ r => r.wf
  | .vcoreSetWrite _ r => r.wf
  | .fioFaultClear r => r.wf
  | .extTempWrite _ r => r.wf
  | .errcapRead k r => decide (k < 12) && r.wf
  | .genericRegWrite _ _ r => r.wf
  | .eodenRequest _ _ peer _ => peer.wf
  | .requestDispatch _ => true
  | .responseSent _ _ => true
  | .snapalignExpired => true
  | .snapshotLatch => true
  | .qspiSend _ _ _ => true
  | .qspiStatus _ => true
  | .qspiFetch _ => true
  | .udpDatagramRx _ m peer _ _ _ _ _ => decide (m < 2) && peer.wf
  | .arpRequest _ m _ _ => decide (m < 2)
  | .icmpEcho _ m _ _ => decide (m < 2)
  | .gptpSync _ m _ => decide (m < 2)
  | .gptpSyncLoss _ => true
  | .pdelayRequest _ m _ => decide (m < 2)
  | .announce _ m _ => decide (m < 2)
  | .plyTraining _ p _ => decide (p < 2)
  | .plyRetrain _ p => decide (p < 2)
  | .plyEodenPacket _ p _ _ => decide (p < 2)
  | .heartbeat h => h.wf
  | .heartbeatSend => true
  | .plyMark _ p set _ => decide (p < 2) && decide (set < 4)
  | .mirror _ dev k _ _ _ _ => decide (dev < 4) && decide (k < 48)
  | .mirrorSend _ => true
  | .credit _ p _ => decide (p < 2)
  | .plyLoss d => decide (d < 4)
  | .weftTraining _ _ => true
  | .trainingTimeout => true
  | .trainingRetry => true
  | .refresh _ slot _ => decide (slot < 200)
  | .setpoint _ k _ => decide (k < 48)
  | .config _ _ => true
  | .configEchoTimeout => true
  | .timeExchange _ _ => true
  | .ladderRelease _ n => decide (n < 96)
  | .adoptDone _ => true
  | .adoptionReadbackStart _ => true
  | .readback _ slot _ _ => decide (slot < 200)
  | .cellOut _ _ => true
  | .eventFrame _ _ => true
  | .idleFrame _ _ _ => true
  | .unackedResend _ _ => true
  | .linkSilence _ => true
  | .upLoss _ => true
  | .holdoverExpiry => true
  | .fsForce _ _ => true
  | .tripDecision _ n _ => decide (n < 96)
  | .classificationClose k => decide (k < 48)
  | .limitTimeout _ n _ => decide (n < 96)
  | .thermalShutdown _ n => decide (n < 96)
  | .thermalRelease _ n => decide (n < 96)
  | .clampPulseEnd _ n _ => decide (n < 96)
  | .gateStuck _ n => decide (n < 96)
  | .pumpLow _ n => decide (n < 12)
  | .pumpRecovered _ n => decide (n < 12)
  | .ladderPauseEnd n => decide (n < 96)
  | .ladderMgmtPauseEnd n => decide (n < 96)
  | .cleanRun _ n => decide (n < 96)
  | .droopSet _ b => decide (b < 12)
  | .droopClear _ b => decide (b < 12)
  | .droopSuspensionEnd b => decide (b < 12)
  | .offStateDiagFilter _ k _ _ => decide (k < 48)
  | .senseBad _ n _ => decide (n < 96)
  | .senseSelfTestDone _ => true
  | .mselChange _ code => decide (code < 16)
  | .tamperFlag _ => true
  | .fingerprintRecord _ k l v => decide (k < 48) && decide (l.length = 64) && decide (v.length = 64)
  | .inrushEnd k => decide (k < 48)
  | .gateOffReported _ k => decide (k < 48)
  | .deadtimeEnd k => decide (k < 48)
  | .brakePhaseEnd k => decide (k < 48)
  | .handoverLeave k => decide (k < 48)
  | .managementTick _ _ => true
  | .rotationDue k => decide (k < 48)
  | .shedLift => true
  | .giveback _ j => decide (j < 16)
  | .roleSwap _ j => decide (j < 16)
  | .quietPeriodEnd c => decide (c < 5)
  | .extTempStale => true
  | .integrationTimeout k => decide (k < 12)
  | .updateInactivity => true
  | .trialExpiry => true
  | .lockoutEnd => true
  | .peakEnd a _ => decide (a < 16)
  | .holdEnd a => decide (a < 16)
  | .releaseEnd a => decide (a < 16)
  | .chopThreshold _ a _ _ => decide (a < 16)
  | .chopOffEnd a => decide (a < 16)
  | .fadeStep k => decide (k < 48)
  | .fadeEnd k => decide (k < 48)
  | .frameStart p => decide (p < 2)
  | .swapCopyDone p => decide (p < 2)
  | .lsyncEdge _ => true
  | .lsyncLoss p => decide (p < 2)
  | .rowOvercurrent _ p r => decide (p < 2) && decide (r < 16)
  | .columnOpen _ p c => decide (p < 2) && decide (c < 48)
  | .columnShort _ p c => decide (p < 2) && decide (c < 48)
  | .whorlEnd _ e => decide (e < 16)
  | .whorlSet _ e => decide (e < 16)
  | .whorlSetr _ e => decide (e < 16)
  | .whorlFade _ e => decide (e < 16)
  | .whorlLdi _ e => decide (e < 16)
  | .whorlAddi _ e => decide (e < 16)
  | .whorlWait _ e => decide (e < 16)
  | .whorlWaitr _ e => decide (e < 16)
  | .whorlSync _ e => decide (e < 16)
  | .whorlWaitExpiry e => decide (e < 16)
  | .whorlLoop _ e => decide (e < 16)
  | .whorlJmp _ e => decide (e < 16)
  | .whorlPix _ e => decide (e < 16)
  | .whorlShift _ e => decide (e < 16)
  | .whorlSwap _ e => decide (e < 16)
  | .whorlEvt _ e => decide (e < 16)
  | .whorlBadInstr _ e => decide (e < 16)
  | .debouncedChange _ _ => true
  | .fioEventGapEnd => true
  | .wettingBoostEnd i => decide (i < 80)
  | .outputTrip _ i => decide (i < 80)
  | .outputThermal _ i => decide (i < 80)
  | .hallOvercurrent _ i => decide (i < 80)
  | .poll _ => true
  | .canFrameValid _ _ k _ _ _ _ _ _ _ => decide (k < 12)
  | .canTxSuccess _ _ k _ _ => decide (k < 12)
  | .canTxError _ k _ _ _ _ => decide (k < 12)
  | .arbitrationLoss _ k _ => decide (k < 12)
  | .boffDelayEnd k => decide (k < 12)
  | .recoveryDone _ k => decide (k < 12)
  | .integrationDone _ k => decide (k < 12)
  | .restrictedError _ k _ _ => decide (k < 12)
  | .triggerFire _ i => decide (i < 16)
  | .triggerMiss i => decide (i < 16)
  | .referenceMessage _ _ k _ _ => decide (k < 12)
  | .referenceSend _ _ => true
  | .ntLoss => true
  | .wakeUpPattern _ n _ _ _ => decide (n < 6)
  | .wakeUpFrame _ n _ _ _ => decide (n < 6)
  | .fecWake _ n => decide (n < 6)
  | .txdDomTimeout _ n => decide (n < 6)
  | .trxThermal _ n _ => decide (n < 6)
  | .ringFrameRx _ _ k _ _ => decide (k < 12)
  | .tokenSend c => decide (c < 12)
  | .successorTimeout c => decide (c < 12)
  | .presenceTimeout c _ => decide (c < 12)
  | .reformSend c => decide (c < 12)
  | .ringRestartFrame c => decide (c < 12)
  | .aloneDeclare _ c => decide (c < 12)
  | .commitRx _ _ k _ _ => decide (k < 12)
  | .silenceTick c => decide (c < 12)
  | .nmWake _ c => decide (c < 12)
  | .wakeQuietGap _ c => decide (c < 12)
  | .wakeFrameRx _ _ k _ _ => decide (k < 12)
  | .gwDatagramRx _ m _ _ => decide (m < 2)
  | .gwDatagramSend _ m => decide (m < 2)
  | .segmentIsolation _ g => decide (g < 14)
  | .lockstepMismatch _ => true
  | .checkerSelfTest _ => true
  | .delayCopyError _ => true
  | .watchdogExpiry c => decide (c < 2)
  | .memoryError _ _ _ _ _ _ => true
  | .faultReport _ _ _ _ _ _ _ => true
  | .alvToggle => true
  | .zeroisationStepDone _ => true
  | .keyStoreReady _ _ _ => true
  | .keyBankVerified _ _ => true
  | .trngHealthFail _ => true
  | .trngHealthPass _ => true
  | .cfgBankVerified _ _ => true
  | .handover _ => true
  | .handoverFailure _ => true
  | .xiMeasurement _ _ => true
  | .rootFailure _ => true
  | .autoRcSwitch => true
  | .rootSwitchLock _ _ => true
  | .pllLockLoss _ => true
  | .abortPoint _ => true
  | .entryPhaseTimeout => true
  | .entryCommit _ => true
  | .wakeLatch _ src _ => decide (src < 14)
  | .deepSleepWake _ => true
  | .restore _ _ _ => true
  | .railTimeout _ rail => decide (rail < 3)
  | .restoreRetry _ => true
  | .regRequestTimeout _ _ => true
  | .pDiePowerOn _ => true
  | .pDiePowerOnRelease _ => true
  | .lDiePowerOn _ id _ _ => decide (id < 4)
  | .rstn _ _ id _ _ => decide (id < 4)
  | .l3Warm _ => true
  | .l3Chip _ => true
  | .trstn _ => true
  | .firmwareStarted _ _ => true
  | .chainWaitTimeout => true
  | .recoveryStart _ _ => true
  | .anchorSlotStart => true
  | .reportRead _ _ _ => true
  | .slotResult => true
  | .macLinkChange _ m _ _ => decide (m < 2)
  | .canRxError _ k _ _ _ => decide (k < 12)
  | .regRequestAcknowledged _ _ => true
  | .unitGateClosed _ u => decide (u < 17)
  | .retryWindowEnd k => decide (k < 48)
  | .otpProgramDone _ _ => true
  | .updateWriteVerified _ _ _ => true

/-- The command is well formed, as a proposition. -/
def WellFormed (c : Instr) : Prop := c.wf = true

end Sys2Proof
end

