-- ==== Sys2Proof/Decode.lean ====
section
/-! DEFINITION. The command that a word of spec/opcode_table.json spells. The table gives its rows no bits, so no word spells a
command: the commands of this block are events and requests, not words of a program. -/

namespace Sys2Proof

/-- The command that a word of nbits bits spells: none, since the table gives no row any bits. -/
def decodeTableWord (_nbits _w : Nat) : Option Instr := none

end Sys2Proof
end

