-- ==== Sys2Proof/Machine/Bits.lean ====
section
/-! DEFINITION. Bit fields of words, little-endian bytes (R68), signed fields, the accessors of the
fixed-size arrays of State, and the sorted sparse tables (counters, memories) in their one canonical
form. -/

namespace Sys2Proof.Machine

/-- The field [hi:lo] of a word, as a number. -/
def fld (hi lo : Nat) (w : Word) : Nat := (w.toNat >>> lo) % 2 ^ (hi + 1 - lo)

/-- Bit i of a word. -/
def bit (i : Nat) (w : Word) : Bool := w.getLsbD i

/-- The mask of the bits [hi:lo]. -/
def fldMask (hi lo : Nat) : Word := word ((2 ^ (hi + 1 - lo) - 1) <<< lo)

/-- The word with the field [hi:lo] replaced by v (modulo the field's width). -/
def setFld (hi lo v : Nat) (w : Word) : Word :=
  (w &&& ~~~ fldMask hi lo) ||| (word (v <<< lo) &&& fldMask hi lo)

/-- 1 for true, 0 for false. -/
def b2n (b : Bool) : Nat := if b then 1 else 0

/-- A word made of (lowest bit, value) pairs. -/
def pack : List (Nat × Nat) → Word
  | [] => 0
  | (lo, v) :: rest => word (v <<< lo) ||| pack rest

/-- A w-bit field read as a two's-complement number. -/
def signed (w n : Nat) : Int :=
  if n % 2 ^ w < 2 ^ (w - 1) then (n % 2 ^ w : Nat) else ((n % 2 ^ w : Nat) : Int) - (2 ^ w : Nat)

/-- A number as a w-bit two's-complement field. -/
def unsigned (w : Nat) (i : Int) : Nat := (i % ((2 ^ w : Nat) : Int)).toNat

/-- A number confined to [lo, hi]. -/
def clampNat (lo hi n : Nat) : Nat := max lo (min hi n)

/-- The quotient rounded up; 0 for a zero divisor. -/
def ceilDiv (a b : Nat) : Nat := if b = 0 then 0 else (a + b - 1) / b

/-- The words whose set bits are the members of a list, as one number. -/
def bitsOf (l : List Nat) : Nat := l.foldl (fun acc i => acc ||| (1 <<< i)) 0

/-- The indices below n whose bit is set. -/
def bitList (n m : Nat) : List Nat := (List.range n).filter (fun i => m.testBit i)

/-- Bit i of a set of bits given a value. -/
def setPin (set i : Nat) (v : Bool) : Nat := if v then set ||| 1 <<< i else set - (set &&& 1 <<< i)

/-- The number of set bits among the lowest n. -/
def popCount (n m : Nat) : Nat := (bitList n m).length

/-! ### Arrays of fixed size -/

/-- Entry i of an array, the type's default outside it. -/
def nth {α : Type} {n : Nat} [Inhabited α] (v : Vector α n) (i : Nat) : α := v[i]?.getD default

/-- The array with entry i replaced; unchanged where there is no entry i. -/
def put {α : Type} {n : Nat} (v : Vector α n) (i : Nat) (x : α) : Vector α n := v.setIfInBounds i x

/-- The array with entry i changed by f. -/
def upd {α : Type} {n : Nat} [Inhabited α] (v : Vector α n) (i : Nat) (f : α → α) : Vector α n :=
  put v i (f (nth v i))

/-- Entry i of a list of numbers, 0 outside it. -/
def at0 (l : List Nat) (i : Nat) : Nat := l.getD i 0

/-- Word i of a payload, 0 outside it. -/
def wordAt (l : List Word) (i : Nat) : Word := l.getD i 0

/-! ### Bytes -/

/-- The low n bytes of a number, least significant first (R68). -/
def bytesLE : Nat → Nat → List Byte
  | 0, _ => []
  | n + 1, v => BitVec.ofNat 8 v :: bytesLE n (v / 256)

/-- The number of a little-endian byte list (R68). -/
def natLE : List Byte → Nat
  | [] => 0
  | b :: rest => b.toNat + 256 * natLE rest

/-- The low n bytes of a number, most significant first. -/
def bytesBE (n v : Nat) : List Byte := (bytesLE n v).reverse

/-- The number of a big-endian byte list. -/
def natBE (l : List Byte) : Nat := natLE l.reverse

/-- The bytes of a payload, each word little-endian (R68). -/
def wordsToBytes : List Word → List Byte
  | [] => []
  | w :: rest => bytesLE 4 w.toNat ++ wordsToBytes rest

/-- The words of n × 4 bytes, each word little-endian (R68). -/
def bytesToWords : Nat → List Byte → List Word
  | 0, _ => []
  | n + 1, l => word (natLE (l.take 4)) :: bytesToWords n (l.drop 4)

/-- A number of n bytes as words, low word first. -/
def natToWords : Nat → Nat → List Word
  | 0, _ => []
  | n + 1, v => word v :: natToWords n (v / 2 ^ 32)

/-- The number of a word list, low word first. -/
def wordsToNat : List Word → Nat
  | [] => 0
  | w :: rest => w.toNat + 2 ^ 32 * wordsToNat rest

/-- The characters of an ASCII label. -/
def ascii (s : String) : List Byte := s.toList.map (fun c => BitVec.ofNat 8 c.toNat)

/-! ### Sparse tables of numbers

A table is a list of (key, value) pairs with keys strictly rising and no value 0; an unlisted key has
the value 0. Writing 0 removes the key, so equal tables are equal lists. -/

/-- A sparse table of numbers. -/
abbrev Table := List (Nat × Nat)

/-- The value of a key; 0 where it is not listed. -/
def Table.get : Table → Nat → Nat
  | [], _ => 0
  | (k, v) :: rest, i => if i = k then v else Table.get rest i

/-- The table with key i at value x, in canonical form. -/
def Table.set : Table → Nat → Nat → Table
  | [], i, x => if x = 0 then [] else [(i, x)]
  | (k, v) :: rest, i, x =>
    if i = k then (if x = 0 then rest else (k, x) :: rest)
    else if i < k then (if x = 0 then (k, v) :: rest else (i, x) :: (k, v) :: rest)
    else (k, v) :: Table.set rest i x

/-- The keys above b strictly rise and no listed value is 0. -/
def Table.wfFrom : Option Nat → Table → Bool
  | _, [] => true
  | b, (k, v) :: rest =>
    (match b with | none => true | some m => m < k) && v != 0 && Table.wfFrom (some k) rest

/-- The canonical form of a table. -/
def Table.wf (t : Table) : Bool := Table.wfFrom none t

/-- The table without the keys of [lo, hi). -/
def Table.clear (t : Table) (lo hi : Nat) : Table := t.filter (fun p => p.1 < lo || hi ≤ p.1)

/-- Key i raised by n, modulo 2^w. -/
def Table.add (t : Table) (w i n : Nat) : Table := t.set i ((t.get i + n) % 2 ^ w)

end Sys2Proof.Machine
end

