-- ==== Sys2Proof/Machine/Flags.lean ====
section
/-! DEFINITION. Register fields: how a write changes them by their access type (R7), which values of a field
are refused (R630), and how MODIFY_REG composes the value it writes (R102). -/

namespace Sys2Proof.Machine

/-- The access types of R7 that a write acts on; a bit in no field of a table is RO or reserved. -/
inductive Access where | rw | w1c
  deriving DecidableEq, Repr, Inhabited

/-- A field of a register: its bits [hi:lo], its access type, and the values its description allows, with
bounds that include both ends (R630). -/
structure Field where
  hi : Nat
  lo : Nat
  acc : Access := .rw
  min : Nat := 0
  max : Nat := 2 ^ 32
  deriving DecidableEq, Repr, Inhabited

/-- One field after a write of new over old: an RW field takes the value if it lies in the field's range and
keeps the old one if not; a W1C field is cleared where a 1 is written (R7, R8, R630). -/
def writeField (f : Field) (new : Word) (w : Word) : Word :=
  let v := fld f.hi f.lo new
  match f.acc with
  | .rw => if f.min ≤ v ∧ v ≤ f.max then setFld f.hi f.lo v w else w
  | .w1c => w &&& ~~~ (new &&& fldMask f.hi f.lo)

/-- A register after a write: every field by writeField, every other bit as it was (R7, R8). -/
def writeFields (fs : List Field) (old new : Word) : Word :=
  fs.foldl (fun w f => writeField f new w) old

/-- The W1C bits of a register table, as a mask. -/
def w1cMask (fs : List Field) : Word :=
  fs.foldl (fun m f => if f.acc == .w1c then m ||| fldMask f.hi f.lo else m) 0

/-- The word that MODIFY_REG writes: old bits outside the mask, the value's inside it, and in W1C fields the
value's bits inside the mask only (R102). -/
def modifyValue (w1c old mask value : Word) : Word :=
  (((old &&& ~~~ mask) ||| (value &&& mask)) &&& ~~~ w1c) ||| (value &&& mask &&& w1c)

/-- A plain RW field with no range. -/
abbrev rw (hi lo : Nat) : Field := { hi := hi, lo := lo }
/-- An RW field with a range. -/
abbrev rwIn (hi lo mn mx : Nat) : Field := { hi := hi, lo := lo, min := mn, max := mx }
/-- A W1C field. -/
abbrev w1c (hi lo : Nat) : Field := { hi := hi, lo := lo, acc := .w1c }

end Sys2Proof.Machine
end

