-- ==== Sys2Proof/Config.lean ====
section
/-! DEFINITION. What one device fixes for its life (fuses programmed at manufacture) and the free values: a
free value has no body, so no proof can see what it is, and every claim holds whatever it is. -/

namespace Sys2Proof

/-- The n-th free word that a step takes where the spec leaves a value open (log entry 2). -/
opaque Config.freeWord : Nat → Word

/-- The n-th free byte: nonces, random bytes and key material that the TRNG gives (R90, R489, R493). -/
opaque Config.freeByte : Nat → Byte

/-- DEVICE_KEY, programmed into OTP at manufacture (R468). -/
opaque Config.deviceKey : BitVec 256

/-- The update public key held in OTP, as the point (x, y) of P-256 (R29, R542). -/
opaque Config.updateKey : BitVec 256 × BitVec 256

/-- The 64-bit unique identifier of the device (R470). -/
opaque Config.uid : BitVec 64

/-- The MAC addresses held in OTP, bytes 0–3 and 4–5 (R431). -/
opaque Config.macAddr : Nat → Word × Word

/-- A block written to MRAM by UPDATE_BLOCK verifies within three writes, indexed by the count of free values (R543). -/
opaque Config.blockWritten : Nat → Bool

/-- A selective-wake configuration that cannot be used: NMGW_TRXn_CFG, _WID, _WMASK and _DMASK (R386). -/
opaque Config.swUnusable : Word → Word → Word → Word → Word → Bool

end Sys2Proof
end

