-- ==== Sys2Proof/Machine/Crypto.lean ====
section
/-! DEFINITION. The published algorithms that the spec names: CRC-32C with the parameters of R69, CRC-8,
AES-128/256 and CMAC (R70), the SP 800-108 counter-mode KDF (R90), the ECB, CBC, CTR and GCM modes and
SHA-256 (R493), RFC 3394 key unwrapping (R490) and ECDSA on P-256 (R493, R542). The spec names them and
gives their parameters; the algorithms themselves are those of the standards (PRESUMED, log entry 12). -/

namespace Sys2Proof.Machine

/-! ### Cyclic redundancy checks -/

/-- One bit step of the reflected CRC-32C register, polynomial 0x1EDC_6F41 reflected (R69). -/
def crc32cBit (c : BitVec 32) : BitVec 32 :=
  if c.getLsbD 0 then (c >>> 1) ^^^ 0x82F63B78#32 else c >>> 1

/-- One byte through the CRC-32C register (R69). -/
def crc32cByte (c : BitVec 32) (b : Byte) : BitVec 32 :=
  (List.range 8).foldl (fun c _ => crc32cBit c) (c ^^^ b.setWidth 32)

/-- The CRC-32C of a byte string: initial value and final exclusive-or all ones (R69). -/
def crc32c (l : List Byte) : BitVec 32 := l.foldl crc32cByte 0xFFFFFFFF#32 ^^^ 0xFFFFFFFF#32

/-! ### AES -/

/-- Multiplication by x in the field of AES. -/
def gfDouble (a : Byte) : Byte := if a.getLsbD 7 then (a <<< 1) ^^^ 0x1B#8 else a <<< 1

/-- Multiplication in the field of AES, over the bits 0 to n-1 of b. -/
def gfMulBits : Nat → Byte → Byte → Byte
  | 0, _, _ => 0
  | n + 1, a, b => (if b.getLsbD 0 then a else 0) ^^^ gfMulBits n (gfDouble a) (b >>> 1)

/-- The S-box of AES in rows of 16 bytes, the first byte of a row the most significant (FIPS 197). -/
def sboxRows : List Nat :=
  [ 0x637c777bf26b6fc53001672bfed7ab76, 0xca82c97dfa5947f0add4a2af9ca472c0, 0xb7fd9326363ff7cc34a5e5f171d83115,
    0x04c723c31896059a071280e2eb27b275, 0x09832c1a1b6e5aa0523bd6b329e32f84, 0x53d100ed20fcb15b6acbbe394a4c58cf,
    0xd0efaafb434d338545f9027f503c9fa8, 0x51a3408f929d38f5bcb6da2110fff3d2, 0xcd0c13ec5f974417c4a77e3d645d1973,
    0x60814fdc222a908846eeb814de5e0bdb, 0xe0323a0a4906245cc2d3ac629195e479, 0xe7c8376d8dd54ea96c56f4ea657aae08,
    0xba78252e1ca6b4c6e8dd741f4bbd8b8a, 0x703eb5664803f60e613557b986c11d9e, 0xe1f8981169d98e949b1e87e9ce5528df,
    0x8ca1890dbfe6426841992d0fb054bb16 ]

/-- The inverse S-box, in the same form. -/
def invSboxRows : List Nat :=
  [ 0x52096ad53036a538bf40a39e81f3d7fb, 0x7ce339829b2fff87348e4344c4dee9cb, 0x547b9432a6c2233dee4c950b42fac34e,
    0x082ea16628d924b2765ba2496d8bd125, 0x72f8f66486689816d4a45ccc5d65b692, 0x6c704850fdedb9da5e154657a78d9d84,
    0x90d8ab008cbcd30af7e45805b8b34506, 0xd02c1e8fca3f0f02c1afbd0301138a6b, 0x3a9111414f67dcea97f2cfcef0b4e673,
    0x96ac7422e7ad3585e2f937e81c75df6e, 0x47f11a711d29c5896fb7620eaa18be1b, 0xfc563e4bc6d279209adbc0fe78cd5af4,
    0x1fdda8338807c731b11210592780ec5f, 0x60517fa919b54a0d2de57a9f93c99cef, 0xa0e03b4dae2af5b0c8ebbb3c83539961,
    0x172b047eba77d626e169146355210c7d ]

/-- Byte a of a table of 16 rows. -/
def tableByte (rows : List Nat) (a : Byte) : Byte :=
  BitVec.ofNat 8 (rows.getD (a.toNat / 16) 0 >>> (8 * (15 - a.toNat % 16)))

/-- The AES substitution of one byte. -/
def aesSub (a : Byte) : Byte := tableByte sboxRows a

/-- The inverse AES substitution of one byte. -/
def aesInvSub (a : Byte) : Byte := tableByte invSboxRows a

/-- Byte-wise exclusive-or, of the shorter length. -/
def xorBytes (a b : List Byte) : List Byte := List.zipWith (fun x y => x ^^^ y) a b

/-- Byte i of a list, 0 outside it. -/
def byteAt (l : List Byte) (i : Nat) : Byte := l.getD i 0

/-- The row shift of AES, the state held column by column. -/
def shiftRows (s : List Byte) : List Byte :=
  (List.range 16).map (fun i => byteAt s ((i + 4 * (i % 4)) % 16))

/-- The inverse row shift. -/
def invShiftRows (s : List Byte) : List Byte :=
  (List.range 16).map (fun i => byteAt s ((i + 12 * (i % 4)) % 16))

/-- One output byte of a column mix with the coefficients c0 to c3, each below 16. -/
def mixByte (c : List Byte) (s : List Byte) (i : Nat) : Byte :=
  (List.range 4).foldl
    (fun acc j => acc ^^^ gfMulBits 4 (byteAt s (i / 4 * 4 + j)) (byteAt c ((j + 4 - i % 4) % 4))) 0

/-- The column mix of AES. -/
def mixColumns (s : List Byte) : List Byte := (List.range 16).map (mixByte [2, 3, 1, 1] s)

/-- The inverse column mix. -/
def invMixColumns (s : List Byte) : List Byte := (List.range 16).map (mixByte [14, 11, 13, 9] s)

/-- The round constant of round i. -/
def rcon : Nat → Byte
  | 0 => 1
  | n + 1 => gfDouble (rcon n)

/-- Key expansion: the words built so far, newest first; nk is the key's length in words. -/
def expandKey (nk : Nat) : Nat → List (List Byte) → List (List Byte)
  | 0, ws => ws
  | n + 1, ws =>
    let i := ws.length
    let t := ws.headD []
    let t := if i % nk = 0 then
        xorBytes ((t.drop 1 ++ t.take 1).map aesSub) [rcon (i / nk - 1), 0, 0, 0]
      else if nk = 8 && i % nk = 4 then t.map aesSub else t
    expandKey nk n (xorBytes (ws.getD (nk - 1) []) t :: ws)

/-- A list cut into pieces of k, at most n of them. -/
def chunks (k : Nat) : Nat → List Byte → List (List Byte)
  | 0, _ => []
  | n + 1, l => if l.isEmpty then [] else l.take k :: chunks k n (l.drop k)

/-- The round keys of a 16-byte or 32-byte key. -/
def roundKeys (key : List Byte) : List (List Byte) :=
  let nk := key.length / 4
  let ws := (expandKey nk (4 * (nk + 7) - nk) (chunks 4 nk key).reverse).reverse
  chunks 16 (nk + 7) ws.flatten

/-- The middle rounds of encryption. -/
def aesRounds : List (List Byte) → List Byte → List Byte
  | [], s => s
  | [k], s => xorBytes (shiftRows (s.map aesSub)) k
  | k :: ks, s => aesRounds ks (xorBytes (mixColumns (shiftRows (s.map aesSub))) k)

/-- AES encryption of one block under a 16-byte or 32-byte key. -/
def aesEnc (key block : List Byte) : List Byte :=
  match roundKeys key with
  | [] => block
  | k :: ks => aesRounds ks (xorBytes block k)

/-- The middle rounds of decryption, the round keys last first. -/
def aesInvRounds : List (List Byte) → List Byte → List Byte
  | [], s => s
  | [k], s => xorBytes ((invShiftRows s).map aesInvSub) k
  | k :: ks, s => aesInvRounds ks (invMixColumns (xorBytes ((invShiftRows s).map aesInvSub) k))

/-- AES decryption of one block. -/
def aesDec (key block : List Byte) : List Byte :=
  match (roundKeys key).reverse with
  | [] => block
  | k :: ks => aesInvRounds ks (xorBytes block k)

/-! ### CMAC and the key derivation function -/

/-- Doubling in GF(2^128) as CMAC uses it. -/
def cmacDouble (b : List Byte) : List Byte :=
  let n := natBE b
  bytesBE 16 (if n.testBit 127 then ((2 * n) % 2 ^ 128) ^^^ 0x87 else 2 * n)

/-- The blocks of a CMAC but the last, chained. -/
def cmacChain (key : List Byte) (k1 k2 : List Byte) : Nat → List Byte → List Byte → List Byte
  | 0, x, _ => x
  | n + 1, x, m =>
    if m.length ≤ 16 then
      if m.length = 16 then aesEnc key (xorBytes x (xorBytes m k1))
      else aesEnc key (xorBytes x (xorBytes (m ++ 0x80#8 :: List.replicate (15 - m.length) 0) k2))
    else cmacChain key k1 k2 n (aesEnc key (xorBytes x (m.take 16))) (m.drop 16)

/-- AES-CMAC, 16 bytes. -/
def cmac (key msg : List Byte) : List Byte :=
  let l := aesEnc key (List.replicate 16 0)
  let k1 := cmacDouble l
  cmacChain key k1 (cmacDouble k1) (msg.length / 16 + 1) (List.replicate 16 0) msg

/-- SP 800-108 counter mode with CMAC: block i is the CMAC of the one-byte counter from 1, the label, a zero byte, the
context and the output length in bits as two bytes, most significant first (R470). -/
def kdf (key label context : List Byte) (nbytes : Nat) : List Byte :=
  ((List.range ((nbytes + 15) / 16)).map (fun i =>
    cmac key (bytesBE 1 (i + 1) ++ label ++ 0#8 :: context ++ bytesBE 2 (8 * nbytes)))).flatten.take nbytes

/-! ### Block modes -/

/-- ECB over whole blocks. -/
def ecb (f : List Byte → List Byte) (m : List Byte) : List Byte :=
  ((chunks 16 (m.length / 16 + 1) m).map f).flatten

/-- CBC encryption over whole blocks. -/
def cbcEnc (key : List Byte) : Nat → List Byte → List Byte → List Byte
  | 0, _, _ => []
  | n + 1, iv, m =>
    if m.isEmpty then [] else
    let c := aesEnc key (xorBytes iv (m.take 16))
    c ++ cbcEnc key n c (m.drop 16)

/-- CBC decryption over whole blocks. -/
def cbcDec (key : List Byte) : Nat → List Byte → List Byte → List Byte
  | 0, _, _ => []
  | n + 1, iv, m =>
    if m.isEmpty then [] else
    xorBytes iv (aesDec key (m.take 16)) ++ cbcDec key n (m.take 16) (m.drop 16)

/-- Counter mode: the counter is the low w bits of the block, big-endian. -/
def ctrMode (key : List Byte) (w : Nat) : Nat → Nat → List Byte → List Byte
  | 0, _, _ => []
  | n + 1, ctr, m =>
    if m.isEmpty then [] else
    xorBytes (m.take 16) (aesEnc key (bytesBE 16 ctr)) ++
      ctrMode key w n (ctr / 2 ^ w * 2 ^ w + (ctr + 1) % 2 ^ w) (m.drop 16)

/-- Multiplication in the field of GCM, over the bits from 127 - n down. -/
def ghashMulBits : Nat → Nat → Nat → Nat → Nat
  | 0, _, _, z => z
  | n + 1, x, v, z =>
    ghashMulBits n x (if v.testBit 0 then (v / 2) ^^^ (0xE1 <<< 120) else v / 2)
      (if x.testBit n then z ^^^ v else z)

/-- GHASH of whole blocks. -/
def ghash (h : Nat) (m : List Byte) : Nat :=
  (chunks 16 (m.length / 16 + 1) m).foldl (fun y b => ghashMulBits 128 (y ^^^ natBE b) h 0) 0

/-- A byte string filled with zeros to whole blocks. -/
def padBlock (m : List Byte) : List Byte := m ++ List.replicate ((16 - m.length % 16) % 16) 0

/-- The 16-byte GCM tag of a ciphertext, under a 12-byte nonce. -/
def gcmTag (key nonce aad ct : List Byte) : List Byte :=
  let h := natBE (aesEnc key (List.replicate 16 0))
  let s := ghash h (padBlock aad ++ padBlock ct ++ bytesBE 8 (8 * aad.length) ++ bytesBE 8 (8 * ct.length))
  xorBytes (bytesBE 16 s) (aesEnc key (nonce ++ [0, 0, 0, 1]))

/-- The GCM keystream applied to a text, under a 12-byte nonce. -/
def gcmCtr (key nonce m : List Byte) : List Byte :=
  ctrMode key 32 (m.length / 16 + 1) (natBE (nonce ++ [0, 0, 0, 2])) m

/-! ### SHA-256 -/

/-- The greatest x below 2^n with x^e at most m, its bits found from the highest down; a is the part found. -/
def rootBits (e m : Nat) : Nat → Nat → Nat
  | 0, a => a
  | n + 1, a => rootBits e m n (if (a + 2 ^ n) ^ e ≤ m then a + 2 ^ n else a)

/-- Is p a prime? -/
def primeNat (p : Nat) : Bool := 2 ≤ p && (List.range p).all (fun d => d < 2 || p % d != 0)

/-- The first 32 bits of the fraction of the e-th root of p, p below 1,000. -/
def rootFraction (e p : Nat) : BitVec 32 := BitVec.ofNat 32 (rootBits e (p * 2 ^ (32 * e)) 42 0)

/-- The round constants of SHA-256, as the standard defines them: the fractions of the cube roots of the
first 64 primes, the primes below 312. -/
def sha256K : List (BitVec 32) := ((List.range 312).filter primeNat).map (rootFraction 3)

/-- The initial hash value of SHA-256: the fractions of the square roots of the first 8 primes. -/
def sha256Init : List (BitVec 32) := ((List.range 20).filter primeNat).map (rootFraction 2)

/-- The sums of SHA-256: three forms of a word added bit by bit, two of them rotations. -/
def rotSum (i j : Nat) (third x : BitVec 32) : BitVec 32 := third ^^^ x.rotateRight j ^^^ x.rotateRight i

/-- The message schedule, newest word first. -/
def sha256Sched : Nat → List (BitVec 32) → List (BitVec 32)
  | 0, ws => ws
  | n + 1, ws =>
    let w := fun back => ws.getD (back - 1) 0
    let small0 := rotSum 7 18 (w 15 >>> 3) (w 15)
    let small1 := rotSum 17 19 (w 2 >>> 10) (w 2)
    sha256Sched n ((small1 + w 7 + small0 + w 16) :: ws)

/-- One round of SHA-256. -/
def sha256Round (h : List (BitVec 32)) (kw : BitVec 32 × BitVec 32) : List (BitVec 32) :=
  let v := fun i => h.getD i 0
  let choice := v 6 ^^^ (v 4 &&& (v 5 ^^^ v 6))
  let majority := (v 0 &&& v 1) ^^^ (v 2 &&& (v 0 ^^^ v 1))
  let t := kw.1 + kw.2 + choice + rotSum 6 11 ((v 4).rotateRight 25) (v 4) + v 7
  let top := majority + rotSum 2 13 ((v 0).rotateRight 22) (v 0)
  (t + top) :: (h.take 7).set 3 (v 3 + t)

/-- The compression of one 64-byte block. -/
def sha256Block (h : List (BitVec 32)) (b : List Byte) : List (BitVec 32) :=
  let w0 := (chunks 4 16 b).map (fun x => BitVec.ofNat 32 (natBE x))
  let ws := (sha256Sched 48 w0.reverse).reverse
  List.zipWith (fun x y => x + y) h ((sha256K.zip ws).foldl sha256Round h)

/-- The blocks of a message folded into a hash value. -/
def sha256Fold (h : List (BitVec 32)) (m : List Byte) : List (BitVec 32) :=
  (chunks 64 (m.length / 64 + 1) m).foldl sha256Block h

/-- The final padding of a message of n bytes. -/
def sha256Pad (n : Nat) : List Byte :=
  0x80#8 :: List.replicate ((119 - n % 64) % 64) 0 ++ bytesBE 8 (8 * n)

/-- SHA-256 of a byte string, 32 bytes. -/
def sha256 (m : List Byte) : List Byte :=
  ((sha256Fold sha256Init (m ++ sha256Pad m.length)).map (fun x => bytesBE 4 x.toNat)).flatten

/-! ### ECDSA on P-256 -/

/-- The prime of P-256. -/
def p256p : Nat := 0xFFFFFFFF00000001000000000000000000000000FFFFFFFFFFFFFFFFFFFFFFFF
/-- The order of the base point of P-256. -/
def p256n : Nat := 0xFFFFFFFF00000000FFFFFFFFFFFFFFFFBCE6FAADA7179E84F3B9CAC2FC632551
/-- The coefficient b of P-256. -/
def p256b : Nat := 0x5AC635D8AA3A93E7B3EBBD55769886BC651D06B0CC53B0F63BCE3C3E27D2604B
/-- The base point of P-256. -/
def p256g : Nat × Nat :=
  (0x6B17D1F2E12C4247F8BCE6E563A440F277037D812DEB33A0F4A13945D898C296,
   0x4FE342E2FE1A7F9B8EE7EB4A7C0F9E162BCE33576B315ECECBB6406837BF51F5)

/-- Modular exponentiation over the n low bits of the exponent. -/
def powMod (m : Nat) : Nat → Nat → Nat → Nat
  | 0, _, _ => 1 % m
  | n + 1, b, e =>
    let r := powMod m n (b * b % m) (e / 2)
    if e % 2 = 1 then r * b % m else r

/-- The inverse modulo a prime. -/
def invMod (m a : Nat) : Nat := powMod m 256 (a % m) (m - 2)

/-- Addition of two points of P-256; none is the point at infinity. -/
def p256Add : Option (Nat × Nat) → Option (Nat × Nat) → Option (Nat × Nat)
  | none, q => q
  | q, none => q
  | some (x1, y1), some (x2, y2) =>
    let p := p256p
    if x1 = x2 && (y1 + y2) % p = 0 then none else
    let l := if x1 = x2 then (3 * x1 * x1 + (p - 3)) * invMod p (2 * y1) % p
      else (y2 + (p - y1)) * invMod p (x2 + (p - x1)) % p
    let x3 := (l * l + 2 * p - x1 - x2) % p
    some (x3, (l * (x1 + (p - x3)) + (p - y1)) % p)

/-- A multiple of a point, over the n low bits of the factor. -/
def p256Mul : Nat → Nat → Option (Nat × Nat) → Option (Nat × Nat)
  | 0, _, _ => none
  | n + 1, k, q =>
    let r := p256Mul n (k / 2) (p256Add q q)
    if k % 2 = 1 then p256Add r q else r

/-- The point (x, y) lies on P-256. -/
def p256On (x y : Nat) : Bool :=
  x < p256p && y < p256p && y * y % p256p == (x * x * x + (p256p - 3) * x + p256b) % p256p

/-- ECDSA verification of the signature (r, s) over a 32-byte digest by the public key (x, y). -/
def ecdsaVerify (digest : List Byte) (x y r s : Nat) : Bool :=
  p256On x y && 0 < r && r < p256n && 0 < s && s < p256n &&
    (let w := invMod p256n s
     match p256Add (p256Mul 256 (natBE digest * w % p256n) (some p256g))
       (p256Mul 256 (r * w % p256n) (some (x, y))) with
     | none => false
     | some (x1, _) => x1 % p256n == r)

end Sys2Proof.Machine
end

