-- ==== Sys2Proof/Machine/Parts/Can.lean ====
section
/-! DEFINITION. The state of the CAN controllers, of message authentication and of network time (chapter 11). -/

namespace Sys2Proof.Machine

/-- A CAN frame in a transmit queue or a trigger buffer (R356, R372). -/
structure CanFrame where
  /-- ID, IDE and format, as word 0 of R356 -/
  w0 : Word := 0
  rtr : Bool := false
  brs : Bool := false
  /-- CONF: success is reported -/
  conf : Bool := false
  /-- AF, and SDT, VCID, SEC of an XL frame -/
  af : Word := 0
  xl : Word := 0
  /-- the data field as sent, authentication bytes included -/
  data : List Byte := []
  handle : Nat := 0
  /-- device time at which it entered its queue (R348) -/
  entered : Nat := 0
  /-- attempts that ended in an error, and that every one of them was an ACK error (R350, R359) -/
  fails : Nat := 0
  onlyAck : Bool := true
  /-- LEC of the last attempt -/
  lec : Nat := 0
  deriving DecidableEq, Repr, Inhabited

/-- The states of a controller (R345). -/
inductive CanState where
  | stopped | integrating | active | restricted | monitor | busOff | recovering
  deriving DecidableEq, Repr, Inhabited

/-- An acceptance filter (R352). -/
structure CanFilter where
  id : Word := 0
  mask : Word := 0
  tgt : Word := 0
  deriving DecidableEq, Repr, Inhabited

/-- The seven configuration words of a controller (R371). -/
structure CanCfg where
  ctl : Word := 0
  nbt : Word := 0
  dbt : Word := 0
  xbt : Word := 0
  pwm : Word := 0
  tdc : Word := 0
  txcfg : Word := 0
  deriving DecidableEq, Repr, Inhabited

/-- A controller (R345 to R359, R378). -/
structure CanCtl where
  cfg : CanCfg := {}
  state : CanState := .stopped
  tec : Nat := 0
  rxErr : Nat := 0
  ackRun : Nat := 0
  alone : Bool := false
  errCap : Word := 0
  tdcv : Nat := 0
  tdcSat : Bool := false
  urgent : List CanFrame := []
  normal : List CanFrame := []
  /-- the next handle (R351) -/
  handle : Nat := 0
  filters : Vector CanFilter 64 := Vector.replicate 64 {}
  /-- the entries that stood before each change since the last valid frame, with its tick, oldest first: a frame whose SOF is no
  later than the change is filtered by them (R352) -/
  was : List (Nat × Vector CanFilter 64) := []
  /-- the live copy of each receive buffer, as the record of R356; empty where never written -/
  bufs : Vector (List Word) 32 := Vector.replicate 32 []
  bufNew : Nat := 0
  bufOvr : Nat := 0
  /-- the receive FIFO, oldest record first (R354) -/
  fifo : List (List Word) := []
  ovf : Bool := false
  /-- device time of the end of BOFF_DELAY (R345) -/
  boffEnd : Option Nat := none
  /-- a CAN_CFG is in progress, and the management tick of its time-out (R371) -/
  cfgPend : Bool := false
  cfgEnd : Option Nat := none
  /-- the management tick of the last CAN_OVERRUN report (R354) -/
  overrun : Option Nat := none
  /-- the tick of a stop or restart of a controller that ran, and the state it then had: a frame in progress at that tick still ends
  in that state (R345) -/
  tail : Option (Nat × CanState) := none
  /-- device time of the last end of an attempt or of a frame on its bus -/
  lastEnd : Nat := 0
  deriving DecidableEq, Repr, Inhabited

/-- An authentication profile (R360 to R363). -/
structure CanAuth where
  cfg : Word := 0x00001400
  id : Word := 0
  /-- FV, and the value saved to the configuration store (R361) -/
  fv : Nat := 0
  saved : Nat := 0
  /-- the generation of the key slot when EN was set -/
  gen : Nat := 0
  /-- the management tick of the last CAN_AUTH report (R362) -/
  reported : Option Nat := none
  deriving DecidableEq, Repr, Inhabited

/-- A trigger of network time (R367, R376). -/
structure CanTrig where
  cfg : Word := 0
  win : Word := 0x64
  /-- words written and the tick of the write: they come into force at the next cycle start (R376) -/
  next : Option (Word × Word × Nat) := none
  buf : Option CanFrame := none
  /-- device time at which the frame became due; the cycle start of its last firing -/
  due : Option Nat := none
  fired : Option Nat := none
  deriving DecidableEq, Repr, Inhabited

/-- Network time (R364 to R366, R378). -/
structure CanNt where
  cfg : Word := 0x00030000
  ref : Word := 0
  cycle : Word := 0x000F4240
  step : Bool := false
  disc : Bool := false
  sending : Bool := false
  synced : Bool := false
  mprio : Nat := 0
  count : Nat := 0
  /-- OFFSET as it stood at the last reference message, and what it is slewed by from there on (R366) -/
  offset : Int := 0
  slew : Int := 0
  rate : Int := 0
  /-- device time of the start of a cycle, whose count is `count`: at reset that of cycle 0, since OFFSET is 0 (R364) -/
  base : Option Nat := some 0
  /-- NT and device time at the last reference message's sync mark -/
  last : Option (Int × Nat) := none
  /-- the cycle start of a reference message on its way, and its failed attempts (R350) -/
  fails : Nat × Nat := (0, 0)
  /-- the data of the last reference message sent -/
  sent : List Byte := []
  deriving DecidableEq, Repr, Inhabited

/-- The CAN side of the L-die. -/
structure CanSt where
  ctls : Vector CanCtl 12 := Vector.replicate 12 {}
  auth : Vector CanAuth 64 := Vector.replicate 64 {}
  nt : CanNt := {}
  trigs : Vector CanTrig 16 := Vector.replicate 16 {}
  deriving DecidableEq, Repr, Inhabited

end Sys2Proof.Machine
end

