-- ==== Sys2Proof/Machine/Parts/Clk.lean ====
section
/-! DEFINITION. The state of the clock, reset and power manager (chapters 18 and 19). -/

namespace Sys2Proof.Machine

/-- An entry into a low-power state under way (R571): the target, the phase 1 to 4, the tick at which the phase began, and the
slot and tag of the PWR_STATE_REQ. -/
structure PwrEntry where
  target : Nat
  /-- 5 after AP4 -/
  phase : Nat := 1
  since : Nat := 0
  force : Bool := false
  slot : Nat := 0
  tag : Nat := 0
  /-- the wake sources that have latched since its dispatch (R571) -/
  latched : Nat := 0
  deriving DecidableEq, Repr, Inhabited

/-- A request of the regulator port (R580). -/
inductive RegKind where
  /-- OPERATION 0x80 -/
  | on
  /-- OPERATION 0x40 -/
  | off
  /-- VOUT_COMMAND with its linear value -/
  | vout (v : Nat)
  deriving DecidableEq, Repr, Inhabited

/-- A request waiting at the regulator port, or being made: rail 0 VCORE, 1 VIO, 2 VAUX; the timeouts so far (R581). -/
structure RegReq where
  rail : Nat
  kind : RegKind
  tries : Nat := 0
  deriving DecidableEq, Repr, Inhabited

/-- The steps of a start or a restore (R577). -/
inductive StartStep where
  /-- the L-die's reset is released, its self-tests are still to come (steps 3 to 6) -/
  | released
  /-- self-tests passed, cores released, boot check done (steps 7 and 8) -/
  | checked
  /-- the firmware has started and has read its configuration, and waits for the chain's time (R603) -/
  | chainWait
  /-- the firmware or the recovery loader runs, step 11 is still to come -/
  | started
  /-- step 11 has come -/
  | run
  deriving DecidableEq, Repr, Inhabited

/-- The clock, reset and power manager. -/
structure ClkSt where
  ctl : Word := 0x00000004
  /-- CLK_STAT: DEADSRC, COAST, LOCKED, XTAL_OK, XTAL_BAD, XTAL_ABSENT, MODE_ACT, ROOT (true RC) -/
  deadSrc : Bool := false
  coast : Bool := false
  locked : Bool := false
  xtalOk : Bool := false
  xtalBad : Bool := false
  xtalAbsent : Bool := false
  modeAct : Bool := false
  rootRc : Bool := true
  /-- CLK_SRC: PREF and SEL -/
  pref : Bool := false
  sel : Bool := false
  ssc : Word := 0x071E000A
  /-- a root switch in progress: its target (true RC), and whether XI is still being measured for it (R565) -/
  switch : Option (Bool × Bool) := none
  /-- device time at which COAST began (R564) -/
  coastAt : Nat := 0
  /-- CLK_GATE_STAT: units closed by command, and closes still pending (R561) -/
  gate : Nat := 0
  gatePend : Nat := 0
  /-- PWR_STAT.STATE: 0 RUN, 1 IDLE, 2 SLEEP, 3 DEEP SLEEP, 4 OFF (R569) -/
  power : Nat := 0
  lastAp : Nat := 0
  entry : Option PwrEntry := none
  wakeEn : Word := 0x0000000F
  wakeSrc : Nat := 0
  /-- wakes of transceivers and field pins that the P-die has reported since the dispatch of an entry, by source bit (R571) -/
  wakeHeard : Nat := 0
  /-- PWR_WAKE_PIN.EDGE, and the present levels of WAKE0–WAKE3 -/
  wakeEdge : Nat := 0x55
  wakeLevel : Nat := 0
  wakeTimer : Nat := 0
  /-- tick of the device's AP4, from which the timed wake counts (R574) -/
  ap4 : Nat := 0
  /-- a restore from SLEEP, DEEP SLEEP or OFF is under way (R577) -/
  waking : Bool := false
  regCfg : Word := 0x42414094
  regVcore : Nat := 9
  /-- REG_STAT: LAST_STATUS, LAST_RAIL and FAIL -/
  regLast : Nat := 0
  regRail : Nat := 0
  regFail : Nat := 0
  /-- the regulator port's requests, the first one in progress (R581) -/
  reqs : List RegReq := []
  /-- rails whose STATUS_WORD showed a fault at the last poll (R583) -/
  railBad : Nat := 0
  /-- a rail of the restore failed, and PWR_REG is reported once it has succeeded (R578) -/
  railWait : Option Nat := none
  /-- how far the present start has come -/
  step : StartStep := .released
  /-- the start is a recovery start: 0 no, 1 by BOOTSEL, 2 after failed boot checks (R599, R609) -/
  recovery : Nat := 0
  otherBooted : Bool := false
  pdieCold : Bool := false
  coldFs : Bool := false
  chainWait : Bool := false
  /-- BOOTSEL is ignored at this start (R601) -/
  noBootsel : Bool := false
  /-- device time of step 9 (R603) -/
  step9 : Nat := 0
  /-- command processing is paused by a firmware handover (R88) -/
  paused : Bool := false
  deriving DecidableEq, Repr, Inhabited

end Sys2Proof.Machine
end

