-- ==== Sys2Proof/Machine/Parts/Faults.lean ====
section
/-! DEFINITION. The state of the Spindle core complex and of the fault collector (chapter 14). -/

namespace Sys2Proof.Machine

/-- One core's watchdog (R440). -/
structure Wdog where
  /-- device time of the last kick; none before the first kick since the reset -/
  last : Option Nat := none
  /-- the last kick's value was 0xA5, so 0x5A comes next -/
  expectA5 : Bool := false
  expired : Bool := false
  deriving DecidableEq, Repr, Inhabited

/-- The Spindle core complex (R466). -/
structure Spindle where
  reason : Nat := 1
  selftestOk : Bool := false
  /-- the cores run compared -/
  lockstep : Bool := false
  frozen : Bool := false
  wdogCfg : Word := 0x014
  wdog : Vector Wdog 2 := Vector.replicate 2 {}
  pos : Nat := 0
  missed : Nat := 0
  detected : Nat := 0
  eccAddr : Word := 0
  /-- hardware injections armed by FAULT_INJECT: mismatch, checker, delay, single and double bit (R464) -/
  injMismatch : Bool := false
  injChecker : Bool := false
  injDelay : Bool := false
  injCe : Bool := false
  injUe : Bool := false
  /-- device time of the next self-test (R437) -/
  selfNext : Nat := 200000
  /-- the boundary whose pass ran last; none before the first pass since the reset (R23) -/
  lastPass : Option Nat := none
  deriving DecidableEq, Repr, Inhabited

/-- A first-error capture record (R454): W0 to W5. -/
structure Capture where
  valid : Bool := false
  w0 : Word := 0
  w1 : Word := 0
  w2 : Word := 0
  tick : Nat := 0
  later : Nat := 0
  deriving DecidableEq, Repr, Inhabited

/-- A fault class (R450 to R453, R466). -/
structure FaultClass where
  cfg : Word := 0
  active : Bool := false
  escalated : Bool := false
  episode : Nat := 0
  recoveries : Nat := 0
  /-- the management tick at which the quiet period ends (R451) -/
  quietEnd : Nat := 0
  /-- W0 and W2 of the last fault of the episode (R456) -/
  lastW0 : Word := 0
  lastW2 : Word := 0
  cap : Capture := {}
  deriving DecidableEq, Repr, Inhabited

/-- An L3 restart under way: its form, whether a fault caused it, and that fault (R447, R456). A revert, a failed handover
or a recovery commit restarts without a fault (R548, R550, R601). -/
structure PendingL3 where
  chip : Bool
  fault : Bool := true
  w0 : Word
  w2 : Word
  cls : Nat
  deriving DecidableEq, Repr, Inhabited

/-- The fault collector (R466). -/
structure FaultSt where
  ctl : Word := 0
  l4Seen : Bool := false
  cls : Vector FaultClass 5 := #v[{ cfg := 0x00010064 }, { cfg := 0x000103E8 }, { cfg := 0x000103E8 },
    { cfg := 0x00011388 }, { cfg := 0x00012710 }]
  sticky : Vector Word 18 := Vector.replicate 18 0
  /-- reactions that FAULT_REACTION_SET changed: source, then level + 8 × form + 16 (R463) -/
  react : Table := []
  /-- device time + 1 of the first report of each source's present fault (R444) -/
  first : Table := []
  pendingL3 : Option PendingL3 := none
  /-- the L-die is halted after an L4 (R445) -/
  halted : Bool := false
  /-- ALV's level and ALV_STOP (R457) -/
  alvHigh : Bool := false
  alvStop : Nat := 7
  /-- ALV is changing -/
  alvOn : Bool := false
  /-- device time of ALV's next scheduled change (R457) -/
  alvNext : Nat := 100000
  /-- the block resets of L2 decided and not yet done: source and instance (R446) -/
  resets : List (Nat × Nat) := []
  /-- faults injected and not yet taken: source and instance (R464) -/
  inject : List (Nat × Nat) := []
  deriving DecidableEq, Repr, Inhabited

end Sys2Proof.Machine
end

