-- ==== Sys2Proof/Machine/Parts/Host.lean ====
section
/-! DEFINITION. The state of the host side: host slots, the interpreter's commands in flight, the output
and input buffers of the five ports, 802.1AS time, the Ply ports, the chain view and the Reel sets
(chapters 3 and 13). Each field names the rule that gives it; its reset value stands after ':='. -/

namespace Sys2Proof.Machine

/-- The status codes of R96. -/
inductive Status where
  | done | queued | badMagic | badCrc | badOpcode | badLength | tagInUse | badObject
  | notPermitted | authFail | replay | busy | abortedDisabled | abortedReset | expired
  | faultActive | lockedOut | budgetExceeded | keyStale | keyAttr | storeFail | versionRollback
  | signatureFail | blockCheckFail
  deriving DecidableEq, Repr, Inhabited

/-- What an output frame is: it decides what its departure frees (R78, R106). -/
inductive OutKind where
  /-- the final response of a command: frees the tag -/
  | final
  /-- the interim QUEUED response (R83) -/
  | interim
  /-- an answer to a request that held no tag (R76) -/
  | answer
  /-- an event: frees an entry of the slot's event queue (R106) -/
  | event
  /-- a frame forwarded for the chain (R426) -/
  | forwarded
  deriving DecidableEq, Repr, Inhabited

/-- A frame waiting in a port's output buffer (R72). -/
structure OutFrame where
  kind : OutKind := .final
  /-- the host slot the frame belongs to -/
  slot : Nat := 0
  opcode : Nat := 0
  tag : Nat := 0
  /-- byte 5 of the header -/
  byte5 : Nat := 0
  /-- the STATUS field's code -/
  status : Nat := 0
  /-- CREDIT of a response, EVSEQ of an event -/
  credit : Nat := 0
  /-- the TIME field: device time, low 32 bits (R33) -/
  time : Nat := 0
  payload : List Word := []
  /-- session key that signs the frame, none where no CMAC follows (R70) -/
  key : Option (BitVec 128) := none
  /-- the 4-byte value that the CMAC covers after the CRC (R70) -/
  authVal : Nat := 0
  /-- the IPv4 address and UDP port a MAC sends it to (R416) -/
  peer : Peer := { addr := 0, udp := 0 }
  /-- the bytes of a forwarded frame, carried as received -/
  raw : List Byte := []
  deriving DecidableEq, Repr, Inhabited

/-- What a command past its commit point waits for before it completes. -/
inductive Await where
  /-- nothing: it completes as it is carried out -/
  | none
  /-- the P-die's report that skein k's set-point is in force (R33) -/
  | inForce (k : Nat)
  /-- the first Loom pass that has carried out what the command asked of object n (R146, R182) -/
  | pass (what n : Nat)
  /-- device time t: the latch tick of set n (R108) -/
  | latch (n t : Nat)
  /-- the echo of P-die configuration word i (R103, R233) -/
  | echo (i : Nat)
  /-- the verification of skein k's fail-safe entry (R251) -/
  | failSafe (k : Nat)
  /-- the swap of matrix port p in force (R304) -/
  | swap (p : Nat)
  /-- the first changed DUTY of a fade of skein k (R302) -/
  | dim (k : Nat)
  /-- the first instruction of Whorl engine e (R306) -/
  | whorl (e : Nat)
  /-- the values of counter channel c, taken as it is cleared (R336) -/
  | fioCount (c : Nat)
  /-- CAN controller k reconfigured (R371) -/
  | can (k : Nat)
  /-- the first SOF on controller k after tick t, from which its new filter entries are in force (R374) -/
  | canFilter (k t : Nat)
  /-- network-management channel c (R400) -/
  | nm (c : Nat)
  /-- the n-th configuration bank write, in which the change goes (R530) -/
  | cfgBank (n : Nat)
  /-- the end of the bank writes in progress (R535, R543) -/
  | bankIdle
  /-- the n-th key-store bank write, in which the change goes (R481) -/
  | keyBank (n : Nat)
  /-- an OTP programming (R492) -/
  | otp
  /-- the update engine: 0 UPDATE_VERIFY, 1 UPDATE_COMMIT, 2 UPDATE_CONFIRM, 3 a revert, which ends in a reset (R544, R546,
  R551, R550) -/
  | update (n : Nat)
  /-- the key store's erasure (R484) -/
  | erase
  /-- every other command of the slot (R95) -/
  | slotEmpty
  /-- the power manager (R585) -/
  | power
  /-- the SETUP exchange with the ranging anchors (R521) -/
  | ranging
  /-- a mirrored command on the driving device (R176) -/
  | mirror (k : Nat)
  deriving DecidableEq, Repr, Inhabited

/-- The stage of an accepted command. -/
inductive Stage where
  /-- in the interpreter, before its commit point (R80) -/
  | waiting
  /-- SNAPALIGN: waiting for the next latch (R112) -/
  | aligned
  /-- SNAPALIGN: released at a latch tick, to be taken ahead of every other command (R112) -/
  | released
  /-- past its commit point (R84) -/
  | taken
  /-- completed: its final response has not left the port, so it still holds its tag (R78) -/
  | answered
  deriving DecidableEq, Repr, Inhabited

/-- A command in flight: it holds tag req.tag of slot req.slot (R78). -/
structure Entry where
  op : Nat := 0
  req : Req
  stage : Stage := .waiting
  await : Await := .none
  /-- the further reports that a block write waits for (R103) -/
  more : List Await := []
  /-- device time of its acceptance -/
  accepted : Nat := 0
  /-- the QUEUED response has been given (R83) -/
  queued : Bool := false
  /-- its set-point, or the configuration word that carries it, has entered a down frame (R84) -/
  down : Bool := false
  /-- words kept for the final response -/
  data : List Word := []
  /-- the session key under which the request was checked, which signs its responses (R70, R90) -/
  key : Option (BitVec 128) := none
  deriving DecidableEq, Repr, Inhabited

/-- An authenticated session (R90). -/
structure Session where
  /-- the derived session key -/
  key : BitVec 128 := 0
  /-- the key-store slot it was derived from; 64 is the transport root -/
  parent : Nat := 0
  /-- the rights of the parent slot (R473) -/
  rights : Nat := 0
  /-- the generation of the parent slot at SESSION_OPEN (R474) -/
  gen : Nat := 0
  /-- the device nonce (R90, R490) -/
  nonce : List Byte := []
  deriving DecidableEq, Repr, Inhabited

/-- One host slot (R104, R106). -/
structure Slot where
  /-- HOST_SLOT_CFGn (R104) -/
  cfg : Word := 1
  /-- HOST_EVT_MASKn [31:2]; bits 1:0 read as 1 (R104) -/
  mask : Word := 0
  /-- HOST_SLOT_SEQn.LAST_SEQ (R89) -/
  lastSeq : Nat := 0
  /-- the bound port (R79) -/
  port : Option Port := none
  /-- the address of the binding request on a MAC (R416) -/
  peer : Peer := { addr := 0, udp := 0 }
  session : Option Session := none
  /-- authenticated sessions of the slot that have ended since the L-die reset: the model's own count (R541) -/
  ends : Nat := 0
  /-- the slot's session was ended by the key store, and its next request answers KEY_STALE (R478) -/
  ended : Bool := false
  /-- AUTH_FAILS (R93) -/
  authFails : Nat := 0
  /-- the next EVSEQ (R106) -/
  evSeq : Nat := 0
  /-- events dropped since the last EVENT_OVERFLOW (R106) -/
  dropped : Nat := 0
  /-- device time at which the held DEVICE_RESTARTED and RESTART events arose (R72) -/
  heldAt : Nat := 0
  /-- the held DEVICE_RESTARTED event's reason (R87) -/
  heldRestart : Option Nat := some 1
  /-- the held FAULT event with reason RESTART (R87, R456) -/
  heldFault : Option (List Word) := none
  /-- further events that a start raises, held for the binding: opcode, device time at which it arose, payload (R579, log entry
  43) -/
  heldMore : List (Nat × Nat × List Word) := []
  /-- the hash stream of SHA_256 (R493): the state words, the bytes not yet folded, the total length -/
  shaState : List (BitVec 32) := []
  shaRest : List Byte := []
  shaLen : Nat := 0
  shaOpen : Bool := false
  deriving DecidableEq, Repr, Inhabited

/-- One port's buffers. -/
structure PortBuf where
  /-- complete frames received and not yet taken by the interpreter (R81, R410) -/
  input : List (Peer × List Byte) := []
  /-- frames waiting to leave, oldest first (R107) -/
  output : List OutFrame := []
  /-- the bytes of the last frame that began to leave -/
  last : List Byte := []
  /-- on a MAC, the address and UDP port that frame went to and its 802.1Q tag (R415, R416) -/
  lastPeer : Peer := default
  lastTag : Option Nat := none
  deriving DecidableEq, Repr, Inhabited

/-- One Ethernet MAC (R431). -/
structure Mac where
  cfg : Word := 0xA3E80000
  /-- HOST_MACm_IP -/
  ip : Word := 0
  addrLo : Word := 0
  addrHi : Word := 0
  vlan : Word := 0
  rxDrop : Bool := false
  link : Bool := false
  /-- RATE: 0 no link, 1 100, 2 1,000 Mbit/s -/
  rate : Nat := 0
  /-- the interface taken when EN rose (R414): true RGMII -/
  rgmii : Bool := false
  /-- the last ARP or ICMP answer's target (R415) -/
  replyTo : Nat := 0
  replies : Nat := 0
  /-- the 802.1Q tag that the last ARP or ICMP answer carried (R415) -/
  replyTag : Option Nat := none
  deriving DecidableEq, Repr, Inhabited

/-- 802.1AS time (R417 to R419, R431). -/
structure Gptp where
  cfg : Word := 0
  pdelay : Nat := 0
  gmChange : Bool := false
  disciplined : Bool := false
  synced : Bool := false
  /-- HOST_TIME_OFFSET, ns, signed 64-bit -/
  offset : Int := 0
  /-- HOST_TIME_RATE, parts per 10^9 -/
  rate : Int := 0
  /-- OFFSET0 of R419 -/
  offset0 : Int := 0
  /-- the grandmaster named by the last Announce -/
  gm : Option Nat := none
  lastSync : Option Nat := none
  /-- the last Sync: gPTP time in ns and device time of it, for the rate -/
  lastGptp : Nat := 0
  /-- the slew of device time under DISCIPLINE: where it starts, and the ticks that it is to add (R419) -/
  slewFrom : Nat := 0
  slewBy : Int := 0
  deriving DecidableEq, Repr, Inhabited

/-- The state of a Ply link (R431). -/
inductive PlyState where | down | training | up | lost
  deriving DecidableEq, Repr, Inhabited

/-- One Ply port: index 0 up, 1 down (R431). -/
structure Ply where
  state : PlyState := .down
  latency : Nat := 0
  neighId : Nat := 0
  parked : Bool := false
  orderErr : Bool := false
  lostSeen : Bool := false
  /-- the last CREDIT reported by the receiver, bytes (R421) -/
  credit : Nat := 0
  /-- device time of the neighbour's last heartbeat -/
  heard : Option Nat := none
  /-- sender's device time of the last heartbeat, echoed in ours (R420) -/
  echo : Nat := 0
  deriving DecidableEq, Repr, Inhabited

/-- A chain entry as another device's heartbeat reports it (R420). -/
structure ChainView where
  skein : Nat := 0
  pdev : Nat := 0
  pskein : Nat := 0
  secondary : Bool := false
  /-- CHAIN state code -/
  state : Nat := 0
  /-- 1 an offer of a role swap, 2 its acceptance (R180) -/
  swap : Nat := 0
  /-- 1 with GIVE_NOW set on the entry (R179) -/
  give : Nat := 0
  /-- SKEIN_PERIOD and PHASE of the entry's skein, for the match of R174 -/
  period : Word := 0
  phase : Nat := 0
  /-- 1 where the next management-tick boundary is the first of the two boundaries of a give-back (R179) -/
  due : Nat := 0
  /-- 1 where the entry's skein is not in HS mode, not of OWNER 0, or a bridge leg (R174) -/
  unfit : Nat := 0
  /-- the sender's LOOM_PWR_LIMIT (R180, log entry 73) -/
  limit : Nat := 0
  deriving DecidableEq, Repr, Inhabited

/-- What this device knows of another device of the chain. -/
structure DevView where
  /-- device time of the last heartbeat of it, direct or relayed -/
  heard : Option Nat := none
  present : Bool := false
  parked : Bool := false
  /-- its LOOM_PWR_EST -/
  power : Nat := 0
  aligned : Bool := false
  pdieWarm : Bool := false
  /-- its heartbeats carry RECOVERY (R602) -/
  recovery : Bool := false
  entries : List ChainView := []
  deriving DecidableEq, Repr, Inhabited

/-- The chain as seen from this device (R422, R427, R431). -/
structure Chain where
  /-- ALIGN_ERR, ticks, signed -/
  alignErr : Int := 0
  aligned : Bool := false
  /-- SOURCE: 0 own, 1 up, 2 down -/
  source : Nat := 0
  views : Vector DevView 4 := Vector.replicate 4 {}
  /-- the route port of each slot (R426) -/
  route : Vector (Option Port) 4 := Vector.replicate 4 none
  /-- where each route port is a MAC, the address there (R416, R426) -/
  routePeer : Vector Peer 4 := Vector.replicate 4 { addr := 0, udp := 0 }
  /-- the last heartbeat of this device and the last one relayed, on each port -/
  sent : Vector (Option Beat) 2 := Vector.replicate 2 none
  relayed : Vector (Option Beat) 2 := Vector.replicate 2 none
  /-- the heartbeats sent carry PARK (R423), and ALIGNED on device 0 from its ADOPT_DONE on (R603) -/
  park : Bool := false
  adopted : Bool := false
  /-- the marks relayed: (set, latch tick) last sent (R429) -/
  sentMark : Option (Nat × Nat) := none
  /-- the slew of device time toward the up neighbour's: where it starts, and the ticks that it is to add (R427) -/
  slewFrom : Nat := 0
  slewBy : Int := 0
  /-- the next device time a heartbeat is due (R422) -/
  nextBeat : Nat := 10000
  deriving DecidableEq, Repr, Inhabited

/-- A Reel set (R108 to R114). -/
structure ReelSet where
  held : Bool := false
  pending : Bool := false
  /-- its SNAP_TAKE is past its commit point, or a chain mark holds it: it latches at its tick (R108) -/
  armed : Bool := false
  chain : Bool := false
  pdieMissing : Bool := false
  tick : Nat := 0
  alignErr : Int := 0
  /-- the latched counters, by counter index -/
  counters : Table := []
  deriving DecidableEq, Repr, Inhabited

/-- A chain mark refused on this device, reported at its latch tick (R109): set, tick and status code. -/
structure RefusedMark where
  set : Nat
  tick : Nat
  status : Nat
  deriving DecidableEq, Repr, Inhabited

/-- The Reel (R108). -/
structure Reel where
  sets : Vector ReelSet 4 := Vector.replicate 4 {}
  refused : List RefusedMark := []
  deriving DecidableEq, Repr, Inhabited

/-- The host side of the device. -/
structure HostSt where
  slots : Vector Slot 4 := Vector.replicate 4 {}
  /-- the commands in flight, in acceptance order (R80, R81) -/
  flight : List Entry := []
  /-- bit g set: function group g is disabled (R85) -/
  disabled : Nat := 0
  ports : Vector PortBuf 5 := Vector.replicate 5 {}
  /-- the port whose turn is next in the round robin (R81) -/
  turn : Nat := 0
  /-- HOST_QSPI_STAT.TRUNC and OVERRUN (R412) -/
  trunc : Bool := false
  overrun : Bool := false
  /-- the management tick in which HOST_PORT was last reported for each port (R412) -/
  portReported : Vector (Option Nat) 5 := Vector.replicate 5 none
  /-- the bytes that the QSPI port drove in its last STATUS or FETCH -/
  qspiData : List Byte := []
  /-- the frame that a FETCH is shifting out: its departure frees its tag (R413, R78) -/
  shifting : List OutFrame := []
  /-- with the OTP addresses (R431) -/
  macs : Vector Mac 2 := #v[{ addrLo := (Config.macAddr 0).1, addrHi := (Config.macAddr 0).2 &&& 0xFFFF },
    { addrLo := (Config.macAddr 1).1, addrHi := (Config.macAddr 1).2 &&& 0xFFFF }]
  gptp : Gptp := {}
  ply : Vector Ply 2 := Vector.replicate 2 {}
  chain : Chain := {}
  reel : Reel := {}
  deriving DecidableEq, Repr, Inhabited

end Sys2Proof.Machine
end

