-- ==== Sys2Proof/Machine/Parts/Keys.lean ====
section
/-! DEFINITION. The state of the key store (chapter 15): the working table, what the MRAM banks hold, and zeroisation. -/

namespace Sys2Proof.Machine

/-- A slot of the key store with its record (R471). -/
structure KeySlot where
  occupied : Bool := false
  purpose : Nat := 0
  /-- KLEN: the key is 256 bits long -/
  long : Bool := false
  rights : Nat := 0
  /-- ORIGIN: the key was derived -/
  derived : Bool := false
  parent : Nat := 0
  depth : Nat := 0
  pgen : Nat := 0
  gen : Nat := 0
  kcv : Word := 0
  key : List Byte := []
  deriving DecidableEq, Repr, Inhabited

/-- KEY_STAT.STATE (R498). -/
inductive KeyState where | locked | ready | zeroising
  deriving DecidableEq, Repr, Inhabited

/-- A zeroisation under way (R484, R489). -/
structure Zeroise where
  /-- steps completed: 0, 1, 2; step 3 ends it -/
  step : Nat := 0
  /-- code of KEY_STATUS: 1 tamper, 2 command -/
  code : Nat := 1
  /-- slot and tag of the host's ZEROISE -/
  host : Option (Nat × Nat) := none
  deriving DecidableEq, Repr, Inhabited

/-- The key store. -/
structure KeySt where
  state : KeyState := .locked
  /-- the working table, and the contents of the authoritative bank -/
  slots : Vector KeySlot 64 := Vector.replicate 64 {}
  stored : Vector KeySlot 64 := Vector.replicate 64 {}
  /-- the contents of the other bank (R480, R483) -/
  older : Vector KeySlot 64 := Vector.replicate 64 {}
  /-- BANK, SEQ and ZCOUNT as stored (R498) -/
  bankB : Bool := false
  seq : Nat := 0
  zcount : Nat := 0
  /-- STORE_NONCE (R480) -/
  nonce : List Byte := List.replicate 16 0
  /-- the zeroisation mark in MRAM (R484) -/
  mark : Bool := false
  degraded : Bool := false
  /-- a change awaits its bank write; the contents being written; the failed attempts of the write (R481) -/
  dirty : Bool := false
  writing : Option (Vector KeySlot 64) := none
  tries : Nat := 0
  /-- bank writes started, which number the writes -/
  writes : Nat := 0
  /-- the KEY_STATUS reasons and slots that the verification raises: of the write under way, and of the next (R496) -/
  notes : List (Nat × Nat) := []
  fresh : List (Nat × Nat) := []
  zero : Option Zeroise := none
  /-- step 2 is held until the health tests pass, with the code of KEY_STATUS (R489) -/
  nonceHeld : Option Nat := none
  /-- the TRNG's health tests fail (R489) -/
  trngFail : Bool := false
  /-- the tamper flag has been seen since the L-die start (R486) -/
  tamperSeen : Bool := false
  deriving DecidableEq, Repr, Inhabited

/-- The one-time programmable memory (R468, R492, R551). -/
structure Otp where
  /-- the transport root is retired -/
  retired : Bool := false
  /-- the anti-rollback counter -/
  floor : Nat := 0
  /-- the programmings under way, first in, first out: 0 the retirement, n + 1 a raise of the counter to n -/
  pend : List Nat := []
  deriving DecidableEq, Repr, Inhabited

end Sys2Proof.Machine
end

