-- ==== Sys2Proof/Machine/Parts/Act.lean ====
section
/-! DEFINITION. The state of the actuator sequencer (chapter 8): the slots as the P-die runs them and as the L-die
decides them. -/

namespace Sys2Proof.Machine

/-- The six profile registers of a slot (R276). -/
structure ActProfile where
  bind : Word := 0
  cur : Word := 0
  time : Word := 0
  chop : Word := 0
  decay : Word := 0
  kink : Word := 0
  deriving DecidableEq, Repr, Inhabited

/-- What a slot's status and measurement registers show beside the phase (R276). -/
structure ActFlags where
  heldFs : Bool := false
  subst : Bool := false
  noKink : Bool := false
  kinkSeen : Bool := false
  kinkTime : Nat := 0
  peakDur : Nat := 0
  deriving DecidableEq, Repr, Inhabited

/-- A slot on the P-die (R257 to R264). Phases: 0 IDLE, 2 PEAK, 3 HOLD, 4 RELEASE. -/
structure ActP where
  prof : ActProfile := {}
  phase : Nat := 0
  /-- P-die time at which the phase began -/
  since : Nat := 0
  /-- P-die time at which the last PEAK began -/
  peakStart : Nat := 0
  /-- the chopping skein is in an on-interval; the start of the present interval; the end of an off-interval -/
  on : Bool := false
  ivStart : Nat := 0
  offEnd : Option Nat := none
  /-- the rise of R259 has not reached I_PEAK -/
  rise : Bool := false
  /-- off-intervals still use PH_DEC -/
  ph : Bool := false
  /-- the decay code of the present off-interval or release, after R262 -/
  dec : Nat := 0
  /-- the FAST part of a MIXED off-interval or release, µs (R260) -/
  mix : Nat := 0
  /-- the running release is the final one of its HSKEIN (R260) -/
  final : Bool := false
  /-- the phase that a RELEASE left, for its claim (R265) -/
  left : Nat := 0
  /-- the fail-safe state keeps the slot in HOLD once its PEAK has ended (R269) -/
  fsHold : Bool := false
  /-- the substitution of this run has been reported (R262) -/
  substRun : Bool := false
  /-- the detector's running maximum, its run of qualifying cycles, the start of the first of them -/
  vMax : Nat := 0
  vRun : Nat := 0
  vFirst : Nat := 0
  /-- the end of PEAK that a kink has fixed (R264) -/
  kinkEnd : Option Nat := none
  flags : ActFlags := {}
  deriving DecidableEq, Repr, Inhabited

/-- A slot on the L-die. Phases: 0 IDLE, 1 DEFERRED, 2 PEAK, 3 HOLD, 4 RELEASE. -/
structure ActL where
  prof : ActProfile := {}
  phase : Nat := 0
  /-- the phase that a RELEASE left, for its claim (R265) -/
  left : Nat := 0
  /-- device time of HOLD's end, where HOLD_T is not 0 (R257) -/
  holdEnd : Option Nat := none
  deferred : Bool := false
  aborted : Bool := false
  flags : ActFlags := {}
  deriving DecidableEq, Repr, Inhabited

/-- The sequencer on the L-die: its slots, and the deferred ones in acceptance order (R266). -/
structure ActSt where
  slots : Vector ActL 16 := Vector.replicate 16 {}
  queue : List Nat := []
  deriving DecidableEq, Repr, Inhabited

end Sys2Proof.Machine
end

