-- ==== Sys2Proof/Machine/Parts/Fio.lean ====
section
/-! DEFINITION. The state of the field pins and of their counter filters (chapter 10): what the P-die holds and what the
L-die holds. -/

namespace Sys2Proof.Machine

/-- A field pin on the P-die (R311 to R329). -/
structure PinP where
  /-- FIO_PINi_CFG in force -/
  cfg : Word := 0x03E80000
  /-- the debounced state -/
  deb : Bool := false
  /-- the commanded state of an output, and its latch (R324, R325) -/
  out : Bool := false
  latch : Bool := false
  /-- the end of the wetting boost (R313) -/
  boostEnd : Option Nat := none
  /-- the sink stays limited to 25 mA (R325) -/
  limited : Bool := false
  /-- P-die time from which the samples of a debounce count: of the last change, or of its restart (R316, R319) -/
  since : Nat := 0
  /-- consecutive polls that disagree with the debounced state (R329) -/
  polls : Nat := 0
  deriving DecidableEq, Repr, Inhabited

/-- A counter channel (R320 to R323, R337). -/
structure CountP where
  cfg : Word := 4
  count : Nat := 0
  period : Nat := 0
  last : Nat := 0
  cmp : Nat := 0
  /-- P-die time of the last counted edge -/
  edge : Option Nat := none
  deriving DecidableEq, Repr, Inhabited

/-- The field pins on the P-die. -/
structure FioP where
  pins : Vector PinP 80 := Vector.replicate 80 {}
  counts : Vector CountP 8 := Vector.replicate 8 {}
  fault : Bool := false
  /-- FIO_CNT_STAT (R322, R323) -/
  isMatch : Nat := 0
  qerr : Nat := 0
  /-- FIO_POLL -/
  poll : Word := 0x00140014
  /-- P-die time of the last poll in SLEEP, and the pins whose polled state changed (R328, R329) -/
  lastPoll : Nat := 0
  /-- the output words received, for the next commit (R335) -/
  words : Vector Word 3 := Vector.replicate 3 0
  changed : Nat := 0
  /-- field-pin events were lost in hold-over (R331) -/
  lost : Bool := false
  deriving DecidableEq, Repr, Inhabited

/-- The triggers gathered for the next FIO_CHANGE (R318). -/
structure FioGather where
  /-- the earliest trigger's tick; none with nothing gathered -/
  first : Option Nat := none
  /-- pins with a selected change, pins that changed, pins that changed more than once -/
  sel : Nat := 0
  once : Nat := 0
  multi : Nat := 0
  isMatch : Nat := 0
  qerr : Nat := 0
  resync : Bool := false
  lost : Bool := false
  fault : Bool := false
  deriving DecidableEq, Repr, Inhabited

/-- The field pins on the L-die (R337). A pin set is a number: bit i is pin i. -/
structure FioL where
  ctl : Word := 0x0000000A
  poll : Word := 0x00140014
  fault : Bool := false
  lost : Bool := false
  isMatch : Nat := 0
  qerr : Nat := 0
  ins : Nat := 0
  outs : Nat := 0
  pins : Vector Word 80 := Vector.replicate 80 0x03E80000
  counts : Vector CountP 8 := Vector.replicate 8 {}
  /-- device time of the last update of FIO_INn (R334), and of the readback of the counters -/
  updated : Nat := 0
  taken : Nat := 0
  gather : FioGather := {}
  /-- device time of the last FIO_CHANGE (R318) -/
  raised : Option Nat := none
  deriving DecidableEq, Repr, Inhabited

end Sys2Proof.Machine
end

