-- ==== Sys2Proof/Machine/Parts/Light.lean ====
section
/-! DEFINITION. The state of the lighting engine (chapter 9): the matrix ports as the P-die scans them, and on the L-die
the ports' registers and frame memory copy, the dimmed skeins and the Whorl engines. -/

namespace Sys2Proof.Machine

/-- A matrix port on the P-die (R283 to R291). A frame buffer maps pixel r × 48 + c to its value. -/
structure PortP where
  /-- LIGHT_PORTp_CFG in force, and a write of NROWS, DEPTH, MPRE or SYNC that waits for a frame start (R284) -/
  cfg : Word := 0x00F40000
  cfgNext : Option Word := none
  /-- the sink codes received, and those applied at the last frame start (R286) -/
  coli : Vector Word 12 := Vector.replicate 12 0
  sinks : List Nat := []
  /-- the derating factor received -/
  factor : Nat := 1000
  fb : Vector Table 2 := Vector.replicate 2 []
  displayed : Nat := 0
  /-- pixels of the displayed buffer written inside a slot of their row, which shows the old value to its end: the pixel, that
  value, the slot's start (R289) -/
  late : List (Nat × Nat × Nat) := []
  /-- the port shows nothing, by its fail-safe or disable state (R300, R301) -/
  blank : Bool := true
  /-- P-die time of the start and of the end of the last frame; none before the first -/
  frame : Option (Nat × Nat) := none
  /-- an LSYNC edge is held for the end of the frame (R284) -/
  held : Bool := false
  lsyncLost : Bool := false
  lastEdge : Nat := 0
  /-- a swap waits for the next frame start, with its COPY; the end of a copy (R290) -/
  swap : Option Bool := none
  copyEnd : Option Nat := none
  /-- rows and columns off in the present frame, their runs of frames, and those latched off (R291) -/
  rowOff : Nat := 0
  rowRun : Vector Nat 16 := Vector.replicate 16 0
  rowF : Nat := 0
  colOpen : Nat := 0
  colOff : Nat := 0
  colRun : Vector Nat 48 := Vector.replicate 48 0
  colShort : Nat := 0
  /-- row-switch sensor, °C + 64 -/
  temp : Nat := 0
  deriving DecidableEq, Repr, Inhabited

/-- A matrix port on the L-die (R309). -/
structure PortL where
  cfg : Word := 0x00F40000
  derate : Word := 0x012CA082
  coli : Vector Word 12 := Vector.replicate 12 0
  rowF : Nat := 0
  colOpen : Nat := 0
  colShort : Nat := 0
  /-- the copy of the frame memory (R289), and MIRROR_STALE (R299) -/
  fb : Vector Table 2 := Vector.replicate 2 []
  stale : Bool := false
  factor : Nat := 1000
  /-- the claiming engine (R297) -/
  claim : Option Nat := none
  displayed : Nat := 0
  scanning : Bool := false
  lsyncLost : Bool := false
  temp : Nat := 0
  /-- the CONFIG items of pixel writes not yet echoed, and a swap that waits for them (R290) -/
  pixels : List Nat := []
  swapWait : Option Bool := none
  /-- a swap accepted and not yet in force -/
  swapPend : Bool := false
  deriving DecidableEq, Repr, Inhabited

/-- A fade (R280): L0, L1, its start and its duration in ticks, the last step. -/
structure Fade where
  l0 : Nat
  l1 : Nat
  start : Nat
  dur : Nat
  last : Nat
  deriving DecidableEq, Repr, Inhabited

/-- A lighting skein (R278, R309). -/
structure LightSkein where
  cfg : Word := 0
  derate : Word := 0x012CA082
  level : Nat := 0
  factor : Nat := 1000
  claim : Option Nat := none
  fade : Option Fade := none
  deriving DecidableEq, Repr, Inhabited

/-- The state of a Whorl engine (R294). -/
inductive EngState where | idle | running | waiting | faulted
  deriving DecidableEq, Repr, Inhabited

/-- A Whorl engine (R294 to R298). -/
structure Engine where
  state : EngState := .idle
  late : Bool := false
  reason : Nat := 0
  pc : Nat := 0
  low : Nat := 0
  high : Nat := 0
  lv : Vector Nat 8 := Vector.replicate 8 0
  /-- the schedule time T -/
  time : Nat := 0
  /-- instructions executed in a row without a wait -/
  run : Nat := 0
  /-- device time of the last instruction -/
  last : Option Nat := none
  /-- LIGHT_BUDGET has been reported in this run (R281) -/
  budget : Bool := false
  /-- the port whose swap it waits for -/
  swapOf : Option Nat := none
  deriving DecidableEq, Repr, Inhabited

/-- The lighting engine on the L-die. -/
structure LightSt where
  ports : Vector PortL 2 := Vector.replicate 2 {}
  skeins : Vector LightSkein 48 := Vector.replicate 48 {}
  regions : Vector Word 16 := Vector.replicate 16 0
  extTemp : Nat := 0
  extStale : Bool := true
  /-- the management tick at which LIGHT_EXT_TEMP goes stale (R292) -/
  extEnd : Option Nat := none
  prog : Table := []
  engines : Vector Engine 16 := Vector.replicate 16 {}
  deriving DecidableEq, Repr, Inhabited

end Sys2Proof.Machine
end

