-- ==== Sys2Proof/Machine/Parts/Nmgw.lean ====
section
/-! DEFINITION. The state of the transceivers, of the ring-consent channels and of the gateway (chapter 12). -/

namespace Sys2Proof.Machine

/-- A transceiver on the P-die (R380 to R387, R408). -/
structure Trx where
  cfg : Word := 0x00001820
  wid : Word := 0
  wmask : Word := 0
  dlo : Word := 0
  dhi : Word := 0
  /-- TSTATE (R380) -/
  tstate : Nat := 3
  fec : Nat := 0
  swErr : Bool := false
  thermal : Bool := false
  txdDom : Bool := false
  /-- the tick of a TXD dominant timeout: the transmitter has released the bus until TXD next goes recessive (R382) -/
  held : Option Nat := none
  /-- WAKE and WCAUSE (R387) -/
  wake : Bool := false
  cause : Nat := 0
  /-- the L-die has taken the wake as a wake of its channel (R395) -/
  told : Bool := false
  /-- the last state under L-die command was one for a sleeping network (R398) -/
  sleeping : Bool := false
  deriving DecidableEq, Repr, Inhabited

/-- A ring-consent channel (R388 to R395, R408). -/
structure NmChan where
  cfg : Word := 0
  time : Word := 0x00140064
  /-- PHASE: 0 OFF, 1 AWAKE, 2 COMMIT, 3 ASLEEP -/
  phase : Nat := 0
  need : Bool := true
  /-- the need as the configuration store gives it (R398, R400) -/
  needStored : Bool := true
  alone : Bool := false
  wakePend : Bool := false
  /-- a wake has arisen since the device's last token: its next one shows READY = 0 (R395) -/
  broke : Bool := false
  /-- the presence set: bit a for address a (R389) -/
  pres : Nat := 0
  /-- READYRUN of the last ring frame received, and of the frame that passed the token -/
  readyRun : Nat := 0
  incoming : Nat := 0
  /-- device time + 1 of the last ring frame of each address (R389) -/
  heard : Table := []
  /-- device time of the last ring frame of another member, or of the start of listening (R390, R393) -/
  heardAny : Nat := 0
  /-- a REFORM frame has been sent since then (R390) -/
  reformed : Bool := false
  /-- device time at which the token is passed on; taken under R392, it is passed on by the lowest address alone -/
  token : Option Nat := none
  claim : Bool := false
  /-- the member whose frame is awaited, and the end of this device's frame (R390) -/
  succ : Option Nat := none
  sentEnd : Option Nat := none
  /-- READY and READYRUN of the frame that passed the token on last: a frame sent again carries them (R390) -/
  sentReady : Bool := false
  sentRun : Nat := 0
  /-- a REFORM frame is to be sent once the controller reaches ACTIVE (R398) -/
  reformDue : Bool := false
  /-- device time of the ring frame that follows a WAKE or REFORM frame (R392) -/
  restart : Option Nat := none
  /-- the commit tick (R394) -/
  commit : Nat := 0
  deriving DecidableEq, Repr, Inhabited

/-- A record on its way to an Ethernet segment with the tick of the datagram's first record (R405). -/
structure GwDatagram where
  first : Nat := 0
  words : List Word := []
  deriving DecidableEq, Repr, Inhabited

/-- The gateway (R403 to R408). -/
structure GwSt where
  ctl : Word := 0xA3E90000
  seg : Word := 0
  dst : Vector Word 2 := Vector.replicate 2 0
  /-- the routing entries: word 4e + j is word j of entry e -/
  routes : Table := []
  /-- device time + 1 of the last frame routed by each entry (R404) -/
  last : Table := []
  /-- the datagram being filled for each Ethernet segment, and the last one sent -/
  fill : Vector GwDatagram 2 := Vector.replicate 2 {}
  sent : Vector (List Word) 2 := Vector.replicate 2 []
  /-- AUTO as last raised (R406) -/
  auto : Nat := 0
  /-- the management tick of the last GW_DROP report -/
  dropped : Option Nat := none
  deriving DecidableEq, Repr, Inhabited

/-- Network management and the gateway on the L-die. -/
structure NmSt where
  chans : Vector NmChan 12 := Vector.replicate 12 {}
  /-- the L-die's copies of the transceivers -/
  trx : Vector Trx 6 := Vector.replicate 6 {}
  gw : GwSt := {}
  deriving DecidableEq, Repr, Inhabited

end Sys2Proof.Machine
end

