-- ==== Sys2Proof/Machine/Parts/Power.lean ====
section
/-! DEFINITION. The state of the power side: cells, skeins and banks (chapter 4), Loom (chapter 5), cell
protection and sense (chapter 6), the Weft link, hold-over and the fail-safe memory (chapter 7). What the
P-die holds and what the L-die holds stand in separate structures, because either lives on through the
other's reset. -/

namespace Sys2Proof.Machine

/-! ### Skein definitions -/

/-- The five words of a skein's definition (R146, R149): SKEIN_CFG, _LIMIT, _PERIOD, _TIMING and _AUX.
COUNT 0 is an undefined skein. -/
structure SkeinDef where
  cfg : Word := 0
  limit : Word := 0
  period : Word := 0
  /-- SLEW resets to 0b100 (R149) -/
  timing : Word := 0x40000000
  aux : Word := 0
  deriving DecidableEq, Repr, Inhabited

/-- A set-point: DUTY, HIZ, BSTATE and DECAY (R149, R230). -/
structure SetPoint where
  duty : Nat := 0
  hiz : Bool := true
  bstate : Nat := 0
  decay : Bool := false
  deriving DecidableEq, Repr, Inhabited

/-! ### P-die -/

/-- The ladder state of a cell (R208). -/
inductive Ladder where | ready | pausing | latched
  deriving DecidableEq, Repr, Inhabited

/-- A cell on the P-die. The L-die's copy of it, as last read back, has the same form. -/
structure CellP where
  /-- CELL_CFG.SLEW (R131) -/
  slew : Nat := 4
  /-- CELL_CFG.ROLE as the L-die has last sent it (R216, R233) -/
  role : Nat := 0
  /-- the cell's switches as the gates stand -/
  hsOn : Bool := false
  lsOn : Bool := false
  /-- CAUSE of the last cell-out report; shown only while a cause is pending (R189, R191) -/
  cause : Nat := 0
  ladder : Ladder := .ready
  tries : Nat := 0
  /-- the tick of the last trip (R158) -/
  tripTick : Nat := 0
  /-- P-die time at which a rung 1–3 pause ends (R209); none where the L-die times it or it is frozen -/
  pauseEnd : Option Nat := none
  /-- the pause has ended, and the retry waits for a droop suspension or for the skein's other cells -/
  due : Bool := false
  thermal : Bool := false
  locked : Bool := false
  pumpLow : Bool := false
  /-- a gate that has not reported off (R222) -/
  gateStuck : Bool := false
  senseBad : Bool := false
  /-- junction temperature + 64 °C (R202) -/
  temp : Nat := 0
  /-- the management view of the current, 10 mA (R218) -/
  sense : Nat := 0
  /-- the low side is the conducting switch -/
  ls : Bool := false
  /-- the ledger L and the pending energy P, µJ (R205) -/
  ledger : Nat := 0
  energy : Nat := 0
  /-- device time at which the ledger was last folded -/
  folded : Nat := 0
  /-- conduction time, ticks (R149) -/
  onTicks : Nat := 0
  edges : Nat := 0
  /-- conduction time of the clean run, ticks (R208) -/
  cleanTicks : Nat := 0
  deriving DecidableEq, Repr, Inhabited

/-- What a leg of an HB skein or of a bridge pair drives. -/
inductive Drive where | off | high | low
  deriving DecidableEq, Repr, Inhabited

/-- A running handover as the P-die holds it (R155): the outgoing mask, and what its leave point counts from. -/
structure HandP where
  outgoing : Nat := 0
  /-- the tick at which the mask was applied, and that of the last change of DUTY, HIZ or state since (R155) -/
  applied : Nat := 0
  since : Nat := 0
  /-- the handover leave rule of the refresh slot: it names the rule of the first leave point, before any change (R233) -/
  rule : Nat := 0
  deriving DecidableEq, Repr, Inhabited

/-- A skein on the P-die. -/
structure SkeinP where
  defn : SkeinDef := {}
  sp : SetPoint := {}
  /-- the cap in force, permille (R164) -/
  cap : Nat := 1000
  /-- the active mask in force: bit i stands for cell FIRST + i (R151) -/
  mask : Nat := 0
  hand : Option HandP := none
  /-- the drive of an HB skein's node, and the change under way: its target and the end of its dead time
  (none while the gates have not reported off) (R133) -/
  drive : Drive := .off
  change : Option (Drive × Option Nat) := none
  /-- the side that conducted last before the drive went off, and the tick from which the other side may conduct:
  DEADTIME after the gates reported off, none while they have not (R133) -/
  lastOn : Drive := .off
  clearAt : Option Nat := none
  /-- the side on which a gate is stuck: the other one is held off until the gates report off; off where none is (R222) -/
  stuckSide : Drive := .off
  /-- the present state of a bridge pair, held on the leader (R135) -/
  bactual : Nat := 0
  /-- the state a bridge pair is moving to; the end of its brake phase, and the direction before it (R136,
  R137) -/
  via : Option Nat := none
  /-- the tick at which the first leg of that move reached its state (R136) -/
  legAt : Option Nat := none
  brakeEnd : Option Nat := none
  brakeFrom : Nat := 0
  /-- P-die time at which the conduction of the skein's cells was last summed up -/
  since : Nat := 0
  /-- P-die time at which the skein went off (R216) -/
  offSince : Nat := 0
  /-- the end of the inrush window (R139) -/
  inrushEnd : Option Nat := none
  /-- the end of a retry window (R210) -/
  retryEnd : Option Nat := none
  /-- the start of the window that runs (for R200's intervals) -/
  windowStart : Nat := 0
  /-- the envelope in force and the one received for the next turn-on (R199) -/
  env : List Nat := []
  envNext : Option (List Nat) := none
  /-- a fingerprint window runs: all of R197 has held in it so far (R196) -/
  print : Option Bool := none
  /-- its start, and the cells that conducted then (R196, R197) -/
  printStart : Nat := 0
  printCells : List Nat := []
  isOpen : Bool := false
  stb : Bool := false
  /-- the skein has a chain entry in the primary role (R178) -/
  primary : Bool := false
  /-- the definition came out of the fail-safe memory, which holds a part of it (R247, R594) -/
  fromFs : Bool := false
  /-- FLASH of the applied fail-safe entry: ON_T, OFF_T and the on-phase DUTY (R248) -/
  flash : Option (Nat × Nat × Nat) := none
  deriving DecidableEq, Repr, Inhabited

/-- A bank on the P-die. -/
structure BankP where
  /-- mean supply, mV (R226) -/
  vbat : Nat := 0
  droop : Bool := false
  droopSeen : Bool := false
  /-- P-die time at which the suspension ends (R215) -/
  suspended : Option Nat := none
  deriving DecidableEq, Repr, Inhabited

/-- The RW registers of the PROT block (R226). -/
structure ProtCfg where
  ctl : Word := 0x00000007
  ladder : Word := 0x00000A07
  droop : Word := 0x00000006
  trip : Vector Word 48 := Vector.replicate 48 0x00C83018
  diag : Vector Word 48 := Vector.replicate 48 0x000A0400
  learn : Vector Word 48 := Vector.replicate 48 0x438F0401
  bobbin : Vector Word 12 := Vector.replicate 12 0x04B00190
  deriving DecidableEq, Repr, Inhabited

/-! ### The Weft link -/

/-- The states of the link (R236). -/
inductive LinkState where | down | training | adopt | live
  deriving DecidableEq, Repr, Inhabited

/-- The bodies of the up frames that carry an EVSEQ (R230, R234). -/
inductive UpBody where
  /-- CELL_OUT: bank, cells within the bank, cause, earliest trip tick (R230) -/
  | cellOut (bank mask cause tick : Nat)
  /-- EVENT of kind CONFIG_ECHO, for CONFIG item id (R233) -/
  | echo (id : Nat)
  /-- EVENT: a fault of the P-die: source, instance, detail, tick (R444) -/
  | fault (src inst detail tick : Nat)
  /-- EVENT: both copies of skein k's fail-safe entry verified, or a copy failed (R251) -/
  | failSafe (k : Nat) (ok : Bool)
  /-- EVENT: HOLD (entry 48) or a port's choice (49, 50) verified in the fail-safe memory (R243, R300) -/
  | fsWord (w : Nat) (ok : Bool)
  /-- EVENT: a fingerprint record of skein k, accepted or rejected (R197) -/
  | record (k : Nat) (points : List Nat) (accepted : Bool)
  /-- EVENT: a field pin's change and its tick (R318) -/
  | fio (pin : Nat) (state : Bool) (tick : Nat)
  /-- EVENT: a matrix port: 1 row latched, 2 column open, 3 column latched for a short, 4 LSYNC lost, 5 swap and copy
  done (R290, R291); which row or column, and the tick -/
  | light (p kind idx tick : Nat)
  /-- EVENT: an actuator slot's phase, its reason of R275, its flags, and the tick -/
  | act (slot reason phase : Nat) (f : ActFlags) (tick : Nat)
  /-- EVENT: a counter channel's compare match (kind 0) or quadrature error (1), or the fault bit (2) (R318) -/
  | fioTrig (kind chan tick : Nat)
  /-- EVENT: the pins whose polled state changed in SLEEP, the states of all pins, and the tick of the return (R329) -/
  | fioPolls (set states tick : Nat)
  /-- EVENT: the values of counter channel c taken as it was cleared: COUNT, PERIOD, LAST and the tick (R336) -/
  | fioCleared (c count period last tick : Nat)
  /-- EVENT: a protection of transceiver n: 1 TXD dominant, 2 thermal shutdown (R402) -/
  | trx (n code tick : Nat)
  deriving DecidableEq, Repr, Inhabited

/-- A CELL_OUT or EVENT frame held by the P-die until it is acknowledged (R234). -/
structure UpFrame where
  seq : Nat := 0
  body : UpBody
  /-- P-die time of its last sending; none before the first -/
  sent : Option Nat := none
  deriving DecidableEq, Repr, Inhabited

/-- What a CONFIG frame, or a group of them, writes on the P-die (R233). -/
inductive CfgItem where
  /-- the definition of skein k with its active mask (R146) -/
  | skein (k : Nat) (d : SkeinDef) (mask : Nat)
  /-- a PROT register, by its offset in the block (R226) -/
  | prot (off : Nat) (v : Word)
  /-- CELL_CFG.SLEW of cell n (R132) -/
  | slew (n v : Nat)
  /-- WEFT_CTL.HOLD (R243) -/
  | hold (ms : Nat)
  /-- the fail-safe entry of skein k: FS_MODE and WEFT_FS_VAL (R251) -/
  | failSafe (k mode : Nat) (val : Word)
  /-- the fail-safe choice of matrix port p (R300) -/
  | portFs (p : Nat) (fs : Bool)
  /-- the envelope of skein k (R199) -/
  | envelope (k : Nat) (pts : List Nat)
  /-- LOAD_CLEAR_LATCH's LATCH for skein k; more holds its RELEARN and DEGRADED, which the L-die carries out once the latches are
  cleared (R223) -/
  | clearLatch (k more : Nat)
  /-- the fold of a ledger: L of cell n, and the energy folded in (R205) -/
  | ledger (n l folded : Nat)
  /-- skein k has, or no longer has, a chain entry in the primary role (R178) -/
  | primary (k : Nat) (on : Bool)
  /-- a FIO register, by its offset in the block (R337) -/
  | fio (off : Nat) (v : Word)
  /-- field outputs written together: the pins and their states (R335) -/
  | fioWord (j : Nat) (v : Word) | fioCommit (set : Nat)
  /-- counter channel c's values taken and COUNT cleared at one tick (R336) -/
  | fioClear (c : Nat)
  /-- a LIGHT register of the P-die, by its offset in the block (R309) -/
  | light (off : Nat) (v : Word)
  /-- a pixel of the back or displayed buffer (R289) -/
  | pixel (port buf index level : Nat)
  /-- the swap of a port's buffers, with COPY (R290) -/
  | swap (p : Nat) (copy : Bool)
  /-- the derating factor of a port (R286, R293) -/
  | portFactor (p d : Nat)
  /-- a port goes to its disable state: blank, or held (R301) -/
  | portDis (p : Nat) (held : Bool)
  /-- the entry into FS_FORCE (R445) -/
  | fsForce
  /-- a transceiver register, by its offset in the NMGW block (R408) -/
  | trx (off : Nat) (v : Word)
  /-- the phase decision of an actuator slot (R258) -/
  | act (slot phase : Nat)
  /-- the six words of an actuator profile (R271) -/
  | actProfile (slot : Nat) (p : ActProfile)
  /-- skein k goes to its stored fail-safe state as its disable state (R148) -/
  | applyFs (k : Nat)
  /-- the words of skein k's definition that the fail-safe memory does not hold (R245, R594) -/
  | fill (k : Nat) (d : SkeinDef)
  /-- the target state and the wake configuration of an entry, or its discarding (R571, R572) -/
  | power (target : Nat)
  /-- the wake configuration (R588) -/
  | wake (en : Word) (edge timer : Nat)
  deriving DecidableEq, Repr, Inhabited

/-- A CONFIG item on its way to the P-die: queued, or sent and not yet echoed (R233). -/
structure CfgOut where
  id : Nat := 0
  item : CfgItem
  /-- device time of its last sending; none before the first -/
  sent : Option Nat := none
  /-- the P-die has taken it, and a re-sending is only echoed again -/
  applied : Bool := false
  /-- the P-die could not carry it out (R223) -/
  refused : Bool := false
  /-- the tick at which an output change released by a latch takes effect (R112) -/
  due : Nat := 0
  deriving DecidableEq, Repr, Inhabited

/-- One copy of a fail-safe entry (R247). -/
structure FsCopy where
  /-- its CRC-8 matches -/
  valid : Bool := false
  gen : Nat := 0
  defn : SkeinDef := {}
  mode : Nat := 0
  val : Word := 0
  deriving DecidableEq, Repr, Inhabited

/-- A fail-safe entry: two copies, and the write in progress (R247, R251). -/
structure FsEntry where
  a : FsCopy := {}
  b : FsCopy := {}
  /-- the content being written -/
  writing : Option FsCopy := none
  /-- the write answers a FAILSAFE_SET -/
  command : Bool := false
  deriving DecidableEq, Repr, Inhabited

/-- The supervisor's condition on the P-die. -/
inductive Supervisor where
  /-- power-on reset held (R594) -/
  | reset
  /-- after power-on: outputs off until the first set-points or the expiry (R41) -/
  | cold
  /-- the link carries valid down frames -/
  | linked
  /-- silence declared, hold-over running (R241) -/
  | holdover
  /-- the fail-safe states are applied (R249) -/
  | failSafe
  /-- after a wake from DEEP SLEEP or OFF: outputs off until the adoption or the expiry (R576) -/
  | woken
  /-- 200 MHz timebase stopped: DEEP SLEEP or OFF (R576) -/
  | asleep
  deriving DecidableEq, Repr, Inhabited

/-- The P-die's power array and supervisor. -/
structure PDie where
  cells : Vector CellP 96 := Vector.replicate 96 {}
  skeins : Vector SkeinP 48 := Vector.replicate 48 {}
  banks : Vector BankP 12 := Vector.replicate 12 {}
  prot : ProtCfg := {}
  /-- PROT registers given a new word, newest first: the offset, the word before it, and the tick of the write; within the
  fingerprint interval of the write the word before it still rules (R226) -/
  protOld : List (Nat × Word × Nat) := []
  sup : Supervisor := .cold
  /-- the hold-over time in force, ms -/
  hold : Nat := 100
  /-- P-die time of the last valid down frame -/
  lastDown : Nat := 0
  /-- P-die time of the declaration of silence, and of the expiry (R241) -/
  silentAt : Option Nat := none
  expiry : Option Nat := some 20000000
  /-- the silence followed a link that had been LIVE (R246) -/
  wasLive : Bool := false
  /-- an ADOPT_DONE has been accepted since the power-on, the wake or the last silence (R246) -/
  lived : Bool := false
  /-- P-die time of the start of its last IDLE frame (R231) -/
  idleAt : Nat := 0
  /-- the L-die's tick of the last time exchange, and the difference to its count that the P-die slews away (R238) -/
  slewFrom : Nat := 0
  slewBy : Int := 0
  /-- the fail-safe states were applied and have not been adopted (R246) -/
  fsPending : Bool := false
  /-- the last silence reached its expiry (R252) -/
  expired : Bool := false
  coldFs : Bool := false
  /-- WEFT_STAT.PDIE_WARM (R238) -/
  warm : Bool := false
  tamper : Bool := false
  /-- the next EVSEQ of the up frames (R234) -/
  evSeq : Nat := 0
  up : List UpFrame := []
  /-- a management tick and the down frames discarded in it (R235) -/
  discards : Nat × Nat := (0, 0)
  fs : Vector FsEntry 48 := Vector.replicate 48 {}
  /-- HOLD in the fail-safe memory, and its write in progress (R243) -/
  fsHold : Nat := 100
  fsHoldNew : Option Nat := none
  /-- the fail-safe choice of each matrix port, and its write in progress (R300) -/
  fsPort : Vector Bool 2 := Vector.replicate 2 false
  /-- the choice in force (R300) -/
  portFs : Vector Bool 2 := Vector.replicate 2 false
  fsPortNew : Vector (Option Bool) 2 := Vector.replicate 2 none
  act : Vector ActP 16 := Vector.replicate 16 {}
  ports : Vector PortP 2 := Vector.replicate 2 {}
  fio : FioP := {}
  trx : Vector Trx 6 := Vector.replicate 6 {}
  /-- the power state as the P-die knows it: 0 RUN, 1 SLEEP, 2 DEEP SLEEP, 3 OFF (R569) -/
  power : Nat := 0
  /-- the target state that an entry has announced to it (R571) -/
  target : Nat := 0
  /-- CAN or field-pin wake requests raised to the power manager and not yet latched, by source bit (R329, R387) -/
  wakeReq : Nat := 0
  /-- the code on MSEL6–MSEL0 and the source that ISNS mirrors (R220) -/
  msel : Nat := 0
  /-- the sense self-test has completed (R221) -/
  selfTest : Bool := false
  deriving DecidableEq, Repr, Inhabited

/-! ### L-die -/

/-- The roles of a cell (R151). -/
inductive Role where | none | active | standby | outOfService
  deriving DecidableEq, Repr, Inhabited

/-- A cell-out report held for classification (R158): cell, cause, trip tick. -/
structure CellOut where
  cell : Nat
  cause : Nat
  tick : Nat
  deriving DecidableEq, Repr, Inhabited

/-- A handover as Loom holds it (R155); joining alone has no outgoing cell (R166). -/
structure Handover where
  /-- the incoming cell; none of a handover adopted from a P-die whose masks alone are known (log entry 96) -/
  incoming : Option Nat
  outgoing : Option Nat
  deriving DecidableEq, Repr, Inhabited

/-- The learning state of a skein (R198). -/
structure Learn where
  /-- LSTATE: 0 UNLEARNED, 1 LEARNING, 2 LEARNED -/
  state : Nat := 0
  nrec : Nat := 0
  e : List Nat := []
  r : List Nat := []
  m : List Nat := []
  degraded : Bool := false
  drift : Nat := 0
  /-- the records folded while LEARNING -/
  recs : List (List Nat) := []
  /-- records accepted and not yet folded (R197) -/
  fresh : List (List Nat) := []
  /-- e, r and m are to be saved to the configuration store (R199) -/
  save : Bool := false
  /-- records accepted since LEARNED, for the save after every 256 (R199) -/
  count : Nat := 0
  /-- e has been discarded, and the P-die may still hold it (R198) -/
  discard : Bool := false
  deriving DecidableEq, Repr, Inhabited

/-- A pending SKEIN_DEFINE (R146). -/
structure Define where
  defn : SkeinDef
  /-- the pass has sent it, and its CONFIG item awaits its echo -/
  sent : Option Nat := none
  deriving DecidableEq, Repr, Inhabited

/-- A skein on the L-die. -/
structure SkeinL where
  defn : SkeinDef := {}
  /-- SKEIN_CTL: the commanded set-point (R149) -/
  sp : SetPoint := {}
  /-- a SETPOINT frame is waiting to be sent (R231) -/
  send : Bool := false
  /-- the set-point that last entered a down frame (R84) -/
  sent : SetPoint := {}
  /-- the tick at which a set-point released by a latch takes effect (R112) -/
  alignAt : Option Nat := none
  define : Option Define := none
  disabled : Bool := false
  /-- a command has been given since group 0x02 was disabled while the link was down (R148) -/
  disablePending : Bool := false
  /-- LOOM_SKEIN_CFG (R186) -/
  loomCfg : Word := 0x00000190
  /-- LOOM_SKEIN_PIN (R186) -/
  pin : Word := 0
  /-- PIN_APPLIED is still to be raised (R183) -/
  pinFresh : Bool := false
  level : Nat := 0
  /-- the cap of R164, permille -/
  overCap : Nat := 1000
  /-- capped by shedding (R172) -/
  shed : Bool := false
  /-- device time of the last change of the active set (R170, R181) -/
  lastChange : Nat := 0
  spares : List Nat := []
  hand : Option Handover := none
  /-- the management tick of the last pass that started a handover, or a join that counts as one (R166) -/
  movedAt : Option Nat := none
  /-- the cells that Loom has placed in the mask and that the P-die has not yet applied: STANDBY until it has (R152) -/
  joining : List Nat := []
  reports : List CellOut := []
  learn : Learn := {}
  /-- the effect time of the DUTY, for a cross-device skein (R176) -/
  effect : Nat := 0
  /-- the DUTY was accepted with the Ply link to the partner down: its effect time is that of its acceptance (R176) -/
  kept : Bool := false
  /-- the device whose passed command waits for the set-point in force (R176) -/
  passedFrom : Option Nat := none
  deriving DecidableEq, Repr, Inhabited

/-- A chain entry of Loom (R174, R186). -/
structure ChainEntry where
  cfg : Word := 0
  give : Word := 0x00000014
  /-- STATE: 0 UNUSED, 1 PENDING, 2 ARMED, 3 TAKEN_OVER -/
  state : Nat := 0
  mismatch : Bool := false
  /-- the give-back count (R179); none before its first boundary -/
  count : Option Nat := none
  giveNow : Bool := false
  /-- stage of a running give-back: 0 none, 1 the secondary's cells leave at the next boundary, 2 at the one after it -/
  giving : Nat := 0
  /-- stage of a role swap: 0 none, 3 offered, 2 accepted, 1 the primary's cells leave at the next boundary (R180) -/
  swapping : Nat := 0
  /-- consecutive passes with the dissipation of R180 -/
  hotPasses : Nat := 0
  /-- management tick of the last swap's start (R180) -/
  lastSwap : Option Nat := none
  /-- an entry being written by LOOM_CHAIN_CFG, taken at the next pass (R184) -/
  fresh : Option (Word × Word) := none
  deriving DecidableEq, Repr, Inhabited

/-- What a MIRROR packet carries (R176). -/
inductive MirrorKind where
  /-- the DUTY of a cross-device skein and its effect time -/
  | duty
  /-- a LOAD_SET passed to the driving device -/
  | command
  /-- the driving device's answer to a passed command -/
  | answer
  deriving DecidableEq, Repr, Inhabited

/-- A MIRROR packet (R176): the other device, the receiver's skein, what it carries, a DUTY or a payload word,
the effect time, the status code of an answer. -/
structure MirrorMsg where
  dev : Nat
  skein : Nat
  kind : MirrorKind := .duty
  value : Nat := 0
  effect : Nat := 0
  status : Nat := 0
  deriving DecidableEq, Repr, Inhabited

/-- Loom and the L-die's view of the cell array. -/
structure LoomSt where
  /-- the L-die's copies of the cells, as last read back (R234, R240) -/
  view : Vector CellP 96 := Vector.replicate 96 {}
  roles : Vector Role 96 := Vector.replicate 96 .none
  skeins : Vector SkeinL 48 := Vector.replicate 48 {}
  /-- the L-die's copies of the skeins -/
  skeinView : Vector SkeinP 48 := Vector.replicate 48 {}
  bankView : Vector BankP 12 := Vector.replicate 12 {}
  bankLimit : Vector Word 12 := Vector.replicate 12 0x232807D0
  pkgLimit : Word := 0x3A98
  ctl : Word := 3
  pwrLimit : Word := 0x0708
  pwrEst : Nat := 0
  tjLimit : Word := 0x0000A08C
  chain : Vector ChainEntry 16 := Vector.replicate 16 {}
  /-- the L-die's copy of the PROT registers (R226) -/
  prot : ProtCfg := {}
  /-- DROOP_SEEN of each bank is kept on the L-die's side of the copy -/
  droopSeen : Nat := 0
  /-- WIDENED of each skein, as last read back -/
  widened : Nat := 0
  /-- the lowest priority group shed: 4 none (R172) -/
  shedGroup : Nat := 4
  /-- consecutive passes below 90 % of the limit (R172) -/
  coolPasses : Nat := 0
  /-- the cells whose map entry has reached HOT and has not fallen 5 °C below it, as bits (R202) -/
  hotSeen : Nat := 0
  /-- the rung-4-and-above pauses timed by the L-die: cell and the management tick of its end (R209) -/
  pauses : List (Nat × Nat) := []
  /-- the cells whose pause has run out and whose release mark is to be sent (R209) -/
  releases : List Nat := []
  /-- MIRROR packets waiting to be sent, and those last sent (R176) -/
  mirrors : List MirrorMsg := []
  mirrorsSent : List MirrorMsg := []
  deriving DecidableEq, Repr, Inhabited

/-- The L-die's framer (R236, R252). -/
structure WeftL where
  state : LinkState := .down
  /-- WEFT_CTL.HOLD as the L-die holds it -/
  hold : Nat := 100
  latency : Nat := 0
  fsApplied : Bool := false
  silenceSeen : Bool := false
  /-- the copies of TAMPER, PDIE_WARM and COLD_FS -/
  tamper : Bool := false
  warm : Bool := false
  coldFs : Bool := false
  /-- WEFT_LAST_HOLD -/
  lastExpired : Bool := false
  lastHold : Nat := 0
  nvFail : Bool := false
  /-- the entries of the fail-safe memory whose write is in progress, as bits: skeins 0 to 47, 48 HOLD, 49 and 50 the ports -/
  nvPend : Nat := 0
  /-- the fail-safe entries as last read back: VALID, FS_MODE, WEFT_FS_VAL -/
  fsView : Vector (Bool × Nat × Word) 48 := Vector.replicate 48 (false, 0, 0)
  /-- device time of the start of training, and of the next attempt (R236) -/
  trainStart : Option Nat := none
  retryAt : Option Nat := none
  /-- steps 5 and 6 of R237: the readback cycle has been opened; the slots read back since, and the refresh slots sent, as
  bits -/
  adopting : Bool := false
  readSeen : Nat := 0
  refSeen : Nat := 0
  /-- device time of the start of the last IDLE frame down (R231) -/
  idleAt : Nat := 0
  /-- device time of the last valid up frame -/
  lastUp : Nat := 0
  /-- the EVSEQs held above the acknowledged one, and the acknowledged one (R234) -/
  ack : Nat := 0
  held : List Nat := []
  cfg : List CfgOut := []
  nextId : Nat := 0
  /-- a management tick and the up frames discarded in it (R235) -/
  discards : Nat × Nat := (0, 0)
  /-- the management tick for which discarded frames were last reported (R235) -/
  crcTick : Option Nat := none
  /-- the P-die's counters as they stood when the link last left LIVE (R19, R111) -/
  counterView : Table := []
  /-- down frames are being sent -/
  sending : Bool := false
  deriving DecidableEq, Repr, Inhabited

end Sys2Proof.Machine
end

