-- ==== Sys2Proof/Machine/Parts/Range.lean ====
section
/-! DEFINITION. The state of secure ranging and of the immobiliser release (chapter 16). -/

namespace Sys2Proof.Machine

/-- An anchor (R525). -/
structure Anchor where
  cfg : Word := 0
  /-- the body of the last ROUND sent to it: each named token's index and its 48 encrypted bytes (R503) -/
  sent : List (Nat × List Byte) := []
  /-- GEN of its link slot, recorded as RANGE_ZONE_CFG enabled it (R516) -/
  gen : Nat := 0
  dist : Nat := 0xFFFF
  qual : Nat := 0
  linkErr : Bool := false
  res : Nat := 0
  deriving DecidableEq, Repr, Inhabited

/-- A token (R525). -/
structure Token where
  cfg : Word := 0
  id : Word := 0
  range : Nat := 0xFFFF
  rgen : Nat := 0
  deriving DecidableEq, Repr, Inhabited

/-- A valid answer of the present round: anchor, token, distance in 2 cm units, STS quality. -/
structure ValidAns where
  anc : Nat
  tok : Nat
  dist : Nat
  qual : Nat
  deriving DecidableEq, Repr, Inhabited

/-- A ranging run (R519). -/
structure RangeRun where
  toks : Nat
  ancs : Nat
  /-- the rounds still to come, and the rounds begun -/
  left : Nat
  round : Nat := 0
  immo : Bool := false
  /-- ROUND_T and the start tick of the present or next round -/
  roundT : Nat
  start : Nat
  /-- the command that completes at the first ASYNC edge: slot and tag (R519) -/
  cmd : Option (Nat × Nat) := none
  /-- the anchors of the round still to be visited, and the slot that runs: the anchor, its REPORT as read -/
  todo : List Nat := []
  slot : Option Nat := none
  /-- the tokens named in the present round, each with its 48 bytes of round values: STS key, V and report key (R504) -/
  named : List (Nat × List Byte) := []
  /-- index of the slot that comes next in the round -/
  ix : Nat := 0
  /-- the REPORT of the slot: the preamble first path, if any, and the answers; none where it was lost -/
  report : Option (Option Nat × List TokAnswer) := none
  read : Bool := false
  /-- the slot results and the valid answers of the round -/
  results : List Nat := []
  answers : List ValidAns := []
  /-- the round is under way -/
  busy : Bool := false
  /-- the RUN_END code with which the run ends at the end of its present round -/
  stop : Option Nat := none
  deriving DecidableEq, Repr, Inhabited

/-- Secure ranging. -/
structure RangeSt where
  rf : Word := 0x01400900
  chk : Word := 0x203C0040
  lock : Word := 0x00050003
  anc : Vector Anchor 6 := Vector.replicate 6 {}
  tok : Vector Token 8 := Vector.replicate 8 {}
  /-- RANGE_ZONEz_LIM0 and LIM1 -/
  zones : Vector (Word × Word) 8 := Vector.replicate 8 (0, 0x00010000)
  immo : Word := 0
  handle : Nat := 0
  immoFailed : Bool := false
  zone : Nat := 15
  winner : Nat := 15
  outcome : Nat := 0
  invalidSeen : Bool := false
  /-- the candidate zone of the last rounds and how many have given it (R511) -/
  cand : Nat := 15
  candRun : Nat := 0
  fails : Nat := 0
  level : Nat := 0
  /-- the management tick at which the lock-out ends (R512) -/
  lockEnd : Option Nat := none
  /-- RCTR and the value saved (R505) -/
  rctr : Nat := 0
  saved : Nat := 0
  runNo : Nat := 0
  roundNo : Nat := 0
  run : Option RangeRun := none
  /-- the first ASYNC tick of the last round -/
  async : Nat := 0
  deriving DecidableEq, Repr, Inhabited

end Sys2Proof.Machine
end

