-- ==== Sys2Proof/Machine/Parts/Store.lean ====
section
/-! DEFINITION. The state of the configuration store and of firmware update (chapter 17), MRAM's content included. -/

namespace Sys2Proof.Machine

/-- A record of the configuration store (R531). -/
structure CfgRec where
  cls : Nat
  inst : Nat
  data : List Word := []
  deriving DecidableEq, Repr, Inhabited

/-- A configuration bank (R529). -/
structure CfgBank where
  /-- its CRC verifies -/
  valid : Bool := true
  cfmt : Nat := 1
  seq : Nat := 0
  recs : List CfgRec := []
  deriving DecidableEq, Repr, Inhabited

/-- A change of the stored configuration: the classes whose records go, as bits, and the records that come; a record
without data deletes its instance (R530, R534). -/
structure CfgEdit where
  clear : Nat := 0
  recs : List CfgRec := []
  deriving DecidableEq, Repr, Inhabited

/-- The fields of an image descriptor that the device uses (R536). -/
structure ImgDesc where
  version : Nat := 0
  arb : Nat := 0
  nblk : Nat := 0
  len : Nat := 0
  srecNew : Nat := 1
  srecMin : Nat := 1
  cfmtNew : Nat := 1
  cfmtMin : Nat := 1
  imgHash : List Byte := []
  tblHash : List Byte := []
  deriving DecidableEq, Repr, Inhabited

/-- A firmware bank (R528). -/
structure FwBank where
  /-- the descriptor at its head; none where the bank has no valid descriptor -/
  desc : Option ImgDesc := none
  /-- the image has been verified (OTHER_VALID, R544) -/
  verified : Bool := false
  /-- the block-check table, and the blocks received, each of 128 words, in rising order of their index -/
  checks : Table := []
  blocks : List (Nat × List Word) := []
  deriving DecidableEq, Repr, Inhabited

/-- The boot record (R538, R546). -/
structure BootRec where
  /-- the bank named active, true for B; in TRIAL, the candidate runs and this is the fallback -/
  fallback : Bool := false
  candidate : Bool := false
  trial : Bool := false
  deriving DecidableEq, Repr, Inhabited

/-- An MRAM operation of the update flow (R544, R546, R551, R601). -/
inductive UpdOp where
  | verify | fallbackCopy | bootTrial | bootConfirm
  deriving DecidableEq, Repr, Inhabited

/-- The update engine (R540, R541). -/
structure UpdSt where
  /-- STATE: 0 IDLE, 1 RECEIVING, 2 VERIFIED, 3 COMMITTING, 4 TRIAL -/
  state : Nat := 0
  slot : Nat := 0
  /-- a session is held -/
  held : Bool := false
  /-- the indices of the blocks received and checked in this session -/
  got : List Nat := []
  /-- the management tick at which the session ends for want of an accepted opcode (R541) -/
  idleEnd : Nat := 0
  /-- the MRAM operation in progress -/
  op : Option UpdOp := none
  /-- the commit of a recovery start (R601) -/
  recovery : Bool := false
  /-- both writes of the commit are verified, and the handover comes at the next boundary (R546) -/
  armed : Bool := false
  /-- device time of the handover boundary, while the handover runs (R547) -/
  handover : Option Nat := none
  /-- the management tick from which TRIAL_T counts (R550) -/
  trialFrom : Nat := 0
  /-- a revert of the trial image is under way: its REVERTED code (R550) -/
  reverting : Option Nat := none
  /-- the holder slot's count of ended sessions at UPDATE_BEGIN (R541) -/
  ends : Nat := 0
  /-- UPDATE_CONFIRM has raised the counter's programming, which is still to end (R551) -/
  raising : Bool := false
  deriving DecidableEq, Repr, Inhabited

/-- The store controller. -/
structure StoreSt where
  /-- the configuration banks as shipped (R598) -/
  banks : Vector CfgBank 2 := #v[{ seq := 1 }, { seq := 0 }]
  /-- the authoritative bank; none where no bank is valid -/
  auth : Option Nat := some 0
  /-- the changes that wait for the next boundary, in the order of their dispatch (R530) -/
  edits : List CfgEdit := []
  /-- the changes that the bank write in progress carries, and its failed attempts -/
  writing : Option (List CfgEdit) := none
  tries : Nat := 0
  /-- bank writes started, which number the writes -/
  writes : Nat := 0
  /-- the writes that have ended in a handover's pause, and whether each has verified: their commands wait (R530) -/
  ended : List (Nat × Bool) := []
  degraded : Bool := false
  /-- the device's own items as last handed to the store (R532) -/
  dev : List CfgRec := []
  /-- records of a start that wait for a skein's definition to complete (R605) -/
  later : List CfgRec := []
  staging : List CfgRec := []
  /-- an OBJECT 1 has completed since the last L-die reset (R633) -/
  staged : Bool := false
  /-- the FALLBACK copy (R549) -/
  fallback : Option CfgBank := none
  fw : Vector FwBank 2 := #v[{ desc := some { version := 0x01000000, nblk := 1, len := 1 }, verified := true }, {}]
  boot : BootRec := {}
  /-- the running firmware bank, true for B -/
  running : Bool := false
  upd : UpdSt := {}
  /-- STORE_UPD_CFG.TRIAL_T -/
  trialT : Nat := 0
  /-- STORE_HANDOVER: RESULT and PAUSE -/
  result : Nat := 0
  pause : Nat := 0
  /-- the REVERTED code that UPDATE_STATUS carries after the restart (R550, R553) -/
  reverted : Option Nat := none
  /-- the events of a start that wait for their slots' binding: reason and code (R553) -/
  notes : List (Nat × Nat) := []
  deriving DecidableEq, Repr, Inhabited

end Sys2Proof.Machine
end

