-- ==== Sys2Proof/Machine/State.lean ====
section
/-! DEFINITION. The state of the block, its faults and refusals, and the state right after reset. -/

namespace Sys2Proof.Machine

/-- Why the machine stops with a fault. No command of this block faults: the constructor is raised by no
meaning, and stands so that the type has a member (safe). -/
inductive Fault where
  /-- raised by nothing (safe) -/
  | unreached
  deriving DecidableEq, Repr

/-- Why a command is refused. -/
inductive Refusal where
  /-- raised by exec's arm of a command that has no meaning yet (safe) -/
  | notModelled (mnemonic : String)
  deriving DecidableEq, Repr

/-- The condition of the L-die. -/
inductive LDie where
  /-- unpowered, or held in reset -/
  | off
  /-- out of reset, the firmware not yet started (R597) -/
  | starting
  /-- the firmware runs and the ports accept requests (R597) -/
  | running
  /-- the recovery loader runs in place of the firmware (R599) -/
  | recovery
  /-- halted after an L4 reaction (R445) -/
  | halted
  deriving DecidableEq, Repr, Inhabited

/-- The state of the block: the queue of commands, and every register, memory, counter and mode of the two dies. -/
structure State where
  /-- the commands that are waiting, first in, first out -/
  pending : List Instr := []
  /-- device time of the L-die, ticks (R9) -/
  now : Nat := 0
  /-- the P-die's copy of device time (R20) -/
  pNow : Nat := 0
  /-- the model's own count of the free values taken (log entry 2) -/
  free : Nat := 0
  /-- the counters that events raise, by counter index (the counter rules of every chapter) -/
  counters : Table := []
  ldie : LDie := .starting
  /-- the straps as sampled (R49, R52) -/
  deviceId : Nat := 0
  split : Bool := false
  bootsel : Bool := false
  host : HostSt := {}
  loom : LoomSt := {}
  pdie : PDie := {}
  weft : WeftL := {}
  act : ActSt := {}
  light : LightSt := {}
  fio : FioL := {}
  can : CanSt := {}
  nm : NmSt := {}
  keys : KeySt := {}
  otp : Otp := {}
  range : RangeSt := {}
  store : StoreSt := {}
  spindle : Spindle := {}
  faults : FaultSt := {}
  clk : ClkSt := {}
  deriving DecidableEq, Repr

/-- The machine right after reset: both dies have just been released from power-on, which is the reset values of every register
(R568); the request that sets VCORE to REG_VCORE.SET waits at the regulator port (R583). The fields for which the spec
gives no value are named in log entry 1. -/
def State.reset : State := { clk := { reqs := [{ rail := 0, kind := .vout 3686 }] } }

end Sys2Proof.Machine
end

