-- ==== Sys2Proof/Machine/Ops.lean ====
section
/-! DEFINITION. The operations that the meanings share: the two clocks, counters, free values, the output
path of responses and events (R72, R78, R105 to R107), and the life of a command in flight (R78 to R87). -/

namespace Sys2Proof.Machine

/-! ### The fields of an actuator profile (R271) -/

/-- KIND. -/
def ActProfile.kind (p : ActProfile) : Nat := fld 17 16 p.bind
/-- LS_USED, always 1 for BANK. -/
def ActProfile.lsUsed (p : ActProfile) : Bool := p.kind == 2 || bit 15 p.bind
/-- LSKEIN. -/
def ActProfile.lskein (p : ActProfile) : Nat := fld 13 8 p.bind
/-- HSKEIN. -/
def ActProfile.hskein (p : ActProfile) : Nat := fld 5 0 p.bind
/-- I_HOLD, 10 mA. -/
def ActProfile.iHold (p : ActProfile) : Nat := fld 31 16 p.cur
/-- I_PEAK, 10 mA. -/
def ActProfile.iPeak (p : ActProfile) : Nat := fld 15 0 p.cur
/-- HOLD_T, ms. -/
def ActProfile.holdT (p : ActProfile) : Nat := fld 31 16 p.time
/-- PEAK_MAX, 10 µs. -/
def ActProfile.peakMax (p : ActProfile) : Nat := fld 15 0 p.time
/-- REL_T, 0.1 ms. -/
def ActProfile.relT (p : ActProfile) : Nat := fld 31 24 p.chop
/-- TOFF_HOLD, µs. -/
def ActProfile.toffHold (p : ActProfile) : Nat := fld 21 12 p.chop
/-- TOFF_PEAK, µs. -/
def ActProfile.toffPeak (p : ActProfile) : Nat := fld 9 0 p.chop
/-- LCOIL, 0.1 mH. -/
def ActProfile.lcoil (p : ActProfile) : Nat := fld 31 16 p.decay
/-- MIX_T, µs. -/
def ActProfile.mixT (p : ActProfile) : Nat := fld 15 8 p.decay
/-- REL_DEC. -/
def ActProfile.relDec (p : ActProfile) : Nat := fld 7 6 p.decay
/-- PH_DEC. -/
def ActProfile.phDec (p : ActProfile) : Nat := fld 5 4 p.decay
/-- HOLD_DEC. -/
def ActProfile.holdDec (p : ActProfile) : Nat := fld 3 2 p.decay
/-- PEAK_DEC. -/
def ActProfile.peakDec (p : ActProfile) : Nat := fld 1 0 p.decay
/-- KINK_EXT, 10 µs. -/
def ActProfile.kinkExt (p : ActProfile) : Nat := fld 31 24 p.kink
/-- KINK_BLANK, 0.1 ms. -/
def ActProfile.kinkBlank (p : ActProfile) : Nat := fld 23 16 p.kink
/-- KINK_DI, 10 mA. -/
def ActProfile.kinkDi (p : ActProfile) : Nat := fld 15 10 p.kink
/-- KINK_DV, 0.25 V. -/
def ActProfile.kinkDv (p : ActProfile) : Nat := fld 9 5 p.kink
/-- KINK_N. -/
def ActProfile.kinkN (p : ActProfile) : Nat := fld 4 2 p.kink
/-- KINK_END. -/
def ActProfile.kinkEnds (p : ActProfile) : Bool := bit 1 p.kink
/-- KINK_EN. -/
def ActProfile.kinkEn (p : ActProfile) : Bool := bit 0 p.kink
/-- The skeins that a bound slot names. -/
def ActProfile.skeins (p : ActProfile) : List Nat :=
  if p.kind = 0 then [] else p.hskein :: (if p.lsUsed then [p.lskein] else [])
/-- The chopping skein (R254). -/
def ActProfile.chopper (p : ActProfile) : Nat := if p.kind = 2 then p.lskein else p.hskein

/-! ### Device time -/

/-- The ticks by which the P-die has slewed its copy of device time, since the last time exchange, at the L-die's tick t: towards
the difference that the exchange has measured, by no more than 1 tick in every 1,000 (R238). -/
def slewed (p : PDie) (t : Nat) : Int :=
  let most : Int := (((t - p.slewFrom) / 1000 : Nat) : Int)
  max (-most) (min most p.slewBy)

/-- Device time moved to tick t of the L-die; the P-die's copy moves with it, at its slewed rate (R20, R238). Time never runs
backwards: an earlier t changes nothing. -/
def toL (t : Nat) (s : State) : State :=
  let n := max s.now t
  { s with now := n, pNow := s.pNow + ((n - s.now : Nat) + (slewed s.pdie n - slewed s.pdie s.now)).toNat }

/-- Device time moved to tick t of the P-die's copy; the L-die's moves with it. -/
def toP (t : Nat) (s : State) : State :=
  let n := s.now + (t - s.pNow)
  { s with pNow := max s.pNow t, now := s.now + ((t - s.pNow : Nat) - (slewed s.pdie n - slewed s.pdie s.now)).toNat }

/-- Device time: the 64-bit count of ticks of 5 ns (R9). State.now is the same count without its wrap, which comes 2,900 years after
the start (log entry 4). -/
def deviceTime (s : State) : BitVec 64 := BitVec.ofNat 64 s.now

/-- Ticks in one management tick (R9). -/
def mgmtTicks : Nat := 1000000

/-- The management tick in which the L-die's device time lies (R21). -/
def mgmtNow (s : State) : Nat := s.now / mgmtTicks

/-- The first management tick at or after the present (R11). -/
def mgmtStart (s : State) : Nat := ceilDiv s.now mgmtTicks

/-- The number of management ticks that n ms count for (R11, R451). -/
def msTicks (ms : Nat) : Nat := ceilDiv ms 5

/-! ### Parts of the state -/

/-- The state with its host side changed. -/
def modHost (f : HostSt → HostSt) (s : State) : State := { s with host := f s.host }
/-- The state with Loom's side changed. -/
def modLoom (f : LoomSt → LoomSt) (s : State) : State := { s with loom := f s.loom }
/-- The state with the P-die changed. -/
def modP (f : PDie → PDie) (s : State) : State := { s with pdie := f s.pdie }
/-- The state with the L-die's framer changed. -/
def modWeft (f : WeftL → WeftL) (s : State) : State := { s with weft := f s.weft }
/-- The state with the fault collector changed. -/
def modFaults (f : FaultSt → FaultSt) (s : State) : State := { s with faults := f s.faults }
/-- The state with the core complex changed. -/
def modSpindle (f : Spindle → Spindle) (s : State) : State := { s with spindle := f s.spindle }

/-- Host slot n. -/
def slotOf (n : Nat) (s : State) : Slot := nth s.host.slots n
/-- Host slot n changed by f. -/
def modSlot (n : Nat) (f : Slot → Slot) (s : State) : State :=
  modHost (fun h => { h with slots := upd h.slots n f }) s
/-- The L-die's skein k. -/
def skL (k : Nat) (s : State) : SkeinL := nth s.loom.skeins k
/-- The L-die's skein k changed by f. -/
def modSkL (k : Nat) (f : SkeinL → SkeinL) (s : State) : State :=
  modLoom (fun l => { l with skeins := upd l.skeins k f }) s
/-- The P-die's skein k. -/
def skP (k : Nat) (s : State) : SkeinP := nth s.pdie.skeins k
/-- The P-die's skein k changed by f. -/
def modSkP (k : Nat) (f : SkeinP → SkeinP) (s : State) : State :=
  modP (fun p => { p with skeins := upd p.skeins k f }) s
/-- The P-die's cell n. -/
def cellP (n : Nat) (s : State) : CellP := nth s.pdie.cells n
/-- The P-die's cell n changed by f. -/
def modCell (n : Nat) (f : CellP → CellP) (s : State) : State :=
  modP (fun p => { p with cells := upd p.cells n f }) s

/-- The condition that the Weft link is LIVE (R236, R240). -/
def linkLive (s : State) : Bool := s.weft.state == .live

/-- The host ports accept requests (R597). -/
def hostUp (s : State) : Bool := s.ldie == .running || s.ldie == .recovery

/-! ### Counters -/

/-- Counter i of a block raised by n, modulo 2^32. -/
def bumpBy (i n : Nat) (s : State) : State := { s with counters := s.counters.add 32 i n }
/-- Counter i raised by one. -/
def bump (i : Nat) (s : State) : State := bumpBy i 1 s
/-- The 64-bit counter at i and i + 1, low word first, raised by one. -/
def bump64 (i : Nat) (s : State) : State :=
  if s.counters.get i + 1 = 2 ^ 32 then bump (i + 1) (bump i s) else bump i s

/-- Counter number c of block b as a counter index (R108). -/
abbrev ctr (b c : Nat) : Nat := b * 65536 + c

/-- The counters that the P-die holds, by counter index: they live on through an L-die reset, and a set latched without the
link lacks them (R110; R150, R227, R253, R310, R338, R409). -/
def pdieCounter (i : Nat) : Bool :=
  let n := i % 65536
  match i / 65536 with
  | 0x04 => decide (n < 0x180)
  | 0x05 => decide (n < 0x200)
  | 0x07 => decide (n < 0x100)
  | 0x08 => true
  | 0x09 => n == 0 || n == 2 || n == 3
  | 0x0B => decide (n < 0x100)
  | _ => false

/-! ### Free values -/

/-- A free word, and the state whose next free word is another one. -/
def freeWord (s : State) : Word × State := (Config.freeWord s.free, { s with free := s.free + 1 })
/-- n free words (log entry 2). -/
def freeWords : Nat → State → List Word × State
  | 0, s => ([], s)
  | n + 1, s =>
    let (w, s) := freeWord s
    let (l, s) := freeWords n s
    (w :: l, s)

/-- n free bytes. -/
def freeBytes (n : Nat) (s : State) : List Byte × State :=
  ((List.range n).map (fun i => Config.freeByte (s.free + i)), { s with free := s.free + n })

/-! ### Ports and frames -/

/-- The index of a port. -/
def portIx : Port → Nat
  | .qspi => 0 | .mac0 => 1 | .mac1 => 2 | .plyUp => 3 | .plyDown => 4
/-- The port of an index. -/
def ixPort : Nat → Port
  | 0 => .qspi | 1 => .mac0 | 2 => .mac1 | 3 => .plyUp | _ => .plyDown
/-- PORT of HOST_SLOT_STATn: 0 none (R104). -/
def portCode : Option Port → Nat
  | none => 0
  | some p => portIx p + 1

/-- The code of a status (R96). -/
def Status.code : Status → Nat
  | .done => 0 | .queued => 1 | .badMagic => 0x100 | .badCrc => 0x101 | .badOpcode => 0x102
  | .badLength => 0x103 | .tagInUse => 0x104 | .badObject => 0x105 | .notPermitted => 0x200
  | .authFail => 0x201 | .replay => 0x202 | .busy => 0x300 | .abortedDisabled => 0x301
  | .abortedReset => 0x302 | .expired => 0x303 | .faultActive => 0x400 | .lockedOut => 0x401
  | .budgetExceeded => 0x402 | .keyStale => 0x500 | .keyAttr => 0x501 | .storeFail => 0x600
  | .versionRollback => 0x601 | .signatureFail => 0x602 | .blockCheckFail => 0x603

/-- The status of a code; BAD_OBJECT for a code that is none (R96). -/
def Status.ofCode (c : Nat) : Status :=
  ([.done, .queued, .badMagic, .badCrc, .badOpcode, .badLength, .tagInUse, .badObject, .notPermitted, .authFail,
    .replay, .busy, .abortedDisabled, .abortedReset, .expired, .faultActive, .lockedOut, .budgetExceeded, .keyStale,
    .keyAttr, .storeFail, .versionRollback, .signatureFail, .blockCheckFail].find?
      (fun x => Status.code x == c)).getD .badObject

/-- The bytes of a key. -/
def keyBytes (k : BitVec 128) : List Byte := bytesBE 16 k.toNat

/-- The bytes of an output frame: header, payload, CRC-32C and, on an authenticated slot, the CMAC
(R69, R70, R72). -/
def OutFrame.bytes (f : OutFrame) : List Byte :=
  if f.kind == .forwarded then f.raw else
  let body := bytesLE 1 0xB8 ++ bytesLE 1 0x02 ++ bytesLE 2 f.opcode ++ bytesLE 1 f.tag ++
    bytesLE 1 f.byte5 ++ bytesLE 2 (4 * f.payload.length) ++ bytesLE 2 f.status ++ bytesLE 2 f.credit ++
    bytesLE 4 f.time ++ wordsToBytes f.payload
  let withCrc := body ++ bytesLE 4 (crc32c body).toNat
  match f.key with
  | none => withCrc
  | some k => withCrc ++ (cmac (keyBytes k) (withCrc ++ bytesLE 4 f.authVal)).take 8

/-- A frame put at the end of a port's output (R107); its signature is a key load (R475). -/
def pushOut (p : Port) (f : OutFrame) (s : State) : State :=
  let s := if f.key.isSome then bump (ctr 0x0D 0) s else s
  let add := fun (b : PortBuf) => { b with output := b.output ++ [f] }
  modHost (fun h => { h with ports := upd h.ports (portIx p) add }) s

/-- The tags of slot n that are held (R78). -/
def heldTags (n : Nat) (s : State) : Nat := (s.host.flight.filter (fun e => e.req.slot == n)).length
/-- FREE_TAGS of slot n (R104). -/
def freeTags (n : Nat) (s : State) : Nat := 256 - heldTags n s
/-- CREDIT: the tags of slot n that are free once every response queued so far has been sent (R72, log
entry 13). -/
def creditOf (n : Nat) (s : State) : Nat :=
  256 - (s.host.flight.filter (fun e => e.req.slot == n && e.stage != .answered)).length

/-- Byte 5 of a response: SLOT and DEVICE echoed, and INTERIM (R72). -/
def byte5 (r : Req) (interim : Bool) : Nat := (r.slot % 4) * 64 + (r.device % 4) * 16 + b2n interim

/-! ### Events -/

/-- The events of slot n waiting in its port's output or leaving it: the entries of its event queue that
are taken (R106). -/
def eventsQueued (n : Nat) (s : State) : Nat :=
  (s.host.ports.toList.map (fun b =>
    (b.output.filter (fun f => f.kind == .event && f.slot == n)).length)).sum +
  (s.host.shifting.filter (fun f => f.kind == .event && f.slot == n)).length

/-- An event given its EVSEQ and put in slot n's port output, whether or not the queue is full. -/
def sendEvent (n opc t : Nat) (payload : List Word) (s : State) : State :=
  let sl := slotOf n s
  match sl.port with
  | none => s
  | some p =>
    let f : OutFrame :=
      { kind := .event, slot := n, opcode := opc, tag := 0
        byte5 := (n % 4) * 64 + (s.deviceId % 4) * 16, status := 0, credit := sl.evSeq
        time := t % 2 ^ 32, payload := payload, key := sl.session.map (fun x => x.key)
        authVal := sl.evSeq, peer := sl.peer }
    modSlot n (fun sl => { sl with evSeq := (sl.evSeq + 1) % 65536 }) (pushOut p f s)

/-- An event for slot n: queued, or dropped and counted where the queue holds 64 (R106). -/
def queueEvent (n opc t : Nat) (payload : List Word) (s : State) : State :=
  if eventsQueued n s < 64 then sendEvent n opc t payload s
  else modSlot n (fun sl => { sl with dropped := sl.dropped + 1, evSeq := (sl.evSeq + 1) % 65536 }) s

/-- The mask of slot n selects event opcode opc; events 0x0F00 and 0x0F01 are always sent (R104). -/
def selects (n opc : Nat) (s : State) : Bool :=
  opc - 0xF00 < 2 || bit (opc - 0xF00) (slotOf n s).mask

/-- An event that arose at tick t, for every bound slot whose mask selects it (R106). -/
def postEventAt (t opc : Nat) (payload : List Word) (s : State) : State :=
  (List.range 4).foldl (fun s n =>
    if (slotOf n s).port.isSome && selects n opc s then queueEvent n opc t payload s else s) s

/-- An event that arises now. -/
def postEvent (opc : Nat) (payload : List Word) (s : State) : State := postEventAt s.now opc payload s

/-- Once an entry of slot n's queue has freed: EVENT_OVERFLOW with the count of the dropped events (R106). -/
def overflowEvent (n : Nat) (s : State) : State :=
  let d := (slotOf n s).dropped
  if d = 0 then s
  else modSlot n (fun sl => { sl with dropped := 0 }) (sendEvent n 0xF00 s.now [word d] s)

/-- The events held for slot n's binding: DEVICE_RESTARTED, then FAULT with reason RESTART, then those that the start raised
(R87, R579), each with the time at which it arose (R72). The 64-bit device time in the payload of DEVICE_RESTARTED is that same
time: the spec does not say which moment's it is (DESIGN CHOICE, log entry 43; R105). -/
def sendHeld (n : Nat) (s : State) : State :=
  let sl := slotOf n s
  let s := match sl.heldRestart with
    | none => s
    | some reason => queueEvent n 0xF01 sl.heldAt (word reason :: natToWords 2 sl.heldAt) s
  let s := match sl.heldFault with
    | none => s
    | some ws => queueEvent n 0xF02 sl.heldAt ws s
  let s := sl.heldMore.foldl (fun s x => queueEvent n x.1 x.2.1 x.2.2 s) s
  modSlot n (fun sl => { sl with heldRestart := none, heldFault := none, heldMore := [] }) s

/-- The held events that the masks, as the start has restored them, do not select are held no longer (R87). -/
def keepHeld (s : State) : State :=
  (List.range 4).foldl (fun s n => modSlot n (fun sl =>
    { sl with heldFault := if selects n 0xF02 s then sl.heldFault else none
              heldMore := sl.heldMore.filter (fun x => selects n x.1 s) }) s) s

/-! ### Commands in flight -/

/-- The same command: a slot's tag names it (R78). -/
def sameCmd (a b : Entry) : Bool := a.req.slot == b.req.slot && a.req.tag == b.req.tag

/-- Every command in flight changed by f. -/
def modFlight (f : List Entry → List Entry) (s : State) : State :=
  modHost (fun h => { h with flight := f h.flight }) s

/-- The entry of command e changed by f. -/
def modEntry (e : Entry) (f : Entry → Entry) (s : State) : State :=
  modFlight (fun l => l.map (fun x => if sameCmd x e then f x else x)) s

/-- Where an answer to request r goes on a MAC: to the peer whose request bound the slot to its port, else to the sender (R416). -/
def replyPeer (r : Req) (s : State) : Peer :=
  if (slotOf r.slot s).port == some r.port then (slotOf r.slot s).peer else r.peer

/-- The response frame of a command. -/
def responseFrame (e : Entry) (kind : OutKind) (st : Status) (t : Nat) (payload : List Word) (s : State) :
    OutFrame :=
  { kind := kind, slot := e.req.slot, opcode := e.op, tag := e.req.tag
    byte5 := byte5 e.req (kind == .interim), status := st.code, credit := creditOf e.req.slot s
    time := t % 2 ^ 32, payload := payload, key := e.key, authVal := e.req.seq, peer := replyPeer e.req s }

/-- The end of slot n's session and binding (R93, R95). -/
def endSession (n : Nat) (s : State) : State :=
  modSlot n (fun sl =>
    { sl with session := none, port := none, shaOpen := false
              ends := sl.ends + (if sl.session.isSome then 1 else 0)
              shaState := [], shaRest := [], shaLen := 0 }) s

/-- The key that signs the response to command e: that of its entry in flight, which a SESSION_OPEN may have changed (R70, R90). -/
def liveKey (e : Entry) (s : State) : Option (BitVec 128) :=
  match s.host.flight.find? (fun x => sameCmd x e) with
  | some x => x.key
  | none => e.key

/-- A final response: the command completes at tick t with a status and a payload. With NORESP and status
DONE its tag is freed at once; else the response is queued, and the tag is held until it has left (R78,
R83). -/
def completeAt (t : Nat) (e : Entry) (st : Status) (payload : List Word) (s : State) : State :=
  if e.req.noresp && st == .done then
    modFlight (fun l => l.filter (fun x => !sameCmd x e)) s
  else
    let s := modEntry e (fun x => { x with stage := .answered, await := .none }) s
    pushOut e.req.port (responseFrame { e with key := liveKey e s } .final st t payload s) s

/-- The commands of slot n that have not completed (R95). -/
def openCommands (n : Nat) (s : State) : List Entry :=
  s.host.flight.filter (fun e => e.req.slot == n && e.stage != .answered)

/-- A SESSION_CLOSE that waits for its slot's other commands completes once they have, and the session and
the binding end (R95). -/
def closeSlot (n : Nat) (s : State) : State :=
  let l := openCommands n s
  if !l.isEmpty && l.all (fun e => e.await == .slotEmpty) then
    endSession n (l.foldl (fun s e => completeAt s.now e .done [] s) s)
  else s

/-- A command completes now; a SESSION_CLOSE of its slot may then complete (R95). -/
def complete (e : Entry) (st : Status) (payload : List Word) (s : State) : State :=
  closeSlot e.req.slot (completeAt s.now e st payload s)

/-- The interim response QUEUED, given once (R73, R83). -/
def giveQueued (e : Entry) (s : State) : State :=
  if e.queued then s else
  let s := modEntry e (fun x => { x with queued := true }) s
  if e.req.noresp then s
  else pushOut e.req.port (responseFrame e .interim .queued e.accepted [] s) s

/-- What a command still waits for once a has happened. -/
def awaitLess (a : Await) (e : Entry) : List Await := (e.await :: e.more).filter (fun x => x != a)

/-- A command that waits for a, and for others too, waits on; one that waits for nothing else completes; one whose
report failed completes at once. -/
def awaited (a : Await) (st : Status) (f : Entry → List Word) (s : State) (e : Entry) : State :=
  match awaitLess a e with
  | x :: rest =>
    if st == .done then modEntry e (fun y => { y with await := x, more := rest }) s else complete e st (f e) s
  | [] => complete e st (f e) s

/-- Every command that waits for a completes with a status and the payload that f gives it, or waits on for
what else it needs. -/
def completeAll (a : Await) (st : Status) (f : Entry → List Word) (s : State) : State :=
  (s.host.flight.filter (fun e => e.stage == .taken && (e.await :: e.more).contains a)).foldl (awaited a st f) s

/-- Every command in flight that has not completed and that p picks completes with a status (R85, R86). -/
def abortWhere (p : Entry → Bool) (st : Status) (s : State) : State :=
  (s.host.flight.filter (fun e => e.stage != .answered && p e)).foldl (fun s e => complete e st [] s) s

/-- The opcode group of an opcode (R85). -/
def groupOf (op : Nat) : Nat := op / 256

/-- Function group g is disabled (R85). -/
def groupOff (g : Nat) (s : State) : Bool := s.host.disabled.testBit g

end Sys2Proof.Machine
end

