-- ==== Sys2Proof/Machine/Faults.lean ====
section
/-! DEFINITION. The fault collector's decision: the sources of R443, capture and sticky bits (R454),
escalation (R450), the FAULT event (R456) and the reactions (R445 to R449). -/

namespace Sys2Proof.Machine

/-- The fixed class, default level and default L3 form (0 WARM) of a source; none where the number is no
source (R443, and the chapters that number their own sources). -/
def srcInfo (n : Nat) : Option (Nat × Nat) :=
  match n with
  | 0x000 => some (0, 0) | 0x001 => some (1, 0) | 0x002 => some (2, 1) | 0x003 => some (0, 0)
  | 0x004 => some (3, 3) | 0x005 => some (0, 0)
  | 0x020 => some (1, 0) | 0x021 => some (0, 0) | 0x022 => some (0, 0) | 0x023 => some (1, 0)
  | 0x024 => some (2, 0)
  | 0x040 => some (3, 3) | 0x041 => some (4, 3) | 0x042 => some (4, 3) | 0x043 => some (3, 3)
  | 0x044 => some (0, 0)
  | 0x060 => some (0, 0) | 0x061 => some (1, 0) | 0x062 => some (2, 0) | 0x063 => some (2, 0)
  | 0x064 => some (1, 0) | 0x065 => some (1, 0)
  | 0x0A0 => some (0, 0) | 0x0A1 => some (0, 0) | 0x0A2 => some (1, 0) | 0x0A3 => some (1, 0)
  | 0x0A4 => some (1, 0) | 0x0A5 => some (2, 0) | 0x0A6 => some (3, 1) | 0x0A7 => some (2, 0)
  | 0x0A8 => some (2, 0) | 0x0A9 => some (1, 0) | 0x0AA => some (0, 0) | 0x0AB => some (1, 0)
  | 0x0AC => some (1, 0) | 0x0AD => some (1, 0) | 0x0AE => some (0, 0)
  | 0x0C0 => some (2, 0) | 0x0C1 => some (0, 0) | 0x0C2 => some (1, 0)
  | 0x0E0 => some (0, 0) | 0x0E1 => some (1, 0) | 0x0E2 => some (0, 0) | 0x0E3 => some (1, 0)
  | 0x0E4 => some (0, 0) | 0x0E5 => some (1, 0)
  | 0x100 => some (1, 0)
  | 0x120 => some (0, 0) | 0x121 => some (2, 0) | 0x122 => some (2, 0) | 0x123 => some (1, 0)
  | 0x124 => some (1, 0) | 0x125 => some (2, 0)
  | 0x140 => some (1, 0) | 0x141 => some (2, 0) | 0x142 => some (0, 0) | 0x143 => some (0, 0)
  | 0x144 => some (1, 0) | 0x145 => some (1, 0) | 0x146 => some (1, 0)
  | 0x160 => some (1, 0) | 0x161 => some (1, 0) | 0x162 => some (0, 0) | 0x163 => some (0, 0)
  | 0x164 => some (0, 0)
  | 0x180 => some (1, 0) | 0x181 => some (0, 0) | 0x182 => some (2, 0) | 0x183 => some (1, 0)
  | 0x184 => some (2, 0)
  | 0x1A0 => some (3, 0) | 0x1A1 => some (1, 0) | 0x1A2 => some (2, 0) | 0x1A3 => some (2, 0)
  | 0x1C0 => some (1, 0) | 0x1C1 => some (1, 0) | 0x1C2 => some (2, 0) | 0x1C3 => some (2, 0)
  | 0x1C4 => some (2, 0) | 0x1C5 => some (1, 0)
  | 0x200 => some (2, 0) | 0x201 => some (1, 0) | 0x202 => some (2, 0) | 0x203 => some (3, 3)
  | 0x204 => some (2, 0) | 0x205 => some (2, 0) | 0x206 => some (1, 0)
  | _ => none

/-- The reaction in force for a source: its level and its L3 form, true for CHIP (R443, R463). -/
def reactionOf (n : Nat) (s : State) : Nat × Bool :=
  let v := s.faults.react.get n
  if v = 0 then (((srcInfo n).map (fun x => x.2)).getD 0, n == 0x203) else (v % 8, v / 8 % 2 == 1)

/-- A report to the collector (R444): source, instance, detail of W2, the faulting address, access type and
master of R455, the tick of detection, and the lowest and highest level that may be taken (R439, R448). -/
structure Report where
  src : Nat
  inst : Nat := 0xFF
  detail : Nat := 0
  addr : Word := 0
  access : Nat := 0
  master : Nat := 0
  tick : Nat
  minLevel : Nat := 0
  maxLevel : Nat := 4
  deriving DecidableEq, Repr, Inhabited

/-- Fault class c. -/
def clsOf (c : Nat) (s : State) : FaultClass := nth s.faults.cls c
/-- Fault class c changed by f. -/
def modCls (c : Nat) (f : FaultClass → FaultClass) (s : State) : State :=
  modFaults (fun x => { x with cls := upd x.cls c f }) s

/-- FAULT_CLASSc_STAT (R466). -/
def clsStat (c : FaultClass) : Word :=
  pack [(16, c.recoveries), (8, c.episode), (1, b2n c.escalated), (0, b2n c.active)]

/-- W0 of a fault, without VALID (R454). -/
def faultW0 (cls lvl : Nat) (esc : Bool) (r : Report) : Word :=
  pack [(28, cls), (27, b2n esc), (24, lvl), (16, r.inst % 256), (0, r.src)]

/-- W2 of a fault (R454). -/
def faultW2 (r : Report) : Word :=
  pack [(16, r.detail % 65536), (4, r.access % 16), (0, r.master % 16)]

/-- The payload of a FAULT event: W0 with the reason and VALID, W2, FAULT_CLASSc_STAT (R456). -/
def faultPayload (cls reason : Nat) (w0 w2 : Word) (s : State) : List Word :=
  let c := clsOf cls s
  [setFld 31 31 (b2n c.cap.valid) (setFld 15 10 reason w0), w2, clsStat c]

/-- ALV driven low, with the reason shown in ALV_STOP (R457). -/
def alvLow (why : Nat) (s : State) : State :=
  modFaults (fun f => { f with alvHigh := false, alvOn := false, alvStop := why }) s

/-! ### Block resets (R446, R632) -/

/-- The reset of host port p: its buffers emptied, the tags of discarded responses freed, a Ply link
retrained; slot bindings kept. The discarded events free entries of their slots' queues (R106, R446, R632). -/
def portReset (p : Port) (s : State) : State :=
  let b := nth s.host.ports (portIx p)
  let gone := b.output.filter (fun f => f.kind == .final)
  let clear : PortBuf → PortBuf := fun b => { b with input := [], output := [] }
  let s := modHost (fun h => { h with ports := upd h.ports (portIx p) clear }) s
  let s := modFlight (fun l => l.filter (fun e =>
    !(e.stage == .answered && gone.any (fun f => f.slot == e.req.slot && f.tag == e.req.tag)))) s
  let freed := (List.range 4).filter (fun n => b.output.any (fun f => f.kind == .event && f.slot == n))
  let s := freed.foldl (fun s n => overflowEvent n s) s
  let retrain := fun (i : Nat) (s : State) =>
    modHost (fun h => { h with ply := upd h.ply i (fun x => { x with state := .training }) }) s
  match p with
  | .plyUp => retrain 0 s
  | .plyDown => retrain 1 s
  | _ => s

/-- The host port that an L2 reaction resets for a HOST-block source (R632). -/
def portOfFault (src inst : Nat) (s : State) : Option Port :=
  match src with
  | 0x021 => if 1 ≤ inst ∧ inst ≤ 5 then some (ixPort (inst - 1)) else none
  | 0x024 => if 1 ≤ inst ∧ inst ≤ 5 then some (ixPort (inst - 1)) else none
  | 0x022 => some (if inst = 0 then .mac0 else .mac1)
  | 0x020 => (slotOf inst s).port
  | 0x023 => some (if inst < s.deviceId then .plyUp else .plyDown)
  | _ => none

/-- The block reset of an L2 reaction for a source, none where the source's block has no unit (R446). A port is reset at
once; a slot, an engine, a controller or the gateway waits for FAULT_REPORT, within the reaction's bound (log entry 42). -/
def blockReset (src inst : Nat) (s : State) : Option State :=
  match src / 32 with
  | 1 => some ((portOfFault src inst s).elim s (fun p => portReset p s))
  | 6 | 7 | 10 | 11 => some (modFaults (fun f => { f with resets := f.resets ++ [(src, inst)] }) s)
  | _ => none

/-! ### The decision -/

/-- The level taken for a fault of class c whose source has reaction r, and whether it is escalated (R450). -/
def levelTaken (c : FaultClass) (r : Nat) : Nat × Bool :=
  if c.active && bit 16 c.cfg then (min 4 (r + 1), true) else (r, false)

/-- The class becomes or stays ACTIVE and its quiet period starts again (R450, R451). -/
def classHit (now : Nat) (esc : Bool) (w0 w2 : Word) (c : FaultClass) : FaultClass :=
  { c with
    active := true
    escalated := (c.active && c.escalated) || esc
    episode := if c.active then min 255 (c.episode + 1) else 1
    quietEnd := ceilDiv now mgmtTicks + msTicks (fld 13 0 c.cfg)
    lastW0 := w0
    lastW2 := w2 }

/-- The first fault that finds the class record not VALID fills it; another raises only LATER (R454). -/
def capture (r : Report) (w0 w2 : Word) (c : FaultClass) : FaultClass :=
  if c.cap.valid then { c with cap := { c.cap with later := min 65535 (c.cap.later + 1) } }
  else { c with cap := { valid := true, w0 := setFld 31 31 1 w0, w1 := r.addr, w2 := w2, tick := r.tick } }

/-- The FAULT event of a fault taken below L3 (R456). -/
def faultEvent (cls : Nat) (w0 w2 : Word) (s : State) : State :=
  postEvent 0xF02 (faultPayload cls 1 w0 w2 s) s

/-- L1: the non-maskable trap in the cores, counted (R445, R467). -/
def takeL1 (s : State) : State := bump (ctr 0x02 3) s

/-- L3: ALV low, and the L-die reset pending in the source's form; with two forms, CHIP. The restart is reported for the first fault
that causes it (R445, R449, R456). -/
def takeL3 (chip : Bool) (cls : Nat) (w0 w2 : Word) (s : State) : State :=
  let old := s.faults.pendingL3
  let chip := chip || (old.map (fun p => p.chip)).getD false
  alvLow 5 (modFaults (fun f =>
    { f with resets := [], pendingL3 := some (match old.filter (fun p => p.fault) with
        | some p => { p with chip := chip }
        | none => { chip := chip, w0 := w0, w2 := w2, cls := cls }) }) s)

/-- L4: ALV low, L4_SEEN, the FS_FORCE word ready for the next free down frame where the link is LIVE, and
the L-die halts (R445). -/
def takeL4 (s : State) : State :=
  let item : CfgOut := { id := s.weft.nextId, item := .fsForce }
  let force := fun (w : WeftL) =>
    if w.state == .live then { w with cfg := [item], nextId := w.nextId + 1 } else { w with cfg := [] }
  let s := modWeft force s
  alvLow 6 (modFaults (fun f => { f with l4Seen := true, halted := true, pendingL3 := none, resets := [] })
    { s with ldie := .halted })

/-- The reaction of a fault at a level. An L2 whose source has no unit is taken as L1, and beside a pending L3 its block reset is
skipped (R446, R449). -/
def react (lvl : Nat) (chip : Bool) (cls : Nat) (fresh : Bool) (w0 w2 : Word) (r : Report) (s : State) :
    State :=
  match lvl with
  | 0 => if fresh then faultEvent cls w0 w2 s else s
  | 1 => takeL1 (faultEvent cls w0 w2 s)
  | 2 => match blockReset r.src r.inst s with
    | some s' => faultEvent cls w0 w2 (if s.faults.pendingL3.isSome then s else s')
    | none => takeL1 (faultEvent cls w0 w2 s)
  | 3 => if s.faults.halted then s else takeL3 chip cls w0 w2 s
  | _ => takeL4 s

/-- A reaction of level lvl is taken now: an L3 that is taken already, for a fault that fell together with this one, is taken once
(R449, R467). -/
def takenOnce (lvl : Nat) (s : State) : Bool :=
  !(lvl == 3 && (s.faults.pendingL3.map (fun p => p.fault)).getD false)

/-- A fault that starts: escalation, capture, counters and the reaction (R449, R450, R454, R467). -/
def newFault (r : Report) (cls : Nat) (fresh : Bool) (s : State) : State :=
  let c := clsOf cls s
  let (lvl0, esc) := levelTaken c (reactionOf r.src s).1
  let lvl1 := max r.minLevel (min lvl0 r.maxLevel)
  let lvl := if lvl1 = 2 ∧ (blockReset r.src r.inst s).isNone then 1 else lvl1
  let w0 := faultW0 cls lvl esc r
  let w2 := faultW2 r
  let s := modCls cls (fun c => capture r w0 w2 (classHit s.now esc w0 w2 c)) s
  let s := bump (ctr 0x0F (0x400 + cls)) s
  let s := if takenOnce lvl s then bump (ctr 0x0F (0x410 + lvl)) s else s
  react lvl (reactionOf r.src s).2 cls fresh w0 w2 r s

/-- A report taken by the collector. A number that is no source is no report. Every report counts and sets
its sticky bit; reports of one source that arrive within 400 ticks of the first count as one fault (R444, R454). -/
def report (r : Report) (s : State) : State :=
  match srcInfo r.src with
  | none => s
  | some (cls, _) =>
    let fresh := !(nth s.faults.sticky (r.src / 32)).getLsbD (r.src % 32)
    let s := bump (ctr 0x0F r.src) s
    let setBit := fun (w : Word) => w ||| word (1 <<< (r.src % 32))
    let s := modFaults (fun f => { f with sticky := upd f.sticky (r.src / 32) setBit }) s
    let first := s.faults.first.get r.src
    if first != 0 && s.now + 1 - first ≤ 400 then s
    else
      newFault r cls fresh
        (modFaults (fun f => { f with first := f.first.set r.src (s.now + 1) }) s)

/-- A report of an L-die source at the present tick (R444). -/
def reportL (src inst : Nat) (s : State) : State := report { src := src, inst := inst, tick := s.now } s

end Sys2Proof.Machine
end

