-- ==== Sys2Proof/Machine/Operands.lean ====
section
/-! DEFINITION. The operand forms of the host commands: OBJECT as a load number (R37, R120), LENGTH as a
word count, and the words of a payload. -/

namespace Sys2Proof.Machine

/-- LENGTH is n words. -/
def lenIs (n : Nat) : Nat → Bool := fun b => b == 4 * n

/-- LENGTH is between m and n words. -/
def lenBetween (m n : Nat) : Nat → Bool := fun b => 4 * m ≤ b && b ≤ 4 * n && b % 4 == 0

/-- OBJECT as a number. -/
def obj (r : Req) : Nat := r.object.toNat

/-- Payload word i of a request. -/
def arg (r : Req) (i : Nat) : Word := wordAt r.payload i

/-- OBJECT names a load of this device: at most 191, with the device part equal to the target device
(R37, R120). -/
def loadOk (r : Req) : Bool := obj r ≤ 191 && obj r / 48 == r.device

/-- The skein index of a load number (R120). -/
def skeinOf (r : Req) : Nat := obj r % 48

/-- The bits of a word outside a mask are all 0: the reserved bits of a payload. -/
def onlyBits (mask : Nat) (w : Word) : Bool := w &&& ~~~ word mask == 0

/-- The words of a list with signs kept out: n words from index i. -/
def args (r : Req) (i n : Nat) : List Word := (r.payload.drop i).take n

/-- OBJECT is 0. -/
def objZero (r : Req) (_ : State) : Bool := r.object == 0

end Sys2Proof.Machine
end

