-- ==== Sys2Proof/Machine/Interp.lean ====
section
/-! DEFINITION. The Eoden interpreter: what an opcode is to it, the stage 4 checks of R74, acceptance,
ordering (R81, R82), dispatch and completion (R83 to R87, R112). -/

namespace Sys2Proof.Machine

/-- What an operation answers when its subsystem takes it. -/
inductive Ans where
  /-- completed with DONE and this payload -/
  | done (payload : List Word)
  /-- completed with another status, and the payload its chapter gives that status (R73) -/
  | fail (st : Status) (payload : List Word)
  /-- under way: what it waits for, whether it answers QUEUED first (R83), words kept for its response -/
  | wait (a : Await) (queued : Bool) (data : List Word)
  /-- under way: it waits for several reports (R103) -/
  | waits (l : List Await) (data : List Word)
  deriving DecidableEq, Repr, Inhabited

/-- An opcode as the interpreter knows it (R97). -/
structure OpInfo where
  op : Nat
  /-- the LENGTHs allowed, in bytes -/
  len : Nat → Bool
  /-- the words of the payload fit its LENGTH (R493) -/
  fits : Req → Bool := fun _ => true
  /-- "A" in the opcode index: needs an authenticated session (R94) -/
  auth : Bool := false
  /-- the right that the session's parent must carry (R473) -/
  right : Option Nat := none
  /-- SNAPALIGN is allowed (R98) -/
  snap : Bool := false
  /-- accepted by the recovery loader (R600) -/
  recovery : Bool := false
  /-- a further condition on the session (R94, R465) -/
  perm : Req → State → Bool := fun _ _ => true
  /-- OBJECT is valid for the opcode and the target device (R74, check 6) -/
  obj : Req → State → Bool := fun _ _ => true
  /-- the clock-gated unit that the command addresses (R561) -/
  unit : Req → Option Nat := fun _ => none
  /-- what happens at its acceptance already (R108) -/
  onAccept : Entry → State → State := fun _ s => s
  /-- what the owning subsystem does when it takes the command -/
  run : Entry → State → State × Ans

/-! ### Stage 4 -/

/-- The opcodes that a session on the transport root may issue (R469). -/
def rootOps : List Nat := [0x0000, 0x0003, 0x0800, 0x0802, 0x0804, 0x0805]

/-- Check 4 of R74: the slot is enabled, bound to the ingress port, and permitted to issue the opcode in its
session state (R79, R94, R473, R600). -/
def permitted (o : OpInfo) (r : Req) (s : State) : Bool :=
  let sl := slotOf r.slot s
  bit 0 sl.cfg && sl.port == some r.port &&
    (!bit 1 sl.cfg || sl.session.isSome || o.op == 0x0000 || o.op == 0x0002) &&
    (!o.auth || sl.session.isSome) &&
    (match sl.session with
      | some x => x.parent != 64 || rootOps.contains o.op
      | none => true) &&
    (match o.right with
      | none => true
      | some b => (sl.session.map (fun x => x.rights.testBit b)).getD false) &&
    (s.ldie != .recovery || o.recovery) && o.perm r s

/-- The tag is held in its slot (R78). -/
def tagHeld (r : Req) (s : State) : Bool :=
  s.host.flight.any (fun e => e.req.slot == r.slot && e.req.tag == r.tag)

/-- The stage 4 checks 2 to 6 of R74 on a request whose opcode is known: the first that fails. -/
def stage4 (o : OpInfo) (r : Req) (s : State) : Option Status :=
  if r.snapalign && !o.snap then some .badOpcode
  else if !o.len (4 * r.payload.length) || !o.fits r then some .badLength
  else if !permitted o r s then some .notPermitted
  else if tagHeld r s then some .tagInUse
  else if !o.obj r s then some .badObject
  else none

/-- The answer to a request that failed a check: it holds no tag (R76). -/
def answerFrame (op : Nat) (r : Req) (b5 : Nat) (st : Status) (key : Option (BitVec 128)) (s : State) :
    OutFrame :=
  { kind := .answer, slot := r.slot, opcode := op, tag := r.tag, byte5 := b5, status := st.code
    credit := creditOf r.slot s, time := s.now % 2 ^ 32, key := key, authVal := r.seq, peer := replyPeer r s }

/-- The key that signs packets of slot n (R70). -/
def slotKey (n : Nat) (s : State) : Option (BitVec 128) := (slotOf n s).session.map (fun x => x.key)

/-- A request has passed stage 3: the check of its CMAC was a key load (R475), its SEQ becomes the last accepted one (R77), and an
unbound slot is bound to its ingress port, to which the held events go first (R79, R87). -/
def passed3 (r : Req) (s : State) : State :=
  let s := if (slotOf r.slot s).session.isSome then bump (ctr 0x0D 0) s else s
  let s := modSlot r.slot (fun sl => { sl with lastSeq := r.seq, authFails := 0 }) s
  if (slotOf r.slot s).port.isSome then s
  else sendHeld r.slot (modSlot r.slot (fun sl => { sl with port := some r.port, peer := r.peer }) s)

/-! ### Ordering -/

/-- The commands accepted before e. -/
def earlier (e : Entry) : List Entry → List Entry
  | [] => []
  | x :: rest => if sameCmd x e then [] else x :: earlier e rest

/-- The objects that a command addresses within its opcode group: a kind of object and a first and a last number of that kind
(R82). Each chapter's opcodes say what their OBJECT names, and how many objects from there on; what a request without an object of
its own addresses, and that those of a load, a port or an engine are objects of different kinds, is read from them (DEDUCED, log
entry 94). -/
def objectsOf (e : Entry) : List (Nat × Nat × Nat) :=
  let n := e.req.object.toNat
  let one := fun (kind i : Nat) => [(kind, i, i)]
  let some' := fun (kind i count : Nat) => [(kind, i, i + (count - 1))]
  let words := e.req.payload.length
  let count := (arg e.req 0).toNat
  match e.op with
  -- key slot, function group; else the slot itself (R85, R90)
  | 0x0002 => one 1 n
  | 0x0006 => one 2 (n % 256)
  | 0x0000 | 0x0001 | 0x0003 | 0x0004 | 0x0005 => one 0 e.req.slot
  -- registers (R100)
  | 0x0102 => some' 0 (n / 4) count
  | 0x0104 => some' 0 (n / 4) words
  | 0x0100 | 0x0101 | 0x0103 => one 0 (n / 4)
  -- loads, ports, program words, engines (R302 to R307)
  | 0x0401 | 0x0402 => one 1 n
  | 0x0403 => some' 2 n words
  | 0x0404 | 0x0405 => one 3 n
  | 0x0406 => if 0x100 ≤ n then one 1 (n - 0x100) else one 0 n
  -- pins, the words of all pins, counter channels (R333 to R336)
  | 0x0500 => some' 0 n count
  | 0x0501 | 0x0502 => one 1 0
  | 0x0503 => one 2 n
  -- controllers, receive buffers, filter entries, network time, channels, routing entries (R371 to R375, R400, R401, R407)
  | 0x0600 | 0x0601 => one 0 n
  | 0x0602 => one 1 n
  | 0x0603 => some' 2 (fld 11 8 e.req.object * 64 + fld 5 0 e.req.object) count
  | 0x0604 => one 3 0
  | 0x0605 | 0x0606 => one 4 n
  | 0x0607 => some' 5 n count
  -- the ranging engine, the configurations of R521
  | 0x0700 | 0x0701 | 0x0703 | 0x0704 => one 0 0
  | 0x0702 => one 1 n
  -- key slots, the crypto engine's operations without a key, the store (R490 to R495)
  | 0x0801 => one 0 n ++ one 0 (fld 5 0 (arg e.req 0))
  | 0x0803 => if 1 ≤ fld 3 0 (arg e.req 0) && fld 3 0 (arg e.req 0) ≤ 4 then one 0 n else one 1 0
  | 0x0805 => one 2 0
  -- configuration classes to write, what CFG_READ selects, the update session, its blocks (R534, R535, R542 to R551)
  | 0x0901 => one 1 n
  | 0x0903 => one 3 n
  | 0x0902 | 0x0904 | 0x0905 | 0x0906 | 0x0907 => one 2 0
  -- the collector, capture records, sources (R460 to R464)
  | 0x0A02 => one 1 n
  | 0x0A03 | 0x0A04 => one 2 n
  -- the power state; else the clocks and the wake sources (R585 to R588)
  | 0x0B01 | 0x0B02 | 0x0B03 => one 1 n
  -- snapshot sets, whichever devices they are taken on (R108, R111)
  | 0x0C00 | 0x0C01 | 0x0C02 => one 0 (n % 4)
  | 0x0C03 => one 1 0
  -- chain entries, the budgets (R184, R185)
  | 0x0D03 => one 1 n
  | 0x0D04 => one 2 0
  | _ => one 0 n

/-- Two commands address the same object within the same opcode group (R82). -/
def sameObject (x y : Entry) : Bool :=
  groupOf x.op == groupOf y.op &&
    (objectsOf x).any (fun a => (objectsOf y).any (fun b => a.1 == b.1 && a.2.1 ≤ b.2.2 && b.2.1 ≤ a.2.2))

/-- A NM_SLEEP_REQ that waits for its network to fall asleep: raising the need again supersedes it, so it holds back no command on
its channel (R400). -/
def Entry.releasing (x : Entry) : Bool :=
  match x.await with
  | .nm n => n % 2 == 1
  | _ => false

/-- An earlier command that keeps e from being dispatched: one on the same object within the same opcode
group, any one of its slot where e is ORDERED, or an ORDERED one of its slot (R82). A SESSION_CLOSE that waits completes after
the later commands of its slot, so it holds none of them back (R95). -/
def blocks (e x : Entry) : Bool :=
  x.stage != .answered && x.await != .slotEmpty &&
    ((sameObject x e && !x.releasing) ||
     (x.req.slot == e.req.slot && x.req.device == e.req.device && (e.req.ordered || x.req.ordered)))

/-- Command e may be taken by its subsystem now (R82): no handover pauses the interpreter (R88), no entry into a low-power
state holds new dispatch (R571). -/
def eligible (e : Entry) (s : State) : Bool :=
  (e.stage == .waiting || e.stage == .released) && !s.clk.paused && s.clk.entry.isNone && decide (s.clk.power ≤ 1) &&
    !(earlier e s.host.flight).any (blocks e)

/-! ### Carrying out -/

/-- Unit u is closed, or closing, by CLK_GATE (R561). -/
def unitClosed (u : Nat) (s : State) : Bool := s.clk.gate.testBit u || s.clk.gatePend.testBit u

/-- A status that meets the command before its subsystem does anything: its group disabled (R85), or its unit
closed (R561). -/
def barred (o : OpInfo) (r : Req) (s : State) : Option Status :=
  if groupOff (groupOf o.op) s then some .abortedDisabled
  else if ((o.unit r).map (fun u => unitClosed u s)).getD false then some .faultActive
  else none

/-- The outcome of an operation brought to its command. -/
def settle (e : Entry) (a : Ans) (s : State) : State :=
  match a with
  | .done p => complete e .done p s
  | .fail st p => complete e st p s
  | .wait w q d =>
    let s := modEntry e (fun x => { x with await := w, data := d }) s
    if w == .slotEmpty then closeSlot e.req.slot s
    else if q then giveQueued e s else s
  | .waits l d =>
    match l with
    | [] => complete e .done d s
    | w :: rest => modEntry e (fun x => { x with await := w, more := rest, data := d }) s

/-- The owning subsystem takes a command: its commit point (R84). One released at a latch is past it already, so the disabling of
its group stops it no more (R85, R112). -/
def carryOut (o : OpInfo) (e : Entry) (s : State) : State :=
  match (barred o e.req s).filter (fun st => e.stage != .released || st != .abortedDisabled) with
  | some st => complete e st [] s
  | none =>
    let s := modEntry e (fun x => { x with stage := .taken }) s
    let (s', a) := o.run { e with stage := .taken } s
    settle e a s'

/-- The SNAPALIGN commands waiting for a latch (R112). -/
def alignPending (s : State) : Nat := (s.host.flight.filter (fun e => e.stage == .aligned)).length

/-- A request that has passed stage 4 is held in flight (R78, R80). With SNAPALIGN it answers QUEUED, whatever follows (R83), and
waits for the next latch; a 65th waiting one fails with BUSY (R112). -/
def accept (o : OpInfo) (r : Req) (s : State) : State :=
  let e : Entry := { op := o.op, req := r, accepted := s.now, key := slotKey r.slot s }
  let full := 64 ≤ alignPending s
  let s := modFlight (fun l => l ++ [e]) s
  let s := if r.snapalign then giveQueued e s else s
  if groupOff (groupOf o.op) s then complete e .abortedDisabled [] s
  else if !r.snapalign then o.onAccept e s
  else if groupOff 0x0C s then complete e .abortedDisabled [] s
  else if full then complete e .busy [] s
  else modEntry e (fun x => { x with stage := .aligned }) s

/-- The command in flight that holds a request's tag. -/
def entryOf (r : Req) (s : State) : Option Entry :=
  s.host.flight.find? (fun e => e.req.slot == r.slot && e.req.tag == r.tag)

/-- An accepted command that waits and goes before the newest one, e: an URGENT one, or any one where e is not URGENT
(R81). -/
def goesFirst (e : Entry) (s : State) : Bool :=
  s.host.flight.any (fun x => !sameCmd x e && eligible x s && (x.req.urgent || !e.req.urgent))

/-- A request that has passed stage 3 goes through stage 4. Where it passes it is held in flight, and it is dispatched at once
unless an earlier command or a latch holds it back (R81, R82, R112); then REQUEST_DISPATCH or SNAPSHOT_LATCH takes it
later. -/
def submit (o : OpInfo) (r : Req) (s : State) : State :=
  match stage4 o r s with
  | some st => pushOut r.port (answerFrame o.op r (byte5 r false) st (slotKey r.slot s) s) s
  | none =>
    let s := accept o r s
    match entryOf r s with
    | some e => if eligible e s && !goesFirst e s then carryOut o e s else s
    | none => s

/-- The interpreter takes requests: a port accepts them, and its clock is not off in SLEEP (R561, R597). -/
def interpreterUp (s : State) : Bool := hostUp s && s.clk.power < 2

/-- A host command as a row of the table: the request r has passed the stages 1 to 3 of R32 (R74, R77). While the interpreter
takes no requests it has no effect. -/
def command (o : OpInfo) (r : Req) (s : State) : State :=
  let s := toL r.t s
  if interpreterUp s then submit o r (passed3 r s) else s

end Sys2Proof.Machine
end

