-- ==== Sys2Proof/Machine/Skeins.lean ====
section
/-! DEFINITION. Skeins on both dies: the fields of a definition (R149), bridge pairs (R134, R135), PWM (R125
to R130), the conduction interlock (R133), conduction time (R149), committed current (R138, R139) and the
budget check (R140). -/

namespace Sys2Proof.Machine

/-! ### Fields of a definition (R149) -/

/-- FIRST. -/
def SkeinDef.first (d : SkeinDef) : Nat := fld 6 0 d.cfg
/-- COUNT. -/
def SkeinDef.count (d : SkeinDef) : Nat := fld 11 8 d.cfg
/-- NSPARE. -/
def SkeinDef.nspare (d : SkeinDef) : Nat := fld 15 12 d.cfg
/-- MODE: 1 HS, 2 LS, 3 HB. -/
def SkeinDef.mode (d : SkeinDef) : Nat := fld 17 16 d.cfg
/-- OWNER (R123). -/
def SkeinDef.owner (d : SkeinDef) : Nat := fld 19 18 d.cfg
/-- DISABLE (R148). -/
def SkeinDef.disable (d : SkeinDef) : Nat := fld 21 20 d.cfg
/-- INOM, 10 mA. -/
def SkeinDef.inom (d : SkeinDef) : Nat := fld 15 0 d.limit
/-- IPEAK, 10 mA. -/
def SkeinDef.ipeak (d : SkeinDef) : Nat := fld 31 16 d.limit
/-- STATIC. -/
def SkeinDef.static (d : SkeinDef) : Bool := bit 31 d.period
/-- PRE, ticks. -/
def SkeinDef.pre (d : SkeinDef) : Nat := fld 25 16 d.period + 1
/-- STEPS. -/
def SkeinDef.steps (d : SkeinDef) : Nat := fld 15 0 d.period + 1
/-- SLEW. -/
def SkeinDef.slew (d : SkeinDef) : Nat := fld 30 28 d.timing
/-- INRUSH_T, 0.1 ms. -/
def SkeinDef.inrushT (d : SkeinDef) : Nat := fld 24 16 d.timing
/-- DEADTIME, ticks. -/
def SkeinDef.deadtime (d : SkeinDef) : Nat := fld 9 0 d.timing
/-- REV_BRAKE, ms. -/
def SkeinDef.revBrake (d : SkeinDef) : Nat := fld 31 24 d.aux
/-- PAIRED. -/
def SkeinDef.paired (d : SkeinDef) : Bool := bit 23 d.aux
/-- PARTNER. -/
def SkeinDef.partner (d : SkeinDef) : Nat := fld 21 16 d.aux
/-- PHASE. -/
def SkeinDef.phase (d : SkeinDef) : Nat := fld 15 0 d.aux
/-- The skein is defined: COUNT is not 0. -/
def SkeinDef.defined (d : SkeinDef) : Bool := d.count != 0
/-- The target active count A (R152). -/
def SkeinDef.target (d : SkeinDef) : Nat := d.count - d.nspare
/-- The cells of the skein (R119). -/
def SkeinDef.cells (d : SkeinDef) : List Nat := (List.range d.count).map (fun i => d.first + i)
/-- A bridge leg by its own definition (R134). -/
def SkeinDef.leg (d : SkeinDef) : Bool := d.mode == 3 && d.owner == 3 && d.paired
/-- The INRUSH_T window, ticks: units of 0.1 ms are 20,000 ticks. -/
def SkeinDef.inrushTicks (d : SkeinDef) : Nat := d.inrushT * 20000

/-- The bank of a cell (R118). -/
def bankOf (n : Nat) : Nat := n / 8

/-- The L-die's definition of skein k. -/
def defL (k : Nat) (s : State) : SkeinDef := (skL k s).defn
/-- The definition of skein k in force on the P-die. -/
def defP (k : Nat) (s : State) : SkeinDef := (skP k s).defn

/-- The skein whose cells hold cell n, on the P-die. -/
def skeinOfCellP (n : Nat) (s : State) : Option Nat :=
  (List.range 48).find? (fun k => (defP k s).cells.contains n)
/-- The skein whose cells hold cell n, on the L-die. -/
def skeinOfCell (n : Nat) (s : State) : Option Nat :=
  (List.range 48).find? (fun k => (defL k s).cells.contains n)

/-- Two definitions, of skeins i and j, form a bridge pair (R134). -/
def pairs (i j : Nat) (a b : SkeinDef) : Bool :=
  i != j && a.leg && b.leg && a.partner == j && b.partner == i && a.defined && b.defined
/-- Skein k is a leg of a bridge pair on the L-die. -/
def pairedL (k : Nat) (s : State) : Bool :=
  pairs k (defL k s).partner (defL k s) (defL (defL k s).partner s)
/-- Skein k is a leg of a bridge pair on the P-die. -/
def pairedP (k : Nat) (s : State) : Bool :=
  pairs k (defP k s).partner (defP k s) (defP (defP k s).partner s)
/-- The leader of the pair that skein k belongs to, or k itself (R134). -/
def leaderL (k : Nat) (s : State) : Nat := if pairedL k s then min k (defL k s).partner else k
/-- The same on the P-die. -/
def leaderP (k : Nat) (s : State) : Nat := if pairedP k s then min k (defP k s).partner else k

/-- A skein is off with a definition and a set-point: DUTY 0 in HS and LS, high impedance in HB, COAST for a
bridge leg (R124). -/
def offWith (leg : Bool) (d : SkeinDef) (p : SetPoint) : Bool :=
  if leg then p.bstate == 0 else if d.mode == 3 then p.hiz else p.duty == 0

/-- Skein k is off as the L-die commands it (R124). -/
def offL (k : Nat) (s : State) : Bool :=
  offWith (pairedL k s || (defL k s).leg) (defL k s) (skL (leaderL k s) s).sp
/-- Skein k is off on the P-die (R124): a pair also has to have reached COAST. -/
def offP (k : Nat) (s : State) : Bool :=
  let l := leaderP k s
  offWith (pairedP k s || (defP k s).leg) (defP k s) (skP l s).sp &&
    (!pairedP k s || (skP l s).bactual == 0)

/-! ### PWM (R125 to R130) -/

/-- The effective duty under a cap: min(DUTY, floor(CAP × STEPS / 1,000)) for a PWM skein (R164). -/
def effDuty (d : SkeinDef) (duty cap : Nat) : Nat :=
  if d.static then duty else min duty (cap * d.steps / 1000)

/-- The counter steps since the start of the present on-phase, modulo STEPS, at device time t (R125, R128). -/
def pwmPos (d : SkeinDef) (t : Nat) : Nat := (t / d.pre + (d.steps - d.phase)) % d.steps

/-- The on-phase at device time t with an effective duty (R125, R127, R128). -/
def onPhase (d : SkeinDef) (eff t : Nat) : Bool :=
  if d.static then eff != 0 else pwmPos d t < eff

/-- FLASH at device time t: the on-phase of a period of (ON_T + OFF_T) × 10 ms that starts at its multiples
(R248). -/
def flashOn (onT offT t : Nat) : Bool := t % ((onT + offT) * 2000000) < onT * 2000000

/-- The effective duty of skein k on the P-die at its present time: FLASH gives its DUTY, under the cap in force, in the
on-phase and 0 outside it. -/
def dutyNow (k : Nat) (s : State) : Nat :=
  let x := skP k s
  match x.flash with
  | some (a, b, du) => if flashOn a b s.pNow then effDuty x.defn du x.cap else 0
  | none => effDuty x.defn x.sp.duty x.cap

/-- The P-die drives no output: after its power-on and before the first set-points, or with its timebase
stopped (R41, R53). -/
def outputsOff (s : State) : Bool :=
  s.pdie.sup == .reset || s.pdie.sup == .cold || s.pdie.sup == .asleep || s.pdie.sup == .woken

/-- DEADTIME of skein k, of its leader for a leg; no configuration shortens it below 40 ticks (R133, R134). -/
def deadOf (k : Nat) (s : State) : Nat := max 40 (defP (leaderP k s) s).deadtime

/-- What an HB node drives with PWM: the nominal interval in which t lies, where an interval shorter than DEADTIME is
omitted (R129). -/
def hbDrive (d : SkeinDef) (dead eff t : Nat) : Drive :=
  if d.static then (if eff != 0 then .high else .low)
  else if eff * d.pre < dead then .low
  else if (d.steps - eff) * d.pre < dead then .high
  else if onPhase d eff t then .high else .low

/-- What the PWM leg of a pair drives: with slow decay an HB node, with fast decay off in the off-phase (R135). A high interval
shorter than DEADTIME is not produced with fast decay either, where the leg is off for the whole period (R129; DEDUCED, log
entry 97). -/
def legPwm (d : SkeinDef) (dead eff : Nat) (fast : Bool) (t : Nat) : Drive :=
  if !fast then hbDrive d dead eff t
  else if !d.static && eff * d.pre < dead then .off
  else if onPhase d eff t then .high else .off

/-- What a leg drives in a bridge state: leader or follower, with the PWM leg's drive (R135). -/
def bridgeDrive (state : Nat) (leader : Bool) (pwm : Drive) : Drive :=
  match state with
  | 1 => if leader then pwm else .low
  | 2 => if leader then .low else pwm
  | 3 => .low
  | 4 => .high
  | _ => .off

/-- The leg that moves first on the way to bridge state n: the low-side leg of a direction, else the leader l (R136, log
entry 63). -/
def firstLeg (n l f : Nat) : Nat := if n = 1 then f else l

/-- The bridge state that leg k of a pair follows: on a move the legs go one at a time, the second once the first has reached
its state (R136). -/
def legState (k : Nat) (s : State) : Nat :=
  let l := leaderP k s
  let x := skP l s
  match x.via with
  | none => x.bactual
  | some n => if k == firstLeg n l x.defn.partner || x.legAt.isSome then n else x.bactual

/-! ### Actuator slots (R254, R260) -/

/-- Slot a on the P-die. -/
def actP (a : Nat) (s : State) : ActP := nth s.pdie.act a
/-- Slot a on the L-die. -/
def actL (a : Nat) (s : State) : ActL := nth s.act.slots a

/-- The slots of the P-die that name skein k. -/
def slotsP (k : Nat) (s : State) : List Nat := (List.range 16).filter (fun a => (actP a s).prof.skeins.contains k)
/-- The slots of the L-die that name skein k. -/
def slotsL (k : Nat) (s : State) : List Nat := (List.range 16).filter (fun a => (actL a s).prof.skeins.contains k)

/-- A skein of the P-die is bound to a slot in PEAK (R256). -/
def actPeakP (k : Nat) (s : State) : Bool := (slotsP k s).any (fun a => (actP a s).phase == 2)
/-- The same as the L-die knows it. -/
def actPeakL (k : Nat) (s : State) : Bool := (slotsL k s).any (fun a => (actL a s).phase == 2)

/-- What the high side of a slot's HSKEIN does in an off-interval or release of decay code dec that began at tick t0, and the
tick at which a clamp ends in a freewheel: SLOW freewheels through the low sides, FAST clamps, MIXED clamps for mix µs
first (R260). -/
def decayDrive (dec mix t0 now : Nat) : Drive × Option Nat :=
  match dec with
  | 0 => (.low, none)
  | 1 => (.off, none)
  | _ => if now < t0 + mix * 200 then (.off, some (t0 + mix * 200)) else (.low, none)

/-- What slot a asks of skein k. -/
def slotDrive (a k : Nat) (s : State) : Drive × Option Nat :=
  let x := actP a s
  let p := x.prof
  if x.phase < 2 then (.off, none)
  else if p.kind = 1 then
    if k != p.hskein then (.low, none)
    else if x.phase < 4 && x.on then (.high, none)
    else decayDrive x.dec x.mix x.ivStart s.pNow
  else if k == p.hskein then
    if x.phase < 4 || !x.final then (.high, none) else decayDrive x.dec x.mix x.ivStart s.pNow
  else if x.phase < 4 then (if x.on then .low else .off, none)
  else (if x.final then .low else .off, none)

/-- What an actuator-owned skein is to drive, and the tick before which it is not to: a shared HSKEIN conducts high while any
slot asks for it; at the end of the FAST part of MIXED its low sides freewheel. -/
def actDrive (k : Nat) (s : State) : Drive × Option Nat :=
  let ds := (slotsP k s).map (fun a => slotDrive a k s)
  if ds.any (fun d => d.1 == .high) then (.high, none)
  else if ds.any (fun d => d.1 == .low) then (.low, none)
  else match (ds.filterMap (fun d => d.2)).min? with
    | some e => (.low, some e)
    | none => (.off, none)

/-- What skein k is to drive at the P-die's present time, but for the tick of lateOf before which it is not to. -/
def wanted (k : Nat) (s : State) : Drive :=
  let x := skP k s
  let d := x.defn
  if outputsOff s || !d.defined then .off
  else if d.owner == 2 then (actDrive k s).1
  else if pairedP k s then
    let l := leaderP k s
    let lx := skP l s
    bridgeDrive (legState k s) (k == l)
      (legPwm lx.defn (deadOf k s) (effDuty lx.defn lx.sp.duty lx.cap) lx.sp.decay s.pNow)
  else if d.leg then .off
  else match d.mode with
    | 1 => if onPhase d (dutyNow k s) s.pNow then .high else .off
    | 2 => if onPhase d (dutyNow k s) s.pNow then .low else .off
    | 3 => if x.sp.hiz then .off else hbDrive d (deadOf k s) (dutyNow k s) s.pNow
    | _ => .off

/-- The tick before which skein k does not take up what it is to drive: the end of the FAST part of MIXED (R260), or the start
of the PWM of a pair that enters a direction, DEADTIME after its low-side leg (R136). -/
def lateOf (k : Nat) (s : State) : Option Nat :=
  let e :=
    if (defP k s).owner == 2 then (actDrive k s).2
    else if pairedP k s then
      let l := leaderP k s
      let x := skP l s
      match x.via, x.legAt with
      | some n, some t => if (n == 1 || n == 2) && k != firstLeg n l x.defn.partner then some (t + deadOf k s) else none
      | _, _ => none
    else none
  e.filter (fun t => s.pNow < t)

/-! ### Cells -/

/-- A cell has a protection cause pending (R191). -/
def causePending (c : CellP) : Bool :=
  c.ladder != .ready || c.locked || c.thermal || c.pumpLow || c.gateStuck

/-- CAUSE as PROT_CELL_SENSEn shows it (R191). -/
def shownCause (c : CellP) : Nat := if causePending c then c.cause else 0

/-- The cells of the P-die's skein k that its masks let conduct: the active mask and the outgoing cell
(R151, R155). -/
def conductingCells (k : Nat) (s : State) : List Nat :=
  let x := skP k s
  let m := x.mask ||| (x.hand.map (fun h => h.outgoing)).getD 0
  (x.defn.cells).filter (fun n => m.testBit (n - x.defn.first))

/-! ### The conduction interlock and the gates (R133) -/

/-- The drive of a node turned off: the side that conducted stands to be reported off (R133). -/
def driveOff (x : SkeinP) : SkeinP :=
  if x.drive == .off then x else { x with drive := .off, lastOn := x.drive, clearAt := none }

/-- Side w is held off: a gate of the other side is stuck (R222). -/
def heldOff (w : Drive) (x : SkeinP) : Bool := x.stuckSide != .off && w != .off && w != x.stuckSide

/-- The drive of a node moved at tick now towards w, which it may not take up before the tick late. One side conducts only once
the switches of the other have reported off and DEADTIME has run; the side that conducted last may conduct again at once; the
side opposite to a stuck gate stays off (R133, R222). -/
def stepDrive (w : Drive) (late : Option Nat) (now : Nat) (x : SkeinP) : SkeinP :=
  if heldOff w x then { x with drive := .off, change := none, lastOn := x.stuckSide, clearAt := none }
  else if x.drive == w && late.isNone then { x with change := none }
  else
    let x := driveOff x
    let start := if w == .off || x.lastOn == .off || x.lastOn == w then some (late.getD 0)
      else x.clearAt.map (fun c => max c (late.getD 0))
    match start with
    | none => { x with change := some (w, none) }
    | some e => if e ≤ now then { x with drive := w, change := none } else { x with change := some (w, some e) }

/-- The switches of a cell as its skein drives it. -/
def showGates (dr : Drive) (cells : List Nat) (n : Nat) (c : CellP) : CellP :=
  let on := cells.contains n && !causePending c
  { c with hsOn := on && dr == .high, lsOn := on && dr == .low, ls := if on && dr != .off then dr == .low else c.ls }

/-- The same, with the turn-on edge counted (R149). -/
def setGates (dr : Drive) (cells : List Nat) (n : Nat) (c : CellP) : CellP :=
  let c' := showGates dr cells n c
  let rise := (c'.hsOn && !c.hsOn) || (c'.lsOn && !c.lsOn)
  { c' with edges := if rise then (c.edges + 1) % 2 ^ 32 else c.edges }

/-- The ACTIVE cells of skein k that may conduct. -/
def liveCells (k : Nat) (s : State) : List Nat := (conductingCells k s).filter (fun n => !causePending (cellP n s))

/-- A fingerprint window in which a cell has left conduction or joined is spoilt (R197). -/
def checkPrint (live : List Nat) (x : SkeinP) : SkeinP :=
  if x.print.isSome && x.printCells != live then { x with print := some false } else x

/-- The gates of every cell of skein k brought in line with its drive at the present time, under the interlock. -/
def driveGates (k : Nat) (s : State) : State :=
  let d := defP k s
  let w := wanted k s
  let live := liveCells k s
  let s := modSkP k (fun x => checkPrint live (stepDrive w (lateOf k s) s.pNow x)) s
  let dr := (skP k s).drive
  let cells := conductingCells k s
  d.cells.foldl (fun s n => modCell n (setGates dr cells n) s) s

/-! ### Running PWM (R125 to R130, R149)

Between two rows of the queue a skein's PWM runs on: its conduction and its edges are summed up, and its drive brought to the
present, from the conduction intervals of one period. No row stands at its edges: there the gate sense is taken to report off
at the edge itself, and DEADTIME runs from it; after GATE_STUCK the opposite side stays off (DESIGN CHOICE, log entry 97). -/

/-- The conduction intervals of one period, from the start of its on-phase: the drive, the start and the end, ticks. -/
abbrev Spans := List (Drive × Nat × Nat)

/-- The intervals of an HB node: each takes its DEADTIME from its nominal interval (R129, R133); none where one is omitted. -/
def hbSpans (d : SkeinDef) (dead eff : Nat) : Option (SkeinDef × Spans) :=
  let on := eff * d.pre
  let all := d.steps * d.pre
  if on < dead || all - on < dead then none
  else some (d, [(.high, dead, on), (.low, on + dead, all)].filter (fun x => x.2.1 < x.2.2))

/-- The PWM of a definition with an effective duty: none where it has no edges (R127, R128). -/
def pwmSpans (d : SkeinDef) (eff : Nat) (x : Option (SkeinDef × Spans)) : Option (SkeinDef × Spans) :=
  if d.static || eff = 0 || d.steps ≤ eff then none else x

/-- The intervals of a node with a gate stuck on one side: those of that side alone, each from its nominal start. -/
def oneSided (side : Drive) (dead : Nat) (r : SkeinDef × Spans) : SkeinDef × Spans :=
  if side == .off then r
  else (r.1, (r.2.filter (fun x => x.1 == side)).map (fun x => (x.1, if r.1.mode = 3 then x.2.1 - dead else x.2.1, x.2.2)))

/-- The PWM that skein k runs by itself, and the definition whose period it has, but for a stuck gate and for FLASH. -/
def nominalRun (k : Nat) (s : State) : Option (SkeinDef × Spans) :=
  let x := skP k s
  let d := x.defn
  if outputsOff s || !d.defined || d.owner == 2 then none
  else if pairedP k s then
    let l := leaderP k s
    let lx := skP l s
    let eff := effDuty lx.defn lx.sp.duty lx.cap
    let st := legState k s
    if (st == 1 && k == l) || (st == 2 && k != l) then
      pwmSpans lx.defn eff (if !lx.sp.decay then hbSpans lx.defn (deadOf k s) eff
        else if eff * lx.defn.pre < deadOf k s then none else some (lx.defn, [(.high, 0, eff * lx.defn.pre)]))
    else none
  else if d.leg then none
  else
    let eff := effDuty d ((x.flash.map (fun f => f.2.2)).getD x.sp.duty) x.cap
    match d.mode with
    | 1 => pwmSpans d eff (some (d, [(.high, 0, eff * d.pre)]))
    | 2 => pwmSpans d eff (some (d, [(.low, 0, eff * d.pre)]))
    | 3 => if x.sp.hiz then none else pwmSpans d eff (hbSpans d (deadOf k s) eff)
    | _ => none

/-- The PWM that skein k runs by itself, and the definition whose period it has. -/
def freeRun (k : Nat) (s : State) : Option (SkeinDef × Spans) :=
  let x := skP k s
  if x.flash.isSome then none else (nominalRun k s).map (oneSided x.stuckSide (deadOf k s))

/-- The whole periods before tick t, and the ticks since the present on-phase began (R125). -/
def periodAt (d : SkeinDef) (t : Nat) : Nat × Nat :=
  let u := t + (d.steps - d.phase) * d.pre
  (u / (d.steps * d.pre), u % (d.steps * d.pre))

/-- The ticks of conduction before tick t. -/
def condBefore (r : SkeinDef × Spans) (t : Nat) : Nat :=
  let (n, u) := periodAt r.1 t
  n * (r.2.map (fun x => x.2.2 - x.2.1)).sum + (r.2.map (fun x => min u x.2.2 - min u x.2.1)).sum

/-- The turn-on edges before tick t. -/
def risesBefore (r : SkeinDef × Spans) (t : Nat) : Nat :=
  let (n, u) := periodAt r.1 t
  n * r.2.length + (r.2.filter (fun x => x.2.1 < u)).length

/-- The drive at tick t, and, where it is off, the side that conducted last and the tick at which that ended. -/
def spanAt (r : SkeinDef × Spans) (t : Nat) : Drive × Drive × Nat :=
  let (_, u) := periodAt r.1 t
  match r.2.find? (fun x => x.2.1 ≤ u && u < x.2.2) with
  | some x => (x.1, x.1, t)
  | none =>
    match (r.2.filter (fun x => x.2.2 ≤ u)).getLast? with
    | some x => (.off, x.1, t - (u - x.2.2))
    | none => match r.2.getLast? with
      | some x => (.off, x.1, t - (u + (r.1.steps * r.1.pre - x.2.2)))
      | none => (.off, .off, t)

/-- The tick from which skein x drives what it drives at now: a change under way whose dead time has run counts from its
end. -/
def driveFrom (x : SkeinP) (now : Nat) : Nat :=
  match x.change with
  | none => x.since
  | some (_, some e) => min now (max x.since e)
  | some (_, none) => now

/-- The change under way has ended by tick now. -/
def changeOver (x : SkeinP) (now : Nat) : Bool :=
  match x.change with
  | some (_, some e) => decide (e ≤ now)
  | _ => false

/-- What x drives once a change that has ended is taken in. -/
def driveAfter (x : SkeinP) (now : Nat) : Drive :=
  match x.change with
  | some (w, some e) => if e ≤ now then w else x.drive
  | _ => x.drive

/-- The ticks of conduction in [u, v) of a skein that runs r, or with no edges conducts where on is set. -/
def condIn (r : Option (SkeinDef × Spans)) (on : Bool) (u v : Nat) : Nat :=
  match r with
  | some r => condBefore r v - condBefore r u
  | none => if on then v - u else 0

/-- The turn-on edges at the ticks in [u, v) of a skein that runs r. -/
def risesIn (r : Option (SkeinDef × Spans)) (u v : Nat) : Nat := (r.map (fun r => risesBefore r v - risesBefore r u)).getD 0

/-- The conduction of FLASH with ON_T a and OFF_T b from tick t0 to tick t1, on-phase by on-phase: the PWM r, or on throughout,
runs within each; where an off-phase comes before, an on-phase that begins in conduction begins with an edge (R149, R248). -/
def flashRun (a b : Nat) (r : Option (SkeinDef × Spans)) (on : Bool) (t0 t1 : Nat) : Nat × Nat :=
  let per := (a + b) * 2000000
  (List.range (t1 / per + 1 - t0 / per)).foldl (fun acc i =>
    let w := (t0 / per + i) * per
    let e := w + a * 2000000
    let starts := b != 0 && t0 < w && decide (w ≤ t1) && condIn r on w (w + 1) == 1
    (acc.1 + condIn r on (max t0 w) (max (max t0 w) (min t1 e)),
      acc.2 + b2n starts + risesIn r (max (t0 + 1) (if b = 0 then w else w + 1)) (min (t1 + 1) e))) (0, 0)

/-- The conduction of skein k's cells since it was last summed up: ticks, and turn-on edges. -/
def conduction (k : Nat) (s : State) : Nat × Nat :=
  let x := skP k s
  let t1 := s.pNow
  let t0 := driveFrom x t1
  if outputsOff s then (0, 0)
  else match x.flash with
    | some (a, b, du) => flashRun a b (nominalRun k s) (effDuty x.defn du x.cap != 0) x.since t1
    | none => match freeRun k s with
      | some r =>
        (condBefore r t1 - condBefore r t0,
          risesBefore r (t1 + 1) - risesBefore r (t0 + 1) + b2n (changeOver x t1 && (spanAt r t0).1 != .off))
      | none =>
        if driveAfter x t1 == .off then (0, 0) else (t1 - t0, b2n (changeOver x t1))

/-- The drive of skein k brought to the present tick. -/
def presentDrive (k : Nat) (s : State) (x : SkeinP) : SkeinP :=
  match x.change.isSome && !changeOver x s.pNow, freeRun k s with
  | true, _ => x
  | false, some r =>
    let (dr, side, t) := spanAt r s.pNow
    if dr != .off then { x with drive := dr, change := none }
    else if x.stuckSide != .off then { x with drive := .off, change := none, lastOn := x.stuckSide, clearAt := none }
    else { x with drive := .off, change := none, lastOn := side, clearAt := some (t + deadOf k s) }
  | false, none =>
    if x.flash.isSome then { x with drive := wanted k s, change := none }
    else { x with drive := driveAfter x s.pNow, change := none }

/-- A conducting cell with its conduction summed up to now. -/
def accrueCell (ticks edges run : Nat) (c : CellP) : CellP :=
  if causePending c then c
  else { c with onTicks := c.onTicks + ticks, edges := (c.edges + edges) % 2 ^ 32, cleanTicks := c.cleanTicks + run }

/-- Skein k brought to the P-die's present time: the conduction of its cells is summed up, and its drive and its switches stand
as they are now (R149, R208). -/
def accrue (k : Nat) (s : State) : State :=
  let x := skP k s
  if x.since = s.pNow then s
  else
    let (ticks, edges) := conduction k s
    let run := if offP k s then 0 else s.pNow - x.since
    let s := (conductingCells k s).foldl (fun s n => modCell n (accrueCell ticks edges run) s) s
    let s := modSkP k (fun x => { presentDrive k s x with since := s.pNow }) s
    let dr := (skP k s).drive
    let cells := conductingCells k s
    (defP k s).cells.foldl (fun s n => modCell n (showGates dr cells n) s) s

/-- A change of skein k on the P-die: its conduction is summed up before, its gates follow after. -/
def changeSkP (k : Nat) (f : State → State) (s : State) : State := driveGates k (f (accrue k s))

/-- A fingerprint window of skein k that runs no longer meets R197: its record will be rejected. -/
def spoilPrint (k : Nat) (s : State) : State :=
  modSkP k (fun x => { x with print := x.print.map (fun _ => false) }) s

/-- The skein of cell n brought to the present. -/
def presentCell (n : Nat) (s : State) : State := (skeinOfCellP n s).elim s (fun k => changeSkP k id s)

/-! ### Committed current (R138, R139) -/

/-- The cells of skein k in a role, on the L-die. -/
def cellsIn (k : Nat) (r : Role) (s : State) : List Nat :=
  (defL k s).cells.filter (fun n => nth s.loom.roles n == r)

/-- The cells by which a skein's current is shared over its banks: the ACTIVE ones, else the STANDBY ones, else
all (R138). -/
def shareCells (k : Nat) (s : State) : List Nat :=
  let a := cellsIn k .active s
  let b := cellsIn k .standby s
  if !a.isEmpty then a else if !b.isEmpty then b else (defL k s).cells

/-- The chain entry of skein k, if one is in use (R174). -/
def chainOf (k : Nat) (s : State) : Option Nat :=
  (List.range 16).find? (fun j =>
    let e := nth s.loom.chain j
    e.state != 0 && fld 5 0 e.cfg == k)

/-- Skein k is the secondary side of an ARMED entry: its committed current counts as 0 (R174). -/
def armedSecondary (k : Nat) (s : State) : Bool :=
  match chainOf k s with
  | none => false
  | some j => (nth s.loom.chain j).state == 2 && bit 24 (nth s.loom.chain j).cfg

/-- The committed current of a skein with current i in place of INOM: high side, low side (R138). -/
def currentOf (leg : Bool) (d : SkeinDef) (p : SetPoint) (i : Nat) : Nat × Nat :=
  if leg then (if p.bstate == 0 then (0, 0) else (i, i))
  else match d.mode with
    | 1 => (if d.static then (if p.duty = 0 then 0 else i) else i * p.duty / d.steps, 0)
    | 2 => (0, if d.static then (if p.duty = 0 then 0 else i) else i * p.duty / d.steps)
    | 3 => if p.hiz then (0, 0) else (i, i)
    | _ => (0, 0)

/-- The share of a current i that bank b takes among the sharing cells: rounded down in the lower bank, the
rest in the higher (log entry 20). -/
def bankShare (cells : List Nat) (b i : Nat) : Nat :=
  let n := cells.length
  let lo := bankOf (cells.headD 0)
  let inLo := (cells.filter (fun c => bankOf c == lo)).length
  if n = 0 then 0
  else if b == lo then i * inLo / n
  else if cells.any (fun c => bankOf c == b) then i - i * inLo / n else 0

/-- What skein k commits in bank b on each side with set-point p, its current counted at i (R138). A bridge pair
is counted once, on its leader, in full in every bank that holds cells of either leg. -/
def committedIn (k b : Nat) (p : SetPoint) (i : Nat) (s : State) : Nat × Nat :=
  let d := defL k s
  if !d.defined || armedSecondary k s then (0, 0)
  else if pairedL k s then
    if leaderL k s != k then (0, 0)
    else
      let banks := (d.cells ++ (defL d.partner s).cells).map bankOf
      if banks.contains b then currentOf true d p i else (0, 0)
  else if d.leg then (0, 0)
  else
    let (hs, ls) := currentOf false d p i
    let cells := shareCells k s
    (bankShare cells b hs, bankShare cells b ls)

/-- The package committed current of skein k (R140): a pair counts INOM once on each side. -/
def committedPkg (k : Nat) (p : SetPoint) (i : Nat) (s : State) : Nat × Nat :=
  let d := defL k s
  if !d.defined || armedSecondary k s then (0, 0)
  else if pairedL k s then (if leaderL k s != k then (0, 0) else currentOf true d p i)
  else if d.leg then (0, 0) else currentOf false d p i

/-- The end of skein k's inrush window as the P-die last reported it, where it is open at tick t (R19, R139). -/
def inrushEndAt (k t : Nat) (s : State) : Option Nat := (nth s.loom.skeinView k).inrushEnd.filter (fun e => t < e)

/-- Skein k has been commanded on and the P-die has not yet reported it on: its inrush window is still to come (R139, log
entry 64). -/
def turningOn (k : Nat) (s : State) : Bool :=
  (defL k s).defined && (defL k s).owner != 2 && leaderL k s == k && !offL k s &&
    offWith (pairedL k s || (defL k s).leg) (defL k s) (nth s.loom.skeinView k).sp

/-- Skein k counts as in inrush at tick t: its window is open or to come, or a slot bound to it is in PEAK (R139, R256). -/
def inInrush (k t : Nat) (s : State) : Bool := (inrushEndAt k t s).isSome || turningOn k s || actPeakL k s

/-- Set-points of some skeins in place of the commanded ones. -/
abbrev Trial := List (Nat × SetPoint)

/-- The set-point of skein k under a trial. -/
def trialSp (tr : Trial) (k : Nat) (s : State) : SetPoint :=
  match tr.find? (fun p => p.1 == k) with
  | some (_, p) => p
  | none => (skL k s).sp

/-- Pairwise sum. -/
def addPair (a b : Nat × Nat) : Nat × Nat := (a.1 + b.1, a.2 + b.2)

/-- The sums of the committed currents of bank b under a trial (R140). -/
def bankSum (b : Nat) (tr : Trial) (s : State) : Nat × Nat :=
  (List.range 48).foldl (fun acc k =>
    addPair acc (committedIn k b (trialSp tr k s) (defL k s).inom s)) (0, 0)

/-- The sums with the skeins in inrush at tick t counted at IPEAK; own lists skeins that count as in inrush
whatever their windows (R139, R140). -/
def bankPeak (b t : Nat) (own : List Nat) (tr : Trial) (s : State) : Nat × Nat :=
  (List.range 48).foldl (fun acc k =>
    let d := defL k s
    let i := if own.contains k || inInrush k t s then d.ipeak else d.inom
    addPair acc (committedIn k b (trialSp tr k s) i s)) (0, 0)

/-- The package sums (R140). -/
def pkgSum (tr : Trial) (s : State) : Nat × Nat :=
  (List.range 48).foldl (fun acc k =>
    addPair acc (committedPkg k (trialSp tr k s) (defL k s).inom s)) (0, 0)

/-- Both sides within a limit. -/
def within (p : Nat × Nat) (lim : Nat) : Bool := p.1 ≤ lim && p.2 ≤ lim

/-- The banks that skein k's current touches. -/
def banksOf (k : Nat) (s : State) : List Nat :=
  let d := defL k s
  ((d.cells ++ (if pairedL k s then (defL d.partner s).cells else [])).map bankOf).eraseDups

/-- The budgets with a trial in force and the skeins own turning on, over the banks they touch (R140): none to
pass, or the word of the BUDGET_EXCEEDED response: the close of an open window of another skein in a bank that fails its
peak check. The command's own window is counted at IPEAK whatever closes, and is never named. -/
def budgetTrial (tr : Trial) (own banks : List Nat) (s : State) : Option Word :=
  let own := own ++ (tr.map (fun p => p.1)).filter (fun k => inInrush k s.now s)
  let contOk := banks.all (fun b => within (bankSum b tr s) (fld 15 0 (nth s.loom.bankLimit b))) &&
    within (pkgSum tr s) (fld 15 0 s.loom.pkgLimit)
  let peakOk := fun t => banks.all (fun b =>
    within (bankPeak b t own tr s) (fld 31 16 (nth s.loom.bankLimit b)))
  if !contOk then some 0xFFFFFFFF
  else if peakOk s.now then none
  else
    let failing := banks.filter (fun b => !within (bankPeak b s.now own tr s) (fld 31 16 (nth s.loom.bankLimit b)))
    let others := (List.range 48).filter (fun j =>
      !(tr.map (fun p => p.1)).contains j && (banksOf j s).any (fun b => failing.contains b))
    let ends := others.filterMap (fun j => inrushEndAt j s.now s)
    match (ends.filter peakOk).min? with
    | some t => some (word t)
    | none => some 0xFFFFFFFF

/-- What the budget check of a set-point of skein k answers (R140). -/
def budgetCheck (k : Nat) (p : SetPoint) (s : State) : Option Word :=
  let d := defL k s
  let cur := (skL k s).sp
  let leg := pairedL k s
  let old := currentOf leg d cur d.inom
  let new := currentOf leg d p d.inom
  if armedSecondary k s || (new.1 ≤ old.1 && new.2 ≤ old.2) then none
  else budgetTrial [(k, p)] (if offWith leg d cur && !offWith leg d p then [k] else []) (banksOf k s) s

end Sys2Proof.Machine
end

