-- ==== Sys2Proof/Machine/Frames.lean ====
section
/-! DEFINITION. The shared operations over the Weft link: what the L-die queues for its CONFIG frames (R233),
what the P-die queues for its CELL_OUT and EVENT frames (R232, R234), and the CRC-8 of a frame (R229). -/

namespace Sys2Proof.Machine

/-! ### The check value of a frame (R229) -/

/-- One byte through the CRC-8 register, polynomial 0x2F. -/
def crc8Byte (c : Byte) (b : Byte) : Byte :=
  (List.range 8).foldl (fun c _ => if c.getLsbD 7 then (c <<< 1) ^^^ 0x2F#8 else c <<< 1) (c ^^^ b)

/-- The CRC-8 of a byte string: initial value and final exclusive-or 0xFF (R229). -/
def crc8 (l : List Byte) : Byte := l.foldl crc8Byte 0xFF#8 ^^^ 0xFF#8

/-! ### Down: CONFIG items -/

/-- An item queued for the CONFIG frames, and its identifier (R233). -/
def pushCfg (i : CfgItem) (s : State) : Nat × State :=
  (s.weft.nextId, modWeft (fun w =>
    { w with cfg := w.cfg ++ [{ id := w.nextId, item := i }], nextId := w.nextId + 1 }) s)

/-- An item queued whose identifier is of no use to the caller. -/
def pushCfg' (i : CfgItem) (s : State) : State := (pushCfg i s).2

/-- A register of the P-die as it will stand once the words on their way are in force: pick finds its word in an item; w is the
L-die's copy. -/
def comingWord (pick : CfgItem → Option Word) (w : Word) (s : State) : Word :=
  s.weft.cfg.foldl (fun w c => (pick c.item).getD w) w

/-- A FLASH as the disable state of skein k is on its way (R148). -/
def flashGoes (k : Nat) (s : State) : Bool := s.weft.cfg.any (fun c => c.item == .applyFs k)

/-! ### Up: frames with an EVSEQ -/

/-- An up frame that carries an event of the field pins. -/
def UpBody.isField : UpBody → Bool
  | .fio _ _ _ | .fioTrig _ _ _ | .fioPolls _ _ _ => true
  | _ => false

/-- The P-die queues a CELL_OUT or EVENT frame. While the link is not LIVE it keeps at most 32 frames, and what
falls out arrives with the readback of the adoption (R234, R242); a field-pin event lost so is remembered (R331). -/
def pushUp (b : UpBody) (s : State) : State :=
  modP (fun p =>
    if p.sup != .linked && 32 ≤ p.up.length then { p with fio := { p.fio with lost := p.fio.lost || b.isField } }
    else { p with up := p.up ++ [{ seq := p.evSeq, body := b }], evSeq := (p.evSeq + 1) % 64 }) s

/-- A fault of the P-die, on its way to the collector with the P-die's tick (R444). -/
def reportP (src inst detail : Nat) (s : State) : State := pushUp (.fault src inst detail s.pNow) s

/-- An up frame not yet sent that reports a bank's cells with a cause. -/
def UpFrame.reports (bank cause : Nat) (u : UpFrame) : Bool :=
  u.sent.isNone && (match u.body with
    | .cellOut b _ c _ => b == bank && c == cause
    | _ => false)

/-- A cell-out report of cell n (R158): the cells of one bank with the same cause share the frame that has not started yet,
which carries the earliest trip tick (R230, R232). -/
def pushCellOut (n cause : Nat) (s : State) : State :=
  let one := 1 <<< (n % 8)
  if s.pdie.up.any (UpFrame.reports (bankOf n) cause) then
    modP (fun p => { p with up := p.up.map (fun u =>
      if UpFrame.reports (bankOf n) cause u then
        match u.body with
        | .cellOut b m c t => { u with body := .cellOut b (m ||| one) c t }
        | _ => u
      else u) }) s
  else pushUp (.cellOut (bankOf n) one cause s.pNow) s

/-- The power manager hears of wake source src during an entry into a low-power state (R571). -/
def wakeHeard (src : Nat) (s : State) : State :=
  if s.clk.entry.isNone then s else { s with clk := { s.clk with wakeHeard := s.clk.wakeHeard ||| 1 <<< src } }

/-- The P-die runs with its link silent: hold-over or fail-safe (R213, R242). -/
def silent (s : State) : Bool := s.pdie.sup == .holdover || s.pdie.sup == .failSafe

end Sys2Proof.Machine
end

