-- ==== Sys2Proof/Machine/Protect.lean ====
section
/-! DEFINITION. Cell protection and sense on the P-die (chapter 6): the threshold in force (R194, R200), the
cell-out and its ladder (R189, R208 to R213), the Bobbin ledger (R204 to R207), droop (R214, R215), off-state
diagnosis (R216), the sense channel (R219), ISNS (R220, R221), fingerprints (R196 to R201), and the events of the
opcode table that drive them. -/

namespace Sys2Proof.Machine

/-! ### Thresholds (R194, R200) -/

/-- The bank's droop flag is set, or its suspension still runs (R215). -/
def bankSuspended (b : Nat) (s : State) : Bool :=
  let x := nth s.pdie.banks b
  x.droop || x.suspended.isSome

/-- The banks that hold cells of the P-die's skein k. -/
def banksP (k : Nat) (s : State) : List Nat := ((defP k s).cells.map bankOf).eraseDups

/-- A deadline that still lies ahead of tick t. -/
def runsPast (e : Option Nat) (t : Nat) : Bool :=
  match e with
  | some x => t < x
  | none => false

/-- An inrush or a retry window of skein k is open (R194). -/
def inWindow (k : Nat) (s : State) : Bool :=
  let x := skP (leaderP k s) s
  runsPast x.inrushEnd s.pNow || runsPast x.retryEnd s.pNow || actPeakP k s

/-- The envelope of skein k is widened: a window is open, and a bank of the skein is under suspension (R215). -/
def widened (k : Nat) (s : State) : Bool := inWindow k s && (banksP k s).any (fun b => bankSuspended b s)

/-- The interval of the running window (R196, R200). -/
def intervalNow (k : Nat) (s : State) : Nat :=
  let x := skP (leaderP k s) s
  min 63 ((s.pNow - x.windowStart) / max 1 (x.defn.inrushTicks / 64))

/-- The tick at which interval i of the running window of skein k began (R196). -/
def intervalStart (k : Nat) (s : State) : Nat :=
  let x := skP (leaderP k s) s
  x.windowStart + intervalNow k s * max 1 (x.defn.inrushTicks / 64)

/-- The word of a PROT register that rules in skein k: one written within the running fingerprint interval acts from the next
interval on, and the word before the first such write rules till then (R226). -/
def protRules (off : Nat) (now : Word) (k : Nat) (s : State) : Word :=
  match s.pdie.protOld.reverse.find? (fun x => x.1 == off && inWindow k s && intervalStart k s ≤ x.2.2) with
  | some x => x.2.1
  | none => now
/-- PROT_SKEIN_TRIPk as it rules. -/
def tripRules (k : Nat) (s : State) : Word := protRules (0x1000 + 0x10 * k) (nth s.pdie.prot.trip k) k s
/-- PROT_SKEIN_LEARNk as it rules. -/
def learnRules (k : Nat) (s : State) : Word := protRules (0x1008 + 0x10 * k) (nth s.pdie.prot.learn k) k s

/-- E of R200: the envelope's point, or the largest of eight where the envelope is widened. -/
def envPoint (k : Nat) (s : State) : Nat :=
  let e := (skP k s).env
  let i := intervalNow k s
  if widened k s then ((List.range 8).map (fun j => at0 e (i + j))).foldl max 0 else at0 e i

/-- A_now of R200: the ACTIVE cells of skein k that conducted as the present interval began, one that has gone out since
among them. -/
def activeAtStart (k : Nat) (s : State) : Nat :=
  ((conductingCells k s).filter (fun n =>
    let c := cellP n s
    !causePending c || (0 < intervalStart k s && intervalStart k s ≤ c.tripTick))).length

/-- The mean supply of bank b over the interval before interval i, mV (R200): the supply that the readback has last carried, which
comes every 20 µs; with the link silent no row carries any, and it is a free value (log entry 65). -/
def meanSupply (b i : Nat) (s : State) : Nat :=
  if silent s then (Config.freeWord (s.free + 64 * b + i)).toNat % 65536 else (nth s.pdie.banks b).vbat

/-- The envelope threshold of ACTIVE cell n of skein k, 10 mA, rounded up to 0.5 A (R200). -/
def envThreshold (n k : Nat) (s : State) : Nat :=
  let trip := fld 5 0 (tripRules k s) * 50
  let lw := learnRules k s
  let vbat := meanSupply (bankOf n) (intervalNow k s) s
  let num := envPoint k s * (8 + fld 11 8 lw) * vbat
  let den := 8 * (fld 31 23 lw * 100) * max 1 (activeAtStart k s)
  min 2400 (max trip (ceilDiv num (den * 50) * 50))

/-- The threshold in force on the conducting switch of cell n of skein k, 10 mA (R194). -/
def threshold (n k : Nat) (lowSide : Bool) (s : State) : Nat :=
  let w := tripRules k s
  if (lowSide && (defP k s).mode == 3) || !inWindow k s then fld 5 0 w * 50
  else if (skP k s).env.isEmpty || !bit 1 (protRules 0 s.pdie.prot.ctl k s) then fld 13 8 w * 50
  else envThreshold n k s

/-! ### The ladder (R208 to R213) -/

/-- The pause of a rung timed by the P-die, ticks; none for the rungs timed by the L-die (R209). -/
def rungTicks (tries : Nat) : Option Nat :=
  if tries ≤ 1 then some 200000 else if tries = 2 then some 400000 else if tries = 3 then some 800000 else none

/-- The pause of a rung timed by the L-die, in management ticks (R209). -/
def rungMgmt (tries : Nat) : Nat :=
  match tries with
  | 4 => 2 | 5 => 4 | 6 => 7 | 7 => 13 | 8 => 26 | 9 => 52 | _ => 103

/-- The source of a cause (R222). -/
def causeSource (cause : Nat) : Nat :=
  match cause with
  | 1 => 0x0A0 | 2 => 0x0A1 | 3 => 0x0A2 | 4 => 0x0A3 | 5 => 0x0A4 | 6 => 0x0A5 | 7 => 0x0A6 | _ => 0x0A7

/-- A pause of the cell's present rung that starts now; while the link is silent it is frozen (R209, R213). -/
def startPause (frozen : Bool) (now : Nat) (c : CellP) : CellP :=
  { c with ladder := .pausing, due := false
           pauseEnd := if frozen then none else (rungTicks c.tries).map (fun d => now + d) }

/-- The ladder's answer to a cell-out: the cell after it, and whether it latched (R208). -/
def ladderHit (n cause : Nat) (frozen : Bool) (now : Nat) (c : CellP) : CellP × Bool :=
  if cause ≤ 4 then
    match c.ladder with
    | .ready =>
      if c.tries < n then (startPause frozen now { c with tries := c.tries + 1 }, false)
      else ({ c with ladder := .latched, due := false, pauseEnd := none }, true)
    | _ => (c, false)
  else if cause = 6 ∨ cause = 7 then
    ({ c with ladder := .latched, due := false, pauseEnd := none }, c.ladder != .latched)
  else (c, false)

/-- Protection takes cell n out of conduction with a cause: both switches off, the ladder moves, a fingerprint window of its
skein is spoilt, and the report, the cause's fault source and the latch's go up (R158, R189, R193, R197, R208, R222). -/
def cellGoesOut (n cause : Nat) (mark : CellP → CellP) (s : State) : State :=
  let k := skeinOfCellP n s
  let s := k.elim s (fun k => spoilPrint k (accrue k s))
  let (c, latched) := ladderHit (fld 4 0 s.pdie.prot.ladder) cause (silent s) s.pNow (mark (cellP n s))
  let s := modCell n (fun _ =>
    { c with cause := cause, hsOn := false, lsOn := false, tripTick := s.pNow, cleanTicks := 0 }) s
  let s := reportP (causeSource cause) n 0 (pushCellOut n cause s)
  let s := if latched then
      let s := reportP 0x0A8 n cause s
      k.elim s (fun k => bump (ctr 0x05 (0x203 + 4 * k)) s)
    else s
  k.elim s (fun k => driveGates k s)

/-- The banks whose droop holds a retry of cell n: those of its skein, or its own (R215). -/
def droopBanks (n : Nat) (s : State) : List Nat :=
  match skeinOfCellP n s with
  | some k => banksP k s
  | none => [bankOf n]

/-- A cell of skein k waits for nothing but its retry (R208, R215). -/
def retryReady (n : Nat) (s : State) : Bool :=
  let c := cellP n s
  c.ladder == .pausing && c.due && !c.thermal && !(droopBanks n s).any (fun b => bankSuspended b s)

/-- The cell becomes READY and keeps TRIES. -/
def makeReady (n : Nat) (s : State) : State :=
  modCell n (fun c => { c with ladder := .ready, due := false, pauseEnd := none }) s

/-- The retry of skein k: its ACTIVE cells become READY together; where the skein is on a retry window opens
(R210). -/
def retrySkein (k : Nat) (s : State) : State :=
  let cells := (conductingCells k s).filter (fun n => (cellP n s).ladder == .pausing)
  let on := !offP k s
  let s := accrue k s
  let s := cells.foldl (fun s n => makeReady n s) s
  let s := if on then
      bump (ctr 0x05 (0x202 + 4 * k)) (modSkP (leaderP k s) (fun x =>
        { x with retryEnd := some (s.pNow + x.defn.inrushTicks), windowStart := s.pNow }) s)
    else s
  driveGates k s

/-- Cell n may leave PAUSING: an ACTIVE cell retries once every pausing ACTIVE cell of its skein is due, a cell
out of the mask becomes READY on its own (R210, R211). While the link is silent no pause ends (R213). -/
def leavePause (n : Nat) (s : State) : State :=
  if silent s || !retryReady n s then s
  else match skeinOfCellP n s with
    | none => makeReady n s
    | some k =>
      let active := conductingCells k s
      if active.contains n then
        if active.all (fun m => (cellP m s).ladder != .pausing || retryReady m s) then retrySkein k s else s
      else makeReady n s

/-- The cell's pause has ended (R209). -/
def pauseOver (n : Nat) (s : State) : State :=
  leavePause n (modCell n (fun c => { c with due := c.ladder == .pausing, pauseEnd := none }) s)

/-! ### The Bobbin ledger (R205) -/

/-- exp(-a/b) as a fraction of 2^40, rounded down at each step: a series of 12 terms for an argument below
2^-16 of the whole, squared 16 times (log entry 22). -/
def expNeg (a b : Nat) : Nat :=
  let one := 2 ^ 40
  let r := if b = 0 then one else min (one * 64) (a * one / b)
  let x := r / 65536
  let series := (List.range 12).foldr (fun i acc => one - x * acc / (one * (i + 1))) one
  (List.range 16).foldl (fun y _ => y * y / one) series

/-- A ledger after a pass: L × exp(−Δt / τ) + P, τ in ms (R205). -/
def ledgerAfter (l p dt tau : Nat) : Nat := l * expNeg dt (tau * 200000) / 2 ^ 40 + p

/-- The pass's fold of cell n: the ledger decays and takes the pending energy; a lock ends below BUDGET / 2
(R205, R206). -/
def foldCell (n : Nat) (s : State) : State :=
  let w := nth s.pdie.prot.bobbin (bankOf n)
  modCell n (fun c =>
    let l := ledgerAfter c.ledger c.energy (s.pNow - c.folded) (fld 31 16 w)
    { c with ledger := l, energy := 0, folded := s.pNow
             locked := c.locked && fld 15 0 w * 500 ≤ l }) s

/-- LEDGER_FOLD: every cell's ledger is folded at a pass, while the link is LIVE (R205). -/
def ledgerFold (s : State) : State :=
  if linkLive s then
    let s := (List.range 48).foldl (fun s k => accrue k s) s
    let s := (List.range 96).foldl (fun s n => foldCell n s) s
    (List.range 48).foldl (fun s k => driveGates k s) s
  else s

/-! ### ISNS (R220, R221) -/

/-- What the ISNS ball shows, in steps of 0.01 mA, while the conducting switch of the selected cell carries a current of
magnitude i, in 10 mA; with both its switches off that is 0. For a cell in no skein the table asks for 0 mA and, with a cause
pending or SENSE_BAD set, for 6.0 mA too: the model shows 0 mA (DESIGN CHOICE, log entry 66). -/
def isns (i : Nat) (s : State) : Nat :=
  let code := s.pdie.msel
  if s.pdie.sup == .asleep || s.pdie.sup == .reset || code = 0 then 0
  else if !s.pdie.selfTest then 600
  else if code ≤ 0x60 then
    let c := cellP (code - 1) (presentCell (code - 1) s)
    let i := if c.hsOn || c.lsOn then i else 0
    if (skeinOfCellP (code - 1) s).isNone then 0
    else if causePending c || c.senseBad then 600
    else if 2500 < i then 550 else i / 5
  else if code = 0x7D then 200 else if code = 0x7E then 400 else 600

/-! ### Learning (R198 to R201) -/

/-- Learning is enabled for skein k (R198). -/
def learnOn (k : Nat) (s : State) : Bool :=
  bit 0 s.loom.prot.ctl && bit 0 (nth s.loom.prot.learn k)

/-- The learning state with nothing learned; an envelope discarded is to go from the P-die too (R198). -/
def unlearned (st : Nat) (l : Learn) : Learn :=
  { l with state := st, nrec := 0, recs := [], fresh := [], e := [], r := [], m := [], degraded := false, drift := 0, count := 0
           discard := l.discard || !l.e.isEmpty }

/-- DRIFT_NOW (R201), held at 255. -/
def driftOf (m r : List Nat) : Nat :=
  let dev := ((List.range 64).map (fun i => max (at0 m i) (at0 r i) - min (at0 m i) (at0 r i))).foldl max 0
  let top := r.foldl max 0
  if top = 0 then 0 else min 255 (100 * dev / top)

/-- One folding of an accepted record (R198). The 16th makes the envelope (largest), the reference and the mean
(rounded down), to be saved as every 256th record after it (R199). -/
def foldRecord (x : List Nat) (l : Learn) : Learn :=
  if l.state = 1 then
    let all := l.recs ++ [x]
    if l.nrec < 15 then { l with nrec := l.nrec + 1, recs := all }
    else
      let mx := (List.range 64).map (fun i => (all.map (fun r => at0 r i)).foldl max 0)
      let mean := (List.range 64).map (fun i => (all.map (fun r => at0 r i)).sum / 16)
      { l with state := 2, nrec := 16, recs := [], e := mx, r := mean, m := mean, count := 0, drift := 0, save := true }
  else if l.state = 2 then
    let m := (List.range 64).map (fun i =>
      let old : Int := at0 l.m i
      (old + ((at0 x i : Int) - old) / 16).toNat)
    { l with m := m, count := (l.count + 1) % 256, drift := driftOf m l.r, save := l.save || l.count = 255 }
  else l

/-- The fresh records of a skein folded in one after the other; after each one DRIFT_NOW is held against DRIFT, and DEGRADED is
set once it is reached (R198, R201). -/
def foldFresh (drift : Nat) (l : Learn) : Learn :=
  let l := l.fresh.foldl (fun acc x =>
    let acc := foldRecord x acc
    let bad := acc.state = 2 && drift ≤ acc.drift && !acc.degraded
    { acc with degraded := acc.degraded || bad, save := acc.save || bad }) l
  { l with fresh := [] }

/-- An envelope of skein k is on its way to the P-die. -/
def envelopeGoes (k : Nat) (s : State) : Bool :=
  s.weft.cfg.any (fun c => match c.item with
    | .envelope j _ => j == k
    | _ => false)

/-- The envelope that the P-die holds for skein k brought in line with what has been learned: sent again after a loss on the way
or in the P-die, discarded where it was (R198, R199). -/
def syncEnvelope (k : Nat) (s : State) : State :=
  let l := (skL k s).learn
  let v := nth s.loom.skeinView k
  let held := v.envNext.getD v.env
  if envelopeGoes k s || !linkLive s then s
  else if l.state = 2 then (if held == l.e then s else pushCfg' (.envelope k l.e) s)
  else if !l.discard then s
  else if held.isEmpty then modSkL k (fun x => { x with learn := { x.learn with discard := false } }) s
  else pushCfg' (.envelope k []) s

/-- The pass's learning of skein k: its records are folded in, DEGRADED is reported once, a new envelope goes to
the P-die (R197 to R201). -/
def learnPass (k : Nat) (s : State) : State :=
  let l := (skL k s).learn
  let load := s.deviceId * 48 + k
  if !(defL k s).defined then s
  else
    let l2 := if !learnOn k s then (if l.state = 0 then l else unlearned 0 l)
      else if l.state = 0 then unlearned 1 l else foldFresh (fld 20 16 (nth s.loom.prot.learn k)) l
    let s := modSkL k (fun x => { x with learn := l2 }) s
    syncEnvelope k (if l2.degraded && !l.degraded then reportL 0x0AD load s else s)

/-- RELEARN of skein k (R198). -/
def relearn (k : Nat) (s : State) : State :=
  syncEnvelope k (modSkL k (fun x => { x with learn := unlearned (b2n (learnOn k s)) x.learn }) s)

/-- RELEARN and DEGRADED of LOAD_CLEAR_LATCH, bits 0 and 1 of more (R198, R201, R223). -/
def clearLearn (k more : Nat) (s : State) : State :=
  let clear := fun (l : Learn) => { l with degraded := false, r := l.m, drift := 0 }
  if more.testBit 0 then relearn k s
  else if more.testBit 1 then modSkL k (fun x => { x with learn := clear x.learn }) s
  else s

/-- A gate of skein k has not reported off: no latch of it clears (R208, R223). -/
def gateHolds (k : Nat) (s : State) : Bool := (defP k s).cells.any (fun n => (cellP n s).gateStuck)

/-- LATCH of LOAD_CLEAR_LATCH on the P-die: every LATCHED cell of skein k becomes READY with TRIES 0; an ACTIVE one
conducts again, in a retry window where the skein is on (R223). -/
def clearLatchP (k : Nat) (s : State) : State :=
  if gateHolds k s then s else
  let active := conductingCells k s
  let latched := (defP k s).cells.filter (fun n => (cellP n s).ladder == .latched)
  let s := accrue k s
  let s := latched.foldl (fun s n => modCell n (fun c => { c with ladder := .ready, tries := 0 }) s) s
  let s := if latched.any (fun n => active.contains n) && !offP k s then
      modSkP (leaderP k s) (fun x =>
        { x with retryEnd := some (s.pNow + x.defn.inrushTicks), windowStart := s.pNow }) s
    else s
  driveGates k s

/-! ### Fingerprint windows (R196, R197, R199) -/

/-- All of R197 that the P-die can tell at the start of a fingerprint window: learning enabled, no droop in a bank of the
skein, no active cell with SENSE_BAD. -/
def printable (k : Nat) (s : State) : Bool :=
  bit 0 s.pdie.prot.ctl && bit 0 (nth s.pdie.prot.learn k) &&
    !(banksP k s).any (fun b => (nth s.pdie.banks b).droop) && !(conductingCells k s).any (fun n => (cellP n s).senseBad)

/-- A fingerprint window of skein k opens (R196). -/
def openPrint (k : Nat) (s : State) : State :=
  let ok := printable k s
  let live := liveCells k s
  modSkP k (fun x => { x with print := some ok, printStart := s.pNow, printCells := live }) s

/-- A fingerprint window of skein k that does not come about. -/
def dropPrint (k : Nat) (s : State) : State := modSkP k (fun x => { x with print := none }) s

/-- A new envelope of skein k comes into force with a turn-on (R199). -/
def takeEnvelope (k : Nat) (s : State) : State :=
  modSkP k (fun x => { x with env := x.envNext.getD x.env, envNext := none }) s

/-! ### The events of the opcode table -/

/-- TRIP_DECISION: a switch current (10 mA) of a cell exceeds the threshold in force (R192, R194). At the steady
threshold the cause is SHORT, in a window ENVELOPE. -/
def execTripDecision (t n current : Nat) (s : State) : Host.Outcome State Fault Refusal :=
  let s := presentCell n (toP t s)
  .next (match skeinOfCellP n s with
    | none => s
    | some k =>
      let c := cellP n s
      let low := c.lsOn
      if current ≤ threshold n k low s || (!c.hsOn && !c.lsOn) then s
      else
        let steady := !inWindow k s || (low && (defP k s).mode == 3)
        bump (ctr 0x05 (4 * n)) (cellGoesOut n (if steady then 1 else 2) id s))

/-- LIMIT_TIMEOUT: cell n has stayed in regulation for LIM_T, and every other ACTIVE cell of its skein that is in
regulation goes with it (R195). -/
def execLimitTimeout (t n : Nat) (others : List Nat) (s : State) : Host.Outcome State Fault Refusal :=
  let s := presentCell n (toP t s)
  .next (match skeinOfCellP n s with
    | none => s
    | some k =>
      let joint := n :: (others.filter (fun m => m != n && (conductingCells k s).contains m))
      let go := joint.filter (fun m => (cellP m s).hsOn || (cellP m s).lsOn)
      go.foldl (fun s m => bump (ctr 0x05 (4 * m + 1)) (cellGoesOut m 3 id s)) s)

/-- THERMAL_SHUTDOWN of cell n: both switches off, cause THERMAL (R203). -/
def execThermalShutdown (t n : Nat) (s : State) : Host.Outcome State Fault Refusal :=
  let s := toP t s
  .next (if 96 ≤ n ∨ (cellP n s).thermal then s
    else bump (ctr 0x05 (4 * n + 2)) (cellGoesOut n 4 (fun c => { c with thermal := true }) s))

/-- THERMAL_RELEASE: the junction has fallen 15 °C; the cell conducts again only with its pause ended too (R203). -/
def execThermalRelease (t n : Nat) (s : State) : Host.Outcome State Fault Refusal :=
  let s := presentCell n (toP t s)
  let s := leavePause n (modCell n (fun c => { c with thermal := false }) s)
  .next ((skeinOfCellP n s).elim s (fun k => driveGates k s))

/-- CLAMP_PULSE_END: a clamp pulse of some µJ in cell n ends. Above 60 mJ it latches the cell; with L + P at
BUDGET it locks it (R204, R206, R207). -/
def execClampPulseEnd (t n energy : Nat) (s : State) : Host.Outcome State Fault Refusal :=
  let s := toP t s
  .next (if 96 ≤ n then s
    else
      let s := bump (ctr 0x05 (4 * n + 3)) (modCell n (fun c => { c with energy := c.energy + energy }) s)
      let c := cellP n s
      let s := if fld 15 0 (nth s.pdie.prot.bobbin (bankOf n)) * 1000 ≤ c.ledger + c.energy && !c.locked then
          cellGoesOut n 5 (fun c => { c with locked := true }) s else s
      if 60000 < energy then cellGoesOut n 6 id s else s)

/-- A gate of skein x is stuck: on the one side that its mode uses, else on the side that is commanded off, or with both off on
the one that conducted last; the other side goes off and stays off until the gates report off (R133, R222; which switch of the
cell it is no row tells, log entry 97). -/
def stickGate (x : SkeinP) : SkeinP :=
  let d := x.defn
  let side := if d.owner != 2 && d.mode = 1 then Drive.high else if d.owner != 2 && d.mode = 2 then .low
    else match x.drive with
      | .high => .low
      | .low => .high
      | .off => if x.lastOn == .off then .high else x.lastOn
  { x with stuckSide := side, lastOn := side, clearAt := none }

/-- GATE_STUCK: the gate of a switch of cell n that is commanded off is not reported off: secondary pull-down and latch, and the
interlock holds the opposite switches of the skein off until the gate reports (R133, R222). -/
def execGateStuck (t n : Nat) (s : State) : Host.Outcome State Fault Refusal :=
  let s := toP t s
  .next (if 96 ≤ n ∨ (cellP n s).gateStuck then s
    else
      let s := cellGoesOut n 7 (fun c => { c with gateStuck := true }) s
      (skeinOfCellP n s).elim s (fun k => changeSkP k (modSkP k stickGate) s))

/-- PUMP_LOW: cell n's charge pump has stayed low for 1 µs (R222). -/
def execPumpLow (t n : Nat) (s : State) : Host.Outcome State Fault Refusal :=
  let s := toP t s
  .next (if 96 ≤ n ∨ (cellP n s).pumpLow then s
    else cellGoesOut n 8 (fun c => { c with pumpLow := true }) s)

/-- PUMP_RECOVERED: cell n's charge pump has been good for 1 ms (R222). -/
def execPumpRecovered (t n : Nat) (s : State) : Host.Outcome State Fault Refusal :=
  let s := modCell n (fun c => { c with pumpLow := false }) (presentCell n (toP t s))
  .next ((skeinOfCellP n s).elim s (fun k => driveGates k s))

/-- LADDER_PAUSE_END: cell n's pause of a rung 1–3 ends on the P-die (R209). -/
def execLadderPauseEnd (n : Nat) (s : State) : Host.Outcome State Fault Refusal :=
  .next (match (cellP n s).pauseEnd with
    | none => s
    | some e => if silent s then s else pauseOver n (toP e s))

/-- LADDER_MGMT_PAUSE_END: cell n's pause of a rung 4 or above has run its management ticks, and its release is
ready for the next free down frame (R209). -/
def execLadderMgmtPauseEnd (n : Nat) (s : State) : Host.Outcome State Fault Refusal :=
  .next (match s.loom.pauses.find? (fun p => p.1 == n) with
    | none => s
    | some p =>
      modLoom (fun l => { l with pauses := l.pauses.filter (fun q => q.1 != n), releases := l.releases ++ [n] })
        (toL (p.2 * mgmtTicks) s))

/-- CLEAN_RUN: CLEAN × 100 ms of conduction without a report reset cell n's TRIES (R208). -/
def execCleanRun (t n : Nat) (s : State) : Host.Outcome State Fault Refusal :=
  let s := toP t s
  let s := (skeinOfCellP n s).elim s (fun k => accrue k s)
  let c := cellP n s
  .next (if c.ladder == .ready && fld 15 8 s.pdie.prot.ladder * 20000000 ≤ c.cleanTicks then
      modCell n (fun c => { c with tries := 0, cleanTicks := 0 }) s
    else s)

/-- DROOP_SET: bank b's supply has stayed more than DV below its reference for 200 ns (R214). -/
def execDroopSet (t b : Nat) (s : State) : Host.Outcome State Fault Refusal :=
  let s := toP t s
  .next (if 12 ≤ b ∨ !bit 2 s.pdie.prot.ctl ∨ (nth s.pdie.banks b).droop then s
    else
      let f := fun (x : BankP) => { x with droop := true, droopSeen := true, suspended := none }
      let s := modP (fun p => { p with banks := upd p.banks b f }) s
      let hit := (List.range 48).filter (fun k => (banksP k s).contains b)
      bump (ctr 0x05 (0x300 + b)) (reportP 0x0AE b 0 (hit.foldl (fun s k => spoilPrint k s) s)))

/-- DROOP_CLEAR: the drop has stayed below DV / 2 for 1 µs; the suspension runs on for 5 ms (R214, R215). -/
def execDroopClear (t b : Nat) (s : State) : Host.Outcome State Fault Refusal :=
  let s := toP t s
  let f := fun (x : BankP) => { x with droop := false, suspended := some (s.pNow + 1000000) }
  .next (if (nth s.pdie.banks b).droop then modP (fun p => { p with banks := upd p.banks b f }) s else s)

/-- DROOP_SUSPENSION_END: 5 ms after bank b's droop flag cleared, the held retries start (R215). -/
def execDroopSuspensionEnd (b : Nat) (s : State) : Host.Outcome State Fault Refusal :=
  .next (match (nth s.pdie.banks b).suspended with
    | none => s
    | some e =>
      let s := toP e s
      let f := fun (x : BankP) => { x with suspended := none }
      let s := modP (fun p => { p with banks := upd p.banks b f }) s
      let held := (List.range 96).filter (fun n =>
        ((skeinOfCellP n s).map (fun k => (banksP k s).contains b)).getD (bankOf n == b))
      held.foldl (fun s n => leavePause n s) s)

/-- The off-state checks run: in RUN, IDLE or SLEEP, in hold-over or in fail-safe (R216). -/
def diagRuns (s : State) : Bool := s.pdie.sup == .linked || s.pdie.sup == .holdover || s.pdie.sup == .failSafe

/-- Skein k is checked in the off state now (R216). -/
def diagChecked (k : Nat) (s : State) : Bool :=
  let d := defP k s
  d.defined && !d.leg && (d.mode == 1 || d.mode == 2) && bit 0 (nth s.pdie.prot.diag k) && offP k s &&
    (skP k s).offSince + 200000 ≤ s.pNow && diagRuns s

/-- The cell whose OUT node carries the pull-up, or in LS mode the pull-down, of skein k's off-state check: its lowest-numbered
cell in service, by the ROLE that the L-die has sent and with no cause pending (R54, R216). A cell in no skein has none. -/
def diagCell (k : Nat) (s : State) : Option Nat :=
  if diagChecked k s then (defP k s).cells.find? (fun n => (cellP n s).role != 3 && !causePending (cellP n s)) else none

/-- OFF_STATE_DIAG_FILTER: on skein k the conditions of OPEN and STB have stood for OL_FILT ms (R216). An HS skein
that shows STB leaves OPEN clear, and an LS skein has no STB. -/
def execOffStateDiagFilter (t k : Nat) (opn stb : Bool) (s : State) : Host.Outcome State Fault Refusal :=
  let s := toP t s
  let x := skP k s
  let stb' := stb && x.defn.mode == 1
  let opn' := opn && !stb'
  let load := s.deviceId * 48 + k
  .next (if diagChecked k s then
      let s := modSkP k (fun x => { x with isOpen := opn', stb := stb' }) s
      let s := if opn' && !x.isOpen then reportP 0x0AB load 0 s else s
      if stb' && !x.stb then reportP 0x0AC load 0 s else s
    else s)

/-- SENSE_BAD: cell n's sense channel has read above 100 mA, or below 50 mA, for 10 ms with both switches off
(R219). -/
def execSenseBad (t n : Nat) (bad : Bool) (s : State) : Host.Outcome State Fault Refusal :=
  let s := presentCell n (toP t s)
  let c := cellP n s
  .next (if 96 ≤ n ∨ c.hsOn ∨ c.lsOn then s
    else
      let s := modCell n (fun c => { c with senseBad := bad }) s
      let s := if bad then (skeinOfCellP n s).elim s (fun k => if (conductingCells k s).contains n then spoilPrint k s else s) else s
      if bad && !c.senseBad then reportP 0x0A9 n 0 s else s)

/-- SENSE_SELF_TEST_DONE: ISNS leaves the fault level (R221). -/
def execSenseSelfTestDone (t : Nat) (s : State) : Host.Outcome State Fault Refusal :=
  .next (modP (fun p => { p with selfTest := true }) (toP t s))

/-- MSEL_CHANGE: the code on MSEL6–MSEL0 changes (R220, R221). -/
def execMselChange (t code : Nat) (s : State) : Host.Outcome State Fault Refusal :=
  .next (modP (fun p => { p with msel := code % 128 }) (toP t s))

/-- TAMPER_FLAG: TAMP has stood high for 10 µs: the sticky flag is set, in every state but OFF, and unpowered (R53, R57). -/
def execTamperFlag (t : Nat) (s : State) : Host.Outcome State Fault Refusal :=
  let s := toP t s
  .next (if s.pdie.power = 3 ∨ s.pdie.sup = .reset then s else modP (fun p => { p with tamper := true }) s)

/-- The points of a record: the mean skein current of each interval (10 mA) times VNOM / VBAT, VBAT the mean supply over the
interval (mV) and vnom in 0.1 V; an interval without an on-phase sample repeats the point before it (R196). -/
def printPoints (vnom : Nat) : List (Option Nat × Nat) → Nat → List Nat
  | [], _ => []
  | (none, _) :: rest, prev => prev :: printPoints vnom rest prev
  | (some i, vbat) :: rest, _ =>
    let p := i * (vnom * 100) / max 1 vbat % 65536
    p :: printPoints vnom rest p

/-- FINGERPRINT_RECORD: the fingerprint window of skein k has ended: of each of its 64 intervals the mean current, none without
an on-phase sample, and the mean supply. The record is accepted where R197 has held for the whole window (R196, R197). -/
def execFingerprintRecord (t k : Nat) (currents : List (Option Nat)) (supplies : List Nat) (s : State) :
    Host.Outcome State Fault Refusal :=
  let samples := currents.zip supplies
  let s := toP t s
  let x := skP k s
  let lead := skP (leaderP k s) s
  let ended := x.printStart + lead.defn.inrushTicks ≤ s.pNow
  .next (match x.print with
    | none => s
    | some clean =>
      if !(defP k s).defined || !ended || samples.length != 64 then s
      else
        let ok := clean && printable k s && samples.all (fun p => 6000 ≤ p.2 && p.2 ≤ 32000)
        let points := printPoints (fld 31 23 (nth s.pdie.prot.learn k)) samples 0
        pushUp (.record k points ok) (modSkP k (fun x => { x with print := none }) s))

/-- INRUSH_END: skein k's inrush window closes (R139). -/
def execInrushEnd (k : Nat) (s : State) : Host.Outcome State Fault Refusal :=
  .next (match (skP k s).inrushEnd with
    | none => s
    | some e => modSkP k (fun x => { x with inrushEnd := none }) (toP e s))

/-- RETRY_WINDOW_END: the retry window of skein k ends; the steady threshold is in force again (R210). -/
def execRetryWindowEnd (k : Nat) (s : State) : Host.Outcome State Fault Refusal :=
  .next (match (skP k s).retryEnd with
    | none => s
    | some e => modSkP k (fun x => { x with retryEnd := none }) (toP e s))

end Sys2Proof.Machine
end

