-- ==== Sys2Proof/Machine/Slots.lean ====
section
/-! DEFINITION. The actuator slots: what the P-die does with a phase (R257 to R264), and what the L-die's sequencer
keeps and decides (R257, R265, R266). -/

namespace Sys2Proof.Machine

/-! ### P-die -/

/-- Slot a of the P-die changed by f. -/
def modActP (a : Nat) (f : ActP → ActP) (s : State) : State := modP (fun p => { p with act := upd p.act a f }) s

/-- The outgoing cell of the P-die's handover leaves the mask (R155). -/
def leaveNow (k : Nat) (s : State) : State :=
  modSkP k (fun x => { x with mask := x.mask &&& (4095 ^^^ ((x.hand.map (fun h => h.outgoing)).getD 0))
                              hand := none }) s

/-- An actuator-owned skein follows its slots: DUTY 1 while one of them is in PEAK, HOLD or RELEASE, a turn-on
counted, with its fingerprint window; the gates brought in line (R150, R196, R256). -/
def followSlots (k : Nat) (s : State) : State :=
  let on := (slotsP k s).any (fun a => 2 ≤ (actP a s).phase)
  let was := (skP k s).sp.duty != 0
  let s := accrue k s
  let s := modSkP k (fun x => { x with sp := { x.sp with duty := b2n on } }) s
  let s := if on && !was then
      openPrint k (takeEnvelope k (bump (ctr 0x04 (0x200 + 4 * k)) (modSkP k (fun x => { x with windowStart := s.pNow }) s)))
    else s
  let s := if was && !on then leaveNow k (modSkP k (fun x => { x with offSince := s.pNow }) s) else s
  driveGates k s

/-- The skeins of slot a follow it. -/
def followSlot (a : Nat) (s : State) : State := (actP a s).prof.skeins.foldl (fun s k => followSlots k s) s

/-- The P-die reports slot a with a reason of R275 and its tick. -/
def reportActAt (a reason tick : Nat) (s : State) : State :=
  pushUp (.act a reason (actP a s).phase (actP a s).flags tick) s

/-- The same at the present tick. -/
def reportAct (a reason : Nat) (s : State) : State := reportActAt a reason s.pNow s

/-! ### Kink detection (R264) -/

/-- The rise detector over the means of the rise, one for each 1,000 ticks from the start of PEAK: the first
qualifying mean and the one that completes the run of KINK_N. -/
def riseScan (di n : Nat) : List (Nat × Nat) → Nat → Nat → Nat → Option (Nat × Nat)
  | [], _, _, _ => none
  | (i, m) :: rest, top, run, first =>
    let top := max top m
    if m + di ≤ top then
      let first := if run = 0 then i else first
      if n ≤ run + 1 then some (first, i) else riseScan di n rest top (run + 1) first
    else riseScan di n rest top 0 0

/-- A kink is found: the time of its first mean or cycle from the start of PEAK, in ticks, and the tick of the
detection (R264). -/
def setKink (a first at' : Nat) (s : State) : State :=
  let s := modActP a (fun x =>
    { x with flags := { x.flags with kinkSeen := true, kinkTime := first / 2000 }
             kinkEnd := if x.prof.kinkEnds then some (at' + x.prof.kinkExt * 2000) else none }) s
  reportActAt a 3 at' s

/-- The rise detector of slot a over the means of its rise. -/
def detectRise (a : Nat) (means : List Nat) (s : State) : State :=
  let x := actP a s
  let p := x.prof
  if x.phase != 2 || !x.rise || !p.kinkEn || x.flags.kinkSeen then s
  else
    let idx := ((List.range means.length).zip means).filter (fun q => p.kinkBlank * 20000 ≤ q.1 * 1000)
    match riseScan p.kinkDi p.kinkN idx 0 0 0 with
    | none => s
    | some (i, j) => setKink a (i * 1000) (x.peakStart + (j + 1) * 1000) s

/-- The decay code that an off-interval or release of slot a uses on HSKEIN: FAST and MIXED become SLOW while a cell
has spent three quarters of its budget, reported once in a run (R262). -/
def chooseDecay (a code : Nat) (s : State) : Nat × State :=
  let h := (actP a s).prof.hskein
  let high := fun n =>
    3 * fld 15 0 (nth s.pdie.prot.bobbin (bankOf n)) * 1000 ≤ 4 * ((cellP n s).ledger + (cellP n s).energy)
  if code = 0 ∨ !((conductingCells h s).any high) then (code, s)
  else
    let first := !(actP a s).substRun
    let s := modActP a (fun x => { x with substRun := true, flags := { x.flags with subst := true } }) s
    (0, if first then reportP 0x0C1 a 0 (reportAct a 7 s) else s)

/-- The slots of one HSKEIN. -/
def siblings (a : Nat) (s : State) : List Nat :=
  (List.range 16).filter (fun b =>
    b != a && (actP b s).prof.kind == 2 && (actP b s).prof.hskein == (actP a s).prof.hskein)

/-- PEAK begins: the rise. DECAY_SUBST still shows the last run, PEAK_DUR the last PEAK (R276). A final release on the shared HSKEIN ends as its
high sides turn back on (R259, R261). -/
def startPeak (a : Nat) (s : State) : State :=
  let t := s.pNow
  let sib := if (actP a s).prof.kind = 2 then siblings a s else []
  let s := sib.foldl (fun s b => modActP b (fun x => { x with final := false, dec := 0 }) s) s
  let s := modActP a (fun x =>
    { prof := x.prof, phase := 2, since := t, peakStart := t, on := true, ivStart := t, rise := true
      flags := { subst := x.substRun, peakDur := x.flags.peakDur } }) s
  let s := followSlot a s
  let s := sib.foldl (fun s b => followSlot b s) s
  reportAct a 1 s

/-- The faster of two release codes: FAST before MIXED before SLOW (R261). -/
def fasterDecay (a b : Nat) : Nat := if a = 1 ∨ b = 1 then 1 else if a = 2 ∨ b = 2 then 2 else 0

/-- The means of a rise that a decision of the L-die or the fail-safe state ends, which no row carries: free values, one for
each 1,000 ticks since the start of PEAK (log entry 67). -/
def freeMeans (n : Nat) (s : State) : List Nat × State :=
  ((List.range n).map (fun i => (Config.freeWord (s.free + i)).toNat % 48001), { s with free := s.free + n })

/-- The rise of slot a, if one runs, ends outside CHOP_THRESHOLD and PEAK_END: its detector has run all the same (R264). -/
def endRise (a : Nat) (s : State) : State :=
  let x := actP a s
  if x.phase = 2 && x.rise && x.prof.kinkEn && !x.flags.kinkSeen then
    let (m, s) := freeMeans ((s.pNow - x.peakStart) / 1000) s
    detectRise a m s
  else s

/-- PEAK_DUR after the end of slot x's phase at tick t: the length of a PEAK that ends so (R276). -/
def peakDurAt (x : ActP) (t : Nat) : Nat := if x.phase = 2 then (t - x.peakStart) / 2000 else x.flags.peakDur

/-- RELEASE begins (R257, R260, R261); with it a PEAK that has not ended yet (R275). -/
def startRelease (a : Nat) (s : State) : State :=
  let t := s.pNow
  let s := endRise a s
  let x := actP a s
  let sib := if x.prof.kind = 2 then siblings a s else []
  let alone := sib.all (fun b => (actP b s).phase != 2 && (actP b s).phase != 3)
  let final := x.prof.kind = 2 && alone
  let same := sib.filter (fun b => (actP b s).phase == 4 && (actP b s).since == t)
  let want := same.foldl (fun d b => fasterDecay d (actP b s).prof.relDec) x.prof.relDec
  let mix := ((a :: same).map (fun b => let p := (actP b s).prof; if p.relDec = 2 then p.mixT else 0)).foldl max 0
  let (dec, s) := if x.prof.kind = 1 || final then chooseDecay a want s else (0, s)
  let s := modActP a (fun y =>
    { y with phase := 4, since := t, on := false, ivStart := t, offEnd := none, kinkEnd := none, dec := dec, mix := mix
             final := final, left := x.phase, fsHold := false
             flags := { y.flags with peakDur := peakDurAt x t, heldFs := false } }) s
  let s := if final then
      sib.foldl (fun s b =>
        if (actP b s).phase = 4 then modActP b (fun y => { y with final := true, dec := dec, mix := mix, ivStart := t }) s else s) s
    else s
  let s := followSlot a s
  let s := sib.foldl (fun s b => followSlot b s) s
  reportAct a 5 (if x.phase = 2 then reportAct a 4 s else s)

/-- A slot goes to IDLE with its skeins off. -/
def stopSlot (a : Nat) (s : State) : State :=
  followSlot a (modActP a (fun x =>
    { x with phase := 0, since := s.pNow, on := false, offEnd := none, kinkEnd := none, final := false, fsHold := false
             flags := { x.flags with heldFs := false, peakDur := peakDurAt x s.pNow } }) s)

/-- An abort ends slot a: PEAK_END is raised of a PEAK that ends so, IDLE of a RELEASE (R275). -/
def abortSlotP (a : Nat) (s : State) : State :=
  let ph := (actP a s).phase
  let s := stopSlot a (endRise a s)
  if ph = 2 then reportAct a 4 s else if ph = 4 then reportAct a 6 s else s

/-- A phase decision of the L-die arrives on the P-die (R258). -/
def takePhase (a phase : Nat) (s : State) : State :=
  let x := actP a s
  match phase with
  | 2 => if x.phase = 0 then startPeak a s else s
  | 4 => if x.phase = 2 ∨ x.phase = 3 then startRelease a s else s
  | 0 => if x.phase = 0 then s else abortSlotP a s
  | _ => s

/-- The fail-safe state of every slot, by the entry of its valve skein: OFF takes it to RELEASE, HOLD lets its PEAK end and keeps
it in HOLD from then on (R269). -/
def slotsFailSafe (mode : Nat → Nat) (s : State) : State :=
  (List.range 16).foldl (fun s a =>
    let x := actP a s
    if x.phase != 2 && x.phase != 3 then s
    else if mode x.prof.chopper = 4 then
      modActP a (fun x => { x with fsHold := true, flags := { x.flags with heldFs := x.phase == 3 } }) s
    else startRelease a s) s

/-! ### L-die -/

/-- The sequencer changed by f. -/
def modAct (f : ActSt → ActSt) (s : State) : State := { s with act := f s.act }
/-- Slot a of the L-die changed by f. -/
def modActL (a : Nat) (f : ActL → ActL) (s : State) : State := modAct (fun x => { x with slots := upd x.slots a f }) s

/-- ACT_SLOTs_STAT. -/
def actStat (a : Nat) (s : State) : Word :=
  let x := actL a s
  pack [(9, b2n x.flags.heldFs), (8, b2n x.aborted), (7, b2n x.flags.subst), (6, b2n x.flags.noKink),
    (5, b2n x.flags.kinkSeen), (4, b2n x.deferred), (0, x.phase)]

/-- ACT_SLOTs_MEAS. -/
def actMeas (a : Nat) (s : State) : Word :=
  pack [(16, (actL a s).flags.kinkTime % 65536), (0, (actL a s).flags.peakDur % 65536)]

/-- The event ACT_STATUS at tick t (R275). -/
def actEvent (t a reason : Nat) (s : State) : State :=
  postEventAt t 0xF04 [pack [(8, reason), (0, a)], actStat a s, actMeas a s] s

/-- A phase taken by the L-die: the DUTY of the slot's skeins follows (R256). -/
def setPhase (a phase : Nat) (s : State) : State :=
  let s := modActL a (fun x =>
    { x with phase := phase, left := if phase = 4 then x.phase else x.left
             holdEnd := if phase = 3 then x.holdEnd else none }) s
  (actL a s).prof.skeins.foldl (fun s k =>
    let on := (slotsL k s).any (fun b => 2 ≤ (actL b s).phase)
    modSkL k (fun x => { x with sp := { x.sp with duty := b2n on } }) s) s

/-- The claim of slot a on its HSKEIN (R265). -/
def claimOf (a : Nat) (s : State) : Nat :=
  let x := actL a s
  let of := fun ph => if ph = 2 then x.prof.iPeak else if ph = 3 then x.prof.iHold else 0
  if x.phase = 4 then of x.left else of x.phase

/-- The claims on HSKEIN h of the BANK slots. -/
def claimsOn (h : Nat) (s : State) : Nat :=
  ((List.range 16).map (fun a =>
    if (actL a s).prof.kind = 2 ∧ (actL a s).prof.hskein = h then claimOf a s else 0)).sum

/-- The claim of a fire of slot a fits (R265). -/
def claimFits (a : Nat) (s : State) : Bool :=
  let p := (actL a s).prof
  p.kind != 2 || claimsOn p.hskein s + p.iPeak ≤ (defL p.hskein s).ipeak

/-- PEAK decided for slot a: it goes to the P-die (R257, R258). -/
def decidePeak (a : Nat) (s : State) : Nat × State :=
  let s := setPhase a 2 s
  pushCfg (.act a 2) s

/-- The head of HSKEIN h's queue of deferred slots starts if its claim fits (R266). -/
def startHead (h : Nat) (s : State) : State :=
  match s.act.queue.find? (fun a => (actL a s).prof.hskein == h) with
  | none => s
  | some a =>
    if claimFits a s && linkLive s then
      (decidePeak a (modAct (fun x => { x with queue := x.queue.filter (fun b => b != a) }) s)).2
    else s

/-- A claim on slot a's HSKEIN has fallen: heads start for as long as they fit (R266). -/
def claimFell (a : Nat) (s : State) : State :=
  let p := (actL a s).prof
  if p.kind != 2 then s else (List.range 16).foldl (fun s _ => startHead p.hskein s) s

/-- A slot is aborted: a deferred one leaves the queue, a running one goes to IDLE with its skeins off and the fault
ACT_ABORT (R257). -/
def abortSlot (a : Nat) (s : State) : State :=
  let ph := (actL a s).phase
  if ph = 0 then s
  else
    let s := modAct (fun x => { x with queue := x.queue.filter (fun b => b != a) }) s
    let s := setPhase a 0 (modActL a (fun x => { x with aborted := true }) s)
    let s := bump (ctr 0x06 (8 * a + 5)) s
    let s := if ph = 1 then s else reportL 0x0C0 a (pushCfg' (.act a 0) s)
    claimFell a (actEvent s.now a 8 s)

/-- A load fault of skein k, or its loss, aborts its slots (R257). -/
def abortSlotsOf (k : Nat) (s : State) : State := (slotsL k s).foldl (fun s a => abortSlot a s) s

/-- Every deferred slot returns to IDLE, and none of them starts: at link silence, and as the group is disabled (R257, R268,
R270). -/
def dropDeferred (s : State) : State :=
  s.act.queue.foldl (fun s a => abortSlot a s) (modAct (fun x => { x with queue := [] }) s)

/-- Disabling group 0x03 (R270); with the link not LIVE no phase decision reaches the P-die, and the slots in PEAK or HOLD follow
at the next ADOPT_DONE. -/
def disableAct (s : State) : State :=
  if !linkLive s then dropDeferred s else
  (List.range 16).foldl (fun s a =>
    match (actL a s).phase with
    | 2 | 3 =>
      let s := setPhase a 4 (modActL a (fun x => { x with aborted := true }) s)
      let s := bump (ctr 0x06 (8 * a + 5)) (pushCfg' (.act a 4) s)
      actEvent s.now a 8 s
    | _ => s) (dropDeferred s)

/-- An event of slot a from the P-die (R257, R264, R275). A phase that the L-die has since overruled is not taken. -/
def takeActEvent (a reason phase : Nat) (f : ActFlags) (tick : Nat) (s : State) : State :=
  let s := modActL a (fun x => { x with flags := f }) s
  let x := actL a s
  match reason with
  | 0 =>
    -- the adoption of a slot that is not IDLE (R268)
    let s := modActL a (fun x => { x with prof := (actP a s).prof }) s
    let s := setPhase a phase s
    let s := if phase = 4 then modActL a (fun x => { x with left := (actP a s).left }) s else s
    if phase = 3 ∧ x.prof.holdT != 0 then
      modActL a (fun x => { x with holdEnd := some (s.now + x.prof.holdT * 200000) }) s
    else s
  | 1 => actEvent tick a 1 (bump (ctr 0x06 (8 * a)) s)
  | 3 => actEvent tick a 3 (bump (ctr 0x06 (8 * a + 2)) s)
  | 4 =>
    let s := if f.noKink then bump (ctr 0x06 (8 * a + 3)) s else s
    if x.phase = 2 ∧ phase = 3 then
      let s := setPhase a 3 s
      let s := if x.prof.holdT = 0 then s
        else modActL a (fun x => { x with holdEnd := some (tick + x.prof.holdT * 200000) }) s
      claimFell a (actEvent tick a 4 s)
    else actEvent tick a 4 s
  | 5 => actEvent tick a 5 (if x.phase = 2 ∨ x.phase = 3 then setPhase a 4 s else s)
  | 6 => if x.phase = 4 then claimFell a (actEvent tick a 6 (setPhase a 0 s)) else actEvent tick a 6 s
  | 7 => actEvent tick a 7 (bump (ctr 0x06 (8 * a + 4)) s)
  | _ => s

end Sys2Proof.Machine
end

