-- ==== Sys2Proof/Machine/Apply.lean ====
section
/-! DEFINITION. What the P-die does with a set-point (R128), a bridge target (R136, R137), an active mask (R151,
R155), a skein's definition and the fail-safe entries (R247 to R250). -/

namespace Sys2Proof.Machine

/-! ### Bridge transitions (R136, R137) -/

/-- The state a pair moves to next from cur on its way to tgt: between FORWARD and REVERSE by BRAKE_LOW, or by
COAST where REV_BRAKE is 0 (R136). -/
def nextBridge (revBrake cur tgt : Nat) : Option Nat :=
  if cur == tgt then none
  else if (cur == 1 && tgt == 2) || (cur == 2 && tgt == 1) then some (if revBrake = 0 then 0 else 3)
  else some tgt

/-- The brake phase of pair leader x goes on with its target: the target is the other direction (R137). -/
def brakeHolds (x : SkeinP) : Bool :=
  x.brakeEnd.isSome && (x.sp.bstate == 1 || x.sp.bstate == 2) && x.sp.bstate != x.brakeFrom

/-- The pair's leader begins to move from its present state toward its target, a running transition included
(R136, R137). -/
def moveBridge (x : SkeinP) : SkeinP :=
  if brakeHolds x then x
  else
    let nxt := nextBridge x.defn.revBrake x.bactual x.sp.bstate
    match nxt with
    | none => { x with via := if x.via.isSome then some x.bactual else none, brakeEnd := none }
    | some n =>
      -- out of a brake phase whose time has run, the direction follows
      let fromDir := x.bactual == 1 || x.bactual == 2
      { x with via := some n, brakeEnd := none
               brakeFrom := if fromDir then x.bactual else x.brakeFrom }

/-- The pair has reached the state it was moving to; a brake phase, or the dead time in COAST, starts there where
the other direction is still to come (R136). -/
def arriveBridge (now dead : Nat) (x : SkeinP) : SkeinP :=
  match x.via with
  | none => x
  | some n =>
    let goesOn := (x.sp.bstate == 1 || x.sp.bstate == 2) && x.sp.bstate != x.brakeFrom &&
      (x.bactual == 1 || x.bactual == 2) && (n == 3 || n == 0)
    { x with bactual := n, via := none, legAt := none
             brakeEnd := if !goesOn then none
               else some (if n = 3 then now + x.defn.revBrake * 200000 else now + dead) }

/-- Skein k and, in a pair, its partner brought to the present. -/
def accrueBoth (k : Nat) (s : State) : State :=
  let s := accrue k s
  if pairedP k s then accrue (defP k s).partner s else s

/-- The gates of both legs of a pair, or of the one skein. -/
def driveBoth (k : Nat) (s : State) : State :=
  if pairedP k s then driveGates (defP k s).partner (driveGates k s) else driveGates k s

/-- Leg k of a pair has reached what it is to drive. -/
def legArrived (k : Nat) (s : State) : Bool :=
  (skP k s).change.isNone && (lateOf k s).isNone && (skP k s).drive == wanted k s

/-- The pair of leader l moves out of COAST toward state n: into a direction a fingerprint window opens on the leg that is to
drive high, and the one of a direction that it has not reached comes to nothing (R196). -/
def printBridge (l : Nat) (n : Option Nat) (s : State) : State :=
  let f := (defP l s).partner
  let s := dropPrint f (dropPrint l s)
  match n with
  | some 1 => openPrint l s
  | some 2 => openPrint f s
  | _ => s

/-- The pair of leader l begins to move toward its target: its legs follow. -/
def startBridge (l : Nat) (s : State) : State :=
  let x := skP l s
  let s := modSkP l moveBridge s
  let n := (skP l s).via
  driveBoth l (if n == x.via then s
    else
      let s := modSkP l (fun x => { x with legAt := none }) s
      if x.bactual = 0 then printBridge l n s else s)

/-- The state of skein k has changed: the leave point of a running handover counts from now (R155). -/
def handChanged (k : Nat) (s : State) : State :=
  modSkP k (fun x => { x with hand := x.hand.map (fun h => { h with since := s.pNow }) }) s

/-- The pair of leader l moved as far as it goes at the present tick, over at most n states: the first leg arrives, then the
second moves, and with it the pair has arrived (R136). -/
def settleBridgeN : Nat → Nat → State → State
  | 0, _, s => s
  | n + 1, l, s =>
    match (skP l s).via with
    | none => s
    | some st =>
      let f := (defP l s).partner
      let a := firstLeg st l f
      let b := if a == l then f else l
      let s := if (skP l s).legAt.isNone && legArrived a s then
          driveGates b (modSkP l (fun x => { x with legAt := some s.pNow }) s)
        else s
      if (skP l s).legAt.isSome && legArrived b s then
        let s := handChanged f (handChanged l (modSkP l (arriveBridge s.pNow (deadOf l s)) s))
        let x := skP l s
        if x.brakeEnd.isNone && x.bactual != x.sp.bstate then settleBridgeN n l (startBridge l s) else s
      else s

/-- The pair of leader l moved as far as it goes at the present tick. -/
def settleBridge (l : Nat) (s : State) : State := settleBridgeN 4 l s

/-! ### Set-points (R128, R233) -/

/-- A turn-on from off opens the inrush window, takes new envelopes into force, those of both legs of a pair, and counts; an HS
or LS skein opens a fingerprint window (R139, R150, R196, R199). -/
def turnOn (k : Nat) (s : State) : State :=
  let s := bump (ctr 0x04 (0x200 + 4 * k)) (modSkP k (fun x =>
    { x with inrushEnd := some (s.pNow + x.defn.inrushTicks), windowStart := s.pNow }) s)
  let s := takeEnvelope k s
  if pairedP k s then
    let f := (defP k s).partner
    takeEnvelope f (bump (ctr 0x04 (0x200 + 4 * f)) s)
  else if (defP k s).mode == 1 || (defP k s).mode == 2 then openPrint k s else s

/-- In a skein that is off there is no overlap: its outgoing cell leaves, of both legs of a pair (R155). -/
def leaveOff (k : Nat) (s : State) : State :=
  if !offP k s then s
  else
    let s := leaveNow k s
    if pairedP k s then leaveNow (defP k s).partner s else s

/-- The P-die takes a set-point and a cap for skein k at its present tick: the output follows at once (R128), a
turn-on opens the inrush window (R139), a running handover's leave point is counted anew (R155); a change within a
fingerprint window spoils its record (R197). A FLASH goes on under a new cap, and ends with a set-point. -/
def applySetPoint (k : Nat) (p : SetPoint) (cap : Nat) (s : State) : State :=
  let wasOff := offP k s
  let changes := (skP k s).sp.duty != p.duty || (skP k s).cap != cap
  let s := accrueBoth k s
  let moved := (skP k s).sp != p || (skP k s).cap != cap || (skP k s).flash.isSome
  let s := modSkP k (fun x => { x with sp := p, cap := cap, flash := if x.sp == p && x.cap != cap then x.flash else none }) s
  let s := if !moved then s else if pairedP k s then handChanged (defP k s).partner (handChanged k s) else handChanged k s
  let s := if !changes then s else if pairedP k s then spoilPrint (defP k s).partner (spoilPrint k s) else spoilPrint k s
  let l := leaderP k s
  let isOff := offWith (pairedP k s || (defP k s).leg) (defP k s) (skP l s).sp
  let s := if wasOff && !isOff then turnOn k s else s
  let s := if !wasOff && isOff then modSkP k (fun x => { x with offSince := s.pNow }) s else s
  leaveOff k (settleBridge l (if pairedP k s && k == l then startBridge l s else driveBoth k s))

/-- The P-die takes an active mask and an outgoing mask for skein k (R151, R155). A skein that is off has no
overlap; a running handover goes on where other cells join or leave. The leave rule is the one that the L-die sends with it
(R233). -/
def applyMask (k mask outgoing rule : Nat) (s : State) : State :=
  let off := offP k s
  changeSkP k (fun s => modSkP k (fun x =>
    if outgoing = 0 ∨ off then { x with mask := mask &&& (4095 ^^^ outgoing), hand := none }
    else { x with mask := mask ||| outgoing
                  hand := (x.hand.filter (fun h => h.outgoing == outgoing)).or
                    (some { outgoing := outgoing, applied := s.pNow, since := s.pNow, rule := rule }) }) s) s

/-- The on-phase of skein k in ticks, at its effective duty: the leader's for a leg (R134, R155). -/
def onTicks (k : Nat) (s : State) : Nat :=
  if pairedP k s then
    let x := skP (leaderP k s) s
    effDuty x.defn x.sp.duty x.cap * x.defn.pre
  else dutyNow k s * (defP k s).pre

/-- The first start of an on-phase of definition d at tick t or after it (R125). -/
def startFrom (d : SkeinDef) (t : Nat) : Nat :=
  let period := d.pre * d.steps
  let shift := d.phase * d.pre
  ceilDiv (t + period - shift) period * period + shift - period

/-- The leave point of handover h of skein k (R155): with edges, the end of the first on-phase that starts once the mask is
applied and ends after the last change; without edges the skein conducts continuously, as an HB skein does whose high or low
interval R129 omits, which R155 does not name (DESIGN CHOICE, log entry 96); a skein that is off has no overlap. -/
def leavePoint (k : Nat) (h : HandP) (s : State) : Nat :=
  if offP k s then h.since
  else if h.rule = 1 && h.since == h.applied then h.applied + 2000
  else match freeRun k s with
    | none => h.since + 2000
    | some r => startFrom r.1 (max h.applied (h.since + 1 - onTicks k s)) + onTicks k s

/-! ### Definitions and the fail-safe memory (R146, R247) -/

/-- The skein's slew as the P-die holds it: CELL_CFG.SLEW of every cell of skein k (R132). -/
def setSlew (k v : Nat) (s : State) : State :=
  (defP k s).cells.foldl (fun s n => modCell n (fun c => { c with slew := v }) s) s

/-- A definition and its first active mask taken into force as a whole; the skein is off (R146). A gate-off still to be reported
stands against the other side under the new definition too (R133). -/
def applyDefine (k : Nat) (d : SkeinDef) (mask : Nat) (s : State) : State :=
  let old := (defP k s).cells
  let s := accrue k s
  let s := old.foldl (fun s n => modCell n (fun c => { c with hsOn := false, lsOn := false, role := 0 }) s) s
  let s := d.cells.foldl (fun s n => modCell n (fun c =>
    { c with role := if mask.testBit (n - d.first) then 1 else if causePending c then 3 else 2 }) s) s
  let s := modSkP k (fun x =>
    let y := driveOff x
    { defn := d, mask := mask, since := s.pNow, offSince := s.pNow, env := [], primary := x.primary
      lastOn := y.lastOn, clearAt := y.clearAt, stuckSide := x.stuckSide }) s
  setSlew k d.slew s

/-- The copy of a fail-safe entry in force: the valid one of the higher generation (R247). -/
def fsCopy (e : FsEntry) : Option FsCopy :=
  if e.a.valid && (!e.b.valid || e.b.gen ≤ e.a.gen) then some e.a
  else if e.b.valid then some e.b else none

/-- A new content of an entry, written one copy at a time: the older copy first (R247). -/
def writeFs (c : FsCopy) (e : FsEntry) : FsEntry :=
  let g := max e.a.gen e.b.gen + 1
  let n := { c with gen := g }
  { e with a := n, b := n, writing := none }

/-- An entry after a loss of power. A write updates one copy at a time, the one not in force first, and leaves the other in
force; how far a write had come is a free value: the first copy is spoilt, or is written, and then the second may be
(R247). -/
def cutFs (far : Nat) (e : FsEntry) : FsEntry :=
  match e.writing with
  | none => e
  | some c =>
    let n := { c with gen := max e.a.gen e.b.gen + 1 }
    let bFirst := e.a.valid && (!e.b.valid || e.b.gen ≤ e.a.gen)
    let first := if far % 3 = 0 then { n with valid := false } else n
    let second := fun (x : FsCopy) => if far % 3 = 2 then { x with valid := false } else x
    if bFirst then { a := second e.a, b := first } else { a := first, b := second e.b }

/-- The duty of a fail-safe entry of mode DUTY or FLASH (R248). -/
def fsDuty (d : SkeinDef) (val : Word) : Nat :=
  if d.static then (if fld 9 0 val = 0 then 0 else 1) else fld 9 0 val * d.steps / 1000

/-- What a fail-safe entry makes of a skein: its set-point and its FLASH (R248). -/
def fsSetPoint (d : SkeinDef) (mode : Nat) (val : Word) : SetPoint × Option (Nat × Nat × Nat) :=
  match mode with
  | 1 => ({ duty := if d.static then 1 else d.steps, hiz := false }, none)
  | 2 => ({ duty := fsDuty d val, hiz := false }, none)
  | 3 => ({ duty := fsDuty d val, hiz := false },
      some (fld 23 16 val, fld 31 24 val, if d.static then 1 else fsDuty d val))
  | 5 => ({ bstate := 3 }, none)
  | _ => ({}, none)

/-- The fail-safe state of skein k applied at the P-die's present tick. After a power-on HOLD is OFF; a
cross-device primary is OFF whatever its entry holds (R178, R248). R248 gives the applied states no cap: every entry but HOLD
is applied with CAP 1,000, which ends a cap in force (DESIGN CHOICE, log entry 76). -/
def applyFsSkein (cold : Bool) (k : Nat) (s : State) : State :=
  let d := defP k s
  if !d.defined || d.owner == 2 then s
  else if pairedP k s && leaderP k s != k then s
  else
    let c := (fsCopy (nth s.pdie.fs k)).getD {}
    let mode := if (skP k s).primary then 0 else c.mode
    if mode = 4 ∧ !cold then s
    else
      let (p, fl) := fsSetPoint d mode c.val
      let s := applySetPoint k p 1000 s
      let s := modSkP k (fun x => { x with flash := fl }) s
      driveBoth k s

/-- The fail-safe mode in force for skein k (R247). -/
def fsModeP (k : Nat) (s : State) : Nat := ((fsCopy (nth s.pdie.fs k)).map (fun c => c.mode)).getD 0

/-- The fail-safe choice of each matrix port: blank, or the displayed buffer held; after a power-on both leave the
port blank (R300). -/
def portsFailSafe (cold : Bool) (s : State) : State :=
  (List.range 2).foldl (fun s i =>
    let keep := nth s.pdie.portFs i && !cold
    modP (fun p => { p with ports := upd p.ports i (fun x => { x with blank := x.blank || !keep }) }) s) s

/-- Every entry applied at one tick (R249); the field outputs go off with them (R53, R331). -/
def applyFailSafe (cold : Bool) (s : State) : State :=
  let s := modP (fun p => { p with sup := .failSafe, expiry := none, fsPending := true, coldFs := p.coldFs || cold }) s
  let s := (List.range 48).foldl (fun s k => applyFsSkein cold k s) s
  let s := portsFailSafe cold (slotsFailSafe (fun k => if cold then 0 else fsModeP k s) s)
  bump (ctr 0x09 3) s

end Sys2Proof.Machine
end

