-- ==== Sys2Proof/Machine/Loom.lean ====
section
/-! DEFINITION. Loom (chapter 5): ranking and placement (R153, R154), handovers (R155 to R157), the failover fast
path (R158 to R162), service levels and caps (R163 to R165), the management pass (R166 to R172) and chain entries
(R174 to R180). -/

namespace Sys2Proof.Machine

/-! ### Roles and masks -/

/-- The role of cell n. -/
def roleOf (n : Nat) (s : State) : Role := nth s.loom.roles n
/-- Cell n given a role. -/
def setRole (n : Nat) (r : Role) (s : State) : State := modLoom (fun l => { l with roles := put l.roles n r }) s
/-- The bits of skein k's cells that are in a role, bit i for cell FIRST + i (R186). -/
def roleMask (k : Nat) (r : Role) (s : State) : Nat :=
  bitsOf ((cellsIn k r s).map (fun n => n - (defL k s).first))
/-- The cells in service: ACTIVE or STANDBY (R151). -/
def inService (k : Nat) (s : State) : Nat := (cellsIn k .active s).length + (cellsIn k .standby s).length

/-- Cell n is pinned, or excluded, by LOOM_SKEIN_PIN of skein k (R186). -/
def pinned (k n : Nat) (s : State) : Bool := bit (n - (defL k s).first) (skL k s).pin
/-- The same for EXCLUDE. -/
def excluded (k n : Nat) (s : State) : Bool := bit (16 + (n - (defL k s).first)) (skL k s).pin

/-- The cells of skein k that Loom has placed in its mask: the ACTIVE ones and those that join (R151, R152). -/
def placed (k : Nat) (s : State) : List Nat := cellsIn k .active s ++ (skL k s).joining
/-- The cells of skein k that can come in: STANDBY, and not joining already. -/
def spareCells (k : Nat) (s : State) : List Nat :=
  (cellsIn k .standby s).filter (fun n => !(skL k s).joining.contains n)
/-- INOM of skein k: the leader's for a leg of a pair (R134). -/
def inomL (k : Nat) (s : State) : Nat := (defL (leaderL k s) s).inom

/-- The L-die's copy of cell n. -/
def viewOf (n : Nat) (s : State) : CellP := nth s.loom.view n

/-! ### Ranking (R153) -/

/-- The ranking keys of a cell: ledger at half its budget or above, temperature, on-time in seconds, number. -/
def rankKey (n : Nat) (s : State) : Nat × Nat × Nat × Nat :=
  let c := viewOf n s
  (b2n (decide (fld 15 0 (nth s.loom.prot.bobbin (bankOf n)) * 500 ≤ c.ledger)), c.temp,
    c.onTicks / 200000000, n)

/-- Key a ranks better than key b. -/
def keyLess (a b : Nat × Nat × Nat × Nat) : Bool :=
  if a.1 != b.1 then a.1 < b.1
  else if a.2.1 != b.2.1 then a.2.1 < b.2.1
  else if a.2.2.1 != b.2.2.1 then a.2.2.1 < b.2.2.1
  else a.2.2.2 < b.2.2.2

/-- Insertion into a list from the best ranked to the worst. -/
def rankInsert (s : State) (n : Nat) : List Nat → List Nat
  | [] => [n]
  | m :: rest => if keyLess (rankKey n s) (rankKey m s) then n :: m :: rest else m :: rankInsert s n rest

/-- Cells from the best ranked to the worst. -/
def ranked (l : List Nat) (s : State) : List Nat := l.foldr (fun n acc => rankInsert s n acc) []

/-- The worst ranked of some cells. -/
def worst (l : List Nat) (s : State) : Option Nat := (ranked l s).getLast?
/-- The best ranked of some cells. -/
def best (l : List Nat) (s : State) : Option Nat := (ranked l s).head?

/-- The headroom of bank b under BANK_LIMIT.CONT, on its busier side whatever the skein's mode: R154 does not say which side
counts (DESIGN CHOICE, log entry 96). -/
def headroom (b : Nat) (s : State) : Nat :=
  let p := bankSum b [] s
  fld 15 0 (nth s.loom.bankLimit b) - max p.1 p.2

/-- Candidates of an initial placement: by rank, a tie on keys 1–3 going to the bank with more headroom
(R154). -/
def placeLess (s : State) (a b : Nat) : Bool :=
  let ka := rankKey a s
  let kb := rankKey b s
  if ka.1 == kb.1 && ka.2.1 == kb.2.1 && ka.2.2.1 == kb.2.2.1 && bankOf a != bankOf b &&
    headroom (bankOf a) s != headroom (bankOf b) s then headroom (bankOf b) s < headroom (bankOf a) s
  else keyLess ka kb

/-- Insertion by the order of initial placement. -/
def placeInsert (s : State) (n : Nat) : List Nat → List Nat
  | [] => [n]
  | m :: rest => if placeLess s n m then n :: m :: rest else m :: placeInsert s n rest

/-- The initial placement of a definition under a pin word: the roles of its cells, in order (R154). -/
def placement (d : SkeinDef) (pin : Word) (s : State) : List (Nat × Role) :=
  let cells := d.cells
  let out := fun n => bit (16 + (n - d.first)) pin || causePending (viewOf n s)
  let pinnedCells := cells.filter (fun n => !out n && bit (n - d.first) pin)
  let rest := (cells.filter (fun n => !out n && !bit (n - d.first) pin)).foldr (fun n acc => placeInsert s n acc) []
  let more := rest.take (d.target - pinnedCells.length)
  cells.map (fun n =>
    (n, if out n then Role.outOfService
        else if pinnedCells.contains n || more.contains n then Role.active else Role.standby))

/-- The active mask of a placement. -/
def placedMask (d : SkeinDef) (p : List (Nat × Role)) : Nat :=
  bitsOf ((p.filter (fun x => x.2 == Role.active)).map (fun x => x.1 - d.first))

/-- The roles of a placement taken. -/
def takeRoles (p : List (Nat × Role)) (s : State) : State := p.foldl (fun s x => setRole x.1 x.2 s) s

/-! ### Caps and levels (R163 to R165) -/

/-- CAP: the lowest cap in force, permille (R164). -/
def capOf (k : Nat) (s : State) : Nat := min (skL k s).overCap (if (skL k s).shed then 500 else 1000)

/-- The cap under which the P-die drives skein k: a pair runs one current through both legs, and takes the lower cap of the two
(R134, R164; DEDUCED, log entry 98). -/
def pairCap (k : Nat) (s : State) : Nat :=
  if pairedL k s then min (capOf k s) (capOf (defL k s).partner s) else capOf k s

/-- LOOM_SKEIN_MAPk (R186). -/
def mapWord (k : Nat) (s : State) : Word := pack [(12, roleMask k .standby s), (0, roleMask k .active s)]

/-- LOOM_SKEIN_STATk (R186). -/
def statWord (k : Nat) (s : State) : Word :=
  let ch := chainOf k s
  let e := ch.map (fun j => nth s.loom.chain j)
  pack [(29, b2n (skL k s).hand.isSome), (28, b2n ((e.map (fun e => bit 24 e.cfg)).getD false)),
    (26, (e.map (fun e => e.state)).getD 0), (16, capOf k s), (15, b2n (decide (capOf k s < 1000))),
    (12, (skL k s).level), (0, roleMask k .outOfService s)]

/-- The load number of skein k on this device (R120). -/
def loadNo (k : Nat) (s : State) : Nat := s.deviceId * 48 + k

/-- LOAD_STATUS with a reason (R165). -/
def loadStatus (k reason : Nat) (s : State) : State :=
  postEvent 0xF03 [pack [(0, loadNo k s), (8, reason)], mapWord k s, statWord k s] s

/-- The service level that the cells in service give (R163). The table has no row for a skein with more than A cells ACTIVE
while a handover runs, nor for one with fewer than A cells ACTIVE whose join the P-die has still to apply or R167 defers:
there the cells in service beyond A count as the spares (DESIGN CHOICE, log entry 70). -/
def levelOf (k : Nat) (s : State) : Nat :=
  let d := defL k s
  let n := inService k s
  if n = 0 then 4
  else if n < d.target then (if inomL k s ≤ 300 * n then 2 else 3)
  else if n - d.target < d.nspare then 1 else 0

/-- A level taken: LOAD_STATUS where it changes, with the fault source of levels 2 to 4 (R165). On the ARMED
secondary side of a chain entry every cell is STANDBY, and the level follows the cells in service. -/
def setLevel (k : Nat) (s : State) : State :=
  let lv := levelOf k s
  if (skL k s).level == lv then s
  else
    let s := modSkL k (fun x => { x with level := lv }) s
    let s := loadStatus k 2 s
    let s := if lv = 4 then abortSlotsOf k s else s
    if 2 ≤ lv then reportL (0x05F + lv) k s else s

/-- The fast path sets the level only where a report lowers N below A (R163). -/
def setLevelFast (k : Nat) (s : State) : State := if inService k s < (defL k s).target then setLevel k s else s

/-- The duty cap that OVERLOADED calls for (R164). -/
def overCapOf (k : Nat) (s : State) : Nat :=
  if (skL k s).level == 3 && !(defL (leaderL k s) s).static then 300000 * inService k s / inomL k s else 1000

/-- A skein's caps changed: the new cap goes down with a SETPOINT, the leader's for a leg, and LOAD_STATUS says so (R164, R165). -/
def recap (k : Nat) (f : SkeinL → SkeinL) (s : State) : State :=
  let old := capOf k s
  let s := modSkL k f s
  if capOf k s == old then s else loadStatus k 4 (modSkL (leaderL k s) (fun x => { x with send := true }) s)

/-- The shedding cap of skein k set or lifted: each CAP_CHANGE that shedding sets comes with PKG_POWER (R165, R172). -/
def shedSkein (k : Nat) (on : Bool) (s : State) : State :=
  let old := capOf k s
  let s := recap k (fun x => { x with shed := on }) s
  if on && capOf k s < old then reportL 0x064 0xFF s else s

/-! ### Joins and handovers (R155 to R157) -/

/-- The active set of skein k has changed (R170, R181). -/
def activeChanged (k : Nat) (s : State) : State := modSkL k (fun x => { x with lastChange := s.now }) s

/-- A STANDBY cell is placed in the mask of skein k; it is ACTIVE from the tick at which the P-die applies the mask
(R152). -/
def join (k n : Nat) (s : State) : State := modSkL k (fun x => { x with joining := x.joining ++ [n] }) s

/-- The P-die has applied the mask: the cells that joined are ACTIVE (R152). -/
def joined (k : Nat) (s : State) : State :=
  let js := (skL k s).joining
  if js.isEmpty then s
  else activeChanged k (modSkL k (fun x => { x with joining := [] }) (js.foldl (fun s n => setRole n .active s) s))

/-- A handover starts, or with no outgoing cell a join; the down frame with the new mask follows (R155). -/
def startHandover (k incoming : Nat) (outgoing : Option Nat) (s : State) : State :=
  let s := join k incoming s
  match outgoing with
  | none => s
  | some o => modSkL k (fun x => { x with hand := some { incoming := some incoming, outgoing := some o } }) s

/-- The handover of skein k is complete: the outgoing cell becomes STANDBY, or OUT_OF_SERVICE where it is excluded
(R152, R155). -/
def endHandover (k : Nat) (s : State) : State :=
  match (skL k s).hand with
  | none => s
  | some h =>
    let s := modSkL k (fun x => { x with hand := none }) s
    let s := h.outgoing.elim s (fun o =>
      if roleOf o s == .active then setRole o (if excluded k o s then .outOfService else .standby) s else s)
    activeChanged k (bump (ctr 0x03 (1 + 4 * k)) s)

/-- The P-die holds no handover of skein k any more, whose mask it had applied: the outgoing cell has left (R155). -/
def settleHand (k : Nat) (p : SkeinP) (s : State) : State :=
  match (skL k s).hand with
  | none => s
  | some h => if p.hand.isNone && !(h.incoming.any (fun n => (skL k s).joining.contains n)) then endHandover k s else s

/-! ### The fast path (R158, R159) -/

/-- The spare order: the one that the previous pass prepared, then the STANDBY cells that have come since, by rank (R159). -/
def spareOrder (k : Nat) (s : State) : List Nat :=
  let can := spareCells k s
  let first := (skL k s).spares.filter (fun m => can.contains m)
  first ++ ranked (can.filter (fun m => !first.contains m)) s

/-- The spare that joins for a faulted cell: the first of the spare order in its bank, else the first (R159). -/
def pickSpare (k n : Nat) (s : State) : Option Nat :=
  let l := spareOrder k s
  match l.find? (fun m => bankOf m == bankOf n) with
  | some m => some m
  | none => l.head?

/-- A spare joins for the faulted ACTIVE cell n of skein k, where there is one (R159). -/
def failOver (k n : Nat) (s : State) : State :=
  match pickSpare k n s with
  | some m => loadStatus k 1 (bump (ctr 0x03 (4 * k)) (join k m s))
  | none => s

/-- A cell fault of cell n of skein k (R157, R159). -/
def cellFault (k n : Nat) (s : State) : State :=
  let active := roleOf n s == .active
  let hand := (skL k s).hand
  let s := modSkL k (fun x => { x with joining := x.joining.filter (fun m => m != n) }) (setRole n .outOfService s)
  let s := if active then activeChanged k s else s
  match hand with
  | none => if active then failOver k n s else s
  | some x =>
    if x.incoming == some n then modSkL k (fun y => { y with hand := none }) s
    else if x.outgoing == some n then bump (ctr 0x03 (1 + 4 * k)) (modSkL k (fun y => { y with hand := none }) s)
    else if active then failOver k n s else s

/-- Skein k's reports are classified: a load fault where every ACTIVE cell reported a short-circuit trip within
400 ticks of the earliest report, else cell faults (R158). -/
def classify (k : Nat) (s : State) : State :=
  let rs := (skL k s).reports
  let t0 := (rs.map (fun r => r.tick)).min?.getD 0
  let win := rs.filter (fun r => r.tick ≤ t0 + 400)
  let active := cellsIn k .active s
  let short := fun n => win.any (fun r => r.cell == n && 1 ≤ r.cause && r.cause ≤ 3)
  let loadFault := !active.isEmpty && active.all short
  let s := modSkL k (fun x => { x with reports := rs.filter (fun r => t0 + 400 < r.tick) }) s
  let s := if loadFault then abortSlotsOf k (bump (ctr 0x03 (2 + 4 * k)) s) else s
  let faulty := ((win.map (fun r => r.cell)).eraseDups).filter (fun n => !(loadFault && active.contains n))
  setLevelFast k (faulty.foldl (fun s n => cellFault k n s) s)

/-! ### The management pass (R166 to R172) -/

/-- BACTUAL of a pair's leader as reported: 7 inside a dead time (R149). -/
def bactual (x : SkeinP) : Nat := if x.via.isSome then 7 else x.bactual

/-- No handover may start in skein k (R167). The peak phases of actuator slots are given by peak. -/
def deferred (k : Nat) (peak : Bool) (s : State) : Bool :=
  inInrush k s.now s || peak ||
    (pairedL k s && bactual (nth s.loom.skeinView (leaderL k s)) != (skL (leaderL k s) s).sp.bstate) ||
    (match chainOf k s with
      | some j => bit 24 (nth s.loom.chain j).cfg && (nth s.loom.chain j).state != 2
      | none => false)

/-- Item 1: a newly excluded ACTIVE cell leaves, and the best STANDBY cell that is not excluded joins (R166). Of several the
lowest cell number goes first, which R166 leaves open (DESIGN CHOICE, log entry 96). -/
def passExclude (k : Nat) (s : State) : Option State :=
  match (cellsIn k .active s).find? (fun n => excluded k n s),
      best ((spareCells k s).filter (fun n => !excluded k n s)) s with
  | some o, some i => some (startHandover k i (some o) s)
  | _, _ => none

/-- Item 2: a newly pinned STANDBY cell joins; the worst unpinned ACTIVE cell leaves unless the skein is short of
active cells (R166). On an ARMED secondary every cell stays STANDBY (R174). Of several the lowest cell number goes first, which
R166 leaves open (DESIGN CHOICE, log entry 96). -/
def passPin (k : Nat) (s : State) : Option State :=
  match (spareCells k s).find? (fun n => pinned k n s && !armedSecondary k s) with
  | none => none
  | some i =>
    if (placed k s).length < (defL k s).target then some (startHandover k i none s)
    else match worst ((cellsIn k .active s).filter (fun n => !pinned k n s)) s with
      | some o => some (startHandover k i (some o) s)
      | none => none

/-- The hottest of some cells; of equally hot ones the lowest cell number, which R168 leaves open (DESIGN CHOICE, log entry 96). -/
def hottest (l : List Nat) (s : State) : Option Nat :=
  l.foldl (fun acc n => match acc with
    | none => some n
    | some m => if (viewOf m s).temp < (viewOf n s).temp then some n else some m) none

/-- Item 3: eviction (R168). -/
def passEvict (k : Nat) (s : State) : Option State :=
  let limit := fld 15 8 s.loom.tjLimit + 64
  match hottest ((cellsIn k .active s).filter (fun n => !pinned k n s && limit ≤ (viewOf n s).temp)) s with
  | none => none
  | some o =>
    if (spareCells k s).any (fun n => (viewOf n s).temp + 10 ≤ (viewOf o s).temp) then
      (best (spareCells k s) s).map (fun i => startHandover k i (some o) s)
    else none

/-- Item 4: a cell joins a skein short of active cells (R166). An ARMED secondary drives nothing and is short of
none. -/
def passJoin (k : Nat) (s : State) : Option State :=
  if (placed k s).length < (defL k s).target && !armedSecondary k s then
    (best (spareCells k s) s).map (fun i => startHandover k i none s)
  else none

/-- Item 5: re-balancing of a skein that spans two banks (R169). Where both are above CONT the lower bank is treated first, which
R169 leaves open (DESIGN CHOICE, log entry 96). -/
def passRebalance (k : Nat) (s : State) : Option State :=
  let banks := ((defL k s).cells.map bankOf).eraseDups
  let above := fun b => !within (bankSum b [] s) (fld 15 0 (nth s.loom.bankLimit b))
  match banks with
  | [a, b] =>
    let move := fun (src dst : Nat) =>
      if !above src then none
      else match worst ((cellsIn k .active s).filter (fun n => bankOf n == src && !pinned k n s)) s,
          best ((spareCells k s).filter (fun n => bankOf n == dst)) s with
        | some o, some i =>
          let after := setRole o .standby (setRole i .active s)
          if within (bankSum dst [] after) (fld 15 0 (nth s.loom.bankLimit dst)) then
            some (startHandover k i (some o) s) else none
        | _, _ => none
    match move a b with
    | some s' => some s'
    | none => move b a
  | _ => none

/-- Rotation of skein k is due at a pass (R170). -/
def rotationDue (k : Nat) (s : State) : Bool :=
  let ri := fld 13 0 (skL k s).loomCfg
  bit 0 s.loom.ctl && ri != 0 && ceilDiv (skL k s).lastChange mgmtTicks + ri ≤ mgmtNow s

/-- Item 6: rotation (R170). -/
def passRotate (k : Nat) (s : State) : Option State :=
  if !rotationDue k s then none
  else match worst ((cellsIn k .active s).filter (fun n => !pinned k n s)) s, best (spareCells k s) s with
    | some o, some i => some (startHandover k i (some o) s)
    | _, _ => none

/-- The first of the items 1 to 5 that applies (R166). -/
def passItem (k : Nat) (s : State) : Option State :=
  match passExclude k s with
  | some x => some x
  | none => match passPin k s with
    | some x => some x
    | none => match passEvict k s with
      | some x => some x
      | none => match passJoin k s with
        | some x => some x
        | none => passRebalance k s

/-- What a pass still starts with group 0x0D disabled: the joins of items 2 and 4 that need no outgoing cell, which are no
handovers (R166, R173). -/
def passJoins (k : Nat) (s : State) : Option State :=
  match passPin k s with
  | some x => if (skL k x).hand.isSome then passJoin k s else some x
  | none => passJoin k s

/-- Cells whose causes have cleared return to service; excluded STANDBY cells leave it (R152). -/
def returnCells (k : Nat) (s : State) : State :=
  (defL k s).cells.foldl (fun s n =>
    match roleOf n s with
    | .outOfService =>
      if causePending (viewOf n s) || excluded k n s then s else loadStatus k 3 (setRole n .standby s)
    | .standby => if excluded k n s then setRole n .outOfService s else s
    | _ => s) s

/-- The word of LOOM_PIN is fully in force (R183). -/
def pinInForce (k : Nat) (s : State) : Bool :=
  (defL k s).cells.all (fun n =>
    (!excluded k n s || roleOf n s == .outOfService) &&
    (!pinned k n s || roleOf n s == .active || (roleOf n s == .outOfService && causePending (viewOf n s))))

/-- One pass over skein k: returned cells, at most one handover, level and cap, spare order (R163 to R166). -/
def passSkein (peak : Nat → Bool) (k : Nat) (s : State) : State :=
  if !(defL k s).defined then s
  else
    let s := returnCells k s
    let item := if deferred k (peak k) s || (skL k s).hand.isSome then none
      else if groupOff 0x0D s then passJoins k s else passItem k s
    let s := item.elim s (fun x => modSkL k (fun y => { y with movedAt := some (mgmtNow s) }) x)
    let s := setLevel k s
    let s := recap k (fun x => { x with overCap := overCapOf k s }) s
    let s := if 2 ≤ (skL k s).level && (skL k s).level ≤ 4 then bump (ctr 0x03 (3 + 4 * k)) s else s
    let s := if (skL k s).pinFresh && pinInForce k s then
        loadStatus k 8 (modSkL k (fun x => { x with pinFresh := false }) s) else s
    let order := ranked (spareCells k s) s
    modSkL k (fun x => { x with spares := order }) s

/-- Edge rates of R131, in units of 0.25 V/µs. -/
def slewRate (code : Nat) : Nat :=
  match code with
  | 0 => 2 | 1 => 3 | 2 => 4 | 3 => 6 | 4 => 8 | 5 => 12 | 6 => 20 | _ => 32

/-- The management view of cell n as it reads: the fault level while a cause is pending or SENSE_BAD is set
(R218). -/
def senseView (n : Nat) (s : State) : Nat :=
  let c := viewOf n s
  if causePending c || c.senseBad then 0xFFF else c.sense

/-- The view of cell n as a current: a fault level counts as 0 (R218). -/
def senseCurrent (n : Nat) (s : State) : Nat := if senseView n s = 0xFFF then 0 else senseView n s

/-- The conduction part of the dissipation of the ACTIVE cells, in units of 10^-9 × 10 mW (R171). -/
def conductionLoss (s : State) : Nat :=
  ((List.range 96).map (fun n =>
    if roleOf n s == .active then
      let c := viewOf n s
      let i := senseCurrent n s
      i * i * 22 * (5728 + 48 * c.temp)
    else 0)).sum

/-- SKEIN_CUR: the sum of the ACTIVE cells' views, fault levels counted as 0, 10 mA (R149, R218). -/
def skeinCur (k : Nat) (s : State) : Nat :=
  ((cellsIn k .active s).map (fun n => senseCurrent n s)).sum

/-- Skein k runs PWM: a leg of a pair in the direction that makes it the PWM leg (R135). -/
def runsPwm (k : Nat) (s : State) : Bool :=
  !pairedL k s || (skL (leaderL k s) s).sp.bstate == (if leaderL k s == k then 1 else 2)

/-- The switching part of a PWM skein, in units of 10 mW: its period is the leader's for a leg, its slew that of CELL_CFG, and
it switches where its effective duty leaves it edges (R132, R134, R135, R164, R171). Its VBAT is that of the bank that holds
FIRST, where it spans two, which R171 leaves open (DESIGN CHOICE, log entry 96). -/
def switchingLoss (k : Nat) (s : State) : Nat :=
  let d := defL (leaderL k s) s
  let v := (nth s.loom.bankView (bankOf (defL k s).first)).vbat
  let e := effDuty d (skL (leaderL k s) s).sp.duty (pairCap k s)
  if (defL k s).defined && runsPwm k s && !d.static && e != 0 && e < d.steps then
    v * v * skeinCur k s * 8 / (10000 * slewRate (viewOf (defL k s).first s).slew * (d.pre * d.steps))
  else 0

/-- LOOM_PWR_EST (R171), rounded down. -/
def powerEstimate (s : State) : Nat :=
  min 65535 (conductionLoss s / 10 ^ 9 + ((List.range 48).map (fun k => switchingLoss k s)).sum + 220)

/-- The PWM skeins of a priority group (R172). -/
def groupSkeins (p : Nat) (s : State) : List Nat :=
  (List.range 48).filter (fun k =>
    (defL k s).defined && !(defL k s).static && fld 17 16 (skL k s).loomCfg == p)

/-- The shedding caps of a group set or lifted (R172). -/
def shedGroup (p : Nat) (on : Bool) (s : State) : State :=
  (groupSkeins p s).foldl (fun s k => shedSkein k on s) s

/-- The shedding caps follow the groups that are shed: a skein that has become static or PRIO 0, or whose group is not shed,
loses its cap, and one that has come into a shed group takes it (R172, log entry 71). -/
def shedMembers (s : State) : State :=
  (List.range 48).foldl (fun s k =>
    let p := fld 17 16 (skL k s).loomCfg
    let d := defL k s
    shedSkein k (d.defined && !d.static && p != 0 && decide (s.loom.shedGroup ≤ p)) s) s

/-- Every shedding cap lifted (R172, R173). -/
def liftAll (s : State) : State :=
  let s := (List.range 48).foldl (fun s k => recap k (fun x => { x with shed := false }) s) s
  modLoom (fun l => { l with shedGroup := 4, coolPasses := 0 }) s

/-- The next group to shed: 3, then 2, then 1 (R172). -/
def nextGroup (g : Nat) (s : State) : Option Nat :=
  ([3, 2, 1].filter (fun p => p < g)).find? (fun p => !(groupSkeins p s).isEmpty)

/-- The end of a pass: the estimate, shedding one group where it is over the limit, counting the cool passes
(R171, R172). -/
def shedPass (s : State) : State :=
  let p := powerEstimate s
  let limit := fld 15 0 s.loom.pwrLimit
  let s := shedMembers (modLoom (fun l => { l with pwrEst := p }) s)
  if !bit 1 s.loom.ctl || groupOff 0x0D s then liftAll s
  else if limit < p then
    match nextGroup s.loom.shedGroup s with
    | none => modLoom (fun l => { l with coolPasses := 0 }) s
    | some g => modLoom (fun l => { l with shedGroup := g, coolPasses := 0 }) (shedGroup g true s)
  else if p * 10 < limit * 9 then modLoom (fun l => { l with coolPasses := l.coolPasses + 1 }) s
  else modLoom (fun l => { l with coolPasses := 0 }) s

/-- The roles as they will stand once the joins and handovers under way are done. -/
def movesDone (s : State) : State :=
  (List.range 48).foldl (fun s k =>
    let x := skL k s
    let s := x.joining.foldl (fun s n => setRole n .active s) s
    (x.hand.bind (fun h => h.outgoing)).elim s (fun o => if roleOf o s == .active then setRole o .standby s else s)) s

/-- LOOM_BANK_OVER for every bank that is left above its limit once the re-balancing of the pass is done (R161). -/
def bankOverPass (s : State) : State :=
  let after := movesDone s
  (List.range 12).foldl (fun s b =>
    if within (bankSum b [] after) (fld 15 0 (nth s.loom.bankLimit b)) then s else reportL 0x060 b s) s

/-! ### Chain entries (R174 to R180) -/

/-- Chain entry j. -/
def chainE (j : Nat) (s : State) : ChainEntry := nth s.loom.chain j
/-- Chain entry j changed by f. -/
def modChain (j : Nat) (f : ChainEntry → ChainEntry) (s : State) : State :=
  modLoom (fun l => { l with chain := upd l.chain j f }) s

/-- The local skein, the partner device and the partner's skein of an entry (R186). -/
def ChainEntry.skein (e : ChainEntry) : Nat := fld 5 0 e.cfg
/-- PDEV. -/
def ChainEntry.pdev (e : ChainEntry) : Nat := fld 9 8 e.cfg
/-- PSKEIN. -/
def ChainEntry.pskein (e : ChainEntry) : Nat := fld 21 16 e.cfg
/-- SECONDARY. -/
def ChainEntry.secondary (e : ChainEntry) : Bool := bit 24 e.cfg

/-- What the partner's heartbeat shows of the pair of entry e (R174). -/
def partnerView (e : ChainEntry) (s : State) : Option ChainView :=
  ((nth s.host.chain.views e.pdev).entries).find? (fun v =>
    v.skein == e.pskein && v.pdev == s.deviceId && v.pskein == e.skein)

/-- A skein fit for a chain entry: HS mode, OWNER 0, no bridge leg (R174). -/
def chainFit (d : SkeinDef) : Bool := d.mode == 1 && d.owner == 0 && !d.leg && d.defined

/-- The partner's entry matches: the other role, both skeins fit for a chain entry, and equal STATIC, PRE, STEPS and PHASE
(R174). -/
def partnerMatches (e : ChainEntry) (s : State) : Bool :=
  match partnerView e s with
  | none => false
  | some v =>
    let d := defL e.skein s
    let w : SkeinDef := { period := v.period }
    v.state != 0 && v.secondary != e.secondary && chainFit d && v.unfit == 0 &&
      w.static == d.static && w.pre == d.pre && w.steps == d.steps && v.phase == d.phase

/-- The secondary's cells stand by while the entry is ARMED (R174). -/
def standDown (k : Nat) (s : State) : State :=
  let s := modSkL k (fun x => { x with hand := none, joining := [] }) s
  activeChanged k ((cellsIn k .active s).foldl (fun s n => setRole n .standby s) s)

/-- Cells join the skein until A are placed, taken from the spare order (R177). -/
def standUp (k : Nat) (s : State) : State :=
  ((spareOrder k s).take ((defL k s).target - (placed k s).length)).foldl (fun s n => join k n s) s

/-- The P-die is told that skein k has an entry in the primary role, or has none any more (R178). The mark goes down as a
configuration word, as every decision of the L-die does (R19, log entry 72). -/
def markPrimary (k : Nat) (s : State) : State :=
  pushCfg' (.primary k ((chainOf k s).any (fun j => !bit 24 (nth s.loom.chain j).cfg))) s

/-- The entry becomes ARMED (R174, R175). -/
def arm (j : Nat) (s : State) : State :=
  let e := chainE j s
  let s := modChain j (fun x => { x with state := 2, mismatch := false, count := none, giveNow := false, giving := 0, swapping := 0, hotPasses := 0 }) s
  let s := if e.secondary then standDown e.skein s else s
  loadStatus e.skein 7 s

/-- TAKEOVER of entry j: the secondary's cells join with the mirrored DUTY; the primary keeps driving (R175,
R177). -/
def takeover (j : Nat) (s : State) : State :=
  let e := chainE j s
  let s := modChain j (fun x => { x with state := 3, count := none, giving := 0, swapping := 0 }) s
  if e.secondary then
    let s := standUp e.skein s
    let s := modSkL e.skein (fun x => { x with send := true }) s
    let s := bump (ctr 0x03 (0x100 + 4 * j)) s
    reportL 0x065 j (loadStatus e.skein 5 s)
  else s

/-- A device has been declared lost: every ARMED entry with it goes to TAKEN_OVER (R175), and the count of a
give-back starts again (R179). -/
def takeoverAll (dev : Nat) (s : State) : State :=
  (List.range 16).foldl (fun s j =>
    let e := chainE j s
    if e.pdev != dev then s
    else if e.state == 2 then takeover j s
    else if e.state == 3 then modChain j (fun x => { x with count := none, giving := 0 }) s
    else s) s

/-- A give-back of entry j completes on this device: the secondary's cells leave, and the entry is ARMED again (R165,
R179). -/
def giveBackDone (j : Nat) (s : State) : State :=
  let e := chainE j s
  let s := modChain j (fun x => { x with state := 2, count := none, giveNow := false, giving := 0, swapping := 0 }) s
  let s := if e.secondary then standDown e.skein s else s
  bump (ctr 0x03 (0x101 + 4 * j)) (loadStatus e.skein 7 (loadStatus e.skein 6 s))

/-- A role swap of entry j completes: the roles are exchanged (R180). -/
def swapDone (j : Nat) (s : State) : State :=
  let e := chainE j s
  let s := if e.secondary then s else standDown e.skein s
  let s := modChain j (fun x => { x with cfg := setFld 24 24 (b2n (!e.secondary)) x.cfg, swapping := 0 }) s
  let s := markPrimary e.skein s
  bump (ctr 0x03 (0x101 + 4 * j)) (loadStatus e.skein 9 s)

/-- At a pass, the primary's LOOM_PWR_EST is above 90 % of its limit and the secondary's below 70 % of the secondary's, which its
heartbeat carries with the state of its entry (R180; DEDUCED, log entry 73). -/
def swapWorth (e : ChainEntry) (v : ChainView) (s : State) : Bool :=
  decide (s.loom.pwrLimit.toNat * 9 < s.loom.pwrEst * 10) &&
    decide ((nth s.host.chain.views e.pdev).power * 10 < v.limit * 7)

/-- One pass over chain entry j (R175, R179, R180). At the first boundary of a give-back the primary's active set is made to
drive; at the second the secondary's cells leave, and both entries are ARMED. -/
def passChain (j : Nat) (s : State) : State :=
  let e := chainE j s
  let v := partnerView e s
  let heard := (nth s.host.chain.views e.pdev).present
  match e.state with
  | 1 =>
    if e.secondary && (nth s.host.chain.views e.pdev).recovery then takeover j s
    else if (v.map (fun x => x.state == 3)).getD false && partnerMatches e s then
      modChain j (fun x => { x with state := 3, count := none }) s
    else if heard && partnerMatches e s then arm j s
    else modChain j (fun x => { x with mismatch := v.isSome && !partnerMatches e s }) s
  | 2 =>
    if !heard then modChain j (fun x => { x with hotPasses := 0 }) s
    else if !partnerMatches e s then
      loadStatus e.skein 7 (modChain j (fun x => { x with state := 1, mismatch := v.isSome, swapping := 0, hotPasses := 0 }) s)
    else match e.swapping with
      | 1 => swapDone j s
      | 2 => modChain j (fun x => { x with swapping := 1 }) (if e.secondary then standUp e.skein s else s)
      | 3 => if (v.map (fun x => x.swap)).getD 0 == 2 then modChain j (fun x => { x with swapping := 1 }) s else s
      | _ =>
        if !bit 16 e.give then s
        else if e.secondary then
          if (v.map (fun x => x.swap)).getD 0 == 1 && !groupOff 0x0D s then
            modChain j (fun x => { x with swapping := 2, lastSwap := some (mgmtNow s) }) s else s
        else
          modChain j (fun x => { x with hotPasses := if v.any (fun v => swapWorth e v s) then x.hotPasses + 1 else 0 }) s
  | 3 =>
    if e.secondary then
      if e.giving == 2 then modChain j (fun x => { x with giving := 1 }) s
      else if e.giving == 1 then giveBackDone j s
      else if heard then modChain j (fun x => { x with count := some ((x.count.map (fun c => c + 1)).getD 0) }) s
      else modChain j (fun x => { x with count := none }) s
    else if !heard then s
    else if e.giving == 1 || v.any (fun x => x.state == 2) then giveBackDone j s
    else if v.any (fun x => x.due == 1) then
      standUp e.skein (modSkL e.skein (fun x => { x with send := true }) (modChain j (fun x => { x with giving := 1 }) s))
    else s
  | _ => s

/-- An entry deleted (R175). -/
def deleteChain (j : Nat) (s : State) : State :=
  let old := chainE j s
  let s := if old.state == 2 then loadStatus old.skein 7 s else s
  markPrimary old.skein (modChain j (fun _ => {}) s)

/-- The words of an entry stored: it starts PENDING (R175). A payload that repeats the entry's fields changes
nothing, and GIVE_NOW is kept on an entry in TAKEN_OVER (R184). -/
def storeChain (j : Nat) (w g : Word) (s : State) : State :=
  let old := chainE j s
  let c := w &&& 0x013F033F
  let g := g &&& 0x0001FFFF
  if old.state == 3 then modChain j (fun x => { x with giveNow := x.giveNow || bit 26 w, fresh := none }) s
  else if old.state != 0 && old.cfg == c && old.give == g then modChain j (fun x => { x with fresh := none }) s
  else
    let s := modChain j (fun _ => { cfg := c, give := g, state := 1 }) s
    let s := if old.state == 2 then loadStatus old.skein 7 s else s
    let s := markPrimary (chainE j s).skein s
    if old.state != 0 && old.skein != (chainE j s).skein then markPrimary old.skein s else s

/-- A payload that a TAKEN_OVER entry cannot take: DELETE, or other fields (R175, R184). -/
def takenOverBars (e : ChainEntry) (w g : Word) : Bool :=
  e.state == 3 && (bit 25 w || e.cfg != (w &&& 0x013F033F) || e.give != (g &&& 0x0001FFFF))

/-- An entry written by LOOM_CHAIN_CFG is taken at the pass, and the command completes; one that has gone to TAKEN_OVER since
the command was accepted stays as it is, and the command fails with BUSY (R175, R184; DEDUCED, log entry 74). -/
def takeChain (j : Nat) (s : State) : State :=
  match (chainE j s).fresh with
  | none => completeAll (.pass 1 j) .done (fun _ => []) s
  | some (w, g) =>
    if takenOverBars (chainE j s) w g then
      completeAll (.pass 1 j) .busy (fun _ => []) (modChain j (fun x => { x with fresh := none }) s)
    else completeAll (.pass 1 j) .done (fun _ => []) (if bit 25 w then deleteChain j s else storeChain j w g s)

end Sys2Proof.Machine
end

