-- ==== Sys2Proof/Machine/Cells.lean ====
section
/-! DEFINITION. The load-control commands of chapter 4: LOAD_SET, LOAD_GET, SKEIN_DEFINE and BRIDGE_SET (R143 to
R147), the disable states of group 0x02 (R148), the CELL block (R149), and the events of a skein's interlock and of
a bridge's brake phase (R133, R136). -/

namespace Sys2Proof.Machine

/-! ### Registers of a skein (R149) -/

/-- SKEIN_CTLk. -/
def ctlWord (p : SetPoint) : Word := pack [(21, b2n p.decay), (18, p.bstate), (17, b2n p.hiz), (0, p.duty)]

/-- SKEIN_CFGk with CROSS, which is 1 while a chain entry of the skein is ARMED (R174). -/
def cfgWord (k : Nat) (s : State) : Word :=
  let armed := (chainOf k s).any (fun j => (chainE j s).state == 2)
  setFld 7 7 (b2n armed) (defL k s).cfg

/-- SKEIN_STATk. DISABLED of a pair stands on both legs (R148). BACTUAL, which the table gives for a bridge leader, shows the
leader's state on the follower too (DESIGN CHOICE, log entry 68). -/
def skeinStat (k : Nat) (s : State) : Word :=
  let l := leaderL k s
  let b := if pairedL k s then bactual (nth s.loom.skeinView l) else 0
  pack [(28, (cellsIn k .active s).length), (24, (cellsIn k .standby s).length), (16, b),
    (4, b2n (inInrush k s.now s || inInrush l s.now s)), (2, b2n (skL l s).disabled),
    (1, b2n ((defL k s).defined && !offL k s)), (0, b2n (defL k s).defined)]

/-- Word 3 of LOAD_GET: the skein's committed current, high side in [15:0], low side in [31:16] (R145). A bridge
pair is counted once, on its leader; what a follower's word shows is not stated, and the model shows 0 (DESIGN CHOICE, log
entry 68). -/
def committedWord (k : Nat) (s : State) : Word :=
  let c := committedPkg k (skL k s).sp (defL k s).inom s
  pack [(16, c.2), (0, c.1)]

/-- A pair of sums as BANK_LOADb and PKG_LOAD show them. -/
def loadWord (p : Nat × Nat) : Word := pack [(16, p.2), (0, p.1)]

/-- CELL_CFGn: skein, slew, mode and role (R149). -/
def cellCfg (n : Nat) (s : State) : Word :=
  let k := skeinOfCell n s
  let role := match roleOf n s with | .none => 0 | .active => 1 | .standby => 2 | .outOfService => 3
  pack [(16, k.getD 0xFF), (8, (viewOf n s).slew), (4, (k.map (fun k => (defL k s).mode)).getD 0), (2, role)]

/-- The whole ms of ONTIME of cell n. -/
def onTimeMs (n : Nat) (s : State) : Nat := (viewOf n s).onTicks / 200000 % 2 ^ 64

/-! ### Commanding a set-point -/

/-- A set-point commanded for skein k: SKEIN_CTL takes it, it goes into the next free down frame, and a disable
state ends (R17, R148). -/
def commandSp (k : Nat) (p : SetPoint) (s : State) : State :=
  modSkL k (fun x => { x with sp := p, send := true, kept := false, disabled := false, disablePending := false }) s

/-- Skein k is the secondary side of an ARMED entry: this device does not drive it (R176). -/
def passes (k : Nat) (s : State) : Option Nat :=
  (chainOf k s).filter (fun j => (chainE j s).state == 2 && (chainE j s).secondary)

/-- The Ply link toward device d is up. -/
def plyToward (d : Nat) (s : State) : Bool :=
  (nth s.host.ply (if s.deviceId < d then 1 else 0)).state == .up

/-- A MIRROR packet put in the queue of the Ply port (R176). -/
def pushMirror (m : MirrorMsg) (s : State) : State := modLoom (fun l => { l with mirrors := l.mirrors ++ [m] }) s

/-- The DUTY of skein k with its effect time, for its partner in an ARMED or TAKEN_OVER entry (R176). -/
def mirrorDuty (k : Nat) (s : State) : State :=
  match chainOf k s with
  | none => s
  | some j =>
    let e := chainE j s
    if e.state < 2 then s
    else pushMirror { dev := e.pdev, skein := e.pskein, value := (skL k s).sp.duty, effect := (skL k s).effect } s

/-- A command applied with the Ply link to the partner down: the DUTY is kept with the tick of acceptance as its effect time,
and goes to the cells where this device drives the load (R176). -/
def keepDuty (k : Nat) (p : SetPoint) (s : State) : State :=
  let drives := (passes k s).isNone
  modSkL k (fun x => { x with sp := p, effect := s.now, kept := true, send := x.send || drives, disabled := false
                              disablePending := false }) s

/-- The Ply link from an ARMED or TAKEN_OVER entry of skein k to its partner is down (R176). -/
def apart (k : Nat) (s : State) : Bool :=
  (chainOf k s).any (fun j => 2 ≤ (chainE j s).state && !plyToward (chainE j s).pdev s)

/-- The checks of a set-point p for skein k that follow its operand checks: cells in service (R143), budgets
(R140), and the link (R240). -/
def setPointCheck (k : Nat) (p : SetPoint) (s : State) : Option (Status × List Word) :=
  let d := defL k s
  let leg := pairedL k s
  let old := currentOf leg d (skL k s).sp d.inom
  let new := currentOf leg d p d.inom
  let rises := old.1 < new.1 || old.2 < new.2
  let short := fun j => inService j s < (defL j s).target || inService j s = 0
  if rises && (short k || (leg && short d.partner)) then some (.faultActive, [])
  else match budgetCheck k p s with
    | some w => some (.budgetExceeded, [w])
    | none => none

/-- A BUDGET_EXCEEDED answer counted for each of some skeins (R150). -/
def countRefused (ks : List Nat) (s : State) : State := ks.foldl (fun s k => bump (ctr 0x04 (0x201 + 4 * k)) s) s

/-- The answer of a checked set-point command, with the counter of BUDGET_EXCEEDED answers (R150). -/
def refuse (k : Nat) (st : Status) (p : List Word) (s : State) : State × Ans :=
  (if st == .budgetExceeded then countRefused [k] s else s, .fail st p)

/-! ### LOAD_SET (R143) -/

/-- A DUTY is valid for a definition (R126, R127). -/
def dutyOk (d : SkeinDef) (duty : Nat) : Bool := if d.static then duty ≤ 1 else duty ≤ d.steps

/-- LOAD_SET of skein k with a payload word (R143, R144). -/
def loadSet (k : Nat) (w : Word) (s : State) : State × Ans :=
  let d := defL k s
  let p : SetPoint := { (skL k s).sp with duty := fld 16 0 w, hiz := bit 17 w }
  if !d.defined || d.leg || !dutyOk d p.duty then (s, .fail .badObject [])
  else if d.owner == 1 || d.owner == 2 then (s, .fail .busy [])
  else match passes k s with
    | some j =>
      let e := chainE j s
      if plyToward e.pdev s then
        (pushMirror { dev := e.pdev, skein := e.pskein, kind := .command, value := w.toNat } s,
          .wait (.mirror k) false [w])
      else match setPointCheck k p s with
        | some (st, ws) => refuse k st ws s
        | none => (keepDuty k p s, .done [])
    | none => match setPointCheck k p s with
      | some (st, ws) => refuse k st ws s
      | none =>
        if !linkLive s then (s, .fail .faultActive [])
        else if apart k s then (keepDuty k p s, .done [])
        else (commandSp k p s, .wait (.inForce k) false [])

/-- LOAD_SET as the interpreter knows it. -/
def infoLoadSet : OpInfo :=
  { op := 0x0200, len := lenIs 1, snap := true, obj := fun r _ => loadOk r
    run := fun e s => loadSet (skeinOf e.req) (arg e.req 0) s }

/-- LOAD_SET (R143). -/
def execLoadSet (r : Req) (s : State) : Host.Outcome State Fault Refusal := .next (command infoLoadSet r s)

/-! ### LOAD_GET (R145) -/

/-- The four words of LOAD_GET. -/
def loadGet (k : Nat) (s : State) : List Word :=
  [ctlWord (skL k s).sp, skeinStat k s, committedWord k s, word (skeinCur k s)]

/-- LOAD_GET as the interpreter knows it. -/
def infoLoadGet : OpInfo :=
  { op := 0x0201, len := lenIs 0, obj := fun r _ => loadOk r
    run := fun e s =>
      if (defL (skeinOf e.req) s).defined then (s, .done (loadGet (skeinOf e.req) s))
      else (s, .fail .badObject []) }

/-- LOAD_GET (R145). -/
def execLoadGet (r : Req) (s : State) : Host.Outcome State Fault Refusal := .next (command infoLoadGet r s)

/-! ### SKEIN_DEFINE (R146) -/

/-- Two banks that a skein may span: the same one, or a pair of R60. -/
def banksAdjacent (a b : Nat) : Bool := a == b || (a + 1 == b && a != 5)

/-- The definition of five payload words, reserved bits and CROSS dropped (R8, R149). -/
def defOf (r : Req) : SkeinDef :=
  { cfg := arg r 0 &&& 0x003FFF7F, limit := arg r 1, period := arg r 2 &&& 0x83FFFFFF
    timing := arg r 3 &&& 0x71FF03FF, aux := arg r 4 &&& 0xFFBFFFFF }

/-- Check 2: FIRST, COUNT, NSPARE and the banks (R119, R121), no cell in another skein. -/
def cellsValid (k : Nat) (d : SkeinDef) (s : State) : Bool :=
  let free := (List.range 48).all (fun j =>
    j == k || (d.cells.all (fun n => !(defL j s).cells.contains n &&
      !(((skL j s).define.map (fun x => x.defn.cells)).getD []).contains n)))
  1 ≤ d.count && d.count ≤ 12 && d.first + d.count ≤ 96 && d.nspare < d.count &&
    banksAdjacent (bankOf d.first) (bankOf (d.first + d.count - 1)) && free

/-- Check 3: MODE, OWNER and DISABLE (R146). -/
def modeValid (d : SkeinDef) : Bool :=
  d.mode != 0 && (d.owner != 3 || (d.mode == 3 && d.paired)) && d.disable ≤ 2

/-- Check 4: period, PHASE, DEADTIME and INRUSH_T (R126, R146). -/
def timingValid (d : SkeinDef) : Bool :=
  (d.static || (256 ≤ d.steps && 8000 ≤ d.pre * d.steps && d.phase < d.steps)) &&
    (d.mode == 2 || (40 ≤ d.deadtime && d.deadtime ≤ 1000)) && 1 ≤ d.inrushT && d.inrushT ≤ 500

/-- Check 5: the declared currents (R146). -/
def currentValid (d : SkeinDef) : Bool :=
  d.inom ≤ 300 * d.target && d.inom ≤ d.ipeak && d.ipeak ≤ 1500 * d.target

/-- Skein k is off for SKEIN_DEFINE: as commanded, a pair in COAST, and every slot bound to it IDLE (R124, R256). -/
def offForDefine (k : Nat) (s : State) : Bool :=
  !(defL k s).defined || (offL k s && (slotsL k s).all (fun a => (actL a s).phase == 0) &&
    (!pairedL k s || bactual (nth s.loom.skeinView (leaderL k s)) == 0))

/-- SKEIN_DEFINE of skein k: the checks in order, then the definition waits for the next pass; the deletion of a skein that is
not defined only waits for it (R146). -/
def skeinDefine (k : Nat) (d : SkeinDef) (s : State) : State × Ans :=
  let live := linkLive s
  if !offForDefine k s then (s, .fail .busy [])
  else if d.count = 0 then
    if live && !(defL k s).defined then (s, .wait (.pass 0 k) true [])
    else if live then (modSkL k (fun x => { x with define := some { defn := {} } }) s, .wait (.pass 0 k) true [])
    else (s, .fail .faultActive [])
  else if !cellsValid k d s || !modeValid d || !timingValid d then (s, .fail .badObject [])
  else if !currentValid d then (countRefused [k] s, .fail .budgetExceeded [])
  else if !live then (s, .fail .faultActive [])
  else (modSkL k (fun x => { x with define := some { defn := d } }) s, .wait (.pass 0 k) true [])

/-- SKEIN_DEFINE as the interpreter knows it. -/
def infoSkeinDefine : OpInfo :=
  { op := 0x0202, len := lenIs 5, obj := fun r _ => loadOk r
    run := fun e s => skeinDefine (skeinOf e.req) (defOf e.req) s }

/-- SKEIN_DEFINE (R146). -/
def execSkeinDefine (r : Req) (s : State) : Host.Outcome State Fault Refusal := .next (command infoSkeinDefine r s)

/-! ### BRIDGE_SET (R147) -/

/-- BRIDGE_SET of the pair led by skein k (R147). -/
def bridgeSet (k : Nat) (w0 w1 : Word) (s : State) : State × Ans :=
  let d := defL k s
  let p : SetPoint := { duty := fld 16 0 w1, hiz := (skL k s).sp.hiz, bstate := fld 2 0 w0, decay := bit 8 w0 }
  if !pairedL k s || leaderL k s != k || 4 < p.bstate || !dutyOk d p.duty then (s, .fail .badObject [])
  else match setPointCheck k p s with
    | some (st, ws) => refuse k st ws s
    | none => if linkLive s then (commandSp k p s, .wait (.inForce k) false []) else (s, .fail .faultActive [])

/-- BRIDGE_SET as the interpreter knows it. -/
def infoBridgeSet : OpInfo :=
  { op := 0x0203, len := lenIs 2, snap := true, obj := fun r _ => loadOk r
    run := fun e s => bridgeSet (skeinOf e.req) (arg e.req 0) (arg e.req 1) s }

/-- BRIDGE_SET (R147). -/
def execBridgeSet (r : Req) (s : State) : Host.Outcome State Fault Refusal := .next (command infoBridgeSet r s)

/-! ### Disabling group 0x02 (R148) -/

/-- The stored fail-safe state of skein k as the L-die applies it for DISABLE 2: HOLD keeps the state, FLASH is
left to the P-die, the others go down as a set-point (R148, R248). -/
def disableFs (k : Nat) (s : State) : State :=
  let (valid, mode, val) := nth s.weft.fsView k
  let mode := if valid then mode else 0
  if mode = 4 then s
  else
    let (p, fl) := fsSetPoint (defL k s) mode val
    if fl.isSome then
      let item : CfgOut := { id := s.weft.nextId, item := .applyFs k }
      let s := modWeft (fun w => { w with cfg := w.cfg ++ [item], nextId := w.nextId + 1 }) s
      modSkL k (fun x => { x with sp := p }) s
    else modSkL k (fun x => { x with sp := p, send := true }) s

/-- The skeins that follow group 0x02: host-owned skeins, and the leaders of bridge pairs, whose SKEIN_CFG.DISABLE governs the
pair: R134 does not list DISABLE among the fields taken from the leader (DESIGN CHOICE, log entry 68; R148). -/
def followsLoads (k : Nat) (s : State) : Bool :=
  let d := defL k s
  d.defined && ((d.owner == 0 && !d.leg) || (pairedL k s && leaderL k s == k))

/-- The disable state of skein k made its commanded one (R148). -/
def disableState (k : Nat) (s : State) : State :=
  let d := defL k s
  match d.disable with
  | 0 => modSkL k (fun x => { x with sp := { x.sp with duty := 0, bstate := 0, hiz := d.mode == 3 || x.sp.hiz }, send := true }) s
  | 2 => disableFs k s
  | _ => s

/-- Skein k goes to its disable state over a LIVE link (R148). -/
def disableSkein (k : Nat) (s : State) : State :=
  modSkL k (fun x => { x with disabled := true, disablePending := false }) (disableState k s)

/-- Skein k goes to its disable state in the next free down frame, and DISABLED is set as it goes (R148). -/
def disableLater (k : Nat) (s : State) : State :=
  let s := disableState k s
  modSkL k (fun x => { x with disablePending := true, send := x.send || !flashGoes k s }) s

/-- Group 0x02 is disabled: at once over a LIVE link, else at the next ADOPT_DONE (R148). -/
def disableLoads (s : State) : State :=
  (List.range 48).foldl (fun s k =>
    if !followsLoads k s then s
    else if linkLive s then disableSkein k s
    else modSkL k (fun x => { x with disablePending := true }) s) s

/-- At ADOPT_DONE, the disable states that a silent link held back, where the group is still disabled (R148, R301). -/
def disableAdopted (s : State) : State :=
  (List.range 48).foldl (fun s k =>
    let light := (defL k s).owner == 1
    if (skL k s).disablePending && groupOff (if light then 0x04 else 0x02) s && (light || followsLoads k s) then
      disableLater k s
    else modSkL k (fun x => { x with disablePending := false }) s) s

/-! ### The CELL block (R149) -/

/-- Register off of cell n, by its offset in the cell's 0x40 bytes. -/
def readCellReg (n off : Nat) (s : State) : Option Word :=
  match off with
  | 0x00 => some (cellCfg n s)
  | 0x04 => some (pack [(1, b2n (viewOf n s).lsOn), (0, b2n (viewOf n s).hsOn)])
  | 0x08 => some (word (onTimeMs n s))
  | 0x0C => some (word (onTimeMs n s / 2 ^ 32))
  | 0x10 => some (word (viewOf n s).edges)
  | _ => none

/-- Register off of skein k, by its offset in the skein's 0x20 bytes. -/
def readSkeinReg (k off : Nat) (s : State) : Option Word :=
  match off with
  | 0x00 => some (cfgWord k s)
  | 0x04 => some (defL k s).limit
  | 0x08 => some (defL k s).period
  | 0x0C => some (defL k s).timing
  | 0x10 => some (defL k s).aux
  | 0x14 => some (ctlWord (skL k s).sp)
  | 0x18 => some (skeinStat k s)
  | 0x1C => some (word (skeinCur k s))
  | _ => none

/-- The CELL block at an offset (R149); none where no register stands. -/
def readCell (off : Nat) (s : State) : Option Word :=
  if off < 0x1800 then readCellReg (off / 0x40) (off % 0x40) s
  else if 0x2000 ≤ off ∧ off < 0x2600 then readSkeinReg ((off - 0x2000) / 0x20) (off % 0x20) s
  else if 0x3000 ≤ off ∧ off < 0x30C0 then
    match off % 0x10 with
    | 0 => some (nth s.loom.bankLimit ((off - 0x3000) / 0x10))
    | 4 => some (loadWord (bankSum ((off - 0x3000) / 0x10) [] s))
    | _ => none
  else if off = 0x3100 then some s.loom.pkgLimit
  else if off = 0x3104 then some (loadWord (pkgSum [] s))
  else none

/-- A P-die word sent as a CONFIG item: the write completes with its echo, or fails where the link is not LIVE
(R103, R240). -/
def writeP (i : CfgItem) (s : State) : State × Ans :=
  if linkLive s then
    let (id, s) := pushCfg i s
    (s, .wait (.echo id) false [])
  else (s, .fail .faultActive [])

/-- SKEIN_CTLk written: a LOAD_SET for a host-owned skein, else ignored (R144). -/
def writeSkeinCtl (k : Nat) (v : Word) (s : State) : State × Ans :=
  if (defL k s).defined && (defL k s).owner == 0 && !(defL k s).leg then
    if groupOff 0x02 s then (s, .fail .abortedDisabled []) else loadSet k v s
  else (s, .done [])

/-- A write to the CELL block (R149). -/
def writeCell (off : Nat) (v : Word) (s : State) : State × Ans :=
  if off < 0x1800 ∧ off % 0x40 = 0 then writeP (.slew (off / 0x40) (fld 10 8 v)) s
  else if 0x2000 ≤ off ∧ off < 0x2600 ∧ off % 0x20 = 0x14 then writeSkeinCtl ((off - 0x2000) / 0x20) v s
  else if 0x3000 ≤ off ∧ off < 0x30C0 ∧ off % 0x10 = 0 then
    let b := (off - 0x3000) / 0x10
    let f := writeFields [rwIn 31 16 0 9000, rwIn 15 0 0 2000]
    (modLoom (fun l => { l with bankLimit := upd l.bankLimit b (fun w => f w v) }) s, .done [])
  else if off = 0x3100 then
    (modLoom (fun l => { l with pkgLimit := writeFields [rwIn 15 0 0 15000] l.pkgLimit v }) s, .done [])
  else (s, .done [])

/-- The counters of the CELL block that live in the cells: ONTIME and EDGES (R150). -/
def counterCell (i : Nat) (s : State) : Nat :=
  if i < 0x180 then
    match i % 4 with
    | 0 => onTimeMs (i / 4) s % 2 ^ 32
    | 1 => onTimeMs (i / 4) s / 2 ^ 32
    | 2 => (viewOf (i / 4) s).edges
    | _ => 0
  else s.counters.get (ctr 0x04 i)

/-! ### Events of the interlock and of the brake phase -/

/-- GATE_OFF_REPORTED: the gate sense reports the switches of skein k that went off last as off, every one of them, and the
dead time starts; a stuck gate is one no longer (R133, R222). -/
def execGateOffReported (t k : Nat) (s : State) : Host.Outcome State Fault Refusal :=
  let s := accrue k (toP t s)
  let dead := deadOf k s
  let s := (defP k s).cells.foldl (fun s n => modCell n (fun c => { c with gateStuck := false }) s) s
  let s := modSkP k (fun x =>
    let x := { x with stuckSide := .off }
    if x.drive == .off && x.lastOn != .off && x.clearAt.isNone then { x with clearAt := some (s.pNow + dead) } else x) s
  .next (settleBridge (leaderP k s) (driveGates k s))

/-- DEADTIME_END: skein k's dead time ends and the incoming switches turn on; in a pair the move goes on (R133, R136). -/
def execDeadtimeEnd (k : Nat) (s : State) : Host.Outcome State Fault Refusal :=
  let s := match (skP k s).change with
    | some (_, some e) => toP e s
    | _ => s
  let s := accrueBoth k s
  .next (settleBridge (leaderP k s) (driveBoth k s))

/-- BRAKE_PHASE_END: the brake phase of the pair led by skein k ends, and the pair moves to its new direction
(R136). -/
def execBrakePhaseEnd (k : Nat) (s : State) : Host.Outcome State Fault Refusal :=
  .next (match (skP k s).brakeEnd with
    | none => s
    | some e =>
      let s := accrueBoth k (toP e s)
      settleBridge k (startBridge k (modSkP k (fun x => { x with brakeEnd := none }) s)))

end Sys2Proof.Machine
end

