-- ==== Sys2Proof/Machine/LoomCmds.lean ====
section
/-! DEFINITION. The opcodes of group 0x0D (R181 to R185), the LOOM block (R186), the MIRROR packets of a cross-device
skein (R176), and Loom's events of the fast plane (R155, R158). -/

namespace Sys2Proof.Machine

/-! ### Opcodes -/

/-- LOOM_PLACEMENT_GET as the interpreter knows it. -/
def infoLoomPlacementGet : OpInfo :=
  { op := 0x0D00, len := lenIs 0, obj := fun r _ => loadOk r
    run := fun e s =>
      let k := skeinOf e.req
      if (defL k s).defined then (s, .done [mapWord k s, statWord k s, word (skL k s).lastChange])
      else (s, .fail .badObject []) }

/-- LOOM_PLACEMENT_GET (R181). -/
def execLoomPlacementGet (r : Req) (s : State) : Host.Outcome State Fault Refusal :=
  .next (command infoLoomPlacementGet r s)

/-- LOOM_ROTATE_CFG of skein k (R182). -/
def rotateCfg (k : Nat) (w : Word) (s : State) : State × Ans :=
  let ri := fld 13 0 w
  if !(defL k s).defined || (1 ≤ ri && ri ≤ 19) || 12000 < ri then (s, .fail .badObject [])
  else (modSkL k (fun x => { x with loomCfg := w &&& 0x00033FFF }) s, .done [])

/-- LOOM_ROTATE_CFG as the interpreter knows it. -/
def infoLoomRotateCfg : OpInfo :=
  { op := 0x0D01, len := lenIs 1, obj := fun r _ => loadOk r
    run := fun e s => rotateCfg (skeinOf e.req) (arg e.req 0) s }

/-- LOOM_ROTATE_CFG (R182). -/
def execLoomRotateCfg (r : Req) (s : State) : Host.Outcome State Fault Refusal :=
  .next (command infoLoomRotateCfg r s)

/-- LOOM_PIN of skein k (R183). -/
def loomPin (k : Nat) (w : Word) (s : State) : State × Ans :=
  let d := defL k s
  let pins := fld 11 0 w
  let outs := fld 27 16 w
  let pinned := bitList 12 pins
  if !d.defined || 2 ^ d.count ≤ pins || 2 ^ d.count ≤ outs || pins &&& outs != 0 ||
      d.target < pinned.length || d.count - popCount 12 outs < d.target then (s, .fail .badObject [])
  else if pinned.any (fun i => roleOf (d.first + i) s == .outOfService && causePending (viewOf (d.first + i) s)) then
    (s, .fail .faultActive [])
  else (modSkL k (fun x => { x with pin := w &&& 0x0FFF0FFF, pinFresh := true }) s, .done [])

/-- LOOM_PIN as the interpreter knows it. -/
def infoLoomPin : OpInfo :=
  { op := 0x0D02, len := lenIs 1, obj := fun r _ => loadOk r
    run := fun e s => loomPin (skeinOf e.req) (arg e.req 0) s }

/-- LOOM_PIN (R183). -/
def execLoomPin (r : Req) (s : State) : Host.Outcome State Fault Refusal := .next (command infoLoomPin r s)

/-- The skein of another entry, in use or being written. -/
def otherEntry (j k : Nat) (s : State) : Bool :=
  (List.range 16).any (fun i =>
    i != j && (((chainE i s).state != 0 && (chainE i s).skein == k) ||
      ((chainE i s).fresh.map (fun p => !bit 25 p.1 && fld 5 0 p.1 == k)).getD false))

/-- LOOM_CHAIN_CFG of entry j (R184). A DELETE names the entry alone. -/
def chainCfg (j : Nat) (w g : Word) (s : State) : State × Ans :=
  let e := chainE j s
  let c := w &&& 0x013F033F
  let k := fld 5 0 w
  let d := defL k s
  let pdev := fld 9 8 w
  let accept := (modChain j (fun x => { x with fresh := some (w, g) }) s, Ans.wait (.pass 1 j) true [])
  let changed := e.cfg != c || e.give != (g &&& 0x0001FFFF)
  if bit 25 w then
    if e.state == 0 then (s, .wait (.pass 1 j) true [])
    else if e.state == 3 then (s, .fail .busy []) else accept
  else if pdev == s.deviceId || !(nth s.host.chain.views pdev).present || 48 ≤ k || !d.defined || d.mode != 1 ||
      d.owner != 0 || d.leg || otherEntry j k s then (s, .fail .badObject [])
  else if (e.state == 3 && changed) || (e.state != 3 && (e.state == 0 || changed) && !offL k s) ||
      (bit 26 w && e.state != 3) then (s, .fail .busy [])
  else accept

/-- LOOM_CHAIN_CFG as the interpreter knows it. -/
def infoLoomChainCfg : OpInfo :=
  { op := 0x0D03, len := lenIs 2, obj := fun r _ => obj r ≤ 15
    run := fun e s => chainCfg (obj e.req) (arg e.req 0) (arg e.req 1) s }

/-- LOOM_CHAIN_CFG (R184). -/
def execLoomChainCfg (r : Req) (s : State) : Host.Outcome State Fault Refusal :=
  .next (command infoLoomChainCfg r s)

/-- The 14 words of LOOM_BUDGET_GET (R185). -/
def budgetWords (s : State) : List Word :=
  (List.range 12).map (fun b => loadWord (bankSum b [] s)) ++ [loadWord (pkgSum [] s), word s.loom.pwrEst]

/-- LOOM_BUDGET_GET as the interpreter knows it. -/
def infoLoomBudgetGet : OpInfo :=
  { op := 0x0D04, len := lenIs 0, obj := objZero, run := fun _ s => (s, .done (budgetWords s)) }

/-- LOOM_BUDGET_GET (R185). -/
def execLoomBudgetGet (r : Req) (s : State) : Host.Outcome State Fault Refusal :=
  .next (command infoLoomBudgetGet r s)

/-! ### Registers (R186) -/

/-- LOOM_STAT. -/
def loomStat (s : State) : Word :=
  let defined := (List.range 48).filter (fun k => (defL k s).defined)
  let cross := (List.range 16).any (fun j => (chainE j s).state == 3 && (chainE j s).secondary)
  pack [(17, b2n cross), (16, b2n (defined.any (fun k => (skL k s).shed))),
    (8, (defined.filter (fun k => decide (capOf k s < 1000))).length),
    (0, (defined.filter (fun k => 2 ≤ (skL k s).level)).length)]

/-- The LOOM block at an offset. -/
def readLoom (off : Nat) (s : State) : Option Word :=
  if off = 0x00 then some s.loom.ctl
  else if off = 0x04 then some (loomStat s)
  else if off = 0x08 then some s.loom.pwrLimit
  else if off = 0x0C then some (word s.loom.pwrEst)
  else if off = 0x10 then some s.loom.tjLimit
  else if 0x1000 ≤ off ∧ off < 0x1300 then
    let k := (off - 0x1000) / 0x10
    match off % 0x10 with
    | 0 => some (skL k s).loomCfg
    | 4 => some (skL k s).pin
    | 8 => some (mapWord k s)
    | _ => some (statWord k s)
  else if 0x2000 ≤ off ∧ off < 0x2100 then
    let e := chainE ((off - 0x2000) / 0x10) s
    match off % 0x10 with
    | 0 => some e.cfg
    | 4 => some e.give
    | 8 => some (pack [(2, b2n e.mismatch), (0, e.state)])
    | _ => none
  else none

/-- LOOM_TJ_LIMIT after a write: HOT against its range, EVICT against its own and the resulting HOT, then HOT against
the resulting EVICT (R186). -/
def tjWrite (old new : Word) : Word :=
  let h0 := fld 7 0 old
  let e0 := fld 15 8 old
  let h := if 100 ≤ fld 7 0 new ∧ fld 7 0 new ≤ 160 then fld 7 0 new else h0
  let e := if 105 ≤ fld 15 8 new ∧ fld 15 8 new ≤ 170 ∧ h < fld 15 8 new then fld 15 8 new else e0
  pack [(8, e), (0, if h < e then h else h0)]

/-- A LOOM opcode that a register write stands for: refused while group 0x0D is disabled (R173, R186). -/
def asOpcode (f : State → State × Ans) (s : State) : State × Ans :=
  if groupOff 0x0D s then (s, .fail .abortedDisabled []) else f s

/-- A write to the LOOM block (R186). -/
def writeLoom (off : Nat) (v : Word) (s : State) : State × Ans :=
  if off = 0x00 then (modLoom (fun l => { l with ctl := writeFields [rw 1 0] l.ctl v }) s, .done [])
  else if off = 0x08 then
    (modLoom (fun l => { l with pwrLimit := writeFields [rwIn 15 0 0 1800] l.pwrLimit v }) s, .done [])
  else if off = 0x10 then (modLoom (fun l => { l with tjLimit := tjWrite l.tjLimit v }) s, .done [])
  else if 0x1000 ≤ off ∧ off < 0x1300 then
    let k := (off - 0x1000) / 0x10
    match off % 0x10 with
    | 0 => asOpcode (rotateCfg k v) s
    | 4 => asOpcode (loomPin k v) s
    | _ => (s, .done [])
  else (s, .done [])

/-! ### MIRROR packets (R176) -/

/-- The set-point of skein k is in force: where it has changed its effect time is taken, unless it counts from its acceptance,
and mirrored; a command that the partner passed is answered (R176). -/
def mirrorInForce (k : Nat) (changed : Bool) (s : State) : State :=
  match chainOf k s with
  | none => s
  | some j =>
    if (chainE j s).state < 2 then s
    else
      let s := if changed then mirrorDuty k (modSkL k (fun x => { x with effect := if x.kept then x.effect else s.now }) s) else s
      match (skL k s).passedFrom with
      | none => s
      | some d =>
        pushMirror { dev := d, skein := (chainE j s).pskein, kind := .answer, value := s.now }
          (modSkL k (fun x => { x with passedFrom := none }) s)

/-- A DUTY with its effect time arrives: the later one is kept, the primary's on a tie (R176). -/
def mirrorIn (j value effect : Nat) (s : State) : State :=
  let e := chainE j s
  let x := skL e.skein s
  if x.effect < effect || (x.effect == effect && e.secondary) then
    let drives := !(e.state == 2 && e.secondary)
    modSkL e.skein (fun x =>
      { x with sp := { x.sp with duty := value }, effect := effect
               send := x.send || (drives && x.sp.duty != value) }) s
  else s

/-- A command passed by the partner is checked and carried out by the driving device (R176). -/
def mirrorCommand (j value : Nat) (s : State) : State :=
  let e := chainE j s
  let (s, a) := loadSet e.skein (word value) s
  let answer := fun (st : Status) (ws : List Word) (s : State) =>
    pushMirror { dev := e.pdev, skein := e.pskein, kind := .answer, status := st.code, value := (wordAt ws 0).toNat } s
  match a with
  | .wait _ _ _ => modSkL e.skein (fun x => { x with passedFrom := some e.pdev }) s
  | .fail st ws => answer st ws s
  | .done ws => answer .done ws s
  | .waits _ _ => s

/-- MIRROR: a MIRROR packet from device dev for skein k of this device, counted on the Ply port toward that device (R176, R432): a DUTY
(kind 0), a passed command (1) or the answer to one (2). -/
def execMirror (t dev k kind value effect status : Nat) (s : State) : Host.Outcome State Fault Refusal :=
  let s := toL t s
  .next (match chainOf k s with
    | none => s
    | some j =>
      if (chainE j s).pdev != dev || (chainE j s).state < 2 || !hostUp s || !plyToward dev s then s
      else
        let s := bump (ctr 0x01 (if s.deviceId < dev then 0x24 else 0x20)) s
        match kind with
        | 0 => mirrorIn j value effect s
        | 1 => mirrorCommand j value s
        | _ => completeAll (.mirror k) (Status.ofCode status)
            (fun e => if status = 0 then e.data.drop 1
              else if status = Status.code .budgetExceeded then [word value] else []) s)

/-- MIRROR_SEND: the packets that wait leave, and the primary of every ARMED or TAKEN_OVER entry sends its DUTY, each over a Ply link
that is up (R176). -/
def execMirrorSend (t : Nat) (s : State) : Host.Outcome State Fault Refusal :=
  let s := toL t s
  let duties := (List.range 16).filterMap (fun j =>
    let e := chainE j s
    if 2 ≤ e.state && !e.secondary then
      some ({ dev := e.pdev, skein := e.pskein, value := (skL e.skein s).sp.duty, effect := (skL e.skein s).effect } : MirrorMsg)
    else none)
  .next (if hostUp s then modLoom (fun l =>
      { l with mirrorsSent := (l.mirrors ++ duties).filter (fun m => plyToward m.dev s), mirrors := [] }) s else s)

/-- The SKEIN_CTL word that command e brings to skein k: kept with the command, or a word of its block write (R144). -/
def passedWord (k : Nat) (e : Entry) : Word :=
  if e.op = 0x0104 then wordAt e.req.payload ((0x42014 + 0x20 * k - e.req.object.toNat) / 4) else wordAt e.data 0

/-- A command that waits for the partner's answer is applied here once the link to it is down (R176). -/
def mirrorFallback (k : Nat) (s : State) : State :=
  (s.host.flight.filter (fun e => e.stage == .taken && (e.await :: e.more).contains (.mirror k))).foldl (fun s e =>
    let w := passedWord k e
    let p : SetPoint := { (skL k s).sp with duty := fld 16 0 w, hiz := bit 17 w }
    match setPointCheck k p s with
    | some (st, ws) => complete e st ws (refuse k st ws s).1
    | none => awaited (.mirror k) .done (fun e => e.data.drop 1) (keepDuty k p s) e) s

/-! ### Events of the fast plane -/

/-- CLASSIFICATION_CLOSE: 400 ticks after the earliest trip tick of skein k's reports they are classified; while the
link is not LIVE the fast path takes no action (R158, R240). -/
def execClassificationClose (k : Nat) (s : State) : Host.Outcome State Fault Refusal :=
  .next (match ((skL k s).reports.map (fun r => r.tick)).min? with
    | none => s
    | some t0 => if linkLive s then classify k (toL (t0 + 400) s) else s)

/-- HANDOVER_LEAVE: at the leave point the P-die removes skein k's outgoing cell from the mask, and the cell becomes
STANDBY; a handover that has started completes in hold-over too (R155). A chopping skein's leave point is the end of
an on-interval (R256), which CHOP_THRESHOLD brings. -/
def execHandoverLeave (k : Nat) (s : State) : Host.Outcome State Fault Refusal :=
  let chops := (slotsP k s).any (fun a =>
    (actP a s).prof.chopper == k && ((actP a s).phase == 2 || (actP a s).phase == 3))
  .next (match (skP k s).hand with
    | none => s
    | some h =>
      if chops then s else
      let s := toP (leavePoint k h s) s
      let s := changeSkP k (leaveNow k) s
      if linkLive s then endHandover k s else s)

end Sys2Proof.Machine
end

