-- ==== Sys2Proof/Machine/Act.lean ====
section
/-! DEFINITION. The opcodes of group 0x03 (R271 to R274), the ACT block (R276), and the events of a slot: chopping and
the kink (R259, R264), and the ends of its phases (R257). -/

namespace Sys2Proof.Machine

/-! ### ACT_PROFILE_SET (R271) -/

/-- The profile of six payload words: reserved bits and VALID dropped, LS_USED 1 for BANK (R276). -/
def profileOf (r : Req) : ActProfile :=
  let b := arg r 0 &&& 0x0003BF3F
  { bind := if fld 17 16 b = 2 then b ||| 0x8000 else b, cur := arg r 1, time := arg r 2
    chop := arg r 3 &&& 0xFF3FF3FF, decay := arg r 4, kink := arg r 5 }

/-- An actuator skein of a mode: defined, OWNER 2 and static (R255). -/
def actSkein (k mode : Nat) (s : State) : Bool :=
  let d := defL k s
  decide (k < 48) && d.defined && d.owner == 2 && d.static && d.mode == mode

/-- The profile of slot b as it will stand once the one on its way is in force. -/
def profComing (b : Nat) (s : State) : ActProfile :=
  s.weft.cfg.foldl (fun p c => match c.item with
    | .actProfile x q => if x = b then q else p
    | _ => p) (actL b s).prof

/-- Check 2: the skeins meet R255 with the other slots as they stand, or will once their profiles are in force. -/
def bindValid (a : Nat) (p : ActProfile) (s : State) : Bool :=
  let others := ((List.range 16).filter (fun b => b != a)).map (fun b => profComing b s)
  p.kind ≤ 2 && actSkein p.hskein 1 s && (!p.lsUsed || actSkein p.lskein 2 s) &&
    others.all (fun q =>
      (!p.lsUsed || !q.skeins.contains p.lskein) &&
      (if p.kind = 1 then !q.skeins.contains p.hskein
       else !(q.kind == 1 && q.skeins.contains p.hskein)))

/-- Check 3: field ranges, the decays of a BANK slot (R261), MIX_T below the off-times. -/
def fieldsValid (p : ActProfile) : Bool :=
  let decs := [p.peakDec, p.holdDec, p.phDec, p.relDec]
  1 ≤ p.iHold && 1 ≤ p.iPeak && 10 ≤ p.peakMax && p.peakMax ≤ 5000 && 1 ≤ p.relT &&
    5 ≤ p.toffHold && p.toffHold ≤ 1000 && 5 ≤ p.toffPeak && p.toffPeak ≤ 1000 && 1 ≤ p.lcoil &&
    decs.all (fun d => d ≤ 2) && (p.mixT != 0 || !decs.contains 2) &&
    (p.kind != 2 || (p.peakDec == 0 && p.holdDec == 0 && p.phDec == 0)) &&
    (p.peakDec != 2 || p.mixT < p.toffPeak) && (p.holdDec != 2 || p.mixT < p.toffHold) &&
    (!p.kinkEn || (1 ≤ p.kinkDi && 1 ≤ p.kinkDv && 1 ≤ p.kinkN))

/-- The BANK profiles on HSKEIN h with slot a's in place of its stored one (R267). -/
def bankProfiles (a : Nat) (p : ActProfile) (s : State) : List ActProfile :=
  ((List.range 16).map (fun b => if b = a then p else profComing b s)).filter (fun q =>
    q.kind == 2 && q.hskein == p.hskein)

/-- Check 4: currents against the skeins' limits, and R267 for a BANK slot. -/
def actCurrentsValid (a : Nat) (p : ActProfile) (s : State) : Bool :=
  let h := defL p.hskein s
  let all := bankProfiles a p s
  let holds := (all.map (fun q => q.iHold)).sum
  p.iHold ≤ p.iPeak && p.skeins.all (fun k => p.iPeak ≤ (defL k s).ipeak && p.iHold ≤ (defL k s).inom) &&
    (p.kind != 2 || (holds ≤ h.inom && all.all (fun q => q.iPeak + (holds - q.iHold) ≤ h.ipeak)))

/-- The clamp energy of a turn-off at a current, in units of 1e-9 J × A, of which 60 mJ is 6 × 10^7 (R263). -/
def clampEnergy (lcoil i : Nat) : Nat := lcoil * i * i * 13

/-- Check 5: no FAST or MIXED turn-off above 60 mJ per cell (R263). In a BANK the sum over every slot on the HSKEIN counts for
each of them whose REL_DEC is not SLOW, the stored ones too. -/
def clampValid (a : Nat) (p : ActProfile) (s : State) : Bool :=
  let lim := 60000000 * (defL p.hskein s).target
  let one := fun (dec i : Nat) => dec == 0 || clampEnergy p.lcoil i ≤ lim
  let rel := if p.kind = 2 then
      (bankProfiles a p s).all (fun q => q.relDec == 0) ||
        ((bankProfiles a p s).map (fun q => clampEnergy q.lcoil q.iHold)).sum ≤ lim
    else one p.relDec p.iHold
  one p.peakDec p.iPeak && one p.phDec p.iPeak && one p.holdDec p.iHold && rel

/-- ACT_PROFILE_SET of slot a: the checks in order; the profile comes into force with the P-die's report (R271). -/
def profileSet (a : Nat) (p : ActProfile) (s : State) : State × Ans :=
  if (actL a s).phase != 0 then (s, .fail .busy [])
  else if p.kind = 0 then writeP (.actProfile a {}) s
  else if !bindValid a p s || !fieldsValid p then (s, .fail .badObject [])
  else if !actCurrentsValid a p s || !clampValid a p s then (countRefused p.skeins s, .fail .budgetExceeded [])
  else writeP (.actProfile a p) s

/-- OBJECT names a slot. -/
def slotOk (r : Req) (_ : State) : Bool := obj r ≤ 15

/-- ACT_PROFILE_SET as the interpreter knows it. -/
def infoActProfileSet : OpInfo :=
  { op := 0x0300, len := lenIs 6, obj := slotOk, run := fun e s => profileSet (obj e.req) (profileOf e.req) s }

/-- ACT_PROFILE_SET (R271). -/
def execActProfileSet (r : Req) (s : State) : Host.Outcome State Fault Refusal :=
  .next (command infoActProfileSet r s)

/-! ### ACT_FIRE, ACT_STOP, ACT_STATUS (R272 to R274) -/

/-- A bound skein forbids a fire: too few cells in service, or one PAUSING or LATCHED (R272). -/
def fireBarred (k : Nat) (s : State) : Bool :=
  inService k s < (defL k s).target || (defL k s).cells.any (fun n => (viewOf n s).ladder != .ready)

/-- The budgets of R140 with the bound skeins on and in inrush (R256). -/
def fireBudget (p : ActProfile) (s : State) : Option Word :=
  let tr : Trial := p.skeins.map (fun k => (k, { (skL k s).sp with duty := 1 }))
  budgetTrial tr p.skeins ((p.skeins.map (fun k => banksOf k s)).flatten.eraseDups) s

/-- A slot of the profile's shared HSKEIN waits already: no slot overtakes it (R266). -/
def queued (p : ActProfile) (s : State) : Bool :=
  p.kind == 2 && s.act.queue.any (fun b => (actL b s).prof.hskein == p.hskein)

/-- ACT_FIRE of slot a (R272). A refusal for a budget counts for each bound skein (R150). -/
def actFire (a : Nat) (s : State) : State × Ans :=
  let x := actL a s
  let p := x.prof
  if p.kind = 0 then (s, .fail .badObject [])
  else if x.phase != 0 && x.phase != 3 then (s, .fail .busy [])
  else if !linkLive s || p.skeins.any (fun k => fireBarred k s) then (s, .fail .faultActive [])
  else if x.phase = 3 then
    let restart := if p.holdT = 0 then none else some (s.now + p.holdT * 200000)
    (modActL a (fun x => { x with holdEnd := restart }) s, .done [2])
  else match fireBudget p s with
    | some w => (countRefused p.skeins s, .fail .budgetExceeded [w])
    | none =>
      let s := modActL a (fun x => { x with aborted := false, deferred := false }) s
      if claimFits a s && !queued p s then
        let (id, s) := decidePeak a s
        (s, .wait (.echo id) false [0])
      else
        let s := setPhase a 1 (modActL a (fun x => { x with deferred := true }) s)
        let s := bump (ctr 0x06 (8 * a + 1)) (modAct (fun x => { x with queue := x.queue ++ [a] }) s)
        (actEvent s.now a 2 s, .done [1])

/-- ACT_FIRE as the interpreter knows it. -/
def infoActFire : OpInfo :=
  { op := 0x0301, len := lenIs 0, snap := true, obj := slotOk, run := fun e s => actFire (obj e.req) s }

/-- ACT_FIRE (R272). -/
def execActFire (r : Req) (s : State) : Host.Outcome State Fault Refusal := .next (command infoActFire r s)

/-- ACT_STOP of slot a (R273). -/
def actStop (a : Nat) (s : State) : State × Ans :=
  let x := actL a s
  if x.prof.kind = 0 then (s, .fail .badObject [])
  else match x.phase with
    | 1 => (claimFell a (setPhase a 0 (modAct (fun x => { x with queue := x.queue.filter (fun b => b != a) }) s)), .done [])
    | 2 | 3 =>
      if linkLive s then writeP (.act a 4) (setPhase a 4 s) else (s, .fail .faultActive [])
    | _ => (s, .done [])

/-- ACT_STOP as the interpreter knows it. -/
def infoActStop : OpInfo :=
  { op := 0x0302, len := lenIs 0, snap := true, obj := slotOk, run := fun e s => actStop (obj e.req) s }

/-- ACT_STOP (R273). -/
def execActStop (r : Req) (s : State) : Host.Outcome State Fault Refusal := .next (command infoActStop r s)

/-- ACT_STATUS as the interpreter knows it. -/
def infoActStatus : OpInfo :=
  { op := 0x0303, len := lenIs 0, obj := slotOk
    run := fun e s =>
      let a := obj e.req
      let p := (actL a s).prof
      if p.kind = 0 then (s, .fail .badObject [])
      else (s, .done [actStat a s, actMeas a s, word (skeinCur p.chopper s)]) }

/-- ACT_STATUS (R274). -/
def execActStatus (r : Req) (s : State) : Host.Outcome State Fault Refusal := .next (command infoActStatus r s)

/-! ### Registers (R276) -/

/-- The ACT block at an offset. -/
def readAct (off : Nat) (s : State) : Option Word :=
  if off = 0 then
    let inPhase := fun (f : Nat → Bool) => bitsOf ((List.range 16).filter (fun a => f (actL a s).phase))
    some (pack [(16, inPhase (fun p => p == 1)), (0, inPhase (fun p => p != 0))])
  else if 0x1000 ≤ off ∧ off < 0x1200 then
    let a := (off - 0x1000) / 0x20
    let p := (actL a s).prof
    match off % 0x20 with
    | 0x00 => some (if p.kind = 0 then 0 else p.bind ||| 0x80000000)
    | 0x04 => some p.cur
    | 0x08 => some p.time
    | 0x0C => some p.chop
    | 0x10 => some p.decay
    | 0x14 => some p.kink
    | 0x18 => some (actStat a s)
    | _ => some (actMeas a s)
  else none

/-! ### Kink detection under regulation (R264) -/

/-- The regulation detector of slot a at the end of a chop cycle that took tOn on and tOff off (R264). -/
def detectCycle (a tOn tOff : Nat) (s : State) : State :=
  let x := actP a s
  let p := x.prof
  let start := x.ivStart - tOff - x.peakStart
  if x.phase != 2 || x.rise || !p.kinkEn || x.flags.kinkSeen || start < p.kinkBlank * 20000 then s
  else
    let vbat := (nth s.pdie.banks (bankOf (defP p.chopper s).first)).vbat
    let v := vbat * tOn / max 1 (tOn + tOff)
    let top := max x.vMax v
    if v + p.kinkDv * 250 ≤ top then
      let first := if x.vRun = 0 then start else x.vFirst
      let s := modActP a (fun x => { x with vMax := top, vRun := x.vRun + 1, vFirst := first }) s
      if p.kinkN ≤ x.vRun + 1 then setKink a first s.pNow s else s
    else modActP a (fun x => { x with vMax := top, vRun := 0 }) s

/-! ### Events of a slot -/

/-- At the end of a complete on-interval the outgoing cell of a handover of the chopping skein leaves (R155, R256). -/
def chopLeave (a : Nat) (s : State) : State :=
  let k := (actP a s).prof.chopper
  match (skP k s).hand with
  | none => s
  | some h =>
    if h.applied ≤ (actP a s).ivStart then
      let s := changeSkP k (leaveNow k) s
      if linkLive s then endHandover k s else s
    else s

/-- CHOP_THRESHOLD: a sense sample of slot a's chopping skein (10 mA) reaches the threshold of its phase, after the
blanking of an on-interval, whose first unblanked sample comes before its tick 375; means are the 8-sample means of a rise that ends here (R259, R264). -/
def execChopThreshold (t a sample : Nat) (means : List Nat) (s : State) : Host.Outcome State Fault Refusal :=
  let s := toP t s
  let x := actP a s
  let p := x.prof
  let limit := if x.phase = 2 then p.iPeak else p.iHold
  .next (if (x.phase != 2 && x.phase != 3) || !x.on || sample < limit || (!x.rise && s.pNow < x.ivStart + 250) then s
    else
      let s := detectRise a means s
      let toff := (if x.phase = 2 then p.toffPeak else p.toffHold) * 200
      let s := if x.rise then s else detectCycle a (s.pNow - x.ivStart) toff s
      let s := chopLeave a s
      let ph := x.ph && (x.ivStart < x.since || s.pNow < x.ivStart + 375)
      let code := if x.phase = 2 then p.peakDec else if ph then p.phDec else p.holdDec
      let (dec, s) := if p.kind = 1 then chooseDecay a code s else (0, s)
      followSlot a (modActP a (fun x =>
        { x with on := false, ivStart := s.pNow, offEnd := some (s.pNow + toff), rise := false, ph := ph, dec := dec
                 mix := x.prof.mixT }) s))

/-- CHOP_OFF_END: slot a's off-interval ends and its chopping skein conducts again (R259). -/
def execChopOffEnd (a : Nat) (s : State) : Host.Outcome State Fault Refusal :=
  .next (match (actP a s).offEnd with
    | none => s
    | some e =>
      let s := toP e s
      followSlot a (modActP a (fun x => { x with on := true, ivStart := s.pNow, offEnd := none }) s))

/-- PEAK_END: slot a's PEAK ends KINK_EXT after a kink, or at PEAK_MAX, and HOLD begins; means are those of a rise
that has not reached I_PEAK (R257, R264). -/
def execPeakEnd (a : Nat) (means : List Nat) (s : State) : Host.Outcome State Fault Refusal :=
  .next (if (actP a s).phase != 2 then s
    else
      let s := detectRise a means s
      let x := actP a s
      let last := x.peakStart + x.prof.peakMax * 2000
      let stop := min last (x.kinkEnd.getD last)
      let s := toP stop s
      let none' := x.prof.kinkEn && !x.flags.kinkSeen
      let dur := (stop - x.peakStart) / 2000
      let s := modActP a (fun x =>
        { x with phase := 3, since := stop, rise := false, ph := true
                 flags := { x.flags with noKink := none', peakDur := dur, heldFs := x.fsHold } }) s
      let s := if none' then reportP 0x0C2 a 0 s else s
      reportAct a 4 (followSlot a s))

/-- HOLD_END: HOLD_T after HOLD began the L-die sends slot a to RELEASE; while the link is not LIVE no slot leaves
HOLD (R257, R268). -/
def execHoldEnd (a : Nat) (s : State) : Host.Outcome State Fault Refusal :=
  .next (match (actL a s).holdEnd with
    | none => s
    | some e => if linkLive s && (actL a s).phase = 3 then pushCfg' (.act a 4) (setPhase a 4 (toL e s)) else s)

/-- RELEASE_END: REL_T after RELEASE began slot a is IDLE (R257). -/
def execReleaseEnd (a : Nat) (s : State) : Host.Outcome State Fault Refusal :=
  .next (if (actP a s).phase != 4 then s
    else reportAct a 6 (stopSlot a (toP ((actP a s).since + (actP a s).prof.relT * 20000) s)))

end Sys2Proof.Machine
end

