-- ==== Sys2Proof/Machine/Matrix.lean ====
section
/-! DEFINITION. The matrix ports on the P-die: scanning and synchronisation (R283, R284), swaps (R290), and row and
column faults (R291). -/

namespace Sys2Proof.Machine

/-- Port p of the P-die. -/
def portP (p : Nat) (s : State) : PortP := nth s.pdie.ports p
/-- Port p of the P-die changed by f. -/
def modPortP (p : Nat) (f : PortP → PortP) (s : State) : State := modP (fun x => { x with ports := upd x.ports p f }) s

/-- EN. -/
def PortP.en (x : PortP) : Bool := bit 0 x.cfg
/-- SYNC. -/
def PortP.sync (x : PortP) : Nat := fld 27 26 x.cfg

/-- The row gap G of a configuration, in ticks (R283). -/
def rowGap (cfg : Word) : Nat := max (2 ^ (fld 19 16 cfg + 4) * (fld 15 8 cfg + 1)) 200

/-- The row slot S of a configuration, in ticks (R283). -/
def rowSlot (cfg : Word) : Nat :=
  let depth := fld 19 16 cfg + 8
  let mpre := fld 15 8 cfg + 1
  2 ^ depth * mpre + rowGap cfg

/-- The frame period of a configuration, in ticks (R283). -/
def framePeriod (cfg : Word) : Nat := (fld 23 20 cfg + 1) * rowSlot cfg

/-- The port's outputs may be on. -/
def portLit (x : PortP) (s : State) : Bool := x.en && !x.blank && !outputsOff s

/-- A frame of the port is in progress at tick t. -/
def inFrame (x : PortP) (t : Nat) : Bool :=
  match x.frame with
  | some (a, b) => a ≤ t && t < b
  | none => false

/-- The current code of column c in COLI words (R286). -/
def coliCode (w : Vector Word 12) (c : Nat) : Nat := fld (8 * (c % 4) + 7) (8 * (c % 4)) (nth w (c / 4))

/-- The sum of the current codes of a port (R286). -/
def coliSum (w : Vector Word 12) : Nat := ((List.range 48).map (fun c => coliCode w c)).sum

/-- The sink codes under a derating factor (R286). -/
def sinkCodes (w : Vector Word 12) (d : Nat) : List Nat := (List.range 48).map (fun c => coliCode w c * d / 1000)

/-! ### What a port drives (R283, R285) -/

/-- The row whose slot runs at tick t, and the start of that slot; none between frames (R283). -/
def slotAt (x : PortP) (t : Nat) : Option (Nat × Nat) :=
  match x.frame with
  | some (a, b) =>
    if a ≤ t ∧ t < b then
      let r := (t - a) / rowSlot x.cfg
      some (r, a + r * rowSlot x.cfg)
    else none
  | none => none

/-- The row whose switch is on at tick t: from G / 2 of its slot on, unless it has tripped or is latched off (R283, R291). -/
def rowOn (x : PortP) (t : Nat) : Option Nat :=
  match slotAt x t with
  | some (r, a) =>
    if rowGap x.cfg / 2 ≤ t - a && !x.rowOff.testBit r && !x.rowF.testBit r then some r else none
  | none => none

/-- The level v of the pixel in row r and column c as the slot that starts at tick a shows it: the top DEPTH bits of its stored
value (R285, R289). -/
def shownLevel (x : PortP) (r c a : Nat) : Nat :=
  let i := r * 48 + c
  let v := match x.late.find? (fun q => q.1 == i && q.2.2 == a) with
    | some q => q.2.1
    | none => (nth x.fb x.displayed).get i
  v % 65536 / 2 ^ (16 - (fld 19 16 x.cfg + 8))

/-- The columns that sink at tick t: from G of the slot on, v × MPRE ticks each (R283, R291). -/
def sinking (x : PortP) (t : Nat) : List Nat :=
  match slotAt x t with
  | some (r, a) => (List.range 48).filter (fun c =>
      decide (rowGap x.cfg ≤ t - a) && decide (t - a < rowGap x.cfg + shownLevel x r c a * (fld 15 8 x.cfg + 1)) &&
        !x.colOff.testBit c && !x.colShort.testBit c)
  | none => []

/-- The current that column c sinks at tick t, in units of 60 mA / 255 (R286). -/
def sinkCode (x : PortP) (t c : Nat) : Nat := if (sinking x t).contains c then x.sinks.getD c 0 else 0

/-- The swap carried out: the back buffer becomes the displayed one; with COPY it is copied into the new back
buffer, which takes 768 ticks (R290). -/
def swapNow (p : Nat) (copy : Bool) (s : State) : State :=
  let s := modPortP p (fun x =>
    let d := 1 - x.displayed
    { x with displayed := d, swap := none, blank := false
             fb := if copy then put x.fb (1 - d) (nth x.fb d) else x.fb
             copyEnd := if copy then some (s.pNow + 768) else none }) s
  let s := bump (ctr 0x07 (0x10 * p + 2)) s
  pushUp (.light p (if copy then 6 else 5) 0 s.pNow) s

/-- The runs of frames with a trip: a row or column that stayed on in the last frame starts again (R291). -/
def nextRuns {n : Nat} (off : Nat) (runs : Vector Nat n) : Vector Nat n :=
  (List.range n).foldl (fun v i => if off.testBit i then v else put v i 0) runs

/-- A frame of port p starts at the present tick: a waiting configuration, the sink codes and a pending swap come
into force, and it is counted (R284, R286, R290, R310). -/
def startFrame (p : Nat) (s : State) : State :=
  let t := s.pNow
  let s := modPortP p (fun x =>
    let cfg := x.cfgNext.getD x.cfg
    { x with cfg := cfg, cfgNext := none, held := false, late := []
             lastEdge := if fld 27 26 cfg == 1 && x.sync != 1 then t else x.lastEdge
             lsyncLost := x.lsyncLost && fld 27 26 cfg == 1 && !x.held
             frame := some (t, t + framePeriod cfg)
             sinks := sinkCodes x.coli x.factor
             rowRun := nextRuns x.rowOff x.rowRun, colRun := nextRuns x.colOff x.colRun
             rowOff := 0, colOff := 0 }) s
  let s := bump64 (ctr 0x07 (0x10 * p)) s
  match (portP p s).swap with
  | some copy => swapNow p copy s
  | none => s

/-- The port starts its frames on device time: SYNC 0, or LSYNC lost (R284). -/
def onDeviceTime (x : PortP) : Bool := x.sync == 0 || x.lsyncLost

/-- FRAME_START: the next frame of port p starts: at the next multiple of the frame period, or for a held LSYNC edge
when the present frame ends; so it does with LSYNC_LOST, and that ends it (R284). Frames on device time leave no gap between them:
the first edge in one of them is taken as the edge that comes after the end of a frame (DEDUCED, log entry 84). -/
def execFrameStart (p : Nat) (s : State) : Host.Outcome State Fault Refusal :=
  let x := portP p s
  .next (if 2 ≤ p ∨ !portLit x s then s
    else
      let past := (x.frame.map (fun f => f.2)).getD 0
      let from' := max s.pNow past
      if onDeviceTime x && !(x.sync == 1 && x.held) then
        let period := framePeriod x.cfg
        startFrame p (toP (ceilDiv from' period * period) s)
      else if x.held then startFrame p (toP from' s) else s)

/-- An LSYNC edge at port p (R284). -/
def lsyncEdge (p : Nat) (s : State) : State :=
  let x := portP p s
  if x.sync != 1 || !portLit x s then s
  else
    let s := modPortP p (fun x => { x with lastEdge := s.pNow }) s
    if inFrame x s.pNow then
      if x.held then bump (ctr 0x07 (0x10 * p + 4)) s
      else modPortP p (fun x => { x with held := true }) s
    else startFrame p (modPortP p (fun x => { x with lsyncLost := false }) s)

/-- LSYNC_EDGE: a rising edge on LSYNC has stood for 100 ns (R284). MSEL and LSYNC are ignored in DEEP SLEEP and OFF
(R53). -/
def execLsyncEdge (t : Nat) (s : State) : Host.Outcome State Fault Refusal :=
  .next (lsyncEdge 1 (lsyncEdge 0 (toP t s)))

/-- LSYNC_LOSS: no edge for 100 ms; port p starts frames on device time and reports it (R284, R308). -/
def execLsyncLoss (p : Nat) (s : State) : Host.Outcome State Fault Refusal :=
  let x := portP p s
  .next (if 2 ≤ p ∨ x.sync != 1 ∨ x.lsyncLost ∨ !portLit x s then s
    else
      let s := toP (x.lastEdge + 20000000) s
      pushUp (.light p 4 0 s.pNow) (modPortP p (fun x => { x with lsyncLost := true }) s))

/-- SWAP_COPY_DONE: the copy after a swap of port p completes (R290). -/
def execSwapCopyDone (p : Nat) (s : State) : Host.Outcome State Fault Refusal :=
  .next (match (portP p s).copyEnd with
    | none => s
    | some e =>
      let s := toP e s
      pushUp (.light p 5 1 s.pNow) (modPortP p (fun x => { x with copyEnd := none }) s))

/-- ROW_OVERCURRENT: row r of port p has stood above its threshold for 1 µs: off for the rest of its slot, latched
after 8 consecutive frames (R291). -/
def execRowOvercurrent (t p r : Nat) (s : State) : Host.Outcome State Fault Refusal :=
  let s := toP t s
  let x := portP p s
  .next (if 2 ≤ p ∨ 16 ≤ r ∨ !portLit x s ∨ rowOn x s.pNow ≠ some r then s
    else
      let run := nth x.rowRun r + 1
      let s := modPortP p (fun x =>
        { x with rowOff := x.rowOff ||| 1 <<< r, rowRun := put x.rowRun r run
                 rowF := if 8 ≤ run then x.rowF ||| 1 <<< r else x.rowF }) s
      let s := bump (ctr 0x07 (0x10 * p + 3)) s
      if 8 ≤ run then pushUp (.light p 1 r s.pNow) (reportP 0x0E1 (16 * p + r) 0 s) else s)

/-- COLUMN_OPEN: column c of port p has read open in 16 consecutive frames (R291). -/
def execColumnOpen (t p c : Nat) (s : State) : Host.Outcome State Fault Refusal :=
  let s := toP t s
  let x := portP p s
  .next (if 2 ≤ p ∨ 48 ≤ c ∨ !portLit x s ∨ x.colOpen.testBit c then s
    else
      let s := modPortP p (fun x => { x with colOpen := x.colOpen ||| 1 <<< c }) s
      pushUp (.light p 2 c s.pNow) (reportP 0x0E2 (48 * p + c) 0 s))

/-- COLUMN_SHORT: column c of port p has stood above its threshold for 2 µs while sinking: off for the rest of the
frame, latched after 8 consecutive frames (R291). -/
def execColumnShort (t p c : Nat) (s : State) : Host.Outcome State Fault Refusal :=
  let s := toP t s
  let x := portP p s
  .next (if 2 ≤ p ∨ 48 ≤ c ∨ !portLit x s ∨ !(sinking x s.pNow).contains c then s
    else
      let run := nth x.colRun c + 1
      let s := modPortP p (fun x =>
        { x with colOff := x.colOff ||| 1 <<< c, colRun := put x.colRun c run
                 colShort := if 8 ≤ run then x.colShort ||| 1 <<< c else x.colShort }) s
      if 8 ≤ run then pushUp (.light p 3 c s.pNow) (reportP 0x0E3 (48 * p + c) 0 s) else s)

/-! ### What the P-die takes from the L-die -/

/-- The bits of NROWS, DEPTH, MPRE and SYNC: a change of them waits for a frame start (R284). -/
def frameBits : Word := 0x0CFFFF00

/-- LIGHT_PORTp_CFG on the P-die. A port that is not scanning takes it at once; a swap that waited for the frame start of a port
that is no longer enabled is carried out (R284, R290). -/
def takePortCfg (p : Nat) (v : Word) (s : State) : State :=
  let x := portP p s
  let wait := portLit x s && bit 0 v && x.cfg &&& frameBits != v &&& frameBits
  let s := modPortP p (fun x =>
    let now := (x.cfg &&& frameBits) ||| (v &&& ~~~ frameBits)
    { x with cfg := if wait then now else v, cfgNext := if wait then some v else none, blank := false
             lastEdge := if x.en && (wait || x.sync == 1) then x.lastEdge else s.pNow
             lsyncLost := x.lsyncLost && bit 0 v && (wait || fld 27 26 v == 1)
             frame := if bit 0 v then x.frame else none, held := x.held && bit 0 v }) s
  match x.swap with
  | some copy => if bit 0 v then s else swapNow p copy s
  | none => s

/-- The mask that a write of 1s leaves (R7). -/
def clearBits (n m v : Nat) : Nat := bitsOf ((bitList n m).filter (fun i => !v.testBit i))

/-- A word of the LIGHT block that the P-die holds, by its offset (R309). -/
def takeLight (off : Nat) (v : Word) (s : State) : State :=
  let p := off / 0x100
  let o := off % 0x100
  if o = 0 then takePortCfg p v s
  else if o = 0x0C then modPortP p (fun x => { x with rowF := clearBits 16 x.rowF v.toNat }) s
  else if o = 0x10 then modPortP p (fun x => { x with colOpen := clearBits 48 x.colOpen v.toNat }) s
  else if o = 0x14 then modPortP p (fun x => { x with colOpen := clearBits 48 x.colOpen (v.toNat <<< 32) }) s
  else if o = 0x18 then modPortP p (fun x => { x with colShort := clearBits 48 x.colShort v.toNat }) s
  else if o = 0x1C then modPortP p (fun x => { x with colShort := clearBits 48 x.colShort (v.toNat <<< 32) }) s
  else if 0x40 ≤ o ∧ o < 0x70 then modPortP p (fun x => { x with coli := put x.coli ((o - 0x40) / 4) v }) s
  else s

/-- A pixel written on the P-die; a write to the displayed buffer shows from the next slot of its row on, and a copy in progress is
waited for (R289, R290). -/
def takePixel (p b i v : Nat) (s : State) : State :=
  let s := toP ((portP p s).copyEnd.getD 0) s
  modPortP p (fun x =>
    let late := match slotAt x s.pNow with
      | some (r, a) =>
        let keep := x.late.filter (fun q => q.2.2 == a)
        if b = x.displayed ∧ r = i / 48 ∧ keep.all (fun q => q.1 != i) then (i, (nth x.fb b).get i, a) :: keep else keep
      | none => []
    { x with blank := false, late := late, fb := upd x.fb b (fun t => t.set i v) }) s

/-- A swap command on the P-die: at once for a port that is not scanning, else at the next frame start (R290). -/
def takeSwap (p : Nat) (copy : Bool) (s : State) : State :=
  let s := modPortP p (fun x => { x with blank := false }) s
  if portLit (portP p s) s then modPortP p (fun x => { x with swap := some copy }) s else swapNow p copy s

end Sys2Proof.Machine
end

