-- ==== Sys2Proof/Machine/Sense.lean ====
section
/-! DEFINITION. The opcodes of cell protection, LOAD_CLEAR_LATCH and LOAD_SENSE (R223 to R225), the PROT block (R226)
and its counters (R227). -/

namespace Sys2Proof.Machine

/-- LOAD_CLEAR_LATCH of skein k with a payload word (R223). -/
def clearLatch (k : Nat) (w : Word) (s : State) : State × Ans :=
  let d := defL k s
  if !d.defined || !onlyBits 7 w then (s, .fail .badObject [])
  else if bit 0 w && d.cells.any (fun n => (viewOf n s).gateStuck) then (s, .fail .faultActive [])
  else if bit 0 w && !linkLive s then (s, .fail .faultActive [])
  else
    let more := fld 2 1 w
    if bit 0 w then writeP (.clearLatch k more) s else (clearLearn k more s, .done [])

/-- LOAD_CLEAR_LATCH as the interpreter knows it. -/
def infoLoadClearLatch : OpInfo :=
  { op := 0x0204, len := lenIs 1, snap := true, obj := fun r _ => loadOk r
    run := fun e s => clearLatch (skeinOf e.req) (arg e.req 0) s }

/-- LOAD_CLEAR_LATCH (R223). -/
def execLoadClearLatch (r : Req) (s : State) : Host.Outcome State Fault Refusal :=
  .next (command infoLoadClearLatch r s)

/-! ### Registers (R226) -/

/-- PROT_SKEIN_STATk. -/
def protSkeinStat (k : Nat) (s : State) : Word :=
  let l := (skL k s).learn
  let v := nth s.loom.skeinView k
  let latched := (defL k s).cells.any (fun n => (viewOf n s).ladder == .latched)
  pack [(24, l.drift), (12, b2n v.stb), (11, b2n v.isOpen), (10, b2n l.degraded), (9, b2n latched),
    (8, b2n (s.loom.widened.testBit k)), (3, l.nrec), (0, l.state)]

/-- PROT_CELL_SENSEn. -/
def cellSense (n : Nat) (s : State) : Word :=
  let c := viewOf n s
  pack [(24, c.temp), (20, shownCause c), (12, b2n c.ls), (0, senseView n s)]

/-- The pause of cell n that remains, whole ms rounded up: the P-die's deadline for rungs 1 to 3, the L-die's for
the others, 0 from its end to the release, the full rung while it is frozen (R209, R213). -/
def remainMs (n : Nat) (s : State) : Nat :=
  let c := viewOf n s
  if c.ladder != .pausing || c.due then 0
  else match c.pauseEnd, s.loom.pauses.find? (fun p => p.1 == n) with
    | some e, _ => ceilDiv (e - s.now) 200000
    | none, some p => ceilDiv (p.2 * mgmtTicks - s.now) 200000
    | none, none => if s.loom.releases.contains n then 0 else ((rungTicks c.tries).getD (rungMgmt c.tries * mgmtTicks)) / 200000

/-- PROT_CELL_LADDERn. -/
def cellLadder (n : Nat) (s : State) : Word :=
  let c := viewOf n s
  pack [(16, min 65535 (remainMs n s)), (10, b2n (c.ladder == .pausing)), (9, b2n c.thermal), (8, b2n c.locked),
    (7, b2n (c.ladder == .latched)), (6, b2n c.senseBad), (0, c.tries)]

/-- Word i of a 64-point window, 0 while the skein is not LEARNED. -/
def pointsWord (l : Learn) (pts : List Nat) (i : Nat) : Word :=
  if l.state = 2 then pack [(16, at0 pts (2 * i + 1)), (0, at0 pts (2 * i))] else 0

/-- An RW register of the PROT block. -/
def protWord (off : Nat) (p : ProtCfg) : Option Word :=
  if off = 0 then some p.ctl
  else if off = 4 then some p.ladder
  else if off = 8 then some p.droop
  else if 0x1000 ≤ off ∧ off < 0x1300 then
    let k := (off - 0x1000) / 0x10
    match off % 0x10 with
    | 0 => some (nth p.trip k)
    | 4 => some (nth p.diag k)
    | 8 => some (nth p.learn k)
    | _ => none
  else if 0x2000 ≤ off ∧ off < 0x20C0 ∧ off % 0x10 = 0 then some (nth p.bobbin ((off - 0x2000) / 0x10))
  else none

/-- The PROT block at an offset. -/
def readProt (off : Nat) (s : State) : Option Word :=
  if (protWord off s.loom.prot).isSome then protWord off s.loom.prot
  else if 0x1000 ≤ off ∧ off < 0x1300 then some (protSkeinStat ((off - 0x1000) / 0x10) s)
  else if 0x2000 ≤ off ∧ off < 0x20C0 then
    let b := (off - 0x2000) / 0x10
    match off % 0x10 with
    | 4 => some (pack [(17, b2n (s.loom.droopSeen.testBit b)), (16, b2n (nth s.loom.bankView b).droop),
        (0, (nth s.loom.bankView b).vbat)])
    | _ => none
  else if 0x4000 ≤ off ∧ off < 0x4600 then
    let n := (off - 0x4000) / 0x10
    match off % 0x10 with
    | 0 => some (cellSense n s)
    | 4 => some (cellLadder n s)
    | 8 => some (word (viewOf n s).ledger)
    | _ => none
  else if 0x8000 ≤ off ∧ off < 0x9800 then
    let l := (skL ((off - 0x8000) / 0x80) s).learn
    some (pointsWord l l.e (off % 0x80 / 4))
  else if 0xA000 ≤ off ∧ off < 0xB800 then
    let l := (skL ((off - 0xA000) / 0x80) s).learn
    some (pointsWord l l.r (off % 0x80 / 4))
  else if 0xC000 ≤ off ∧ off < 0xD800 then
    let l := (skL ((off - 0xC000) / 0x80) s).learn
    some (pointsWord l l.m (off % 0x80 / 4))
  else none

/-- The RW fields of a PROT register that the P-die holds, with their ranges; none for any other offset. -/
def protFields (off : Nat) : Option (List Field) :=
  if off = 0 then some [rw 2 2, rw 1 1, rw 0 0]
  else if off = 4 then some [rwIn 15 8 1 255, rwIn 4 0 1 31]
  else if off = 8 then some [rwIn 4 0 2 16]
  else if 0x1000 ≤ off ∧ off < 0x1300 then
    match off % 0x10 with
    | 0 => some [rwIn 25 16 10 1000, rwIn 13 8 8 48, rwIn 5 0 8 48]
    | 4 => some [rwIn 23 16 1 255, rwIn 11 8 0 8, rw 0 0]
    | 8 => some [rwIn 31 23 60 320, rwIn 20 16 5 31, rwIn 11 8 1 15, rw 0 0]
    | _ => none
  else if 0x2000 ≤ off ∧ off < 0x20C0 ∧ off % 0x10 = 0 then some [rwIn 31 16 100 10000, rwIn 15 0 100 1000]
  else none

/-- A PROT register given a word. -/
def putProt (off : Nat) (v : Word) (p : ProtCfg) : ProtCfg :=
  if off = 0 then { p with ctl := v }
  else if off = 4 then { p with ladder := v }
  else if off = 8 then { p with droop := v }
  else if off < 0x2000 then
    let k := (off - 0x1000) / 0x10
    match off % 0x10 with
    | 0 => { p with trip := put p.trip k v }
    | 4 => { p with diag := put p.diag k v }
    | _ => { p with learn := put p.learn k v }
  else { p with bobbin := put p.bobbin ((off - 0x2000) / 0x10) v }

/-- The word that a CONFIG item writes to offset o of the PROT block. -/
def CfgItem.protAt (o : Nat) : CfgItem → Option Word
  | .prot off w => if off = o then some w else none
  | _ => none

/-- A write to the PROT block (R226). -/
def writeProt (off : Nat) (v : Word) (s : State) : State × Ans :=
  match protFields off with
  | some fs =>
    let old := comingWord (CfgItem.protAt off) ((readProt off s).getD 0) s
    writeP (.prot off (writeFields fs old v)) s
  | none =>
    if 0x2000 ≤ off ∧ off < 0x20C0 ∧ off % 0x10 = 4 then
      let b := (off - 0x2000) / 0x10
      let clear := fun (m : Nat) => if bit 17 v then bitsOf ((bitList 12 m).filter (fun i => i != b)) else m
      (modLoom (fun l => { l with droopSeen := clear l.droopSeen }) s, .done [])
    else (s, .done [])

/-- The W1C bits of the PROT block (R102). -/
def w1cProt (off : Nat) : Word := if 0x2000 ≤ off ∧ off < 0x20C0 ∧ off % 0x10 = 4 then word (2 ^ 17) else 0

/-! ### LOAD_SENSE (R224) -/

/-- The words of LOAD_SENSE. -/
def loadSense (k : Nat) (s : State) : List Word :=
  let d := defL k s
  pack [(16, d.count), (0, skeinCur k s)] :: protSkeinStat k s :: d.cells.map (fun n => cellSense n s)

/-- LOAD_SENSE as the interpreter knows it. -/
def infoLoadSense : OpInfo :=
  { op := 0x0205, len := lenIs 0, obj := fun r _ => loadOk r
    run := fun e s =>
      let k := skeinOf e.req
      if !(defL k s).defined then (s, .fail .badObject [])
      else if !linkLive s then (s, .fail .faultActive [])
      else (s, .done (loadSense k s)) }

/-- LOAD_SENSE (R224). -/
def execLoadSense (r : Req) (s : State) : Host.Outcome State Fault Refusal := .next (command infoLoadSense r s)

end Sys2Proof.Machine
end

