-- ==== Sys2Proof/Machine/Light.lean ====
section
/-! DEFINITION. The lighting engine on the L-die: levels and fades (R278 to R281), ports and frame memory (R288 to
R290), derating (R292, R293), the disabling of group 0x04 (R301), the opcodes of R302 to R307 but those of the Whorl
engines, and the LIGHT block (R309). -/

namespace Sys2Proof.Machine

/-- The lighting engine changed by f. -/
def modLight (f : LightSt → LightSt) (s : State) : State := { s with light := f s.light }
/-- Port p of the L-die. -/
def portL (p : Nat) (s : State) : PortL := nth s.light.ports p
/-- Port p of the L-die changed by f. -/
def modPortL (p : Nat) (f : PortL → PortL) (s : State) : State :=
  modLight (fun x => { x with ports := upd x.ports p f }) s
/-- Lighting skein k. -/
def lightSk (k : Nat) (s : State) : LightSkein := nth s.light.skeins k
/-- Lighting skein k changed by f. -/
def modLightSk (k : Nat) (f : LightSkein → LightSkein) (s : State) : State :=
  modLight (fun x => { x with skeins := upd x.skeins k f }) s
/-- Whorl engine e. -/
def engine (e : Nat) (s : State) : Engine := nth s.light.engines e
/-- Whorl engine e changed by f. -/
def modEngine (e : Nat) (f : Engine → Engine) (s : State) : State :=
  modLight (fun x => { x with engines := upd x.engines e f }) s

/-! ### Status words and the event LIGHT_STATUS (R308, R309) -/

/-- LIGHT_PORTp_STAT. -/
def portStat (p : Nat) (s : State) : Word :=
  let x := portL p s
  pack [(24, x.temp), (12, x.factor), (8, x.claim.getD 0), (7, b2n x.claim.isSome), (6, b2n x.stale),
    (5, b2n x.swapPend), (4, b2n x.lsyncLost), (1, x.displayed), (0, b2n x.scanning)]

/-- LIGHT_SKEINk_STAT. -/
def lightStat (k : Nat) (s : State) : Word :=
  let x := lightSk k s
  pack [(31, b2n x.fade.isSome), (30, b2n x.claim.isSome), (26, x.claim.getD 0), (16, x.factor), (0, x.level)]

/-- LIGHT_WHORLe_STAT. -/
def whorlStat (e : Nat) (s : State) : Word :=
  let x := engine e s
  let st := match x.state with | .idle => 0 | .running => 1 | .waiting => 2 | .faulted => 3
  pack [(30, st), (29, b2n x.late), (16, x.reason), (0, x.pc)]

/-- LIGHT_STATUS at tick t (R308). -/
def lightEvent (t obj reason code : Nat) (stat : Word) (s : State) : State :=
  postEventAt t 0xF05 [pack [(16, code), (8, reason), (0, obj)], stat] s

/-! ### Levels and fades (R279 to R281) -/

/-- The DUTY of a level under a curve and a derating factor (R279). -/
def levelDuty (d : SkeinDef) (square : Bool) (l f : Nat) : Nat :=
  if square then l * l * d.steps * f / (65535 * 65535 * 1000) else l * d.steps * f / (65535 * 1000)

/-- The DUTY that lighting skein k's level calls for with level l. -/
def lightDuty (k l : Nat) (s : State) : Nat :=
  levelDuty (defL k s) (bit 0 (lightSk k s).cfg) l (lightSk k s).factor

/-- The engine writes the DUTY of skein k's present level; a skein in its disable state keeps that state (R279,
R301). -/
def writeDuty (k : Nat) (s : State) : State :=
  let du := lightDuty k (lightSk k s).level s
  if (skL k s).disabled || (skL k s).sp.duty == du then s
  else modSkL k (fun x => { x with sp := { x.sp with duty := du }, send := true }) s

/-- A level taken at once: a running fade ends, and a disable state with it. -/
def setLevelNow (k l : Nat) (s : State) : State :=
  let s := modLightSk k (fun x => { x with level := l, fade := none }) s
  writeDuty k (modSkL k (fun x => { x with disabled := false, disablePending := false }) s)

/-- A fade of d × 0.1 ms to l, from the present level (R280). -/
def startFade (k l d : Nat) (s : State) : State :=
  let s := modSkL k (fun x => { x with disabled := false, disablePending := false }) s
  modLightSk k (fun x =>
    { x with fade := some { l0 := x.level, l1 := l, start := s.now, dur := d * 20000, last := s.now } }) s

/-- A level or a fade to it; d = 0 is no fade. -/
def goLevel (k l d : Nat) (s : State) : State := if d = 0 then setLevelNow k l s else startFade k l d s

/-- The level of a fade at tick t (R280). -/
def fadeLevel (f : Fade) (t : Nat) : Nat :=
  ((f.l0 : Int) + ((f.l1 : Int) - (f.l0 : Int)) * ((t - f.start : Nat) : Int) / (max 1 f.dur : Nat)).toNat

/-- A command that waits for the first changed DUTY of skein k's fade goes on to wait for it to be in force
(R302). -/
def dimStarted (k : Nat) (s : State) : State :=
  if (skL k s).send then
    modFlight (fun l => l.map (fun e => if e.await == .dim k then { e with await := .inForce k } else e)) s
  else s

/-- FADE_STEP: at a multiple of 1 ms inside a fade the level of skein k steps, the first one after its last step that the present
tick has not passed by more than a step (R280). While the link is not LIVE (R242), and
in SLEEP (R570), fades stop with their levels held. -/
def execFadeStep (k : Nat) (s : State) : Host.Outcome State Fault Refusal :=
  .next (match (lightSk k s).fade with
    | none => s
    | some f =>
      let t := max (s.now / 200000) (f.last / 200000 + 1) * 200000
      if !linkLive s || s.clk.power = 2 || f.start + f.dur ≤ t then s
      else
        let s := toL t s
        let s := modLightSk k (fun x => { x with level := fadeLevel f t, fade := some { f with last := t } }) s
        dimStarted k (writeDuty k s))

/-- FADE_END: the fade of skein k reaches its end tick (R280, R308); one whose end passes in SLEEP ends after it (R570, log entry
30). -/
def execFadeEnd (k : Nat) (s : State) : Host.Outcome State Fault Refusal :=
  .next (match (lightSk k s).fade with
    | none => s
    | some f =>
      if !linkLive s || s.clk.power = 2 then s
      else
        let s := toL (f.start + f.dur) s
        let s := dimStarted k (writeDuty k (modLightSk k (fun x => { x with level := f.l1, fade := none }) s))
        let s := completeAll (.dim k) .done (fun _ => []) s
        if bit 2 (lightSk k s).cfg then lightEvent s.now k 8 0 (lightStat k s) s else s)

/-- The set-point of skein k at a level, for the checks of R143 and R140 at the target (R281). -/
def levelSp (k l : Nat) (s : State) : SetPoint := { (skL k s).sp with duty := lightDuty k l s }

/-- DIM_SET of skein k (R302). -/
def dimSet (k : Nat) (w0 w1 : Word) (s : State) : State × Ans :=
  let d := defL k s
  let l := fld 15 0 w0
  let fade := fld 15 0 w1
  if !d.defined || d.owner != 1 || d.static || !onlyBits 0xFFFF w0 || !onlyBits 0xFFFF w1 then (s, .fail .badObject [])
  else if bit 1 (lightSk k s).cfg then (s, .fail .busy [])
  else match setPointCheck k (levelSp k l s) s with
    | some (st, ws) => refuse k st ws s
    | none =>
      if !linkLive s then (s, .fail .faultActive [])
      else
        let s := completeAll (.dim k) .done (fun _ => []) s
        let s := goLevel k l fade s
        (s, .wait (if fade = 0 then .inForce k else .dim k) false [])

/-- DIM_SET as the interpreter knows it. -/
def infoDimSet : OpInfo :=
  { op := 0x0400, len := lenIs 2, snap := true, obj := fun r _ => loadOk r
    run := fun e s => dimSet (skeinOf e.req) (arg e.req 0) (arg e.req 1) s }

/-- DIM_SET (R302). -/
def execDimSet (r : Req) (s : State) : Host.Outcome State Fault Refusal := .next (command infoDimSet r s)

/-! ### Frame memory (R288 to R290) -/

/-- The back buffer of port p. -/
def backOf (p : Nat) (s : State) : Nat := 1 - (portL p s).displayed

/-- A pixel of buffer b written: into the copy, and to the P-die where its value changes (R289). -/
def writePixel (p b i v : Nat) (s : State) : State :=
  if (nth (portL p s).fb b).get i = v then s
  else
    let (id, s) := pushCfg (.pixel p b i v) s
    modPortL p (fun x => { x with fb := upd x.fb b (fun t => t.set i v), pixels := x.pixels ++ [id] }) s

/-- Pixels written one after the other. -/
def writePixels (p b : Nat) (l : List (Nat × Nat)) (s : State) : State :=
  l.foldl (fun s q => writePixel p b q.1 q.2 s) s

/-- The echoes that the pixel writes from state s0 to s wait for. -/
def pixelEchoes (p : Nat) (s0 s : State) : List Await :=
  ((portL p s).pixels.drop (portL p s0).pixels.length).map (fun id => Await.echo id)

/-- The pixel and its level in half of a payload word. -/
def halfWord (ws : List Word) (j : Nat) : Nat := if j % 2 = 0 then fld 15 0 (wordAt ws (j / 2)) else fld 31 16 (wordAt ws (j / 2))

/-- MATRIX_WRITE of port p (R303). -/
def matrixWrite (p : Nat) (ws : List Word) (s : State) : State × Ans :=
  let first := fld 9 0 (wordAt ws 0)
  let count := fld 25 16 (wordAt ws 0)
  let px := ws.drop 1
  if count = 0 || 510 < count || 768 < first + count || px.length != ceilDiv count 2 then
    (s, .fail .badObject [])
  else if bit 28 (portL p s).cfg then (s, .fail .busy [])
  else if !linkLive s then (s, .fail .faultActive [])
  else
    let s1 := writePixels p (backOf p s) ((List.range count).map (fun j => (first + j, halfWord px j))) s
    (s1, .waits (pixelEchoes p s s1) [])

/-- MATRIX_WRITE as the interpreter knows it. -/
def infoMatrixWrite : OpInfo :=
  { op := 0x0401, len := lenBetween 2 256, obj := fun r _ => obj r < 2, run := fun e s => matrixWrite (obj e.req) e.req.payload s }

/-- MATRIX_WRITE (R303). -/
def execMatrixWrite (r : Req) (s : State) : Host.Outcome State Fault Refusal := .next (command infoMatrixWrite r s)

/-- A swap of port p: it goes to the P-die once every pixel write accepted for the port has been echoed (R290). -/
def swapPort (p : Nat) (copy : Bool) (s : State) : State :=
  let s := modPortL p (fun x => { x with swapPend := true }) s
  if (portL p s).pixels.isEmpty then pushCfg' (.swap p copy) s
  else modPortL p (fun x => { x with swapWait := some copy }) s

/-- The echo of a pixel write: a swap that waited for the last of them goes down (R290). -/
def pixelEchoed (p id : Nat) (s : State) : State :=
  let s := modPortL p (fun x => { x with pixels := x.pixels.filter (fun i => i != id) }) s
  match (portL p s).swapWait with
  | some copy =>
    if (portL p s).pixels.isEmpty then pushCfg' (.swap p copy) (modPortL p (fun x => { x with swapWait := none }) s)
    else s
  | none => s

/-- The pixels of buffer b of port p whose writes the P-die has not echoed, in their order. -/
def comingPixels (p b : Nat) (s : State) : List (Nat × Nat) :=
  s.weft.cfg.filterMap (fun c => match c.item with
    | .pixel q b' i v => if q = p ∧ b' = b then some (i, v) else none
    | _ => none)

/-- The P-die has swapped port p and copies: the L-die's copy of the new back buffer follows, and the writes not yet echoed, which
wait for the end of the copy, stand over it (R289, R290). -/
def swapBegunL (p : Nat) (s : State) : State :=
  modPortL p (fun x =>
    let d := (portP p s).displayed
    let t := (comingPixels p (1 - d) s).foldl (fun t q => t.set q.1 q.2) (nth x.fb d)
    { x with displayed := d, fb := put x.fb (1 - d) t }) s

/-- A swap of port p is in force, and its copy done where it has one: MIRROR_STALE ends, and commands and engines that wait for it
go on (R290, R299, R304). -/
def swapDoneL (p : Nat) (s : State) : State :=
  let s := modPortL p (fun x => { x with displayed := (portP p s).displayed, swapPend := false, stale := false }) s
  let s := completeAll (.swap p) .done (fun _ => []) s
  (List.range 16).foldl (fun s e =>
    if (engine e s).swapOf == some p then modEngine e (fun x => { x with swapOf := none, state := .running }) s
    else s) s

/-- MATRIX_SWAP of port p (R304). -/
def matrixSwap (p : Nat) (w : Word) (s : State) : State × Ans :=
  if bit 28 (portL p s).cfg then (s, .fail .busy [])
  else if !linkLive s then (s, .fail .faultActive [])
  else (swapPort p (bit 0 w) s, .wait (.swap p) (bit 0 (portL p s).cfg) [])

/-- MATRIX_SWAP as the interpreter knows it. -/
def infoMatrixSwap : OpInfo :=
  { op := 0x0402, len := lenIs 1, snap := true, obj := fun r _ => obj r < 2, run := fun e s => matrixSwap (obj e.req) (arg e.req 0) s }

/-- MATRIX_SWAP (R304). -/
def execMatrixSwap (r : Req) (s : State) : Host.Outcome State Fault Refusal := .next (command infoMatrixSwap r s)

/-! ### Derating (R292, R293) -/

/-- A temperature register's °C + 64 as °C. -/
def celsius (t : Nat) : Int := (t : Int) - 64

/-- The target factor of a DERATE word at a temperature (R292). -/
def derateTarget (w : Word) (t : Int) : Nat :=
  let knee : Int := fld 7 0 w
  let stop : Int := fld 15 8 w
  let floor := fld 25 16 w
  if t ≤ knee then 1000
  else if stop ≤ t then floor
  else 1000 - ((1000 - floor : Nat) * (t - knee).toNat) / (stop - knee).toNat

/-- The temperature of a DERATE word: its internal sensor, or LIGHT_EXT_TEMP (R292). -/
def derateTemp (w : Word) (own : Nat) (s : State) : Nat := if bit 28 w then s.light.extTemp else own

/-- The internal temperature of lighting skein k: the highest map entry of its ACTIVE cells (R292). -/
def skeinTemp (k : Nat) (s : State) : Nat := ((cellsIn k .active s).map (fun n => (viewOf n s).temp)).foldl max 0

/-- One step of a factor toward its target (R293). -/
def factorStep (f target : Nat) : Nat := if target < f then max target (f - 10) else min target (f + 2)

/-- What follows a factor's step from old to new: the event and the fault as it leaves 1,000, the event as it
returns (R293). -/
def derateEvent (old new obj inst : Nat) (stat : State → Word) (s : State) : State :=
  if old = 1000 ∧ new < 1000 then reportL 0x0E4 inst (lightEvent s.now obj 4 1 (stat s) s)
  else if old < 1000 ∧ new = 1000 then lightEvent s.now obj 4 0 (stat s) s
  else s

/-- Derating of lighting skein k at a management-tick boundary. -/
def derateSkein (k : Nat) (s : State) : State :=
  let d := defL k s
  if !d.defined || d.owner != 1 then s
  else
    let x := lightSk k s
    let f := factorStep x.factor (derateTarget x.derate (celsius (derateTemp x.derate (skeinTemp k s) s)))
    if f = x.factor then s
    else
      let s := writeDuty k (modLightSk k (fun x => { x with factor := f }) s)
      derateEvent x.factor f k k (lightStat k) s

/-- Derating of port p at a management-tick boundary. -/
def deratePort (p : Nat) (s : State) : State :=
  let x := portL p s
  let f := factorStep x.factor (derateTarget x.derate (celsius (derateTemp x.derate x.temp s)))
  if f = x.factor then s
  else
    let s := pushCfg' (.portFactor p f) (modPortL p (fun x => { x with factor := f }) s)
    derateEvent x.factor f p (0x80 + p) (portStat p) s

/-- The derating of a management pass; in hold-over it stops (R293, R299). -/
def deratePass (s : State) : State :=
  if !linkLive s then s
  else
    let s := (List.range 48).foldl (fun s k => derateSkein k s) s
    deratePort 1 (deratePort 0 s)

/-- DERATE_GET as the interpreter knows it (R307). -/
def infoDerateGet : OpInfo :=
  { op := 0x0406, len := lenIs 0
    obj := fun r _ => loadOk r || obj r == 0x100 || obj r == 0x101
    run := fun e s =>
      let o := obj e.req
      let answer := fun (w : Word) (f own : Nat) =>
        Ans.done [word f, pack [(8, b2n s.light.extStale), (0, derateTemp w own s)]]
      if o < 192 then
        let k := o % 48
        if (defL k s).defined && (defL k s).owner == 1 then
          (s, answer (lightSk k s).derate (lightSk k s).factor (skeinTemp k s))
        else (s, .fail .badObject [])
      else (s, answer (portL (o % 2) s).derate (portL (o % 2) s).factor (portL (o % 2) s).temp) }

/-- DERATE_GET (R307). -/
def execDerateGet (r : Req) (s : State) : Host.Outcome State Fault Refusal := .next (command infoDerateGet r s)

/-- EXT_TEMP_STALE: LIGHT_EXT_TEMP has not been written for 200 management ticks (R292). -/
def execExtTempStale (s : State) : Host.Outcome State Fault Refusal :=
  .next (match s.light.extEnd with
    | none => s
    | some m =>
      if hostUp s then modLight (fun x => { x with extStale := true, extEnd := none }) (toL (m * mgmtTicks) s) else s)

/-! ### The LIGHT block (R309) -/

/-- The pixel of an offset in the frame memory window: port, buffer, and the index of its even pixel; none past a
row's 48 columns (R288). -/
def windowPixel (off : Nat) : Option (Nat × Nat × Nat) :=
  if 0x8000 ≤ off ∧ off < 0x9800 then
    let o := off - 0x8000
    some (o / 0xC00, o % 0xC00 / 0x600, o % 0x600 / 0x60 * 48 + o % 0x60 / 4 * 2)
  else none

/-- Port register o of port p. -/
def readPort (p o : Nat) (s : State) : Option Word :=
  let x := portL p s
  match o with
  | 0x00 => some x.cfg
  | 0x04 => some (portStat p s)
  | 0x08 => some x.derate
  | 0x0C => some (word x.rowF)
  | 0x10 => some (word x.colOpen)
  | 0x14 => some (word (x.colOpen >>> 32))
  | 0x18 => some (word x.colShort)
  | 0x1C => some (word (x.colShort >>> 32))
  | _ => if 0x40 ≤ o ∧ o < 0x70 then some (nth x.coli ((o - 0x40) / 4)) else none

/-- The LIGHT block at an offset. -/
def readLight (off : Nat) (s : State) : Option Word :=
  if off < 0x200 then readPort (off / 0x100) (off % 0x100) s
  else if off < 0x240 then some (nth s.light.regions ((off - 0x200) / 4))
  else if off = 0x300 then some (pack [(8, b2n s.light.extStale), (0, s.light.extTemp)])
  else if 0x1000 ≤ off ∧ off < 0x1300 then
    let k := (off - 0x1000) / 0x10
    match off % 0x10 with
    | 0 => some (lightSk k s).cfg
    | 4 => some (lightStat k s)
    | 8 => some (lightSk k s).derate
    | _ => none
  else if 0x2000 ≤ off ∧ off < 0x2100 then
    let e := (off - 0x2000) / 0x10
    match off % 0x10 with
    | 0 => some (whorlStat e s)
    | 4 => some (pack [(16, (engine e s).high), (0, (engine e s).low)])
    | _ => none
  else if 0x4000 ≤ off ∧ off < 0x5000 then some (word (s.light.prog.get ((off - 0x4000) / 4)))
  else match windowPixel off with
    | some (p, b, i) =>
      let t := nth (portL p s).fb b
      some (pack [(16, t.get (i + 1)), (0, t.get i)])
    | none => none

/-- A DERATE word after a write: one with KNEE not below END is ignored, FLOOR above 1,000 keeps its value (R292). -/
def derateWrite (old new : Word) : Word :=
  if fld 7 0 new < fld 15 8 new then writeFields [rw 28 28, rwIn 25 16 0 1000, rw 15 8, rw 7 0] old new else old

/-- The bits of LIGHT_PORTp_CFG that the P-die holds: EN and those of R284. -/
def portPBits : Word := frameBits ||| 1

/-- The word that a CONFIG item writes to offset o of the LIGHT block. -/
def CfgItem.lightAt (o : Nat) : CfgItem → Option Word
  | .light off w => if off = o then some w else none
  | _ => none

/-- The choice FS of port p that a CONFIG item writes. -/
def CfgItem.portFsOf (p : Nat) : CfgItem → Option Word
  | .portFs q b => if q = p then some (word (b2n b)) else none
  | _ => none

/-- LIGHT_PORTp_CFG once every item on its way is in force. -/
def portCfgComing (p : Nat) (s : State) : Word :=
  let cfg := (portL p s).cfg
  setFld 30 30 (comingWord (CfgItem.portFsOf p) (word (fld 30 30 cfg)) s).toNat
    ((cfg &&& ~~~ portPBits) ||| (comingWord (CfgItem.lightAt (0x100 * p)) cfg s &&& portPBits))

/-- LIGHT_PORTp_CFG written: DIS and SRC stay on the L-die; the scan fields and FS go to the P-die, FS into its
fail-safe memory (R284, R300). -/
def writePortCfg (p : Nat) (v : Word) (s : State) : State × Ans :=
  let old := portCfgComing p s
  let new := writeFields [rw 30 30, rw 29 29, rw 28 28, rwIn 27 26 0 1, rw 23 20, rwIn 19 16 0 8, rw 15 8, rw 0 0] old v
  let scan := old &&& portPBits != new &&& portPBits
  let fs := bit 30 old != bit 30 new
  if (scan || fs) && !linkLive s then (s, .fail .faultActive [])
  else
    let keep := fun (x : PortL) => { x with cfg := setFld 29 28 (fld 29 28 new) x.cfg }
    let s := modPortL p keep s
    let (ids, s) := if scan then
        let (id, s) := pushCfg (.light (0x100 * p) new) s
        ([Await.echo id], s)
      else ([], s)
    if fs then
      let (id, s) := pushCfg (.portFs p (bit 30 new)) s
      (modWeft (fun w => { w with nvPend := setPin w.nvPend (49 + p) true }) s, .waits (ids ++ [.echo id]) [])
    else (s, .waits ids [])

/-- A pixel word of the window written (R288, R289). -/
def writeWindow (p b i : Nat) (v : Word) (s : State) : State × Ans :=
  if !linkLive s then (s, .fail .faultActive [])
  else
    let s1 := writePixels p b [(i, fld 15 0 v), (i + 1, fld 31 16 v)] s
    (s1, .waits (pixelEchoes p s s1) [])

/-- The COLI words of port p once every write on its way is in force (R286). -/
def coliWanted (p : Nat) (s : State) : Vector Word 12 :=
  Vector.ofFn (fun (q : Fin 12) => comingWord (CfgItem.lightAt (0x100 * p + 0x40 + 4 * q.val)) (nth (portL p s).coli q.val) s)

/-- Port register o of port p written; a COLI word passes where the port's sum allows it, or where a block write has
been judged as a whole (R286). -/
def writePort (p o : Nat) (v : Word) (judged : Bool) (s : State) : State × Ans :=
  if o = 0x00 then writePortCfg p v s
  else if o = 0x08 then (modPortL p (fun x => { x with derate := derateWrite x.derate v }) s, .done [])
  else if o = 0x0C ∨ o = 0x10 ∨ o = 0x14 ∨ o = 0x18 ∨ o = 0x1C then writeP (.light (0x100 * p + o) v) s
  else if 0x40 ≤ o ∧ o < 0x70 then
    let old := coliWanted p s
    if !judged && max 2125 (coliSum old) < coliSum (put old ((o - 0x40) / 4) v) then (s, .fail .budgetExceeded [])
    else writeP (.light (0x100 * p + o) v) s
  else (s, .done [])

/-- WHORL_LOAD of some words from an address (R305). -/
def whorlLoad (a : Nat) (ws : List Word) (s : State) : State × Ans :=
  let stop := a + ws.length
  let busy := s.light.engines.toList.any (fun x =>
    (x.state == .running || x.state == .waiting) && x.low < stop && a ≤ x.high)
  if 1024 < stop then (s, .fail .badObject [])
  else if busy then (s, .fail .busy [])
  else
    let pairs := (List.range ws.length).map (fun i => (a + i, (wordAt ws i).toNat))
    (modLight (fun x => { x with prog := pairs.foldl (fun t q => t.set q.1 q.2) x.prog }) s, .done [])

/-- A write to the LIGHT block (R309). -/
def writeLight (off : Nat) (v : Word) (judged : Bool) (s : State) : State × Ans :=
  if off < 0x200 then writePort (off / 0x100) (off % 0x100) v judged s
  else if off < 0x240 then
    let f := writeFields [rw 31 31, rw 27 22, rw 21 16, rw 11 8, rw 3 0]
    (modLight (fun x => { x with regions := upd x.regions ((off - 0x200) / 4) (fun w => f w v) }) s, .done [])
  else if off = 0x300 then
    (modLight (fun x => { x with extTemp := fld 7 0 v, extStale := false, extEnd := some (mgmtStart s + 200) }) s, .done [])
  else if 0x1000 ≤ off ∧ off < 0x1300 then
    let k := (off - 0x1000) / 0x10
    match off % 0x10 with
    | 0 => (modLightSk k (fun x => { x with cfg := writeFields [w1c 8 8, rw 2 0] x.cfg v }) s, .done [])
    | 8 => (modLightSk k (fun x => { x with derate := derateWrite x.derate v }) s, .done [])
    | _ => (s, .done [])
  else if 0x4000 ≤ off ∧ off < 0x5000 then
    if groupOff 0x04 s then (s, .fail .abortedDisabled []) else whorlLoad ((off - 0x4000) / 4) [v] s
  else match windowPixel off with
    | some (p, b, i) => writeWindow p b i v s
    | none => (s, .done [])

/-- The W1C bits of the LIGHT block (R102). -/
def w1cLight (off : Nat) : Word :=
  if off < 0x200 then
    match off % 0x100 with
    | 0x0C => 0xFFFF
    | 0x10 | 0x18 => 0xFFFFFFFF
    | 0x14 | 0x1C => 0xFFFF
    | _ => 0
  else if 0x1000 ≤ off ∧ off < 0x1300 ∧ off % 0x10 = 0 then 0x100
  else 0

/-- A block write to COLI words of a port keeps its sum, judged as a whole (R286). -/
def coliBlockOk (off : Nat) (ws : List Word) (s : State) : Bool :=
  (List.range 2).all (fun p =>
    let base := 0x100 * p + 0x40
    let old := coliWanted p s
    let new := (List.range ws.length).foldl (fun v i =>
      let o := off + 4 * i
      if base ≤ o ∧ o < base + 0x30 then put v ((o - base) / 4) (wordAt ws i) else v) old
    new == old || coliSum new ≤ max 2125 (coliSum old))

/-! ### Disabling (R301) -/

/-- Every engine stops without a reason, and every claim is released. -/
def stopEngines (s : State) : State :=
  let s := (List.range 16).foldl (fun s e =>
    completeAll (.whorl e) .done (fun _ => [])
      (modEngine e (fun x => if x.state == .faulted then x else { x with state := .idle, swapOf := none }) s)) s
  modLight (fun l => { l with
    ports := l.ports.map (fun x => { x with claim := none })
    skeins := l.skeins.map (fun x => { x with claim := none }) }) s

/-- The ports go to their disable states (R301). -/
def disablePorts (s : State) : State :=
  (List.range 2).foldl (fun s p => pushCfg' (.portDis p (bit 29 (portL p s).cfg)) s) s

/-- Disabling group 0x04 (R301). -/
def disableLight (s : State) : State :=
  let s := stopEngines s
  let s := (List.range 48).foldl (fun s k =>
    let s := modLightSk k (fun x => { x with fade := none }) s
    if !((defL k s).defined && (defL k s).owner == 1) then s
    else if linkLive s then disableSkein k s
    else modSkL k (fun x => { x with disablePending := true }) s) s
  disablePorts s

/-! ### Events of the P-die -/

/-- A port's event from the P-die (R290, R291, R308). -/
def takeLightEvent (p kind idx tick : Nat) (s : State) : State :=
  match kind with
  | 1 =>
    let s := modPortL p (fun x => { x with rowF := x.rowF ||| 1 <<< idx }) s
    lightEvent tick p 5 idx (portStat p s) s
  | 2 =>
    let s := modPortL p (fun x => { x with colOpen := x.colOpen ||| 1 <<< idx }) s
    lightEvent tick p 6 idx (portStat p s) s
  | 3 =>
    let s := modPortL p (fun x => { x with colShort := x.colShort ||| 1 <<< idx }) s
    lightEvent tick p 6 (idx + 128) (portStat p s) s
  | 4 =>
    let s := modPortL p (fun x => { x with lsyncLost := true }) s
    lightEvent tick p 7 0 (portStat p s) s
  | 5 => swapDoneL p s
  | 6 => swapBegunL p s
  | _ => s

/-- What the echo of a port item changes on the L-die: the register copies (R103, R289). -/
def portEchoed (off : Nat) (v : Word) (s : State) : State :=
  let p := off / 0x100
  let o := off % 0x100
  if o = 0 then modPortL p (fun x => { x with cfg := (x.cfg &&& ~~~ portPBits) ||| (v &&& portPBits) }) s
  else if o = 0x0C then modPortL p (fun x => { x with rowF := clearBits 16 x.rowF v.toNat }) s
  else if o = 0x10 then modPortL p (fun x => { x with colOpen := clearBits 48 x.colOpen v.toNat }) s
  else if o = 0x14 then modPortL p (fun x => { x with colOpen := clearBits 48 x.colOpen (v.toNat <<< 32) }) s
  else if o = 0x18 then modPortL p (fun x => { x with colShort := clearBits 48 x.colShort v.toNat }) s
  else if o = 0x1C then modPortL p (fun x => { x with colShort := clearBits 48 x.colShort (v.toNat <<< 32) }) s
  else modPortL p (fun x => { x with coli := put x.coli ((o - 0x40) / 4) v }) s

end Sys2Proof.Machine
end

