-- ==== Sys2Proof/Machine/Whorl.lean ====
section
/-! DEFINITION. The Whorl engines: their instructions (R294 to R298), and the opcodes that load, start and stop them
(R305, R306). -/

namespace Sys2Proof.Machine

/-! ### The engines -/

/-- The claims of engine e released. -/
def releaseClaims (e : Nat) (s : State) : State :=
  let drop := fun (c : Option Nat) => if c == some e then none else c
  modLight (fun l => { l with
    ports := l.ports.map (fun x => { x with claim := drop x.claim })
    skeins := l.skeins.map (fun x => { x with claim := drop x.claim }) }) s

/-- Engine e stops with a reason of R298. -/
def stopWith (e reason : Nat) (s : State) : State :=
  let s := modEngine e (fun x => { x with state := .faulted, reason := reason, swapOf := none }) s
  let s := releaseClaims e s
  reportL 0x0E5 e (lightEvent s.now e 2 reason (whorlStat e s) s)

/-- The instruction word that engine e fetches next. -/
def fetched (e : Nat) (s : State) : Word := word (s.light.prog.get (engine e s).pc)
/-- OP. -/
def wOp (w : Word) : Nat := fld 31 27 w
/-- TGT. -/
def wTgt (w : Word) : Nat := fld 26 20 w
/-- LVr of an operand. -/
def lvOf (e : Nat) (w : Word) (s : State) : Nat := nth (engine e s).lv (fld 18 16 w)

/-- An instruction executes: it is counted, the PC advances, and a WHORL_RUN that waited for the first one completes
(R295, R306, R310). -/
def begins (e : Nat) (s : State) : State :=
  let s := modEngine e (fun x => { x with pc := (x.pc + 1) % 1024, last := some s.now, run := x.run + 1 }) s
  completeAll (.whorl e) .done (fun _ => []) (bump (ctr 0x07 (0x100 + 2 * e)) s)

/-- After an instruction that is no wait: the 256th in a row stops the engine (R295). -/
def runaway (e : Nat) (s : State) : State :=
  if (engine e s).state == .running && 256 ≤ (engine e s).run then stopWith e 5 s else s

/-- The tick at which engine e executes its next instruction, t or the first one allowed: at most one in 16 ticks
(R295). -/
def instrTick (t e : Nat) (s : State) : Nat :=
  match (engine e s).last with
  | some l => max t (l + 16)
  | none => t

/-- TGT is one that R296's table gives the instruction: 0 for those that name no target; SET, SETR, FADE and SHIFT check their own,
and OP 0x0F to 0x1F have none. -/
def tgtOk (w : Word) : Bool := wTgt w == 0 || [0x01, 0x02, 0x03, 0x0C].contains (wOp w) || 0x0F ≤ wOp w

/-- Engine e executes one instruction at tick t. The row of an instruction acts where the engine runs and the word at
its PC has that OP; a PC outside the range stops it with RANGE (R294). While the Weft link is not LIVE the engines
stand still (R242), and in SLEEP they are paused (R570). -/
def whorlExec (op : Nat → Bool) (act : Nat → Word → State → State) (t e : Nat) (s : State) : State :=
  let x := engine e s
  if 16 ≤ e || x.state != .running || !linkLive s || !hostUp s || s.clk.power = 2 then s
  else if x.pc < x.low || x.high < x.pc then
    completeAll (.whorl e) .done (fun _ => []) (stopWith e 4 (toL (instrTick t e s) s))
  else
    let w := fetched e s
    if !op (wOp w) then s
    else
      let s := begins e (toL (instrTick t e s) s)
      runaway e (if tgtOk w then act e w s else stopWith e 2 s)

/-! ### Targets (R296, R297) -/

/-- What becomes of a write: the reason that stops the engine, or none. The engine claims an unclaimed target. -/
def claimCheck (e : Nat) (src : Bool) (c : Option Nat) : Option Nat :=
  if !src then some 2
  else match c with
    | some o => if o = e then none else some 3
    | none => none

/-- Engine e writes lighting skein k by f, or stops; a static skein is no target (R278). -/
def onSkein (e k : Nat) (f : State → State) (s : State) : State :=
  let lit := (defL k s).defined && (defL k s).owner == 1 && !(defL k s).static && bit 1 (lightSk k s).cfg
  match claimCheck e lit (lightSk k s).claim with
  | some r => stopWith e r s
  | none => f (modLightSk k (fun x => { x with claim := some e }) s)

/-- Engine e writes or swaps port p by f, or stops. -/
def onPort (e p : Nat) (f : State → State) (s : State) : State :=
  match claimCheck e (bit 28 (portL p s).cfg) (portL p s).claim with
  | some r => stopWith e r s
  | none => f (modPortL p (fun x => { x with claim := some e }) s)

/-- A region: its port, first and last column, first and last row. -/
structure Region where
  port : Nat
  col0 : Nat
  col1 : Nat
  row0 : Nat
  row1 : Nat
  deriving DecidableEq, Repr, Inhabited

/-- LIGHT_REGIONr. -/
def regionOf (r : Nat) (s : State) : Region :=
  let w := nth s.light.regions r
  { port := fld 31 31 w, col0 := fld 21 16 w, col1 := fld 27 22 w, row0 := fld 3 0 w, row1 := fld 11 8 w }

/-- The region lies inside the port's columns and rows (R296). -/
def regionOk (g : Region) (s : State) : Bool := g.col1 ≤ 47 && g.row1 ≤ fld 23 20 (portL g.port s).cfg

/-- The pixels of a region, as (row, column). -/
def regionPixels (g : Region) : List (Nat × Nat) :=
  ((List.range 16).filter (fun r => g.row0 ≤ r && r ≤ g.row1)).flatMap (fun r =>
    ((List.range 48).filter (fun c => g.col0 ≤ c && c ≤ g.col1)).map (fun c => (r, c)))

/-- Engine e writes region r by f, or stops (R296, R297). -/
def onRegion (e r : Nat) (f : Region → State → State) (s : State) : State :=
  let g := regionOf r s
  if !regionOk g s then stopWith e 2 s else onPort e g.port (f g) s

/-- A level that fails the budget check is not applied, and the engine goes on (R281). -/
def overBudget (e k : Nat) (s : State) : State :=
  let s := modLightSk k (fun x => { x with cfg := x.cfg ||| 0x100 }) s
  if (engine e s).budget then s
  else reportL 0x0E0 k (modEngine e (fun x => { x with budget := true }) s)

/-- A level that ends a fade at once: a DIM_SET that waited for the first changed DUTY of the fade waits for this one to be in force,
and completes where no DUTY changes (R302). -/
def cutFade (k l : Nat) (s : State) : State := completeAll (.dim k) .done (fun _ => []) (dimStarted k (setLevelNow k l s))

/-- Engine e moves skein k to a level, at once or over d × 0.1 ms (R280, R281). -/
def whorlLevel (e k l d : Nat) (s : State) : State :=
  if (budgetCheck k (levelSp k l s) s).isSome then overBudget e k s
  else if d = 0 then cutFade k l s
  else goLevel k l d s

/-- SET and SETR of a level. -/
def setTarget (e tgt l : Nat) (s : State) : State :=
  if tgt < 0x30 then onSkein e tgt (whorlLevel e tgt l 0) s
  else if 0x40 ≤ tgt ∧ tgt < 0x50 then
    onRegion e (tgt - 0x40) (fun g s =>
      writePixels g.port (backOf g.port s) ((regionPixels g).map (fun q => (q.1 * 48 + q.2, l))) s) s
  else stopWith e 2 s

/-! ### The instructions (R296) -/

/-- WHORL_END (R296): the engine goes IDLE and releases its claims; LIGHT_STATUS says so (R308). -/
def execWhorlEnd (t e : Nat) (s : State) : Host.Outcome State Fault Refusal :=
  .next (whorlExec (· == 0x00) (fun e _ s =>
    let s := releaseClaims e (modEngine e (fun x => { x with state := .idle }) s)
    lightEvent s.now e 1 0 (whorlStat e s) s) t e s)

/-- WHORL_SET (R296). -/
def execWhorlSet (t e : Nat) (s : State) : Host.Outcome State Fault Refusal :=
  .next (whorlExec (· == 0x01) (fun e w s => setTarget e (wTgt w) (fld 15 0 w) s) t e s)

/-- WHORL_SETR (R296). -/
def execWhorlSetr (t e : Nat) (s : State) : Host.Outcome State Fault Refusal :=
  .next (whorlExec (· == 0x02) (fun e w s => setTarget e (wTgt w) (lvOf e w s) s) t e s)

/-- WHORL_FADE (R280, R296): a skein fades to LVr; any other target stops the engine. -/
def execWhorlFade (t e : Nat) (s : State) : Host.Outcome State Fault Refusal :=
  .next (whorlExec (· == 0x03) (fun e w s =>
    let k := wTgt w
    if k < 0x30 then onSkein e k (whorlLevel e k (lvOf e w s) (fld 15 0 w)) s else stopWith e 2 s) t e s)

/-- LVr of engine e written. -/
def setLv (e : Nat) (w : Word) (v : Nat) (s : State) : State :=
  modEngine e (fun x => { x with lv := put x.lv (fld 18 16 w) v }) s

/-- WHORL_LDI (R296). -/
def execWhorlLdi (t e : Nat) (s : State) : Host.Outcome State Fault Refusal :=
  .next (whorlExec (· == 0x04) (fun e w s => setLv e w (fld 15 0 w) s) t e s)

/-- LVr plus a signed value, held to 0–65,535 (R296). -/
def addSat (v : Nat) (w : Word) : Nat := min 65535 ((v : Int) + signed 16 (fld 15 0 w)).toNat

/-- WHORL_ADDI (R296). -/
def execWhorlAddi (t e : Nat) (s : State) : Host.Outcome State Fault Refusal :=
  .next (whorlExec (· == 0x05) (fun e w s => setLv e w (addSat (lvOf e w s) w) s) t e s)

/-- Engine e waits for its schedule time T; a T already passed sets LATE and the engine goes on (R295, R310). -/
def waitFor (e T : Nat) (s : State) : State :=
  let s := modEngine e (fun x => { x with time := T, run := 0 }) s
  if T < s.now then bump (ctr 0x07 (0x101 + 2 * e)) (modEngine e (fun x => { x with late := true }) s)
  else if T = s.now then s
  else modEngine e (fun x => { x with state := .waiting }) s

/-- WHORL_WAIT (R295). -/
def execWhorlWait (t e : Nat) (s : State) : Host.Outcome State Fault Refusal :=
  .next (whorlExec (· == 0x06) (fun e w s => waitFor e ((engine e s).time + fld 19 0 w * 2000) s) t e s)

/-- WHORL_WAITR (R295). -/
def execWhorlWaitr (t e : Nat) (s : State) : Host.Outcome State Fault Refusal :=
  .next (whorlExec (· == 0x07) (fun e w s => waitFor e ((engine e s).time + lvOf e w s * 2000) s) t e s)

/-- The T of SYNC p; for p = 0, which R296 does not allow, the distance is a free value (log entry 40). -/
def syncTime (p : Nat) (s : State) : Nat × State :=
  if p = 0 then
    let (w, s) := freeWord s
    (s.now + w.toNat, s)
  else (ceilDiv s.now (p * 2000) * (p * 2000), s)

/-- WHORL_SYNC (R295): T becomes the first multiple at or after the present tick; SYNC sets no LATE. -/
def execWhorlSync (t e : Nat) (s : State) : Host.Outcome State Fault Refusal :=
  .next (whorlExec (· == 0x08) (fun e w s =>
    let (T, s) := syncTime (fld 19 0 w) s
    waitFor e T s) t e s)

/-- WHORL_WAIT_EXPIRY: device time reaches T and waiting engine e continues (R295). -/
def execWhorlWaitExpiry (e : Nat) (s : State) : Host.Outcome State Fault Refusal :=
  let x := engine e s
  .next (if 16 ≤ e || x.state != .waiting || x.swapOf.isSome || !linkLive s || !hostUp s || s.clk.power = 2 then s
    else modEngine e (fun x => { x with state := .running }) (toL x.time s))

/-- WHORL_LOOP (R296). -/
def execWhorlLoop (t e : Nat) (s : State) : Host.Outcome State Fault Refusal :=
  .next (whorlExec (· == 0x09) (fun e w s =>
    let v := lvOf e w s - 1
    let s := setLv e w v s
    if v = 0 then s else modEngine e (fun x => { x with pc := fld 9 0 w }) s) t e s)

/-- WHORL_JMP (R296). -/
def execWhorlJmp (t e : Nat) (s : State) : Host.Outcome State Fault Refusal :=
  .next (whorlExec (· == 0x0A) (fun e w s => modEngine e (fun x => { x with pc := fld 9 0 w }) s) t e s)

/-- WHORL_PIX (R296): a column above 47 is no target. -/
def execWhorlPix (t e : Nat) (s : State) : Host.Outcome State Fault Refusal :=
  .next (whorlExec (· == 0x0B) (fun e w s =>
    let p := fld 10 10 w
    let col := fld 5 0 w
    if 47 < col then stopWith e 2 s
    else onPort e p (fun s => writePixel p (backOf p s) (fld 9 6 w * 48 + col) (lvOf e w s) s) s) t e s)

/-- Where a pixel of a shifted region takes its value from; none where the vacated line is filled (R296). -/
def shiftFrom (g : Region) (dir r c : Nat) : Option (Nat × Nat) :=
  match dir with
  | 0 => if c = g.col0 then none else some (r, c - 1)
  | 1 => if c = g.col1 then none else some (r, c + 1)
  | 2 => if r = g.row0 then none else some (r - 1, c)
  | _ => if r = g.row1 then none else some (r + 1, c)

/-- A region's back-buffer content moved one pixel, the vacated line filled with v (R296). -/
def shiftRegion (dir v : Nat) (g : Region) (s : State) : State :=
  let b := backOf g.port s
  let old := nth (portL g.port s).fb b
  let new := fun (q : Nat × Nat) => match shiftFrom g dir q.1 q.2 with
    | some (r, c) => old.get (r * 48 + c)
    | none => v
  writePixels g.port b ((regionPixels g).map (fun q => (q.1 * 48 + q.2, new q))) s

/-- WHORL_SHIFT (R296). -/
def execWhorlShift (t e : Nat) (s : State) : Host.Outcome State Fault Refusal :=
  .next (whorlExec (· == 0x0C) (fun e w s =>
    let r := wTgt w
    if 0x40 ≤ r ∧ r < 0x50 then onRegion e (r - 0x40) (shiftRegion (fld 1 0 w) (lvOf e w s)) s
    else stopWith e 2 s) t e s)

/-- WHORL_SWAP (R296): the engine waits until the swap is in force. -/
def execWhorlSwap (t e : Nat) (s : State) : Host.Outcome State Fault Refusal :=
  .next (whorlExec (· == 0x0D) (fun e w s =>
    let p := fld 10 10 w
    onPort e p (fun s =>
      swapPort p (bit 0 w) (modEngine e (fun x => { x with state := .waiting, swapOf := some p, run := 0 }) s)) s) t e s)

/-- WHORL_EVT (R296, R308). -/
def execWhorlEvt (t e : Nat) (s : State) : Host.Outcome State Fault Refusal :=
  .next (whorlExec (· == 0x0E) (fun e w s => lightEvent s.now e 3 (fld 7 0 w) (whorlStat e s) s) t e s)

/-- WHORL_BAD_INSTR: OP 0x0F to 0x1F stops the engine (R296, R298). -/
def execWhorlBadInstr (t e : Nat) (s : State) : Host.Outcome State Fault Refusal :=
  .next (whorlExec (fun o => 0x0F ≤ o) (fun e _ s => stopWith e 1 s) t e s)

/-! ### The opcodes (R305, R306) -/

/-- WHORL_LOAD as the interpreter knows it. -/
def infoWhorlLoad : OpInfo :=
  { op := 0x0403, len := lenBetween 1 256, obj := fun r _ => obj r < 1024
    run := fun e s => whorlLoad (obj e.req) e.req.payload s }

/-- WHORL_LOAD (R305). -/
def execWhorlLoad (r : Req) (s : State) : Host.Outcome State Fault Refusal := .next (command infoWhorlLoad r s)

/-- WHORL_RUN of engine e (R306). -/
def whorlRun (e : Nat) (w0 w1 : Word) (s : State) : State × Ans :=
  let start := fld 9 0 w0
  let low := fld 9 0 w1
  let high := fld 25 16 w1
  if start < low ∨ high < start then (s, .fail .badObject [])
  else if (engine e s).state == .running || (engine e s).state == .waiting then (s, .fail .busy [])
  else
    let x : Engine := { state := .running, pc := start, low := low, high := high, time := s.now }
    (modEngine e (fun _ => x) s, .wait (.whorl e) false [])

/-- WHORL_RUN as the interpreter knows it. It may carry SNAPALIGN, as LOAD_CLEAR_LATCH may: both lead to a change of an output; so do
not, in the model's reading of R98, WHORL_STOP, FIO_CFG, MATRIX_WRITE and SKEIN_DEFINE (DESIGN CHOICE, log entry 83). -/
def infoWhorlRun : OpInfo :=
  { op := 0x0404, len := lenIs 2, snap := true, obj := fun r _ => obj r < 16, unit := fun _ => some 16
    run := fun e s => whorlRun (obj e.req) (arg e.req 0) (arg e.req 1) s }

/-- WHORL_RUN (R306). -/
def execWhorlRun (r : Req) (s : State) : Host.Outcome State Fault Refusal := .next (command infoWhorlRun r s)

/-- WHORL_STOP of engine e (R306): it goes IDLE and releases its claims. -/
def whorlStop (e : Nat) (s : State) : State :=
  releaseClaims e (completeAll (.whorl e) .done (fun _ => [])
    (modEngine e (fun x => { x with state := .idle, swapOf := none }) s))

/-- WHORL_STOP as the interpreter knows it. -/
def infoWhorlStop : OpInfo :=
  { op := 0x0405, len := lenIs 0, obj := fun r _ => obj r < 16, unit := fun _ => some 16
    run := fun e s => (whorlStop (obj e.req) s, .done []) }

/-- WHORL_STOP (R306). -/
def execWhorlStop (r : Req) (s : State) : Host.Outcome State Fault Refusal := .next (command infoWhorlStop r s)

end Sys2Proof.Machine
end

