-- ==== Sys2Proof/Machine/Fio.lean ====
section
/-! DEFINITION. The field pins: configuration and debounce (R311 to R319), counter filters (R320 to R323), outputs (R324
to R327), polling (R328, R329), the opcodes of R333 to R336 and the FIO block (R337). -/

namespace Sys2Proof.Machine

/-! ### Fields of FIO_PINi_CFG (R337) -/

/-- MODE. -/
def pinMode (w : Word) : Nat := fld 1 0 w
/-- TSET. -/
def pinTset (w : Word) : Nat := fld 5 4 w
/-- WET. -/
def pinWet (w : Word) : Nat := fld 7 6 w
/-- The pin has 10 mA continuous wetting (R314). -/
def pinWet10 (w : Word) : Bool := pinMode w == 1 && pinTset w ≤ 1 && pinWet w == 1
/-- The pin is observed by polls (R328). -/
def pinPolled (w : Word) : Bool := pinMode w == 1 && bit 12 w

/-- The three words of a pin set, laid out as FIO_OUT0 to FIO_OUT2. -/
def pinWords (set : Nat) : List Word := [word set, word (set >>> 32), word (set >>> 64 % 65536)]
/-- The pin set of three words. -/
def wordsPins (a b c : Word) : Nat := a.toNat + b.toNat <<< 32 + c.toNat <<< 64
/-- The pins that p picks, as a pin set. -/
def pinsWhere (p : Nat → Bool) : Nat := bitsOf ((List.range 80).filter p)

/-! ### The P-die -/

/-- The field pins of the P-die changed by f. -/
def modFioP (f : FioP → FioP) (s : State) : State := modP (fun p => { p with fio := f p.fio }) s
/-- Pin i of the P-die. -/
def pinP (i : Nat) (s : State) : PinP := nth s.pdie.fio.pins i
/-- Pin i of the P-die changed by f. -/
def modPinP (i : Nat) (f : PinP → PinP) (s : State) : State := modFioP (fun x => { x with pins := upd x.pins i f }) s
/-- Counter channel c of the P-die. -/
def countP (c : Nat) (s : State) : CountP := nth s.pdie.fio.counts c
/-- Counter channel c of the P-die changed by f. -/
def modCountP (c : Nat) (f : CountP → CountP) (s : State) : State :=
  modFioP (fun x => { x with counts := upd x.counts c f }) s

/-- The P-die samples its pins continuously: power is on, and no low-power state (R316, R328). -/
def sampling (s : State) : Bool := s.pdie.power == 0 && s.pdie.sup != .reset && s.pdie.sup != .asleep

/-- The output's switch conducts (R324, R325). -/
def outputOn (x : PinP) : Bool := pinMode x.cfg == 2 && x.out && !x.latch

/-- What a pin reads at v mV, or for HALL v units of 0.1 mA, where it read old before: at most the first threshold of its TSET 0,
at least the second 1, between them no change; INV inverts it (R312). -/
def pinReads (cfg : Word) (v : Nat) (old : Bool) : Bool :=
  let th := [(3000, 4500), (6000, 10000), (1500, 3500), (90, 110)].getD (pinTset cfg) (0, 0)
  bit 9 cfg != (if v ≤ th.1 then false else if th.2 ≤ v then true else old != bit 9 cfg)

/-- The current that an input's sink draws, µA; none where a HALL sensor sets it, up to 25 mA (R312, R313). In the low-power states
no sink is on but during a poll (R328). -/
def sinkCurrent (x : PinP) (s : State) : Option Nat :=
  if pinMode x.cfg != 1 || !sampling s then some 0
  else match pinTset x.cfg with
    | 2 => some 50
    | 3 => none
    | _ => some (if pinWet x.cfg = 1 ∨ (pinWet x.cfg = 2 ∧ x.boostEnd.isSome) then 10000 else 2000)

/-- The sink of a polled pin during a poll, µA (R328). -/
def pollCurrent (x : PinP) : Nat := if !pinPolled x.cfg then 0 else if pinTset x.cfg = 2 then 50 else 2000

/-- A word of FIO_PINi_CFG arrives: a pin that leaves OUTPUT turns off, a pin that enters INPUT starts with debounced
state 0, and a new TSET, INV or DEB_T restarts the debounce (R319, R333). -/
def takePinCfg (i : Nat) (w : Word) (s : State) : State :=
  modPinP i (fun x =>
    let enters := pinMode w == 1 && pinMode x.cfg != 1
    let leaves := pinMode x.cfg == 2 && pinMode w != 2
    { x with cfg := w, deb := x.deb && !enters, out := x.out && !leaves, latch := x.latch && !leaves
             boostEnd := if pinMode w = 1 then x.boostEnd else none
             since := if enters || x.cfg &&& 0xFFFF0230 != w &&& 0xFFFF0230 then s.pNow else x.since
             limited := x.limited && pinMode w == 1 && pinTset w == 3, polls := 0 }) s

/-- A word of FIO_CNTc_CFG arrives: a change of MODE sets COUNT to 0 (R320). -/
def takeCountCfg (c : Nat) (w : Word) (s : State) : State :=
  modCountP c (fun x => { x with cfg := w, count := if fld 1 0 w = fld 1 0 x.cfg then x.count else 0 }) s

/-- A bit of FIO_CNT_STAT set on the P-die, and its event (R318, R322, R323). The bits are kept beside the channels:
kind 0 MATCH, 1 QERR. -/
def countTrig (kind c : Nat) (s : State) : State :=
  let s := modFioP (fun x =>
    if kind = 0 then { x with isMatch := x.isMatch ||| 1 <<< c } else { x with qerr := x.qerr ||| 1 <<< c }) s
  pushUp (.fioTrig kind c s.pNow) s

/-- A counted edge of channel c moves COUNT by d and records LAST and PERIOD; a compare match sets MATCH (R321,
R323). -/
def countEdge (c : Nat) (d : Int) (s : State) : State :=
  let t := s.pNow
  let s := modCountP c (fun x =>
    { x with count := unsigned 32 ((x.count : Int) + d), last := t % 2 ^ 32, edge := some t
             period := match x.edge with
               | some e => min 0xFFFFFFFF (t - e)
               | none => x.period }) s
  let x := countP c s
  if bit 4 x.cfg && x.count == x.cmp then countTrig 0 c s else s

/-- The MODE of channel c on the P-die. -/
def countMode (c : Nat) (s : State) : Nat := fld 1 0 (countP c s).cfg

/-- The QUAD channel c after its inputs A and B took new states: both at once is an error; else one step, + where A
leads (R320, R322). -/
def quadEdge (c : Nat) (aMoved bMoved : Bool) (s : State) : State :=
  let a := (pinP (72 + c) s).deb
  let b := (pinP (73 + c) s).deb
  if aMoved && bMoved then countTrig 1 c s
  else if aMoved then countEdge c (if a != b then 1 else -1) s
  else if bMoved then countEdge c (if a == b then 1 else -1) s
  else s

/-- The counter channels after the pins in moved took new debounced states (R320). -/
def countMoved (moved : List Nat) (s : State) : State :=
  (List.range 8).foldl (fun s c =>
    let here := fun j => moved.contains (72 + j) && pinMode (pinP (72 + j) s).cfg == 1
    match countMode c s with
    | 1 =>
      let up := (pinP (72 + c) s).deb
      if here c && fld (if up then 2 else 3) (if up then 2 else 3) (countP c s).cfg = 1 then countEdge c 1 s else s
    | 2 => quadEdge c (here c) (here (c + 1)) s
    | _ => s) s

/-- The debounced state of pin i takes its other value at the present tick: counted, a wetting boost starts (R313), a
wake pin raises its request once the P-die has been told of an entry into a low-power state (R571), and the L-die hears of it
(R317). -/
def debounced (i : Nat) (s : State) : State :=
  let x := pinP i s
  let v := !x.deb
  let boost := v && pinMode x.cfg == 1 && pinTset x.cfg ≤ 1 && pinWet x.cfg == 2
  let s := modPinP i (fun x =>
    { x with deb := v, since := s.pNow, boostEnd := if boost then some (s.pNow + 4000000) else x.boostEnd }) s
  let s := if bit 13 x.cfg && s.pdie.target != 0 then modP (fun p => { p with wakeReq := p.wakeReq ||| 1 <<< 10 }) s else s
  pushUp (.fio i v s.pNow) (bump (ctr 0x08 (0x100 + i)) s)

/-- The debounce of every pin restarts from its present state, as sampling begins again on return to RUN (R329). -/
def restartDebounce (s : State) : State :=
  modFioP (fun f => { f with pins := f.pins.map (fun x => { x with since := s.pNow }) }) s

/-- The return from SLEEP to RUN: the debounce restarts, and the change set of the polls goes up in an EVENT frame (R329). -/
def resumePins (s : State) : State :=
  let s := restartDebounce s
  let set := s.pdie.fio.changed
  if set = 0 then s
  else pushUp (.fioPolls set (pinsWhere (fun i => (pinP i s).deb)) s.pNow) (modFioP (fun x => { x with changed := 0 }) s)

/-- The first sample at or after tick t: one at each multiple of 200 ticks (R316). -/
def sampleTick (t : Nat) (s : State) : Nat := ceilDiv (max t s.pNow) 200 * 200

/-- Pin i can take its other state at the present sample: DEB_T samples have been taken since its last change or restart (R316,
R319). -/
def debounceOver (i : Nat) (s : State) : Bool :=
  let x := pinP i s
  pinMode x.cfg != 0 && decide ((x.since / 200 + fld 31 16 x.cfg) * 200 ≤ s.pNow)

/-- DEBOUNCED_CHANGE: at one sample, DEB_T agreeing samples of some pins give them their other debounced state (R316,
R317, R320 to R323). -/
def execDebouncedChange (t : Nat) (pins : List Nat) (s : State) : Host.Outcome State Fault Refusal :=
  .next (if !sampling s then s
    else
      let s := toP (sampleTick t s) s
      let moved := (List.range 80).filter (fun i => pins.contains i && debounceOver i s)
      countMoved moved (moved.foldl (fun s i => debounced i s) s))

/-- WETTING_BOOST_END: 20 ms after the change the wetting current of pin i returns to 2 mA (R313). -/
def execWettingBoostEnd (i : Nat) (s : State) : Host.Outcome State Fault Refusal :=
  .next (match (pinP i s).boostEnd with
    | none => s
    | some e => modPinP i (fun x => { x with boostEnd := none }) (toP e s))

/-- FAULT is set: where it was clear, it is reported (R318, R325). -/
def setFioFault (s : State) : State :=
  if s.pdie.fio.fault then s
  else pushUp (.fioTrig 2 0 s.pNow) (reportP 0x100 0xFF 0 (modFioP (fun x => { x with fault := true }) s))

/-- A commit that turns output i on is on its way to the P-die (R327). -/
def outputComesOn (i : Nat) (s : State) : Bool :=
  s.weft.cfg.any (fun c => match c.item with
    | .fioCommit set => !c.applied && set.testBit i
    | _ => false)

/-- An output that is on, or that a FIO_WRITE is turning on, turns off and latches (R325, R327). -/
def latchOutput (i : Nat) (s : State) : State :=
  let x := pinP i s
  if pinMode x.cfg != 2 || x.latch || !(x.out || outputComesOn i s) then s
  else setFioFault (bump (ctr 0x08 0x200) (modPinP i (fun x => { x with latch := true }) s))

/-- OUTPUT_TRIP: output i has stood above its trip threshold for 5 µs (R325). -/
def execOutputTrip (t i : Nat) (s : State) : Host.Outcome State Fault Refusal := .next (latchOutput i (toP t s))

/-- OUTPUT_THERMAL: output i reaches its thermal shutdown (R325). -/
def execOutputThermal (t i : Nat) (s : State) : Host.Outcome State Fault Refusal :=
  .next (let s := toP t s
         latchOutput i s)

/-- HALL_OVERCURRENT: a HALL input has stood above 25 mA for 10 µs (R325). -/
def execHallOvercurrent (t i : Nat) (s : State) : Host.Outcome State Fault Refusal :=
  let x := pinP i s
  .next (if pinMode x.cfg != 1 || pinTset x.cfg != 3 || !sampling s then s
    else setFioFault (modPinP i (fun x => { x with limited := true }) (toP t s)))

/-- A poll of pin i finds the state v: POLL_N disagreeing polls change it (R329). -/
def pollPin (i : Nat) (v : Bool) (s : State) : State :=
  let x := pinP i s
  if !pinPolled x.cfg then s
  else if v == x.deb then modPinP i (fun x => { x with polls := 0 }) s
  else if x.polls + 1 < fld 25 24 s.pdie.fio.poll + 1 then modPinP i (fun x => { x with polls := x.polls + 1 }) s
  else
    let s := modPinP i (fun x => { x with deb := v, polls := 0 }) s
    let s := modFioP (fun y => { y with changed := setPin y.changed i true }) s
    if bit 13 x.cfg then modP (fun p => { p with wakeReq := p.wakeReq ||| 1 <<< 10 }) s else s

/-- POLL: in SLEEP and DEEP SLEEP every polled pin is sampled, POLL_ON after its sink has turned on; states is the set of pins that
read 1. In SLEEP the polls fall on device time, POLL_T apart; in DEEP SLEEP no device time runs (R328). -/
def execPoll (states : Nat) (s : State) : Host.Outcome State Fault Refusal :=
  .next (if s.pdie.power = 1 ∨ s.pdie.power = 2 then
      let due := s.pdie.fio.lastPoll + fld 9 0 s.pdie.fio.poll * 200000
      let s := if s.pdie.power = 1 then modFioP (fun x => { x with lastPoll := due }) (toP (due + fld 23 16 s.pdie.fio.poll * 200) s) else s
      (List.range 80).foldl (fun s i => pollPin i (states.testBit i) s) s
    else s)

/-- Outputs commanded together at the present tick: the pins in OUTPUT take their states (R335). -/
def takeOutputs (mask value : Nat) (s : State) : State :=
  (List.range 80).foldl (fun s i =>
    if mask.testBit i then modPinP i (fun x => { x with out := pinMode x.cfg == 2 && value.testBit i }) s else s) s

/-- An output word arrives (R335). -/
def takeFioWord (j : Nat) (v : Word) (s : State) : State := modFioP (fun x => { x with words := put x.words j v }) s

/-- The commit of the output words: every pin in OUTPUT takes its state at one tick (R335). -/
def takeFioCommit (s : State) : State :=
  takeOutputs (2 ^ 80 - 1) (wordsPins (nth s.pdie.fio.words 0) (nth s.pdie.fio.words 1) (nth s.pdie.fio.words 2)) s

/-- FAULT is cleared and every latched output re-armed (R326). -/
def clearFioFault (s : State) : State :=
  modFioP (fun x => { x with fault := false, pins := x.pins.map (fun p => { p with latch := false }) }) s

/-- A FIO register word arrives on the P-die, by its offset in the block. -/
def takeFio (off : Nat) (v : Word) (s : State) : State :=
  if off = 0x04 then clearFioFault s
  else if off = 0x08 then modFioP (fun x => { x with poll := v }) s
  else if off = 0x0C then modFioP (fun x =>
    { x with isMatch := x.isMatch - (x.isMatch &&& fld 7 0 v), qerr := x.qerr - (x.qerr &&& fld 15 8 v) }) s
  else if 0x1000 ≤ off ∧ off < 0x1140 then takePinCfg ((off - 0x1000) / 4) v s
  else if 0x2000 ≤ off ∧ off < 0x2100 then
    let c := (off - 0x2000) / 0x20
    if off % 0x20 = 0 then takeCountCfg c v s
    else modCountP c (fun x => { x with cmp := v.toNat }) s
  else s

/-- The values of channel c are taken and COUNT is cleared at one tick (R336). -/
def takeFioClear (c : Nat) (s : State) : State :=
  let x := countP c s
  pushUp (.fioCleared c x.count x.period x.last s.pNow) (modCountP c (fun x => { x with count := 0 }) s)

/-- The fail-safe state of the field outputs: off (R53, R331). -/
def fioFailSafe (s : State) : State :=
  modFioP (fun x => { x with pins := x.pins.map (fun p => { p with out := false }) }) s

/-! ### The L-die -/

/-- The field pins of the L-die changed by f. -/
def modFio (f : FioL → FioL) (s : State) : State := { s with fio := f s.fio }

/-- The word that an item carries for the FIO register at an offset. -/
def CfgItem.fioAt (off : Nat) : CfgItem → Option Word
  | .fio o v => if o = off then some v else none
  | _ => none

/-- Pin configuration i with the words on their way to the P-die (R314). -/
def pinWanted (i : Nat) (s : State) : Word := comingWord (CfgItem.fioAt (0x1000 + 4 * i)) (nth s.fio.pins i) s

/-- FIO_CHANGE raised with what has been gathered (R318). -/
def raiseFio (s : State) : State :=
  let g := s.fio.gather
  let last := pack [(18, b2n g.fault), (17, b2n g.lost), (16, b2n g.resync), (8, g.qerr), (0, g.isMatch)]
  let t := g.first.getD s.now
  postEventAt t 0xF06 (pinWords s.fio.ins ++ pinWords g.sel ++ pinWords g.multi ++ [last])
    (modFio (fun x => { x with gather := {}, raised := some s.now }) s)

/-- The event gap has passed (R318). -/
def fioQuiet (s : State) : Bool :=
  match s.fio.raised with
  | none => true
  | some r => r + fld 9 0 s.fio.ctl * 20000 ≤ s.now

/-- A trigger of tick t gathered by f (R318); with group 0x05 disabled it is dropped (R332). -/
def gatherFio (t : Nat) (f : FioGather → FioGather) (s : State) : State :=
  if groupOff 0x05 s then s
  else modFio (fun x => { x with gather := f { x.gather with first := some (min t (x.gather.first.getD t)) } }) s

/-- A trigger of tick t is gathered by f: raised at once after a quiet gap, else with the next event (R318). With group
0x05 disabled none is raised (R332). -/
def fioTrigger (t : Nat) (f : FioGather → FioGather) (s : State) : State :=
  if groupOff 0x05 s then s
  else
    let s := gatherFio t f s
    if fioQuiet s then raiseFio s else s

/-- EDGE_EVT of pin i selects its change to v. -/
def edgeSelected (i : Nat) (v : Bool) (s : State) : Bool :=
  let e := fld 11 10 (nth s.fio.pins i)
  if v then e % 2 = 1 else e / 2 = 1

/-- A change of pin i noted for the next FIO_CHANGE (R318). -/
def noteChange (i : Nat) (s : State) : State :=
  modFio (fun x =>
    let again := x.gather.once.testBit i
    { x with gather := { x.gather with once := setPin x.gather.once i true
                                       multi := if again then setPin x.gather.multi i true else x.gather.multi } }) s

/-- What a MATCH, QERR or FAULT bit gathers (R318). -/
def trigBit (kind c : Nat) (g : FioGather) : FioGather :=
  match kind with
  | 0 => { g with isMatch := g.isMatch ||| 1 <<< c }
  | 1 => { g with qerr := g.qerr ||| 1 <<< c }
  | _ => { g with fault := true }

/-- A field-pin event that waited on the P-die for the link: it joins the one FIO_CHANGE of the adoption (R331). -/
def gatherUp (b : UpBody) (s : State) : State :=
  match b with
  | .fio i v t =>
    let s := noteChange i s
    if edgeSelected i v s then gatherFio t (fun g => { g with sel := setPin g.sel i true }) s else s
  | .fioTrig kind c t => gatherFio t (trigBit kind c) s
  | .fioPolls set _ t => gatherFio t (fun g => { g with sel := g.sel ||| set }) s
  | _ => s

/-- A debounced change from the P-die: FIO_INn follows, and a selected edge is a trigger (R317, R318). During an entry into a
low-power state the change of a pin with WAKE set counts as a field-pin wake (R571). -/
def takeFioEvent (i : Nat) (v : Bool) (tick : Nat) (s : State) : State :=
  let s := if bit 13 (nth s.fio.pins i) then wakeHeard 10 s else s
  let s := noteChange i (modFio (fun x => { x with ins := setPin x.ins i v, updated := s.now }) s)
  if edgeSelected i v s then fioTrigger tick (fun g => { g with sel := setPin g.sel i true }) s else s

/-- The change set of the polls reaches the L-die after the return from SLEEP: FIO_INn follows, and the first FIO_CHANGE carries it with
RESYNC (R329). -/
def takePolls (set states tick : Nat) (s : State) : State :=
  let s := modFio (fun x => { x with ins := (x.ins - (x.ins &&& set)) ||| (states &&& set), updated := s.now }) s
  fioTrigger tick (fun g => { g with sel := g.sel ||| set, resync := true }) s

/-- A MATCH, QERR or FAULT bit from the P-die (R318). -/
def takeFioTrig (kind c tick : Nat) (s : State) : State :=
  fioTrigger tick (trigBit kind c) (match kind with
    | 0 => modFio (fun x => { x with isMatch := x.isMatch ||| 1 <<< c }) s
    | 1 => modFio (fun x => { x with qerr := x.qerr ||| 1 <<< c }) s
    | _ => modFio (fun x => { x with fault := true }) s)

/-- FIO_EVENT_GAP_END: EVT_GAP after the last event, what has been gathered is raised (R318). -/
def execFioEventGapEnd (s : State) : Host.Outcome State Fault Refusal :=
  .next (match s.fio.raised with
    | some r =>
      if s.fio.gather.first.isSome && hostUp s then raiseFio (toL (r + fld 9 0 s.fio.ctl * 20000) s) else s
    | none => s)

/-- The counter values of a FIO_COUNT_READ with CLEAR arrive (R336). -/
def takeFioCleared (c count period last tick : Nat) (s : State) : State :=
  let s := modFio (fun x => { x with counts := upd x.counts c (fun y => { y with count := 0 }) }) s
  completeAll (.fioCount c) .done (fun _ => [word count, word period, word last, word tick]) s

/-- What the echo of a FIO word changes on the L-die (R103). -/
def fioEchoed (off : Nat) (v : Word) (s : State) : State :=
  if off = 0x04 then modFio (fun x => { x with fault := false }) s
  else if off = 0x08 then modFio (fun x => { x with poll := v }) s
  else if off = 0x0C then modFio (fun x =>
    { x with isMatch := x.isMatch - (x.isMatch &&& fld 7 0 v), qerr := x.qerr - (x.qerr &&& fld 15 8 v) }) s
  else if 0x1000 ≤ off ∧ off < 0x1140 then
    let i := (off - 0x1000) / 4
    modFio (fun x =>
      let enters := pinMode v == 1 && pinMode (nth x.pins i) != 1
      { x with pins := put x.pins i v
               ins := if enters then setPin x.ins i false else x.ins
               outs := if pinMode v = 2 then x.outs else setPin x.outs i false }) s
  else
    let c := (off - 0x2000) / 0x20
    modFio (fun x => { x with counts := upd x.counts c (fun y =>
      if off % 0x20 = 0 then { y with cfg := v, count := if fld 1 0 v = fld 1 0 y.cfg then y.count else 0 }
      else { y with cmp := v.toNat }) }) s

/-- What the echo of a field-output commit changes on the L-die: the commanded states (R335). -/
def outputsEchoed (set : Nat) (s : State) : State := modFio (fun x => { x with outs := set }) s

/-- The commanded states of the field outputs once every commit on its way is in force. -/
def outputsComing (s : State) : Nat :=
  s.weft.cfg.foldl (fun m c => match c.item with
    | .fioCommit set => set
    | _ => m) s.fio.outs

/-- The pins of outputs whose commit is on its way (R335). -/
def outputsUnderWay (s : State) : Nat := outputsComing s ^^^ s.fio.outs

/-- The outputs commanded together: three words and a commit, whose number is the answer (R335). -/
def sendOutputs (set : Nat) (s : State) : Nat × State :=
  pushCfg (.fioCommit set) ((List.range 3).foldl (fun s j => pushCfg' (.fioWord j (wordAt (pinWords set) j)) s) s)

/-- Readback slot 192 + j: the debounced states of 32 pins, and with slot 192 the counter channels and bits (R234,
R336). -/
def readbackFio (j : Nat) (s : State) : State :=
  let f := s.pdie.fio
  let s := modFio (fun x =>
    { x with ins := (List.range 80).foldl (fun m i => if i / 32 = j then setPin m i (nth f.pins i).deb else m) x.ins
             updated := s.now }) s
  if j = 0 then modFio (fun x => { x with counts := f.counts, isMatch := f.isMatch, qerr := f.qerr, fault := f.fault, taken := s.now }) s
  else s

/-- The adoption of the field pins at ADOPT_DONE: the output states become the commanded values, FIO_INn comes from the
readback, and one FIO_CHANGE says what changed (R331). The change set of the polls joins it (R329). -/
def adoptFio (s : State) : State :=
  let f := s.pdie.fio
  let new := pinsWhere (fun i => (nth f.pins i).deb)
  let moved := (new ^^^ s.fio.ins) ||| f.changed
  let s := modFio (fun x =>
    { x with ins := new, outs := pinsWhere (fun i => (nth f.pins i).out), updated := s.now
             pins := f.pins.map (fun p => p.cfg), counts := f.counts, isMatch := f.isMatch, qerr := f.qerr, fault := f.fault
             poll := f.poll, lost := x.lost || f.lost, taken := s.now }) s
  let s := modFioP (fun x => { x with changed := 0, lost := false }) s
  let g := fun (x : FioGather) => { x with sel := x.sel ||| moved, resync := true, lost := x.lost || f.lost }
  fioTrigger s.now g s

/-- Disabling group 0x05: the outputs go to FIO_CTL.DIS (R332). -/
def disableFio (s : State) : State :=
  let s := modFio (fun x => { x with gather := {} }) s
  if bit 16 s.fio.ctl then s else (sendOutputs 0 s).2

/-- Enabling group 0x05 again: one FIO_CHANGE with RESYNC (R332). -/
def enableFio (s : State) : State := fioTrigger s.now (fun g => { g with resync := true }) s

/-! ### Opcodes (R333 to R336) -/

/-- A word of FIO_PINi_CFG is valid (R333, check 2). -/
def pinCfgOk (w : Word) : Bool :=
  pinMode w != 3 && pinWet w != 3 && 1 ≤ fld 31 16 w && fld 31 16 w ≤ 40000 && !(bit 12 w && pinTset w == 3) &&
    onlyBits 0xFFFF3EF3 w

/-- FIO_CFG of consecutive pins (R333). -/
def fioCfg (first : Nat) (ws : List Word) (s : State) : State × Ans :=
  let n := ws.length
  let new := fun i => if first ≤ i ∧ i < first + n then wordAt ws (i - first) else pinWanted i s
  if 80 < first + n then (s, .fail .badObject [])
  else if !ws.all pinCfgOk then (s, .fail .badObject [])
  else if 16 < ((List.range 80).filter (fun i => pinWet10 (new i))).length then (s, .fail .budgetExceeded [])
  else if !linkLive s then (s, .fail .faultActive [])
  else
    let send := fun (acc : List Await × State) (i : Nat) =>
      let (id, s) := pushCfg (.fio (0x1000 + 4 * (first + i)) (wordAt ws i)) acc.2
      (acc.1 ++ [Await.echo id], s)
    let (l, s) := (List.range n).foldl send ([], s)
    (s, .waits l [])

/-- FIO_CFG as the interpreter knows it. -/
def infoFioCfg : OpInfo :=
  { op := 0x0500, len := lenBetween 2 81, obj := fun r _ => obj r < 80
    run := fun e s =>
      if (arg e.req 0).toNat + 1 != e.req.payload.length then (s, .fail .badLength [])
      else fioCfg (obj e.req) (e.req.payload.drop 1) s }

/-- FIO_CFG (R333). -/
def execFioCfg (r : Req) (s : State) : Host.Outcome State Fault Refusal := .next (command infoFioCfg r s)

/-- FIO_READ as the interpreter knows it (R334). -/
def infoFioRead : OpInfo :=
  { op := 0x0501, len := lenIs 0, obj := objZero
    run := fun _ s => (s, .done (pinWords s.fio.ins ++ pinWords s.fio.outs ++ [word s.fio.updated])) }

/-- FIO_READ (R334). -/
def execFioRead (r : Req) (s : State) : Host.Outcome State Fault Refusal := .next (command infoFioRead r s)

/-- FIO_WRITE of a pin set (R335). -/
def fioWrite (mask value : Nat) (s : State) : State × Ans :=
  if mask != mask &&& pinsWhere (fun i => pinMode (pinWanted i s) == 2) then (s, .fail .badObject [])
  else if !linkLive s then (s, .fail .faultActive [])
  else
    let old := outputsComing s
    let (id, s) := sendOutputs (old - (old &&& mask) + (value &&& mask)) s
    (s, .wait (.echo id) false [])

/-- FIO_WRITE as the interpreter knows it. -/
def infoFioWrite : OpInfo :=
  { op := 0x0502, len := lenIs 6, snap := true, obj := objZero
    run := fun e s => fioWrite (wordsPins (arg e.req 0) (arg e.req 1) (arg e.req 2))
      (wordsPins (arg e.req 3) (arg e.req 4) (arg e.req 5)) s }

/-- FIO_WRITE (R335). -/
def execFioWrite (r : Req) (s : State) : Host.Outcome State Fault Refusal := .next (command infoFioWrite r s)

/-- FIO_COUNT_READ of channel c (R336). -/
def fioCountRead (c : Nat) (w : Word) (s : State) : State × Ans :=
  let x := nth s.fio.counts c
  if fld 1 0 x.cfg = 0 ∨ !onlyBits 1 w then (s, .fail .badObject [])
  else if !bit 0 w then (s, .done [word x.count, word x.period, word x.last, word s.fio.taken])
  else if !linkLive s then (s, .fail .faultActive [])
  else (pushCfg' (.fioClear c) s, .wait (.fioCount c) false [])

/-- FIO_COUNT_READ as the interpreter knows it. -/
def infoFioCountRead : OpInfo :=
  { op := 0x0503, len := lenIs 1, obj := fun r _ => obj r < 8
    run := fun e s => fioCountRead (obj e.req) (arg e.req 0) s }

/-- FIO_COUNT_READ (R336). -/
def execFioCountRead (r : Req) (s : State) : Host.Outcome State Fault Refusal := .next (command infoFioCountRead r s)

/-! ### The FIO block (R337) -/

/-- Register o of counter channel c. -/
def readCount (c o : Nat) (s : State) : Option Word :=
  let x := nth s.fio.counts c
  match o with
  | 0x00 => some x.cfg
  | 0x04 => some (word x.count)
  | 0x08 => some (word x.period)
  | 0x0C => some (word x.last)
  | 0x10 => some (word x.cmp)
  | _ => none

/-- The FIO block at an offset. -/
def readFio (off : Nat) (s : State) : Option Word :=
  let f := s.fio
  let wet := (f.pins.toList.filter pinWet10).length
  match off with
  | 0x00 => some f.ctl
  | 0x04 => some (pack [(16, wet), (1, b2n f.lost), (0, b2n f.fault)])
  | 0x08 => some f.poll
  | 0x0C => some (pack [(8, f.qerr), (0, f.isMatch)])
  | 0x10 | 0x14 | 0x18 => some (wordAt (pinWords f.ins) ((off - 0x10) / 4))
  | 0x20 | 0x24 | 0x28 => some (wordAt (pinWords f.outs) ((off - 0x20) / 4))
  | _ =>
    if 0x1000 ≤ off ∧ off < 0x1140 then some (nth f.pins ((off - 0x1000) / 4))
    else if 0x2000 ≤ off ∧ off < 0x2100 then readCount ((off - 0x2000) / 0x20) (off % 0x20) s
    else none

/-- FIO_CNTc_CFG written: a channel whose pins are not in INPUT, a QUAD on an odd channel, or one beside a channel that counts, is
ignored (R320). -/
def writeCountCfg (c : Nat) (v : Word) (s : State) : State × Ans :=
  let cfgOf := fun j => comingWord (CfgItem.fioAt (0x2000 + 0x20 * j)) (nth s.fio.counts j).cfg s
  let old := cfgOf c
  let new := writeFields [rw 4 4, rwIn 3 2 1 3, rwIn 1 0 0 2] old v
  let modeOf := fun j => fld 1 0 (cfgOf j)
  let m := fld 1 0 new
  let input := fun j => pinMode (pinWanted (72 + j) s) == 1
  let bad := (m != 0 && !input c) || (m == 2 && !input (c + 1)) || (m == 2 && (c % 2 == 1 || modeOf (c + 1) != 0)) || (m != 0 && c % 2 == 1 && modeOf (c - 1) == 2)
  if bad then (s, .done []) else writeP (.fio (0x2000 + 0x20 * c) new) s

/-- The pins of FIO_OUT word j in OUTPUT, as a pin set (R335). -/
def outWordMask (j : Nat) (s : State) : Nat := pinsWhere (fun i => i / 32 == j && pinMode (pinWanted i s) == 2)

/-- A register of the FIO block written as an opcode of group 0x05. -/
def asFio (f : State → State × Ans) (s : State) : State × Ans :=
  if groupOff 0x05 s then (s, .fail .abortedDisabled []) else f s

/-- A write to the FIO block (R337). -/
def writeFio (off : Nat) (v : Word) (s : State) : State × Ans :=
  match off with
  | 0x00 => (modFio (fun x => { x with ctl := writeFields [rw 16 16, rwIn 9 0 1 1000] x.ctl v }) s, .done [])
  | 0x04 =>
    let s := modFio (fun x => { x with lost := x.lost && !bit 1 v }) s
    if bit 0 v then writeP (.fio 0x04 1) s else (s, .done [])
  | 0x08 => writeP (.fio 0x08 (writeFields [rw 25 24, rwIn 23 16 10 100, rwIn 9 0 5 1000] (comingWord (CfgItem.fioAt 8) s.fio.poll s) v)) s
  | 0x0C => writeP (.fio 0x0C (v &&& 0xFFFF)) s
  | 0x20 | 0x24 | 0x28 =>
    let j := (off - 0x20) / 4
    asFio (fun s => fioWrite (outWordMask j s) (v.toNat <<< (32 * j)) s) s
  | _ =>
    if 0x1000 ≤ off ∧ off < 0x1140 then asFio (fioCfg ((off - 0x1000) / 4) [v]) s
    else if 0x2000 ≤ off ∧ off < 0x2100 then
      let c := (off - 0x2000) / 0x20
      match off % 0x20 with
      | 0x00 => writeCountCfg c v s
      | 0x10 => writeP (.fio off v) s
      | _ => (s, .done [])
    else (s, .done [])

/-- The W1C bits of the FIO block (R102). -/
def w1cFio (off : Nat) : Word :=
  match off with
  | 0x04 => 3
  | 0x0C => 0xFFFF
  | _ => 0

end Sys2Proof.Machine
end

