-- ==== Sys2Proof/Machine/Keys.lean ====
section
/-! DEFINITION. The key store and the crypto engine: slots and loads (R471 to R479), the store banks (R480 to R483),
zeroisation (R484 to R487), random numbers (R489), the opcodes of R490 to R495 and the KEY block (R498). -/

namespace Sys2Proof.Machine

/-- The key store changed by f. -/
def modKeys (f : KeySt → KeySt) (s : State) : State := { s with keys := f s.keys }
/-- Key slot n. -/
def keySlot (n : Nat) (s : State) : KeySlot := nth s.keys.slots n
/-- Key slot n of the working table changed by f. -/
def modKeySlot (n : Nat) (f : KeySlot → KeySlot) (s : State) : State :=
  modKeys (fun k => { k with slots := upd k.slots n f }) s

/-! ### Staleness and loads (R474, R475) -/

/-- A slot is stale: its parent is empty or stale, or has another generation than at the derivation; DEPTH is at most 4
(R474). -/
def staleIn (v : Vector KeySlot 64) : Nat → Nat → Bool
  | 0, _ => false
  | fuel + 1, n =>
    let x := nth v n
    x.occupied && x.derived &&
      (let p := nth v x.parent
       !p.occupied || p.gen != x.pgen || staleIn v fuel x.parent)

/-- Slot n is stale. -/
def stale (n : Nat) (s : State) : Bool := staleIn s.keys.slots 4 n

/-- A load of slot n for a purpose, by a consumer that recorded a generation: the key, or the status that refuses it
(R475). A store that is not READY serves no key (R483). -/
def loadCheck (n purpose : Nat) (gen : Option Nat) (s : State) : Except Status (List Byte) :=
  let x := keySlot n s
  if s.keys.state != .ready then .error .faultActive
  else if !x.occupied || stale n s || (gen.map (fun g => g != x.gen)).getD false then .error .keyStale
  else if x.purpose != purpose then .error .keyAttr
  else .ok x.key

/-- The counters of a load of slot n (R500). -/
def countLoad (n : Nat) (r : Except Status (List Byte)) (s : State) : State :=
  match r with
  | .ok _ => bump (ctr 0x0D (0x100 + n)) (bump (ctr 0x0D 0) s)
  | .error .faultActive => s
  | .error _ => bump (ctr 0x0D 1) s

/-- TK, the transport key (R469, R470). -/
def transportKey : List Byte :=
  kdf (bytesBE 32 Config.deviceKey.toNat) (ascii "TRANSPORT") (bytesLE 8 Config.uid.toNat) 16

/-- The check value of a key, as a word (R471). -/
def kcvOf (key : List Byte) : Word := word (natLE ((cmac key []).take 4))

/-! ### Events and sessions -/

/-- Occupied slots. -/
def keysUsed (s : State) : Nat := (s.keys.slots.toList.filter (fun x => x.occupied)).length

/-- A change awaits bank verification (R482). -/
def persistPend (s : State) : Bool := s.keys.dirty || s.keys.writing.isSome

/-- KEY_STAT (R498). -/
def keyStat (s : State) : Word :=
  let st := match s.keys.state with | .locked => 0 | .ready => 1 | .zeroising => 2
  pack [(16, keysUsed s), (4, b2n s.keys.degraded), (3, b2n (persistPend s)), (2, b2n s.weft.tamper), (0, st)]

/-- KEY_STATUS (R496). -/
def keyEvent (slot reason code : Nat) (s : State) : State :=
  postEvent 0xF0A [pack [(16, code), (8, reason), (0, slot)], keyStat s] s

/-- The session of host slot n ends by the key store; the command keep still answers under its key, and no other packet
of the slot carries a CMAC (R478). The binding is kept. -/
def endByKey (n : Nat) (keep : Option (Nat × Nat)) (s : State) : State :=
  let s := modSlot n (fun sl => { sl with session := none, ended := true, ends := sl.ends + 1 }) s
  modFlight (fun l => l.map (fun e =>
    if e.req.slot == n && keep != some (e.req.slot, e.req.tag) then { e with key := none } else e)) s

/-- The parent of a session is empty, stale, of another generation, or retired (R474, R478, R492). -/
def sessionDead (x : Session) (s : State) : Bool :=
  if x.parent = 64 then s.otp.retired
  else !(keySlot x.parent s).occupied || stale x.parent s || (keySlot x.parent s).gen != x.gen

/-- Every session whose parent no longer serves it ends (R478). -/
def endDeadSessions (keep : Option (Nat × Nat)) (s : State) : State :=
  (List.range 4).foldl (fun s n =>
    match (slotOf n s).session with
    | some x => if sessionDead x s then endByKey n keep s else s
    | none => s) s

/-! ### The banks (R480 to R482) -/

/-- The number of the bank write that a change made now goes into (R481). -/
def nextKeyWrite (s : State) : Nat := s.keys.writes + 1

/-- A change of the working table is to be written, and its KEY_STATUS raised with the verification. -/
def storeChange (reason slot : Nat) (s : State) : State :=
  modKeys (fun k => { k with dirty := true, fresh := k.fresh ++ [(reason, slot)] }) s

/-- KEY_BANK_WRITE_START, at a management-tick boundary: the gathered changes are written into the other bank
(R481). -/
def keyWriteStart (s : State) : State :=
  if s.keys.dirty && s.keys.writing.isNone && s.keys.state == .ready then
    modKeys (fun k => { k with writing := some k.slots, dirty := false, tries := 0, writes := k.writes + 1
                               notes := k.fresh, fresh := [] }) s
  else s

/-- A written bank verifies: it becomes authoritative, and its commands complete; it was the bank that is not authoritative, so both
are valid now (R481, R483; DEDUCED, log entry 110). -/
def keyWriteDone (v : Vector KeySlot 64) (s : State) : State :=
  let notes := s.keys.notes
  let s := modKeys (fun k => { k with
    stored := v, older := k.stored, bankB := !k.bankB, seq := k.seq + 1, writing := none, notes := []
    degraded := false }) s
  let s := bump (ctr 0x0D 3) s
  let s := completeAll (.keyBank s.keys.writes) .done (fun _ => []) s
  notes.foldl (fun s p => keyEvent p.2 p.1 0 s) s

/-- A bank write finally fails: its commands complete with STORE_FAIL, and the change is undone in the working table; a session whose
parent goes with it ends (R474, R478, R481, R496). -/
def keyWriteFailed (s : State) : State :=
  let s := modKeys (fun k => { k with slots := k.stored, writing := none, dirty := false, notes := [], fresh := [] }) s
  let s := completeAll (.keyBank s.keys.writes) .storeFail (fun _ => []) s
  let s := completeAll (.keyBank (s.keys.writes + 1)) .storeFail (fun _ => []) s
  keyEvent 0x7F 5 3 (endDeadSessions none s)

/-- A key store bank write has been read back, and verifies or not; it is tried three times (R481). -/
def keyBankVerified (t : Nat) (ok : Bool) (s : State) : State :=
  match s.keys.writing with
  | none => s
  | some v =>
    let s := toL t s
    if ok then keyWriteDone v s
    else if s.keys.tries < 2 then modKeys (fun k => { k with tries := k.tries + 1 }) s
    else keyWriteFailed s

/-! ### Zeroisation (R484 to R487) -/

/-- The trigger of a zeroisation: the mark is written, and what waited for the store fails (R484, R483). -/
def startZeroise (code : Nat) (host : Option (Nat × Nat)) (s : State) : State :=
  let s := modKeys (fun k => { k with
    state := .zeroising, mark := true, writing := none, dirty := false, notes := [], fresh := []
    zero := some { code := code, host := host } }) s
  let s := completeAll (.keyBank s.keys.writes) .faultActive (fun _ => []) s
  completeAll (.keyBank (s.keys.writes + 1)) .faultActive (fun _ => []) s

/-- The tamper flag as a readback or the leaving of LOCKED shows it: reported once after a start; with any key in a
READY store the device zeroises (R486). -/
def seeTamper (s : State) : State :=
  if !s.weft.tamper then s
  else
    let s := if s.keys.tamperSeen then s
      else reportL 0x1A0 0xFF (modKeys (fun k => { k with tamperSeen := true }) s)
    if s.keys.state == .ready && keysUsed s != 0 then startZeroise 1 none s else s

/-- Step 1: every session key and SHA-256 context is cleared, every authenticated session ends; the session that
carries the host's ZEROISE signs that one answer still (R484, R495). -/
def zeroStep1 (z : Zeroise) (s : State) : State :=
  (List.range 4).foldl (fun s n =>
    let s := modSlot n (fun sl => { sl with shaOpen := false, shaState := [], shaRest := [], shaLen := 0 }) s
    if (slotOf n s).session.isSome then endByKey n z.host s else s) s

/-- Step 2: a fresh STORE_NONCE from the TRNG; no slot can be unwrapped any more (R484). -/
def zeroStep2 (s : State) : State :=
  let (n, s) := freeBytes 16 s
  modKeys (fun k => { k with nonce := n }) s

/-- An erased slot: its generation is raised (R484). -/
def erasedSlot (x : KeySlot) : KeySlot := { gen := min 0xFFFF (x.gen + 1) }

/-- Step 3: every slot record is erased, and the mark cleared (R484). -/
def zeroStep3 (s : State) : State :=
  modKeys (fun k =>
    let v := k.slots.map erasedSlot
    { k with slots := v, stored := v, older := v, zcount := min 65535 (k.zcount + 1), mark := false, zero := none }) s

/-- The store leaves ZEROISING once the erasure and the nonce are done (R484, R489). -/
def zeroEnd (code : Nat) (s : State) : State :=
  if s.keys.nonceHeld.isSome then s
  else keyEvent 0x7F 1 code (modKeys (fun k => { k with state := .ready }) s)

/-- ZEROISATION_STEP_DONE: the next step completes. With the health tests failed step 2 is held, and step 3 comes first
(R484, R489, R495). -/
def execZeroisationStepDone (t : Nat) (s : State) : Host.Outcome State Fault Refusal :=
  .next (match s.keys.zero with
    | none => s
    | some z =>
      let s := toL t s
      let next := fun (n : Nat) (s : State) => modKeys (fun k => { k with zero := some { z with step := n } }) s
      if z.step = 0 then next 1 (zeroStep1 z s)
      else if z.step = 1 && !s.keys.trngFail then
        completeAll .erase .done (fun _ => []) (next 2 (zeroStep2 s))
      else if z.step = 1 then
        let s := modKeys (fun k => { k with nonceHeld := some z.code }) (zeroStep3 s)
        completeAll .erase .faultActive (fun _ => []) (zeroEnd z.code s)
      else zeroEnd z.code (zeroStep3 s))

/-- An interrupted zeroisation is completed at a start, from step 2 (R485). -/
def completeZeroise (s : State) : State :=
  let s := if s.keys.trngFail then modKeys (fun k => { k with nonceHeld := some 3 }) s else zeroStep2 s
  zeroEnd 3 (modKeys (fun k => { k with state := .zeroising }) (zeroStep3 s))

/-- Both banks are sound, or one, or none: the table is loaded (R483). The banks are A and B; 0 is valid. -/
def loadBanks (a b : Nat) (s : State) : State :=
  let authBad := if s.keys.bankB then b != 0 else a != 0
  let otherBad := if s.keys.bankB then a != 0 else b != 0
  if authBad && otherBad then
    let empty : Vector KeySlot 64 := Vector.replicate 64 {}
    let s := modKeys (fun k => { k with slots := empty, stored := empty, older := empty, state := .ready }) s
    reportL 0x1A2 0xFF (keyEvent 0x7F 5 2 s)
  else
    let s := if authBad then
        modKeys (fun k => { k with stored := k.older, bankB := !k.bankB, seq := k.seq - 1 }) s else s
    let s := modKeys (fun k => { k with slots := k.stored, state := .ready, degraded := authBad || otherBad }) s
    if authBad || otherBad then reportL 0x1A1 (b2n (b != 0)) (keyEvent 0x7F 5 1 s) else s

/-- KEY_STORE_READY: after ADOPT_DONE the store checks its banks, and completes an interrupted zeroisation, or goes to
READY, or zeroises for the tamper flag (R483, R485, R486). For each bank the row says 0 valid, 1 invalid with a sound
header, 2 a header that fails its check. -/
def execKeyStoreReady (t a b : Nat) (s : State) : Host.Outcome State Fault Refusal :=
  .next (if s.keys.state != .locked || !linkLive s || !hostUp s then s
    else
      let s := toL t s
      let s := if s.keys.mark || a = 2 || b = 2 then completeZeroise s else loadBanks a b s
      let s := seeTamper s
      if s.keys.state == .ready then keyEvent 0x7F 6 0 s else s)

/-- The TRNG runs with the L-die. -/
def trngRuns (s : State) : Bool := s.ldie != .off && s.ldie != .halted

/-- TRNG_HEALTH_FAIL (R489). -/
def execTrngHealthFail (t : Nat) (s : State) : Host.Outcome State Fault Refusal :=
  let s := toL t s
  .next (if s.keys.trngFail || !trngRuns s then s else reportL 0x1A3 0xFF (modKeys (fun k => { k with trngFail := true }) s))

/-- TRNG_HEALTH_PASS: a zeroisation's held step 2 is completed (R489); one that a start completes (code 3) ends in READY (R485,
R496). -/
def execTrngHealthPass (t : Nat) (s : State) : Host.Outcome State Fault Refusal :=
  let s := modKeys (fun k => { k with trngFail := k.trngFail && !trngRuns s }) (toL t s)
  .next (match if trngRuns s then s.keys.nonceHeld else none with
    | some code =>
      let s := zeroEnd code (modKeys (fun k => { k with nonceHeld := none }) (zeroStep2 s))
      if code = 3 && s.keys.state == .ready then keyEvent 0x7F 6 0 s else s
    | none => s)

/-! ### Opcodes (R490 to R495) -/

/-- The session that carries a request holds RIGHTS.KEYS (R473). -/
def hasKeys (r : Req) (s : State) : Bool := ((slotOf r.slot s).session.map (fun x => x.rights.testBit 0)).getD false

/-- PURPOSE, KLEN and RIGHTS fit each other (R472, R473). -/
def fieldsFit (purpose rights : Nat) (long : Bool) : Bool :=
  1 ≤ purpose && purpose ≤ 8 && !(long && (purpose == 3 || purpose == 4)) && (rights == 0 || purpose == 2)

/-- The record of a new key. -/
def newSlot (purpose rights : Nat) (key : List Byte) (old : KeySlot) : KeySlot :=
  { occupied := true, purpose := purpose, long := key.length == 32, rights := rights, parent := 64, depth := 1
    gen := old.gen, kcv := kcvOf key, key := key }

/-- KEY_PROVISION (R490). -/
def keyProvision (r : Req) (s : State) : State × Ans :=
  let w := arg r 0
  let n := obj r
  let purpose := fld 19 16 w
  let long := bit 23 w
  let b := (wordsToBytes r.payload).drop 4
  let size := if long then 32 else 16
  let ct := (b.drop 12).take size
  let ses := (slotOf r.slot s).session.getD {}
  let ktk := kdf (keyBytes ses.key) (ascii "EODEN-KTK") ses.nonce 16
  let aad := bytesLE 4 w.toNat ++ bytesLE 4 n
  if !fieldsFit purpose (fld 11 8 w) long || r.payload.length != (if long then 16 else 12) ||
      !onlyBits 0x008F0F00 w then (s, .fail .badObject [])
  else if !hasKeys r s || s.weft.tamper then (s, .fail .notPermitted [])
  else if s.keys.state != .ready then (s, .fail .faultActive [])
  else if (keySlot n s).occupied || (keySlot n s).gen = 0xFFFF then (s, .fail .busy [])
  else
    let s := bump (ctr 0x0D 0) s
    if gcmTag ktk (b.take 12) aad ct != (b.drop (12 + size)).take 16 then (s, .fail .badObject [])
    else
    let key := gcmCtr ktk (b.take 12) ct
    let s := modKeySlot n (newSlot purpose (fld 11 8 w) key) s
    (storeChange 3 n s, .wait (.keyBank (nextKeyWrite s)) true [])

/-- KEY_PROVISION as the interpreter knows it. -/
def infoKeyProvision : OpInfo :=
  { op := 0x0800, len := fun b => b == 48 || b == 64, auth := true, obj := fun r _ => obj r < 64
    run := fun e s => keyProvision e.req s }

/-- KEY_PROVISION (R490). -/
def execKeyProvision (r : Req) (s : State) : Host.Outcome State Fault Refusal := .next (command infoKeyProvision r s)

/-- A length padded to whole words, in bytes. -/
def padded (n : Nat) : Nat := (n + 3) / 4 * 4

/-- KEY_DERIVE (R491). -/
def keyDerive (r : Req) (s : State) : State × Ans :=
  let w := arg r 0
  let p := obj r
  let c := fld 5 0 w
  let purpose := fld 19 16 w
  let long := bit 23 w
  let rights := fld 27 24 w
  let ll := fld 5 0 (arg r 1)
  let cl := fld 14 8 (arg r 1)
  let b := (wordsToBytes r.payload).drop 8
  let par := keySlot p s
  let old := keySlot c s
  let badLen := ll = 0 || 32 < ll || 64 < cl || 4 * r.payload.length != 8 + padded ll + padded cl
  if p = c || !fieldsFit purpose rights long || badLen || !onlyBits 0x0F8F003F w || 3 < par.depth then
    (s, .fail .badObject [])
  else if !hasKeys r s || s.weft.tamper then (s, .fail .notPermitted [])
  else if s.keys.state != .ready then (s, .fail .faultActive [])
  else if !par.occupied || par.purpose != 1 then (bump (ctr 0x0D 1) s, .fail .keyAttr [])
  else if stale p s then (bump (ctr 0x0D 1) s, .fail .keyStale [])
  else if (old.occupied && !stale c s) || old.gen = 0xFFFF then (s, .fail .busy [])
  else
    let s := countLoad p (.ok []) s
    let key := kdf par.key (b.take ll) ((b.drop (padded ll)).take cl) (if long then 32 else 16)
    let slot := { newSlot purpose rights key old with
      derived := true, parent := p, depth := par.depth + 1, pgen := par.gen, gen := old.gen + b2n old.occupied }
    (storeChange 4 c (endDeadSessions none (modKeySlot c (fun _ => slot) s)), .done [])

/-- KEY_DERIVE as the interpreter knows it. -/
def infoKeyDerive : OpInfo :=
  { op := 0x0801, len := lenBetween 3 26, auth := true, obj := fun r _ => obj r < 64
    run := fun e s => keyDerive e.req s }

/-- KEY_DERIVE (R491). -/
def execKeyDerive (r : Req) (s : State) : Host.Outcome State Fault Refusal := .next (command infoKeyDerive r s)

/-- A slot emptied, its generation raised (R477). -/
def emptied (x : KeySlot) : KeySlot := { gen := min 0xFFFF (x.gen + 1) }

/-- The occupied slots derived, directly or through occupied slots, from the slots of l (R477). -/
def descendants (v : Vector KeySlot 64) : Nat → List Nat → List Nat
  | 0, _ => []
  | fuel + 1, l =>
    let kids := (List.range 64).filter (fun n => (nth v n).occupied && (nth v n).derived && l.contains (nth v n).parent)
    if kids.isEmpty then [] else kids ++ descendants v fuel kids

/-- KEY_INVALIDATE of a slot (R477, R492). -/
def keyInvalidate (e : Entry) (s : State) : State × Ans :=
  let n := obj e.req
  let w := arg e.req 0
  if !onlyBits 1 w then (s, .fail .badObject [])
  else if !hasKeys e.req s then (s, .fail .notPermitted [])
  else if s.keys.state != .ready then (s, .fail .faultActive [])
  else if !(keySlot n s).occupied then (s, .done [])
  else
    let more := if bit 0 w then (descendants s.keys.slots 4 [n]).eraseDups else []
    let s := (n :: more).foldl (fun s m => modKeySlot m emptied s) s
    let s := endDeadSessions (some (e.req.slot, e.req.tag)) s
    (storeChange 2 n s, .wait (.keyBank (nextKeyWrite s)) true [])

/-- The retirement of the transport root (R492): it takes effect when the OTP bit reads back. -/
def rootRetire (r : Req) (s : State) : State × Ans :=
  if arg r 0 != 0x52455449 then (s, .fail .badObject [])
  else if !hasKeys r s then (s, .fail .notPermitted [])
  else ({ s with otp := { s.otp with pend := s.otp.pend ++ [0] } }, .wait .otp true [])

/-- KEY_INVALIDATE as the interpreter knows it: OBJECT 0x40 is the transport root (R492). -/
def infoKeyInvalidate : OpInfo :=
  { op := 0x0802, len := lenIs 1, auth := true, obj := fun r _ => obj r ≤ 64
    run := fun e s => if obj e.req = 64 then rootRetire e.req s else keyInvalidate e s }

/-- KEY_INVALIDATE (R477, R492). -/
def execKeyInvalidate (r : Req) (s : State) : Host.Outcome State Fault Refusal := .next (command infoKeyInvalidate r s)

/-- TRANSPORT_ROOT_RETIRE: KEY_INVALIDATE with OBJECT 0x40 (R492). -/
def execTransportRootRetire (r : Req) (s : State) : Host.Outcome State Fault Refusal :=
  .next (command infoKeyInvalidate { r with object := 0x40 } s)

/-- The retirement's OTP bit reads back programmed, or has failed three times (R492). -/
def rootRetired (ok : Bool) (s : State) : State :=
  if !ok then completeAll .otp .storeFail (fun _ => []) s
  else
    let s := { s with otp := { s.otp with retired := true } }
    let keep := (s.host.flight.find? (fun e => e.stage == .taken && e.await == .otp)).map (fun e => (e.req.slot, e.req.tag))
    completeAll .otp .done (fun _ => []) (endDeadSessions keep s)

/-- KEY_SLOTs_INFO (R498). -/
def slotInfo (n : Nat) (s : State) : Word :=
  let x := keySlot n s
  pack [(31, b2n x.occupied), (30, b2n (stale n s)), (24, x.depth), (23, b2n x.long), (16, x.purpose), (15, b2n x.derived),
    (8, x.rights), (0, x.parent)]
/-- KEY_SLOTs_GEN (R498). -/
def slotGen (n : Nat) (s : State) : Word := pack [(16, (keySlot n s).pgen), (0, (keySlot n s).gen)]
/-- KEY_ROOT_STAT (R498): DEVICE_KEY is programmed and sound. -/
def rootStat (s : State) : Word := pack [(1, b2n s.otp.retired), (0, 1)]

/-- KEY_INFO as the interpreter knows it (R494). -/
def infoKeyInfo : OpInfo :=
  { op := 0x0804, len := lenIs 0, auth := true, recovery := true, obj := fun r _ => obj r ≤ 64
    run := fun e s =>
      let n := obj e.req
      if n = 64 then (s, .done (rootStat s :: natToWords 2 Config.uid.toNat))
      else
        let x := keySlot n s
        (s, .done [slotInfo n s, slotGen n s, if x.occupied && !stale n s then x.kcv else 0]) }

/-- KEY_INFO (R494). -/
def execKeyInfo (r : Req) (s : State) : Host.Outcome State Fault Refusal := .next (command infoKeyInfo r s)

/-- ZEROISE (R487, R495). -/
def zeroise (r : Req) (s : State) : State × Ans :=
  if arg r 0 != 0x5A45524F then (s, .fail .badObject [])
  else if !hasKeys r s then (s, .fail .notPermitted [])
  else if s.keys.state != .ready then (s, .fail .faultActive [])
  else (startZeroise 2 (some (r.slot, r.tag)) s, .wait .erase false [])

/-- ZEROISE as the interpreter knows it. -/
def infoZeroise : OpInfo :=
  { op := 0x0805, len := lenIs 1, auth := true, obj := objZero, run := fun e s => zeroise e.req s }

/-- ZEROISE (R495). -/
def execZeroise (r : Req) (s : State) : Host.Outcome State Fault Refusal := .next (command infoZeroise r s)

/-! ### CRYPTO_OP (R493) -/

/-- The fields of a CRYPTO_OP payload. -/
structure CryptoArgs where
  op : Nat
  mode : Nat
  step : Nat
  tagLen : Nat
  data : Nat
  aad : Nat
  deriving DecidableEq, Repr, Inhabited

/-- Words 0 and 1 of a CRYPTO_OP payload. -/
def cryptoArgs (r : Req) : CryptoArgs :=
  { op := fld 3 0 (arg r 0), mode := fld 6 4 (arg r 0), step := fld 9 8 (arg r 0), tagLen := fld 20 16 (arg r 0)
    data := fld 9 0 (arg r 1), aad := fld 25 16 (arg r 1) }

/-- The lengths of the fields after word 1 that OP and MODE call for, in bytes, each before its padding. -/
def cryptoFields (a : CryptoArgs) : List Nat :=
  let iv := match a.mode with
    | 0 => []
    | 3 => [12]
    | _ => [16]
  match a.op with
  | 1 => iv ++ (if a.mode = 3 then [a.aad, a.data] else [a.data])
  | 2 => iv ++ (if a.mode = 3 then [a.aad, a.data, 16] else [a.data])
  | 3 => [a.data]
  | 4 => [a.data, a.tagLen]
  | 5 => [a.data]
  | 6 => [32, 64, 64]
  | _ => []

/-- The lengths of word 1 and the fields add up to LENGTH (R493). -/
def cryptoFits (r : Req) : Bool := 4 * r.payload.length == 8 + ((cryptoFields (cryptoArgs r)).map padded).sum

/-- A byte string cut into fields of some lengths, each padded to whole words. -/
def cutFields : List Nat → List Byte → List (List Byte)
  | [], _ => []
  | n :: rest, b => b.take n :: cutFields rest (b.drop (padded n))

/-- The fields of a CRYPTO_OP. -/
def cryptoData (r : Req) : List (List Byte) :=
  cutFields (cryptoFields (cryptoArgs r)) ((wordsToBytes r.payload).drop 8)

/-- Bytes as response words, padded with zeros. -/
def byteWords (b : List Byte) : List Word := bytesToWords ((b.length + 3) / 4) b

/-- The fields of a CRYPTO_OP are in range (R493). -/
def cryptoValid (r : Req) (s : State) : Bool :=
  let a := cryptoArgs r
  let slot := obj r ≤ 63
  let plain := a.mode == 0 && a.aad == 0
  match a.op with
  | 1 | 2 => slot && a.mode ≤ 3 && a.data ≤ 960 && (if a.mode = 3 then a.aad ≤ 256 else a.aad == 0) &&
      (1 < a.mode || a.data % 16 == 0)
  | 3 => slot && plain && a.data ≤ 960
  | 4 => slot && plain && a.data ≤ 960 && 4 ≤ a.tagLen && a.tagLen ≤ 16
  | 5 => r.object == 0 && plain && a.data ≤ 960 && (a.step ≤ 1 || (slotOf r.slot s).shaOpen)
  | 6 => r.object == 0 && plain
  | 7 => r.object == 0 && plain && 1 ≤ a.data && a.data ≤ 256
  | _ => false

/-- The purpose that an operation needs of its key (R472). -/
def cryptoPurpose (op : Nat) : Nat := op + 4

/-- ENCRYPT under a key (R493). -/
def encryptWith (key : List Byte) (mode : Nat) (f : List (List Byte)) : List Byte :=
  let g := fun i => f.getD i []
  match mode with
  | 0 => ecb (aesEnc key) (g 0)
  | 1 => cbcEnc key 64 (g 0) (g 1)
  | 2 => ctrMode key 128 64 (natBE (g 0)) (g 1)
  | _ =>
    let ct := gcmCtr key (g 0) (g 2)
    ct ++ List.replicate (padded ct.length - ct.length) 0 ++ gcmTag key (g 0) (g 1) ct

/-- DECRYPT under a key: the pass word, then the plaintext if it passed (R493). -/
def decryptWith (key : List Byte) (mode : Nat) (f : List (List Byte)) : List Word :=
  let g := fun i => f.getD i []
  match mode with
  | 0 => 0 :: byteWords (ecb (aesDec key) (g 0))
  | 1 => 0 :: byteWords (cbcDec key 64 (g 0) (g 1))
  | 2 => 0 :: byteWords (ctrMode key 128 64 (natBE (g 0)) (g 1))
  | _ => if gcmTag key (g 0) (g 1) (g 2) == g 3 then 0 :: byteWords (gcmCtr key (g 0) (g 2)) else [1]

/-- The hash stream of a slot takes in data: whole blocks are folded, the rest is kept. -/
def shaTake (data : List Byte) (sl : Slot) : Slot :=
  let m := sl.shaRest ++ data
  let whole := m.length / 64 * 64
  { sl with shaState := sha256Fold sl.shaState (m.take whole), shaRest := m.drop whole, shaLen := sl.shaLen + data.length }

/-- The digest of a slot's hash stream. -/
def shaDigest (sl : Slot) : List Byte :=
  ((sha256Fold sl.shaState (sl.shaRest ++ sha256Pad sl.shaLen)).map (fun x => bytesBE 4 x.toNat)).flatten

/-- SHA-256 of a slot with a STEP (R493). -/
def shaOp (n step : Nat) (data : List Byte) (s : State) : State × List Word :=
  let fresh := fun (sl : Slot) => { sl with shaOpen := true, shaState := sha256Init, shaRest := [], shaLen := 0 }
  let drop := fun (sl : Slot) => { sl with shaOpen := false, shaState := [], shaRest := [], shaLen := 0 }
  match step with
  | 0 => (s, byteWords (sha256 data))
  | 1 => (modSlot n (fun sl => shaTake data (fresh sl)) s, [])
  | 2 => (modSlot n (fun sl => shaTake data sl) s, [])
  | _ =>
    let sl := shaTake data (slotOf n s)
    (modSlot n drop s, byteWords (shaDigest sl))

/-- The operations without a key: SHA-256, ECDSA_VERIFY and RANDOM (R493). -/
def keylessOp (r : Req) (s : State) : State × Ans :=
  let a := cryptoArgs r
  let f := cryptoData r
  match a.op with
  | 5 =>
    let (s, ws) := shaOp r.slot a.step (f.getD 0 []) s
    (s, .done ws)
  | 6 =>
    let sig := f.getD 1 []
    let key := f.getD 2 []
    let ok := ecdsaVerify (f.getD 0 []) (natBE (key.take 32)) (natBE (key.drop 32)) (natBE (sig.take 32)) (natBE (sig.drop 32))
    (s, .done [word (b2n (!ok))])
  | _ =>
    if s.keys.trngFail then (s, .fail .faultActive [])
    else
      let (b, s) := freeBytes a.data s
      (s, .done (byteWords b))

/-- The operations under a key (R493). -/
def keyedOp (key : List Byte) (a : CryptoArgs) (f : List (List Byte)) : List Word :=
  match a.op with
  | 1 => byteWords (encryptWith key a.mode f)
  | 2 => decryptWith key a.mode f
  | 3 => byteWords (cmac key (f.getD 0 []))
  | _ => [word (b2n ((cmac key (f.getD 0 [])).take a.tagLen != f.getD 1 []))]

/-- CRYPTO_OP (R493). -/
def cryptoOp (r : Req) (s : State) : State × Ans :=
  let a := cryptoArgs r
  let counted := fun (x : State × Ans) => match x.2 with
    | .done _ => (bump (ctr 0x0D 2) x.1, x.2)
    | _ => x
  if !cryptoValid r s then (s, .fail .badObject [])
  else if 5 ≤ a.op then counted (keylessOp r s)
  else
    let l := loadCheck (obj r) (cryptoPurpose a.op) none s
    let s := countLoad (obj r) l s
    match l with
    | .error st => (s, .fail st [])
    | .ok key => counted (s, .done (keyedOp key a (cryptoData r)))

/-- CRYPTO_OP as the interpreter knows it. -/
def infoCryptoOp : OpInfo :=
  { op := 0x0803, len := lenBetween 2 256, fits := cryptoFits, auth := true
    obj := fun r _ => if 5 ≤ (cryptoArgs r).op then r.object == 0 else obj r < 64
    run := fun e s => cryptoOp e.req s }

/-- A CRYPTO_OP request with its OP field at n: the row of the table names the operation. -/
def withOp (n : Nat) (r : Req) : Req := { r with payload := setFld 3 0 n (arg r 0) :: r.payload.drop 1 }

/-- ENCRYPT (R493). -/
def execEncrypt (r : Req) (s : State) : Host.Outcome State Fault Refusal := .next (command infoCryptoOp (withOp 1 r) s)
/-- DECRYPT (R493). -/
def execDecrypt (r : Req) (s : State) : Host.Outcome State Fault Refusal := .next (command infoCryptoOp (withOp 2 r) s)
/-- MAC_GEN (R493). -/
def execMacGen (r : Req) (s : State) : Host.Outcome State Fault Refusal := .next (command infoCryptoOp (withOp 3 r) s)
/-- MAC_VER (R493). -/
def execMacVer (r : Req) (s : State) : Host.Outcome State Fault Refusal := .next (command infoCryptoOp (withOp 4 r) s)
/-- SHA_256 (R493). -/
def execSha256 (r : Req) (s : State) : Host.Outcome State Fault Refusal := .next (command infoCryptoOp (withOp 5 r) s)
/-- ECDSA_VERIFY (R493). -/
def execEcdsaVerify (r : Req) (s : State) : Host.Outcome State Fault Refusal := .next (command infoCryptoOp (withOp 6 r) s)
/-- RANDOM (R493). -/
def execRandom (r : Req) (s : State) : Host.Outcome State Fault Refusal := .next (command infoCryptoOp (withOp 7 r) s)

/-! ### The KEY block (R498) -/

/-- The KEY block at an offset. -/
def readKey (off : Nat) (s : State) : Option Word :=
  match off with
  | 0x00 => some (keyStat s)
  | 0x04 => some (pack [(16, s.keys.zcount), (0, b2n s.keys.bankB)])
  | 0x08 => some (word s.keys.seq)
  | 0x0C => some 0
  | 0x10 => some (rootStat s)
  | _ =>
    if 0x1000 ≤ off ∧ off < 0x1200 then
      if off % 8 = 0 then some (slotInfo ((off - 0x1000) / 8) s) else some (slotGen ((off - 0x1000) / 8) s)
    else none

end Sys2Proof.Machine
end

