-- ==== Sys2Proof/Machine/Trx.lean ====
section
/-! DEFINITION. The transceivers of CAN0 to CAN5 on the P-die (R380 to R387). -/

namespace Sys2Proof.Machine

/-- Transceiver n of the P-die. -/
def trxP (n : Nat) (s : State) : Trx := nth s.pdie.trx n
/-- Transceiver n of the P-die changed by f. -/
def modTrx (n : Nat) (f : Trx → Trx) (s : State) : State := modP (fun p => { p with trx := upd p.trx n f }) s

/-- The low-power state that LP names (R380). -/
def lowPower (x : Trx) : Nat := if bit 0 x.cfg then 4 else 3

/-- The network of CANn is asleep (R394). -/
def netAsleep (n : Nat) (s : State) : Bool := (nth s.nm.chans n).phase == 3

/-- The state of transceiver n: the first line of R381 that applies. A wake takes it to NORMAL while the link is LIVE and
the device runs, until the L-die has taken it as a wake of its channel (R387); with group 0x06 disabled it keeps its state (R399). -/
def trxState (n : Nat) (s : State) : Nat :=
  let x := trxP n s
  let c := (nth s.can.ctls n).state
  let woken := x.wake && !x.told
  if s.pdie.power = 3 || s.pdie.sup == .reset then 0
  else if s.pdie.sup != .linked then 3
  else if s.pdie.power != 0 then lowPower x
  else if groupOff 0x06 s then if woken then 1 else x.tstate
  else if netAsleep n s && !woken then lowPower x
  else if c == .monitor then 2
  else if c != .stopped || woken then 1
  else lowPower x

/-- Transceiver n brought to its state; FEC returns to 0 on entry to STANDBY (R385). What it stood for under the command of a
running L-die is kept for R398. -/
def syncTrx (n : Nat) (s : State) : State :=
  let st := trxState n s
  let live := s.pdie.sup == .linked && s.pdie.power == 0 && s.clk.step == .run
  let asleep := netAsleep n s
  modTrx n (fun x =>
    { x with tstate := st, fec := if st = 3 ∧ x.tstate != 3 then 0 else x.fec
             sleeping := if live then asleep else x.sleeping }) s

/-- Every transceiver brought to its state. -/
def syncAllTrx (s : State) : State := (List.range 6).foldl (fun s n => syncTrx n s) s

/-- Selective wake runs on transceiver n: SW_EN with a configuration that can be used (R385, R386). -/
def selective (x : Trx) : Bool := bit 1 x.cfg && !x.swErr

/-- A wake of transceiver n with a cause: WAKE and WCAUSE, counted; NORMAL while the link is LIVE and the device runs, else
a wake request to the power manager, once the P-die has been told of an entry as well (R387, R409, R571). -/
def wakeTrx (n cause : Nat) (s : State) : State :=
  let s := bump (ctr 0x0B (4 * n + cause - 1)) s
  let s := modTrx n (fun x => { x with wake := true, cause := cause, told := false }) s
  let s := if s.pdie.sup == .linked && s.pdie.power == 0 then pushUp (.trx n 3 s.pNow) (syncTrx n s) else s
  if s.pdie.power == 0 && s.pdie.target == 0 then s
  else modP (fun p => { p with wakeReq := p.wakeReq ||| 1 <<< (4 + n) }) s

/-- A phase of a wake-up pattern counts: always from 1.8 µs, never below 0.5 µs, and between them as it may be (R384). -/
def phaseCounts (ns : Nat) (s : State) : Bool × State :=
  if 1800 ≤ ns then (true, s)
  else if ns < 500 then (false, s)
  else
    let (w, s) := freeWord s
    (bit 0 w, s)

/-- WAKE_UP_PATTERN: a dominant, a recessive and a dominant phase of a, b and c ns on the bus of transceiver n (R384). -/
def execWakeUpPattern (t n a b c : Nat) (s : State) : Host.Outcome State Fault Refusal :=
  .next (if 6 ≤ n ∨ (trxP n s).tstate != 3 then s
    else
      let s := toP t s
      let (p, s) := phaseCounts a s
      let (q, s) := phaseCounts b s
      let (r, s) := phaseCounts c s
      if p && q && r && a + b + c ≤ fld 15 12 (trxP n s).cfg * 1000000 then wakeTrx n 1 s else s)

/-- A decoded classical frame is a wake-up frame of transceiver x (R385): id carries the identifier and, in bit 29, IDE. -/
def wakeFrame (x : Trx) (id : Word) (dlc : Nat) (data : List Byte) : Bool :=
  let mask := (x.dlo.toNat + x.dhi.toNat * 2 ^ 32)
  (fld 28 0 id ^^^ fld 28 0 x.wid) &&& fld 28 0 x.wmask == 0 && bit 29 id == bit 29 x.wid && dlc == fld 11 8 x.cfg &&
    (mask == 0 || natLE (data.take (min 8 dlc)) &&& mask != 0)

/-- WAKE_UP_FRAME: transceiver n has decoded a valid classical frame: FEC has risen by the frame errors since the one before it
and falls by 1, and a wake-up frame wakes it; where the errors bring FEC to 32, they do (R385). -/
def execWakeUpFrame (t n : Nat) (head : FrameHead) (dlc : Nat) (data : List Byte) (s : State) :
    Host.Outcome State Fault Refusal :=
  let x := trxP n s
  .next (if 6 ≤ n ∨ x.tstate != 3 ∨ !selective x ∨ s.pdie.sup == .cold then s
    else if 32 ≤ x.fec + head.errs then wakeTrx n 3 (modTrx n (fun x => { x with fec := 32 }) (toP t s))
    else
      let s := modTrx n (fun x => { x with fec := x.fec + head.errs - 1 }) (toP t s)
      if wakeFrame x head.id dlc data then wakeTrx n 2 s else s)

/-- FEC_WAKE: the frame errors of transceiver n bring FEC to 32 (R385). -/
def execFecWake (t n : Nat) (s : State) : Host.Outcome State Fault Refusal :=
  let x := trxP n s
  .next (if 6 ≤ n ∨ x.tstate != 3 ∨ !selective x ∨ s.pdie.sup == .cold then s
    else wakeTrx n 3 (modTrx n (fun x => { x with fec := 32 }) (toP t s)))

/-- TXD_DOM_TIMEOUT: the TXD of transceiver n has stood dominant for too long, and its transmitter lets the bus go
(R382). -/
def execTxdDomTimeout (t n : Nat) (s : State) : Host.Outcome State Fault Refusal :=
  .next (if 6 ≤ n ∨ (trxP n s).tstate != 1 then s
    else
      let s := modTrx n (fun x => { x with txdDom := true, held := some t }) (toP t s)
      pushUp (.trx n 1 s.pNow) (reportP 0x160 n 0 s))

/-- TRX_THERMAL: the thermal shutdown of transceiver n begins or releases (R382). -/
def execTrxThermal (t n : Nat) (on : Bool) (s : State) : Host.Outcome State Fault Refusal :=
  .next (if 6 ≤ n ∨ (trxP n s).thermal == on ∨ (trxP n s).tstate = 0 then s
    else
      let s := modTrx n (fun x => { x with thermal := on }) (toP t s)
      if on then pushUp (.trx n 2 s.pNow) (reportP 0x161 n 0 s) else s)

/-- A transceiver register word arrives on the P-die, by its offset in the block: a configuration that cannot be used sets
SW_ERR, reported as it sets (R386). -/
def takeTrx (off : Nat) (v : Word) (s : State) : State :=
  let n := off / 0x20
  let s := modTrx n (fun x =>
    match off % 0x20 with
    | 0x00 => { x with cfg := v }
    | 0x04 => { x with wake := x.wake && !bit 8 v, txdDom := x.txdDom && !bit 9 v }
    | 0x08 => { x with wid := v }
    | 0x0C => { x with wmask := v }
    | 0x10 => { x with dlo := v }
    | 0x14 => { x with dhi := v }
    | _ => x) s
  let x := trxP n s
  let bad := bit 1 x.cfg && Config.swUnusable x.cfg x.wid x.wmask x.dlo x.dhi
  let s := modTrx n (fun x => { x with swErr := bad }) s
  syncTrx n (if bad && !x.swErr then reportP 0x162 n 0 s else s)

end Sys2Proof.Machine
end

