-- ==== Sys2Proof/Machine/Can.lean ====
section
/-! DEFINITION. The CAN controllers: bit timing (R342 to R344), states and errors (R345, R346, R357 to R359), transmission
(R347 to R351), reception (R352 to R356), authentication (R360 to R363) and the opcodes of R371 to R374. -/

namespace Sys2Proof.Machine

/-- The CAN side changed by f. -/
def modCan (f : CanSt → CanSt) (s : State) : State := { s with can := f s.can }
/-- Controller k. -/
def canCtl (k : Nat) (s : State) : CanCtl := nth s.can.ctls k
/-- Controller k changed by f. -/
def modCtl (k : Nat) (f : CanCtl → CanCtl) (s : State) : State := modCan (fun c => { c with ctls := upd c.ctls k f }) s
/-- Authentication profile a. -/
def canAuth (a : Nat) (s : State) : CanAuth := nth s.can.auth a
/-- Authentication profile a changed by f. -/
def modAuth (a : Nat) (f : CanAuth → CanAuth) (s : State) : State := modCan (fun c => { c with auth := upd c.auth a f }) s

/-! ### Fields -/

/-- MODE of a configuration. -/
def CanCfg.mode (c : CanCfg) : Nat := fld 2 0 c.ctl
/-- The formats enabled: classical, FD, XL. -/
def CanCfg.allows (c : CanCfg) (fmt : Nat) : Bool := fmt == 0 || (fmt == 1 && bit 4 c.ctl) || (fmt == 2 && bit 5 c.ctl)
/-- RETRY. -/
def CanCfg.retry (c : CanCfg) : Nat := fld 3 0 c.txcfg
/-- The format of a frame: 0 classical, 1 FD, 2 XL (R356). -/
def frameFmt (w0 : Word) : Nat := fld 31 30 w0
/-- The queue slots of a frame (R347). -/
def frameSlots (f : CanFrame) : Nat := max 1 (ceilDiv f.data.length 64)
/-- The queue slots in use. -/
def slotsUsed (l : List CanFrame) : Nat := (l.map frameSlots).sum

/-- ERRSTATE (R345, R378). -/
def errState (c : CanCtl) : Nat :=
  if c.state = .busOff ∨ c.state = .recovering then 2 else if 127 < c.tec ∨ 127 < c.rxErr then 1 else 0

/-- The code of a controller's state (R378). -/
def canStateCode (st : CanState) : Nat :=
  match st with
  | .stopped => 0 | .integrating => 1 | .active => 2 | .restricted => 3 | .monitor => 4 | .busOff => 5 | .recovering => 6

/-- CAN_STATk. -/
def canStat (c : CanCtl) : Word :=
  pack [(24, b2n c.cfgPend), (16, 64 - slotsUsed c.normal), (8, 16 - slotsUsed c.urgent), (6, b2n c.alone),
    (4, errState c), (0, canStateCode c.state)]
/-- CAN_ERRk. -/
def canErr (c : CanCtl) : Word := pack [(24, c.ackRun), (16, c.rxErr % 256), (0, c.tec % 512)]
/-- The bytes of a record (R354). -/
def recordBytes (r : List Word) : Nat := 4 * r.length
/-- USED. -/
def fifoUsed (c : CanCtl) : Nat := (c.fifo.map recordBytes).sum
/-- CAN_FIFOSTATk. -/
def fifoStat (c : CanCtl) : Word := pack [(31, b2n c.ovf), (0, fifoUsed c)]

/-- The event CAN_RX at tick t; with group 0x06 disabled none is raised (R370, R377). -/
def canEvent (t k kind handle : Nat) (ws : List Word) (s : State) : State :=
  if groupOff 0x06 s then s else postEventAt t 0xF07 (pack [(16, handle), (8, kind), (0, k)] :: ws) s

/-- A STATE event of controller k. -/
def stateEvent (k : Nat) (s : State) : State :=
  canEvent s.now k 4 0 [canStat (canCtl k s), canErr (canCtl k s)] s

/-- A TX_FAIL event of a frame of controller k (R351). -/
def txFail (k reason : Nat) (f : CanFrame) (s : State) : State :=
  postEvent 0xF07 [pack [(16, f.handle), (8, 3), (0, k)], pack [(8, f.lec), (0, reason)]] s

/-- Frames leave the queues of controller k without being sent, where p picks them. -/
def dropFrames (k reason : Nat) (p : CanFrame → Bool) (s : State) : State :=
  let c := canCtl k s
  let gone := (c.urgent ++ c.normal).filter p
  let s := modCtl k (fun c => { c with urgent := c.urgent.filter (fun f => !p f), normal := c.normal.filter (fun f => !p f) }) s
  gone.foldl (fun s f => txFail k reason f s) s

/-! ### Bit timing (R342 to R344) -/

/-- A phase's bit time, ticks. -/
def bitTime (brp seg1 seg2 : Nat) : Nat := brp * (1 + seg1 + seg2)

/-- The nominal bit time of CAN_NBTk. -/
def nominalTime (w : Word) : Nat := bitTime (fld 4 0 w + 1) (fld 17 10 w) (fld 24 18 w)
/-- The bit time of a data phase. -/
def dataTime (w : Word) : Nat := bitTime (fld 2 0 w + 1) (fld 19 13 w) (fld 25 20 w)

/-- CAN_NBTk lies within R342. -/
def nbtOk (w : Word) : Bool :=
  1 ≤ fld 17 10 w && 1 ≤ fld 24 18 w && 1 ≤ fld 31 25 w && fld 31 25 w ≤ fld 24 18 w && 200 ≤ nominalTime w

/-- A data-phase word lies within R342, its bit time in [lo, hi]. -/
def dbtOk (w : Word) (lo hi : Nat) : Bool :=
  1 ≤ fld 19 13 w && 1 ≤ fld 25 20 w && 1 ≤ fld 31 26 w && fld 31 26 w ≤ fld 25 20 w && lo ≤ dataTime w && dataTime w ≤ hi

/-- CAN_PWMk fits the XL data bit time (R344), and a data rate above 8 Mbit/s has TMS. -/
def pwmOk (c : CanCfg) : Bool :=
  if bit 12 c.xbt then
    1 ≤ fld 5 0 c.pwm && 1 ≤ fld 21 16 c.pwm && fld 5 0 c.pwm + fld 21 16 c.pwm == dataTime c.xbt
  else 25 ≤ dataTime c.xbt

/-- The sample point of a phase, ticks from the start of the bit (R342). -/
def samplePoint (brp seg1 : Nat) : Nat := brp * (1 + seg1)

/-- The secondary sample point of a data bit, ticks after its TXD edge (R343). -/
def secondaryPoint (c : CanCtl) : Nat := c.tdcv + fld 30 24 c.cfg.tdc

/-- CAN_TDCk fits the data phases: TDC_EN only with a BRP of 1 or 2 (R343). -/
def tdcOk (c : CanCfg) : Bool :=
  !bit 31 c.tdc || ((!bit 4 c.ctl || fld 2 0 c.dbt ≤ 1) && (!bit 5 c.ctl || fld 2 0 c.xbt ≤ 1))

/-- The checks 2 and 3 of CAN_CFG (R371). -/
def canCfgOk (k : Nat) (c : CanCfg) : Bool :=
  let xlHw := k ≤ 3
  onlyBits 0x0003FFF7 c.ctl && onlyBits 0xFFFFFC1F c.nbt && onlyBits 0xFFFFE007 c.dbt && onlyBits 0xFFFFF007 c.xbt &&
    onlyBits 0x3F3F003F c.pwm && onlyBits 0xFF7F017F c.tdc && onlyBits 0x0001FF0F c.txcfg &&
    c.mode ≤ 3 && (xlHw || (!bit 5 c.ctl && !bit 12 c.xbt)) && nbtOk c.nbt &&
    (!bit 4 c.ctl || dbtOk c.dbt 25 (nominalTime c.nbt)) &&
    (!bit 5 c.ctl || (dbtOk c.xbt 10 (nominalTime c.nbt) && pwmOk c)) && tdcOk c

/-! ### States -/

/-- The state that MODE names once the controller has integrated (R345). -/
def modeState (mode : Nat) : CanState :=
  match mode with | 2 => .restricted | 3 => .monitor | 0 => .stopped | _ => .active

/-- Controller k may run: the crystal is the root, no COAST, RUN or IDLE, its unit open (R369, R561, R563, R566). -/
def canClocked (k : Nat) (s : State) : Bool :=
  !s.clk.coast && !s.clk.rootRc && decide (s.clk.power ≤ 1) && !s.clk.gate.testBit k && !s.clk.gatePend.testBit k

/-- The controller takes part in frames on its bus. -/
def CanCtl.onBus (c : CanCtl) : Bool := c.state == .active || c.state == .restricted || c.state == .monitor

/-- What a stop at tick t leaves of the frame in progress on a controller's bus: it still ends in the present state (R345). -/
def CanCtl.cutAt (t : Nat) (c : CanCtl) : Option (Nat × CanState) := if c.onBus then some (t, c.state) else c.tail

/-- The state that controller k goes to from INTEGRATING: its MODE's, or with group 0x06 disabled that of DIS (R345, R370). -/
def targetState (k : Nat) (s : State) : CanState :=
  let c := canCtl k s
  if groupOff 0x06 s then (if bit 16 c.cfg.ctl then .restricted else .stopped) else modeState c.cfg.mode

/-- The filter entries of controller k set at the ticks l are in force: each CAN_FILTER_SET that waits for them completes (R374). -/
def filtersIn (k : Nat) (l : List (Nat × Vector CanFilter 64)) (s : State) : State :=
  l.foldl (fun s x => completeAll (.canFilter k x.1) .done (fun _ => []) s) s

/-- The controller passes through STOPPED, at the end of a frame in progress, into the state it is to have (R345, R370); TXD is
recessive (R382). -/
def startCtl (k : Nat) (s : State) : State :=
  let runs := canClocked k s && targetState k s != .stopped
  syncTrx k (filtersIn k (canCtl k s).was (modTrx k (fun x => { x with held := none }) (modCtl k (fun c =>
    { c with state := if runs then .integrating else .stopped, tail := c.cutAt s.now, tec := 0, rxErr := 0, boffEnd := none }) s)))

/-- The controller stops: at once, but for a frame in progress, which it ends (R345). -/
def stopCtl (k : Nat) (s : State) : State :=
  syncTrx k (filtersIn k (canCtl k s).was (modTrx k (fun x => { x with held := none }) (modCtl k (fun c =>
    { c with state := .stopped, tail := c.cutAt s.now, boffEnd := none }) s)))

/-- A row about a frame of controller k, with its SOF at tick sof where the row has it, else 0: ok tells whether the row acts, act
what it does. A frame that was in progress as the controller stopped ends in the state the controller had then, after which
the controller stands where it stood (R345). -/
def onFrame (k sof : Nat) (ok : State → Bool) (act : State → State) (s : State) : State :=
  match (canCtl k s).tail with
  | none => if ok s then act s else s
  | some (t, st) =>
    if t < sof then
      if ok s then act (modCtl k (fun c => { c with tail := none }) s) else s
    else
      let live := modCtl k (fun c => { c with state := st, tail := none }) s
      let here := (canCtl k s).state
      let zero := here == .integrating
      if !ok live then s
      else modCtl k (fun c => { c with state := here, tail := none, boffEnd := none, tec := if zero then 0 else c.tec
                                       rxErr := if zero then 0 else c.rxErr }) (act live)

/-- The CAN_CFG in progress of controller k ends. -/
def cfgDone (k : Nat) (st : Status) (s : State) : State :=
  completeAll (.can k) st (fun _ => []) (modCtl k (fun c => { c with cfgPend := false, cfgEnd := none }) s)

/-- A rise of the error counters: CAN_PASSIVE at the entry to error-passive (R345, R357). -/
def passiveEdge (k : Nat) (before s : State) : State :=
  if errState (canCtl k before) = 0 ∧ errState (canCtl k s) = 1 then reportL 0x142 k s else s

/-- ALONE is set (R359). -/
def setAlone (k : Nat) (s : State) : State :=
  if (canCtl k s).alone then s
  else reportL 0x144 k (stateEvent k (modCtl k (fun c => { c with alone := true }) s))

/-- ACKRUN returns to 0, and ALONE clears with it (R359). -/
def ackClear (k : Nat) (s : State) : State :=
  let was := (canCtl k s).alone
  let s := modCtl k (fun c => { c with ackRun := 0, alone := false }) s
  if was then stateEvent k s else s

/-- Bus-off: counted and reported; the queues are flushed with BOFF_FLUSH, and AUTO_REC starts its delay (R345,
R358). -/
def busOff (k : Nat) (s : State) : State :=
  let c := canCtl k s
  let auto := if bit 7 c.cfg.ctl then some (s.now + fld 15 8 c.cfg.ctl * 2000000) else none
  let s := modCtl k (fun c => { c with state := .busOff, boffEnd := auto }) s
  let s := reportL 0x141 k (bump (ctr 0x0A (0x10 * k + 5)) s)
  if bit 16 c.cfg.txcfg then dropFrames k 2 (fun _ => true) s else s

/-- INTEGRATION_DONE: 11 recessive bits take controller k to its mode's state, and its CAN_CFG completes (R345,
R371). -/
def integrationDone (k : Nat) (s : State) : State :=
  if (canCtl k s).state != .integrating then s
  else
    let s := modCtl k (fun c => { c with state := targetState k s, tail := none }) s
    cfgDone k .done (syncTrx k s)

/-- INTEGRATION_TIMEOUT: after 100 management ticks the CAN_CFG completes with FAULT_ACTIVE while integration goes on
(R371). -/
def execIntegrationTimeout (k : Nat) (s : State) : Host.Outcome State Fault Refusal :=
  .next (match (canCtl k s).cfgEnd with
    | none => s
    | some m => if hostUp s then cfgDone k .faultActive (toL (m * mgmtTicks) s) else s)

/-- BOFF_DELAY_END: with AUTO_REC, recovery starts (R345). -/
def execBoffDelayEnd (k : Nat) (s : State) : Host.Outcome State Fault Refusal :=
  let c := canCtl k s
  .next (match c.boffEnd with
    | none => s
    | some e => if c.state = .busOff then modCtl k (fun c => { c with state := .recovering, boffEnd := none }) (toL e s) else s)

/-- The LEC, TX and DATA of an error (R378). -/
def errCapWord (tx data : Bool) (lec : Nat) : Word := pack [(4, b2n tx), (3, b2n data), (0, lec % 8)]

/-- RESTRICTED_ERROR: an error in RESTRICTED sends controller k through INTEGRATING (R345, R346). -/
def execRestrictedError (t k lec : Nat) (data : Bool) (s : State) : Host.Outcome State Fault Refusal :=
  let s := toL t s
  .next (if (canCtl k s).state != .restricted then s
    else bump (ctr 0x0A (0x10 * k + 3))
      (modCtl k (fun c => { c with state := .integrating, errCap := errCapWord false data lec }) s))

/-- An error that controller k detects while it receives, at tick t: REC rises by n in ACTIVE (R357). -/
def rxBad (t k lec n : Nat) (data : Bool) (s : State) : State :=
  let add := if (canCtl k s).state == .active then n else 0
  let s' := modCtl k (fun c => { c with rxErr := min 255 (c.rxErr + add), errCap := errCapWord false data lec, lastEnd := t }) s
  passiveEdge k s (bump (ctr 0x0A (0x10 * k + 3)) s')

/-- A data-phase error of a received frame raises no error counter: the frame is an XL one on a controller with TMS, which runs with
error signalling disabled there (R344, PRESUMED, log entry 101). The row does not name the format: a free value does. -/
def rxMuted (k : Nat) (data : Bool) (s : State) : Bool × State :=
  let c := (canCtl k s).cfg
  if data && bit 5 c.ctl && bit 12 c.xbt then
    let (w, s) := freeWord s
    (bit 0 w, s)
  else (false, s)

/-- CAN_RX_ERROR: an error detected while controller k receives. REC rises by 8 where the rules of ISO 11898-1 say so,
else by 1 (R357). -/
def execCanRxError (t k lec : Nat) (data eight : Bool) (s : State) : Host.Outcome State Fault Refusal :=
  .next (onFrame k 0 (fun s => (canCtl k s).state == .active || (canCtl k s).state == .monitor) (fun s =>
    let (muted, s) := rxMuted k data (toL t s)
    rxBad t k lec (if muted then 0 else if eight then 8 else 1) data s) s)

/-! ### Authentication (R360 to R363) -/

/-- Profile a is enabled and applies to a frame of controller k in a direction (R360). -/
def profileFits (k : Nat) (tx : Bool) (w0 : Word) (a : CanAuth) : Bool :=
  bit 4 a.cfg && fld 3 0 a.cfg == k && bit 5 a.cfg == tx && a.id == w0

/-- The profile that applies to a frame, the lowest of them. -/
def authProfileOf (k : Nat) (tx : Bool) (w0 : Word) (s : State) : Option Nat :=
  (List.range 64).find? (fun a => profileFits k tx w0 (canAuth a s))

/-- FV_LEN. -/
def CanAuth.fvLen (a : CanAuth) : Nat := fld 14 12 a.cfg
/-- MAC_LEN. -/
def CanAuth.macLen (a : CanAuth) : Nat := fld 11 8 a.cfg
/-- The authentication bytes of a profile. -/
def CanAuth.extra (a : CanAuth) : Nat := a.fvLen + a.macLen

/-- The load of a profile's key (R363, R474, R475). -/
def authLoad (a : Nat) (s : State) : Except Status (List Byte) :=
  let p := canAuth a s
  loadCheck (fld 21 16 p.cfg) 3 (some p.gen) s

/-- The truncated MAC of a frame under a profile (R360). -/
def authMac (key : List Byte) (p : CanAuth) (w0 : Word) (data : List Byte) (fv : Nat) : List Byte :=
  (cmac key (bytesLE 4 w0.toNat ++ data ++ bytesLE 8 fv)).take p.macLen

/-- The data field that profile a makes of authentic data; FV rises by one first, and is saved at each multiple of 65,536
(R360, R361). -/
def authSend (a : Nat) (key : List Byte) (w0 : Word) (data : List Byte) (s : State) : List Byte × State :=
  let p := canAuth a s
  let fv := (p.fv + 1) % 2 ^ 64
  let s := modAuth a (fun x => { x with fv := fv, saved := if fv % 65536 = 0 then fv else x.saved }) s
  (data ++ bytesLE p.fvLen fv ++ authMac key p w0 data fv, s)

/-- The candidate freshness value: the smallest above the last whose low bytes are those received (R362). -/
def candidate (last len low : Nat) : Nat :=
  let m := 2 ^ (8 * len)
  let c := last / m * m + low
  if last < c then c else c + m

/-- What a receive profile makes of a frame: whether the MAC verifies under the candidate (R362). -/
def authCheck (a : Nat) (w0 : Word) (data : List Byte) (s : State) : Bool × State :=
  let p := canAuth a s
  let l := authLoad a s
  let s := countLoad (fld 21 16 p.cfg) l s
  match l with
  | .error _ => (false, s)
  | .ok key =>
    if data.length < p.extra then (false, s)
    else
      let n := data.length - p.extra
      let fv := candidate p.fv p.fvLen (natLE ((data.drop n).take p.fvLen))
      if authMac key p w0 (data.take n) fv == data.drop (n + p.fvLen) then
        (true, modAuth a (fun x => { x with fv := fv }) s)
      else (false, s)

/-- A failed verification: counted, and reported once per management tick and profile (R362). -/
def authFailed (k a : Nat) (s : State) : State :=
  let s := bump (ctr 0x0A (0x10 * k + 7)) s
  if (canAuth a s).reported == some (mgmtNow s) then s
  else reportL 0x145 a (modAuth a (fun x => { x with reported := some (mgmtNow s) }) s)

/-! ### Transmission (R347 to R351) -/

/-- The queue with its first frame changed, or gone where f gives none. -/
def atHead (f : CanFrame → Option CanFrame) : List CanFrame → List CanFrame
  | [] => []
  | x :: rest => match f x with
    | some y => y :: rest
    | none => rest

/-- The head of URGENT (source 0) or of NORMAL (source 1). -/
def headOf (k src : Nat) (s : State) : Option CanFrame :=
  if src = 0 then (canCtl k s).urgent.head? else (canCtl k s).normal.head?

/-- The head of a queue changed. -/
def modHead (k src : Nat) (f : CanFrame → Option CanFrame) (s : State) : State :=
  modCtl k (fun c => if src = 0 then { c with urgent := atHead f c.urgent } else { c with normal := atHead f c.normal }) s

/-- A frame put at the end of a queue, with the next handle (R347, R351). -/
def enqueue (k : Nat) (urgent : Bool) (f : CanFrame) (s : State) : State :=
  modCtl k (fun c =>
    let f := { f with handle := c.handle, entered := s.now }
    let c := { c with handle := (c.handle + 1) % 65536 }
    if urgent then { c with urgent := c.urgent ++ [f] } else { c with normal := c.normal ++ [f] }) s

/-- A measurement of the loop delay, 0 for none (R343). -/
def measureTdc (k fmt meas : Nat) (s : State) : State :=
  let w := (canCtl k s).cfg.tdc
  if !bit 31 w || fmt = 0 || meas = 0 || meas < fld 22 16 w then s
  else if 127 < meas then
    reportL 0x140 k (modCtl k (fun c => { c with tdcv := 127, tdcSat := true }) s)
  else modCtl k (fun c => { c with tdcv := meas, tdcSat := false }) s

/-- The measurement of a frame whose row does not carry it: the loop delay is a free value (R343, log entry 102). -/
def measureFree (k fmt : Nat) (s : State) : State :=
  if !bit 31 (canCtl k s).cfg.tdc || fmt = 0 then s
  else
    let (w, s) := freeWord s
    measureTdc k fmt (w.toNat % 256) s

/-- The data phase of an XL frame of a controller with TMS runs in the transceiver's fast mode, with error signalling disabled
(R344). -/
def fastMode (c : CanCtl) (fmt : Nat) : Bool := bit 12 c.cfg.xbt && fmt == 2

/-- A frame of controller k went out without error: counted, TEC falls, ACKRUN ends (R351, R357). -/
def txGood (k fmt meas : Nat) (s : State) : State :=
  let s := bump (ctr 0x0A (0x10 * k)) s
  let s := modCtl k (fun c => { c with tec := c.tec - 1 }) s
  measureTdc k fmt meas (ackClear k s)

/-- An attempt of controller k ended in an error: the counters (R357, R359). TEC does not rise by the two exceptions of ISO 11898-1,
which quiet names: an error-passive node sees an ACK error and no dominant bit in its passive error flag; a stuff error during
arbitration, where a recessive stuff bit is read as dominant. Nor does it with error signalling disabled (R344, PRESUMED, log
entry 101). -/
def txBad (k fmt lec : Nat) (data quiet : Bool) (s : State) : State :=
  let c := canCtl k s
  let free := (data && fastMode c fmt) || (quiet && ((errState c == 1 && lec == 3) || (lec == 1 && !data)))
  let s' := modCtl k (fun c => { c with
    tec := if free then c.tec else c.tec + 8, errCap := errCapWord true data lec
    ackRun := if lec = 3 then min 64 (c.ackRun + 1) else c.ackRun }) s
  passiveEdge k s (bump (ctr 0x0A (0x10 * k + 2)) s')

/-- What follows the counters and the frame's own fate: ACKRUN ends, or ALONE is set; bus-off (R345, R357, R359). -/
def afterBad (k lec : Nat) (s : State) : State :=
  let s := if lec = 3 then s else ackClear k s
  let s := if (canCtl k s).ackRun = 64 then setAlone k s else s
  if 255 < (canCtl k s).tec then busOff k s else s

/-- The head of a queue after a failed attempt: it stays, or leaves once its retransmissions are used up (R350). -/
def headFailed (k src lec : Nat) (s : State) : State :=
  match headOf k src s with
  | none => s
  | some f =>
    let f := { f with fails := f.fails + 1, onlyAck := f.onlyAck && lec == 3, lec := lec }
    let retry := (canCtl k s).cfg.retry
    if retry = 15 ∨ f.fails ≤ retry then modHead k src (fun _ => some f) s
    else
      let s := txFail k 1 f (modHead k src (fun _ => none) s)
      if f.onlyAck then setAlone k s else s

/-- A sent length is valid for a format (R372). -/
def sentLenOk (fmt n : Nat) : Bool :=
  match fmt with
  | 0 => n ≤ 8
  | 1 => n ≤ 8 || [12, 16, 20, 24, 32, 48, 64].contains n
  | _ => 1 ≤ n && n ≤ 1000

/-! ### Reception (R352 to R356) -/

/-- A frame as the bus brings it. -/
structure CanRx where
  w0 : Word
  rtr : Bool
  brs : Bool
  esi : Bool
  af : Word
  xl : Word
  data : List Byte
  /-- device time of its SOF edge -/
  sof : Nat
  deriving DecidableEq, Repr, Inhabited

/-- Filter entry j matches a frame (R352). -/
def filterFits (f : CanFilter) (x : CanRx) : Bool :=
  bit 0 f.tgt && (fld 12 10 f.tgt).testBit (frameFmt x.w0) && bit 29 f.id == bit 29 x.w0 &&
    (fld 28 0 x.w0 ^^^ fld 28 0 f.id) &&& fld 28 0 f.mask == 0

/-- The filter entries in force at tick sof (R352). -/
def filtersAt (k sof : Nat) (s : State) : Vector CanFilter 64 :=
  match (canCtl k s).was.find? (fun x => sof ≤ x.1) with
  | some x => x.2
  | none => (canCtl k s).filters

/-- The entry that decides: the lowest that matches, of those in force at the frame's SOF. -/
def filterOf (k : Nat) (x : CanRx) (s : State) : Option Nat :=
  (List.range 64).find? (fun j => filterFits (nth (filtersAt k x.sof s) j) x)

/-- The record of a frame (R356). -/
def canRecord (k j : Nat) (x : CanRx) (authOk authBad ovr : Bool) : List Word :=
  let xl := frameFmt x.w0 == 2
  [x.w0, pack [(24, k), (17, j), (16, b2n ovr), (15, b2n authBad), (14, b2n authOk), (13, b2n x.esi), (12, b2n x.brs),
    (11, b2n x.rtr), (0, x.data.length)]] ++ natToWords 2 x.sof ++
    [if xl then x.af else 0, if xl then x.xl else 0] ++ byteWords x.data

/-- A frame for receive buffer b (R353). -/
def toBuffer (k b : Nat) (overwrite : Bool) (record : Bool → List Word) (s : State) : State :=
  let isNew := (canCtl k s).bufNew.testBit b
  let s := if isNew then
      bump (ctr 0x0A (0x10 * k + 6)) (modCtl k (fun c => { c with bufOvr := c.bufOvr ||| 1 <<< b }) s) else s
  if isNew && !overwrite then s
  else modCtl k (fun c => { c with bufs := put c.bufs b (record isNew), bufNew := c.bufNew ||| 1 <<< b }) s

/-- A dropped frame is reported once per management tick and controller (R354). -/
def fifoDropped (k : Nat) (s : State) : State :=
  let s := bump (ctr 0x0A (0x10 * k + 6)) (modCtl k (fun c => { c with ovf := true }) s)
  if (canCtl k s).overrun == some (mgmtNow s) then s
  else reportL 0x143 k (modCtl k (fun c => { c with overrun := some (mgmtNow s) }) s)

/-- A frame for the receive FIFO (R354). -/
def toFifo (k : Nat) (record : List Word) (s : State) : State :=
  let c := canCtl k s
  let used := fifoUsed c
  let after := used + recordBytes record
  let wm := 64 * fld 15 8 c.cfg.txcfg
  if 16384 < after then fifoDropped k s
  else
    let s := modCtl k (fun c => { c with fifo := c.fifo ++ [record] }) s
    if wm != 0 && used < wm && wm ≤ after then canEvent s.now k 5 0 [fifoStat (canCtl k s)] s else s

/-- A frame that its filter entry admits goes to its target (R352). -/
def deliver (k j : Nat) (x : CanRx) (authOk authBad : Bool) (s : State) : State :=
  let tgt := (nth (filtersAt k x.sof s) j).tgt
  let record := canRecord k j x authOk authBad
  match fld 2 1 tgt with
  | 1 => toBuffer k (fld 7 3 tgt) (bit 9 tgt) record s
  | 2 => toFifo k (record false) s
  | 3 => canEvent x.sof k 1 0 (record false) s
  | _ => s

/-- The counting of a frame received without error: REC falls by one, and from above 127 to a value of 119 to 127 that the
spec leaves open (R357, log entry 41). -/
def rxGood (k : Nat) (s : State) : State :=
  let s := ackClear k (bump (ctr 0x0A (0x10 * k + 1)) s)
  let c := canCtl k s
  if c.state != .active then s
  else if 127 < c.rxErr then
    let (w, s) := freeWord s
    modCtl k (fun c => { c with rxErr := 119 + w.toNat % 9 }) s
  else modCtl k (fun c => { c with rxErr := c.rxErr - 1 }) s

/-- What reception makes of a valid frame: the state after delivery, and whether the gateway gets the frame, which no frame with
AUTH_BAD does (R352, R355, R360, R362, R403). -/
def canReceive (k : Nat) (x : CanRx) (s : State) : State × Bool :=
  let s := rxGood k s
  if frameFmt x.w0 = 2 ∧ 1000 < x.data.length then (bump (ctr 0x0A (0x10 * k + 8)) s, false)
  else match filterOf k x s with
    | none => (s, false)
    | some j =>
      let gw := bit 8 (nth (filtersAt k x.sof s) j).tgt
      match authProfileOf k false x.w0 s with
      | none => (deliver k j x false false s, gw)
      | some a =>
        let (ok, s) := authCheck a x.w0 x.data s
        if ok then (deliver k j x true false s, gw)
        else
          let s := authFailed k a s
          (if bit 22 (canAuth a s).cfg then s else deliver k j x false true s, false)

/-- Transceiver k passes the bus to RXD: an external one does, an integrated one in NORMAL and LISTEN (R380, R381). -/
def hears (k : Nat) (s : State) : Bool := 6 ≤ k || (trxP k s).tstate == 1 || (trxP k s).tstate == 2

/-- Transceiver k drives the bus in a frame with its SOF at tick sof: an integrated one in NORMAL, not in thermal shutdown, its TXD
recessive since its last timeout (R380, R382). -/
def drives (k sof : Nat) (s : State) : Bool :=
  let x := trxP k s
  6 ≤ k || (x.tstate == 1 && !x.thermal && (x.held.map (fun h => decide (h < sof))).getD true)

/-- The controller takes frames from the bus. -/
def receives (k : Nat) (s : State) : Bool := (canCtl k s).onBus && hears k s

/-- Controller k carries the format of a frame (R339, R345). -/
def formatOn (k : Nat) (x : CanRx) (s : State) : Bool := (canCtl k s).cfg.allows (frameFmt x.w0) && (frameFmt x.w0 != 2 || k ≤ 3)

/-- A frame as the standards of R340 allow it: RTR in classical format alone, BRS and ESI in FD, AF, SDT, VCID and SEC in XL, a base or
XL identifier of 11 bits, a length the format has; XL frames of up to 2,048 bytes are taken from the bus. -/
def rxShape (x : CanRx) : Bool :=
  let fmt := frameFmt x.w0
  let n := x.data.length
  (!x.rtr || fmt == 0) && ((!x.brs && !x.esi) || fmt == 1) && (fmt == 2 || (x.af == 0 && x.xl == 0)) &&
    (bit 29 x.w0 || fld 28 11 x.w0 == 0) && (fmt != 2 || !bit 29 x.w0) &&
    (if fmt = 2 then decide (1 ≤ n) && decide (n ≤ 2048) else sentLenOk fmt n)

/-! ### Network time (R364, R366) -/

/-- Network time changed by f. -/
def modNt (f : CanNt → CanNt) (s : State) : State := modCan (fun c => { c with nt := f c.nt }) s
/-- The controller of network time. -/
def CanNt.ctrl (n : CanNt) : Nat := fld 3 0 n.cfg
/-- ROLE. -/
def CanNt.role (n : CanNt) : Nat := fld 5 4 n.cfg
/-- PRIO. -/
def CanNt.prio (n : CanNt) : Nat := fld 8 6 n.cfg
/-- LEVEL2. -/
def CanNt.level2 (n : CanNt) : Bool := bit 12 n.cfg
/-- NMISS. -/
def CanNt.nmiss (n : CanNt) : Nat := fld 18 16 n.cfg
/-- CYCLE_T. -/
def CanNt.cycleT (n : CanNt) : Nat := n.cycle.toNat

/-- A number confined to ±lim. -/
def confine (lim : Nat) (x : Int) : Int := max (-(lim : Int)) (min (lim : Int) x)

/-- OFFSET at device time t: it follows the measured rate, and is slewed by 1 tick in every 1,000 until it has made up the
difference (R366). -/
def CanNt.offsetAt (n : CanNt) (t : Nat) : Int :=
  match n.last with
  | none => n.offset
  | some (_, d) => n.offset + n.rate * ((t : Int) - d) / 1000000000 + confine ((t - d) / 1000) n.slew

/-- NT at device time t (R364). -/
def CanNt.timeAt (n : CanNt) (t : Nat) : Int := (t : Int) + n.offsetAt t

/-- The device time at which x ticks of NT have passed since device time b: OFFSET drifts by far less than the time itself, so the
steps below settle on it. -/
def CanNt.after (n : CanNt) (b x : Nat) : Nat :=
  let go := fun (t : Nat) => (((b + x : Nat) : Int) - (n.offsetAt t - n.offsetAt b)).toNat
  let t := go (go (go (go (go (go (b + x))))))
  max t (go t)

/-- The cycles of NT that have begun since the base at device time t (R364). -/
def CanNt.cycles (n : CanNt) (t : Nat) : Nat :=
  match n.base with
  | none => 0
  | some b => if n.cycleT = 0 then 0 else ((n.timeAt t - n.timeAt b) / (n.cycleT : Int)).toNat
/-- The cycle count at device time t. -/
def CanNt.countAt (n : CanNt) (t : Nat) : Nat := (n.count + n.cycles t) % 64
/-- The device time at which the cycle that runs at device time t has reached x ticks of NT. -/
def CanNt.pointAt (n : CanNt) (t x : Nat) : Nat := n.after (n.base.getD 0) (n.cycles t * n.cycleT + x)
/-- The start of the cycle that runs at device time t. -/
def CanNt.startAt (n : CanNt) (t : Nat) : Nat := n.pointAt t 0

/-- Trigger i changed by f. -/
def modTrig (i : Nat) (f : CanTrig → CanTrig) (s : State) : State := modCan (fun c => { c with trigs := upd c.trigs i f }) s

/-- The written words of a trigger come into force; a cleared EN discards its buffer (R376). -/
def takeTrig (x : CanTrig) : CanTrig :=
  match x.next with
  | none => x
  | some (c, w, _) =>
    { x with cfg := c, win := w, next := none, buf := if bit 31 x.cfg && !bit 31 c then none else x.buf
             due := if bit 31 c then x.due else none }

/-- A trigger whose words were written before tick t, with them in force (R376). -/
def takeTrigBy (t : Nat) (x : CanTrig) : CanTrig :=
  match x.next with
  | some (_, _, w) => if w < t then takeTrig x else x
  | none => x

/-- A cycle starts at tick t: the trigger words written before it come into force (R376). -/
def cycleStart (t : Nat) (s : State) : State := modCan (fun c => { c with trigs := c.trigs.map (takeTrigBy t) }) s

/-- Trigger i with the words written before the present cycle in force (R376). -/
def settleTrig (i : Nat) (s : State) : State := modTrig i (takeTrigBy (s.can.nt.startAt s.now)) s

/-- Every trigger with the words written before the present cycle in force (R376). -/
def settleTrigs (s : State) : State := cycleStart (s.can.nt.startAt s.now) s

/-! ### Opcodes (R371 to R374) -/

/-- The payload of CAN_CFG. -/
def canCfgOf (r : Req) : CanCfg :=
  { ctl := arg r 0, nbt := arg r 1, dbt := arg r 2, xbt := arg r 3, pwm := arg r 4, tdc := arg r 5, txcfg := arg r 6 }

/-- A configuration without what takes effect at once: RETRY, FIFO_WM, BOFF_FLUSH, AUTO_REC, BOFF_DELAY, and FLUSH, which
is no configuration (R371). -/
def lasting (c : CanCfg) : CanCfg := { c with ctl := c.ctl &&& 0x0001007F, txcfg := 0 }

/-- CAN_CFG of controller k (R371). -/
def canConfigure (k : Nat) (n : CanCfg) (e : Entry) (s : State) : State × Ans :=
  let old := canCtl k s
  let c := { n with ctl := n.ctl &&& 0x0001FFF7, tdc := n.tdc &&& 0xFF7F0000 }
  if !canCfgOk k n then (s, .fail .badObject [])
  else
    let s := modCtl k (fun x => { x with cfg := c }) s
    let s := if bit 17 n.ctl then dropFrames k 3 (fun _ => true) s else s
    let s := dropFrames k 3 (fun f => !c.allows (frameFmt f.w0)) s
    let wait := fun (stop : Option Nat) (s : State) =>
      (modCtl k (fun x => { x with cfgPend := true, cfgEnd := stop }) s, Ans.wait (.can k) true [])
    if old.state = .busOff ∧ c.mode = 1 then
      wait none (modCtl k (fun x => { x with state := .recovering, boffEnd := none }) s)
    else if lasting c = lasting old.cfg then (s, .done [])
    else if c.mode = 0 then (giveQueued e (stopCtl k s), .done [])
    else wait (some (mgmtStart s + 100)) (startCtl k s)

/-- OBJECT is a controller. -/
def ctlOk (r : Req) (_ : State) : Bool := obj r ≤ 11

/-- CAN_CFG as the interpreter knows it. -/
def infoCanCfg : OpInfo :=
  { op := 0x0600, len := lenIs 7, obj := ctlOk, unit := fun r => some (obj r), run := fun e s => canConfigure (obj e.req) (canCfgOf e.req) e s }

/-- CAN_CFG (R371). -/
def execCanCfg (r : Req) (s : State) : Host.Outcome State Fault Refusal := .next (command infoCanCfg r s)

/-- The authentic bytes of CAN_TX. -/
def txLen (r : Req) : Nat := fld 10 0 (arg r 1)

/-- LENGTH of a CAN_TX fits LEN (R372). -/
def canTxFits (r : Req) : Bool :=
  r.payload.length == 4 + (if bit 11 (arg r 1) then 0 else ceilDiv (txLen r) 4)

/-- Check 1 of CAN_TX on controller k (R372). -/
def canTxValid (k : Nat) (r : Req) (extra : Nat) (s : State) : Bool :=
  let w0 := arg r 0
  let w1 := arg r 1
  let fmt := frameFmt w0
  let trig := bit 21 w1
  fmt ≤ 2 && (canCtl k s).cfg.allows fmt && (fmt != 2 || k ≤ 3) && (!bit 11 w1 || fmt == 0) && (!bit 12 w1 || fmt == 1) &&
    (fmt == 2 || (arg r 2 == 0 && arg r 3 == 0)) && sentLenOk fmt (txLen r + extra) &&
    (!trig || (fld 3 0 s.can.nt.cfg == k && fmt ≤ 1 && fld 20 16 w1 ≤ 15))

/-- The frame of a CAN_TX, before authentication. -/
def txFrame (r : Req) : CanFrame :=
  let w1 := arg r 1
  { w0 := arg r 0, rtr := bit 11 w1, brs := bit 12 w1, conf := bit 15 w1, af := arg r 2, xl := arg r 3
    data := if bit 11 w1 then [] else ((wordsToBytes r.payload).drop 16).take (txLen r) }

/-- A frame taken by its queue, or stored in its trigger buffer (R351, R367). -/
def placeFrame (k : Nat) (r : Req) (f : CanFrame) (s : State) : State × Ans :=
  let w1 := arg r 1
  let h := (canCtl k s).handle
  if bit 21 w1 then
    let s := modCtl k (fun c => { c with handle := (c.handle + 1) % 65536 }) s
    let keep := fun (t : CanTrig) => { t with buf := some { f with handle := h } }
    (modTrig (fld 20 16 w1) keep (settleTrig (fld 20 16 w1) s), .done [word h])
  else (enqueue k (bit 14 w1) f s, .done [word h])

/-- CAN_TX of controller k (R372); in COMMIT it fails with BUSY (R394). -/
def canTx (k : Nat) (r : Req) (s : State) : State × Ans :=
  let w1 := arg r 1
  let c := canCtl k s
  let prof := if bit 11 w1 then none else authProfileOf k true (arg r 0) s
  let extra := (prof.map (fun a => (canAuth a s).extra)).getD 0
  let f := txFrame r
  let room := fun (f : CanFrame) =>
    (nth s.nm.chans k).phase != 2 &&
      (bit 21 w1 || (if bit 14 w1 then slotsUsed c.urgent + frameSlots f ≤ 16 else slotsUsed c.normal + frameSlots f ≤ 64))
  if !canTxValid k r extra s then (s, .fail .badObject [])
  else if !bit 21 w1 && c.state != .active && c.state != .integrating then (s, .fail .faultActive [])
  else match prof with
    | none => if room f then placeFrame k r f s else (s, .fail .busy [])
    | some a =>
      let l := authLoad a s
      match l with
      | .error st => (countLoad (fld 21 16 (canAuth a s).cfg) l s, .fail st [])
      | .ok key =>
        if !room { f with data := f.data ++ List.replicate extra 0 } then (s, .fail .busy [])
        else
          let s := countLoad (fld 21 16 (canAuth a s).cfg) l s
          let (data, s) := authSend a key f.w0 f.data s
          placeFrame k r { f with data := data } s

/-- CAN_TX as the interpreter knows it. -/
def infoCanTx : OpInfo :=
  { op := 0x0601, len := lenBetween 4 256, fits := canTxFits, obj := ctlOk, unit := fun r => some (obj r)
    run := fun e s => canTx (obj e.req) e.req s }

/-- CAN_TX (R372). -/
def execCanTx (r : Req) (s : State) : Host.Outcome State Fault Refusal := .next (command infoCanTx r s)

/-- The records of a FIFO read: whole ones, up to a count and 1,024 bytes (R373). -/
def takeRecords : Nat → Nat → List (List Word) → List (List Word)
  | 0, _, _ => []
  | _, _, [] => []
  | n + 1, room, x :: rest => if recordBytes x ≤ room then x :: takeRecords n (room - recordBytes x) rest else []

/-- OBJECT of CAN_RX_READ: a controller, and one of its buffers or its FIFO (R373). -/
def rxObj (r : Req) : Bool :=
  onlyBits 0xFFF r.object && decide (fld 11 8 r.object ≤ 11) && (decide (fld 7 0 r.object < 32) || fld 7 0 r.object == 0xFF)

/-- CAN_RX_READ (R373). -/
def canRxRead (r : Req) (s : State) : State × Ans :=
  let k := fld 11 8 r.object
  let b := fld 7 0 r.object
  let w := arg r 0
  let c := canCtl k s
  if b < 32 then
    let data := if (nth c.bufs b).isEmpty then List.replicate 6 0 else nth c.bufs b
    let clear := fun (m : Nat) => setOff m b
    let s := if bit 8 w then s
      else modCtl k (fun c => { c with bufNew := clear c.bufNew, bufOvr := clear c.bufOvr }) s
    (s, .done data)
  else if fld 7 0 w = 0 then (s, .fail .badObject [])
  else
    let l := takeRecords (fld 7 0 w) 1024 c.fifo
    let s := if bit 8 w then s else modCtl k (fun c => { c with fifo := c.fifo.drop l.length }) s
    (s, .done l.flatten)
where
  /-- A number with bit b cleared. -/
  setOff (m b : Nat) : Nat := m - (m &&& 1 <<< b)

/-- CAN_RX_READ as the interpreter knows it. -/
def infoCanRxRead : OpInfo :=
  { op := 0x0602, len := lenIs 1, obj := fun r _ => rxObj r, unit := fun r => some (fld 11 8 r.object)
    run := fun e s => canRxRead e.req s }

/-- CAN_RX_READ (R373). -/
def execCanRxRead (r : Req) (s : State) : Host.Outcome State Fault Refusal := .next (command infoCanRxRead r s)

/-- Filter entry i of a CAN_FILTER_SET payload. -/
def filterArg (r : Req) (i : Nat) : CanFilter :=
  { id := arg r (1 + 3 * i), mask := arg r (2 + 3 * i), tgt := arg r (3 + 3 * i) }

/-- A filter entry of controller k is valid (R374). -/
def filterOk (k : Nat) (f : CanFilter) : Bool :=
  let xl := bit 12 f.tgt
  onlyBits 0x3FFFFFFF f.id && onlyBits 0x1FFFFFFF f.mask && onlyBits 0x1FFF f.tgt &&
    !(fld 2 1 f.tgt == 1 && xl) && !(3 < k && xl)

/-- CAN_FILTER_SET (R374): the entries are in force for every later SOF, and the command completes with the first row that shows one;
on a controller that takes part in no frames it completes at once (DESIGN CHOICE, log entry 86). -/
def canFilterSet (r : Req) (s : State) : State × Ans :=
  let k := fld 11 8 r.object
  let j := fld 5 0 r.object
  let n := (arg r 0).toNat
  let l := (List.range n).map (filterArg r)
  if n = 0 || 64 < n || 64 < j + n || !l.all (filterOk k) then (s, .fail .badObject [])
  else
    let set := fun (v : Vector CanFilter 64) => (List.range n).foldl (fun v i => put v (j + i) (filterArg r i)) v
    (modCtl k (fun c => { c with filters := set c.filters, was := c.was ++ [(s.now, c.filters)] }) s,
      if (canCtl k s).onBus then .wait (.canFilter k s.now) false [] else .done [])

/-- A SOF at tick sof on the bus of controller k: filter entries set before it are in force, those that stood before them are not
needed any more (R352, R374). -/
def sofSeen (k sof : Nat) (s : State) : State :=
  filtersIn k ((canCtl k s).was.filter (fun x => x.1 < sof))
    (modCtl k (fun c => { c with was := c.was.filter (fun x => sof ≤ x.1) }) s)

/-- CAN_FILTER_SET as the interpreter knows it. -/
def infoCanFilterSet : OpInfo :=
  { op := 0x0603, len := lenBetween 4 193, fits := fun r => r.payload.length == 1 + 3 * (arg r 0).toNat
    obj := fun r _ => onlyBits 0xF3F r.object && fld 11 8 r.object ≤ 11
    unit := fun r => some (fld 11 8 r.object)
    run := fun e s => canFilterSet e.req s }

/-- CAN_FILTER_SET (R374). -/
def execCanFilterSet (r : Req) (s : State) : Host.Outcome State Fault Refusal := .next (command infoCanFilterSet r s)

/-! ### Authentication profiles as registers (R363) -/

/-- A write to CAN_AUTHa_CFG (o = 0) or CAN_AUTHa_ID (4), by a session or none (R363). -/
def writeAuth (a o : Nat) (v : Word) (authed : Bool) (s : State) : State × Ans :=
  let p := canAuth a s
  if !authed then (s, .fail .notPermitted [])
  else if o = 4 then (modAuth a (fun x => { x with id := writeFields [rwIn 31 30 0 2, rw 29 29, rw 28 0] x.id v }) s, .done [])
  else if o != 0 then (s, .done [])
  else
    let new := writeFields [rw 22 22, rw 21 16, rwIn 14 12 1 4, rwIn 11 8 3 8, rw 5 5, rw 4 4, rwIn 3 0 0 11] p.cfg v
    let slot := keySlot (fld 21 16 new) s
    if !bit 4 new then (modAuth a (fun x => { x with cfg := new }) s, .done [])
    else if s.keys.state != .ready then (s, .fail .faultActive [])
    else if !slot.occupied || slot.purpose != 3 then
      (modAuth a (fun x => { x with cfg := setFld 4 4 0 x.cfg }) s, .fail .keyAttr [])
    else
      let held := bit 4 p.cfg && fld 21 16 p.cfg == fld 21 16 new
      (modAuth a (fun x => { x with cfg := new, gen := if held then x.gen else slot.gen }) s, .done [])

/-! ### Power, disabling and reset -/

/-- Every controller stops; its queued frames leave with a reason of TX_FAIL (R369, R370). -/
def stopAllCan (reason : Nat) (s : State) : State :=
  (List.range 12).foldl (fun s k => stopCtl k (dropFrames k reason (fun _ => true) s)) s

/-- Every controller starts again in its MODE (R369). -/
def startAllCan (s : State) : State := (List.range 12).foldl (fun s k => startCtl k s) s

/-- Trigger buffers are discarded with TX_FAIL (R370). -/
def dropTriggers (reason : Nat) (s : State) : State :=
  (List.range 16).foldl (fun s t =>
    match (nth s.can.trigs t).buf with
    | none => s
    | some f =>
      txFail (fld 3 0 s.can.nt.cfg) reason f
        (modCan (fun c => { c with trigs := upd c.trigs t (fun x => { x with buf := none, due := none }) }) s)) s

/-- Disabling group 0x06 (R370): each controller goes to the state of DIS, through INTEGRATING where it takes part in no frames. Its
failures are raised before the group's events stop; the transceivers keep their state (R399). A CAN_CFG past its commit point runs
on: it completes at its integration after a re-enabling, or at its time-out (R85, R371). -/
def disableCan (s : State) : State :=
  let s := (List.range 12).foldl (fun s k =>
    let s := dropFrames k 4 (fun _ => true) s
    let goal := if !bit 16 (canCtl k s).cfg.ctl then CanState.stopped
      else if (canCtl k s).onBus then .restricted
      else if canClocked k s then .integrating else .stopped
    filtersIn k (canCtl k s).was (modCtl k (fun c => { c with state := goal, tail := c.cutAt s.now, boffEnd := none }) s)) s
  modCan (fun c => { c with nt := { c.nt with sending := false } }) (dropTriggers 4 (settleTrigs s))

/-- Enabling group 0x06 again; a master sends its reference messages again (R365, R370). -/
def enableCan (s : State) : State :=
  let s := (List.range 12).foldl (fun s k => stateEvent k (startCtl k s)) s
  modCan (fun c => { c with nt := { c.nt with sending := fld 5 4 c.nt.cfg == 2 && !c.nt.synced } }) s

/-- The block reset of controller k: its queues are flushed as by FLUSH, with TX_FAIL reason RECONFIG (R351, R446, log entry 87). -/
def resetCtl (k : Nat) (s : State) : State := startCtl k (dropFrames k 3 (fun _ => true) s)

end Sys2Proof.Machine
end

