-- ==== Sys2Proof/Machine/Nm.lean ====
section
/-! DEFINITION. The ring-consent protocol on the L-die: presence, the token, commit, silence and the wakes (R388 to R399),
with the opcodes of R400 and R401. -/

namespace Sys2Proof.Machine

/-- Network management changed by f. -/
def modNm (f : NmSt → NmSt) (s : State) : State := { s with nm := f s.nm }
/-- Channel c. -/
def nmCh (c : Nat) (s : State) : NmChan := nth s.nm.chans c
/-- Channel c changed by f. -/
def modCh (c : Nat) (f : NmChan → NmChan) (s : State) : State := modNm (fun n => { n with chans := upd n.chans c f }) s

/-! ### Fields (R388, R408) -/

/-- ADDR. -/
def NmChan.addr (x : NmChan) : Nat := fld 5 0 x.cfg
/-- EN. -/
def NmChan.en (x : NmChan) : Bool := bit 7 x.cfg
/-- BASE. -/
def NmChan.base (x : NmChan) : Nat := fld 18 8 x.cfg
/-- T_TYP, ticks. -/
def NmChan.typ (x : NmChan) : Nat := fld 9 0 x.time * 200000
/-- T_MAX, ticks (R389). -/
def NmChan.tmax (x : NmChan) : Nat := x.typ + x.typ / 2
/-- T_DRAIN, ticks. -/
def NmChan.drain (x : NmChan) : Nat := fld 23 16 x.time * 200000
/-- NPRESENT (R389, R393). -/
def NmChan.npresent (x : NmChan) : Nat := if x.alone then 1 else max 1 (popCount 64 x.pres)

/-- The successor of the device: the lowest present address above its own, else the lowest of all (R389). -/
def NmChan.successor (x : NmChan) : Nat :=
  let l := bitList 64 x.pres
  ((l.find? (fun a => x.addr < a)).getD (l.headD x.addr))

/-- NMGW_NMc_STAT. -/
def nmStat (x : NmChan) : Word :=
  pack [(24, x.readyRun), (16, x.npresent), (5, b2n x.wakePend), (4, b2n x.alone), (3, b2n x.need), (0, x.phase)]

/-- The event NM_STATE of channel c (R402). -/
def nmEvent (c reason code : Nat) (s : State) : State :=
  postEvent 0xF08 [pack [(12, code), (8, reason), (0, c)], nmStat (nmCh c s)] s

/-- A new phase of channel c, with its event. -/
def setPhaseNm (c ph : Nat) (s : State) : State :=
  if (nmCh c s).phase = ph then s else nmEvent c 1 ph (modCh c (fun x => { x with phase := ph }) s)

/-- Channel c runs: enabled, and its group too (R388, R399). -/
def nmRuns (c : Nat) (s : State) : Bool := (nmCh c s).en && !groupOff 0x06 s && hostUp s

/-! ### Frames (R388) -/

/-- The flags of byte 2. -/
structure RingFlags where
  ready : Bool := false
  commit : Bool := false
  wake : Bool := false
  reform : Bool := false
  deriving DecidableEq, Repr, Inhabited

/-- A ring frame of channel c to an address. -/
def ringFrame (c dest run : Nat) (f : RingFlags) (s : State) : CanFrame :=
  let x := nmCh c s
  let b2 := b2n f.ready + 2 * b2n f.commit + 4 * b2n f.wake + 8 * b2n f.reform
  { w0 := word (x.base + x.addr)
    data := [x.addr, dest, b2, run, x.npresent, 0, 0, 0].map (fun n => BitVec.ofNat 8 n) }

/-- A ring frame put into URGENT where there is room and the controller runs (R388). While the device is alone its ring frames find no
acknowledgement: one that is still queued takes the content of the new one (R393, DESIGN CHOICE, log entry 109). -/
def sendRing (c dest run : Nat) (f : RingFlags) (s : State) : State :=
  let k := canCtl c s
  let x := ringFrame c dest run f s
  let waiting := (nmCh c s).alone && k.urgent.any (fun g => g.w0 == x.w0)
  if k.state == .stopped then s
  else if waiting then
    modCtl c (fun k => { k with urgent := k.urgent.map (fun g => if g.w0 == x.w0 then { g with data := x.data } else g) }) s
  else if 16 < slotsUsed k.urgent + 1 then s
  else enqueue c true x s

/-- The device is ready: it has no need, and no wake that its next token still has to show (R391, R395). -/
def readyNm (c : Nat) (s : State) : Bool := !(nmCh c s).need && !(nmCh c s).broke
/-- READYRUN after an incoming one (R391). -/
def nextRun (c incoming : Nat) (s : State) : Nat := if readyNm c s then min 64 (incoming + 1) else 0

/-- The commands NM_SLEEP_REQ of channel c that wait for the need's release (rel 1) or for AWAKE (rel 0) complete with a
word (R400). -/
def nmComplete (c rel code : Nat) (s : State) : State := completeAll (.nm (2 * c + rel)) .done (fun _ => [word code]) s

/-! ### Presence (R389) -/

/-- A new presence set; a change is raised (R402). -/
def setPres (c pres : Nat) (s : State) : State :=
  if (nmCh c s).pres = pres then s else nmEvent c 4 0 (modCh c (fun x => { x with pres := pres }) s)

/-- An address leaves the set. -/
def dropPres (c a : Nat) (s : State) : State :=
  let p := (nmCh c s).pres
  if a = (nmCh c s).addr then s else setPres c (p - (p &&& 1 <<< a)) s

/-- The device declares itself alone on channel c (R393). -/
def declareAlone (c : Nat) (s : State) : State :=
  let x := nmCh c s
  if x.alone || x.phase != 1 then s
  else
    let s := modCh c (fun x => { x with alone := true, succ := none, sentEnd := none, incoming := 0
                                        token := some (x.token.getD (s.now + x.typ)), claim := false }) s
    nmEvent c 2 1 (setPres c (1 <<< x.addr) s)

/-- What a WAKE or REFORM frame of address a does on every member: the presence set is cleared to the device and the
sender; but for the sender, a ring frame is due at 2 ms + ADDR × 1 ms; and the lowest address will pass on the token T_TYP
after it (R392). -/
def reformRing (c a : Nat) (s : State) : State :=
  let x := nmCh c s
  let own := a == x.addr
  let s := setPres c ((1 <<< x.addr) ||| (1 <<< a)) s
  modCh c (fun x => { x with
    restart := if own then none else some (s.now + 400000 + x.addr * 200000)
    token := some (s.now + x.typ), claim := true, incoming := 0, succ := none, sentEnd := none
    heard := if own then [] else Table.set [] a (s.now + 1) }) s

/-! ### Commit and silence (R394) -/

/-- The channel enters COMMIT at the commit tick; a wake that arose since the last READY frame is pending (R394, R395). -/
def enterCommit (c tC : Nat) (s : State) : State :=
  if (nmCh c s).phase != 1 then s
  else
    let s := modCh c (fun x => { x with commit := tC, wakePend := x.need || x.broke, broke := false, token := none, succ := none, sentEnd := none
                                        restart := none }) s
    setPhaseNm c 2 (bump (ctr 0x0B (0x100 + 4 * c)) s)

/-- The channel is awake again, and listens afresh: the need that waited for it completes (R396, R400). -/
def backAwake (c : Nat) (s : State) : State :=
  let s := modCh c (fun x => { x with wakePend := false, heardAny := s.now, reformed := false }) s
  let s := nmComplete c 0 0 (setPhaseNm c 1 s)
  -- a release that the commit was to have completed goes on waiting for a later one; a need supersedes it
  if (nmCh c s).need then nmComplete c 1 2 s else s

/-- The WAKE frame (R395). -/
def sendWake (c : Nat) (s : State) : State :=
  sendRing c (nmCh c s).addr (nextRun c 0 s) { ready := readyNm c s, wake := true } s

/-- A wake of channel c, with the code of NM_STATE; an AWAKE channel shows it at its next token with READY = 0 (R395). -/
def wakeNm (c code : Nat) (s : State) : State :=
  let s := nmEvent c 3 code s
  match (nmCh c s).phase with
  | 2 => modCh c (fun x => { x with wakePend := true }) s
  | 3 =>
    -- a normal wake: the transceiver goes to NORMAL, the controller integrates, the WAKE frame is sent
    let s := modCh c (fun x => { x with token := if x.alone then some (s.now + x.typ) else none, claim := false }) s
    let s := syncTrx c (startCtl c (backAwake c s))
    sendWake c s
  | 1 => modCh c (fun x => { x with broke := true }) s
  | _ => s

/-- SILENCE_TICK: at t_S channel c falls asleep, unless a wake is pending (R394, R395) or its group is disabled (R399). R22 puts sleep consent in the management
plane and chapter 12 in the fast data plane: the model times it in ticks of device time, at no management pass (DESIGN CHOICE, log
entry 82). -/
def execSilenceTick (c : Nat) (s : State) : Host.Outcome State Fault Refusal :=
  let x := nmCh c s
  .next (if x.phase != 2 ∨ !nmRuns c s then s
    else
      let s := toL (x.commit + x.drain) s
      if x.wakePend then s
      else
        let s := stopCtl c (dropFrames c 5 (fun _ => true) s)
        let s := syncTrx c (setPhaseNm c 3 s)
        nmComplete c 1 1 s)

/-- NM_WAKE: the L-die takes the wake of transceiver c as a wake of its channel (R387, R395); with its group disabled the wake waits
(R399). -/
def execNmWake (t c : Nat) (s : State) : Host.Outcome State Fault Refusal :=
  let x := trxP c s
  .next (if 6 ≤ c ∨ !x.wake ∨ x.told ∨ !linkLive s ∨ !hostUp s ∨ groupOff 0x06 s then s
    else
      let s := modTrx c (fun y => { y with told := true }) (toL t s)
      let s := modNm (fun n => { n with trx := put n.trx c (trxP c s) }) s
      syncTrx c (wakeNm c x.cause s))

/-- WAKE_QUIET_GAP: the bus of channel c has been recessive for 2 ms, and the pending wake sends its WAKE frame (R395). -/
def execWakeQuietGap (t c : Nat) (s : State) : Host.Outcome State Fault Refusal :=
  let x := nmCh c s
  .next (if x.phase != 2 ∨ !x.wakePend ∨ !nmRuns c s then s else sendWake c (toL t s))

/-! ### The token (R390, R391) -/

/-- Channel c passes the token on with READY and READYRUN: its ring frame to the successor, or a COMMIT frame where the run of ready
members is whole; a device alone goes on until its COMMIT frame has had its SOF (R390, R391, R393). -/
def passToken (c : Nat) (ready : Bool) (run : Nat) (s : State) : State :=
  let x := nmCh c s
  let whole := ready && x.npresent ≤ run
  let s := modCh c (fun x => { x with token := none, claim := false, sentReady := ready, sentRun := run }) s
  let s := if whole then sendRing c x.successor run { ready := true, commit := true } s
    else sendRing c x.successor run { ready := ready } s
  if !x.alone then modCh c (fun y => { y with succ := if whole then none else some x.successor, sentEnd := none }) s
  else modCh c (fun y => { y with token := some (s.now + y.typ), incoming := if whole then y.incoming else run }) s

/-- TOKEN_SEND: T_TYP after it took the token the device passes it on. A token taken under R392, after a REFORM frame in COMMIT
too, is passed on by the lowest present address alone (R390, R392). -/
def execTokenSend (c : Nat) (s : State) : Host.Outcome State Fault Refusal :=
  let x := nmCh c s
  .next (match x.token with
    | none => s
    | some e =>
      if !nmRuns c s ∨ !(x.phase == 1 || (x.phase == 2 && x.claim)) then s
      else
        let s := toL e s
        if x.claim && (bitList 64 x.pres).head? != some x.addr then
          modCh c (fun y => { y with token := none, claim := false }) s
        else passToken c (readyNm c s) (nextRun c x.incoming s) (modCh c (fun y => { y with broke := false }) s))

/-- SUCCESSOR_TIMEOUT: T_MAX after the end of the device's frame nothing has come from its successor, which is skipped: the frame
is sent again, with the READY and READYRUN it had (R390). -/
def execSuccessorTimeout (c : Nat) (s : State) : Host.Outcome State Fault Refusal :=
  let x := nmCh c s
  .next (match x.succ, x.sentEnd with
    | some a, some e =>
      if !nmRuns c s ∨ x.phase != 1 then s
      else
        let s := dropPres c a (bump (ctr 0x0B (0x102 + 4 * c)) (toL (e + x.tmax) s))
        passToken c x.sentReady x.sentRun s
    | _, _ => s)

/-- PRESENCE_TIMEOUT: no frame has come from address a for 4 × T_MAX (R389). -/
def execPresenceTimeout (c a : Nat) (s : State) : Host.Outcome State Fault Refusal :=
  let x := nmCh c s
  let h := x.heard.get a
  .next (if h = 0 ∨ !hostUp s then s
    else
      let s := toL (h - 1 + 4 * x.tmax) s
      dropPres c a (modCh c (fun y => { y with heard := y.heard.set a 0 }) s))

/-- REFORM_SEND: no ring frame at all for 4 × T_MAX (R390). -/
def execReformSend (c : Nat) (s : State) : Host.Outcome State Fault Refusal :=
  let x := nmCh c s
  .next (if !nmRuns c s ∨ x.phase != 1 ∨ x.reformed then s
    else
      let s := toL (x.heardAny + 4 * x.tmax) s
      let s := modCh c (fun y => { y with reformed := true }) s
      sendRing c x.addr (nextRun c 0 s) { ready := readyNm c s, reform := true } s)

/-- RING_RESTART_FRAME: the ring frame that follows a WAKE or REFORM frame (R392). -/
def execRingRestartFrame (c : Nat) (s : State) : Host.Outcome State Fault Refusal :=
  let x := nmCh c s
  .next (match x.restart with
    | none => s
    | some e =>
      if !nmRuns c s then s
      else
        let s := modCh c (fun y => { y with restart := none }) (toL e s)
        sendRing c x.addr (nextRun c 0 s) { ready := readyNm c s } s)

/-- ALONE_DECLARE: the controller has set ALONE, or no other member has been heard for 4 × T_MAX (R393). -/
def execAloneDeclare (t c : Nat) (s : State) : Host.Outcome State Fault Refusal :=
  let x := nmCh c s
  .next (if nmRuns c s ∧ ((canCtl c s).alone ∨ x.heardAny + 4 * x.tmax ≤ t) then declareAlone c (toL t s) else s)

/-! ### Frames sent and received -/

/-- A ring frame as its bytes give it: sender, destination, flags, READYRUN. None where a reserved bit is set or the frame
is no ring frame of channel c (R388). -/
def ringOf (c : Nat) (w0 : Word) (rtr : Bool) (data : List Byte) (s : State) : Option (Nat × Nat × RingFlags × Nat) :=
  let x := nmCh c s
  let b := fun i => (data.getD i 0).toNat
  if x.en && !rtr && fld 31 29 w0 == 0 && fld 28 6 w0 == x.base / 64 && data.length == 8 && b 0 == fld 5 0 w0 && b 1 < 64 &&
      b 2 < 16 && b 3 ≤ 64 && b 5 == 0 && b 6 == 0 && b 7 == 0 then
    some (b 0, b 1, { ready := (b 2).testBit 0, commit := (b 2).testBit 1, wake := (b 2).testBit 2
                      reform := (b 2).testBit 3 }, b 3)
  else none

/-- A valid ring frame of another member is received at the present tick, its SOF at tick sof (R389 to R396). -/
def ringReceived (c sof : Nat) (m : Nat × Nat × RingFlags × Nat) (s : State) : State :=
  let (a, dest, f, run) := m
  let x := nmCh c s
  if x.phase = 0 ∨ x.phase = 3 ∨ !nmRuns c s then s
  else
    let s := modCh c (fun y => { y with
      heard := y.heard.set a (s.now + 1), heardAny := s.now, reformed := false, readyRun := run
      succ := if y.succ = some a then none else y.succ, alone := false }) s
    let s := if x.alone then nmEvent c 2 0 (modCh c (fun y => { y with token := none }) s) else s
    if f.wake || f.reform then
      reformRing c a (if f.wake && x.phase = 2 then backAwake c s else s)
    else
      let s := setPres c ((nmCh c s).pres ||| 1 <<< a) s
      if f.commit then enterCommit c sof s
      else if dest = x.addr ∧ (nmCh c s).phase = 1 then
        modCh c (fun y => { y with token := some (s.now + y.typ), claim := false, incoming := run }) s
      else s

/-- A ring frame of the device has gone out, its SOF at tick sof: a WAKE or REFORM frame is counted (R390, R392, R394, R396,
R409). -/
def ringSent (c sof : Nat) (m : Nat × Nat × RingFlags × Nat) (s : State) : State :=
  let (a, _, f, _) := m
  if f.commit then enterCommit c sof s
  else if f.wake || f.reform then
    let s := if f.wake then bump (ctr 0x0B (0x101 + 4 * c)) s else s
    let s := if f.reform then bump (ctr 0x0B (0x102 + 4 * c)) s else s
    let s := if f.wake && (nmCh c s).phase = 2 then backAwake c s else s
    if (nmCh c s).phase = 1 then reformRing c a s else s
  else modCh c (fun y => { y with sentEnd := if y.succ.isSome then some s.now else none }) s

/-! ### Resuming -/

/-- The REFORM frame of a channel that has resumed, once its controller is ACTIVE (R398). -/
def reformIfDue (c : Nat) (s : State) : State :=
  if !(nmCh c s).reformDue || (canCtl c s).state != .active || !nmRuns c s then s
  else
    let s := modCh c (fun y => { y with reformDue := false }) s
    sendRing c (nmCh c s).addr (nextRun c 0 s) { ready := readyNm c s, reform := true } s

/-- Channel c resumes after an L-die reset or the enabling of its group: asleep where its transceiver stood for a sleeping
network, else awake with a REFORM frame once its controller is ACTIVE; the commands that waited for that phase complete (R398,
R400). -/
def resumeNm (c : Nat) (s : State) : State :=
  if !(nmCh c s).en then s
  else
    let s := modCh c (fun y => { y with need := y.needStored, pres := 1 <<< y.addr }) s
    if c < 6 ∧ (trxP c s).sleeping then
      nmComplete c 1 1 (syncTrx c (stopCtl c (setPhaseNm c 3 (modCh c (fun y => { y with need := false }) s))))
    else
      let s := modCh c (fun y => { y with heardAny := s.now, reformed := true, reformDue := true }) s
      reformIfDue c (nmComplete c 0 0 (setPhaseNm c 1 s))

/-- The wakes of a hold-over, treated as remote wakes at the adoption (R387). -/
def adoptTrx (s : State) : State :=
  (List.range 6).foldl (fun s n =>
    let x := trxP n s
    let s := modNm (fun m => { m with trx := put m.trx n (trxP n s) }) s
    if x.wake && !x.told && !groupOff 0x06 s then syncTrx n (wakeNm n x.cause (modTrx n (fun y => { y with told := true }) s))
    else s) (syncAllTrx s)

/-- Readback of the transceivers: the L-die's copies (R234). -/
def readbackTrx (s : State) : State := modNm (fun m => { m with trx := s.pdie.trx }) s

/-- A protection of transceiver n, or with code 3 its wake, reaches the L-die (R402, R571). -/
def takeTrxEvent (n code : Nat) (s : State) : State :=
  let s := modNm (fun m => { m with trx := put m.trx n (trxP n s) }) s
  if code = 3 then wakeHeard (4 + n) s else nmEvent n 6 code s

/-! ### Opcodes (R400, R401) -/

/-- NM_SLEEP_REQ of channel c (R400). -/
def nmSleepReq (c : Nat) (release : Bool) (s : State) : State × Ans :=
  if release then
    let s := modCh c (fun x => { x with need := false }) s
    if (nmCh c s).phase = 3 then (s, .done [1]) else (s, .wait (.nm (2 * c + 1)) true [])
  else
    let had := (nmCh c s).need
    let s := nmComplete c 1 2 (modCh c (fun x => { x with need := true }) s)
    let s := if had && (nmCh c s).phase != 3 then s else wakeNm c 4 s
    if (nmCh c s).phase = 1 then (s, .done [0]) else (s, .wait (.nm (2 * c)) false [])

/-- NM_SLEEP_REQ as the interpreter knows it. -/
def infoNmSleepReq : OpInfo :=
  { op := 0x0605, len := lenIs 1, obj := ctlOk
    run := fun e s =>
      let c := obj e.req
      if !(nmCh c s).en || !onlyBits 1 (arg e.req 0) then (s, .fail .badObject [])
      else nmSleepReq c (bit 0 (arg e.req 0)) s }

/-- NM_SLEEP_REQ (R400). -/
def execNmSleepReq (r : Req) (s : State) : Host.Outcome State Fault Refusal := .next (command infoNmSleepReq r s)

/-- NMGW_TRXn_STAT. -/
def trxStat (x : Trx) : Word :=
  pack [(16, x.fec), (11, b2n x.swErr), (10, b2n x.thermal), (9, b2n x.txdDom), (8, b2n x.wake), (4, x.cause),
    (0, x.tstate)]

/-- PRES_LO and PRES_HI. -/
def presWords (x : NmChan) : List Word := if x.phase = 0 then [0, 0] else natToWords 2 x.pres

/-- NM_STATUS of channel c: the flag WAKE is cleared as it is read (R401). -/
def nmStatus (c : Nat) (s : State) : State × Ans :=
  let x := nmCh c s
  let t := nth s.nm.trx c
  let words := [nmStat x] ++ presWords x ++ [if c < 6 then trxStat t else 0]
  let s := if c < 6 ∧ t.wake ∧ linkLive s then
      pushCfg' (.trx (0x20 * c + 4) 0x100) (modNm (fun n => { n with trx := upd n.trx c (fun y => { y with wake := false }) }) s)
    else s
  (s, .done words)

/-- NM_STATUS as the interpreter knows it. -/
def infoNmStatus : OpInfo := { op := 0x0606, len := lenIs 0, obj := ctlOk, run := fun e s => nmStatus (obj e.req) s }

/-- NM_STATUS (R401). -/
def execNmStatus (r : Req) (s : State) : Host.Outcome State Fault Refusal := .next (command infoNmStatus r s)

end Sys2Proof.Machine
end

