-- ==== Sys2Proof/Machine/Gateway.lean ====
section
/-! DEFINITION. The gateway between CAN segments and Ethernet (R403 to R407) and the NMGW block (R408). -/

namespace Sys2Proof.Machine

/-- The gateway changed by f. -/
def modGw (f : GwSt → GwSt) (s : State) : State := modNm (fun n => { n with gw := f n.gw }) s

/-- A routing entry (R408). -/
structure Route where
  id : Word
  mask : Word
  dest : Word
  xform : Word
  deriving DecidableEq, Repr, Inhabited

/-- Word j of routing entry e. -/
def routeWord (e j : Nat) (s : State) : Word := word (s.nm.gw.routes.get (4 * e + j))
/-- Routing entry e. -/
def routeAt (e : Nat) (s : State) : Route :=
  { id := routeWord e 0 s, mask := routeWord e 1 s, dest := routeWord e 2 s, xform := routeWord e 3 s }

/-! ### Isolation (R406) -/

/-- Segment g is isolated by a condition, not by its ISO bit. -/
def autoIso (g : Nat) (s : State) : Bool :=
  if g < 12 then
    let st := (canCtl g s).state
    st == .busOff || st == .stopped || (nmCh g s).phase == 2 || (nmCh g s).phase == 3
  else !(nth s.host.macs (g - 12)).link

/-- Segment g neither sends nor receives routed frames. -/
def isolated (g : Nat) (s : State) : Bool := bit g s.nm.gw.seg || autoIso g s

/-- NMGW_SEG_STAT: as the changes have been raised. -/
def segStat (s : State) : Word := pack [(16, s.nm.gw.auto), (0, s.nm.gw.auto ||| fld 13 0 s.nm.gw.seg)]

/-- The event NM_STATE of segment g's isolation (R402). -/
def isoEvent (g : Nat) (on : Bool) (s : State) : State :=
  postEvent 0xF08 [pack [(12, b2n on), (8, 5), (0, g)], segStat s] s

/-- A change of segment g's isolation is raised; by bus-off it is reported (R406). -/
def raiseIso (g : Nat) (s : State) : State :=
  let was := s.nm.gw.auto.testBit g
  let now := autoIso g s
  if was == now then s
  else
    let s := modGw (fun x => { x with auto := if now then x.auto ||| 1 <<< g else x.auto - (x.auto &&& 1 <<< g) }) s
    let s := if bit g s.nm.gw.seg then s else isoEvent g now s
    if now && g < 12 && (canCtl g s).state == .busOff then reportL 0x163 g s else s

/-- SEGMENT_ISOLATION: a condition of R406 has come or gone for segment g. -/
def execSegmentIsolation (t g : Nat) (s : State) : Host.Outcome State Fault Refusal :=
  .next (if g < 14 ∧ hostUp s then raiseIso g (toL t s) else s)

/-- NMGW_SEG_CTL written: each segment whose isolation changes is raised (R406). -/
def setIso (v : Word) (s : State) : State :=
  let old := s.nm.gw.seg
  let s := modGw (fun x => { x with seg := v &&& 0x3FFF }) s
  (List.range 14).foldl (fun s g =>
    if bit g old == bit g v || s.nm.gw.auto.testBit g then s else isoEvent g (bit g v) s) s

/-! ### Routing (R404, R405) -/

/-- Ethernet segment m (12 + m) is enabled. -/
def ethOn (m : Nat) (s : State) : Bool := bit (1 + m) s.nm.gw.ctl

/-- A dropped frame for segment g: counted, and reported once in a management tick (R406, R409). -/
def gwDrop (g : Nat) (s : State) : State :=
  let s := bump (ctr 0x0B (0x202 + 4 * g)) s
  if s.nm.gw.dropped == some (mgmtNow s) then s
  else reportL 0x164 g (modGw (fun x => { x with dropped := some (mgmtNow s) }) s)

/-- A frame that went from segment src to segment g. -/
def gwSent (g : Nat) (s : State) : State := bump (ctr 0x0B (0x201 + 4 * g)) s

/-- Entry e decides on a frame of segment src. -/
def routeFits (src : Nat) (x : CanRx) (r : Route) : Bool :=
  bit 31 r.id && fld 19 16 r.dest == src && (fld 22 20 r.dest).testBit (frameFmt x.w0) && bit 29 r.id == bit 29 x.w0 &&
    (fld 28 0 x.w0 ^^^ fld 28 0 r.id) &&& fld 28 0 r.mask == 0

/-- The entries that are in use, lowest first. -/
def usedEntries (s : State) : List Nat := (s.nm.gw.routes.filter (fun p => p.1 % 4 = 0)).map (fun p => p.1 / 4)

/-- The entry that decides on a frame: the lowest enabled one that fits (R404). -/
def routeOf (src : Nat) (x : CanRx) (s : State) : Option Nat :=
  (usedEntries s).find? (fun e => routeFits src x (routeAt e s))

/-- The next valid length of an FD frame (R404). -/
def fdLen (n : Nat) : Nat := (([0, 1, 2, 3, 4, 5, 6, 7, 8, 12, 16, 20, 24, 32, 48, 64]).find? (fun m => n ≤ m)).getD n

/-- The format that an entry gives a frame (R404). -/
def outFmt (r : Route) (x : CanRx) : Nat :=
  if fld 26 25 r.dest = 0 then frameFmt x.w0 else if fld 26 25 r.dest = 1 then 0 else 1

/-- The data that an entry gives a frame: STRIP, then the padding of an FD frame (R404). -/
def outData (r : Route) (extra : Nat) (x : CanRx) : List Byte :=
  let data := if bit 23 r.dest then x.data.take (x.data.length - extra) else x.data
  if outFmt r x = 1 then data ++ List.replicate (fdLen data.length - data.length) 0#8 else data

/-- The frame that an entry makes of a frame: STRIP, REID, OUTFMT, padding (R404). -/
def transform (r : Route) (extra : Nat) (x : CanRx) : CanRx :=
  let id := if bit 30 r.xform then fld 29 0 r.xform else fld 29 0 x.w0
  let brs := if fld 26 25 r.dest = 0 then x.brs else fld 26 25 r.dest == 3
  let xl := outFmt r x == 2
  { w0 := pack [(30, outFmt r x), (0, id)], rtr := x.rtr, brs := brs, esi := x.esi && outFmt r x == 1
    af := if xl then x.af else 0, xl := if xl then x.xl else 0, data := outData r extra x, sof := x.sof }

/-- A frame can be carried at all: RTR is classical, the length is one of its format with the authentication bytes of a profile
(R404). -/
def shapeOk (x : CanRx) (extra : Nat) : Bool :=
  let fmt := frameFmt x.w0
  fmt ≤ 2 && (!x.rtr || fmt == 0) && sentLenOk fmt (x.data.length + extra)

/-- Controller k can carry a frame: it has the format enabled (R404). -/
def carries (k : Nat) (x : CanRx) (extra : Nat) (s : State) : Bool :=
  let st := (canCtl k s).state
  (st == .active || st == .integrating || st == .recovering) && formatOn k x s && shapeOk x extra

/-- A frame for controller k: authenticated where a transmit profile matches, it enters NORMAL; else it is dropped (R404,
R405). The Bool tells that it went. -/
def toCan (k : Nat) (x : CanRx) (s : State) : State × Bool :=
  let prof := if x.rtr then none else authProfileOf k true x.w0 s
  let extra := (prof.map (fun a => (canAuth a s).extra)).getD 0
  let f : CanFrame := { w0 := x.w0, rtr := x.rtr, brs := x.brs, af := x.af, xl := x.xl, data := x.data }
  let room := slotsUsed (canCtl k s).normal + frameSlots { f with data := f.data ++ List.replicate extra 0 } ≤ 64
  if !carries k x extra s || !room then (gwDrop k s, false)
  else match prof with
    | none => (gwSent k (enqueue k false f s), true)
    | some a =>
      let l := authLoad a s
      let s := countLoad (fld 21 16 (canAuth a s).cfg) l s
      match l with
      | .error _ => (gwDrop k s, false)
      | .ok key =>
        let (data, s) := authSend a key f.w0 f.data s
        (gwSent k (enqueue k false { f with data := data } s), true)

/-- The datagram of Ethernet segment m leaves (R405). -/
def sendDatagram (m : Nat) (s : State) : State :=
  let d := nth s.nm.gw.fill m
  if d.words.isEmpty then s
  else modGw (fun x => { x with sent := put x.sent m d.words, fill := put x.fill m {} }) s

/-- A record for Ethernet segment m: one that does not fit into the datagram starts the next (R405). -/
def toEth (m : Nat) (record : List Word) (s : State) : State :=
  let full := 1400 < recordBytes ((nth s.nm.gw.fill m).words ++ record)
  let s := if full then sendDatagram m s else s
  let add := fun (d : GwDatagram) =>
    { first := if d.words.isEmpty then s.now else d.first, words := d.words ++ record : GwDatagram }
  gwSent (12 + m) (modGw (fun x => { x with fill := upd x.fill m add }) s)

/-- The frame of entry r for segment g: the Bool tells that it went (R404 to R406). -/
def toSegment (src g : Nat) (wakes : Bool) (x : CanRx) (s : State) : State × Bool :=
  if groupOff 0x06 s || isolated src s then (gwDrop g s, false)
  else if isolated g s then
    let s := gwDrop g s
    (if wakes && g < 12 && (nmCh g s).phase == 3 then wakeNm g 5 s else s, false)
  else if g < 12 then toCan g x s
  else if ethOn (g - 12) s && shapeOk x 0 then (toEth (g - 12) (canRecord src 0 x false false false) s, true)
  else (gwDrop g s, false)

/-- GATEWAY_ROUTE: a frame of segment src offered to the gateway; extra counts the authentication bytes of the receive
profile that verified it (R403 to R405). It counts as routed where it went to a segment (R409). -/
def gwOffer (src extra : Nat) (x : CanRx) (s : State) : State :=
  if !bit 0 s.nm.gw.ctl then s
  else match routeOf src x s with
    | none => s
    | some e =>
      let r := routeAt e s
      let dests := (bitList 14 (fld 13 0 r.dest)).filter (fun g => g != src)
      let last := s.nm.gw.last.get e
      let early := last != 0 && s.now < last - 1 + fld 31 27 r.dest * 200000
      if early then dests.foldl (fun s g => gwDrop g s) s
      else
        let y := transform r extra x
        let a := dests.foldl (fun (a : State × Bool) g =>
          let b := toSegment src g (bit 24 r.dest) y a.1
          (b.1, a.2 || b.2)) (s, false)
        if a.2 then modGw (fun g => { g with last := g.last.set e (s.now + 1) }) (bump (ctr 0x0B (0x200 + 4 * src)) a.1) else a.1

/-! ### Datagrams (R405) -/

/-- The words that the record at the front of a datagram takes, by its length field (R356). -/
def recordWords (l : List Word) : Nat := 6 + ceilDiv (fld 10 0 (wordAt l 1)) 4

/-- A record of R356 as a frame; none where it is malformed, or carries AUTH_BAD (R403, R405). -/
def recordFrame (l : List Word) : Option CanRx :=
  let w1 := wordAt l 1
  let n := fld 10 0 w1
  let fmt := frameFmt (wordAt l 0)
  if 2 < fmt || !sentLenOk fmt n || (bit 11 w1 && fmt != 0) || bit 15 w1 then none
  else some
    { w0 := wordAt l 0, rtr := bit 11 w1, brs := bit 12 w1, esi := bit 13 w1, af := wordAt l 4, xl := wordAt l 5
      data := (wordsToBytes ((l.drop 6).take (ceilDiv n 4))).take n, sof := wordsToNat ((l.drop 2).take 2) }

/-- The frames of a datagram's records, at most n of them: a malformed record is dropped, and the next one follows after the words it
says it takes; where those run past the datagram nothing follows (R405). -/
def recordFrames : Nat → List Word → List CanRx
  | 0, _ => []
  | n + 1, l =>
    if l.length < 6 || l.length < recordWords l then []
    else (recordFrame l).toList ++ recordFrames n (l.drop (recordWords l))

/-- GW_DATAGRAM_RX: a datagram from address peer at UDP_PORT of MAC m: each record is a frame of segment 12 + m (R405). -/
def execGwDatagramRx (t m peer : Nat) (data : List Byte) (s : State) : Host.Outcome State Fault Refusal :=
  .next (if 2 ≤ m ∨ !hostUp s ∨ !ethOn m s ∨ !(nth s.host.macs m).link ∨ peer != (nth s.nm.gw.dst m).toNat then s
    else (recordFrames 60 (bytesToWords (data.length / 4) data)).foldl (fun s x => gwOffer (12 + m) 0 x s) (toL t s))

/-- GW_DATAGRAM_SEND: the datagram of Ethernet segment m leaves, 100 µs after its first record at the latest (R405). -/
def execGwDatagramSend (t m : Nat) (s : State) : Host.Outcome State Fault Refusal :=
  let d := nth s.nm.gw.fill m
  .next (if 2 ≤ m ∨ !hostUp s ∨ d.words.isEmpty then s else sendDatagram m (toL (min t (d.first + 20000)) s))

/-! ### GW_ROUTE_SET (R407) -/

/-- A routing entry is valid (R407). -/
def routeOk (r : Route) : Bool :=
  onlyBits 0xBFFFFFFF r.id && onlyBits 0x1FFFFFFF r.mask && onlyBits 0xFFFF3FFF r.dest && onlyBits 0x7FFFFFFF r.xform &&
    !(bit 31 r.id && 14 ≤ fld 19 16 r.dest) && !(fld 26 25 r.dest == 1 && fld 22 21 r.dest != 0)

/-- Consecutive words of the routing table written from word index i: the entries they touch are checked whole and come
into force together (R407). -/
def writeRoutes (i : Nat) (ws : List Word) (s : State) : State × Ans :=
  let n := ws.length
  if 8192 < i + n then (s, .fail .badObject [])
  else
    let table := (List.range n).foldl (fun (t : Table) j => t.set (i + j) (wordAt ws j).toNat) s.nm.gw.routes
    let s' := modGw (fun x => { x with routes := table }) s
    let touched := (List.range ((i + n + 3) / 4 - i / 4)).map (fun j => i / 4 + j)
    if touched.all (fun e => routeOk (routeAt e s')) then (s', .done []) else (s, .fail .badObject [])

/-- GW_ROUTE_SET as the interpreter knows it. -/
def infoGwRouteSet : OpInfo :=
  { op := 0x0607, len := lenBetween 5 253
    fits := fun r => r.payload.length == 1 + 4 * (arg r 0).toNat
    obj := fun r _ => obj r ≤ 2047
    run := fun e s => writeRoutes (4 * obj e.req) (e.req.payload.drop 1) s }

/-- GW_ROUTE_SET (R407). -/
def execGwRouteSet (r : Req) (s : State) : Host.Outcome State Fault Refusal := .next (command infoGwRouteSet r s)

/-! ### The NMGW block (R408) -/

/-- Register o of a transceiver. -/
def readTrxReg (x : Trx) (o : Nat) : Option Word :=
  match o with
  | 0x00 => some x.cfg
  | 0x04 => some (trxStat x)
  | 0x08 => some x.wid
  | 0x0C => some x.wmask
  | 0x10 => some x.dlo
  | 0x14 => some x.dhi
  | _ => none

/-- Register o of a channel. -/
def readNmReg (x : NmChan) (o : Nat) : Option Word :=
  match o with
  | 0x00 => some x.cfg
  | 0x04 => some x.time
  | 0x08 => some (nmStat x)
  | 0x0C => some (wordAt (presWords x) 0)
  | 0x10 => some (wordAt (presWords x) 1)
  | _ => none

/-- The NMGW block at an offset. -/
def readNmgw (off : Nat) (s : State) : Option Word :=
  if off < 0xC0 then readTrxReg (nth s.nm.trx (off / 0x20)) (off % 0x20)
  else if 0x1000 ≤ off ∧ off < 0x1180 then readNmReg (nmCh ((off - 0x1000) / 0x20) s) (off % 0x20)
  else match off with
    | 0x2000 => some s.nm.gw.ctl
    | 0x2004 => some s.nm.gw.seg
    | 0x2008 => some (segStat s)
    | 0x2010 => some (nth s.nm.gw.dst 0)
    | 0x2014 => some (nth s.nm.gw.dst 1)
    | _ => if 0x8000 ≤ off ∧ off < 0x10000 then some (word (s.nm.gw.routes.get ((off - 0x8000) / 4))) else none

/-- NMGW_NMc_CFG written: the channel begins or ends with EN (R388). -/
def writeNmCfg (c : Nat) (v : Word) (s : State) : State :=
  if fld 13 8 v != 0 then s
  else
    let old := nmCh c s
    let s := modCh c (fun x => { x with cfg := v &&& 0x0007FFBF }) s
    let new := nmCh c s
    if new.en && !old.en then
      setPhaseNm c 1 (modCh c (fun x => { x with pres := 1 <<< x.addr, heardAny := s.now, reformed := false }) s)
    else if old.en && !new.en then
      let s := modCh c (fun x =>
        { cfg := x.cfg, time := x.time, need := x.need, needStored := x.needStored, phase := x.phase }) s
      setPhaseNm c 0 s
    else if new.addr = old.addr then s
    else modCh c (fun x => { x with pres := (x.pres - (x.pres &&& 1 <<< old.addr)) ||| 1 <<< x.addr }) s

/-- The word that a CONFIG item writes to offset o of the transceivers' registers. -/
def CfgItem.trxAt (o : Nat) : CfgItem → Option Word
  | .trx off w => if off = o then some w else none
  | _ => none

/-- A transceiver register written: the new word goes to the P-die (R387, R630). -/
def writeTrxReg (n o : Nat) (v : Word) (s : State) : State × Ans :=
  let old := comingWord (CfgItem.trxAt (0x20 * n)) (nth s.nm.trx n).cfg s
  match o with
  | 0x00 => writeP (.trx (0x20 * n) (writeFields [rwIn 15 12 1 10, rwIn 11 8 0 8, rw 5 4, rw 1 0] old v)) s
  | 0x04 => if v &&& 0x300 = 0 then (s, .done []) else writeP (.trx (0x20 * n + 4) (v &&& 0x300)) s
  | 0x08 => writeP (.trx (0x20 * n + 8) (v &&& 0x3FFFFFFF)) s
  | 0x0C => writeP (.trx (0x20 * n + 0xC) (v &&& 0x1FFFFFFF)) s
  | 0x10 | 0x14 => writeP (.trx (0x20 * n + o) v) s
  | _ => (s, .done [])

/-- A write to the NMGW block. -/
def writeNmgw (off : Nat) (v : Word) (s : State) : State × Ans :=
  if off < 0xC0 then writeTrxReg (off / 0x20) (off % 0x20) v s
  else if 0x1000 ≤ off ∧ off < 0x1180 then
    let c := (off - 0x1000) / 0x20
    match off % 0x20 with
    | 0x00 => (writeNmCfg c v s, .done [])
    | 0x04 => (modCh c (fun x => { x with time := writeFields [rwIn 23 16 5 255, rwIn 9 0 10 1000] x.time v }) s, .done [])
    | _ => (s, .done [])
  else match off with
    | 0x2000 => (modGw (fun x => { x with ctl := writeFields [rw 31 16, rw 2 0] x.ctl v }) s, .done [])
    | 0x2004 => (setIso v s, .done [])
    | 0x2010 => (modGw (fun x => { x with dst := put x.dst 0 v }) s, .done [])
    | 0x2014 => (modGw (fun x => { x with dst := put x.dst 1 v }) s, .done [])
    | _ =>
      if 0x8000 ≤ off ∧ off < 0x10000 then
        if groupOff 0x06 s then (s, .fail .abortedDisabled []) else writeRoutes ((off - 0x8000) / 4) [v] s
      else (s, .done [])

/-- The W1C bits of the NMGW block (R102). -/
def w1cNmgw (off : Nat) : Word := if off < 0xC0 ∧ off % 0x20 = 4 then 0x300 else 0

/-- What the echo of a transceiver word changes on the L-die. -/
def trxEchoed (off : Nat) (s : State) : State := modNm (fun m => { m with trx := put m.trx (off / 0x20) (trxP (off / 0x20) s) }) s

/-- Enabling group 0x06 again: each channel resumes (R399). -/
def enableNm (s : State) : State := (List.range 12).foldl (fun s c => resumeNm c s) s

/-- The gateway's block reset, and its emptying at an L-die reset: its datagrams are lost (R406, R446). -/
def emptyGw (s : State) : State := modGw (fun x => { x with fill := Vector.replicate 2 {}, last := [] }) s

end Sys2Proof.Machine
end

