-- ==== Sys2Proof/Machine/CanRows.lean ====
section
/-! DEFINITION. The events of the CAN buses: frames sent and received (R347 to R359, R388 to R396), network time (R364 to
R367, R375), its triggers (R367, R376), and the CAN block (R378). -/

namespace Sys2Proof.Machine

/-! ### Network time (R364 to R366) -/

/-- CAN_NT_STAT. -/
def ntStat (s : State) : Word :=
  let n := s.can.nt
  pack [(12, b2n n.step), (11, b2n n.disc), (10, b2n n.sending), (9, b2n n.synced), (6, n.mprio), (0, n.countAt s.now)]

/-- A reference message as an identifier: its PRIO (R364). -/
def refPrio (k : Nat) (w0 : Word) (rtr : Bool) (data : List Byte) (s : State) : Option Nat :=
  let n := s.can.nt
  let ref := fld 28 0 n.ref
  let id := fld 28 0 w0
  let len := if n.level2 then data.length == 8 else data.length == 1
  if n.role != 0 && n.ctrl == k && !rtr && frameFmt w0 == b2n (bit 30 n.ref) && bit 29 w0 == bit 29 n.ref && ref ≤ id &&
      id < ref + 8 && len then some (id - ref) else none

/-- The master's NT of a level-2 message, extended with the high bits of the device's own (R366). -/
def masterNt (n : CanNt) (data : List Byte) (sof : Nat) : Int :=
  let own := (sof : Int) + n.offsetAt sof
  own / (2 ^ 56 : Nat) * (2 ^ 56 : Nat) + (natLE ((data.drop 1).take 7) : Nat)

/-- OFFSET and NT_RATE after a level-2 message with sync mark sof: a step to the target, or a slew toward it from there on (R366). -/
def correct (n : CanNt) (disc : Bool) (data : List Byte) (sof : Nat) : CanNt :=
  let m := masterNt n data sof
  let target := m - (sof : Int)
  let at_ := n.offsetAt sof
  let rate := match n.last with
    | some (m0, d0) =>
      if d0 < sof then ((m - m0) - ((sof : Int) - d0)) * 1000000000 / ((sof : Int) - d0) else n.rate
    | none => n.rate
  let jump := disc || !n.synced || 1000 < (target - at_).natAbs
  if jump then { n with offset := target, slew := 0, step := true, rate := rate, last := some (m, sof) }
  else { n with offset := at_, slew := target - at_, rate := rate, last := some (m, sof) }

/-- A valid reference message of PRIO p with sync mark sof (R365, R366). A device that sends takes only one with a lower
identifier than its own. -/
def refReceived (p sof : Nat) (data : List Byte) (s : State) : State :=
  let n := s.can.nt
  let s := bump (ctr 0x0A 0x100) s
  if n.sending && n.prio ≤ p then s
  else
    let b0 := (data.getD 0 0).toNat
    let disc := b0.testBit 7
    let n := if n.level2 then correct n disc data sof else n
    cycleStart sof (modNt (fun _ =>
      { n with count := b0 % 64, disc := disc, mprio := p, base := some sof, synced := true, sending := false }) s)

/-- The cycle start whose reference message the device is to send on controller k at tick t: not yet sent, nor given up after its
last permitted retransmission (R350, R365). -/
def refStart (k t : Nat) (s : State) : Option Nat :=
  let n := s.can.nt
  let start := n.startAt t
  let gone := n.fails.1 == start && (canCtl k s).cfg.retry != 15 && decide ((canCtl k s).cfg.retry < n.fails.2)
  if n.sending && n.role != 0 && n.ctrl == k && n.base.isSome && decide (n.base.getD 0 < start) && !gone &&
      (canCtl k s).cfg.allows (b2n (bit 30 n.ref)) then some start else none

/-- A failed attempt of the reference message of the cycle that starts at tick t (R350). -/
def refFailed (t : Nat) (s : State) : State :=
  modNt (fun n => { n with fails := (t, if n.fails.1 = t then n.fails.2 + 1 else 1) }) s

/-- An attempt or a frame on the bus of controller k has ended at tick t: TXD is recessive (R382). -/
def frameEnded (k t : Nat) (s : State) : State :=
  modTrx k (fun x => { x with held := none }) (modCtl k (fun c => { c with lastEnd := t }) s)

/-- REFERENCE_SEND: at the cycle start t, with its SOF at tick sof, a master or an active backup sends the reference
message (R364, R365), at the first attempt or a later one (R350). The spec does not say what DISC a sender shows: the bit is a
free value; so is the loop delay that an FD message measures (log entry 102). -/
def execReferenceSend (t sof : Nat) (s : State) : Host.Outcome State Fault Refusal :=
  let k := s.can.nt.ctrl
  .next (onFrame k sof (fun s => hostUp s && !groupOff 0x06 s && (canCtl k s).state == .active && refStart k sof s == some t && t ≤ sof &&
      drives k sof s) (fun s =>
        let n := s.can.nt
        let s := cycleStart t (toL sof (toL t s))
        let (w, s) := freeWord s
        let c := n.countAt t
        let nt := unsigned 56 ((sof : Int) + n.offsetAt sof)
        let data := BitVec.ofNat 8 (c + 128 * b2n (bit 0 w)) :: (if n.level2 then bytesLE 7 nt else [])
        let s := modNt (fun x =>
          { x with base := some t, count := c, disc := bit 0 w, mprio := n.prio, sent := data }) s
        let s := measureFree k (b2n (bit 30 n.ref)) s
        frameEnded k sof (txGood k (b2n (bit 30 n.ref)) 0 (sofSeen k sof (bump (ctr 0x0A 0x101) s)))) s)

/-- The cycle of the device's own NT that runs now: cycle c starts at NT = c × CYCLE_T (R364). -/
def ownCycle (n : CanNt) (now : Nat) : CanNt :=
  let c := n.timeAt now / (max 1 n.cycleT : Nat)
  let start := (c * (max 1 n.cycleT : Nat) - n.offsetAt now).toNat
  { n with base := some (min now start), count := unsigned 6 c }

/-- On a master OFFSET is 0 (R364). -/
def asMaster (n : CanNt) : CanNt := { n with offset := 0, slew := 0, rate := 0, last := none }

/-- NT_LOSS: NMISS predicted cycle starts have passed with no reference message: SYNCED clears, and a master or a backup
sends from the next cycle start on (R365, R366). -/
def execNtLoss (s : State) : Host.Outcome State Fault Refusal :=
  let n := s.can.nt
  .next (match n.base with
    | none => s
    | some b =>
      if !hostUp s ∨ n.sending ∨ n.role = 0 ∨ (n.role = 1 ∧ !n.synced) then s
      else
        let t := n.after b (n.nmiss * n.cycleT)
        let s := toL t s
        let on := 2 ≤ n.role && !groupOff 0x06 s
        let s := modNt (fun x =>
          let x := { x with synced := false, base := some t, count := (x.count + x.nmiss) % 64, sending := on }
          if x.role = 2 then ownCycle (asMaster x) t else x) s
        if n.synced then reportL 0x146 n.ctrl (canEvent s.now n.ctrl 6 0 [ntStat s] s) else s)

/-- A trigger's OFFSET lies inside a cycle of length cyc (R375, R376). -/
def trigFits (cyc : Nat) (cfg : Word) : Bool := fld 19 0 cfg * 200 < cyc

/-- NT_CFG (R375). -/
def ntCfg (cfg ref cycle : Word) (s : State) : State × Ans :=
  let old := s.can.nt
  let cfg := cfg &&& 0x000711FF
  let cyc := cycle.toNat
  let ok := fld 3 0 cfg ≤ 11 && 1 ≤ fld 18 16 cfg && 20000 ≤ cyc && cyc ≤ 200000000 &&
    s.can.trigs.toList.all (fun t => trigFits cyc t.cfg && trigFits cyc ((t.next.map (fun x => x.1)).getD t.cfg))
  if !ok then (s, .fail .badObject [])
  else
    let moved := fld 3 0 cfg != old.ctrl || cyc != old.cycleT
    let n := { old with cfg := cfg, ref := ref &&& 0x7FFFFFFF, cycle := cycle }
    let n := { n with synced := old.synced && !moved && n.role != 2 }
    let n := if n.role = 2 then asMaster n else n
    let n := if moved || old.role = 0 || n.role = 2 then ownCycle n s.now else n
    let n := { n with sending := !groupOff 0x06 s && (n.role == 2 || (n.role == 3 && old.sending)) }
    (modNt (fun _ => n) s, .done [])

/-- NT_CFG as the interpreter knows it. -/
def infoNtCfg : OpInfo :=
  { op := 0x0604, len := lenIs 3, run := fun e s => ntCfg (arg e.req 0) (arg e.req 1) (arg e.req 2) s }

/-- NT_CFG (R375). -/
def execNtCfg (r : Req) (s : State) : Host.Outcome State Fault Refusal := .next (command infoNtCfg r s)

/-! ### Triggers (R367) -/

/-- TRIGGER_FIRE: at tick t trigger i's cycle and offset have arrived, and its frame becomes due (R367). -/
def execTriggerFire (t i : Nat) (s : State) : Host.Outcome State Fault Refusal :=
  .next (if 16 ≤ i ∨ !hostUp s ∨ groupOff 0x06 s then s
    else
      let s' := settleTrig i (toL t s)
      let n := s'.can.nt
      let start := n.startAt t
      let x := nth s'.can.trigs i
      let m := 2 ^ fld 29 27 x.cfg
      if bit 31 x.cfg && x.buf.isSome && (n.synced || n.sending) && n.base.isSome && t == n.pointAt t (fld 19 0 x.cfg * 200) &&
          n.countAt t % m == fld 26 21 x.cfg % m && x.fired != some start then
        modTrig i (fun _ => { x with due := some t, fired := some start }) s'
      else s)

/-- A due trigger frame is not sent (R367). -/
def missTrig (i : Nat) (s : State) : State := bump (ctr 0x0A 0x103) (modTrig i (fun x => { x with due := none }) s)

/-- TRIGGER_MISS: the SOF of trigger i's frame has not started within WIN (R367). -/
def execTriggerMiss (i : Nat) (s : State) : Host.Outcome State Fault Refusal :=
  let x := nth s.can.trigs i
  .next (match x.due with
    | none => s
    | some d =>
      let s' := settleTrigs (toL (d + fld 15 0 x.win * 200) s)
      if hostUp s && (nth s'.can.trigs i).due.isSome then missTrig i s' else s)

/-! ### Frames sent (R347 to R351) -/

/-- The frame that source src of controller k offers: 0 the head of URGENT, 1 of NORMAL, 2 + i the due frame of trigger i
(R348). -/
def offered (k src : Nat) (s : State) : Option CanFrame :=
  if src < 2 then headOf k src s
  else
    let x := nth s.can.trigs (src - 2)
    if s.can.nt.ctrl = k ∧ src < 18 ∧ x.due.isSome then x.buf else none

/-- Trigger x has a frame that is due at tick sof: within WIN of its firing (R367). -/
def CanTrig.dueAt (x : CanTrig) (sof : Nat) : Bool :=
  x.buf.isSome && (x.due.map (fun d => decide (d ≤ sof) && decide (sof ≤ d + fld 15 0 x.win * 200))).getD false

/-- At the SOF at tick sof controller k chose source src: a due trigger frame goes before URGENT, and URGENT before NORMAL (R348); the
reference message, source 18, goes before both queues (R365). -/
def chosen (k src sof : Nat) (s : State) : Bool :=
  let due := s.can.nt.ctrl == k && s.can.trigs.toList.any (fun x => x.dueAt sof)
  let ahead := due || (refStart k sof s).isSome
  let waits := fun (q : Nat) => ((headOf k q s).map (fun f => decide (f.entered ≤ sof))).getD false
  match src with
  | 0 => !ahead && waits 0
  | 1 => !ahead && !waits 0 && waits 1
  | 18 => (refStart k sof s).isSome
  | i + 2 => (nth s.can.trigs i).dueAt sof

/-- The first tick at which the SOF of an attempt of source src can have been, of which the row gives only the end t: after the last
frame on the bus, with the frame there (R348). -/
def earliestSof (k src t : Nat) (s : State) : Nat :=
  max (canCtl k s).lastEnd (match src with
    | 0 | 1 => ((headOf k src s).map (fun f => f.entered)).getD 0
    | 18 => (refStart k t s).getD 0
    | i + 2 => (nth s.can.trigs i).due.getD 0)

/-- An attempt of source src of controller k can have ended at tick t (R348): the frame is there, and its choice possible. -/
def attempted (k src t : Nat) (s : State) : Bool :=
  let sof := earliestSof k src t s
  (canCtl k s).state == .active && (src == 18 || (offered k src s).isSome) && sof ≤ t && chosen k src sof s

/-- The format of the frame of source src. -/
def fmtOf (k src : Nat) (s : State) : Nat :=
  if src = 18 then b2n (bit 30 s.can.nt.ref) else ((offered k src s).map (fun f => frameFmt f.w0)).getD 0

/-- The frame f of source src of controller k, its SOF at tick sof, has gone out without error at tick t (R343, R351, R367). -/
def txSent (t sof k src meas : Nat) (f : CanFrame) (s : State) : State :=
  let s := frameEnded k t (txGood k (frameFmt f.w0) meas (sofSeen k sof s))
  let s := if src < 2 then modHead k src (fun _ => none) s
    else bump (ctr 0x0A 0x102) (modTrig (src - 2) (fun x => { x with due := none }) s)
  let s := if f.conf then canEvent sof k 2 f.handle (natToWords 2 sof) s else s
  match ringOf k f.w0 f.rtr f.data s with
  | some m => if m.1 = (nmCh k s).addr then ringSent k sof m s else s
  | none => s

/-- CAN_TX_SUCCESS: the frame of source src of controller k, its SOF at tick sof, has gone out without error; meas is the
loop delay measured in it, 0 for none (R343, R348, R351). Its transceiver must drive the bus (R380, R382). -/
def execCanTxSuccess (t sof k src meas : Nat) (s : State) : Host.Outcome State Fault Refusal :=
  .next (onFrame k sof
    (fun s =>
      let s := settleTrigs (toL t s)
      (offered k src s).isSome && (canCtl k s).state == .active && chosen k src sof s && drives k sof s)
    (fun s =>
      let s := settleTrigs (toL t s)
      match offered k src s with
      | none => s
      | some f => txSent t sof k src meas f s) s)

/-- The fate of a frame of source src after an attempt that ended in an error: a queued one is retransmitted or leaves, so is the
reference message, and a trigger frame is missed (R350, R367). -/
def attemptFailed (k src lec t : Nat) (s : State) : State :=
  if src < 2 then headFailed k src lec s
  else if src = 18 then refFailed ((refStart k t s).getD t) s
  else missTrig (src - 2) s

/-- An attempt of a lone device's COMMIT frame, which no other node acknowledges: its SOF is the commit tick, of which the row gives
only that it lies between two ticks (R391, R393, log entry 109). -/
def loneCommit (k src t : Nat) (f : Option CanFrame) (s : State) : State :=
  match f.bind (fun f => ringOf k f.w0 f.rtr f.data s) with
  | none => s
  | some m =>
    if !((nmCh k s).alone && m.2.2.1.commit && m.1 == (nmCh k s).addr) then s
    else
      let sof := earliestSof k src t s
      let (w, s) := freeWord s
      enterCommit k (sof + w.toNat % (t - sof + 1)) s

/-- CAN_TX_ERROR: an attempt of source src of controller k ended in an error lec, in a data phase or not (R350, R357, R359); sources
are those of `offered`, with 18 for the reference message. quiet tells that an exception of ISO 11898-1 keeps TEC as it is. An error
in a data phase comes after the loop delay was measured (R343). Source 19 is no attempt: a bit error in an error flag that the
controller sends, or dominant bits after it, raise TEC by another 8. -/
def execCanTxError (t k src lec : Nat) (data quiet : Bool) (s : State) : Host.Outcome State Fault Refusal :=
  .next (onFrame k 0
    (fun s =>
      let s := settleTrigs (toL t s)
      if src = 19 then (canCtl k s).state == .active else attempted k src t s)
    (fun s =>
      let s := settleTrigs (toL t s)
      if src = 19 then
        let s' := modCtl k (fun c => { c with tec := c.tec + 8, errCap := errCapWord true data lec }) s
        let s := passiveEdge k s s'
        if 255 < (canCtl k s).tec then busOff k s else s
      else
        let fmt := fmtOf k src s
        let s := loneCommit k src t (offered k src s) s
        let s := if data then measureFree k fmt s else s
        let s := frameEnded k t (txBad k fmt lec data quiet s)
        afterBad k lec (attemptFailed k src lec t s)) s)

/-- ARBITRATION_LOSS: the frame of source src of controller k loses arbitration; a queued frame stays at its head, and so does the
reference message (R348, R367). The attempt ends otherwise than in an ACK error (R359). -/
def execArbitrationLoss (t k src : Nat) (s : State) : Host.Outcome State Fault Refusal :=
  .next (onFrame k 0 (fun s => attempted k src t (settleTrigs (toL t s)))
    (fun s =>
      let s := settleTrigs (toL t s)
      let s := loneCommit k src t (offered k src s) s
      let s := frameEnded k t (ackClear k (bump (ctr 0x0A (0x10 * k + 4)) s))
      if src < 2 then modHead k src (fun f => some { f with onlyAck := false }) s
      else if src = 18 then s
      else missTrig (src - 2) s) s)

/-- INTEGRATION_DONE: 11 recessive bits on the bus of controller k (R345). -/
def execIntegrationDone (t k : Nat) (s : State) : Host.Outcome State Fault Refusal :=
  .next (reformIfDue k (integrationDone k (toL t s)))

/-- RECOVERY_DONE: 128 recessive sequences return controller k to ACTIVE (R345, R371). -/
def execRecoveryDone (t k : Nat) (s : State) : Host.Outcome State Fault Refusal :=
  let s := toL t s
  .next (if (canCtl k s).state != .recovering then s
    else reformIfDue k (cfgDone k .done (modCtl k (fun c => { c with state := .active, tec := 0, rxErr := 0 }) s)))

/-! ### Frames received -/

/-- The authentication bytes of the receive profile of a frame (R404). -/
def rxExtra (k : Nat) (x : CanRx) (s : State) : Nat := ((authProfileOf k false x.w0 s).map (fun a => (canAuth a s).extra)).getD 0

/-- A frame's valid point on controller k: counted, filtered, verified, delivered, and offered to the gateway (R352 to R356, R403). -/
def frameTaken (t k : Nat) (x : CanRx) (s : State) : State :=
  let (s, gw) := canReceive k x (toL t s)
  let s := frameEnded k t (sofSeen k x.sof s)
  if gw then gwOffer k (rxExtra k x s) x s else s

/-- A frame that controller k takes; a ring frame and a reference message are taken by their protocols too (R366, R388). -/
def frameServed (t k : Nat) (x : CanRx) (s : State) : State :=
  let s := frameTaken t k x s
  let s := match ringOf k x.w0 x.rtr x.data s with
    | some m => ringReceived k x.sof m s
    | none => s
  match refPrio k x.w0 x.rtr x.data s with
  | some p => if groupOff 0x06 s then s else refReceived p x.sof x.data s
  | none => s

/-- A frame on the bus of controller k that is valid by its format's rules. One of a format that the controller does not carry is
none for it: with PXE set a protocol exception lets it pass, else it is a form error (R339, R340, DEDUCED, log entry 108). -/
def frameValid (t k : Nat) (x : CanRx) (s : State) : State :=
  onFrame k x.sof (fun s => k < 12 && receives k s && hostUp s && rxShape x) (fun s =>
    if formatOn k x s then frameServed t k x s
    else if bit 6 (canCtl k s).cfg.ctl || 2 < frameFmt x.w0 then s
    else rxBad t k 2 1 false (toL t s)) s

/-- CAN_FRAME_VALID: a received frame of any kind reaches its valid point at tick t (R355). -/
def execCanFrameValid (t sof k : Nat) (w0 : Word) (rtr brs esi : Bool) (af xl : Word) (data : List Byte) (s : State) :
    Host.Outcome State Fault Refusal :=
  .next (frameValid t k { w0 := w0, rtr := rtr, brs := brs, esi := esi, af := af, xl := xl, data := data, sof := sof } s)

/-- A classical data frame, or an FD one, as the rows of the protocols bring it. -/
def plainFrame (sof : Nat) (w0 : Word) (data : List Byte) : CanRx :=
  { w0 := w0, rtr := false, brs := false, esi := false, af := 0, xl := 0, data := data, sof := sof }

/-- REFERENCE_MESSAGE: the received frame is a reference message of network time (R366). -/
def execReferenceMessage (t sof k : Nat) (w0 : Word) (data : List Byte) (s : State) : Host.Outcome State Fault Refusal :=
  .next (if (refPrio k w0 false data s).isSome then frameValid t k (plainFrame sof w0 data) s else s)

/-- The flags of a received ring frame. -/
def ringFlags (k : Nat) (w0 : Word) (data : List Byte) (s : State) : Option RingFlags :=
  (ringOf k w0 false data s).map (fun m => m.2.2.1)

/-- RING_FRAME_RX: the received frame is a ring frame that carries neither COMMIT nor WAKE (R389, R390). -/
def execRingFrameRx (t sof k : Nat) (w0 : Word) (data : List Byte) (s : State) : Host.Outcome State Fault Refusal :=
  .next (match ringFlags k w0 data s with
    | some f => if f.commit || f.wake then s else frameValid t k (plainFrame sof w0 data) s
    | none => s)

/-- COMMIT_RX: the received frame is a COMMIT frame; its SOF tick is the commit tick (R391, R394). -/
def execCommitRx (t sof k : Nat) (w0 : Word) (data : List Byte) (s : State) : Host.Outcome State Fault Refusal :=
  .next (match ringFlags k w0 data s with
    | some f => if f.commit then frameValid t k (plainFrame sof w0 data) s else s
    | none => s)

/-- WAKE_FRAME_RX: the received frame is a WAKE frame (R396). -/
def execWakeFrameRx (t sof k : Nat) (w0 : Word) (data : List Byte) (s : State) : Host.Outcome State Fault Refusal :=
  .next (match ringFlags k w0 data s with
    | some f => if f.wake then frameValid t k (plainFrame sof w0 data) s else s
    | none => s)

/-! ### The CAN block (R378) -/

/-- Register o of controller k. -/
def readCtl (o : Nat) (c : CanCtl) : Option Word :=
  match o with
  | 0x00 => some c.cfg.ctl
  | 0x04 => some (canStat c)
  | 0x08 => some c.cfg.nbt
  | 0x0C => some c.cfg.dbt
  | 0x10 => some c.cfg.xbt
  | 0x14 => some c.cfg.pwm
  | 0x18 => some (c.cfg.tdc ||| pack [(8, b2n c.tdcSat), (0, c.tdcv)])
  | 0x1C => some c.cfg.txcfg
  | 0x20 => some (canErr c)
  | 0x24 => some c.errCap
  | 0x28 => some (word c.bufNew)
  | 0x2C => some (word c.bufOvr)
  | 0x30 => some (fifoStat c)
  | _ =>
    if 0x100 ≤ o ∧ o < 0x500 then
      let f := nth c.filters ((o - 0x100) / 0x10)
      match o % 0x10 with
      | 0x0 => some f.id
      | 0x4 => some f.mask
      | 0x8 => some f.tgt
      | _ => none
    else none

/-- CAN_TRIGt_CFG and CAN_TRIGt_WIN as written. -/
def trigWords (x : CanTrig) : Word × Word := (x.next.map (fun n => (n.1, n.2.1))).getD (x.cfg, x.win)

/-- The CAN block at an offset. -/
def readCan (off : Nat) (s : State) : Option Word :=
  let n := s.can.nt
  let o := unsigned 64 (n.offsetAt s.now)
  if off < 0xC000 then readCtl (off % 0x1000) (canCtl (off / 0x1000) s)
  else match off with
    | 0xC000 => some n.cfg
    | 0xC004 => some n.ref
    | 0xC008 => some n.cycle
    | 0xC00C => some (ntStat s)
    | 0xC010 => some (word o)
    | 0xC014 => some (word (o / 2 ^ 32))
    | 0xC018 => some (word (unsigned 32 n.rate))
    | _ =>
      if 0xC100 ≤ off ∧ off < 0xC180 then
        let w := trigWords (nth s.can.trigs ((off - 0xC100) / 8))
        if off % 8 = 0 then some w.1 else if off % 8 = 4 then some w.2 else none
      else if 0xD000 ≤ off ∧ off < 0xD400 then
        let a := canAuth ((off - 0xD000) / 0x10) s
        match off % 0x10 with
        | 0x0 => some a.cfg
        | 0x4 => some a.id
        | 0x8 => some (word a.fv)
        | 0xC => some (word (a.fv / 2 ^ 32))
        | _ => none
      else none

/-- What a read of the CAN block clears: the RC fields of CAN_ERRCAPk (R7). -/
def readsCan (off : Nat) (s : State) : State :=
  if off < 0xC000 ∧ off % 0x1000 = 0x24 then modCtl (off / 0x1000) (fun c => { c with errCap := 0 }) s else s

/-- CAN_TRIGt_CFG (o = 0) or CAN_TRIGt_WIN (4) written: in force from the next cycle start; ignored as a whole with a value
that R376 refuses. -/
def writeTrig (i o : Nat) (v : Word) (s : State) : State × Ans :=
  let s := settleTrig i s
  let (c, w) := trigWords (nth s.can.trigs i)
  let c' := if o = 0 then v &&& 0xBFEFFFFF else c
  let w' := if o = 4 then v &&& 0xFFFF else w
  if 6 < fld 29 27 c' ∨ w' = 0 ∨ !trigFits s.can.nt.cycleT c' then (s, .done [])
  else (modTrig i (fun x => { x with next := some (c', w', s.now) }) s, .done [])

/-- A write to the CAN block, by an authenticated session or not (R363, R376, R378). -/
def writeCan (authed : Bool) (off : Nat) (v : Word) (s : State) : State × Ans :=
  if off < 0xC000 then
    let k := off / 0x1000
    let off_ := fun (m : Nat) => m - (m &&& v.toNat)
    match off % 0x1000 with
    | 0x28 => (modCtl k (fun c => { c with bufNew := off_ c.bufNew }) s, .done [])
    | 0x2C => (modCtl k (fun c => { c with bufOvr := off_ c.bufOvr }) s, .done [])
    | 0x30 => (modCtl k (fun c => { c with ovf := c.ovf && !bit 31 v }) s, .done [])
    | _ => (s, .done [])
  else if off = 0xC00C then (modNt (fun n => { n with step := n.step && !bit 12 v }) s, .done [])
  else if 0xC100 ≤ off ∧ off < 0xC180 then
    if off % 4 = 0 then writeTrig ((off - 0xC100) / 8) (off % 8) v s else (s, .done [])
  else if 0xD000 ≤ off ∧ off < 0xD400 then writeAuth ((off - 0xD000) / 0x10) (off % 0x10) v authed s
  else (s, .done [])

/-- The W1C bits of the CAN block (R102). -/
def w1cCan (off : Nat) : Word :=
  if off < 0xC000 then
    match off % 0x1000 with
    | 0x28 | 0x2C => 0xFFFFFFFF
    | 0x30 => 0x80000000
    | _ => 0
  else if off = 0xC00C then 0x1000 else 0

end Sys2Proof.Machine
end

