-- ==== Sys2Proof/Machine/Ports.lean ====
section
/-! DEFINITION. The host ports and the chain (chapter 13): QSPI, the MACs, 802.1AS time, the Ply links, heartbeats and
marks, the output of the ports, and the HOST registers (R104, R431). -/

namespace Sys2Proof.Machine

/-- Port p's buffers. -/
def portOf (p : Port) (s : State) : PortBuf := nth s.host.ports (portIx p)
/-- Port p's buffers changed by f. -/
def modPort (p : Port) (f : PortBuf → PortBuf) (s : State) : State :=
  modHost (fun h => { h with ports := upd h.ports (portIx p) f }) s
/-- The bytes in port p's input buffer. -/
def inputBytes (p : Port) (s : State) : Nat := (((portOf p s).input).map (fun x => x.2.length)).sum
/-- A complete frame put into port p's input buffer. -/
def pushIn (p : Port) (peer : Peer) (frame : List Byte) (s : State) : State :=
  modPort p (fun b => { b with input := b.input ++ [(peer, frame)] }) s

/-- The clock-gated unit of a port is open: 14 for QSPI, 12 and 13 for the MACs (R561). -/
def portOpen (u : Nat) (s : State) : Bool := !s.clk.gate.testBit u

/-- The QSPI port runs: the firmware accepts requests, in RUN or IDLE, with the unit open (R561, R569, R608). -/
def qspiUp (s : State) : Bool := hostUp s && decide (s.clk.power ≤ 1) && portOpen 14 s

/-- The root and the power state let controllers and MACs run on their bit timing: the crystal, no COAST, RUN or IDLE (R563,
R566, R569). -/
def rootSteady (s : State) : Bool := !s.clk.coast && !s.clk.rootRc && decide (s.clk.power ≤ 1)

/-- The Ply ports run: the cores have been released (R569, R602, R603). -/
def plyRuns (s : State) : Bool := hostUp s || (s.ldie == .starting && s.clk.step != .released)

/-! ### QSPI (R411 to R413) -/

/-- The free bytes of the QSPI input buffer. -/
def qspiFree (s : State) : Nat := 16384 - inputBytes .qspi s

/-- A discarded SEND: counted, and HOST_PORT once in a management tick (R412). -/
def qspiDiscard (f : HostSt → HostSt) (s : State) : State :=
  let s := bump (ctr 0x01 1) (modHost f s)
  if nth s.host.portReported 0 == some (mgmtNow s) then s
  else reportL 0x021 1 (modHost (fun h => { h with portReported := put h.portReported 0 (some (mgmtNow s)) }) s)

/-- QSPI_SEND: a SEND that declared len bytes and brought data before QCSN rose (R411, R412). -/
def execQspiSend (t len : Nat) (data : List Byte) (s : State) : Host.Outcome State Fault Refusal :=
  .next (if !qspiUp s then s
    else
      let s := toL t s
      if len < 20 ∨ 1052 < len ∨ qspiFree s < len then qspiDiscard (fun h => { h with overrun := true }) s
      else if data.length < len then qspiDiscard (fun h => { h with trunc := true }) s
      else bump (ctr 0x01 0) (pushIn .qspi default (data.take len) s))

/-- The length of the next QSPI output frame, 0 for none. -/
def nextLen (s : State) : Nat := (((portOf .qspi s).output.head?).map (fun f => f.bytes.length)).getD 0

/-- QSPI_STATUS: the four bytes that the device drives (R411). -/
def execQspiStatus (t : Nat) (s : State) : Host.Outcome State Fault Refusal :=
  .next (if !qspiUp s then s
    else
      let s := toL t s
      modHost (fun h => { h with qspiData := bytesLE 2 (nextLen s) ++ bytesLE 2 (qspiFree s) }) s)

/-- QSPI_FETCH: the oldest output frame begins to leave, with its length before it (R411, R413). -/
def execQspiFetch (t : Nat) (s : State) : Host.Outcome State Fault Refusal :=
  .next (if !qspiUp s then s
    else
      let s := toL t s
      match (portOf .qspi s).output with
      | [] => modHost (fun h => { h with qspiData := bytesLE 2 0 }) s
      | f :: rest =>
        modHost (fun h => { h with qspiData := bytesLE 2 f.bytes.length ++ f.bytes, shifting := h.shifting ++ [f] })
          (modPort .qspi (fun b => { b with output := rest, last := f.bytes }) s))

/-- INTN is asserted, in RUN and IDLE, while the QSPI output queue holds a frame (R413); an L-die that is silent, in reset or in a
lower state releases it (R39, R53). -/
def intnLow (s : State) : Bool := hostUp s && linkLive s && decide (s.clk.power ≤ 1) && !(portOf .qspi s).output.isEmpty

/-! ### The departure of a frame (R78, R106) -/

/-- What the departure of a frame frees: the tag of a final response, an entry of a slot's event queue (R78, R106). -/
def departed (f : OutFrame) (s : State) : State :=
  match f.kind with
  | .final => modFlight (fun l => l.filter (fun e =>
      !(e.stage == .answered && e.req.slot == f.slot && e.req.tag == f.tag))) s
  | .event => overflowEvent f.slot s
  | _ => s

/-- A Ply port by its index: 0 up, 1 down. -/
def plyOf (p : Nat) (s : State) : Ply := nth s.host.ply p
/-- Ply port p changed by f. -/
def modPly (p : Nat) (f : Ply → Ply) (s : State) : State := modHost (fun h => { h with ply := upd h.ply p f }) s

/-- A Ply packet after its comma: the header of type and body length, the body, and the CRC-32C over both (R420). -/
def plyBytes (ty : Nat) (body : List Byte) : List Byte :=
  let h := bytesLE 4 (ty + 256 * body.length) ++ body
  h ++ bytesLE 4 (crc32c h).toNat

/-- MAC m. -/
def macOf (m : Nat) (s : State) : Mac := nth s.host.macs m
/-- MAC m changed by f. -/
def modMac (m : Nat) (f : Mac → Mac) (s : State) : State := modHost (fun h => { h with macs := upd h.macs m f }) s

/-- The 802.1Q tag that port p sends with: PCP and VID of HOST_MACm_VLAN where it is enabled (R415). -/
def sentTag (p : Port) (s : State) : Option Nat :=
  match p with
  | .mac0 | .mac1 =>
    let v := (macOf (portIx p - 1) s).vlan
    if bit 12 v then some (fld 11 0 v + 8192 * fld 15 13 v) else none
  | _ => none

/-- RESPONSE_SENT: the last byte of a frame leaves its port: on QSPI the frame being fetched, on a MAC or a Ply port the
oldest output frame, on a MAC to the peer that bound the slot, with the tag of the MAC. A Ply port sends only what the last CREDIT
shows room for (R78, R415, R416, R421). -/
def execResponseSent (t : Nat) (port : Port) (s : State) : Host.Outcome State Fault Refusal :=
  .next (if !hostUp s then s
    else
      let s := toL t s
      match port with
      | .qspi =>
        match s.host.shifting with
        | [] => s
        | f :: rest => departed f (modHost (fun h => { h with shifting := rest }) s)
      | _ =>
        match (portOf port s).output with
        | [] => s
        | f :: rest =>
          let pop := fun (sent : List Byte) => modPort port (fun b =>
            { b with output := rest, last := sent, lastPeer := f.peer, lastTag := sentTag port s })
          let p := portIx port - 3
          let ply := port == .plyUp || port == .plyDown
          if !ply then departed f (pop f.bytes s)
          else if (plyOf p s).state != .up || (plyOf p s).credit < f.bytes.length then s
          else
            let s := modPly p (fun x => { x with credit := x.credit - f.bytes.length }) (pop (plyBytes 1 f.bytes) s)
            departed f (if f.kind == .forwarded then bump (ctr 0x01 (0x22 + 4 * p)) s else s))

/-! ### Ethernet (R414 to R416) -/


/-- MAC m carries frames. -/
def macUp (m : Nat) (s : State) : Bool := bit 0 (macOf m s).cfg && (macOf m s).link && m < 2 && portOpen (12 + m) s && rootSteady s

/-- A frame's tag is accepted: none, or the one that HOST_MACm_VLAN names (R415). -/
def vlanOk (m : Nat) (vlan : Option Nat) (s : State) : Bool :=
  match vlan with
  | none => true
  | some v => bit 12 (macOf m s).vlan && fld 11 0 (macOf m s).vlan == v

/-- UDP_DATAGRAM_RX: an IPv4 UDP datagram from peer to dst and UDP port dport arrives on MAC m; vlan is its tag, plain
tells that it is no fragment and has no options (R415, R416). -/
def execUdpDatagramRx (t m : Nat) (peer : Peer) (dst dport : Nat) (vlan : Option Nat) (plain : Bool) (data : List Byte)
    (s : State) : Host.Outcome State Fault Refusal :=
  .next (if !hostUp s ∨ !macUp m s ∨ !plain ∨ dst != (macOf m s).ip.toNat ∨ dport != fld 31 16 (macOf m s).cfg ∨
      !vlanOk m vlan s then s
    else
      let s := toL t s
      if 32768 < inputBytes (ixPort (1 + m)) s + data.length then
        bump (ctr 0x01 (0x11 + 4 * m)) (modMac m (fun x => { x with rxDrop := true }) s)
      else bump (ctr 0x01 (0x10 + 4 * m)) (pushIn (ixPort (1 + m)) peer data s))

/-- The 802.1Q tag of a request that the ARP and ICMP rows carry: above the 32 bits of the address asked for, the tag's VID + 1, 0 of
an untagged frame (log entry 110). -/
def askedTag (asked : Nat) : Option Nat := if asked < 2 ^ 32 then none else some (asked / 2 ^ 32 - 1)

/-- The device answers a request for its own address on MAC m, in a frame that it accepts, with its own tag where that is enabled
(R415). -/
def answerMac (t m asked fromAddr : Nat) (s : State) : State :=
  if !hostUp s ∨ !macUp m s ∨ asked % 2 ^ 32 != (macOf m s).ip.toNat ∨ !vlanOk m (askedTag asked) s then s
  else modMac m (fun x => { x with replyTo := fromAddr, replies := x.replies + 1, replyTag := sentTag (ixPort (1 + m)) s }) (toL t s)

/-- ARP_REQUEST: the device answers a request for HOST_MACm_IP (R415). -/
def execArpRequest (t m asked fromAddr : Nat) (s : State) : Host.Outcome State Fault Refusal :=
  .next (answerMac t m asked fromAddr s)

/-- ICMP_ECHO: the device answers an echo request to HOST_MACm_IP (R415). -/
def execIcmpEcho (t m asked fromAddr : Nat) (s : State) : Host.Outcome State Fault Refusal :=
  let s' := answerMac t m asked fromAddr s
  .next s'

/-- MAC_LINK_CHANGE: the link of MAC m comes up or goes down; fast tells what SGMII auto-negotiation reports, and on RGMII
the rate is that of SPEED (R406, R414). -/
def execMacLinkChange (t m : Nat) (up fast : Bool) (s : State) : Host.Outcome State Fault Refusal :=
  .next (if 2 ≤ m ∨ !hostUp s ∨ !bit 0 (macOf m s).cfg ∨ (up && !(rootSteady s && portOpen (12 + m) s)) then s
    else
      let x := macOf m s
      let rate := if !up then 0 else if x.rgmii then (if bit 4 x.cfg then 1 else 2) else if fast then 2 else 1
      raiseIso (12 + m) (modMac m (fun y => { y with link := up, rate := rate }) (toL t s)))

/-! ### 802.1AS time (R417 to R419) -/

/-- 802.1AS changed by f. -/
def modGptp (f : Gptp → Gptp) (s : State) : State := modHost (fun h => { h with gptp := f h.gptp }) s
/-- MAC m carries 802.1AS. -/
def gptpOn (m : Nat) (s : State) : Bool :=
  bit 0 s.host.gptp.cfg && b2n (bit 1 s.host.gptp.cfg) == m && macUp m s && hostUp s

/-- DISCIPLINE is in force: on device 0, while time is synchronised (R419). -/
def disciplined (s : State) : Bool :=
  bit 0 s.host.gptp.cfg && bit 2 s.host.gptp.cfg && s.deviceId == 0 && s.host.gptp.synced

/-- What a slew of device time that starts at tick a, to add d ticks, has added by tick t: no more than 1 tick in every 1,000, and never
a step (R419, R427). The ticks that the rows carry are device time as slewed (log entries 4, 110). -/
def slewedBy (a : Nat) (d : Int) (t : Nat) : Int :=
  let most : Int := (((t - a) / 1000 : Nat) : Int)
  max (-most) (min most d)

/-- The slew that a Sync at device time t with gPTP time ns starts, where DISCIPLINE is in force, toward 5 × device time + OFFSET0 =
gPTP time; none otherwise (R419). -/
def startSlew (t ns : Nat) (g : Gptp) : Gptp :=
  { g with slewFrom := t, slewBy := if g.disciplined then ((ns : Int) - (5 * (t : Int) + g.offset0)) / 5 else 0 }

/-- GPTP_SYNC: a Sync with its Follow_Up gives gPTP time ns at device time t: OFFSET and RATE follow, and under DISCIPLINE the slew of
device time (R418, R419). -/
def execGptpSync (t m ns : Nat) (s : State) : Host.Outcome State Fault Refusal :=
  .next (if !gptpOn m s then s
    else
      let s := toL t s
      let g := s.host.gptp
      let rate := match g.lastSync with
        | some t0 =>
          if t0 < t then (((ns : Int) - g.lastGptp) - 5 * ((t : Int) - t0)) * 1000000000 / (5 * ((t : Int) - t0)) else g.rate
        | none => g.rate
      let s := modGptp (fun g => { g with
        offset := (ns : Int) - 5 * t, rate := rate, synced := true, lastSync := some t, lastGptp := ns }) s
      modGptp (fun g => startSlew t ns { g with disciplined := disciplined s }) s)

/-- GPTP_SYNC_LOSS: three Sync intervals have passed without a Sync (R418). -/
def execGptpSyncLoss (t : Nat) (s : State) : Host.Outcome State Fault Refusal :=
  .next (if !hostUp s ∨ !s.host.gptp.synced then s
    else reportL 0x022 (b2n (bit 1 s.host.gptp.cfg))
      (modGptp (fun g => { g with synced := false, disciplined := false, slewBy := 0 }) (toL t s)))

/-- PDELAY_REQUEST: a peer-delay request is answered, or an exchange of the device's own measures the link delay (R417). -/
def execPdelayRequest (t m : Nat) (measured : Option Nat) (s : State) : Host.Outcome State Fault Refusal :=
  .next (if !gptpOn m s then s
    else match measured with
      | some ns => modGptp (fun g => { g with pdelay := min 65535 ns }) (toL t s)
      | none => modMac m (fun x => { x with replies := x.replies + 1 }) (toL t s))

/-- ANNOUNCE: the grandmaster named; another one than before sets GM_CHANGE (R417, R418). -/
def execAnnounce (t m gm : Nat) (s : State) : Host.Outcome State Fault Refusal :=
  .next (if !gptpOn m s then s
    else modGptp (fun g =>
      { g with gm := some gm, gmChange := g.gmChange || (g.gm.map (fun x => x != gm)).getD false }) (toL t s))

/-! ### The chain (R420 to R430) -/

/-- The chain view changed by f. -/
def modChainSt (f : Chain → Chain) (s : State) : State := modHost (fun h => { h with chain := f h.chain }) s
/-- What is known of device d. -/
def viewDev (d : Nat) (s : State) : DevView := nth s.host.chain.views d
/-- What is known of device d changed by f. -/
def modView (d : Nat) (f : DevView → DevView) (s : State) : State := modChainSt (fun c => { c with views := upd c.views d f }) s

/-- PRESENT: the devices heard and not lost, the own bit set (R431). -/
def presentMask (s : State) : Nat :=
  bitsOf ((List.range 4).filter (fun d => d == s.deviceId || (viewDev d s).present))

/-- HOST_CHAIN_STAT. -/
def chainStat (s : State) : Word :=
  let c := s.host.chain
  pack [(16, unsigned 16 c.alignErr), (8, presentMask s), (4, b2n c.aligned), (0, c.source)]

/-- CHAIN_STATUS (R430). -/
def chainEvent (d reason : Nat) (s : State) : State :=
  postEvent 0xF0E [pack [(8, reason), (0, d)], chainStat s] s

/-- The device that port p faces. -/
def facing (p : Nat) (s : State) : Nat := if p = 0 then s.deviceId - 1 else s.deviceId + 1
/-- Port p can face a neighbour: device 0 ignores its up port, and no device follows device 3 (R36, R424). -/
def hasNeighbour (p : Nat) (s : State) : Bool := if p = 0 then s.deviceId != 0 else s.deviceId != 3
/-- The port toward device d. -/
def toward (d : Nat) (s : State) : Nat := if d < s.deviceId then 0 else 1

/-- The commands passed to device d are applied here: the link to it is down, or it is lost (R176). -/
def fallbackFor (gone : Nat → Bool) (s : State) : State :=
  (List.range 16).foldl (fun s j =>
    let e := chainE j s
    if 2 ≤ e.state && gone e.pdev then mirrorFallback e.skein s else s) s

/-- ALIGNED takes a value, with its event (R427). -/
def setAligned (v : Bool) (s : State) : State :=
  if s.host.chain.aligned == v then s
  else chainEvent s.deviceId (if v then 5 else 6) (modChainSt (fun c => { c with aligned := v }) s)

/-- PLY_TRAINING: Ply link p has trained; the spec gives no number for what a new link's latency reads until it has been
measured, so the world's measure comes with the event (R420, R430). -/
def execPlyTraining (t p latency : Nat) (s : State) : Host.Outcome State Fault Refusal :=
  .next (if !plyRuns s ∨ 2 ≤ p ∨ (plyOf p s).state == .up then s
    else
      let s := modPly p (fun x => { x with state := .up, latency := min 255 latency, credit := 0 }) (toL t s)
      if hasNeighbour p s then chainEvent (facing p s) 1 s else s)

/-- PLY_RETRAIN: 10 µs without a valid symbol: link p trains again, and the commands passed over it are applied here
(R176, R420). -/
def execPlyRetrain (t p : Nat) (s : State) : Host.Outcome State Fault Refusal :=
  .next (if !plyRuns s ∨ 2 ≤ p ∨ (plyOf p s).state == .down then s
    else
      let s := modPly p (fun x => { x with state := .training }) (toL t s)
      fallbackFor (fun d => toward d s == p) s)

/-- A packet counted on port p (R432). -/
def plyPacket (p : Nat) (s : State) : State := bump (ctr 0x01 (0x20 + 4 * p)) s

/-- Link p carries packets. -/
def plyLive (p : Nat) (s : State) : Bool :=
  plyRuns s && p < 2 && ((plyOf p s).state == .up || (plyOf p s).state == .lost) && !(p == 0 && s.deviceId == 0)

/-- The type and the body of a received packet; none where its CRC or its length fails (R420). -/
def readPly (l : List Byte) : Option (Nat × List Byte) :=
  let n := natLE ((l.drop 1).take 2)
  let h := l.take (4 + n)
  if n ≤ 1060 ∧ l.length = n + 8 ∧ l.drop (4 + n) = bytesLE 4 (crc32c h).toNat then some ((l.headD 0).toNat, h.drop 4)
  else none

/-- A response or an event from the chain leaves on the route port of its slot, or is dropped (R426). -/
def routeBack (p : Nat) (frame : List Byte) (s : State) : State :=
  let slot := (frame.getD 5 0).toNat / 64
  match nth s.host.chain.route slot with
  | none => bump (ctr 0x01 2) s
  | some q =>
    if (plyOf p s).orderErr || ((q == .plyUp || q == .plyDown) && (plyOf (portIx q - 3) s).orderErr) then s
    else pushOut q { kind := .forwarded, slot := slot, raw := frame, peer := nth s.host.chain.routePeer slot } s

/-- PLY_EODEN_PACKET: a packet that should be an EODEN packet arrives on Ply port p with these bytes for its CRC: one that fails its
CRC is discarded and counted; a request waits in the port's input buffer, a response or an event goes on toward its host (R420,
R425, R426). -/
def execPlyEodenPacket (t p : Nat) (crc packet : List Byte) (s : State) : Host.Outcome State Fault Refusal :=
  .next (if !plyLive p s ∨ !hostUp s then s
    else
      let s := plyPacket p (toL t s)
      match readPly (packet ++ crc) with
      | none => bump (ctr 0x01 (0x21 + 4 * p)) s
      | some (1, frame) => if frame.headD 0 == 0xB8#8 then routeBack p frame s else pushIn (ixPort (3 + p)) default frame s
      | some _ => s)

/-- CREDIT: the receiver of link p has n bytes free (R421). -/
def execCredit (t p n : Nat) (s : State) : Host.Outcome State Fault Refusal :=
  .next (if !plyLive p s then s else modPly p (fun x => { x with credit := n }) (plyPacket p (toL t s)))

/-- Device d is declared lost: on its port, to the host and the collector, for its chain entries (R177, R422). -/
def declareLost (d : Nat) (s : State) : State :=
  let p := toward d s
  let s := modView d (fun v => { v with present := false }) s
  let s := modPly p (fun x => { x with lostSeen := true, state := if facing p s = d then .lost else x.state }) s
  let s := bump (ctr 0x01 (0x23 + 4 * p)) (reportL 0x023 d (chainEvent d 2 s))
  let s := if p = 0 ∧ facing 0 s = d then setAligned false (modChainSt (fun c => { c with source := 0 }) s) else s
  fallbackFor (fun x => x == d) (takeoverAll d s)

/-- PLY_LOSS: 250 µs without a heartbeat of device d, which is neither parked nor in recovery (R422, R423). -/
def execPlyLoss (d : Nat) (s : State) : Host.Outcome State Fault Refusal :=
  let v := viewDev d s
  .next (match v.heard with
    | none => s
    | some h => if !plyRuns s ∨ !v.present ∨ v.parked then s else declareLost d (toL (h + 50000) s))

/-- What a heartbeat shows of device h.dev (R420, R423, R602). -/
def takeView (h : Beat) (s : State) : State :=
  let old := viewDev h.dev s
  let entry := fun (l : List Nat) =>
    ({ skein := at0 l 0, pdev := at0 l 1, pskein := at0 l 2, secondary := at0 l 3 == 1, state := at0 l 4
       swap := at0 l 5, give := at0 l 6, period := word (at0 l 7), phase := at0 l 8, due := at0 l 9
       unfit := at0 l 10, limit := at0 l 11 } : ChainView)
  let s := modView h.dev (fun v => { v with
    heard := some s.now, present := !h.recovery, parked := h.park, power := h.power, aligned := h.aligned
    pdieWarm := h.warm, recovery := h.recovery, entries := if h.recovery then [] else h.entries.map entry }) s
  let near := facing (toward h.dev s) s == h.dev
  let s := if near then modPly (toward h.dev s) (fun x => { x with parked := h.park }) s else s
  let s := if h.park && !old.parked && near then chainEvent h.dev 3 s else s
  if h.recovery && old.present then
    -- declared lost for its chain entries and for CHAIN_STATUS; the link itself stays (R602)
    let p := toward h.dev s
    let st := (plyOf p s).state
    modPly p (fun x => { x with state := st }) (declareLost h.dev s)
  else s

/-- The link's latency, from the echo of a neighbour's heartbeat (R427). -/
def takeLatency (h : Beat) (s : State) : State :=
  if h.echo = 0 ∧ h.rx = 0 then s
  else modPly h.p (fun x => { x with latency := min 255 (((s.now - h.echo) - (h.time - h.rx)) / 2) }) s

/-- The alignment of device time to the up neighbour, whose own error to device 0 the heartbeat carries: the two make the error to
device 0, and a slew toward the up neighbour starts (R427, log entries 77, 110). -/
def takeAlign (h : Beat) (s : State) : State :=
  if h.p != 0 ∨ s.deviceId = 0 then s
  else
    let err := (s.now : Int) - ((h.time : Int) + (plyOf 0 s).latency) + h.err
    let s := modChainSt (fun c => { c with alignErr := err, source := 1, slewFrom := s.now, slewBy := h.err - err }) s
    setAligned (err.natAbs ≤ 2 && (h.dev == 0 || h.aligned)) s

/-- Training starts (R236). -/
def startTraining (s : State) : State :=
  modWeft (fun w => { w with state := .training, trainStart := some s.now, retryAt := none }) s

/-- A start that waits for the chain's time goes on: its firmware trains the Weft link (R603). -/
def chainWaitOver (s : State) : State :=
  if s.clk.step == .chainWait then startTraining { s with clk := { s.clk with step := .started } } else s

/-- HEARTBEAT: a heartbeat received on a trained port: the neighbour's ID is checked (R424), the views are updated, it is
relayed onward (R422). -/
def execHeartbeat (h : Beat) (s : State) : Host.Outcome State Fault Refusal :=
  .next (if !plyLive h.p s ∨ h.dev = s.deviceId ∨ 4 ≤ h.dev then s
    else
      let s := plyPacket h.p (toL h.t s)
      let wrong := !h.relayed && h.dev != facing h.p s
      if wrong then
        let was := (plyOf h.p s).orderErr
        let s := modPly h.p (fun x => { x with neighId := h.dev, orderErr := true }) s
        if was then s else reportL 0x024 (4 + h.p) (chainEvent h.dev 4 s)
      else
        let back := !h.relayed && (plyOf h.p s).state == .lost
        let s := if h.relayed then s
          else takeLatency h (modPly h.p (fun x =>
            { x with neighId := h.dev, orderErr := false, heard := some s.now, echo := h.time
                     state := if x.state = .lost then .up else x.state }) s)
        let s := takeView h s
        let s := if back then chainEvent h.dev 1 s else s
        let s := if h.relayed then s else takeAlign h s
        let s := if h.p = 0 && !h.relayed && h.aligned then chainWaitOver s else s
        let q := 1 - h.p
        if (plyOf h.p s).orderErr || (plyOf q s).orderErr || (plyOf q s).state != .up then s
        else modChainSt (fun c => { c with relayed := put c.relayed q (some { h with relayed := true }) }) s)

/-- What a heartbeat shows of a role swap: 1 an offer, 2 its acceptance (R180). -/
def swapShown (stage : Nat) : Nat := if stage = 3 then 1 else if stage = 0 then 0 else 2

/-- The next management-tick boundary is the first of the two of a give-back that entry e decides: its count then reaches
GIVEBACK, or GIVE_NOW waits for it (R179). -/
def giveDue (e : ChainEntry) : Bool :=
  e.state == 3 && e.secondary &&
    (e.giving == 2 || (fld 15 0 e.give != 0 && e.giving == 0 && decide (fld 15 0 e.give ≤ (e.count.map (fun c => c + 1)).getD 0)))

/-- The own chain entries as a heartbeat shows them (R420, log entry 69); in recovery every one is UNUSED (R602). -/
def ownEntries (s : State) : List (List Nat) :=
  if s.ldie == .recovery then []
  else ((List.range 16).filter (fun j => (chainE j s).state != 0)).map (fun j =>
    let e := chainE j s
    let d := defL e.skein s
    [e.skein, e.pdev, e.pskein, b2n e.secondary, e.state, swapShown e.swapping, b2n e.giveNow, d.period.toNat, d.phase,
      b2n (giveDue e && !groupOff 0x0D s), b2n (!chainFit d), s.loom.pwrLimit.toNat])

/-- The heartbeat that this device sends on port p at its present tick: the echo and the receive tick are those of the last heartbeat
received there, with which the neighbour on that link measures it (R420, R427). -/
def ownBeat (p : Nat) (s : State) : Beat :=
  { t := s.now, p := p, dev := s.deviceId, relayed := false, time := s.now, echo := (plyOf p s).echo
    rx := ((plyOf p s).heard).getD 0, present := presentMask s, power := s.loom.pwrEst
    aligned := if s.deviceId = 0 then s.host.chain.adopted else s.host.chain.aligned
    err := if s.deviceId = 0 then 0 else s.host.chain.alignErr
    warm := s.weft.warm, recovery := s.ldie == .recovery, park := s.host.chain.park, entries := ownEntries s }

/-- Ply link p is trained: packets go out on it (R420). -/
def plyTrained (p : Nat) (s : State) : Bool := (plyOf p s).state == .up || (plyOf p s).state == .lost

/-- A heartbeat goes out on each trained port (R422, R423). -/
def sendBeats (s : State) : State :=
  modChainSt (fun c => { c with
    sent := Vector.ofFn (fun p => if plyTrained p.val s then some (ownBeat p.val s) else nth c.sent p.val) }) s

/-- HEARTBEAT_SEND: every 50 µs a heartbeat goes out on each trained port (R422). -/
def execHeartbeatSend (s : State) : Host.Outcome State Fault Refusal :=
  .next (if !plyRuns s then s
    else
      let s := toL s.host.chain.nextBeat s
      sendBeats (modChainSt (fun c => { c with nextBeat := max s.now c.nextBeat + 10000 }) s))

/-- The Reel changed by f. -/
def modReel (f : Reel → Reel) (s : State) : State := modHost (fun h => { h with reel := f h.reel }) s

/-- A chain mark on this device: its set is held until its latch tick, or the refusal waits to be reported then (R109,
R113). -/
def takeMark (set tick : Nat) (s : State) : State :=
  let x := nth s.host.reel.sets set
  let refuse := fun (st : Status) =>
    modReel (fun r => { r with refused := r.refused ++ [{ set := set, tick := tick, status := st.code }] }) s
  if groupOff 0x0C s then refuse .abortedDisabled
  else if x.held then refuse .busy
  else modReel (fun r => { r with sets := put r.sets set { held := true, pending := true, armed := true, chain := true, tick := tick } }) s

/-- PLY_MARK: a chain snapshot mark arrives on Ply port p, is relayed and holds the set it names (R109, R429). -/
def execPlyMark (t p set tick : Nat) (s : State) : Host.Outcome State Fault Refusal :=
  .next (if !plyLive p s ∨ 4 ≤ set ∨ s.deviceId = 0 then s
    else
      let s := plyPacket p (toL t s)
      let on := (plyOf (1 - p) s).state == .up && !(plyOf (1 - p) s).orderErr && !(plyOf p s).orderErr
      takeMark set tick (if on then modChainSt (fun c => { c with sentMark := some (set, tick) }) s else s))

/-! ### The HOST registers (R104, R431) -/

/-- HOST_SLOT_STATn. -/
def slotStat (n : Nat) (s : State) : Word :=
  let sl := slotOf n s
  pack [(16, sl.authFails), (12, b2n sl.session.isSome), (9, portCode sl.port), (0, freeTags n s)]

/-- Register o of MAC m. -/
def readMac (o : Nat) (x : Mac) : Option Word :=
  match o with
  | 0x00 => some x.cfg
  | 0x04 => some x.ip
  | 0x08 => some x.addrLo
  | 0x0C => some x.addrHi
  | 0x10 => some x.vlan
  | 0x14 => some (pack [(3, b2n x.rxDrop), (1, x.rate), (0, b2n x.link)])
  | _ => none

/-- HOST_PLYp_STAT. -/
def plyStat (x : Ply) : Word :=
  let st := match x.state with | .down => 0 | .training => 1 | .up => 2 | .lost => 3
  pack [(16, x.latency), (8, x.neighId), (4, b2n x.parked), (3, b2n x.orderErr), (2, b2n x.lostSeen), (0, st)]

/-- The HOST block at an offset. -/
def readHost (off : Nat) (s : State) : Option Word :=
  let g := s.host.gptp
  if off < 0x10 then some (slotOf (off / 4) s).cfg
  else if off < 0x20 then some (slotStat ((off - 0x10) / 4) s)
  else if off < 0x30 then some (word (slotOf ((off - 0x20) / 4) s).lastSeq)
  else if off < 0x40 then some ((slotOf ((off - 0x30) / 4) s).mask ||| 3)
  else if 0x200 ≤ off ∧ off < 0x280 then readMac ((off - 0x200) % 0x40) (macOf ((off - 0x200) / 0x40) s)
  else match off with
    | 0x104 => some (pack [(16, qspiFree s), (2, b2n s.host.trunc), (1, b2n s.host.overrun),
        (0, b2n (!(portOf .qspi s).output.isEmpty))])
    | 0x300 => some g.cfg
    | 0x304 => some (pack [(16, g.pdelay), (2, b2n g.gmChange), (1, b2n g.disciplined), (0, b2n g.synced)])
    | 0x308 => some (word (unsigned 64 g.offset))
    | 0x30C => some (word (unsigned 64 g.offset / 2 ^ 32))
    | 0x310 => some (word (unsigned 32 g.rate))
    | 0x400 => some (plyStat (plyOf 0 s))
    | 0x410 => some (plyStat (plyOf 1 s))
    | 0x420 => some (chainStat s)
    | _ => none

/-- HOST_MACm_CFG written: the interface is taken as EN rises, an RGMII link runs at the speed that SPEED now sets, and a disabled MAC
has no link (R414). -/
def writeMacCfg (m : Nat) (v : Word) (s : State) : State :=
  let old := macOf m s
  let new := writeFields [rw 31 16, rw 5 4, rw 1 0] old.cfg v
  let rgmii := if bit 0 new && !bit 0 old.cfg then bit 1 new else old.rgmii
  let s := modMac m (fun x => { x with
    cfg := new, rgmii := rgmii, rate := if rgmii && x.link then (if bit 4 new then 1 else 2) else x.rate }) s
  if bit 0 new then s else raiseIso (12 + m) (modMac m (fun x => { x with link := false, rate := 0 }) s)

/-- HOST_TIME_CFG written: OFFSET0 is frozen as DISCIPLINE is set (R419). -/
def writeTimeCfg (v : Word) (s : State) : State :=
  let old := s.host.gptp
  let new := v &&& 7
  let s := modGptp (fun g => { g with
    cfg := new, offset0 := if bit 2 new && !bit 2 old.cfg then g.offset else g.offset0
    synced := g.synced && bit 0 new && fld 1 1 new == fld 1 1 old.cfg }) s
  modGptp (fun g => { g with disciplined := disciplined s, slewBy := if disciplined s then g.slewBy else 0 }) s

/-- A write to the HOST block. -/
def writeHost (off : Nat) (v : Word) (s : State) : State × Ans :=
  let ok := fun (s : State) => (s, Ans.done [])
  if off < 0x10 then ok (modSlot (off / 4) (fun sl => { sl with cfg := v &&& 3 }) s)
  else if 0x30 ≤ off ∧ off < 0x40 then ok (modSlot ((off - 0x30) / 4) (fun sl => { sl with mask := v &&& 0xFFFFFFFC }) s)
  else if off = 0x104 then
    ok (modHost (fun h => { h with trunc := h.trunc && !bit 2 v, overrun := h.overrun && !bit 1 v }) s)
  else if 0x200 ≤ off ∧ off < 0x280 then
    let m := (off - 0x200) / 0x40
    match (off - 0x200) % 0x40 with
    | 0x00 => ok (writeMacCfg m v s)
    | 0x04 => ok (modMac m (fun x => { x with ip := v }) s)
    | 0x08 => ok (modMac m (fun x => { x with addrLo := v }) s)
    | 0x0C => ok (modMac m (fun x => { x with addrHi := v &&& 0xFFFF }) s)
    | 0x10 => ok (modMac m (fun x => { x with vlan := v &&& 0xFFFF }) s)
    | 0x14 => ok (modMac m (fun x => { x with rxDrop := x.rxDrop && !bit 3 v }) s)
    | _ => ok s
  else match off with
    | 0x300 => ok (writeTimeCfg v s)
    | 0x304 => ok (modGptp (fun g => { g with gmChange := g.gmChange && !bit 2 v }) s)
    | 0x400 => ok (modPly 0 (fun x => { x with lostSeen := x.lostSeen && !bit 2 v }) s)
    | 0x410 => ok (modPly 1 (fun x => { x with lostSeen := x.lostSeen && !bit 2 v }) s)
    | _ => ok s

/-- The W1C bits of the HOST block (R102). -/
def w1cHost (off : Nat) : Word :=
  match off with
  | 0x104 => 6
  | 0x214 | 0x254 => 8
  | 0x304 | 0x400 | 0x410 => 4
  | _ => 0

end Sys2Proof.Machine
end

