-- ==== Sys2Proof/Machine/Spindle.lean ====
section
/-! DEFINITION. The Spindle cores and the fault collector (chapter 14): the lockstep checks, the watchdogs, memory errors,
ALV, the block resets of L2, the opcodes of R460 to R464 and the SPINDLE and FAULT blocks (R466). -/

namespace Sys2Proof.Machine

/-! ### Lockstep -/

/-- The cores run compared: SPLIT is 0, and the self-tests have released them (R433, R441). -/
def lockstep (s : State) : Bool := !s.split && s.spindle.lockstep

/-- Both cores frozen (R435). -/
def freeze (s : State) : State := modSpindle (fun x => { x with frozen := true }) s

/-- The L-die runs: it is out of reset and not halted. -/
def ldieUp (s : State) : Bool := s.ldie != .off && s.ldie != .halted

/-- LOCKSTEP_MISMATCH: the comparator finds the two cores different; the request is suppressed, both cores freeze, and
SPINDLE_MISMATCH is reported (R435). -/
def execLockstepMismatch (t : Nat) (s : State) : Host.Outcome State Fault Refusal :=
  .next (if !(ldieUp s && lockstep s) then s
    else reportL 0x040 0xFF (freeze (modSpindle (fun x => { x with injMismatch := false }) (toL t s))))

/-- DELAY_COPY_ERROR: the delay copies disagree, or a parity error that no injection of the self-test caused; SPINDLE_DELAY
(R438). -/
def execDelayCopyError (t : Nat) (s : State) : Host.Outcome State Fault Refusal :=
  .next (if !(ldieUp s && lockstep s) then s
    else reportL 0x042 0xFF (freeze (modSpindle (fun x => { x with injDelay := false }) (toL t s))))

/-- One self-test with the injections `miss` undetected: it counts, the bit position moves on, DETECTED and MISSED follow
(R437, R466). -/
def selfTest (miss : Nat) (s : State) : State :=
  modSpindle (fun x => { x with
    pos := (x.pos + 1) % 64, detected := 15 - miss, selftestOk := miss == 0
    missed := if miss = 0 then x.missed else miss, injChecker := false }) (bump64 (ctr 0x02 0) s)

/-- The self-tests of a start: sixteen of them, and the reaction L4 at once where an injection is missed, one that FAULT_INJECT
suppressed in the first of them too; under SPLIT there is none, and SPINDLE_SPLIT is reported once (R439, R441, R464). -/
def startTests (miss : Nat) (s : State) : State :=
  if s.split then reportL 0x044 0xFF s
  else
    let inj := b2n s.spindle.injChecker
    let s := (List.range 14).foldl (fun s _ => selfTest 0 s) (selfTest inj s)
    let s := selfTest (miss % 16) s
    if miss % 16 = 0 ∧ inj = 0 then modSpindle (fun x => { x with lockstep := true, frozen := false }) s
    else report { src := 0x041, tick := s.now, minLevel := 4 } s

/-- CHECKER_SELF_TEST: the self-test at the next multiple of 200,000 ticks, in RUN and IDLE; a missed injection reports
SPINDLE_CHECKER. An injected fault suppresses the detection of the first one (R437, R464). -/
def execCheckerSelfTest (miss : Nat) (s : State) : Host.Outcome State Fault Refusal :=
  .next (if !(ldieUp s && lockstep s) ∨ 2 ≤ s.clk.power then s
    else
      let s := toL (max s.spindle.selfNext (ceilDiv s.now 200000 * 200000)) s
      let m := (miss % 16) ||| b2n s.spindle.injChecker
      let s := selfTest m (modSpindle (fun x => { x with selfNext := s.now + 200000 }) s)
      if m = 0 then s else reportL 0x041 0xFF s)

/-- MEMORY_ERROR: kind 0 a single-bit error, corrected and written back; 1 a double-bit error, which ends the access; any other
a cache parity error of a core, whose line is fetched again (R436). -/
def execMemoryError (t kind addr access master core : Nat) (s : State) : Host.Outcome State Fault Refusal :=
  .next (if !ldieUp s then s
    else
      let s := toL t s
      match kind with
      | 0 =>
        let s := bump (ctr 0x02 2) (modSpindle (fun x => { x with eccAddr := word addr, injCe := false }) s)
        report { src := 0x003, addr := word addr, access := access, master := master, tick := s.now } s
      | 1 =>
        let s := modSpindle (fun x => { x with injUe := false }) s
        report { src := 0x004, addr := word addr, access := access, master := master, tick := s.now } s
      | _ =>
        report { src := 0x005, inst := core % 2, addr := word addr, access := access, master := master, tick := s.now } s)

/-! ### Watchdogs (R440, R441) -/

/-- WDOG_T in ticks. -/
def wdogTicks (s : State) : Nat := fld 9 0 s.spindle.wdogCfg * 200000

/-- The watchdog of core c changed by f. -/
def modWdog (c : Nat) (f : Wdog → Wdog) (s : State) : State :=
  modSpindle (fun x => { x with wdog := upd x.wdog c f }) s

/-- A core that has a watchdog: core 0 stands for the pair in lockstep. -/
def hasWdog (c : Nat) (s : State) : Bool := c == 0 || (c == 1 && s.split)

/-- The watchdogs run: the firmware runs, and the device is in RUN (R440). -/
def wdogRuns (s : State) : Bool := s.ldie == .running && s.clk.power == 0

/-- A kick of core c with a value: late, early or wrong reports SPINDLE_WDOG; the first kick since a reset or a wake is bound
to no time (R440). -/
def kick (c v : Nat) (s : State) : State :=
  let w := nth s.spindle.wdog c
  let since := w.last.map (fun t => s.now - t)
  let bad := v != (if w.expectA5 then 0xA5 else 0x5A) ||
    (since.map (fun d => (!w.expired && wdogTicks s < d) || d < wdogTicks s / 4)).getD false
  let s := modWdog c (fun w => { w with last := some s.now, expectA5 := !w.expectA5, expired := false }) s
  if bad then reportL 0x043 c s else s

/-- WDOG_KICK: the firmware of core c writes SPINDLE_WDOG_KICK (R440). -/
def execWdogKick (t c v : Nat) (s : State) : Host.Outcome State Fault Refusal :=
  .next (if hasWdog c s && wdogRuns s && !s.spindle.frozen then kick c v (toL t s) else s)

/-- WATCHDOG_EXPIRY: WDOG_T has passed since core c's last kick (R440). -/
def execWatchdogExpiry (c : Nat) (s : State) : Host.Outcome State Fault Refusal :=
  .next (match (nth s.spindle.wdog c).last with
    | none => s
    | some t =>
      if hasWdog c s && wdogRuns s && !(nth s.spindle.wdog c).expired then
        reportL 0x043 c (modWdog c (fun w => { w with expired := true }) (toL (t + wdogTicks s) s))
      else s)

/-- Every watchdog's count restarts (R440). -/
def restartWdogs (s : State) : State :=
  [0, 1].foldl (fun s c => modWdog c (fun w => { w with last := w.last.map (fun _ => s.now) }) s) s

/-! ### ALV (R457) -/

/-- The first failing condition of R457, as ALV_STOP codes it. -/
def alvStopOf (s : State) : Nat :=
  let ws := if s.split then [0, 1] else [0]
  if 2 ≤ s.clk.power then 1
  else if s.ldie = .halted then 6
  else if s.faults.pendingL3.isSome then 5
  else if !linkLive s then 2
  else if ws.any (fun c => (nth s.spindle.wdog c).expired) then 3
  else if ws.any (fun c => (nth s.spindle.wdog c).last.isNone) then 7
  else if !s.split && !s.spindle.selftestOk then 4
  else 0

/-- ALV_TOGGLE: ALV's scheduled change, at the next multiple of 100,000 ticks: it changes level, or goes low (R457). -/
def execAlvToggle (s : State) : Host.Outcome State Fault Refusal :=
  .next (if s.ldie = .off then s
    else
      let s := toL (max s.faults.alvNext (ceilDiv s.now 100000 * 100000)) s
      let why := alvStopOf s
      modFaults (fun f => { f with
        alvNext := s.now + 100000, alvStop := why, alvOn := why == 0, alvHigh := why == 0 && !f.alvHigh }) s)

/-! ### Reports and the block resets of L2 (R444 to R446) -/

/-- Every fade stops at its present level (R446). -/
def stopFades (s : State) : State :=
  (List.range 48).foldl (fun s k => modLightSk k (fun x => { x with fade := none }) s) s

/-- The commands in flight of the opcodes `ops` on object n, taken or not, complete with ABORTED_RESET (R86). -/
def abortUnit (ops : List Nat) (n : Nat) (s : State) : State :=
  abortWhere (fun e => ops.contains e.op && obj e.req == n) .abortedReset s

/-- The commands in flight of the opcodes `ops` complete with ABORTED_RESET, whatever their objects (R86). -/
def abortOps (ops : List Nat) (s : State) : State := abortWhere (fun e => ops.contains e.op) .abortedReset s

/-- The commands in flight of CAN controller k complete with ABORTED_RESET (R86). -/
def abortCan (k : Nat) (s : State) : State :=
  abortWhere (fun e => (e.op == 0x0602 || e.op == 0x0603) && fld 11 8 e.req.object == k) .abortedReset
    (abortUnit [0x0600, 0x0601] k s)

/-- The controller of a CAN source's instance: CAN_AUTH names a profile, whose controller it is (R443, R446). -/
def canOfFault (src inst : Nat) (s : State) : Nat := if src = 0x145 then fld 3 0 (canAuth inst s).cfg else inst

/-- The block reset that an L2 reaction to a source decided (R446). -/
def doReset (s : State) (x : Nat × Nat) : State :=
  match x.1 / 32 with
  | 6 => (actStop x.2 (abortUnit [0x0300, 0x0301, 0x0302, 0x0303] x.2 s)).1
  | 7 => if x.1 = 0x0E5 then whorlStop x.2 (abortUnit [0x0404, 0x0405] x.2 s) else stopFades (abortOps [0x0400] s)
  | 10 =>
    let k := canOfFault x.1 x.2 s
    if k < 12 then resetCtl k (abortCan k s) else s
  | 11 => emptyGw (abortOps [0x0607] s)
  | _ => s

/-- The block resets decided and not yet done. -/
def runResets (s : State) : State :=
  let l := s.faults.resets
  l.foldl doReset (modFaults (fun f => { f with resets := [] }) s)

/-- A source that may be raised: the lockstep sources never are under SPLIT (R441). -/
def raisable (src : Nat) (s : State) : Bool := !(s.split && decide (0x040 ≤ src) && decide (src ≤ 0x042))

/-- A fault that was injected in the collector: a report of its source with master 14 (R441, R464). -/
def injected (s : State) (x : Nat × Nat) : State :=
  if raisable x.1 s then report { src := x.1, inst := x.2, master := 14, tick := s.now } s else s

/-- FAULT_REPORT: the collector takes the injected faults that wait, then a report of a source that has no row of its own
(a number that is no source is none, nor is a lockstep source under SPLIT), and the block resets decided are done (R441, R444 to
R446, R464). -/
def execFaultReport (t src inst detail addr access master : Nat) (s : State) : Host.Outcome State Fault Refusal :=
  .next (if !ldieUp s then s
    else
      let s := toL t s
      let l := s.faults.inject
      let s := l.foldl injected (modFaults (fun f => { f with inject := [] }) s)
      let s := if !raisable src s then s
        else report { src := src, inst := inst, detail := detail, addr := word addr, access := access
                      master := master, tick := s.now } s
      runResets s)

/-- QUIET_PERIOD_END: class c's quiet period ends; it becomes CLEAR, and FAULT is raised with reason RECOVERED
(R451, R456). -/
def execQuietPeriodEnd (c : Nat) (s : State) : Host.Outcome State Fault Refusal :=
  .next (if !ldieUp s ∨ 5 ≤ c ∨ !(clsOf c s).active then s
    else
      let s := toL ((clsOf c s).quietEnd * mgmtTicks) s
      let s := modCls c (fun x => { x with active := false, recoveries := min 65535 (x.recoveries + 1) }) s
      let x := clsOf c s
      postEvent 0xF02 (faultPayload c 2 x.lastW0 x.lastW2 s) s)

/-! ### Registers (R466) -/

/-- SPINDLE_STAT. -/
def spindleStat (s : State) : Word :=
  pack [(8, s.spindle.reason), (2, b2n s.spindle.selftestOk), (1, b2n (lockstep s)), (0, b2n s.split)]

/-- The SPINDLE block at an offset. -/
def readSpindle (off : Nat) (s : State) : Option Word :=
  match off with
  | 0x00 => some (spindleStat s)
  | 0x04 => some s.spindle.wdogCfg
  | 0x08 => some 0
  | 0x0C => some (pack [(16, s.spindle.pos), (4, s.spindle.missed), (0, s.spindle.detected)])
  | 0x10 => some s.spindle.eccAddr
  | _ => none

/-- A write to the SPINDLE block. A kick is written by the cores only (R440). -/
def writeSpindle (off : Nat) (v : Word) (s : State) : State × Ans :=
  match off with
  | 0x04 => (modSpindle (fun x => { x with wdogCfg := writeFields [rwIn 9 0 2 1000] x.wdogCfg v }) s, .done [])
  | _ => (s, .done [])

/-- FAULT_STAT. -/
def faultStat (s : State) : Word :=
  let flags := fun (f : FaultClass → Bool) => bitsOf ((List.range 5).filter (fun c => f (clsOf c s)))
  pack [(31, b2n s.faults.l4Seen), (20, b2n s.faults.alvOn), (16, s.faults.alvStop),
    (8, flags (fun c => c.cap.valid)), (0, flags (fun c => c.active))]

/-- FAULT_SRCn. -/
def srcWord (n : Nat) (s : State) : Word :=
  match srcInfo n with
  | none => 0
  | some (c, _) =>
    let r := reactionOf n s
    pack [(31, 1), (16, c), (4, b2n r.2), (0, r.1)]

/-- The six words of a capture record; zero where it is not VALID (R454, R462). -/
def capWords (c : Capture) : List Word :=
  if c.valid then [c.w0, c.w1, c.w2] ++ natToWords 2 c.tick ++ [word c.later] else List.replicate 6 0

/-- The FAULT block at an offset. -/
def readFault (off : Nat) (s : State) : Option Word :=
  if off = 0 then some s.faults.ctl
  else if off = 4 then some (faultStat s)
  else if 0x10 ≤ off ∧ off < 0x24 then some (clsOf ((off - 0x10) / 4) s).cfg
  else if 0x30 ≤ off ∧ off < 0x44 then some (clsStat (clsOf ((off - 0x30) / 4) s))
  else if 0x100 ≤ off ∧ off < 0x1A0 ∧ off % 0x20 < 0x18 then
    some (wordAt (capWords (clsOf ((off - 0x100) / 0x20) s).cap) (off % 0x20 / 4))
  else if 0x200 ≤ off ∧ off < 0x248 then some (nth s.faults.sticky ((off - 0x200) / 4))
  else if 0x4000 ≤ off ∧ off < 0x4900 then some (srcWord ((off - 0x4000) / 4) s)
  else none

/-- FAULT_CLASSc_CFG written: ESC is fixed for C3 and C4 (R452). -/
def writeClassCfg (c : Nat) (v : Word) (s : State) : State :=
  modCls c (fun x => { x with
    cfg := writeFields (if c < 3 then [rw 16 16, rwIn 13 0 10 10000] else [rwIn 13 0 10 10000]) x.cfg v }) s

/-- A write to the FAULT block. -/
def writeFault (off : Nat) (v : Word) (s : State) : State × Ans :=
  if off = 0 then (modFaults (fun f => { f with ctl := v &&& 1 }) s, .done [])
  else if off = 4 then (modFaults (fun f => { f with l4Seen := f.l4Seen && !bit 31 v }) s, .done [])
  else if 0x10 ≤ off ∧ off < 0x24 then (writeClassCfg ((off - 0x10) / 4) v s, .done [])
  else if 0x200 ≤ off ∧ off < 0x248 then
    (modFaults (fun f => { f with sticky := upd f.sticky ((off - 0x200) / 4) (fun w => w &&& ~~~ v) }) s, .done [])
  else (s, .done [])

/-- The W1C bits of the FAULT block (R102). -/
def w1cFault (off : Nat) : Word :=
  if off = 4 then 0x80000000 else if 0x200 ≤ off ∧ off < 0x248 then 0xFFFFFFFF else 0

/-- The SPINDLE and FAULT registers whose writes need an authenticated session (R465). -/
def faultAuthReg (blk off : Nat) : Bool :=
  (blk == 2 && off == 4) || (blk == 0xF && (off == 0 || (0x10 ≤ off && off < 0x24)))

/-! ### Opcodes (R460 to R464) -/

/-- FAULT_STATUS as the interpreter knows it. -/
def infoFaultStatus : OpInfo :=
  { op := 0x0A00, len := lenIs 0, recovery := true, obj := objZero
    run := fun _ s =>
      (s, .done (faultStat s :: (List.range 5).map (fun c => clsStat (clsOf c s)) ++ s.faults.sticky.toList)) }

/-- FAULT_STATUS (R460). -/
def execFaultStatus (r : Req) (s : State) : Host.Outcome State Fault Refusal := .next (command infoFaultStatus r s)

/-- FAULT_ACK (R452, R454, R461). -/
def faultAck (r : Req) (s : State) : State × Ans :=
  let w := arg r 0
  if !onlyBits 0x11F1F w then (s, .fail .badObject [])
  else
    let s := (List.range 5).foldl (fun s c =>
      let s := if bit c w && c < 3 then modCls c (fun x => { x with active := false }) s else s
      if bit (8 + c) w then modCls c (fun x => { x with cap := {} }) s else s) s
    let s := if bit 16 w then modFaults (fun f => { f with sticky := Vector.replicate 18 0 }) s else s
    (s, .done [])

/-- FAULT_ACK as the interpreter knows it. -/
def infoFaultAck : OpInfo := { op := 0x0A01, len := lenIs 1, obj := objZero, run := fun e s => faultAck e.req s }

/-- FAULT_ACK (R461). -/
def execFaultAck (r : Req) (s : State) : Host.Outcome State Fault Refusal := .next (command infoFaultAck r s)

/-- FAULT_CAPTURE_READ as the interpreter knows it. -/
def infoFaultCaptureRead : OpInfo :=
  { op := 0x0A02, len := lenIs 0, recovery := true, obj := fun r _ => obj r ≤ 4
    run := fun e s => (s, .done (capWords (clsOf (obj e.req) s).cap)) }

/-- FAULT_CAPTURE_READ (R462). -/
def execFaultCaptureRead (r : Req) (s : State) : Host.Outcome State Fault Refusal :=
  .next (command infoFaultCaptureRead r s)

/-- A reaction word that a source can take: it is present, LEVEL is at most 4, and a C4 source has L3 or L4 (R463). -/
def reactionOk (n : Nat) (w : Word) : Bool :=
  match srcInfo n with
  | none => false
  | some (c, _) => onlyBits 0x17 w && fld 2 0 w ≤ 4 && (c != 4 || 3 ≤ fld 2 0 w)

/-- The reaction of source n set (R463). -/
def setReaction (n : Nat) (w : Word) (s : State) : State :=
  modFaults (fun f => { f with react := f.react.set n (fld 2 0 w + 8 * fld 4 4 w + 16) }) s

/-- FAULT_REACTION_SET as the interpreter knows it. -/
def infoFaultReactionSet : OpInfo :=
  { op := 0x0A03, len := lenIs 1, auth := true, obj := fun r _ => (srcInfo (obj r)).isSome
    run := fun e s =>
      if !reactionOk (obj e.req) (arg e.req 0) then (s, .fail .badObject [])
      else (setReaction (obj e.req) (arg e.req 0) s, .done []) }

/-- FAULT_REACTION_SET (R463). -/
def execFaultReactionSet (r : Req) (s : State) : Host.Outcome State Fault Refusal :=
  .next (command infoFaultReactionSet r s)

/-- The sources with hardware injection (R464). -/
def hwSource (n : Nat) (s : State) : Bool :=
  n == 0x003 || n == 0x004 || ((n == 0x040 || n == 0x041 || n == 0x042) && !s.split)

/-- FAULT_INJECT: the response leaves before the reaction, so the fault waits for its row (R464). Payload bits 31:9, which R464 neither
uses nor calls reserved, are ignored (DEDUCED, log entry 9). -/
def faultInject (r : Req) (s : State) : State × Ans :=
  let n := obj r
  let w := arg r 0
  if !bit 0 s.faults.ctl then (s, .fail .notPermitted [])
  else if (srcInfo n).isNone || (bit 8 w && !hwSource n s) then (s, .fail .badObject [])
  else if !bit 8 w then (modFaults (fun f => { f with inject := f.inject ++ [(n, fld 7 0 w)] }) s, .done [])
  else
    (modSpindle (fun x => match n with
      | 0x040 => { x with injMismatch := true }
      | 0x041 => { x with injChecker := true }
      | 0x042 => { x with injDelay := true }
      | 0x003 => { x with injCe := true }
      | _ => { x with injUe := true }) s, .done [])

/-- FAULT_INJECT as the interpreter knows it. -/
def infoFaultInject : OpInfo := { op := 0x0A04, len := lenIs 1, auth := true, run := fun e s => faultInject e.req s }

/-- FAULT_INJECT (R464). -/
def execFaultInject (r : Req) (s : State) : Host.Outcome State Fault Refusal := .next (command infoFaultInject r s)

end Sys2Proof.Machine
end

