-- ==== Sys2Proof/Machine/Ranging.lean ====
section
/-! DEFINITION. Secure ranging and the immobiliser release (chapter 16): rounds and their slots (R504 to R508), outcome, winner
and zone (R509 to R511), lock-out (R512, R513), release (R514, R515), the opcodes of R519 to R523 and the RANGE block
(R525). -/

namespace Sys2Proof.Machine

/-- Ranging changed by f. -/
def modRange (f : RangeSt → RangeSt) (s : State) : State := { s with range := f s.range }
/-- Anchor n. -/
def anchor (n : Nat) (s : State) : Anchor := nth s.range.anc n
/-- Anchor n changed by f. -/
def modAnchor (n : Nat) (f : Anchor → Anchor) (s : State) : State :=
  modRange (fun x => { x with anc := upd x.anc n f }) s
/-- Token t. -/
def token (t : Nat) (s : State) : Token := nth s.range.tok t
/-- Token t changed by f. -/
def modToken (t : Nat) (f : Token → Token) (s : State) : State :=
  modRange (fun x => { x with tok := upd x.tok t f }) s
/-- The run changed by f. -/
def modRun (f : RangeRun → RangeRun) (s : State) : State := modRange (fun x => { x with run := x.run.map f }) s

/-- SLOT_T in ticks (R506). -/
def slotTicks (s : State) : Nat := fld 27 20 s.range.rf * 20000
/-- A lock-out is in force. -/
def lockedOut (s : State) : Bool := s.range.lockEnd.isSome

/-- RANGE_STAT (R525). -/
def rangeStat (s : State) : Word :=
  let x := s.range
  pack [(24, x.zone), (20, x.winner), (16, x.outcome), (8, (x.run.map (fun r => r.left)).getD 0),
    (1, b2n x.invalidSeen), (0, b2n x.run.isSome)]

/-- RANGE_LOCK_STAT: REMAIN is rounded up to whole seconds (log entry 44). -/
def lockStat (s : State) : Word :=
  let x := s.range
  let remain := (x.lockEnd.map (fun t => ceilDiv (t * mgmtTicks - s.now) 200000000)).getD 0
  pack [(16, remain), (8, x.level), (7, b2n (lockedOut s)), (0, x.fails)]

/-- RANGE_EVENT (R524). -/
def rangeEvent (reason code : Nat) (s : State) : State :=
  postEvent 0xF09 [pack [(16, s.range.runNo), (8, code), (0, reason)], rangeStat s, lockStat s] s

/-! ### Keys (R504, R516) -/

/-- The key of a slot for ranging, with the generation recorded (R475, R516). -/
def rangeKey (slot gen : Nat) (s : State) : Except Status (List Byte) := loadCheck slot 4 (some gen) s
/-- The key of token t. -/
def tokenKey (t : Nat) (s : State) : Except Status (List Byte) := rangeKey (fld 29 24 (token t s).cfg) (token t s).rgen s
/-- The link key of anchor n. -/
def linkKey (n : Nat) (s : State) : Except Status (List Byte) := rangeKey (fld 29 24 (anchor n s).cfg) (anchor n s).gen s
/-- A load succeeds. -/
def loads (r : Except Status (List Byte)) : Bool := match r with | .ok _ => true | .error _ => false

/-- The 48 bytes of round values of a token: STS key, V and report key (R504). -/
def roundValues (key : List Byte) (id : Word) (rctr : Nat) : List Byte :=
  let ctx := bytesLE 4 id.toNat ++ bytesLE 4 rctr
  kdf key (ascii "STS-KEY") ctx 16 ++ kdf key (ascii "STS-V") ctx 16 ++ kdf key (ascii "STS-MIC") ctx 16

/-- The encrypted 48 bytes of one token for anchor n (R504). -/
def encryptRound (key : List Byte) (n rctr : Nat) (values : List Byte) : List Byte :=
  ctrMode key 128 3 (natBE (bytesLE 1 n ++ bytesLE 4 rctr ++ List.replicate 11 0)) values

/-! ### Runs -/

/-- The run ends with a RUN_END code; a RANGE_START that has not reached its commit point answers with a status
(R519). -/
def endRun (code : Nat) (s : State) : State :=
  let st : Status := match code with | 3 => .keyStale | 4 => .abortedDisabled | _ => .done
  let ws := if st == .done then [word s.range.runNo] else []
  let s := completeAll .ranging st (fun _ => ws) s
  rangeEvent 2 code (modRange (fun x => { x with run := none }) s)

/-- The run ends at the end of its present round; at once where no round is under way. -/
def stopRun (code : Nat) (s : State) : State :=
  match s.range.run with
  | none => s
  | some r => if r.busy then modRun (fun r => { r with stop := some (r.stop.getD code) }) s else endRun code s

/-- The next slot of the round begins: its anchor has been sent ROUND, and its ASYNC rises (R503, R506). -/
def beginSlot (s : State) : State :=
  match s.range.run with
  | none => s
  | some r =>
    match r.todo with
    | [] => s
    | n :: rest =>
      let s := toL (r.start + r.ix * slotTicks s) s
      let k := linkKey n s
      let s := countLoad (fld 29 24 (anchor n s).cfg) k s
      let body := match k with
        | .ok key => r.named.map (fun x => (x.1, encryptRound key n s.range.rctr x.2))
        | .error _ => []
      modRun (fun r => { r with todo := rest, slot := some n, report := none, read := false })
        (modAnchor n (fun a => { a with sent := body }) s)

/-- The round values of the tokens of a run that are still usable, with their loads counted (R504, R516). -/
def namedTokens (toks rctr : Nat) (s : State) : List (Nat × List Byte) × State :=
  (bitList 8 toks).foldl (fun (acc, s) t =>
    let k := tokenKey t s
    let s := countLoad (fld 29 24 (token t s).cfg) k s
    match k with
    | .ok key => (acc ++ [(t, roundValues key (token t s).id rctr)], s)
    | .error _ => (acc, s)) ([], s)

/-- A round begins at its start tick (R505, R506, R516). While the key store is not READY or the link is not LIVE none does
(R483, R517): the run waits for its next start tick. -/
def beginRound (r : RangeRun) (s : State) : State :=
  let s := toL r.start s
  if s.keys.state != .ready || !linkLive s then modRun (fun r => { r with start := r.start + r.roundT * 20000 }) s
  else if !(bitList 6 r.ancs).all (fun n => loads (linkKey n s)) then endRun 3 s
  else
    let rctr := (s.range.rctr + 1) % 2 ^ 32
    let (named, s) := namedTokens r.toks rctr s
    if named.isEmpty then endRun 3 s
    else
      let s := modRange (fun x => { x with
        rctr := rctr, saved := if rctr % 65536 = 0 then rctr else x.saved, async := s.now, roundNo := r.round + 1 }) s
      let s := completeAll .ranging .done (fun _ => [word s.range.runNo]) s
      beginSlot (modRun (fun r => { r with
        busy := true, named := named, todo := bitList 6 r.ancs, ix := 0, results := [], answers := []
        round := r.round + 1, left := r.left - 1 }) s)

/-- ANCHOR_SLOT_START: the next slot's ASYNC edge; the first slot of a round begins the round (R506, R519). None rises while the
link is not LIVE (R517). -/
def execAnchorSlotStart (s : State) : Host.Outcome State Fault Refusal :=
  .next (match s.range.run with
    | none => s
    | some r => if r.slot.isSome || s.ldie != .running then s
      else if !r.busy then beginRound r s
      else if linkLive s then beginSlot s else s)

/-- The tick of the ASYNC edge of the slot that runs. -/
def slotEdge (r : RangeRun) (s : State) : Nat := r.start + r.ix * slotTicks s

/-- REPORT or SETUP failed on anchor n (R503). -/
def linkError (n : Nat) (s : State) : State :=
  let s := bump (ctr 0x0C (0x100 + n)) (modAnchor n (fun a => { a with linkErr := true }) s)
  rangeEvent 7 n (reportL 0x183 n s)

/-- REPORT_READ: the anchor's REPORT is read SLOT_T − 0.3 ms after the edge. `good` says that its CRC and its CMAC verify;
a link key that cannot be loaded verifies none (R475, R503, R506, R516). -/
def execReportRead (good : Bool) (pre : Option Nat) (answers : List TokAnswer) (s : State) :
    Host.Outcome State Fault Refusal :=
  .next (match s.range.run with
    | none => s
    | some r =>
      match r.slot with
      | none => s
      | some n =>
        if r.read then s
        else
          let s := toL (slotEdge r s + slotTicks s - 60000) s
          let k := linkKey n s
          let s := countLoad (fld 29 24 (anchor n s).cfg) k s
          if good && loads k then modRun (fun r => { r with read := true, report := some (pre, answers) }) s
          else linkError n (modRun (fun r => { r with read := true }) s))

/-- The difference of two first paths is at most STS_TOL (R508). -/
def pathsMatch (tol a b : Nat) : Bool := a ≤ b + tol && b ≤ a + tol

/-- A token's answer is valid (R508). -/
def answerValid (named : List (Nat × List Byte)) (pre : Option Nat) (a : TokAnswer) (s : State) : Bool :=
  match named.find? (fun x => x.1 == a.tok), pre with
  | some x, some p =>
    fld 23 16 s.range.chk ≤ a.qual && pathsMatch (fld 9 0 s.range.chk) a.path p &&
      (cmac (x.2.drop 32) a.payload).take 8 == a.mic
  | _, _ => false

/-- The distance of an answer in 2 cm units (R507): time of flight in RCTU times the speed of light, rounded to the
nearest, held at its ends. -/
def distanceOf (dly : Nat) (a : TokAnswer) : Nat :=
  let den := a.tround1 + a.tround2 + a.treply1 + a.treply2
  let num : Int := (a.tround1 * a.tround2 : Nat) - (a.treply1 * a.treply2 : Nat) - (dly * den : Nat)
  if den = 0 then 0xFFFF
  else
    let d := den * 63897600000
    min 0xFFFE ((2 * num * 14989622900 + (d : Nat)) / (2 * (d : Nat) : Int)).toNat

/-- The result of a slot: its code and the valid answers of it (R508). -/
def slotResult (n : Nat) (r : RangeRun) (s : State) : Nat × List ValidAns :=
  match r.report with
  | none => (0, [])
  | some (pre, l) =>
    let good := l.filter (fun a => answerValid r.named pre a s)
    let bad := l.any (fun a => !answerValid r.named pre a s) ||
      (match pre with
        | none => false
        | some p => !good.any (fun a => pathsMatch (fld 9 0 s.range.chk) a.path p))
    let vs := good.map (fun a =>
      { anc := n, tok := a.tok, dist := distanceOf (fld 15 0 (anchor n s).cfg) a, qual := a.qual : ValidAns })
    (if !good.isEmpty && !bad then 1 else if !good.isEmpty then 2 else if bad then 3 else 0, vs)

/-! ### The end of a round (R509 to R515) -/

/-- The smallest distance of token t among the answers; 0xFFFF for none (R510). -/
def tokRange (t : Nat) (l : List ValidAns) : Nat := ((l.filter (fun a => a.tok == t)).map (fun a => a.dist)).foldl min 0xFFFF

/-- Token a goes before token b as the winner (R510). -/
def winsOver (l : List ValidAns) (s : State) (a b : Nat) : Bool :=
  let ra := tokRange a l
  let rb := tokRange b l
  let pa := fld 18 16 (token a s).cfg
  let pb := fld 18 16 (token b s).cfg
  ra < rb || (ra == rb && (pb < pa || (pa == pb && a < b)))

/-- The winner of the answers of a VALID round (R510). -/
def winnerOf (l : List ValidAns) (s : State) : Nat :=
  match (l.map (fun a => a.tok)).eraseDups with
  | [] => 15
  | t :: rest => rest.foldl (fun w x => if winsOver l s x w then x else w) t

/-- The limit of anchor n in zone z, 0.1 m units. -/
def zoneLimit (z n : Nat) (s : State) : Nat :=
  let x := nth s.range.zones z
  if n < 4 then fld (8 * n + 7) (8 * n) x.1 else fld (8 * (n - 4) + 7) (8 * (n - 4)) x.2

/-- Zone z holds for the winner (R511). -/
def zoneHolds (l : List ValidAns) (w z : Nat) (s : State) : Bool :=
  let lim := (nth s.range.zones z).2
  let near := (List.range 6).filter (fun n =>
    zoneLimit z n s != 0 && l.any (fun a => a.anc == n && a.tok == w && a.dist ≤ 5 * zoneLimit z n s))
  bit 31 lim && fld 18 16 lim ≤ near.length

/-- A round gives a candidate zone; ZONE changes once ZONE_N rounds in a row have given it (R511). -/
def giveZone (z : Nat) (s : State) : State :=
  let n := if s.range.cand = z then s.range.candRun + 1 else 1
  let s := modRange (fun x => { x with cand := z, candRun := n }) s
  if fld 31 28 s.range.chk ≤ n ∧ s.range.zone ≠ z then rangeEvent 5 z (modRange (fun x => { x with zone := z }) s)
  else s

/-- A lock-out begins (R512). -/
def beginLockout (s : State) : State :=
  let lvl := min 6 (s.range.level + 1)
  let ms := fld 20 16 s.range.lock * 2 ^ (lvl - 1) * 60000
  let s := modRange (fun x => { x with level := lvl, lockEnd := some (mgmtStart s + msTicks ms) }) s
  rangeEvent 3 lvl (bump (ctr 0x0C 5) (reportL 0x182 lvl s))

/-- The figures that a VALID round leaves in the status registers (R510, R525). -/
def roundFigures (l : List ValidAns) (w : Nat) (s : State) : State :=
  let s := (List.range 8).foldl (fun s t => modToken t (fun x => { x with range := tokRange t l }) s) s
  (l.filter (fun a => a.tok == w)).foldl (fun s a => modAnchor a.anc (fun x => { x with dist := a.dist, qual := a.qual }) s) s

/-- The release cannot be sent (R515). -/
def releaseFailed (code : Nat) (s : State) : Nat × State :=
  (code, reportL 0x184 0xFF (modRange (fun x => { x with immoFailed := true }) s))

/-- The immobiliser release of token w in the present zone: the RUN_END code with which the run ends (R514, R515). -/
def release (w : Nat) (l : List ValidAns) (s : State) : Nat × State :=
  let a := fld 13 8 s.range.immo
  let p := canAuth a s
  let k := fld 3 0 p.cfg
  let data := bytesLE 1 w ++ bytesLE 1 s.range.zone ++ bytesLE 2 (tokRange w l) ++ bytesLE 4 s.range.async
  let f : CanFrame := { w0 := p.id, data := data ++ List.replicate p.extra 0 }
  let key := if bit 4 p.cfg && bit 5 p.cfg then authLoad a s else .error .keyStale
  let s := countLoad (fld 21 16 p.cfg) key s
  match key with
  | .error _ => releaseFailed 3 s
  | .ok kb =>
    if 16 < slotsUsed (canCtl k s).urgent + frameSlots f then releaseFailed 6 s
    else
      let (data, s) := authSend a kb p.id data s
      let h := (canCtl k s).handle
      let s := enqueue k true { f with data := data } s
      (5, bump (ctr 0x0C 6) (modRange (fun x => { x with handle := h }) s))

/-- The conditions of a release (R514). -/
def releaseDue (immo : Bool) (s : State) : Bool :=
  bit 31 s.range.immo && immo && !lockedOut s && s.range.zone < 8 && bit (16 + s.range.zone) s.range.immo

/-- The outcome of a round with these slot results: 0 SILENT, 1 VALID, 2 VOID, 3 FAIL (R509). -/
def roundOutcome (results : List Nat) : Nat :=
  if results.contains 2 then 2 else if results.contains 1 then 1 else if results.contains 3 then 3 else 0

/-- What an outcome does beside zone and release (R509, R512). -/
def applyOutcome (o : Nat) (r : RangeRun) (s : State) : State :=
  match o with
  | 1 =>
    let w := winnerOf r.answers s
    roundFigures r.answers w (modRange (fun x => { x with
      fails := 0, level := 0, winner := w, invalidSeen := x.invalidSeen || r.results.contains 3 }) s)
  | 2 => reportL 0x181 0xFF s
  | 3 => reportL 0x180 0xFF (modRange (fun x => { x with fails := min 15 (x.fails + 1) }) s)
  | _ => s

/-- The candidate zone of a round (R511). -/
def candidateZone (o : Nat) (r : RangeRun) (s : State) : Nat :=
  if o = 1 then ((List.range 8).find? (fun z => zoneHolds r.answers s.range.winner z s)).getD 15 else 15

/-- A round is over: its outcome, zone, lock-out and release, and the end of the run where it has come (R509 to R515). -/
def endRound (r : RangeRun) (s : State) : State :=
  let o := roundOutcome r.results
  let s := bump (ctr 0x0C (match o with | 1 => 1 | 2 => 2 | 3 => 3 | _ => 4)) (bump (ctr 0x0C 0) s)
  let s := applyOutcome o r (modRange (fun x => { x with outcome := o }) s)
  let s := modRun (fun r => { r with busy := false, slot := none, start := r.start + r.roundT * 20000 }) s
  let s := rangeEvent 1 o s
  let s := if o = 2 then s else giveZone (candidateZone o r s) s
  if o = 3 ∧ fld 3 0 s.range.lock ≤ s.range.fails ∧ !lockedOut s then endRun 2 (beginLockout s)
  else if o = 1 ∧ releaseDue r.immo s then
    let w := s.range.winner
    let (code, s) := release w r.answers s
    if code = 5 then rangeEvent 6 w (endRun 5 s) else endRun code s
  else match r.stop with
    | some code => endRun code s
    | none => if r.left = 0 then endRun 0 s else s

/-- SLOT_RESULT: the result of the slot is decided SLOT_T − 0.1 ms after the edge; after the last slot the round's outcome is
(R506, R508, R509). -/
def execSlotResult (s : State) : Host.Outcome State Fault Refusal :=
  .next (match s.range.run with
    | none => s
    | some r =>
      match r.slot with
      | none => s
      | some n =>
        if !r.read then s
        else
          let s := toL (slotEdge r s + slotTicks s - 20000) s
          let (res, vs) := slotResult n r s
          let s := modAnchor n (fun a => { a with res := res }) s
          let s := vs.foldl (fun s v => bump (ctr 0x0C (0x200 + v.tok)) s) s
          let r' : RangeRun := { r with
            slot := none, ix := r.ix + 1, results := r.results ++ [res], answers := r.answers ++ vs }
          let s := modRange (fun x => { x with run := some r' }) s
          if r'.todo.isEmpty then endRound r' s else s)

/-- A lock-out ends: FAILS is 0, LOCK_LEVEL stays (R512). -/
def endLockout (s : State) : State :=
  rangeEvent 4 0 (modRange (fun x => { x with lockEnd := none, fails := 0 }) s)

/-- LOCKOUT_END: the lock-out's period ends (R512). -/
def execLockoutEnd (s : State) : Host.Outcome State Fault Refusal :=
  .next (match s.range.lockEnd with
    | none => s
    | some t => if ldieUp s then endLockout (toL (t * mgmtTicks) s) else s)

/-! ### Opcodes (R519 to R523) -/

/-- Check 1 of RANGE_START (R519). -/
def rangeStartValid (r : Req) (s : State) : Bool :=
  let toks := fld 7 0 r.object
  let w0 := arg r 0
  let w1 := arg r 1
  let ancs := fld 5 0 w0
  let slotT := fld 27 20 s.range.rf
  onlyBits 0xFF r.object && onlyBits 0x1FF3F w0 && onlyBits 0xFFFF w1 && toks != 0 && ancs != 0 &&
    (bitList 8 toks).all (fun t => bit 31 (token t s).cfg) && (bitList 6 ancs).all (fun n => bit 31 (anchor n s).cfg) &&
    popCount 6 ancs * slotT ≤ fld 15 0 w1 && 15 + popCount 8 toks ≤ slotT && (!bit 16 w0 || bit 31 s.range.immo)

/-- RANGE_START (R519). -/
def rangeStart (r : Req) (s : State) : State × Ans :=
  let toks := fld 7 0 r.object
  let w0 := arg r 0
  let ancs := fld 5 0 w0
  let rounds := fld 15 8 w0
  if !rangeStartValid r s then (s, .fail .badObject [])
  else if rounds != 0 && s.range.run.isSome then (s, .fail .busy [])
  else if lockedOut s then (s, .fail .lockedOut [])
  else if s.keys.state != .ready || !linkLive s then (s, .fail .faultActive [])
  else if !(bitList 8 toks).any (fun t => loads (tokenKey t s)) || !(bitList 6 ancs).all (fun n => loads (linkKey n s)) then
    (s, .fail .keyStale [])
  else if rounds = 0 then (stopRun 1 s, .done [word s.range.runNo])
  else
    let run : RangeRun :=
      { toks := toks, ancs := ancs, left := rounds, immo := bit 16 w0, roundT := fld 15 0 (arg r 1)
        start := ceilDiv (s.now + 60000) 100000 * 100000, cmd := some (r.slot, r.tag) }
    (modRange (fun x => { x with run := some run, runNo := (x.runNo + 1) % 65536, roundNo := 0 }) s, .wait .ranging false [])

/-- RANGE_START as the interpreter knows it. -/
def infoRangeStart : OpInfo :=
  { op := 0x0700, len := lenIs 2, unit := fun _ => some 15, run := fun e s => rangeStart e.req s }

/-- RANGE_START (R519). -/
def execRangeStart (r : Req) (s : State) : Host.Outcome State Fault Refusal := .next (command infoRangeStart r s)

/-- RANGE_ANCn_STAT. -/
def anchorStat (a : Anchor) : Word := pack [(16, a.dist), (8, a.qual), (2, b2n a.linkErr), (0, a.res)]
/-- RANGE_TOKt_STAT. -/
def tokenStat (t : Token) : Word := pack [(16, t.range), (0, t.rgen)]

/-- RANGE_RESULT as the interpreter knows it. -/
def infoRangeResult : OpInfo :=
  { op := 0x0701, len := lenIs 0, obj := objZero
    run := fun _ s =>
      (s, .done ([rangeStat s, pack [(16, s.range.roundNo), (0, s.range.runNo)]] ++ natToWords 2 s.range.async ++
        s.range.anc.toList.map anchorStat ++ s.range.tok.toList.map tokenStat)) }

/-- RANGE_RESULT (R520). -/
def execRangeResult (r : Req) (s : State) : Host.Outcome State Fault Refusal := .next (command infoRangeResult r s)

/-- What RANGE_ZONE_CFG writes: the fields in their ranges and the reserved bits 0 (R521, R525). -/
def zoneCfgValid (o : Nat) (ws : List Word) : Bool :=
  let w := fun i => wordAt ws i
  if o < 8 then
    ws.length == 2 && onlyBits 0x8007FFFF (w 1) && 1 ≤ fld 18 16 (w 1) && fld 18 16 (w 1) ≤ 6
  else if 0x100 ≤ o ∧ o < 0x106 then ws.length == 1 && onlyBits 0xBF00FFFF (w 0)
  else if 0x200 ≤ o ∧ o < 0x208 then ws.length == 2 && onlyBits 0xBF070000 (w 0)
  else if o = 0x300 then
    ws.length == 3 && onlyBits 0x0FF11F01 (w 0) && 10 ≤ fld 27 20 (w 0) && fld 27 20 (w 0) ≤ 100 &&
      9 ≤ fld 12 8 (w 0) && fld 12 8 (w 0) ≤ 12 && onlyBits 0xF0FF03FF (w 1) && 1 ≤ fld 31 28 (w 1) &&
      fld 31 28 (w 1) ≤ 8 && fld 23 16 (w 1) ≤ 100 && 1 ≤ fld 9 0 (w 1) && onlyBits 0x001F000F (w 2) &&
      1 ≤ fld 20 16 (w 2) && fld 20 16 (w 2) ≤ 30 && 1 ≤ fld 3 0 (w 2)
  else false

/-- The status that a key slot named by an enabled anchor or token gives: KEY_ATTR, KEY_STALE or none (R521). -/
def cfgKey (o : Nat) (ws : List Word) (s : State) : Option Status :=
  let w := wordAt ws 0
  let x := keySlot (fld 29 24 w) s
  if o < 0x100 ∨ o = 0x300 ∨ !bit 31 w then none
  else if x.occupied && x.purpose != 4 then some .keyAttr
  else if !x.occupied || stale (fld 29 24 w) s then some .keyStale
  else none

/-- A ranging configuration item taken into force, with the slot's generation recorded (R516, R521). -/
def putZoneCfg (o : Nat) (ws : List Word) (s : State) : State :=
  let w := wordAt ws 0
  let gen := (keySlot (fld 29 24 w) s).gen
  if o < 8 then modRange (fun x => { x with zones := put x.zones o (w, wordAt ws 1) }) s
  else if o < 0x106 then
    modAnchor (o - 0x100) (fun a => { a with cfg := w, gen := if bit 31 w then gen else a.gen }) s
  else if o < 0x208 then
    modToken (o - 0x200) (fun t => { t with cfg := w, id := wordAt ws 1, rgen := if bit 31 w then gen else t.rgen }) s
  else modRange (fun x => { x with rf := w, chk := wordAt ws 1, lock := wordAt ws 2 }) s

/-- RANGE_ZONE_CFG (R521). SETUP goes to each enabled anchor; which of them report it applied is the anchors' own and a free
value: bit n of a free word for anchor n (log entry 2). -/
def rangeZoneCfg (r : Req) (s : State) : State × Ans :=
  let o := obj r
  let ws := r.payload
  if !zoneCfgValid o ws then (s, .fail .badObject [])
  else if s.range.run.isSome then (s, .fail .busy [])
  else match cfgKey o ws s with
    | some st => (s, .fail st [])
    | none =>
      let s := putZoneCfg o ws s
      if o < 0x100 ∨ (0x200 ≤ o ∧ o < 0x300) then (s, .done [])
      else
        let (w, s) := freeWord s
        let mute := (List.range 6).filter (fun n => bit 31 (anchor n s).cfg && !bit n w)
        if mute.isEmpty then (s, .done [])
        else (mute.foldl (fun s n => linkError n s) s, .fail .faultActive [])

/-- OBJECT of RANGE_ZONE_CFG names a configuration item (R521). -/
def zoneObj (r : Req) : Bool :=
  let o := obj r
  o < 8 || (0x100 ≤ o && o < 0x106) || (0x200 ≤ o && o < 0x208) || o == 0x300

/-- LENGTH fits the OBJECT of a RANGE_ZONE_CFG (R521). -/
def zoneCfgFits (r : Req) : Bool :=
  let o := obj r
  if o < 8 ∨ (0x200 ≤ o ∧ o < 0x208) then r.payload.length == 2
  else if 0x100 ≤ o ∧ o < 0x106 then r.payload.length == 1
  else o != 0x300 || r.payload.length == 3

/-- RANGE_ZONE_CFG as the interpreter knows it. -/
def infoRangeZoneCfg : OpInfo :=
  { op := 0x0702, len := lenBetween 1 3, fits := zoneCfgFits, auth := true, obj := fun r _ => zoneObj r
    unit := fun r => if (0x100 ≤ obj r ∧ obj r < 0x106) ∨ obj r = 0x300 then some 15 else none
    run := fun e s => rangeZoneCfg e.req s }

/-- RANGE_ZONE_CFG (R521). -/
def execRangeZoneCfg (r : Req) (s : State) : Host.Outcome State Fault Refusal := .next (command infoRangeZoneCfg r s)

/-- LOCKOUT_CLEAR (R522). -/
def lockoutClear (r : Req) (s : State) : State × Ans :=
  let w := arg r 0
  if !onlyBits 1 w then (s, .fail .badObject [])
  else
    let s := if bit 0 w then modRange (fun x => { x with level := 0 }) s else s
    (if lockedOut s then endLockout s else modRange (fun x => { x with fails := 0 }) s, .done [])

/-- LOCKOUT_CLEAR as the interpreter knows it. -/
def infoLockoutClear : OpInfo :=
  { op := 0x0703, len := lenIs 1, auth := true, obj := objZero, run := fun e s => lockoutClear e.req s }

/-- LOCKOUT_CLEAR (R522). -/
def execLockoutClear (r : Req) (s : State) : Host.Outcome State Fault Refusal := .next (command infoLockoutClear r s)

/-- IMMO_CFG names an enabled transmit profile whose frames have a length that can be sent (R523). -/
def immoProfileOk (w : Word) (s : State) : Bool :=
  let p := canAuth (fld 13 8 w) s
  bit 4 p.cfg && bit 5 p.cfg && sentLenOk (frameFmt p.id) (8 + p.extra)

/-- IMMO_CFG (R523). -/
def immoCfg (r : Req) (s : State) : State × Ans :=
  let w := arg r 0 &&& 0x80FF3F00
  if bit 31 w && !immoProfileOk w s then (s, .fail .badObject [])
  else if s.range.run.isSome then (s, .fail .busy [])
  else (modRange (fun x => { x with immo := w }) s, .done [])

/-- IMMO_CFG as the interpreter knows it. -/
def infoImmoCfg : OpInfo :=
  { op := 0x0704, len := lenIs 1, auth := true, obj := objZero, run := fun e s => immoCfg e.req s }

/-- IMMO_CFG (R523). -/
def execImmoCfg (r : Req) (s : State) : Host.Outcome State Fault Refusal := .next (command infoImmoCfg r s)

/-- Disabling group 0x07: the run ends at the end of its present round; a RANGE_START short of its commit point is
aborted (R518). -/
def disableRange (s : State) : State := stopRun 4 s

/-! ### Registers (R525) -/

/-- The RANGE block at an offset. -/
def readRange (off : Nat) (s : State) : Option Word :=
  let x := s.range
  let i := (off % 0x100) / 0x10
  let o := off % 0x10
  if 0x100 ≤ off ∧ off < 0x160 then
    (if o = 0 then some (anchor i s).cfg else if o = 4 then some (anchorStat (anchor i s)) else none)
  else if 0x200 ≤ off ∧ off < 0x280 then
    (if o = 0 then some (token i s).cfg else if o = 4 then some (token i s).id
     else if o = 8 then some (tokenStat (token i s)) else none)
  else if 0x300 ≤ off ∧ off < 0x380 then
    (if o = 0 then some (nth x.zones i).1 else if o = 4 then some (nth x.zones i).2 else none)
  else match off with
    | 0x000 => some (rangeStat s)
    | 0x004 => some x.rf
    | 0x008 => some x.chk
    | 0x00C => some x.lock
    | 0x010 => some (lockStat s)
    | 0x400 => some x.immo
    | 0x404 => some (pack [(16, x.handle), (0, b2n x.immoFailed)])
    | _ => none

/-- A write to the RANGE block: the W1C bits alone; the configuration changes only by its opcodes (R525). -/
def writeRange (off : Nat) (v : Word) (s : State) : State × Ans :=
  if off = 0 then (modRange (fun x => { x with invalidSeen := x.invalidSeen && !bit 1 v }) s, .done [])
  else if 0x100 ≤ off ∧ off < 0x160 ∧ off % 0x10 = 4 then
    (modAnchor ((off - 0x100) / 0x10) (fun a => { a with linkErr := a.linkErr && !bit 2 v }) s, .done [])
  else if off = 0x404 then (modRange (fun x => { x with immoFailed := x.immoFailed && !bit 0 v }) s, .done [])
  else (s, .done [])

/-- The W1C bits of the RANGE block (R102). -/
def w1cRange (off : Nat) : Word :=
  if off = 0 then 2 else if 0x100 ≤ off ∧ off < 0x160 ∧ off % 0x10 = 4 then 4 else if off = 0x404 then 1 else 0

end Sys2Proof.Machine
end

