-- ==== Sys2Proof/Machine/Wire.lean ====
section
/-! DEFINITION. A Weft frame on the wire: its 8 bytes and two lanes (R228), its check (R229), its types and the layouts of
their payloads (R230). -/

namespace Sys2Proof.Machine

/-! ### Types (R230) -/

/-- The types of frames. K30.7, the abort symbol, is no frame. -/
inductive FrameType where | refresh | setpoint | config | mark | idle | readback | cellOut | event
  deriving DecidableEq, Repr, Inhabited

/-- Byte 0 of a frame. -/
def FrameType.byte : FrameType → Byte
  | .refresh => 0x3C | .setpoint => 0x1C | .config => 0x5C | .mark => 0x7C
  | .idle => 0xBC | .readback => 0xF7 | .cellOut => 0x9C | .event => 0xDC

/-- The type that byte 0 names. -/
def frameType (b : Byte) : Option FrameType :=
  [FrameType.refresh, .setpoint, .config, .mark, .idle, .readback, .cellOut, .event].find? (fun t => t.byte == b)

/-- The type is permitted for a direction and a frame time (R230). -/
def FrameType.permitted (down odd : Bool) : FrameType → Bool
  | .refresh => down && !odd
  | .setpoint | .config => down && odd
  | .mark | .idle => odd
  | .readback => !down && !odd
  | .cellOut => !down
  | .event => !down && odd

/-- Ticks of a frame time: four symbol times of 12.5 ns on each lane (R228, R233). -/
def frameTicks : Nat := 10

/-! ### Bytes and lanes (R228, R229) -/

/-- The 8 bytes of a frame: type, 48-bit payload with bits [47:40] in byte 1, CRC-8. -/
def frameBytes (t : FrameType) (payload : Nat) : List Byte :=
  let b := t.byte :: bytesBE 6 payload
  b ++ [crc8 b]

/-- The bytes of a frame that lane n carries, in their order. -/
def laneOf (n : Nat) (f : List Byte) : List Byte :=
  (List.range (f.length / 2)).map (fun i => f.getD (2 * i + n) 0)

/-- The frame of two lanes. -/
def fromLanes : List Byte → List Byte → List Byte
  | a :: l0, b :: l1 => a :: b :: fromLanes l0 l1
  | _, _ => []

/-- The bytes of a frame as they arrive, with the bits that the line has turned over. -/
def damaged (e : LineErr) (f : List Byte) : List Byte := (f.zip (bytesBE 8 e.flip)).map (fun p => p.1 ^^^ p.2)

/-- A frame sent over the two lanes, as the receiver checks and reads it: its type and payload, none where it is not valid
(R229). -/
def readFrame (down odd : Bool) (e : LineErr) (f : List Byte) : Option (FrameType × Nat) :=
  let d := damaged e f
  let r := fromLanes (laneOf 0 d) (laneOf 1 d)
  match frameType (r.getD 0 0) with
  | none => none
  | some t =>
    if !e.symbol && crc8 (r.take 7) == r.getD 7 0 && t.permitted down odd then some (t, natBE ((r.take 7).drop 1)) else none

/-! ### Payloads (R230) -/

/-- A payload of fields, each a lowest bit, a width and a value. -/
def fields (l : List (Nat × Nat × Nat)) : Nat := (l.map (fun f => f.2.2 % 2 ^ f.2.1 * 2 ^ f.1)).sum

/-- The field [hi:lo] of a payload. -/
def pfld (hi lo n : Nat) : Nat := n / 2 ^ lo % 2 ^ (hi + 1 - lo)

/-- The set-point and the cap of a skein as SETPOINT carries them in [35:4]. -/
def setPointBits (p : SetPoint) (cap : Nat) : Nat :=
  fields [(15, 17, p.duty), (14, 1, b2n p.hiz), (11, 3, p.bstate), (10, 1, b2n p.decay), (0, 10, cap)]

/-- The set-point of these bits. -/
def bitsSetPoint (n : Nat) : SetPoint :=
  { duty := pfld 31 15 n, hiz := pfld 14 14 n == 1, bstate := pfld 13 11 n, decay := pfld 10 10 n == 1 }

/-- The cap of these bits, permille. -/
def bitsCap (n : Nat) : Nat := pfld 9 0 n

/-- SETPOINT. -/
def setpointPayload (ack k : Nat) (p : SetPoint) (cap : Nat) : Nat :=
  fields [(42, 6, ack), (36, 6, k), (4, 32, setPointBits p cap)]
/-- CONFIG. -/
def configPayload (ack index value : Nat) : Nat := fields [(42, 6, ack), (32, 10, index), (0, 32, value)]
/-- MARK; ack is 0 upward. -/
def markPayload (ack code content : Nat) : Nat := fields [(42, 6, ack), (38, 4, code), (0, 38, content)]
/-- IDLE; ack is 0 upward. -/
def idlePayload (ack time : Nat) : Nat := fields [(42, 6, ack), (0, 42, time)]
/-- REFRESH and READBACK. -/
def slotPayload (slot content : Nat) : Nat := fields [(39, 9, slot), (0, 39, content)]
/-- CELL_OUT: the tick goes by its low 14 bits. -/
def cellOutPayload (seq bank mask cause tick : Nat) : Nat :=
  fields [(42, 6, seq), (38, 4, bank), (30, 8, mask), (26, 4, cause), (12, 14, tick)]
/-- EVENT. -/
def eventPayload (seq kind content : Nat) : Nat := fields [(42, 6, seq), (36, 6, kind), (0, 36, content)]

/-- The mark codes. -/
inductive MarkCode where | snapshot | timeExchange | ladderRelease | adoptDone | readbackStart
  deriving DecidableEq, Repr, Inhabited

/-- The code of a mark. -/
def MarkCode.code : MarkCode → Nat
  | .snapshot => 1 | .timeExchange => 2 | .ladderRelease => 3 | .adoptDone => 4 | .readbackStart => 5

/-- The full tick whose low 14 bits a frame carries: the last one at or before now (R230). -/
def fullTick (now low : Nat) : Nat := now - (now + 2 ^ 14 - low % 2 ^ 14) % 2 ^ 14

end Sys2Proof.Machine
end

