-- ==== Sys2Proof/Machine/Weft.lean ====
section
/-! DEFINITION. The Weft link (chapter 7): its frames, training, silence, hold-over, the fail-safe memory,
FAILSAFE_SET, and the WEFT registers. -/

namespace Sys2Proof.Machine

/-! ### The two clocks (R238, R428) -/

/-- A time moved by d ticks. -/
def shiftT (d : Int) (t : Nat) : Nat := (((t : Int) + d).toNat)

/-- What a skein of the P-die dates, moved by d ticks. -/
def shiftSkein (d : Int) (x : SkeinP) : SkeinP :=
  let f := shiftT d
  { x with since := f x.since, offSince := f x.offSince, windowStart := f x.windowStart
           printStart := f x.printStart
           legAt := x.legAt.map f, clearAt := x.clearAt.map f
           inrushEnd := x.inrushEnd.map f, retryEnd := x.retryEnd.map f, brakeEnd := x.brakeEnd.map f
           hand := x.hand.map (fun h => { h with applied := f h.applied, since := f h.since })
           change := x.change.map (fun c => (c.1, c.2.map f)) }

/-- What a cell of the P-die dates, moved by d ticks. -/
def shiftCell (d : Int) (c : CellP) : CellP :=
  { c with pauseEnd := c.pauseEnd.map (shiftT d), tripTick := shiftT d c.tripTick, folded := shiftT d c.folded }

/-- The P-die takes another device time (R238): what it dates moves along. -/
def setPTime (t : Nat) (s : State) : State :=
  let s := (List.range 48).foldl (fun s k => accrue k s) s
  let d := (t : Int) - (s.pNow : Int)
  let s := modP (fun p =>
    { p with cells := p.cells.map (shiftCell d), skeins := p.skeins.map (shiftSkein d)
             banks := p.banks.map (fun b => { b with suspended := b.suspended.map (shiftT d) })
             protOld := p.protOld.map (fun x => (x.1, x.2.1, shiftT d x.2.2))
             idleAt := shiftT d p.idleAt
             lastDown := shiftT d p.lastDown, silentAt := p.silentAt.map (shiftT d), expiry := p.expiry.map (shiftT d)
             up := p.up.map (fun u => { u with sent := u.sent.map (shiftT d) }) }) s
  let s := modFioP (fun f =>
    { f with lastPoll := shiftT d f.lastPoll, counts := f.counts.map (fun c => { c with edge := c.edge.map (shiftT d) })
             pins := f.pins.map (fun x => { x with boostEnd := x.boostEnd.map (shiftT d), since := shiftT d x.since }) }) s
  { s with pNow := t }

/-- The next multiple of n after t. -/
def nextMultiple (n t : Nat) : Nat := (t / n + 1) * n

/-- The L-die takes another device time (R238, R428): what it has dated since its start moves along, and what stands at
multiples of device time starts anew. -/
def setLTime (t : Nat) (s : State) : State :=
  let d := (t : Int) - (s.now : Int)
  let m := (ceilDiv t mgmtTicks : Int) - (ceilDiv s.now mgmtTicks : Int)
  let s := modHost (fun h =>
    { h with slots := h.slots.map (fun x =>
               { x with heldAt := shiftT d x.heldAt, heldMore := x.heldMore.map (fun y => (y.1, shiftT d y.2.1, y.2.2)) })
             ply := h.ply.map (fun x => { x with heard := x.heard.map (shiftT d) })
             gptp := { h.gptp with lastSync := h.gptp.lastSync.map (shiftT d), slewFrom := t, slewBy := 0 }
             chain := { h.chain with nextBeat := nextMultiple 10000 t, slewFrom := t, slewBy := 0
                                     views := h.chain.views.map (fun v => { v with heard := v.heard.map (shiftT d) }) } }) s
  let s := modFaults (fun f =>
    { f with cls := f.cls.map (fun c => { c with quietEnd := shiftT m c.quietEnd }), first := []
             alvNext := nextMultiple 100000 t }) s
  let s := modSpindle (fun x =>
    { x with selfNext := nextMultiple 200000 t, lastPass := x.lastPass.map (fun l => shiftT m l)
             wdog := x.wdog.map (fun w => { w with last := w.last.map (shiftT d) }) }) s
  let s := modWeft (fun w =>
    { w with trainStart := w.trainStart.map (shiftT d), retryAt := w.retryAt.map (shiftT d), lastUp := shiftT d w.lastUp
             idleAt := shiftT d w.idleAt }) s
  let s := { s with range := { s.range with lockEnd := s.range.lockEnd.map (shiftT m) } }
  { s with now := t, clk := { s.clk with step9 := shiftT d s.clk.step9, coastAt := shiftT d s.clk.coastAt } }

/-- The device time of a neighbour, taken from its last heartbeat with the link's latency (R427, R428). -/
def neighbourTime (i : Nat) (s : State) : Option Nat :=
  let x := nth s.host.ply i
  x.heard.map (fun h => x.echo + x.latency + (s.now - h))

/-- Device time settled at step 4 of the training (R238, R428). -/
def settleTime (s : State) : State :=
  let s := modP (fun p => { p with slewBy := 0 }) s
  if s.pdie.warm then setLTime s.pNow s
  else
    let up := if s.deviceId = 0 then none
      else if (nth s.host.chain.views (s.deviceId - 1)).aligned && (nth s.host.ply 0).state == .up then neighbourTime 0 s
      else none
    let dn := (nth s.host.chain.views (s.deviceId + 1))
    let down := if s.deviceId = 0 && dn.pdieWarm && dn.aligned && (nth s.host.ply 1).state == .up then neighbourTime 1 s
      else none
    let s := match up, down with
      | some t, _ => setLTime t s
      | none, some t => setLTime t s
      | none, none => s
    modP (fun p => { p with warm := true }) (setPTime s.now s)

/-! ### Silence and hold-over (R18, R241 to R243) -/

/-- The pauses of R213: none ends while the link is silent. -/
def freezePauses (s : State) : State :=
  modP (fun p => { p with cells := p.cells.map (fun c =>
    if c.ladder == .pausing then { c with pauseEnd := none, due := false } else c) }) s

/-- The fail-safe states applied at the P-die's present tick, on skeins, ports, slots and field outputs (R249, R331). -/
def enterFailSafe (cold : Bool) (s : State) : State := fioFailSafe (applyFailSafe cold s)

/-- The P-die declares the link silent at tick t: hold-over starts, or with HOLD 0 the fail-safe states apply at once
(R241). No silence follows on a link that has not been LIVE (R246); after the target state of an entry has been applied no
hold-over starts (R573). -/
def declareSilence (t : Nat) (s : State) : State :=
  if s.pdie.power != 0 || !(s.pdie.sup == .linked || s.pdie.sup == .failSafe) || s.pdie.silentAt.isSome || !s.pdie.lived then s
  else
    let hold := s.pdie.hold
    let s := freezePauses (bump (ctr 0x09 2) s)
    let s := modP (fun p =>
      { p with sup := if p.sup == .linked then .holdover else p.sup, silentAt := some t, expiry := some (t + hold * 200000)
               expired := false, wasLive := true, lived := false
               ports := p.ports.map (fun x => { x with swap := none }) }) s
    let s := syncAllTrx s
    if hold = 0 then enterFailSafe false (modP (fun p => { p with expired := true }) s) else s

/-! ### The L-die's end goes down (R236, R240) -/

/-- The entries of the fail-safe memory whose write the P-die has still to verify or to report, as bits (R243, R251). -/
def nvWaiting (s : State) : Nat :=
  bitsOf ((List.range 48).filter (fun k => (nth s.pdie.fs k).writing.isSome) ++
    (if s.pdie.fsHoldNew.isSome then [48] else []) ++
    ((List.range 2).filter (fun p => (nth s.pdie.fsPortNew p).isSome)).map (fun p => 49 + p) ++
    s.pdie.up.filterMap (fun u => match u.body with
      | .failSafe k _ => some k
      | .fsWord w _ => some w
      | _ => none))

/-- A write of entry w of the fail-safe memory is in progress (R252). -/
def nvStarts (w : Nat) (s : State) : State := modWeft (fun x => { x with nvPend := setPin x.nvPend w true }) s

/-- A command past its commit point needs the P-die to complete (R240); the deletion of a skein that is not defined does not
(R146). -/
def needsP (s : State) : Await → Bool
  | .inForce _ | .echo _ | .failSafe _ | .swap _ | .dim _ | .fioCount _ => true
  | .pass w k => w == 0 && (skL k s).define.isSome
  | _ => false

/-- A command passed by the partner over Ply that waits for its set-point is answered with FAULT_ACTIVE (R176, R240). -/
def failPassed (k : Nat) (s : State) : State :=
  match (skL k s).passedFrom with
  | none => s
  | some d =>
    let m : MirrorMsg := { dev := d, skein := ((chainOf k s).map (fun j => (chainE j s).pskein)).getD 0, kind := .answer
                           value := s.now, status := Status.faultActive.code }
    pushMirror m (modSkL k (fun x => { x with passedFrom := none }) s)

/-- The link leaves LIVE on the L-die: nothing more goes down, the commands that need the P-die fail, deferred slots
return to IDLE, pending swaps and pixel writes are dropped (R240, R257, R299). -/
def linkDown (s : State) : State :=
  let s := modWeft (fun w => { w with state := .down, cfg := [], adopting := false, sending := false
                                      nvPend := nvWaiting s, counterView := s.counters.filter (fun p => pdieCounter p.1) }) s
  let s := abortWhere (fun e => e.stage == .taken && (e.await :: e.more).any (needsP s)) .faultActive s
  let s := modLoom (fun l => { l with releases := [], pauses := []
                                      skeins := l.skeins.map (fun x => { x with define := none, send := false }) }) s
  let s := (List.range 48).foldl (fun s k => failPassed k s) s
  let s := { s with light := { s.light with
    ports := s.light.ports.map (fun x => { x with pixels := [], swapWait := none, swapPend := false })
    engines := s.light.engines.map (fun x => if x.swapOf.isSome then { x with swapOf := none, state := .running } else x) } }
  dropDeferred s

/-- The link leaves LIVE or its training while the L-die runs; the L-die trains again 1 ms later (R236, log entry 50). -/
def dropLink (s : State) : State :=
  let s := if s.weft.state == .live then linkDown s
    else modWeft (fun w => { w with state := .down, cfg := [], adopting := false, sending := false }) s
  modWeft (fun w => { w with trainStart := none, retryAt := some (s.now + 200000) }) s

/-- LINK_SILENCE: 10 µs of the P-die's device time have passed without a valid down frame (R18). The L-die's framer
follows to DOWN (R236). -/
def execLinkSilence (t : Nat) (s : State) : Host.Outcome State Fault Refusal :=
  let s1 := toP t s
  .next (if s1.pNow < s1.pdie.lastDown + 2000 || s1.pdie.power != 0 || s1.pdie.silentAt.isSome then s1
    else if s1.pdie.sup == .linked || s1.pdie.sup == .failSafe then
      let s2 := declareSilence s1.pNow s1
      if s2.weft.state == .live then syncAllTrx (dropLink s2) else s2
    else s1)

/-- UP_LOSS: 10 µs have passed on the L-die without a valid up frame: it stops sending down frames, and WEFT_UPLOSS is
reported (R236). -/
def execUpLoss (t : Nat) (s : State) : Host.Outcome State Fault Refusal :=
  let s := toL t s
  .next (if s.weft.state != .live || s.now < s.weft.lastUp + 2000 || !ldieUp s then s
    else syncAllTrx (reportL 0x122 0xFF (dropLink s)))

/-- HOLDOVER_EXPIRY: the hold-over time has run, and the fail-safe states apply (R241, R249); so they do at the expiry of
R41 after a power-on, and of R576 after a wake. -/
def execHoldoverExpiry (s : State) : Host.Outcome State Fault Refusal :=
  .next (match s.pdie.expiry with
    | none => s
    | some e =>
      if s.pdie.sup == .reset || s.pdie.sup == .asleep || s.pdie.sup == .linked then s
      else
        let s := toP e s
        let s := modP (fun p => { p with expired := p.silentAt.isSome }) s
        enterFailSafe (s.pdie.sup == .cold) s)

/-! ### Training (R236 to R238) -/

/-- WEFT_TRAINING: the steps 1 to 4 of R237 complete with a measured one-way latency; device time is settled and the link
is in ADOPT. A link that the L-die had dropped has fallen silent before that (R252). -/
def execWeftTraining (t latency : Nat) (s : State) : Host.Outcome State Fault Refusal :=
  let s := toL t s
  .next (if s.weft.state != .training || s.pdie.sup == .reset || s.pdie.sup == .asleep || !ldieUp s then s
    else
      let s := declareSilence (min s.pNow (s.pdie.lastDown + 2000)) s
      let cold := !s.pdie.warm
      let s := settleTime s
      let s := if s.clk.step == .started then { s with clk := { s.clk with pdieCold := cold } } else s
      bump (ctr 0x09 4) (modWeft (fun w =>
        { w with state := .adopt, latency := latency % 256, trainStart := none, hold := s.pdie.hold
                 warm := s.pdie.warm, lastUp := s.now, idleAt := s.now, readSeen := 0, refSeen := 0 })
        (modP (fun p => { p with idleAt := s.pNow }) s)))

/-- TRAINING_TIMEOUT: 1 ms without completion: DOWN, WEFT_TRAIN_FAIL, and a new attempt 1 ms later (R236). -/
def execTrainingTimeout (s : State) : Host.Outcome State Fault Refusal :=
  .next (match s.weft.trainStart with
    | none => s
    | some t0 =>
      if s.weft.state != .training then s
      else
        let s := toL (t0 + 200000) s
        reportL 0x121 0xFF (modWeft (fun w =>
          { w with state := .down, trainStart := none, retryAt := some (s.now + 200000) }) s))

/-- TRAINING_RETRY: the new attempt (R236). -/
def execTrainingRetry (s : State) : Host.Outcome State Fault Refusal :=
  .next (match s.weft.retryAt with
    | none => s
    | some t => if s.weft.state == .down && ldieUp s then startTraining (toL t s) else s)

/-! ### Frames that arrive or are discarded (R229, R235) -/

/-- A side counts a discarded frame in management tick m, and whether it is the 65th of that tick (R235). -/
def countDiscard (m : Nat) (d : Nat × Nat) : (Nat × Nat) × Bool :=
  let n := if d.1 = m then d.2 + 1 else 1
  ((m, n), n == 65)

/-- The discarded frames of management tick m, of whichever side, are reported once for that tick (R235). -/
def reportCrc (m : Nat) (r : Report) (s : State) : State :=
  if s.weft.crcTick == some m then s else report r (modWeft (fun w => { w with crcTick := some m }) s)

/-- A down frame discarded by the P-die; the 65th of a management tick is reported (R235). -/
def discardDown (s : State) : State :=
  let (d, many) := countDiscard (s.pNow / mgmtTicks) s.pdie.discards
  let s := bump (ctr 0x09 0) (modP (fun p => { p with discards := d }) s)
  if many then reportP 0x120 0xFF 0 s else s

/-- An up frame discarded by the L-die; the 65th of a management tick is reported (R235). -/
def discardUp (s : State) : State :=
  let (d, many) := countDiscard (mgmtNow s) s.weft.discards
  let s := bump (ctr 0x09 1) (modWeft (fun w => { w with discards := d }) s)
  if many then reportCrc d.1 { src := 0x120, tick := s.now } s else s

/-- The outputs follow the L-die: the supervisor has the link (R244). -/
def obeys (s : State) : Bool := s.pdie.sup == .linked

/-- How far an EVSEQ lies before another one, modulo 64. -/
def seqBefore (seq goal : Nat) : Nat := (goal + 64 - seq % 64) % 64

/-- UP_ACK: the P-die forgets the frames that the L-die holds (R234). -/
def takeAck (ack : Nat) (s : State) : State :=
  modP (fun p => { p with up := p.up.filter (fun u =>
    u.sent.isNone || !(1 ≤ seqBefore u.seq ack && seqBefore u.seq ack ≤ 32)) }) s

/-- A frame of type ty sent down at tick t, with the link LIVE or in adoption: the P-die takes its payload, with the UP_ACK of an
odd one, or discards it. A frame that the line has turned into a valid one of another type does nothing (log entry 51). -/
def sendDown (t : Nat) (odd : Bool) (ty : FrameType) (payload : Nat) (e : LineErr) (f : Nat → State → State) (s : State) : State :=
  let s := toL t s
  if !(s.weft.state == .live || s.weft.state == .adopt) || s.pdie.sup == .reset || s.pdie.sup == .asleep then s
  else match readFrame true odd e (frameBytes ty payload) with
    | none => discardDown s
    | some (u, p) =>
      let s := modP (fun x => { x with lastDown := s.pNow }) s
      let s := if odd && obeys s then takeAck (pfld 47 42 p) s else s
      if u == ty then f p s else s

/-- A down frame of a running L-die; a halted one sends nothing but FS_FORCE (R445). -/
def downFrame (t : Nat) (odd : Bool) (ty : FrameType) (payload : Nat) (e : LineErr) (f : Nat → State → State) (s : State) : State :=
  if s.faults.halted then toL t s else sendDown t odd ty payload e f s

/-- A frame of type ty sent up at tick t, with the link LIVE or in adoption: the L-die takes its payload or discards it. -/
def upFrame (t : Nat) (odd : Bool) (ty : FrameType) (payload : Nat) (e : LineErr) (f : Nat → State → State) (s : State) : State :=
  let s := toL t s
  if !(s.weft.state == .live || s.weft.state == .adopt) || s.pdie.sup == .reset || s.pdie.sup == .asleep || s.faults.halted then s
  else match readFrame false odd e (frameBytes ty payload) with
    | none => discardUp s
    | some (u, p) =>
      let s := modWeft (fun w => { w with lastUp := s.now }) s
      if u == ty then f p s else s

/-! ### Which frame goes first (R231) -/

/-- A frame time at the link's present rate: one frame every 100 ns while the PLL coasts (R228, R563). -/
def frameTime (s : State) : Nat := if s.clk.coast then 2 * frameTicks else frameTicks

/-- An IDLE is due down: 62 frame times have passed since the start of the last one. -/
def idleDueDown (s : State) : Bool := s.weft.idleAt + 62 * frameTime s ≤ s.now
/-- The same upward. -/
def idleDueUp (s : State) : Bool := s.pdie.idleAt + 62 * frameTime s ≤ s.pNow

/-- A changed set-point waits for its frame. -/
def setPointWaits (s : State) : Bool := (List.range 48).any (fun k => (skL k s).send)

/-- An item is a word of the field outputs, or their commit. -/
def CfgItem.outputs : CfgItem → Bool × Bool
  | .fioWord _ _ => (true, false)
  | .fioCommit _ => (false, true)
  | _ => (false, false)

/-- Item c may go: a commit of the field outputs goes after the echo of its words, and words after the echo of the commit before
them (R335). -/
def mayGo (q : List CfgOut) (c : CfgOut) : Bool :=
  let before := q.takeWhile (fun x => x.id != c.id)
  !((c.item.outputs.1 || c.item.outputs.2) && before.any (fun x => x.item.outputs.2)) &&
    !(c.item.outputs.2 && before.any (fun x => x.item.outputs.1))

/-- A configuration word waits for its frame. -/
def configWaits (s : State) : Bool := s.weft.cfg.any (fun c => c.sent.isNone && mayGo s.weft.cfg c)
/-- A release mark waits for its frame. -/
def markWaits (s : State) : Bool := !s.loom.releases.isEmpty

/-- The frame is a CELL_OUT. -/
def UpFrame.isCellOut (u : UpFrame) : Bool :=
  match u.body with
  | .cellOut _ _ _ _ => true
  | _ => false

/-- The frames sent and not acknowledged (R234). -/
def unacked (s : State) : Nat := (s.pdie.up.filter (fun u => u.sent.isSome)).length

/-- The oldest frame that has stayed unacknowledged for 8 frame times (R234). -/
def resendDue (s : State) : Option UpFrame :=
  s.pdie.up.find? (fun u => (u.sent.map (fun x => decide (x + 8 * frameTime s ≤ s.pNow))).getD false)

/-- A cell-out report waits: it pre-empts whatever the P-die would send (R232). -/
def cellOutWaits (s : State) : Bool := s.pdie.up.any (fun u => u.sent.isNone && u.isCellOut)

/-- The mark that opens the adoption readback waits for its frame (R237). -/
def startMarkWaits (s : State) : Bool := s.weft.state == .adopt && !s.weft.adopting

/-- An event waits for its frame: a new one, or one to be sent again. -/
def eventWaits (s : State) : Bool :=
  (s.pdie.up.any (fun u => u.sent.isNone && !u.isCellOut) && decide (unacked s < 32)) || (resendDue s).isSome

/-! ### Output state (R128, R233) -/

/-- A set-point that has turned skein k off ends the handover of each leg: both roles change in the frame that carries it
(R155). -/
def handsOff (k : Nat) (s : State) : State :=
  let s := settleHand k (skP k s) s
  if pairedL k s then settleHand (defL k s).partner (skP (defL k s).partner s) s else s

/-- A set-point and a cap of skein k arrive on the P-die, which applies them at once (R128); an actuator-owned skein follows its
slots (R256). -/
def takeSetPoint (k : Nat) (p : SetPoint) (cap : Nat) (s : State) : State :=
  if !obeys s || !(defP k s).defined || (defP k s).owner == 2 then s else handsOff k (applySetPoint k p cap s)

/-- The disable state of skein k enters a down frame: DISABLED is set (R148). -/
def disableDown (x : SkeinL) : SkeinL := { x with disabled := x.disabled || x.disablePending, disablePending := false }

/-- The set-point of skein k enters a down frame: the commands that wait for it are past their commit point (R84). -/
def wentDown (k : Nat) (s : State) : State :=
  modFlight (fun l => l.map (fun e => if e.await == .inForce k then { e with down := true } else e))
    (modSkL k (fun x => let y := { x with sent := x.sp }
                        if flashGoes k s then y else disableDown y) s)

/-- A set-point of skein k that a latch released waits on the P-die for its tick (R112). -/
def alignedTo (k : Nat) (s : State) : State :=
  match (skL k s).alignAt with
  | none => s
  | some t => modSkL k (fun x => { x with alignAt := none }) (toP t s)

/-- SETPOINT: the changed set-point of skein k with its cap goes into an odd down frame, ahead of all but a due IDLE (R17, R231);
the P-die applies what it reads (R128). A discarded one comes again with the refresh. -/
def execSetpoint (t k : Nat) (e : LineErr) (s : State) : Host.Outcome State Fault Refusal :=
  let s := toL t s
  .next (if !(skL k s).send || !linkLive s || idleDueDown s then s
    else
      downFrame t true .setpoint (setpointPayload s.weft.ack k (skL k s).sp (pairCap k s)) e
        (fun p s => takeSetPoint (pfld 41 36 p) (bitsSetPoint (pfld 35 4 p)) (bitsCap (pfld 35 4 p)) (alignedTo (pfld 41 36 p) s))
        (wentDown k (modSkL k (fun x => { x with send := false }) s)))

/-- The active mask of skein k as Loom has placed it, and the outgoing mask (R151, R152, R155). -/
def sentMasks (k : Nat) (s : State) : Nat × Nat :=
  let out := match ((skL k s).hand.map (fun h => h.outgoing)).getD none with
    | some o => 1 <<< (o - (defL k s).first)
    | none => 0
  (roleMask k .active s ||| bitsOf ((skL k s).joining.map (fun n => n - (defL k s).first)), out)

/-- The handover leave rule that a refresh slot carries: 0 no handover, 1 continuous, 2 with edges, as a chopping skein is, 3 off
(R155, R233, R256). The codes are the model's (log entry 51). -/
def leaveRule (k : Nat) (s : State) : Nat :=
  let d := defL (leaderL k s) s
  let e := effDuty d (skL (leaderL k s) s).sp.duty (pairCap k s)
  if (skL k s).hand.isNone then 0
  else if (slotsL k s).any (fun a => (actL a s).prof.chopper == k && ((actL a s).phase == 2 || (actL a s).phase == 3)) then 2
  else if offL k s then 3
  else if d.static || d.steps ≤ e || e = 0 then 1 else 2

/-- The pins of refresh slot 192 + j: 27 each, the last slot 26 (R233). -/
def slotPins (j : Nat) : List Nat := (List.range 80).filter (fun i => i / 27 == j)

/-- A CONFIG item is on its way that one of slot's fields would overtake: what the P-die holds there is left as it is. -/
def underWay (f : CfgItem → Bool) (s : State) : Bool := s.weft.cfg.any (fun c => f c.item)

/-- The content of a refresh slot of step 6 of the training, built from the readback of step 5 alone (R244). -/
def adoptedContent (slot : Nat) (s : State) : Nat :=
  if slot < 48 then let v := nth s.loom.skeinView slot; setPointBits v.sp v.cap
  else if slot < 96 then
    let v := nth s.loom.skeinView (slot - 48)
    let h := v.hand.getD {}
    fields [(0, 12, v.mask ||| h.outgoing), (12, 12, h.outgoing), (24, 2, h.rule)]
  else
    let c := viewOf (slot - 96) s
    let k := (List.range 48).find? (fun k => (nth s.loom.skeinView k).defn.cells.contains (slot - 96))
    (pack [(16, k.getD 0xFF), (8, c.slew), (4, (k.map (fun k => (nth s.loom.skeinView k).defn.mode)).getD 0), (2, c.role)]).toNat

/-- The content of a refresh slot as the L-die sends it (R233). The bits within a slot are the model's where R233 gives none
(log entry 51): those of SETPOINT, of CELL_CFG and of LIGHT_PORTp_CFG, with the displayed buffer in bit 32. -/
def refreshContent (slot : Nat) (s : State) : Nat :=
  if s.weft.state == .adopt && slot < 192 then adoptedContent slot s
  else if slot < 48 then setPointBits (skL slot s).sp (pairCap slot s)
  else if slot < 96 then
    let m := sentMasks (slot - 48) s
    fields [(0, 12, m.1 ||| m.2), (12, 12, m.2), (24, 2, leaveRule (slot - 48) s)]
  else if slot < 192 then (cellCfg (slot - 96) s).toNat
  else if slot < 195 then bitsOf (((slotPins (slot - 192)).filter (fun i => s.fio.outs.testBit i)).map (fun i => i % 27))
  else if slot < 197 then
    fields [(0, 32, ((portL (slot - 195) s).cfg &&& portPBits).toNat), (32, 1, (portL (slot - 195) s).displayed)]
  else 0

/-- Slot 0 to 47 on the P-die: the set-point of skein k, which does not overtake a FLASH on its way (R148). -/
def takeSkeinSlot (k n : Nat) (s : State) : State :=
  if flashGoes k s then s
  else if (skP k s).sp == bitsSetPoint n && (skP k s).cap == bitsCap n then s else takeSetPoint k (bitsSetPoint n) (bitsCap n) (alignedTo k s)

/-- Slot 48 to 95: the masks of skein k. -/
def takeMaskSlot (k n : Nat) (s : State) : State :=
  let out := ((skP k s).hand.map (fun h => h.outgoing)).getD 0
  if !(defP k s).defined then s
  else
    let s := joined k (if (skP k s).mask != pfld 11 0 n || out != pfld 23 12 n then
      applyMask k (pfld 11 0 n &&& (4095 ^^^ pfld 23 12 n)) (pfld 23 12 n) (pfld 25 24 n) s else s)
    settleHand k (skP k s) s

/-- Slot 96 to 191: SLEW and ROLE of cell n. MODE and the skein come with a definition alone, which the P-die takes as a whole
or not at all (R146): a slot that shows others changes neither. -/
def takeCellSlot (n v : Nat) (s : State) : State :=
  let busy := underWay (fun i => match i with
    | .slew _ _ => true
    | .skein _ _ _ => true
    | _ => false) s
  if busy then s else modCell n (fun c => { c with slew := pfld 10 8 v, role := pfld 3 2 v }) s

/-- Slot 192 to 194: the commanded states of the field outputs; pins whose commit is on its way keep theirs (R335). -/
def takePinSlot (j v : Nat) (s : State) : State :=
  let pins := slotPins j
  takeOutputs (bitsOf (pins.filter (fun i => !(outputsUnderWay s).testBit i)))
    (bitsOf (pins.filter (fun i => v.testBit (i % 27)))) s

/-- Slot 195 and 196: port p's enable and scan fields and its displayed buffer, unless a write or a swap is on its way. -/
def takePortSlot (p v : Nat) (s : State) : State :=
  let busy := underWay (fun i => match i with
    | .light off _ => off / 0x100 == p
    | .swap q _ => q == p
    | _ => false) s
  let x := portP p s
  let cfg := word (pfld 31 0 v)
  if busy || (portL p s).swapPend || x.blank then s
  else
    let s := if (x.cfgNext.getD x.cfg) &&& portPBits != cfg then takePortCfg p (((x.cfgNext.getD x.cfg) &&& ~~~ portPBits) ||| cfg) s else s
    if x.displayed != pfld 32 32 v then modPortP p (fun y => { y with displayed := pfld 32 32 v }) s else s

/-- What the L-die notes of a refresh slot that it sends: a set-point in it enters a down frame (R84). -/
def noteRefresh (slot : Nat) (s : State) : State := if slot < 48 && s.weft.state == .live then wentDown slot s else s

/-- The content of a refresh slot taken by the P-die, which applies it where it differs from the state in force (R233). -/
def takeRefresh (slot n : Nat) (s : State) : State :=
  if slot < 48 then takeSkeinSlot slot n s
  else if slot < 96 then takeMaskSlot (slot - 48) n s
  else if slot < 192 then takeCellSlot (slot - 96) n s
  else if slot < 195 then takePinSlot (slot - 192) n s
  else if slot < 197 then takePortSlot (slot - 195) n s
  else s

/-- The 200 slots of a cycle, as bits (R233, R234). -/
def allSlots : Nat := 2 ^ 200 - 1

/-- REFRESH: a slot of the refresh cycle goes into an even down frame (R233). In ADOPT the P-die applies nothing, and the cycle of
step 6 is that of the slots sent once the readback of step 5 is complete (R237, R244). -/
def execRefresh (t slot : Nat) (e : LineErr) (s : State) : Host.Outcome State Fault Refusal :=
  let s := toL t s
  let s := if s.weft.state == .adopt && s.weft.adopting && s.weft.readSeen == allSlots then
      modWeft (fun w => { w with refSeen := setPin w.refSeen slot true }) s else s
  .next (downFrame t false .refresh (slotPayload slot (refreshContent slot s)) e
    (fun p s => if obeys s then takeRefresh (pfld 47 39 p) (pfld 38 0 p) s else s) (noteRefresh slot s))

/-! ### Readback (R234) -/

/-- A readback slot's content taken by the L-die (log entry 51). m carries what the P-die measures: a cell's temperature
and current, the banks' supplies, a port's row-switch temperature. -/
def readbackSlot (slot : Nat) (m : List Nat) (s : State) : State :=
  if slot < 48 then
    let k := slot
    let changed := (nth s.loom.skeinView k).sp != (skP k s).sp
    let s := modLoom (fun l => { l with skeinView := put l.skeinView k (skP k s)
                                        widened := setPin l.widened k (widened k s) }) s
    let s := ((List.range 16).filter (fun a => (actP a s).prof.chopper == k)).foldl (fun s a =>
      modActL a (fun x => { x with flags := { x.flags with heldFs := (actP a s).flags.heldFs } }) s) s
    let s := settleHand k (skP k s) s
    if (skP k s).sp == (skL k s).sp && !(skL k s).send then
      mirrorInForce k changed (completeAll (.inForce k) .done (fun e => e.data) s)
    else s
  else if slot < 96 then
    modLoom (fun l => { l with skeinView := put l.skeinView (slot - 48) (skP (slot - 48) s) }) s
  else if slot < 192 then
    let n := slot - 96
    let s := match skeinOfCellP n s with
      | some k => driveGates k (accrue k s)
      | none => s
    let s := match m with
      | temp :: sense :: _ => modCell n (fun c => { c with temp := temp % 256, sense := min sense 4000 }) s
      | _ => s
    modLoom (fun l => { l with view := put l.view n (cellP n s) }) s
  else if slot ≤ 194 then readbackFio (slot - 192) s
  else if slot ≤ 196 then
    let p := slot - 195
    let s := match m with
      | temp :: _ => modPortP p (fun x => { x with temp := temp % 256 }) s
      | _ => s
    let x := portP p s
    modPortL p (fun y => { y with displayed := x.displayed, scanning := portLit x s, temp := x.temp, lsyncLost := x.lsyncLost
                                  rowF := x.rowF, colOpen := x.colOpen, colShort := x.colShort }) s
  else if slot = 197 then
    let s := modP (fun p => { p with banks := Vector.ofFn (fun (i : Fin 12) =>
      { (nth p.banks i.val) with vbat := (m[i.val]?.map (fun v => v % 65536)).getD (nth p.banks i.val).vbat }) }) s
    let s := modLoom (fun l => { l with bankView := s.pdie.banks }) s
    seeTamper (modWeft (fun w => { w with tamper := s.pdie.tamper }) s)
  else if slot = 198 then readbackTrx s
  else s

/-- READBACK: a slot of the readback cycle in an even up frame (R234). In ADOPT it belongs to the cycle of step 5, once its mark
has come (R237); a waiting cell-out report goes first (R232). R234 gives the content no layout: the copies are taken as they stand (log entry 51). -/
def execReadback (t slot : Nat) (e : LineErr) (m : List Nat) (s : State) : Host.Outcome State Fault Refusal :=
  let s := toL t s
  .next (if cellOutWaits s then s else upFrame t false .readback (slotPayload slot 0) e (fun p s =>
    let slot := pfld 47 39 p
    if linkLive s then readbackSlot slot m s
    else if s.weft.adopting then modWeft (fun w => { w with readSeen := setPin w.readSeen slot true }) (readbackSlot slot m s)
    else s) s)

/-- ADOPTION_READBACK_START: the P-die's mark opens the adoption readback cycle (R230, R237). No EVENT goes before it: the P-die
holds its events until the link is LIVE (R242). -/
def execAdoptionReadbackStart (m : MarkAt) (s : State) : Host.Outcome State Fault Refusal :=
  let s := toL m.t s
  .next (if s.weft.state != .adopt || idleDueUp s || cellOutWaits s then s
    else upFrame m.t true .mark (markPayload 0 MarkCode.readbackStart.code 0) m.line (fun p s =>
      if pfld 41 38 p = MarkCode.readbackStart.code then
        modWeft (fun w => { w with adopting := true, readSeen := 0, refSeen := 0 }) s
      else s) s)

/-! ### CONFIG frames (R233) -/

/-- The fields of a definition that a fail-safe entry holds (R247). -/
def storedPart (d : SkeinDef) : SkeinDef :=
  { cfg := setFld 31 20 0 d.cfg, period := d.period, aux := setFld 31 24 0 d.aux }

/-- The write of skein k's fail-safe entry begins on the P-die (R247, R251). -/
def startFsWrite (k : Nat) (c : FsCopy) (command : Bool) (s : State) : State :=
  modP (fun p => { p with fs := upd p.fs k (fun e => { e with writing := some c, command := command }) }) s

/-- The content of a fail-safe entry as it will stand once the write in progress is done. -/
def fsComing (k : Nat) (s : State) : FsCopy :=
  let e := nth s.pdie.fs k
  match e.writing with
  | some c => c
  | none => (fsCopy e).getD {}

/-- The wake configuration in force, as the P-die has reported it (R588). -/
def takeWakeCfg (en : Word) (edge timer : Nat) (s : State) : State :=
  { s with clk := { s.clk with wakeEn := en, wakeEdge := edge, wakeTimer := timer } }

/-- A PROT register given a word on the P-die; the word before it rules out the running fingerprint interval, and a window in
which learning goes off is spoilt (R197, R226). -/
def takeProt (off : Nat) (v : Word) (s : State) : State :=
  let old := (protWord off s.pdie.prot).getD v
  let s := modP (fun p =>
    { p with prot := putProt off v p.prot, protOld := (off, old, s.pNow) :: p.protOld.filter (fun x => s.pNow < x.2.2 + 160000) }) s
  (List.range 48).foldl (fun s k => if printable k s then s else spoilPrint k s) s

/-- What a CONFIG item does on the P-die (R233). -/
def applyCfg (i : CfgItem) (s : State) : State :=
  match i with
  | .skein k d mask =>
    let s := applyDefine k d mask s
    startFsWrite k (if d.defined then { valid := true, defn := storedPart d } else {}) false s
  | .prot off v => takeProt off v s
  | .slew n v => match skeinOfCellP n s with
    | some k => setSlew k v s
    | none => modCell n (fun c => { c with slew := v }) s
  | .hold ms => modP (fun p => { p with hold := ms, fsHoldNew := some ms }) s
  | .failSafe k mode val => startFsWrite k { fsComing k s with valid := true, mode := mode, val := val } true s
  | .portFs p fs => modP (fun x => { x with portFs := put x.portFs p fs, fsPortNew := put x.fsPortNew p (some fs) }) s
  | .envelope k pts => modSkP k (fun x =>
      if pts.isEmpty then { x with env := [], envNext := none } else { x with envNext := some pts }) s
  | .clearLatch k _ => clearLatchP k s
  | .primary k on => modSkP k (fun x => { x with primary := on }) s
  | .ledger n l folded => modCell n (fun c => { c with ledger := l, folded := folded }) s
  | .fio off v => takeFio off v s
  | .fioWord j v => takeFioWord j v s
  | .fioCommit _ => takeFioCommit s
  | .fioClear c => takeFioClear c s
  | .light off v => takeLight off v s
  | .pixel p b i l => takePixel p b i l s
  | .swap p c => takeSwap p c s
  | .portFactor p d => modPortP p (fun x => { x with factor := d }) s
  | .portDis p held => if held then s else modPortP p (fun x => { x with blank := true }) s
  | .fsForce => enterFailSafe false s
  | .trx off v => takeTrx off v s
  | .act slot phase => takePhase slot phase s
  | .actProfile slot p => modActP slot (fun x => { x with prof := p }) s
  | .applyFs k => applyFsSkein false k s
  | .fill k d => setSlew k d.slew (changeSkP k (fun s => modSkP k (fun x => { x with defn := d, fromFs := false }) s) s)
  | .power n => modP (fun p => { p with target := n, wakeReq := 0 }) s
  | .wake _ _ _ => s

/-- An item of the CONFIG queue changed by f. -/
def modCfgOut (id : Nat) (f : CfgOut → CfgOut) (s : State) : State :=
  modWeft (fun w => { w with cfg := w.cfg.map (fun c => if c.id == id then f c else c) }) s

/-- A CONFIG item arrives on the P-die: applied, once, and echoed (R233). -/
def arriveCfg (c : CfgOut) (s : State) : State :=
  let s := toP c.due s
  let refused := match c.item with
    | .clearLatch k _ => gateHolds k s
    | _ => false
  let s := if c.applied then s else modCfgOut c.id (fun x => { x with applied := true, refused := refused }) (applyCfg c.item s)
  pushUp (.echo c.id) s

/-- The configuration word c enters a down frame: so does the output change of a command that waits for it (R84). -/
def configDown (c : CfgOut) (s : State) : State :=
  let waits := fun (a : Await) => match a, c.item with
    | .swap p, .swap q _ => p == q
    | .echo i, _ => i == c.id
    | _, _ => false
  let s := modFlight (fun l => l.map (fun e => if waits e.await then { e with down := true } else e)) s
  match c.item with
  | .applyFs k => modSkL k disableDown s
  | _ => s

/-- The index of an item's configuration word, and its value: those that the spec numbers (R289, R335, R445); for the others
the item's own number modulo 0x3F0 stands for the index, and 0 for the value (log entry 51). -/
def CfgOut.word (c : CfgOut) : Nat × Nat :=
  match c.item with
  | .fioWord j v => (0x3F0 + j, v.toNat)
  | .fioCommit _ => (0x3F3, 0)
  | .fsForce => (0x3FE, 0)
  | .pixel p b i v => (0x3FF, (p * 1536 + b * 768 + i) * 2 ^ 16 + v)
  | _ => (c.id % 0x3F0, 0)

/-- The payload of the CONFIG frame of an item. -/
def CfgOut.payload (ack : Nat) (c : CfgOut) : Nat := configPayload ack c.word.1 c.word.2

/-- CONFIG: the first item not yet sent goes into an odd down frame, with no set-point waiting and no IDLE due (R231, R233). FS_FORCE
has a row of its own. -/
def execConfig (t : Nat) (e : LineErr) (s : State) : Host.Outcome State Fault Refusal :=
  let s := toL t s
  .next (match s.weft.cfg.find? (fun c => c.sent.isNone && c.item != .fsForce && mayGo s.weft.cfg c) with
    | none => s
    | some c =>
      if !linkLive s || setPointWaits s || idleDueDown s then s
      else downFrame t true .config (c.payload s.weft.ack) e
        (fun p s => if obeys s && pfld 31 0 p == c.word.2 && pfld 41 32 p == c.word.1 then arriveCfg c s else s)
        (configDown c (modCfgOut c.id (fun x => { x with sent := some s.now }) s)))

/-- CONFIG_ECHO_TIMEOUT: an echo has not arrived within 1 µs of the sending, and the item is to be sent again (R233). -/
def execConfigEchoTimeout (s : State) : Host.Outcome State Fault Refusal :=
  .next (match s.weft.cfg.find? (fun c => c.sent.isSome) with
    | none => s
    | some c => modCfgOut c.id (fun x => { x with sent := none }) (toL (c.sent.getD 0 + 200) s))

/-- FS_FORCE: the configuration word of an L4 or of a recovery start makes the P-die apply the fail-safe states, which it
keeps until an L-die adopts them (R445, R599). A running L-die sends a due IDLE and waiting set-points first (R231). -/
def execFsForce (t : Nat) (e : LineErr) (s : State) : Host.Outcome State Fault Refusal :=
  let s := toL t s
  .next (match s.weft.cfg.find? (fun c => c.item == .fsForce) with
    | none => s
    | some c =>
      if !linkLive s || (!s.faults.halted && (setPointWaits s || idleDueDown s)) then s
      else sendDown t true .config (c.payload s.weft.ack) e (fun _ s =>
        enterFailSafe false (modWeft (fun w => { w with cfg := w.cfg.filter (fun x => x.id != c.id) }) s)) s)

/-- The roles that a definition's mask gives its cells on the L-die (R154): a cell out of the mask with a cause pending, or
excluded, is out of service. -/
def rolesOfMask (k : Nat) (d : SkeinDef) (mask : Nat) (s : State) : State :=
  d.cells.foldl (fun s n =>
    setRole n (if mask.testBit (n - d.first) then .active
      else if causePending (viewOf n s) || excluded k n s then .outOfService else .standby) s) s

/-- A definition comes into force on the L-die with its echo: roles, the slew of its cells, the off set-point, learning
restarted, and the command completes (R132, R146, R198). -/
def defineDone (id k : Nat) (d : SkeinDef) (mask : Nat) (s : State) : State :=
  if ((skL k s).define.map (fun x => x.sent)).getD none != some id then s
  else
    let s := (defL k s).cells.foldl (fun s n => setRole n .none s) s
    let s := modSkL k (fun x =>
      { x with defn := d, sp := { ({} : SetPoint) with duty := b2n ((slotsL k s).any (fun a => 2 ≤ (actL a s).phase)) }
               define := none, level := 0, overCap := 1000, shed := false, hand := none, joining := [], reports := []
               spares := [], disabled := false, lastChange := s.now, pin := 0, pinFresh := false, learn := {} }) s
    let s := modLoom (fun l => { l with skeinView := put l.skeinView k (skP k s) }) s
    let s := rolesOfMask k d mask s
    let s := d.cells.foldl (fun s n => modLoom (fun l => { l with view := upd l.view n (fun c => { c with slew := d.slew }) }) s) s
    let s := modSkL k (fun x => { x with learn := unlearned (if d.defined && learnOn k s then 1 else 0) {} }) s
    completeAll (.pass 0 k) .done (fun _ => []) (nvStarts k s)

/-- What the echo of an item changes in the L-die's copies (R103, R233). -/
def echoed (c : CfgOut) (s : State) : State :=
  match c.item with
  | .skein k d mask => defineDone c.id k d mask s
  | .prot off v => modLoom (fun l => { l with prot := putProt off v l.prot }) s
  | .slew n v =>
    let ns := (skeinOfCell n s).elim [n] (fun k => (defL k s).cells)
    ns.foldl (fun s m => modLoom (fun l => { l with view := upd l.view m (fun x => { x with slew := v }) }) s) s
  | .hold ms => modWeft (fun w => { w with hold := ms }) s
  | .portFs p fs => modPortL p (fun x => { x with cfg := setFld 30 30 (b2n fs) x.cfg }) s
  | .fio off v => fioEchoed off v s
  | .fioCommit set => outputsEchoed set s
  | .light off v => portEchoed off v s
  | .pixel p _ _ _ => pixelEchoed p c.id s
  | .trx off _ => trxEchoed off s
  | .actProfile slot p => modActL slot (fun x => { x with prof := p }) s
  | .fill k d => modSkL k (fun x => { x with defn := d }) s
  | .wake en edge timer => takeWakeCfg en edge timer s
  | .clearLatch k more =>
    let s := (defL k s).cells.foldl (fun s n => modLoom (fun l => { l with view := put l.view n (cellP n s) }) s) s
    if c.refused then s else clearLearn k more s
  | _ => s

/-- The echo of item id: the L-die's copies follow, and the commands that waited for it go on. -/
def takeEcho (id : Nat) (s : State) : State :=
  match s.weft.cfg.find? (fun c => c.id == id) with
  | none => s
  | some c =>
    let s := modWeft (fun w => { w with cfg := w.cfg.filter (fun x => x.id != id) }) s
    completeAll (.echo id) (if c.refused then .faultActive else .done) (fun e => e.data) (echoed c s)

/-! ### CELL_OUT and EVENT frames (R232, R234) -/

/-- A cell-out report reaches Loom (R158); a pause of rung 4 or above is timed from its trip tick (R209). -/
def takeCellOut (n cause tick : Nat) (s : State) : State :=
  let c := cellP n s
  let s := modLoom (fun l => { l with view := put l.view n c }) s
  let s := if c.ladder == .pausing && 4 ≤ c.tries && cause ≤ 4 && !s.loom.pauses.any (fun p => p.1 == n) then
      modLoom (fun l => { l with pauses := l.pauses ++ [(n, ceilDiv tick mgmtTicks + rungMgmt c.tries)] }) s
    else s
  match skeinOfCell n s with
  | some k => modSkL k (fun x => { x with reports := x.reports ++ [{ cell := n, cause := cause, tick := tick }] }) s
  | none => s

/-- A CONFIG item that writes entry w of the fail-safe memory. -/
def CfgItem.writesFs (w : Nat) : CfgItem → Bool
  | .skein k _ _ => k == w
  | .failSafe k _ _ => k == w
  | .hold _ => w == 48
  | .portFs p _ => w == 49 + p
  | _ => false

/-- The L-die learns that the write of entry w of the fail-safe memory is verified, or has failed; NV_PEND stays where a newer
write of it is on its way (R243, R251, R252). -/
def fsWritten (w : Nat) (ok : Bool) (s : State) : State :=
  let more := underWay (CfgItem.writesFs w) s
  modWeft (fun x => { x with nvPend := if more then x.nvPend else setPin x.nvPend w false, nvFail := x.nvFail || !ok })
    (bump (ctr 0x09 7) s)

/-- The L-die's copy of skein k's fail-safe entry in force. -/
def viewFs (k : Nat) (s : State) : State :=
  let c := (fsCopy (nth s.pdie.fs k)).getD {}
  modWeft (fun w => { w with fsView := put w.fsView k (c.valid, c.mode, c.val) }) s

/-- The content of a CELL_OUT or EVENT frame taken by the L-die; queued faults of a hold-over raise no reaction above lvl
(R448). -/
def takeUp (lvl : Nat) (b : UpBody) (s : State) : State :=
  match b with
  | .cellOut bank mask cause tick => (bitList 8 mask).foldl (fun s i => takeCellOut (8 * bank + i) cause tick s) s
  | .echo id => takeEcho id s
  | .fault src inst detail tick =>
    let s := if src = 0x0AE then modLoom (fun l => { l with droopSeen := setPin l.droopSeen inst true }) s else s
    let r : Report := { src := src, inst := inst, detail := detail, tick := tick, maxLevel := lvl }
    if src = 0x120 then reportCrc (tick / mgmtTicks) r s else report r s
  | .failSafe k ok =>
    let s := viewFs k (fsWritten k ok s)
    if s.weft.cfg.any (fun c => match c.item with
        | .failSafe j _ _ => j == k
        | _ => false) then s
    else completeAll (.failSafe k) (if ok then .done else .storeFail) (fun _ => []) s
  | .fsWord w ok => fsWritten w ok s
  | .record k pts ok =>
    if ok then bump (ctr 0x05 (0x200 + 4 * k)) (modSkL k (fun x => { x with learn := { x.learn with fresh := x.learn.fresh ++ [pts] } }) s)
    else bump (ctr 0x05 (0x201 + 4 * k)) s
  | .fio pin v tick => takeFioEvent pin v tick s
  | .light p kind idx tick => takeLightEvent p kind idx tick s
  | .act slot reason phase f tick => takeActEvent slot reason phase f tick s
  | .fioTrig kind chan tick => takeFioTrig kind chan tick s
  | .fioPolls set states tick => takePolls set states tick s
  | .fioCleared c count period last tick => takeFioCleared c count period last tick s
  | .trx n code _ => takeTrxEvent n code s

/-- The acknowledged EVSEQ moved over the frames held (R234). -/
def advanceAck : Nat → WeftL → WeftL
  | 0, w => w
  | n + 1, w => if w.held.contains w.ack then
      advanceAck n { w with held := w.held.filter (fun x => x != w.ack), ack := (w.ack + 1) % 64 }
    else w

/-- An up frame with an EVSEQ reaches the L-die, which discards one it already holds (R234). -/
def receiveUp (seq : Nat) (b : UpBody) (s : State) : State :=
  let before := seqBefore seq s.weft.ack
  if s.weft.held.contains seq || (1 ≤ before && before ≤ 32) then s
  else takeUp 4 b (modWeft (fun w => advanceAck 64 { w with held := w.held ++ [seq] }) s)

/-- The sending of an up frame noted. -/
def markSent (seq : Nat) (s : State) : State :=
  modP (fun p => { p with up := p.up.map (fun u => if u.seq == seq then { u with sent := some s.pNow } else u) }) s

/-- The kinds of EVENT frames; the spec numbers them nowhere, and gives their content no layout (log entry 51). -/
def UpBody.kind : UpBody → Nat
  | .cellOut _ _ _ _ => 0 | .echo _ => 1 | .fault _ _ _ _ => 2 | .failSafe _ _ => 3 | .fsWord _ _ => 4 | .record _ _ _ => 5
  | .fio _ _ _ => 6 | .light _ _ _ _ => 7 | .act _ _ _ _ _ => 8 | .fioTrig _ _ _ => 9 | .fioCleared _ _ _ _ _ => 10
  | .trx _ _ _ => 11 | .fioPolls _ _ _ => 12

/-- A CELL_OUT or EVENT frame sent up: what the L-die reads of a CELL_OUT it takes from the payload, of an EVENT its EVSEQ (R230,
R234). -/
def sendUp (t : Nat) (u : UpFrame) (e : LineErr) (s : State) : State :=
  match u.body with
  | .cellOut bank mask cause tick =>
    upFrame t false .cellOut (cellOutPayload u.seq bank mask cause tick) e (fun p s =>
      receiveUp (pfld 47 42 p) (.cellOut (pfld 41 38 p) (pfld 37 30 p) (pfld 29 26 p) (fullTick s.now (pfld 25 12 p))) s) s
  | b => upFrame t true .event (eventPayload u.seq b.kind 0) e (fun p s => receiveUp (pfld 47 42 p) b s) s

/-- CELL_OUT: the oldest report pre-empts the up stream, whatever frame is in progress or due: the P-die cuts that frame with
K30.7 and sends it again in full later, so its own row comes after this one (R231, R232). -/
def execCellOut (t : Nat) (e : LineErr) (s : State) : Host.Outcome State Fault Refusal :=
  let s := toL t s
  .next (match s.pdie.up.find? (fun u => u.sent.isNone && u.isCellOut) with
    | none => s
    | some u =>
      if linkLive s || s.weft.state == .adopt then sendUp t u e (bump (ctr 0x09 6) (markSent u.seq s)) else s)

/-- EVENT_FRAME: the oldest event goes into an odd up frame; none while 32 frames are unacknowledged or an IDLE is due (R231,
R234). -/
def execEventFrame (t : Nat) (e : LineErr) (s : State) : Host.Outcome State Fault Refusal :=
  let s := toL t s
  .next (match s.pdie.up.find? (fun u => u.sent.isNone && !u.isCellOut) with
    | none => s
    | some u =>
      if linkLive s && !cellOutWaits s && decide (unacked s < 32) && !idleDueUp s then sendUp t u e (markSent u.seq s) else s)

/-- UNACKED_RESEND: the oldest frame that has stayed unacknowledged for 8 frame times is sent again (R234); an EVENT waits for an
IDLE that is due (R231). -/
def execUnackedResend (t : Nat) (e : LineErr) (s : State) : Host.Outcome State Fault Refusal :=
  let s := toL t s
  .next (match resendDue s with
    | none => s
    | some u =>
      if linkLive s && (u.isCellOut || (!cellOutWaits s && !idleDueUp s)) then sendUp t u e (bump (ctr 0x09 5) (markSent u.seq s)) else s)

/-- IDLE_FRAME: an IDLE of the up or the down direction, with device time: ahead of every other type once it is due, else with
nothing else to send (R230, R231). -/
def execIdleFrame (t : Nat) (up : Bool) (e : LineErr) (s : State) : Host.Outcome State Fault Refusal :=
  let s := toL t s
  .next (if up then
      if cellOutWaits s || ((eventWaits s || startMarkWaits s) && !idleDueUp s) then s
      else upFrame t true .idle (idlePayload 0 s.pNow) e (fun _ s => s) (modP (fun p => { p with idleAt := s.pNow }) s)
    else if (setPointWaits s || configWaits s || markWaits s) && !idleDueDown s then s
    else downFrame t true .idle (idlePayload s.weft.ack s.now) e (fun _ s => s) (modWeft (fun w => { w with idleAt := s.now }) s))

/-- The next odd down frame may be a MARK (R231). -/
def markMay (s : State) : Bool := !idleDueDown s && !setPointWaits s && !configWaits s

/-- A time exchange measures by how much the P-die's copy of device time differs from the L-die's: the P-die slews the difference
away from now on, and never steps (R20, R238). -/
def slewP (s : State) : State := modP (fun p => { p with slewFrom := s.now, slewBy := (s.now : Int) - (s.pNow : Int) }) s

/-- The P-die answers a mark of code c with its own (R230). -/
def markUp (c : MarkCode) (content : Nat) (s : State) : State :=
  upFrame s.now true .mark (markPayload 0 c.code content) {} (fun _ s => s) s

/-- TIME_EXCHANGE: the mark of a refresh cycle's exchange keeps the P-die's copy of device time aligned, and its answer comes up
(R230, R238). -/
def execTimeExchange (t : Nat) (e : LineErr) (s : State) : Host.Outcome State Fault Refusal :=
  let s := toL t s
  .next (if !markMay s then s
    else downFrame t true .mark (markPayload s.weft.ack MarkCode.timeExchange.code 0) e (fun p s =>
      if pfld 41 38 p = MarkCode.timeExchange.code && obeys s then markUp .timeExchange 0 (slewP s) else s) s)

/-- LADDER_RELEASE: the release mark of a pause timed by the L-die goes into an odd down frame with its cell (R209, R230). -/
def execLadderRelease (m : MarkAt) (n : Nat) (s : State) : Host.Outcome State Fault Refusal :=
  let s := toL m.t s
  .next (if !linkLive s || !s.loom.releases.contains n || !markMay s then s
    else downFrame m.t true .mark (markPayload s.weft.ack MarkCode.ladderRelease.code n) m.line (fun p s =>
      if pfld 41 38 p = MarkCode.ladderRelease.code && obeys s then
        pauseOver (pfld 37 0 p) (modLoom (fun l =>
          { l with releases := l.releases.filter (fun x => x != n), view := upd l.view n (fun c => { c with due := true }) }) s)
      else s) s)

/-! ### The fail-safe memory (R247, R251) -/

/-- FS_MEMORY_VERIFIED: the write of an entry of the fail-safe memory has been verified in both copies, or has failed
three times: entry w is skein w, 48 HOLD, 49 and 50 the choices of the matrix ports. The P-die reports it (R243, R251,
R300). -/
def execFsMemoryVerified (t w : Nat) (ok : Bool) (s : State) : Host.Outcome State Fault Refusal :=
  let s := toP t s
  .next (if s.pdie.sup == .reset then s
    else if w < 48 then
      match (nth s.pdie.fs w).writing with
      | none => s
      | some c =>
        pushUp (.failSafe w ok) (modP (fun p => { p with fs := upd p.fs w (fun e =>
          if ok then { writeFs c e with command := false } else { e with writing := none, command := false }) }) s)
    else if w = 48 then
      match s.pdie.fsHoldNew with
      | none => s
      | some v => pushUp (.fsWord 48 ok) (modP (fun p => { p with fsHold := if ok then v else p.fsHold, fsHoldNew := none }) s)
    else
      match nth s.pdie.fsPortNew (w - 49) with
      | none => s
      | some v =>
        pushUp (.fsWord w ok) (modP (fun p =>
          { p with fsPort := if ok then put p.fsPort (w - 49) v else p.fsPort, fsPortNew := put p.fsPortNew (w - 49) none }) s))

/-- FS_MODE is permitted for skein k (R248); an actuator-owned skein permits OFF and HOLD alone (R269). -/
def fsPermitted (k mode : Nat) (s : State) : Bool :=
  let d := defL k s
  let primary := (chainOf k s).any (fun j => !(chainE j s).secondary)
  if d.owner == 2 then mode == 0 || mode == 4
  else match mode with
  | 0 => true
  | 1 => !d.leg
  | 2 => !d.static && !d.leg
  | 3 => d.mode == 1 || d.mode == 2
  | 4 => !d.leg && !primary
  | 5 => pairedL k s && leaderL k s == k
  | _ => false

/-- The payload of FAILSAFE_SET is valid for skein k (R251). -/
def failsafeOk (k : Nat) (w0 w1 : Word) (s : State) : Bool :=
  let d := defL k s
  let mode := fld 2 0 w0
  let pm := fld 9 0 w1
  d.defined && onlyBits 7 w0 && fsPermitted k mode s && decide (pm ≤ 1000) && (!d.static || pm == 0 || pm == 1000) &&
    (mode != 3 || (fld 23 16 w1 != 0 && fld 31 24 w1 != 0)) && onlyBits 0xFFFF03FF w1

/-- FAILSAFE_SET of skein k (R251). -/
def failsafeSet (k : Nat) (w0 w1 : Word) (s : State) : State × Ans :=
  if !failsafeOk k w0 w1 s then (s, .fail .badObject [])
  else if !linkLive s then (s, .fail .faultActive [])
  else
    let s := pushCfg' (.failSafe k (fld 2 0 w0) w1) s
    (nvStarts k s, .wait (.failSafe k) true [])

/-- FAILSAFE_SET as the interpreter knows it. -/
def infoFailsafeSet : OpInfo :=
  { op := 0x0206, len := lenIs 2, obj := fun r _ => loadOk r
    run := fun e s => failsafeSet (skeinOf e.req) (arg e.req 0) (arg e.req 1) s }

/-- FAILSAFE_SET (R251). -/
def execFailsafeSet (r : Req) (s : State) : Host.Outcome State Fault Refusal := .next (command infoFailsafeSet r s)

/-! ### Registers (R252) -/

/-- STATE of WEFT_STAT. -/
def linkCode : LinkState → Nat
  | .down => 0 | .training => 1 | .adopt => 2 | .live => 3

/-- WEFT_STAT. -/
def weftStat (s : State) : Word :=
  let w := s.weft
  pack [(16, w.latency), (11, b2n w.fsApplied), (10, b2n w.coldFs), (9, b2n w.tamper), (8, b2n w.warm),
    (4, b2n w.silenceSeen), (0, linkCode w.state)]

/-- The WEFT block at an offset. -/
def readWeft (off : Nat) (s : State) : Option Word :=
  let w := s.weft
  if off = 0 then some (pack [(16, w.hold)])
  else if off = 4 then some (weftStat s)
  else if off = 8 then some (pack [(31, b2n w.lastExpired), (0, min 65535 w.lastHold)])
  else if off = 0xC then some (pack [(1, b2n w.nvFail), (0, b2n (w.nvPend != 0))])
  else if 0x1000 ≤ off ∧ off < 0x1180 then
    let (valid, mode, val) := nth w.fsView ((off - 0x1000) / 8)
    if off % 8 = 0 then some (pack [(31, b2n valid), (0, mode)]) else some val
  else none

/-- The HOLD that a CONFIG item writes. -/
def CfgItem.holdWord : CfgItem → Option Word
  | .hold n => some (word n)
  | _ => none

/-- HOLD as it will stand once every write on its way is in force. -/
def holdComing (s : State) : Word := comingWord CfgItem.holdWord (word s.weft.hold) s

/-- HOLD written: it goes to the P-die and its fail-safe memory (R243). A value above 1,000 is ignored. -/
def writeHold (ms : Nat) (s : State) : State × Ans :=
  if 1000 < ms ∨ word ms = holdComing s then (s, .done [])
  else if !linkLive s then (s, .fail .faultActive [])
  else
    let (id, s) := pushCfg (.hold ms) s
    (nvStarts 48 s, .wait (.echo id) false [])

/-- RETRAIN: the L-die stops the down frames and retrains (R252). -/
def retrain (s : State) : State :=
  syncAllTrx (startTraining (if s.weft.state == .live then linkDown s else s))

/-- A write to the WEFT block (R252). -/
def writeWeft (off : Nat) (v : Word) (s : State) : State × Ans :=
  if off = 0 then
    let (s, a) := writeHold (fld 25 16 v) s
    if bit 0 v then (retrain s, if (match a with
      | .wait _ _ _ => true
      | _ => false) then .fail .faultActive [] else a)
    else (s, a)
  else if off = 4 then
    (modWeft (fun w => { w with fsApplied := w.fsApplied && !bit 11 v, silenceSeen := w.silenceSeen && !bit 4 v }) s, .done [])
  else if off = 0xC then (modWeft (fun w => { w with nvFail := w.nvFail && !bit 1 v }) s, .done [])
  else (s, .done [])

/-- The W1C bits of the WEFT block (R102). -/
def w1cWeft (off : Nat) : Word := if off = 4 then 0x810 else if off = 0xC then 2 else 0

end Sys2Proof.Machine
end

