-- ==== Sys2Proof/Machine/Reel.lean ====
section
/-! DEFINITION. The Reel: counters as an index names them, snapshot sets, SNAP_TAKE, SNAP_READ, SNAP_RELEASE and
COUNTER_READ, and the REEL registers (R108 to R114). -/

namespace Sys2Proof.Machine

/-! ### Counters -/

/-- The counters that the always-on retention domain holds: only an L-die power-on resets them (R467, R527, R556, R593). -/
def retainedCounter (i : Nat) : Bool :=
  let n := i % 65536
  match i / 65536 with
  | 0x0C => n == 5 || n == 6
  | 0x0E => n == 5 || n == 6
  | 0x0F => true
  | 0x10 => true
  | _ => false

/-- The counters of a counter channel, by their number in its group of four (R338). -/
def countWord (c : CountP) (j : Nat) : Nat :=
  match j with
  | 0 => c.count % 2 ^ 32
  | 1 => c.period
  | 2 => c.last
  | _ => 0

/-- The value that a counter has at the present tick, where it is held (R108). The counters of cells and of counter channels are
the values that these hold (R150, R338). -/
def counterNow (i : Nat) (s : State) : Nat :=
  let n := i % 65536
  match i / 65536 with
  | 0x04 => if n < 0x180 then counterCell n s else s.counters.get i
  | 0x08 => if n < 32 then countWord (nth s.pdie.fio.counts (n / 4)) (n % 4) else s.counters.get i
  | _ => s.counters.get i

/-- The live value of counter index i on the L-die (R111). How old the L-die's copy of a counter held on the P-die may be, the spec
does not say: ONTIME and EDGES are those of the last readback, the others the present ones while the link is LIVE; with the link not
LIVE, each stands as it did when the link left LIVE (R19; DESIGN CHOICE, log entry 81). -/
def counterValue (i : Nat) (s : State) : Nat :=
  let n := i % 65536
  if linkLive s || !pdieCounter i then counterNow i s
  else match i / 65536 with
    | 0x04 => if n < 0x180 then counterCell n s else s.weft.counterView.get i
    | 0x08 => if n < 32 then countWord (nth s.fio.counts (n / 4)) (n % 4) else s.weft.counterView.get i
    | _ => s.weft.counterView.get i

/-- The block of a counter index exists (R99, R111). -/
def counterBlock (i : Nat) : Bool := i / 65536 ≤ 0x11

/-- The words from counter index i on. Past the end of the block of the first index they read 0: the spec does not say what a run
that crosses it reads (DESIGN CHOICE, log entry 80; R111). -/
def counterWords (f : Nat → Nat) (i n : Nat) : List Word :=
  (List.range n).map (fun j => if (i + j) / 65536 = i / 65536 then word (f (i + j)) else 0)

/-- The counters latched at the present tick: those of the P-die where the link is LIVE (R110). -/
def latchCounters (s : State) : Table :=
  let live := linkLive s
  let base := s.counters.filter (fun p => live || !pdieCounter p.1)
  if !live then base
  else
    let put := fun (t : Table) (i : Nat) => t.set i (counterValue i s)
    let t := (List.range 0x180).foldl (fun t n => put t (ctr 0x04 n)) base
    (List.range 32).foldl (fun t n => put t (ctr 0x08 n)) t

/-! ### Sets -/

/-- Set n of the Reel. -/
def reelSet (n : Nat) (s : State) : ReelSet := nth s.host.reel.sets n

/-- Set n changed by f. -/
def modSet (n : Nat) (f : ReelSet → ReelSet) (s : State) : State := modReel (fun r => { r with sets := upd r.sets n f }) s

/-- Set x is pending: held, with its latch tick to come, or at that tick not yet latched (R108). -/
def setPending (x : ReelSet) (s : State) : Bool := x.pending && (x.armed || decide (s.now < x.tick))

/-- The automatic lead of a SNAP_TAKE (R108). -/
def snapLead (chain : Bool) : Nat := if chain then 4000 else 400

/-- The latch tick of a SNAP_TAKE accepted at tick t: the automatic one, or the next occurrence of the given low word. -/
def latchTick (t : Nat) (r : Req) : Nat :=
  match r.payload with
  | [] => t + snapLead (r.object.getLsbD 8)
  | w :: _ => t + (w.toNat + 2 ^ 32 - t % 2 ^ 32) % 2 ^ 32

/-- The acceptance of a SNAP_TAKE: the latch tick is fixed and the set held. The entry keeps what was found: 0 held, 1 the
set was held already, 2 the given tick is out of range; and the tick (R108). Where both hold, the spec orders neither check:
the tick is looked at first, and the answer is BAD_OBJECT (DESIGN CHOICE, log entry 93). -/
def snapAccept (e : Entry) (s : State) : State :=
  let r := e.req
  let n := obj r % 4
  let chain := r.object.getLsbD 8
  let t := latchTick e.accepted r
  let bad := t < e.accepted + snapLead chain || e.accepted + 200000000 < t
  let busy := (reelSet n s).held
  let keep := fun (c : Nat) => modEntry e (fun x => { x with data := word c :: natToWords 2 t })
  if bad then keep 2 s
  else if busy then keep 1 s
  else keep 0 (modSet n (fun _ => { held := true, pending := true, chain := chain, tick := t }) s)

/-- A set released. What REEL_SETs_TICK and REEL_SETs_INFO read after it, the spec says for an L-die reset alone (R87): they read
as at reset (DESIGN CHOICE, log entry 93; R111). -/
def releaseSet (n : Nat) (s : State) : State := modSet n (fun _ => {}) s

/-- SNAP_TAKE past its commit point (R108, R109). -/
def snapTake (e : Entry) (s : State) : State × Ans :=
  let n := obj e.req % 4
  let chain := e.req.object.getLsbD 8
  let t := wordsToNat (e.data.drop 1)
  match (wordAt e.data 0).toNat with
  | 0 =>
    if t < s.now + snapLead chain then (releaseSet n s, .fail .badObject [])
    else
      let s := if chain && (plyOf 1 s).state == .up && !(plyOf 1 s).orderErr then
          modChainSt (fun c => { c with sentMark := some (n, t) }) s else s
      let s := modSet n (fun x => { x with armed := true }) s
      (s, .wait (.latch n t) (e.accepted + 200000 < t) (natToWords 2 t))
  | 1 => (s, .fail .busy [])
  | _ => (s, .fail .badObject [])

/-- OBJECT of SNAP_TAKE: a set, with the chain bit only on device 0 (R108). -/
def snapObj (r : Req) (s : State) : Bool :=
  r.object &&& ~~~ 0x103 == 0 && (!r.object.getLsbD 8 || s.deviceId == 0)

/-- SNAP_TAKE as the interpreter knows it. -/
def infoSnapTake : OpInfo :=
  { op := 0x0C00, len := lenBetween 0 1, obj := snapObj, onAccept := snapAccept, run := snapTake }

/-- SNAP_TAKE (R108). -/
def execSnapTake (r : Req) (s : State) : Host.Outcome State Fault Refusal := .next (command infoSnapTake r s)

/-- OBJECT names a set. -/
def setObj (r : Req) (_ : State) : Bool := obj r ≤ 3

/-- The index and the count of SNAP_READ and COUNTER_READ are in range (R111). -/
def countArgs (r : Req) : Bool :=
  counterBlock (arg r 0).toNat && 1 ≤ (arg r 1).toNat && (arg r 1).toNat ≤ 256

/-- SNAP_READ (R111). Of a pending set and a first index or a count out of range, the spec orders neither check: BAD_OBJECT comes
before BUSY (DESIGN CHOICE, log entry 93). -/
def snapRead (r : Req) (s : State) : State × Ans :=
  let x := reelSet (obj r) s
  if !x.held || !countArgs r then (s, .fail .badObject [])
  else if setPending x s then (s, .fail .busy [])
  else if x.pending then
    -- its SNAP_TAKE was aborted, and nothing latched: the spec gives no counters for it (R113, log entry 79)
    let (l, s) := freeWords (arg r 1).toNat s
    (s, .done l)
  else (s, .done (counterWords x.counters.get (arg r 0).toNat (arg r 1).toNat))

/-- SNAP_READ as the interpreter knows it. -/
def infoSnapRead : OpInfo :=
  { op := 0x0C01, len := lenIs 2, obj := setObj, run := fun e s => snapRead e.req s }

/-- SNAP_READ (R111). -/
def execSnapRead (r : Req) (s : State) : Host.Outcome State Fault Refusal := .next (command infoSnapRead r s)

/-- SNAP_RELEASE (R111). -/
def snapRelease (n : Nat) (s : State) : State × Ans :=
  if setPending (reelSet n s) s then (s, .fail .busy []) else (releaseSet n s, .done [])

/-- SNAP_RELEASE as the interpreter knows it. -/
def infoSnapRelease : OpInfo :=
  { op := 0x0C02, len := lenIs 0, obj := setObj, run := fun e s => snapRelease (obj e.req) s }

/-- SNAP_RELEASE (R111). -/
def execSnapRelease (r : Req) (s : State) : Host.Outcome State Fault Refusal := .next (command infoSnapRelease r s)

/-- COUNTER_READ (R111). -/
def counterRead (r : Req) (s : State) : State × Ans :=
  if !countArgs r then (s, .fail .badObject [])
  else (s, .done (counterWords (fun i => counterValue i s) (arg r 0).toNat (arg r 1).toNat))

/-- COUNTER_READ as the interpreter knows it. -/
def infoCounterRead : OpInfo :=
  { op := 0x0C03, len := lenIs 2, run := fun e s => counterRead e.req s }

/-- COUNTER_READ (R111). -/
def execCounterRead (r : Req) (s : State) : Host.Outcome State Fault Refusal := .next (command infoCounterRead r s)

/-! ### The latch (R109, R110) -/

/-- The event SNAPSHOT_DONE (R109). -/
def snapshotDone (set status : Nat) (err : Int) (s : State) : State :=
  postEvent 0xF0D [word set, word status, word (unsigned 32 err)] s

/-- The next latch: set, tick, of the sets whose SNAP_TAKE is past its commit point or that a chain mark holds, and the
refusal of a mark that waits to be reported then. -/
def nextLatch (s : State) : Option (Nat × Nat × Option Nat) :=
  let sets := ((List.range 4).filter (fun n => (reelSet n s).pending && (reelSet n s).armed)).map (fun n => (n, (reelSet n s).tick, none))
  let marks := s.host.reel.refused.map (fun m => (m.set, m.tick, some m.status))
  (sets ++ marks).foldl (fun acc x =>
    match acc with
    | none => some x
    | some y => if x.2.1 < y.2.1 then some x else some y) none

/-- The snapshot mark of set n goes down, and the P-die's comes up (R110, R230). -/
def snapshotMark (n : Nat) (s : State) : State :=
  if !linkLive s then s else downFrame s.now true .mark (markPayload s.weft.ack MarkCode.snapshot.code n) {} (fun _ s => markUp .snapshot n s) s

/-- Set n latches its counters at the present tick (R109, R110). -/
def latchSet (n : Nat) (s : State) : State :=
  let x := reelSet n s
  let s := snapshotMark n s
  let s := if linkLive s then
      let s := (List.range 48).foldl (fun s k => accrue k s) s
      modLoom (fun l => { l with view := Vector.ofFn (fun (i : Fin 96) =>
        { (nth l.view i.val) with onTicks := (cellP i.val s).onTicks, edges := (cellP i.val s).edges }) }) s
    else s
  let err := if x.chain then s.host.chain.alignErr else 0
  let s := modSet n (fun y =>
    { y with pending := false, pdieMissing := !linkLive s, alignErr := err, counters := latchCounters s }) s
  let s := if x.chain then snapshotDone n 0 err s else s
  completeAll (.latch n x.tick) .done (fun e => e.data) s

/-! ### Registers (R114) -/

/-- The bits of the sets that p picks. -/
def setBits (p : ReelSet → Bool) (s : State) : Nat := bitsOf ((List.range 4).filter (fun n => p (reelSet n s)))

/-- The REEL block at an offset. -/
def readReel (off : Nat) (s : State) : Option Word :=
  if off = 0 then
    some (pack [(16, alignPending s), (12, setBits (fun x => setPending x s) s), (8, setBits (fun x => x.pdieMissing) s),
      (4, setBits (fun x => x.chain) s), (0, setBits (fun x => x.held) s)])
  else if 0x10 ≤ off ∧ off < 0x50 then
    let x := reelSet ((off - 0x10) / 0x10) s
    match off % 0x10 with
    | 0 => some (word x.tick)
    | 4 => some (word (x.tick / 2 ^ 32))
    | 8 => some (pack [(16, unsigned 16 x.alignErr), (0, s.deviceId % 4)])
    | _ => none
  else none

end Sys2Proof.Machine
end

