-- ==== Sys2Proof/Machine/Power.lean ====
section
/-! DEFINITION. The clock and power manager (chapter 18): root source and PLL, clock gating, wake sources, the regulator
port, and the CLKPWR registers. The entry into the low-power states stands in Entry.lean, the restore in Start.lean. -/

namespace Sys2Proof.Machine

/-- The clock and power manager changed by f. -/
def modClk (f : ClkSt → ClkSt) (s : State) : State := { s with clk := f s.clk }

/-! ### Status words (R591) -/

/-- Spread is applied: enabled, in native mode, not in COAST (R567). -/
def sscOn (s : State) : Bool := bit 31 s.clk.ssc && !s.clk.modeAct && !s.clk.coast

/-- CLK_STAT. -/
def clkStat (s : State) : Word :=
  let c := s.clk
  pack [(9, b2n c.switch.isSome), (8, b2n c.deadSrc), (7, b2n c.coast), (6, b2n c.locked), (5, b2n c.xtalOk),
    (4, b2n c.xtalBad), (3, b2n (sscOn s)), (2, b2n c.xtalAbsent), (1, b2n c.modeAct), (0, b2n c.rootRc)]

/-- PWR_STAT. -/
def pwrStat (s : State) : Word :=
  pack [(16, s.clk.lastAp), (8, (s.clk.entry.map (fun e => e.target)).getD 7), (0, s.clk.power)]

/-- REG_STAT. -/
def regStat (s : State) : Word := pack [(16, s.clk.regLast), (8, s.clk.regRail), (0, s.clk.regFail)]

/-- The two words of POWER_STATE (R590). -/
def powerWords (state reason ap wakes : Nat) (s : State) : List Word :=
  [pack [(16, wakes), (8, ap), (4, reason), (0, state)], clkStat s]

/-- The event POWER_STATE (R590). -/
def powerEvent (reason ap wakes : Nat) (s : State) : State :=
  postEvent 0xF0C (powerWords s.clk.power reason ap wakes s) s

/-! ### The root source (R557 to R566) -/

/-- Controller k stops with its unit's or its root's clock: queued frames leave with reason POWER, and a STATE event is
raised (R369, R561, R563). -/
def stopForClock (k : Nat) (s : State) : State :=
  let s := dropFrames k 5 (fun _ => true) s
  if (canCtl k s).state == .stopped then s else stateEvent k (stopCtl k s)

/-- The link of MAC m goes down with its clock (R563, R566). -/
def macLinkDown (m : Nat) (s : State) : State :=
  if (macOf m s).link then raiseIso (12 + m) (modMac m (fun x => { x with link := false, rate := 0 }) s) else s

/-- The controllers and the MACs lose their bit timing (R563, R566). -/
def stopForRoot (s : State) : State :=
  macLinkDown 1 (macLinkDown 0 ((List.range 12).foldl (fun s k => stopForClock k s) s))

/-- The controllers return through INTEGRATING once the root carries them again (R345, R563). -/
def resumeForRoot (s : State) : State :=
  (List.range 12).foldl (fun s k => if (canCtl k s).state == .stopped then startCtl k s else s) s

/-- XI_MEASUREMENT: 100 µs of XI against the RC: outcome 0 within ±3 % of 40 MHz, 1 no edge at all, any other value a
failure (R557). At a start with PREF 0 it selects the root; before a switch to the crystal it lets the switch go on or
has the write ignored (R565). -/
def execXiMeasurement (t outcome : Nat) (s : State) : Host.Outcome State Fault Refusal :=
  let s := toL t s
  let note := modClk (fun c =>
    { c with xtalOk := outcome == 0, xtalAbsent := outcome == 1, xtalBad := outcome != 0 && outcome != 1 })
  .next (match s.clk.switch with
    | some (false, true) =>
      if outcome = 0 then modClk (fun c => { c with switch := some (false, false) }) (note s)
      else modClk (fun c => { c with switch := none, sel := c.rootRc, xtalBad := true }) (note s)
    | _ =>
      if s.ldie != .starting || s.clk.step != .released || s.clk.pref || s.clk.xtalOk || s.clk.xtalAbsent || s.clk.xtalBad then s
      else
        let s := note s
        if outcome = 0 then modClk (fun c => { c with rootRc := false }) s
        else if outcome = 1 then s
        else reportL 0x202 0xFF s)

/-- ROOT_FAILURE: the reference monitor declares the root failed, and the PLL coasts at half frequency (R562, R563). -/
def execRootFailure (t : Nat) (s : State) : Host.Outcome State Fault Refusal :=
  let s := toL t s
  .next (if !ldieUp s || s.clk.coast then s
    else
      let s := bump (ctr 0x10 0) (modClk (fun c => { c with coast := true, locked := false, coastAt := s.now }) s)
      let s := powerEvent 3 0 0 (reportL 0x200 0xFF s)
      let s := stopForRoot s
      let s := (List.range 2).foldl (fun s p =>
        if (plyOf p s).state == .up then modPly p (fun x => { x with state := .training }) s else s) s
      fallbackFor (fun _ => true) (if s.deviceId = 0 then s else setAligned false s))

/-- AUTO_RC_SWITCH: 200,000 ticks after COAST began the device switches to the RC on its own (R564). -/
def execAutoRcSwitch (s : State) : Host.Outcome State Fault Refusal :=
  .next (if s.clk.coast && bit 1 s.clk.ctl && s.clk.switch.isNone && ldieUp s then
      modClk (fun c => { c with switch := some (true, false), sel := true }) (toL (s.clk.coastAt + 200000) s)
    else s)

/-- ROOT_SWITCH_LOCK: the PLL has relocked after a root switch; forced tells that the outgoing source showed no edge
(R565). -/
def execRootSwitchLock (t : Nat) (forced : Bool) (s : State) : Host.Outcome State Fault Refusal :=
  let s := toL t s
  .next (match s.clk.switch with
    | some (rc, false) =>
      if !ldieUp s then s
      else
        let s := bump (ctr 0x10 1) (modClk (fun c =>
          { c with switch := none, rootRc := rc, sel := rc, coast := false, locked := true, deadSrc := c.deadSrc || forced }) s)
        let s := if forced then bump (ctr 0x10 2) (reportL 0x201 0xFF s) else s
        let s := powerEvent 4 0 0 s
        if rc then stopForRoot (if s.deviceId = 0 then s else setAligned false s) else resumeForRoot s
    | _ => s)

/-- PLL_LOCK_LOSS: the PLL loses lock while its reference is present; CLK_LOCK (R592). -/
def execPllLockLoss (t : Nat) (s : State) : Host.Outcome State Fault Refusal :=
  let s := toL t s
  .next (if !ldieUp s || s.clk.coast || !s.clk.locked then s
    else reportL 0x203 0xFF (modClk (fun c => { c with locked := false }) s))

/-! ### Clock gating (R561, R587) -/

/-- The condition of unit u before its clock closes, as far as the device's state shows it (R561). -/
def unitIdle (u : Nat) (s : State) : Bool :=
  if u = 15 then s.range.run.isNone
  else if u = 16 then s.light.engines.toList.all (fun e => e.state == .idle || e.state == .faulted)
  else true

/-- What a unit does as its clock closes (R561). -/
def closeUnit (u : Nat) (s : State) : State :=
  if u < 12 then stopForClock u s else if u < 14 then macLinkDown (u - 12) s else s

/-- UNIT_GATE_CLOSED: the handshake of unit u is idle and its own condition met: its pending close takes effect (R561). -/
def execUnitGateClosed (t u : Nat) (s : State) : Host.Outcome State Fault Refusal :=
  let s := toL t s
  .next (if 17 ≤ u || !s.clk.gatePend.testBit u || !unitIdle u s || !ldieUp s then s
    else modClk (fun c => { c with gate := setPin c.gate u true, gatePend := setPin c.gatePend u false }) (closeUnit u s))

/-- The unit of a host port (R561). -/
def portUnit (p : Port) : Option Nat :=
  match p with
  | .qspi => some 14 | .mac0 => some 12 | .mac1 => some 13 | _ => none

/-- CLK_GATE (R587). -/
def clkGate (r : Req) (s : State) : State × Ans :=
  let close := arg r 0
  let opn := arg r 1
  if close &&& opn != 0 || !onlyBits 0x1FFFF close || !onlyBits 0x1FFFF opn then (s, .fail .badObject [])
  else if ((portUnit r.port).map (fun u => bit u close)).getD false then (s, .fail .notPermitted [])
  else
    let shut := s.clk.gate
    let s := modClk (fun c =>
      { c with gate := c.gate - (c.gate &&& opn.toNat)
               gatePend := (c.gatePend - (c.gatePend &&& opn.toNat)) ||| (close.toNat - (close.toNat &&& c.gate)) }) s
    let s := (List.range 12).foldl (fun s k => if bit k opn && shut.testBit k then startCtl k s else s) s
    (s, .done [])

/-- CLK_GATE as the interpreter knows it. -/
def infoClkGate : OpInfo := { op := 0x0B02, len := lenIs 2, obj := objZero, run := fun e s => clkGate e.req s }

/-- CLK_GATE (R587). -/
def execClkGate (r : Req) (s : State) : Host.Outcome State Fault Refusal := .next (command infoClkGate r s)

/-- CLK_STATUS as the interpreter knows it (R586). -/
def infoClkStatus : OpInfo :=
  { op := 0x0B01, len := lenIs 0, obj := objZero
    run := fun _ s => (s, .done [clkStat s, word s.clk.gate, pwrStat s, word s.clk.wakeSrc, regStat s]) }

/-- CLK_STATUS (R586). -/
def execClkStatus (r : Req) (s : State) : Host.Outcome State Fault Refusal := .next (command infoClkStatus r s)

/-! ### Wake sources (R574 to R576) -/

/-- The wake configuration as it will stand once every item on its way is in force: PWR_WAKE_EN, PWR_WAKE_PIN.EDGE and
PWR_WAKE_TIMER. A write of one of the three words leaves the other two as they will stand (R7). -/
def wakeComing (s : State) : Word × Nat × Nat :=
  s.weft.cfg.foldl (fun w c => match c.item with
    | .wake en edge timer => (en, edge, timer)
    | _ => w) (s.clk.wakeEn, s.clk.wakeEdge, s.clk.wakeTimer)

/-- EDGE with a new value written over it: the field of a WAKE ball that is given 0 keeps its value (R591, R630). -/
def edgeWritten (old new : Nat) : Nat :=
  (writeFields [rwIn 1 0 1 3, rwIn 3 2 1 3, rwIn 5 4 1 3, rwIn 7 6 1 3] (word old) (word new)).toNat

/-- WAKE_CFG: PWR_WAKE_PIN.LEVEL is read-only, not reserved, and ignored (R8, R588, R591). -/
def wakeCfg (r : Req) (s : State) : State × Ans :=
  let en := arg r 0
  let pin := arg r 1
  let timer := arg r 2
  if !onlyBits 0x3FFF en || !onlyBits 0xF00FF pin || 86400 < timer.toNat then (s, .fail .badObject [])
  else writeP (.wake en (edgeWritten (wakeComing s).2.1 (fld 7 0 pin)) timer.toNat) s

/-- WAKE_CFG as the interpreter knows it. -/
def infoWakeCfg : OpInfo := { op := 0x0B03, len := lenIs 3, obj := objZero, run := fun e s => wakeCfg e.req s }

/-- WAKE_CFG (R588). -/
def execWakeCfg (r : Req) (s : State) : Host.Outcome State Fault Refusal := .next (command infoWakeCfg r s)

/-- The sources that act in a target or present state, as bits: 2 SLEEP, 3 DEEP SLEEP, 4 OFF (R574). -/
def wakeActs (state : Nat) : Nat := if state = 4 then 0x000F else if state = 3 then 0x2FFF else 0x3FFF

/-- What the device shows of the request of wake source src, where it holds it: a transceiver's or a field pin's request, a
timer set, a packet that waits on a Ply port, the tamper flag (R574). -/
def wakeRequested (src : Nat) (s : State) : Bool :=
  if src < 4 then s.pdie.sup != .reset
  else if src ≤ 10 then s.pdie.wakeReq.testBit src || s.clk.wakeHeard.testBit src
  else if src = 11 then s.clk.wakeTimer != 0 && decide (2 ≤ s.clk.power)
  else if src = 12 then
    !(nth s.host.ports 3).input.isEmpty || !(nth s.host.ports 4).input.isEmpty
  else src == 13 && s.pdie.tamper

/-- The P-die wakes from DEEP SLEEP or OFF: outputs stay off, HOLD counts from the wake tick, device time is no longer warm,
and the pins are sampled again (R329, R576). -/
def wakePDie (s : State) : State :=
  restartDebounce (modP (fun p =>
    { p with sup := .woken, power := 0, target := 0, wakeReq := 0, warm := false, silentAt := none, wasLive := false, lived := false
             expiry := some (s.pNow + p.hold * 200000) }) s)

/-- WAKE_LATCH: wake source src acts; up is the direction of an edge on a WAKE ball. An enabled source latches from the
dispatch of a PWR_STATE_REQ on, and outside RUN and IDLE it starts the restore (R571, R574, R577). -/
def execWakeLatch (t src : Nat) (up : Bool) (s : State) : Host.Outcome State Fault Refusal :=
  let s := toP t s
  let s := if src < 4 then modClk (fun c => { c with wakeLevel := setPin c.wakeLevel src up }) s else s
  let edge := (s.clk.wakeEdge >>> (2 * src)) % 4
  let edgeOk := 4 ≤ src || (up && (edge == 1 || edge == 3)) || (!up && (edge == 2 || edge == 3))
  let listens := s.clk.entry.isSome || 2 ≤ s.clk.power
  .next (if 14 ≤ src || !listens || !edgeOk || !bit src s.clk.wakeEn ||
        !(wakeActs ((s.clk.entry.map (fun e => e.target)).getD s.clk.power)).testBit src ||
        !wakeRequested src s then s
    else
      let s := modP (fun p => { p with wakeReq := setPin p.wakeReq src false }) s
      let s := modClk (fun c =>
        { c with wakeHeard := setPin c.wakeHeard src false, wakeSrc := setPin c.wakeSrc src true, entry := c.entry.map (fun e => { e with latched := setPin e.latched src true }) }) s
      if s.clk.power < 2 || s.clk.waking then s
      else
        let s := modClk (fun c => { c with waking := true }) s
        if s.clk.power = 2 then s else wakePDie s)

/-! ### The regulator port (R580 to R583) -/

/-- A VOUT_COMMAND value in linear format: round(V × 2^(−VEXP)) for a voltage in mV (R580). -/
def voutValue (mv : Nat) (vexp : Int) : Nat :=
  if vexp ≤ 0 then (mv * 2 ^ vexp.natAbs + 500) / 1000 else (mv + 500 * 2 ^ vexp.natAbs) / (1000 * 2 ^ vexp.natAbs)

/-- The VCORE request of REG_VCORE.SET (R583). -/
def vcoreRequest (s : State) : RegReq :=
  { rail := 0, kind := .vout (voutValue (855 + 5 * s.clk.regVcore) (signed 5 (fld 4 0 s.clk.regCfg)) % 65536) }

/-- A request waits at the port (R581). -/
def pushReg (q : RegReq) (s : State) : State := modClk (fun c => { c with reqs := c.reqs ++ [q] }) s

/-- STATUS_WORD shows what a request asks for (R581). -/
def regMet (k : RegKind) (status : Nat) : Bool :=
  match k with
  | .off => status.testBit 6
  | _ => !status.testBit 11 && !status.testBit 6 && !status.testBit 15

/-- What is left to acknowledge after a request: in OFF, once VAUX is off or given up, VCORE and VIO are sent OPERATION 0x40
with no acknowledgement (R582). -/
def offRails (power : Nat) (rest : List RegReq) : List RegReq := if power = 4 then [] else rest

/-- REG_REQUEST_ACKNOWLEDGED: STATUS_WORD shows the condition of the request in progress (R581). -/
def execRegRequestAcknowledged (t status : Nat) (s : State) : Host.Outcome State Fault Refusal :=
  let s := toL t s
  .next (match s.clk.reqs with
    | [] => s
    | q :: rest => if regMet q.kind status then modClk (fun c => { c with reqs := offRails c.power rest }) s else s)

/-- REG_REQUEST_TIMEOUT: the request in progress has not been met within 1 ms: it is repeated, and after the third timeout
PWR_REG is reported, and the transition goes on without it (R581). -/
def execRegRequestTimeout (t status : Nat) (s : State) : Host.Outcome State Fault Refusal :=
  let s := toL t s
  .next (match s.clk.reqs with
    | [] => s
    | q :: rest =>
      let s := bump (ctr 0x10 3) s
      if q.tries < 2 then modClk (fun c => { c with reqs := { q with tries := q.tries + 1 } :: rest }) s
      else
        let s := modClk (fun c =>
          { c with reqs := offRails c.power rest, regLast := status % 65536, regRail := q.rail, regFail := setPin c.regFail q.rail true }) s
        powerEvent 5 0 0 (reportL 0x204 q.rail s))

/-- The poll of each rail's STATUS_WORD at a management tick: a fault bit reports PWR_RAIL once per episode (R583). -/
def railPoll (status : List Nat) (s : State) : State :=
  (List.range 3).foldl (fun s r =>
    match status[r]? with
    | none => s
    | some w =>
      let bad := w &&& 0xE03C != 0
      if bad && !s.clk.railBad.testBit r then
        reportL 0x205 r (modClk (fun c =>
          { c with railBad := setPin c.railBad r true, regLast := w % 65536, regRail := r }) s)
      else modClk (fun c => { c with railBad := setPin c.railBad r bad }) s) s

/-! ### Registers (R591) -/

/-- The CLKPWR block at an offset. -/
def readClkpwr (off : Nat) (s : State) : Option Word :=
  let c := s.clk
  match off with
  | 0x000 => some c.ctl
  | 0x004 => some (clkStat s)
  | 0x008 => some (pack [(1, b2n c.pref), (0, b2n c.sel)])
  | 0x00C => some c.ssc
  | 0x010 => some (word c.gate)
  | 0x014 => some (word c.gatePend)
  | 0x100 => some (pwrStat s)
  | 0x104 => some c.wakeEn
  | 0x108 => some (word c.wakeSrc)
  | 0x10C => some (pack [(16, c.wakeLevel), (0, c.wakeEdge)])
  | 0x110 => some (word c.wakeTimer)
  | 0x200 => some c.regCfg
  | 0x204 => some (word c.regVcore)
  | 0x208 => some (regStat s)
  | _ => none

/-- SEL written: the root switches; to the crystal only after a measurement of XI (R565). -/
def selectRoot (rc : Bool) (s : State) : State :=
  if s.clk.switch.isSome || (rc == s.clk.rootRc && !s.clk.coast) then modClk (fun c => { c with sel := rc }) s
  else modClk (fun c => { c with sel := rc, switch := some (rc, !rc) }) s

/-- REG_VCORE.SET written: VOUT_COMMAND goes to the PMIC (R583). A value above 18 is ignored. -/
def setVcore (n : Nat) (s : State) : State :=
  if 18 < n then s
  else
    let s := modClk (fun c => { c with regVcore := n }) s
    pushReg (vcoreRequest s) s

/-- A write to the CLKPWR block. The wake configuration is held on the P-die (R588, R103). -/
def writeClkpwr (off : Nat) (v : Word) (s : State) : State × Ans :=
  match off with
  | 0x000 => (modClk (fun c => { c with ctl := v &&& 7 }) s, .done [])
  | 0x004 => (modClk (fun c => { c with deadSrc := c.deadSrc && !bit 8 v }) s, .done [])
  | 0x008 => (selectRoot (bit 0 v) (modClk (fun c => { c with pref := bit 1 v }) s), .done [])
  | 0x00C =>
    (modClk (fun c => { c with ssc := writeFields [rw 31 31, rw 26 24, rwIn 23 16 10 100, rwIn 5 0 0 40] c.ssc v }) s, .done [])
  | 0x104 => writeP (.wake (v &&& 0x3FFF) (wakeComing s).2.1 (wakeComing s).2.2) s
  | 0x108 => (modClk (fun c => { c with wakeSrc := c.wakeSrc - (c.wakeSrc &&& v.toNat) }) s, .done [])
  | 0x10C => writeP (.wake (wakeComing s).1 (edgeWritten (wakeComing s).2.1 (fld 7 0 v)) (wakeComing s).2.2) s
  | 0x110 =>
    if 86400 < fld 16 0 v then (s, .done []) else writeP (.wake (wakeComing s).1 (wakeComing s).2.1 (fld 16 0 v)) s
  | 0x200 => (modClk (fun c => { c with regCfg := v &&& 0x7F7F7F9F }) s, .done [])
  | 0x204 => (setVcore (fld 4 0 v) s, .done [])
  | 0x208 => (modClk (fun c => { c with regFail := c.regFail - (c.regFail &&& fld 2 0 v) }) s, .done [])
  | _ => (s, .done [])

/-- The W1C bits of the CLKPWR block (R102). -/
def w1cClkpwr (off : Nat) : Word :=
  match off with
  | 0x004 => 0x100
  | 0x108 => 0x3FFF
  | 0x208 => 7
  | _ => 0

end Sys2Proof.Machine
end

