-- ==== Sys2Proof/Machine/Regs.lean ====
section
/-! DEFINITION. The register space: the SYS and STORE blocks, the access to a register by its address, and the
register-access opcodes (R99 to R103). -/

namespace Sys2Proof.Machine

/-! ### SYS (R2, R52, R609) -/

/-- SYS_ID (R2). -/
def sysId : Word := 0x96600B00

/-- SYS_BOOT (R609). -/
def sysBoot (s : State) : Word :=
  let c := s.clk
  pack [(6, c.recovery), (5, b2n c.otherBooted), (4, b2n s.store.running), (3, b2n c.pdieCold), (2, b2n c.coldFs),
    (1, b2n c.chainWait)]

/-- The SYS block at an offset. -/
def readSys (off : Nat) (s : State) : Option Word :=
  match off with
  | 0x0 => some sysId
  | 0x4 => some (pack [(3, b2n s.bootsel), (2, b2n s.split), (0, s.deviceId)])
  | 0x8 => some (sysBoot s)
  | _ => none

/-! ### STORE (R554) -/

/-- Firmware bank b, true for B. -/
def fwBank (b : Bool) (s : State) : FwBank := nth s.store.fw (b2n b)

/-- The descriptor of firmware bank b, all zero where the bank has no valid one. -/
def bankDesc (b : Bool) (s : State) : ImgDesc :=
  ((fwBank b s).desc).getD { nblk := 0, len := 0, srecNew := 0, srecMin := 0, cfmtNew := 0, cfmtMin := 0 }

/-- The authoritative configuration bank; without one the registers show bank 0 (log entry 103). -/
def authBank (s : State) : CfgBank := nth s.store.banks (s.store.auth.getD 0)

/-- STORE_STAT. -/
def storeStat (s : State) : Word :=
  let x := s.store
  pack [(24, (authBank s).cfmt), (16, b2n x.fallback.isSome), (12, b2n (!x.edits.isEmpty || x.writing.isSome)), (9, b2n x.degraded),
    (8, x.auth.getD 0), (3, b2n (fwBank (!x.running) s).verified), (2, b2n x.running)]

/-- STORE_UPD_STAT. -/
def updStat (s : State) : Word :=
  let u := s.store.upd
  pack [(16, u.got.length), (10, u.slot), (0, u.state)]

/-- The STORE block at an offset. -/
def readStore (off : Nat) (s : State) : Option Word :=
  let x := s.store
  let run := bankDesc x.running s
  let other := bankDesc (!x.running) s
  match off with
  | 0x00 => some (storeStat s)
  | 0x04 => some (word (authBank s).seq)
  | 0x08 => some (updStat s)
  | 0x0C => some (word x.trialT)
  | 0x10 => some (word run.version)
  | 0x14 => some (word other.version)
  | 0x18 => some (pack [(24, b2n (decide (s.otp.floor < run.arb))), (16, other.arb), (8, run.arb), (0, s.otp.floor)])
  | 0x1C => some (pack [(16, x.result), (0, min 65535 x.pause)])
  | _ => none

/-- The store controller changed by f. -/
def modStore (f : StoreSt → StoreSt) (s : State) : State := { s with store := f s.store }

/-- A write to the STORE block. -/
def writeStore (off : Nat) (v : Word) (s : State) : State × Ans :=
  if off = 0x0C then (modStore (fun x => { x with trialT := fld 7 0 v }) s, .done []) else (s, .done [])

/-! ### A register by its address (R99) -/

/-- The address is a word of the register space. -/
def addrOk (a : Nat) : Bool := a % 4 == 0 && a ≤ 0x11FFFF

/-- The register at an address; none where no register stands. -/
def readReg (a : Nat) (s : State) : Option Word :=
  if !addrOk a then none
  else
    let off := a % 0x10000
    match a / 0x10000 with
    | 0x00 => readSys off s
    | 0x01 => readHost off s
    | 0x02 => readSpindle off s
    | 0x03 => readLoom off s
    | 0x04 => readCell off s
    | 0x05 => readProt off s
    | 0x06 => readAct off s
    | 0x07 => readLight off s
    | 0x08 => readFio off s
    | 0x09 => readWeft off s
    | 0x0A => readCan off s
    | 0x0B => readNmgw off s
    | 0x0C => readRange off s
    | 0x0D => readKey off s
    | 0x0E => readStore off s
    | 0x0F => readFault off s
    | 0x10 => readClkpwr off s
    | _ => readReel off s

/-- What a read of the register at an address clears (R7). -/
def readClears (a : Nat) (s : State) : State := if a / 0x10000 = 0x0A then readsCan (a % 0x10000) s else s

/-- A write to the register at an address, in an authenticated session or not; judged tells that the checks over
neighbouring registers have been made for the whole block write (R286). A register that is read only ignores it (R7). -/
def writeReg (authed judged : Bool) (a : Nat) (v : Word) (s : State) : State × Ans :=
  let off := a % 0x10000
  match a / 0x10000 with
  | 0x01 => writeHost off v s
  | 0x02 => writeSpindle off v s
  | 0x03 => writeLoom off v s
  | 0x04 => writeCell off v s
  | 0x05 => writeProt off v s
  | 0x07 => writeLight off v judged s
  | 0x08 => writeFio off v s
  | 0x09 => writeWeft off v s
  | 0x0A => writeCan authed off v s
  | 0x0B => writeNmgw off v s
  | 0x0C => writeRange off v s
  | 0x0E => writeStore off v s
  | 0x0F => writeFault off v s
  | 0x10 => writeClkpwr off v s
  | _ => (s, .done [])

/-- The W1C bits of the register at an address (R102). -/
def w1cReg (a : Nat) : Word :=
  let off := a % 0x10000
  match a / 0x10000 with
  | 0x01 => w1cHost off
  | 0x05 => w1cProt off
  | 0x07 => w1cLight off
  | 0x08 => w1cFio off
  | 0x09 => w1cWeft off
  | 0x0A => w1cCan off
  | 0x0B => w1cNmgw off
  | 0x0C => w1cRange off
  | 0x0F => w1cFault off
  | 0x10 => w1cClkpwr off
  | _ => 0

/-! ### Who may access what (R94, R465, R554, R600) -/

/-- A write to this register needs an authenticated session (R465, R554). -/
def authReg (a : Nat) : Bool := faultAuthReg (a / 0x10000) (a % 0x10000) || a == 0xE000C

/-- The session state permits an access to n words from an address: the KEY block, and writes to the registers that need a
session (R94); in recovery only SYS, HOST, STORE and FAULT are read (R600). -/
def accessOk (write : Bool) (a n : Nat) (slot : Nat) (s : State) : Bool :=
  let needs := a / 0x10000 == 0x0D || (write && (List.range n).any (fun i => authReg (a + 4 * i)))
  (!needs || (slotOf slot s).session.isSome) &&
    (s.ldie != .recovery || [0x00, 0x01, 0x0E, 0x0F].contains (a / 0x10000))

/-- The address holds a register (R101). -/
def regObj (r : Req) (s : State) : Bool := (readReg (obj r) s).isSome

/-- n words from an address lie in the address's block (R101). -/
def blockOk (a n : Nat) : Bool := addrOk a && 1 ≤ n && n ≤ 256 && a % 0x10000 + 4 * n ≤ 0x10000

/-! ### READ_REG, WRITE_REG and MODIFY_REG (R100, R102) -/

/-- READ_REG as the interpreter knows it. -/
def infoReadReg : OpInfo :=
  { op := 0x0100, len := lenIs 0, recovery := true, obj := regObj
    perm := fun r s => accessOk false (obj r) 1 r.slot s
    run := fun e s => (readClears (obj e.req) s, .done [(readReg (obj e.req) s).getD 0]) }

/-- READ_REG (R100). -/
def execReadReg (r : Req) (s : State) : Host.Outcome State Fault Refusal := .next (command infoReadReg r s)

/-- A command's session is authenticated. -/
def Entry.authed (e : Entry) : Bool := e.key.isSome

/-- WRITE_REG as the interpreter knows it. -/
def infoWriteReg : OpInfo :=
  { op := 0x0101, len := lenIs 1, snap := true, obj := regObj
    perm := fun r s => accessOk true (obj r) 1 r.slot s
    run := fun e s => writeReg e.authed false (obj e.req) (arg e.req 0) s }

/-- WRITE_REG (R100). -/
def execWriteReg (r : Req) (s : State) : Host.Outcome State Fault Refusal := .next (command infoWriteReg r s)

/-- The old value kept for a completed MODIFY_REG, after what the write itself keeps for a partner (R102, R176). -/
def keepOld (old : Word) (a : Ans) : Ans :=
  match a with
  | .done _ => .done [old]
  | .wait w q d => .wait w q (d ++ [old])
  | .waits l _ => .waits l [old]
  | .fail st p => .fail st p

/-- MODIFY_REG: read and write as one access (R102). -/
def modifyReg (authed : Bool) (a : Nat) (mask value : Word) (s : State) : State × Ans :=
  let old := (readReg a s).getD 0
  let (s, x) := writeReg authed false a (modifyValue (w1cReg a) old mask value) (readClears a s)
  (s, keepOld old x)

/-- MODIFY_REG as the interpreter knows it. -/
def infoModifyReg : OpInfo :=
  { op := 0x0103, len := lenIs 2, snap := true, obj := regObj
    perm := fun r s => accessOk true (obj r) 1 r.slot s
    run := fun e s => modifyReg e.authed (obj e.req) (arg e.req 0) (arg e.req 1) s }

/-- MODIFY_REG (R102). -/
def execModifyReg (r : Req) (s : State) : Host.Outcome State Fault Refusal := .next (command infoModifyReg r s)

/-! ### READ_BLOCK and WRITE_BLOCK (R100, R101, R103) -/

/-- n registers read in rising address order; an address that holds none reads 0. -/
def readBlock : Nat → Nat → State → List Word × State
  | 0, _, s => ([], s)
  | n + 1, a, s =>
    let w := (readReg a s).getD 0
    let (l, s) := readBlock n (a + 4) (readClears a s)
    (w :: l, s)

/-- READ_BLOCK as the interpreter knows it. -/
def infoReadBlock : OpInfo :=
  { op := 0x0102, len := lenIs 1, recovery := true, obj := fun r _ => addrOk (obj r)
    perm := fun r s => accessOk false (obj r) 1 r.slot s
    run := fun e s =>
      let n := (arg e.req 0).toNat
      if !blockOk (obj e.req) n then (s, .fail .badObject [])
      else
        let (l, s) := readBlock n (obj e.req) s
        (s, .done l) }

/-- READ_BLOCK (R100). -/
def execReadBlock (r : Req) (s : State) : Host.Outcome State Fault Refusal := .next (command infoReadBlock r s)

/-- The state of a block write under way: the first answer that failed, and the reports that it waits for. -/
structure BlockAcc where
  bad : Option (Status × List Word) := none
  awaits : List Await := []
  deriving DecidableEq, Repr, Inhabited

/-- The answer to one write joined to those before it: the first failure stands (R103). -/
def BlockAcc.join (x : BlockAcc) (a : Ans) : BlockAcc :=
  match a with
  | .done _ => x
  | .fail st p => { x with bad := some (x.bad.getD (st, p)) }
  | .wait w _ _ => { x with awaits := if x.awaits.contains w then x.awaits else x.awaits ++ [w] }
  | .waits l _ => { x with awaits := x.awaits ++ l }

/-- The region of registers that a block write takes together: field-pin configuration, Whorl program, routing
entries (R305, R333, R407); 0 for a register written on its own. -/
def runClass (a : Nat) : Nat :=
  let off := a % 0x10000
  match a / 0x10000 with
  | 0x07 => if 0x4000 ≤ off ∧ off < 0x5000 then 1 else 0
  | 0x08 => if 0x1000 ≤ off ∧ off < 0x1140 then 2 else 0
  | 0x0B => if 0x8000 ≤ off then 3 else 0
  | _ => 0

/-- The leading words of a block write that are taken as one access. -/
def runLength (a : Nat) (n : Nat) : Nat :=
  ((List.range n).takeWhile (fun i => runClass (a + 4 * i) == runClass a)).length

/-- The words of one region written together. -/
def writeRun (c a : Nat) (ws : List Word) (s : State) : State × Ans :=
  let off := a % 0x10000
  if c = 1 then if groupOff 0x04 s then (s, .fail .abortedDisabled []) else whorlLoad ((off - 0x4000) / 4) ws s
  else if c = 2 then asFio (fioCfg ((off - 0x1000) / 4) ws) s
  else if groupOff 0x06 s then (s, .fail .abortedDisabled [])
  else writeRoutes ((off - 0x8000) / 4) ws s

/-- A block write in rising address order, at most `fuel` accesses. -/
def writeWords : Nat → Bool → Bool → Nat → List Word → BlockAcc → State → State × BlockAcc
  | 0, _, _, _, _, x, s => (s, x)
  | fuel + 1, authed, judged, a, ws, x, s =>
    match ws with
    | [] => (s, x)
    | w :: rest =>
      if runClass a = 0 then
        let (s, r) := writeReg authed judged a w s
        writeWords fuel authed judged (a + 4) rest (x.join r) s
      else
        let n := runLength a ws.length
        let (s, r) := writeRun (runClass a) a (ws.take n) s
        writeWords fuel authed judged (a + 4 * n) (ws.drop n) (x.join r) s

/-- WRITE_BLOCK of some words (R100, R103): where a COLI sum would not hold, nothing is written (R286). -/
def writeBlock (authed : Bool) (a : Nat) (ws : List Word) (s : State) : State × Ans :=
  if !blockOk a ws.length then (s, .fail .badObject [])
  else if a / 0x10000 = 7 ∧ !coliBlockOk (a % 0x10000) ws s then (s, .fail .budgetExceeded [])
  else
    let (s, x) := writeWords ws.length authed true a ws {} s
    match x.bad with
    | some (st, p) => (s, .fail st p)
    | none => (s, .waits x.awaits [])

/-- WRITE_BLOCK as the interpreter knows it. -/
def infoWriteBlock : OpInfo :=
  { op := 0x0104, len := lenBetween 1 256, snap := true, obj := fun r _ => addrOk (obj r)
    perm := fun r s => accessOk true (obj r) r.payload.length r.slot s
    run := fun e s => writeBlock e.authed (obj e.req) e.req.payload s }

/-- WRITE_BLOCK (R100). -/
def execWriteBlock (r : Req) (s : State) : Host.Outcome State Fault Refusal := .next (command infoWriteBlock r s)

end Sys2Proof.Machine
end

