-- ==== Sys2Proof/Machine/Store.lean ====
section
/-! DEFINITION. The configuration store (chapter 17): records, the banks and their writes, CFG_WRITE and CFG_READ, the
live values of an instance, the items that the device writes itself, and what a start restores. -/

namespace Sys2Proof.Machine

/-! ### Records (R531) -/

/-- The instance of a record is in the range of its class (R531). -/
def instOk (c i : Nat) : Bool :=
  match c with
  | 1 => i < 48
  | 2 => i < 48 || i == 0xFFFF
  | 3 => i < 48
  | 4 => i < 48 || (0x100 ≤ i && i < 0x110) || i == 0xFFFF
  | 5 => i < 16
  | 6 => i < 48 || i == 0x100 || i == 0x101 || (0x200 ≤ i && i < 0x210) || i == 0xFFFF
  | 7 => i < 80 || (0x100 ≤ i && i < 0x108) || i == 0xFFFF
  | 8 => i < 12 || i == 0xFF
  | 9 => i < 64
  | 10 => i < 6 || (0x100 ≤ i && i < 0x10C) || (0x200 ≤ i && i ≤ 0x220)
  | 11 => i < 8 || (0x100 ≤ i && i < 0x106) || (0x200 ≤ i && i < 0x208) || i == 0x300 || i == 0xFFFF
  | 12 => i < 4 || i == 0x100 || i == 0x101 || i == 0xFFFF
  | 13 => (srcInfo i).isSome || (0x1000 ≤ i && i < 0x1005)
  | 14 => i == 0xFFFF
  | _ => false

/-- The records that some words spell, none where they are not well formed (R531); fuel bounds their number. -/
def parseRecs : Nat → List Word → Option (List CfgRec)
  | _, [] => some []
  | 0, _ => none
  | n + 1, w0 :: rest =>
    match rest with
    | [] => none
    | w1 :: more =>
      let len := w1.toNat
      if 254 < len ∨ more.length < len ∨ !instOk (fld 15 0 w0) (fld 31 16 w0) then none
      else (parseRecs n (more.drop len)).map (fun l => { cls := fld 15 0 w0, inst := fld 31 16 w0, data := more.take len } :: l)

/-- The words of a record. -/
def CfgRec.words (r : CfgRec) : List Word := pack [(16, r.inst), (0, r.cls)] :: word r.data.length :: r.data

/-- Two records have the same CLASS and INSTANCE. -/
def sameItem (a b : CfgRec) : Bool := a.cls == b.cls && a.inst == b.inst

/-- A record merged into a configuration: it replaces the record of its item, or deletes it where it has no data (R534). -/
def mergeRec (l : List CfgRec) (r : CfgRec) : List CfgRec :=
  if r.data.isEmpty then l.filter (fun x => !sameItem x r)
  else if l.any (fun x => sameItem x r) then l.map (fun x => if sameItem x r then r else x)
  else l ++ [r]

/-- A change applied to a configuration. -/
def CfgEdit.apply (l : List CfgRec) (e : CfgEdit) : List CfgRec :=
  e.recs.foldl mergeRec (l.filter (fun r => !e.clear.testBit r.cls))

/-- The bytes of a bank with these records (R529). -/
def bankBytes (l : List CfgRec) : Nat := 16 + (l.map (fun r => 8 + 4 * r.data.length)).sum

/-- The authoritative records; none without a valid bank (R533). -/
def storedRecs (s : State) : List CfgRec := if s.store.auth.isNone then [] else (authBank s).recs

/-- The working copy: the authoritative records with the changes on their way (R530). -/
def workRecs (s : State) : List CfgRec :=
  (((s.store.writing).getD []) ++ s.store.edits).foldl CfgEdit.apply (storedRecs s)

/-- The stored record of an item. -/
def findRec (l : List CfgRec) (c i : Nat) : Option CfgRec := l.find? (fun r => r.cls == c && r.inst == i)

/-- The data of an item, or other words where there is no record. -/
def dataOr (l : List CfgRec) (c i : Nat) (d : List Word) : List Word := ((findRec l c i).map (fun r => r.data)).getD d

/-! ### Live values (R531, R633) -/

/-- The registers whose words are an instance's data, where the data is the words of registers. -/
def itemRegs (c i : Nat) : List Nat :=
  match c with
  | 2 => if i = 0xFFFF then [0x50000, 0x50004, 0x50008] ++ (List.range 12).map (fun b => 0x52000 + 0x10 * b)
    else [0x51000 + 0x10 * i, 0x51004 + 0x10 * i, 0x51008 + 0x10 * i]
  | 4 => if i = 0xFFFF then [0x30000, 0x30008, 0x30010]
    else if i < 48 then [0x31000 + 0x10 * i, 0x31004 + 0x10 * i]
    else [0x32000 + 0x10 * (i - 0x100), 0x32004 + 0x10 * (i - 0x100)]
  | 6 => if i = 0xFFFF then [0x70300]
    else if i < 48 then [0x71000 + 0x10 * i, 0x71008 + 0x10 * i]
    else if i < 0x200 then
      let p := 0x70000 + 0x100 * (i - 0x100)
      [p, p + 8] ++ (List.range 12).map (fun j => p + 0x40 + 4 * j)
    else [0x70200 + 4 * (i - 0x200)]
  | 7 => if i = 0xFFFF then [0x80000, 0x80008]
    else if i < 80 then [0x81000 + 4 * i]
    else [0x82000 + 0x20 * (i - 0x100), 0x82010 + 0x20 * (i - 0x100)]
  | 8 => if i < 12 then
      let k := 0xA0000 + 0x1000 * i
      [k, k + 8, k + 0xC, k + 0x10, k + 0x14, k + 0x18, k + 0x1C] ++
        ((List.range 64).map (fun j => [k + 0x100 + 0x10 * j, k + 0x104 + 0x10 * j, k + 0x108 + 0x10 * j])).flatten
    else [0xAC000, 0xAC004, 0xAC008] ++ ((List.range 16).map (fun t => [0xAC100 + 8 * t, 0xAC104 + 8 * t])).flatten
  | 10 => if i < 6 then [0x00, 0x08, 0x0C, 0x10, 0x14].map (fun o => 0xB0000 + 0x20 * i + o)
    else if i < 0x200 then [0xB1000 + 0x20 * (i - 0x100), 0xB1004 + 0x20 * (i - 0x100)]
    else
      let e := 63 * (i - 0x200)
      (List.range (4 * (min 2048 (e + 63) - e))).map (fun j => 0xB8000 + 16 * e + 4 * j)
  | 12 => if i < 4 then [0x10000 + 4 * i, 0x10030 + 4 * i]
    else if i < 0x200 then (List.range 5).map (fun j => 0x10200 + 0x40 * (i - 0x100) + 4 * j)
    else [0x10300]
  | 13 => [0xF0010 + 4 * (i - 0x1000)]
  | 14 => [0x100000, 0x100008, 0x10000C, 0x100104, 0x10010C, 0x100110, 0x100200, 0x100204]
  | _ => []

/-- The words of some registers. -/
def regWords (l : List Nat) (s : State) : List Word := l.map (fun a => (readReg a s).getD 0)

/-- Points packed two to a word, low half first. -/
def pointWords (pts : List Nat) : List Word :=
  (List.range 32).map (fun i => pack [(16, at0 pts (2 * i + 1)), (0, at0 pts (2 * i))])

/-- The saved FV of profile a (R361). -/
def fvWords (a : Nat) (s : State) : List Word := natToWords 2 (canAuth a s).saved

/-- RCTR and the lock-out state of ranging as the store holds them: the saved RCTR; FAILS, LOCK_LEVEL and the lock-out
(R505, R513, log entry 104). -/
def lockWords (s : State) : List Word :=
  [word s.range.saved, pack [(31, b2n s.range.lockEnd.isSome), (4, s.range.level), (0, s.range.fails)]]

/-- The words of ranging object o (R521). -/
def zoneWords (o : Nat) (s : State) : List Word :=
  if o < 8 then [(nth s.range.zones o).1, (nth s.range.zones o).2]
  else if o < 0x106 then [(anchor (o - 0x100) s).cfg]
  else if o < 0x208 then [(token (o - 0x200) s).cfg, (token (o - 0x200) s).id]
  else [s.range.rf, s.range.chk, s.range.lock]

/-- The word of a source's reaction (R463). -/
def reactWord (n : Nat) (s : State) : Word :=
  let (lvl, chip) := reactionOf n s
  pack [(4, b2n chip), (0, lvl)]

/-- The data of an instance from its live values (R531, R633). -/
def liveData (c i : Nat) (s : State) : List Word :=
  match c with
  | 1 =>
    let d := defL i s
    [d.cfg, d.limit, d.period, d.timing, d.aux]
  | 3 =>
    let l := (skL i s).learn
    pointWords l.e ++ pointWords l.r ++ pointWords l.m
  | 5 =>
    let p := (actL i s).prof
    [p.bind, p.cur, p.time, p.chop, p.decay, p.kink]
  | 9 => [(canAuth i s).cfg, (canAuth i s).id] ++ fvWords i s
  | 10 => regWords (itemRegs 10 i) s ++ (if 0x100 ≤ i ∧ i < 0x200 then [word (b2n (nmCh (i - 0x100) s).need)] else [])
  | 11 => if i = 0xFFFF then lockWords s else zoneWords i s
  | 13 => if i < 0x1000 then [reactWord i s] else regWords (itemRegs 13 i) s
  | _ => regWords (itemRegs c i) s

/-- An instance is in use, where its chapter gives it a defined, bound or enabled state (R633). -/
def inUse (c i : Nat) (s : State) : Bool :=
  match c with
  | 1 => (defL i s).defined
  | 2 => i == 0xFFFF || (defL i s).defined
  | 3 => (skL i s).learn.state == 2
  | 4 => i == 0xFFFF || (if i < 48 then (defL i s).defined else (chainE (i - 0x100) s).state != 0)
  | 5 => (actL i s).prof.kind != 0
  | 6 => if i < 48 then (defL i s).owner == 1 && (defL i s).defined else true
  | 9 => bit 4 (canAuth i s).cfg
  | 10 => if i < 6 then true
    else if i < 0x200 then bit 7 (nmCh (i - 0x100) s).cfg
    else (itemRegs 10 i).any (fun a => a % 16 == 0 && bit 31 ((readReg a s).getD 0))
  | 11 => if i = 0xFFFF then true
    else if i = 0x300 then true
    else if i < 8 then bit 31 (nth s.range.zones i).2
    else bit 31 (wordAt (zoneWords i s) 0)
  | 13 => 0x1000 ≤ i || s.faults.react.get i != 0
  | _ => true

/-- The instances of a class. -/
def instances (c : Nat) : List Nat :=
  match c with
  | 1 | 3 => List.range 48
  | 2 => List.range 48 ++ [0xFFFF]
  | 4 => List.range 48 ++ (List.range 16).map (fun j => 0x100 + j) ++ [0xFFFF]
  | 5 => List.range 16
  | 6 => List.range 48 ++ [0x100, 0x101] ++ (List.range 16).map (fun j => 0x200 + j) ++ [0xFFFF]
  | 7 => List.range 80 ++ (List.range 8).map (fun j => 0x100 + j) ++ [0xFFFF]
  | 8 => List.range 12 ++ [0xFF]
  | 9 => List.range 64
  | 10 => List.range 6 ++ (List.range 12).map (fun j => 0x100 + j) ++ (List.range 33).map (fun j => 0x200 + j)
  | 11 => List.range 8 ++ (List.range 6).map (fun j => 0x100 + j) ++ (List.range 8).map (fun j => 0x200 + j) ++ [0x300, 0xFFFF]
  | 12 => List.range 4 ++ [0x100, 0x101, 0xFFFF]
  | 13 => (List.range 0x240).filter (fun n => (srcInfo n).isSome) ++ (List.range 5).map (fun j => 0x1000 + j)
  | 14 => [0xFFFF]
  | _ => []

/-- The records of the live values of a class (R633). -/
def liveRecs (c : Nat) (s : State) : List CfgRec :=
  ((instances c).filter (fun i => inUse c i s)).map (fun i => { cls := c, inst := i, data := liveData c i s })

/-! ### Bank writes (R530, R533) -/

/-- The event UPDATE_STATUS (R553). -/
def updateEvent (reason code : Nat) (s : State) : State :=
  postEvent 0xF0B [pack [(8, code), (0, reason)], updStat s] s

/-- A change waits for the next boundary. -/
def pushEdit (e : CfgEdit) (s : State) : State := modStore (fun x => { x with edits := x.edits ++ [e] }) s

/-- CFG_BANK_WRITE_START, at a management-tick boundary: the gathered changes go into one bank write (R530). -/
def cfgWriteStart (s : State) : State :=
  if s.store.edits.isEmpty || s.store.writing.isSome then s
  else modStore (fun x => { x with writing := some x.edits, edits := [], tries := 0, writes := x.writes + 1 }) s

/-- The bank that the next write goes to: the one that is not authoritative (R530). -/
def writeBank (s : State) : Nat := 1 - s.store.auth.getD 1

/-- Of two sequence numbers the first is the newer (R529). -/
def seqNewer (a b : Nat) : Bool :=
  let d := (a + 2 ^ 32 - b) % 2 ^ 32
  1 ≤ d && d < 2 ^ 31

/-- The sequence number one newer than the authoritative bank's. -/
def nextSeq (s : State) : Nat := if s.store.auth.isNone then 1 else ((authBank s).seq + 1) % 2 ^ 32

/-- The format that the running image writes; without an image, the stored one (R529, R536). -/
def runCfmt (s : State) : Nat :=
  match (fwBank s.store.running s).desc with
  | some d => d.cfmtNew
  | none => (authBank s).cfmt

/-- CFG_READ's words from index n: the next index, CFMT, and as many whole matching records as fit (R535). -/
def cfgReadWords (o : Word) (n : Nat) (s : State) : List Word :=
  let hit := fun (r : CfgRec) =>
    (fld 15 0 o == 0xFFFF || r.cls == fld 15 0 o) && (fld 31 16 o == 0xFFFF || r.inst == fld 31 16 o)
  let all := (storedRecs s).filter hit
  let take := fun (acc : Bool × List Word × Nat) (r : CfgRec) =>
    if acc.1 && acc.2.1.length + r.words.length ≤ 254 then (true, acc.2.1 ++ r.words, acc.2.2 + 1) else (false, acc.2)
  let (_, ws, k) := (all.drop n).foldl take (true, [], 0)
  (if n + k < all.length then word (n + k) else 0xFFFFFFFF) :: word (authBank s).cfmt :: ws

/-- The commands of configuration bank write n complete: DONE if it has verified, STORE_FAIL if not; while a handover pauses the
cores they wait for the first dispatch by the new image (R530). -/
def writeOver (n : Nat) (ok : Bool) (s : State) : State :=
  if s.clk.paused then modStore (fun x => { x with ended := x.ended ++ [(n, ok)] }) s
  else completeAll (.cfgBank n) (if ok then .done else .storeFail) (fun _ => []) s

/-- The new image has dispatched: the commands of the writes that ended in the pause complete (R530). -/
def releaseWrites (s : State) : State :=
  let l := s.store.ended
  l.foldl (fun s e => writeOver e.1 e.2 s) (modStore (fun x => { x with ended := [] }) s)

/-- The bank write carried out: the other bank becomes authoritative, and its commands complete (R530). -/
def cfgWriteDone (edits : List CfgEdit) (s : State) : State :=
  let b : CfgBank := { valid := true, cfmt := runCfmt s, seq := nextSeq s, recs := edits.foldl CfgEdit.apply (storedRecs s) }
  let n := writeBank s
  let s := modStore (fun x =>
    { x with banks := put x.banks n b, auth := some n, writing := none, degraded := false }) s
  writeOver s.store.writes true (bump (ctr 0x0E 0) s)

/-- The bank write finally fails: its commands complete with STORE_FAIL and its changes are gone (R530). -/
def cfgWriteFailed (s : State) : State :=
  let n := writeBank s
  let s := modStore (fun x => { x with writing := none }) s
  let s := writeOver s.store.writes false s
  updateEvent 6 3 (reportL 0x1C0 n s)

/-! ### CFG_WRITE (R534, R633) -/

/-- The status of a CFG_WRITE's checks over its resulting records. -/
def cfgChecks (recs : Option (List CfgRec)) (size : List CfgRec → Nat) (staged : Bool) : Except Status (List CfgRec) :=
  match recs with
  | none => .error .badObject
  | some l =>
    if l.any (fun r => r.cls == 3) then .error .notPermitted
    else if 131072 < size l then .error .badObject
    else if !staged then .error .badObject
    else .ok l

/-- CFG_WRITE of object o with a payload (R534). -/
def cfgWrite (o : Nat) (ws : List Word) (s : State) : State × Ans :=
  let recs := parseRecs ws.length ws
  let x := s.store
  let stage := fun (base : List CfgRec) (l : List CfgRec) => l.foldl mergeRec base
  let queue := fun (e : CfgEdit) => (pushEdit e s, Ans.wait (.cfgBank (x.writes + 1)) true [])
  match o with
  | 0 => match cfgChecks recs (fun l => bankBytes (stage (workRecs s) l)) true with
    | .error st => (s, .fail st [])
    | .ok l => queue { recs := l }
  | 1 => match cfgChecks recs (fun l => bankBytes (stage [] l)) true with
    | .error st => (s, .fail st [])
    | .ok l => (modStore (fun x => { x with staging := stage [] l, staged := true }) s, .done [])
  | 2 => match cfgChecks recs (fun l => bankBytes (stage x.staging l)) true with
    | .error st => (s, .fail st [])
    | .ok l => (modStore (fun x => { x with staging := stage x.staging l }) s, .done [])
  | 3 => match cfgChecks recs (fun l => bankBytes (stage x.staging l)) x.staged with
    | .error st => (s, .fail st [])
    | .ok l =>
      let all := stage x.staging l
      (pushEdit { clear := 0xFFFF, recs := all } (modStore (fun x => { x with staging := all }) s),
        .wait (.cfgBank (x.writes + 1)) true [])
  | 4 =>
    let m := (wordAt ws 0).toNat
    let e : CfgEdit := { clear := m, recs := ((List.range 15).map (fun c => if m.testBit c then liveRecs c s else [])).flatten }
    if ws.length != 1 || m &&& 0x7FFE != m || m = 0 then (s, .fail .badObject [])
    else if 131072 < bankBytes (e.apply (workRecs s)) then (s, .fail .badObject [])
    else queue e
  | _ => (s, .fail .badObject [])

/-- CFG_WRITE as the interpreter knows it. -/
def infoCfgWrite : OpInfo :=
  { op := 0x0900, len := lenBetween 0 256, auth := true, obj := fun r _ => obj r ≤ 4, run := fun e s => cfgWrite (obj e.req) e.req.payload s }

/-- CFG_WRITE_MERGE: CFG_WRITE with OBJECT 0 (R534). -/
def execCfgWriteMerge (r : Req) (s : State) : Host.Outcome State Fault Refusal :=
  .next (command infoCfgWrite { r with object := 0 } s)

/-- CFG_WRITE_STAGE_NEW: CFG_WRITE with OBJECT 1 (R534). -/
def execCfgWriteStageNew (r : Req) (s : State) : Host.Outcome State Fault Refusal :=
  .next (command infoCfgWrite { r with object := 1 } s)

/-- CFG_WRITE_STAGE_ADD: CFG_WRITE with OBJECT 2 (R534). -/
def execCfgWriteStageAdd (r : Req) (s : State) : Host.Outcome State Fault Refusal :=
  .next (command infoCfgWrite { r with object := 2 } s)

/-- CFG_WRITE_REPLACE: CFG_WRITE with OBJECT 3 (R633). -/
def execCfgWriteReplace (r : Req) (s : State) : Host.Outcome State Fault Refusal :=
  .next (command infoCfgWrite { r with object := 3 } s)

/-- CFG_WRITE_LIVE: CFG_WRITE with OBJECT 4 (R633). -/
def execCfgWriteLive (r : Req) (s : State) : Host.Outcome State Fault Refusal :=
  .next (command infoCfgWrite { r with object := 4 } s)

/-- CFG_READ as the interpreter knows it (R535). -/
def infoCfgRead : OpInfo :=
  { op := 0x0901, len := lenIs 1
    run := fun e s =>
      if s.store.writing.isSome then (s, .wait .bankIdle true [])
      else (s, .done (cfgReadWords e.req.object (arg e.req 0).toNat s)) }

/-- CFG_READ (R535). -/
def execCfgRead (r : Req) (s : State) : Host.Outcome State Fault Refusal := .next (command infoCfgRead r s)

/-! ### What the device writes itself (R361, R400, R463, R505, R513, R521, R532) -/

/-- The device's own items as they stand, without FPRINT, which is saved at events of its own (R199). -/
def deviceItems (s : State) : List CfgRec :=
  (List.range 64).map (fun a => { cls := 9, inst := a, data := fvWords a s }) ++
  (List.range 12).map (fun c => { cls := 10, inst := 0x100 + c, data := [word (b2n (nmCh c s).need)] }) ++
  (s.faults.react.map (fun p => { cls := 13, inst := p.1, data := [reactWord p.1 s] })) ++
  ((instances 11).map (fun o => { cls := 11, inst := o, data := liveData 11 o s }))

/-- A device item as a whole record, joined to the words that the host stored beside it. -/
def wholeItem (base : List CfgRec) (r : CfgRec) : CfgRec :=
  match r.cls with
  | 9 => { r with data := (dataOr base 9 r.inst [0x1400, 0]).take 2 ++ r.data }
  | 10 => { r with data := (dataOr base 10 r.inst [0, 0x00140064]).take 2 ++ r.data }
  | _ => r

/-- The items that TRIAL writes to the FALLBACK copy as well (R549). -/
def keptInTrial (r : CfgRec) : Bool := r.cls == 9 || (r.cls == 11 && r.inst == 0xFFFF)

/-- The device's own changes since they were last handed over join the changes of the next bank write (R532), and in TRIAL
the FALLBACK copy (R549). -/
def gatherDevice (s : State) : State :=
  let items := deviceItems s
  let new := items.filter (fun r => !s.store.dev.contains r)
  let prints := (List.range 48).filter (fun k => (skL k s).learn.save)
  let recs := new.map (wholeItem (workRecs s)) ++ prints.map (fun k => { cls := 3, inst := k, data := liveData 3 k s })
  if recs.isEmpty then s
  else
    let s := prints.foldl (fun s k => modSkL k (fun x => { x with learn := { x.learn with save := false } }) s) s
    let keep := fun (b : CfgBank) => { b with recs := ((new.filter keptInTrial).map (wholeItem b.recs)).foldl mergeRec b.recs }
    modStore (fun x =>
      { x with dev := items, edits := x.edits ++ [{ recs := recs }]
               fallback := if x.boot.trial then x.fallback.map keep else x.fallback }) s

/-- The device's items are taken as handed over: a start has just restored them. -/
def settleDevice (s : State) : State := modStore (fun x => { x with dev := deviceItems s }) s

/-- FV and RCTR are saved for the entry into a low-power state (R361, R505). -/
def saveCounters (s : State) : State :=
  let s := modCan (fun c => { c with auth := c.auth.map (fun a => { a with saved := a.fv }) }) s
  modRange (fun x => { x with saved := x.rctr }) s

/-! ### What a start restores (R532, R605) -/

/-- A register restored: written where it differs, whatever the write answers. -/
def restoreReg (a : Nat) (v : Word) (s : State) : State :=
  if readReg a s = some v then s else (writeReg true true a v s).1

/-- The registers of an item restored in order. -/
def restoreRegs (r : CfgRec) (s : State) : State :=
  ((itemRegs r.cls r.inst).zip r.data).foldl (fun s p => restoreReg p.1 p.2 s) s

/-- The need and the configuration of a channel restored; it resumes once step 11 of the start has come (R398). -/
def restoreChan (c : Nat) (d : List Word) (s : State) : State :=
  let need := d.length < 3 || bit 0 (wordAt d 2)
  let s := modNm (fun m => { m with chans := upd m.chans c (fun x =>
    { x with cfg := if fld 13 8 (wordAt d 0) != 0 then x.cfg else wordAt d 0 &&& 0x0007FFBF, need := need, needStored := need }) }) s
  let s := restoreReg (0xB1004 + 0x20 * c) (wordAt d 1) s
  if s.clk.step == .run then resumeNm c s else s

/-- A controller restored: its configuration, where CAN_CFG would take it (a controller never configured has none), and its filter
entries, which stand under the check of CAN_FILTER_SET: with an invalid one among them they are left as they were (R8, R368, R374,
R605). It starts once step 11 of the start has come (R369). -/
def restoreCan (k : Nat) (d : List Word) (s : State) : State :=
  let w := fun i => wordAt d i
  let cfg : CanCfg := { ctl := w 0 &&& 0x0001FFF7, nbt := w 1, dbt := w 2, xbt := w 3, pwm := w 4, tdc := w 5 &&& 0xFFFFFE00, txcfg := w 6 }
  let filters : Vector CanFilter 64 := Vector.ofFn (fun (i : Fin 64) =>
    { id := w (7 + 3 * i.val), mask := w (8 + 3 * i.val), tgt := w (9 + 3 * i.val) })
  let s := modCtl k (fun c =>
    { c with cfg := if canCfgOk k cfg then cfg else c.cfg
             filters := if filters.toList.all (filterOk k) then filters else c.filters }) s
  if s.clk.step == .run && canCfgOk k cfg then startCtl k s else s

/-- A profile restored: FV of a transmit profile resumes at the saved value, 0 where none was saved, + 65,536, and that value counts
as saved; the last accepted FV of a receive profile is the one saved (R361, log entry 105). -/
def restoreAuth (a : Nat) (d : List Word) (s : State) : State :=
  let cfg := wordAt d 0
  let fv := (wordsToNat (d.drop 2) + (if bit 5 cfg then 65536 else 0)) % 2 ^ 64
  let gen := (keySlot (fld 21 16 cfg) s).gen
  modAuth a (fun x => { x with cfg := writeFields [rw 22 22, rw 21 16, rwIn 14 12 1 4, rwIn 11 8 3 8, rw 5 5, rw 4 4, rwIn 3 0 0 11] x.cfg cfg
                               id := writeFields [rwIn 31 30 0 2, rw 29 29, rw 28 0] x.id (wordAt d 1), gen := gen
                               fv := fv, saved := fv }) s

/-- RCTR resumes at the saved value + 65,536. After a power-on the lock-out state comes from the store too, and a lock-out
restarts with its full period (R505, R513). -/
def restoreLock (cold : Bool) (d : List Word) (s : State) : State :=
  let rctr := ((wordAt d 0).toNat + 65536) % 2 ^ 32
  let w := wordAt d 1
  let lvl := fld 6 4 w
  let ms := fld 20 16 s.range.lock * 2 ^ (lvl - 1) * 60000
  let s := modRange (fun x => { x with rctr := rctr, saved := rctr }) s
  if !cold then s
  else modRange (fun x =>
    { x with fails := fld 3 0 w, level := lvl, lockEnd := if bit 31 w then some (mgmtStart s + msTicks ms) else none }) s

/-- The learned envelope of a skein restored (R199). -/
def restorePrint (k : Nat) (d : List Word) (s : State) : State :=
  let pts := fun (ws : List Word) => (ws.map (fun w => [fld 15 0 w, fld 31 16 w])).flatten
  if !(defL k s).defined || d.length != 96 then s
  else modSkL k (fun x => { x with learn := { (unlearned 2 x.learn) with
    nrec := 16, e := pts (d.take 32), r := pts ((d.drop 32).take 32), m := pts (d.drop 64) } }) s

/-- The wake configuration and the regulator and clock words restored (R591). -/
def restoreClk (d : List Word) (s : State) : State :=
  let w := fun i => wordAt d i
  let s := [(0x100000, w 0), (0x100008, w 1), (0x10000C, w 2), (0x100200, w 6)].foldl (fun s p => restoreReg p.1 p.2 s) s
  let s := { s with clk := { s.clk with wakeEn := w 3 &&& 0x3FFF, wakeEdge := edgeWritten s.clk.wakeEdge (w 4).toNat
                                        wakeTimer := if 86400 < fld 16 0 (w 5) then s.clk.wakeTimer else fld 16 0 (w 5) } }
  restoreReg 0x100204 (w 7) s

/-- A record restored at a start; cold tells of an L-die power-on. -/
def restoreRec (cold : Bool) (r : CfgRec) (s : State) : State :=
  let d := r.data
  match r.cls with
  | 1 => if (defL r.inst s).defined then s
    else (skeinDefine r.inst (defOf { (default : Req) with payload := d }) s).1
  | 3 => restorePrint r.inst d s
  | 4 => if 0x100 ≤ r.inst ∧ r.inst < 0x110 then
      (chainCfg (r.inst - 0x100) (wordAt d 0 &&& 0x013F033F) (wordAt d 1) s).1
    else restoreRegs r s
  | 5 => (profileSet r.inst (profileOf { (default : Req) with payload := d }) s).1
  | 6 => if r.inst = 0xFFFF then { s with light := { s.light with extTemp := fld 7 0 (wordAt d 0) } } else restoreRegs r s
  | 8 => if r.inst < 12 then restoreCan r.inst d s
    else
      let s := (ntCfg (wordAt d 0) (wordAt d 1) (wordAt d 2) s).1
      ((List.range 32).zip (d.drop 3)).foldl (fun s p => restoreReg (0xAC100 + 4 * p.1) p.2 s) s
  | 9 => restoreAuth r.inst d s
  | 10 => if 0x100 ≤ r.inst ∧ r.inst < 0x200 then restoreChan (r.inst - 0x100) d s
    else if r.inst < 6 then restoreRegs r s
    else (writeRoutes (4 * 63 * (r.inst - 0x200)) d s).1
  | 11 => if r.inst = 0xFFFF then restoreLock cold d s
    else if zoneCfgValid r.inst d then putZoneCfg r.inst d s else s
  | 13 => if r.inst < 0x1000 then (if reactionOk r.inst (wordAt d 0) then setReaction r.inst (wordAt d 0) s else s)
    else restoreRegs r s
  | 14 => restoreClk d s
  | _ => restoreRegs r s

/-- The stored records of a class, the words of the whole device last. -/
def classRecs (c : Nat) (s : State) : List CfgRec :=
  let l := (storedRecs s).filter (fun r => r.cls == c)
  l.filter (fun r => r.inst != 0xFFFF) ++ l.filter (fun r => r.inst == 0xFFFF)

/-- The records of some classes restored, class after class. -/
def restoreClasses (cold : Bool) (classes : List Nat) (s : State) : State :=
  classes.foldl (fun s c => (classRecs c s).foldl (fun s r => restoreRec cold r s) s) s

/-- A definition of a start is still to complete. -/
def definesPending (s : State) : Bool := (List.range 48).any (fun k => (skL k s).define.isSome)

/-- The records that waited for definitions are restored once those have completed (R605). -/
def restoreLater (s : State) : State :=
  if s.store.later.isEmpty || definesPending s || !linkLive s then s
  else
    let l := s.store.later
    settleDevice (l.foldl (fun s r => restoreRec false r s) (modStore (fun x => { x with later := [] }) s))

/-- The items that act on the P-die are sent after ADOPT_DONE, in the order of R605. What follows a definition waits for
it. -/
def restoreAdopted (s : State) : State :=
  let s := restoreClasses false [2, 1, 3] s
  let rest := ([4, 5, 6, 7, 8, 10].map (fun c => classRecs c s)).flatten
  restoreLater (modStore (fun x => { x with later := rest }) s)

end Sys2Proof.Machine
end

