-- ==== Sys2Proof/Machine/Update.lean ====
section
/-! DEFINITION. Firmware update (chapter 17): the session, UPDATE_BEGIN to UPDATE_CONFIRM, commit, handover, trial and
revert, the OTP counter, and the ends of the MRAM writes. -/

namespace Sys2Proof.Machine

/-- The update engine changed by f. -/
def modUpd (f : UpdSt → UpdSt) (s : State) : State := modStore (fun x => { x with upd := f x.upd }) s

/-- Firmware bank b changed by f. -/
def modFw (b : Bool) (f : FwBank → FwBank) (s : State) : State :=
  modStore (fun x => { x with fw := upd x.fw (b2n b) f }) s

/-- The bank that does not run. -/
def otherBank (s : State) : Bool := !s.store.running

/-- The bank that a boot record names active (R538, R546, R601). -/
def BootRec.active (b : BootRec) : Bool := if b.trial then b.candidate else b.fallback

/-! ### The session (R540, R541) -/

/-- The session ends, and the other bank is left without a valid descriptor (R540, R553). -/
def endUpdate (code : Nat) (s : State) : State :=
  let s := modFw (otherBank s) (fun _ => {}) s
  let s := completeAll (.update 0) .busy (fun _ => [])
    (modUpd (fun u => { u with state := 0, held := false, got := [], op := none }) s)
  updateEvent 1 code s

/-- The state is one that a session receives or holds a verified image in. -/
def receiving (s : State) : Bool := s.store.upd.state == 1 || s.store.upd.state == 2

/-- A session whose holder's authenticated session has ended is over (R541). -/
def checkHolder (s : State) : State :=
  let u := s.store.upd
  if u.held && receiving s && (slotOf u.slot s).ends != u.ends then endUpdate 4 s else s

/-- An accepted update opcode of the holder restarts the inactivity limit (R541). -/
def touchUpdate (e : Entry) (s : State) : State :=
  if s.store.upd.held && s.store.upd.slot == e.req.slot then modUpd (fun u => { u with idleEnd := mgmtStart s + 6000 }) s else s

/-- Slot n holds the update session. -/
def holds (n : Nat) (s : State) : Bool := s.store.upd.held && s.store.upd.slot == n

/-! ### UPDATE_BEGIN (R536, R542) -/

/-- The bytes of a descriptor from i on. -/
def descBytes (ws : List Word) (i n : Nat) : List Byte := ((wordsToBytes ws).drop i).take n

/-- The fields of a descriptor that the device uses (R536). -/
def descOf (ws : List Word) : ImgDesc :=
  let w := fun i => (wordAt ws i).toNat
  { version := w 2, arb := w 3, nblk := w 4, len := w 5, srecNew := w 6, srecMin := w 7, cfmtNew := w 8, cfmtMin := w 9
    imgHash := descBytes ws 40 32, tblHash := descBytes ws 72 32 }

/-- Check 2 of R542. -/
def descFormOk (ws : List Word) : Bool :=
  let d := descOf ws
  wordAt ws 0 == 0x96600F17 && wordAt ws 1 == 1 && 1 ≤ d.nblk && d.nblk ≤ 15360 && 512 * (d.nblk - 1) + 1 ≤ d.len &&
    d.len ≤ 512 * d.nblk && (descBytes ws 104 88).all (fun b => b == 0)

/-- Check 3 of R542. Without a running image, in recovery over two banks that have no valid descriptor, its SREC part is met
(log entry 106). -/
def descFits (d : ImgDesc) (s : State) : Bool :=
  let srec := match (fwBank s.store.running s).desc with
    | some r => d.srecMin ≤ r.srecNew && r.srecNew ≤ d.srecNew
    | none => true
  srec && d.cfmtMin ≤ (authBank s).cfmt && (authBank s).cfmt ≤ d.cfmtNew

/-- Check 4 of R542: the signature over bytes 0–191 under the update public key. -/
def descSigned (ws : List Word) : Bool :=
  let sig := descBytes ws 192 64
  ecdsaVerify (sha256 (descBytes ws 0 192)) Config.updateKey.1.toNat Config.updateKey.2.toNat (natBE (sig.take 32))
    (natBE (sig.drop 32))

/-- UPDATE_BEGIN (R542). -/
def updateBegin (r : Req) (s : State) : State × Ans :=
  let s := checkHolder s
  let d := descOf r.payload
  if s.store.upd.state != 0 then (s, .fail .busy [])
  else if r.object != 0 || !descFormOk r.payload || !descFits d s then (s, .fail .badObject [])
  else if !descSigned r.payload then (s, .fail .signatureFail [])
  else if d.arb < s.otp.floor then (s, .fail .versionRollback [])
  else
    let s := modFw (otherBank s) (fun _ => { desc := some d }) s
    let u : UpdSt := { state := 1, slot := r.slot, held := true, idleEnd := mgmtStart s + 6000, ends := (slotOf r.slot s).ends }
    (bump (ctr 0x0E 2) (modUpd (fun _ => u) s), .done [])

/-- UPDATE_BEGIN as the interpreter knows it. -/
def infoUpdateBegin : OpInfo :=
  { op := 0x0902, len := lenIs 64, auth := true, right := some 1, recovery := true, onAccept := touchUpdate
    run := fun e s => updateBegin e.req s }

/-- UPDATE_BEGIN (R542). -/
def execUpdateBegin (r : Req) (s : State) : Host.Outcome State Fault Refusal := .next (command infoUpdateBegin r s)

/-! ### UPDATE_BLOCK (R543) -/

/-- A block put into a bank's blocks, in rising order of their index. -/
def putBlock (i : Nat) (ws : List Word) : List (Nat × List Word) → List (Nat × List Word)
  | [] => [(i, ws)]
  | (j, x) :: rest =>
    if i < j then (i, ws) :: (j, x) :: rest
    else if i = j then (i, ws) :: rest
    else (j, x) :: putBlock i ws rest

/-- The status of checks 1 to 3 of an UPDATE_BLOCK, none where they pass (R543). -/
def blockRefused (r : Req) (s : State) : Option Status :=
  if s.store.upd.state != 1 || !holds r.slot s then some .busy
  else if (bankDesc (otherBank s) s).nblk ≤ obj r then some .badObject
  else if crc32c (wordsToBytes (args r 1 128)) != arg r 0 then some .blockCheckFail
  else none

/-- A block is refused with a status; a failed check of its data counts (R543, R556). -/
def refuseBlock (st : Status) (s : State) : State × Ans :=
  (if st = .blockCheckFail then bump (ctr 0x0E 4) s else s, .fail st [])

/-- The checks and the write of a block; whether its read-back verifies is a free value (R543, log entry 2). -/
def writeImageBlock (r : Req) (s : State) : State × Ans :=
  let i := obj r
  let ws := args r 1 128
  match blockRefused r s with
  | some st => refuseBlock st s
  | none =>
    let ok := Config.blockWritten s.free
    let s := { s with free := s.free + 1 }
    if !ok then (s, .fail .storeFail [])
    else
      let s := modFw (otherBank s) (fun b =>
        { b with blocks := putBlock i ws b.blocks, checks := b.checks.set i (arg r 0).toNat }) s
      (bump (ctr 0x0E 3) (modUpd (fun u => { u with got := if u.got.contains i then u.got else u.got ++ [i] }) s), .done [])

/-- A bank write of either store runs. -/
def bankWrites (s : State) : Bool := s.store.writing.isSome || s.keys.writing.isSome

/-- UPDATE_BLOCK: a block that passes its checks waits for a bank write in progress (R543). -/
def updateBlock (r : Req) (s : State) : State × Ans :=
  let s := checkHolder s
  match blockRefused r s with
  | some st => refuseBlock st s
  | none => if bankWrites s then (s, .wait .bankIdle true []) else writeImageBlock r s

/-- UPDATE_BLOCK as the interpreter knows it. -/
def infoUpdateBlock : OpInfo :=
  { op := 0x0903, len := lenIs 129, auth := true, right := some 1, recovery := true, onAccept := touchUpdate
    run := fun e s => updateBlock e.req s }

/-- UPDATE_BLOCK (R543). -/
def execUpdateBlock (r : Req) (s : State) : Host.Outcome State Fault Refusal := .next (command infoUpdateBlock r s)

/-- The commands that waited for the bank writes in progress go on once these have ended (R535, R543). -/
def banksIdle (s : State) : State :=
  (s.host.flight.filter (fun e => e.stage == .taken && e.await == .bankIdle)).foldl (fun s e =>
    if e.op = 0x0901 then
      if s.store.writing.isSome then s
      else complete e .done (cfgReadWords e.req.object (arg e.req 0).toNat s) s
    else if bankWrites s then s
    else
      let (s, a) := writeImageBlock e.req (checkHolder s)
      settle e a s) s

/-- CFG_BANK_VERIFIED: a configuration bank write has been read back, and verifies or not; it is written three times at
most (R530). -/
def execCfgBankVerified (t : Nat) (ok : Bool) (s : State) : Host.Outcome State Fault Refusal :=
  .next (match s.store.writing with
    | none => s
    | some edits =>
      let s := toL t s
      if ok then banksIdle (cfgWriteDone edits s)
      else if s.store.tries < 2 then bump (ctr 0x0E 1) (modStore (fun x => { x with tries := x.tries + 1 }) s)
      else banksIdle (cfgWriteFailed s))

/-- KEY_BANK_VERIFIED: a bank write of the key store has been read back, and verifies or not (R481, R543). -/
def execKeyBankVerified (t : Nat) (ok : Bool) (s : State) : Host.Outcome State Fault Refusal :=
  .next (banksIdle (keyBankVerified t ok s))

/-! ### UPDATE_VERIFY (R544) -/

/-- The lowest block of the image that this session has not received. -/
def missingBlock (s : State) : Option Nat :=
  (List.range (bankDesc (otherBank s) s).nblk).find? (fun i => !s.store.upd.got.contains i)

/-- UPDATE_VERIFY (R544). -/
def updateVerify (r : Req) (s : State) : State × Ans :=
  let s := checkHolder s
  if s.store.upd.state != 1 || !holds r.slot s then (s, .fail .busy [])
  else match missingBlock s with
    | some i => (s, .fail .badObject [word i])
    | none => (modUpd (fun u => { u with op := some .verify }) s, .wait (.update 0) true [])

/-- UPDATE_VERIFY as the interpreter knows it. -/
def infoUpdateVerify : OpInfo :=
  { op := 0x0904, len := lenIs 0, auth := true, right := some 1, obj := objZero, recovery := true
    onAccept := touchUpdate
    run := fun e s => updateVerify e.req s }

/-- UPDATE_VERIFY (R544). -/
def execUpdateVerify (r : Req) (s : State) : Host.Outcome State Fault Refusal := .next (command infoUpdateVerify r s)

/-- The first block whose words differ from the check stored for it (R544). -/
def badBlock (b : FwBank) : Option Nat :=
  (b.blocks.find? (fun p => (crc32c (wordsToBytes p.2)).toNat != b.checks.get p.1)).map (fun p => p.1)

/-- TBL_HASH and IMG_HASH of a bank agree with its descriptor (R536, R544). -/
def hashesOk (b : FwBank) (d : ImgDesc) : Bool :=
  sha256 ((List.range d.nblk).map (fun i => bytesLE 4 (b.checks.get i))).flatten == d.tblHash &&
    sha256 (b.blocks.map (fun p => wordsToBytes p.2)).flatten == d.imgHash

/-- The re-reading of the image ends: bad names a block that failed its check on this reading (R544). -/
def verifyDone (bad : Option Nat) (s : State) : State :=
  let b := fwBank (otherBank s) s
  let s := modUpd (fun u => { u with op := none }) s
  match bad.orElse (fun _ => badBlock b) with
  | some i => completeAll (.update 0) .blockCheckFail (fun _ => [word i]) (bump (ctr 0x0E 4) s)
  | none =>
    if !hashesOk b (bankDesc (otherBank s) s) then completeAll (.update 0) .signatureFail (fun _ => []) s
    else
      let s := modUpd (fun u => { u with state := 2 }) (modFw (otherBank s) (fun b => { b with verified := true }) s)
      updateEvent 2 0 (completeAll (.update 0) .done (fun _ => []) s)

/-! ### UPDATE_COMMIT (R546, R601) -/

/-- UPDATE_COMMIT (R546, R601). -/
def updateCommit (r : Req) (s : State) : State × Ans :=
  let s := checkHolder s
  if s.store.upd.state != 2 || !holds r.slot s then (s, .fail .busy [])
  else
    (modUpd (fun u => { u with state := 3, op := some .fallbackCopy, recovery := s.ldie == .recovery }) s,
      .wait (.update 1) true [])

/-- UPDATE_COMMIT as the interpreter knows it. -/
def infoUpdateCommit : OpInfo :=
  { op := 0x0905, len := lenIs 0, auth := true, right := some 1, obj := objZero, recovery := true
    onAccept := touchUpdate
    run := fun e s => updateCommit e.req s }

/-- UPDATE_COMMIT (R546). -/
def execUpdateCommit (r : Req) (s : State) : Host.Outcome State Fault Refusal := .next (command infoUpdateCommit r s)

/-- RECOVERY_UPDATE_COMMIT: UPDATE_COMMIT in a recovery start, which ends in a restart into the verified image (R601). -/
def execRecoveryUpdateCommit (r : Req) (s : State) : Host.Outcome State Fault Refusal :=
  .next (if s.ldie == .recovery then command infoUpdateCommit r s else s)

/-- An L3 WARM restart that no fault causes (R548, R550, R601). -/
def restartWarm (s : State) : State :=
  alvLow 5 (modFaults (fun f =>
    { f with pendingL3 := some (f.pendingL3.getD { chip := false, fault := false, w0 := 0, w2 := 0, cls := 0 }) }) s)

/-- The trial image is reverted for a reason of REVERTED, by an L3 WARM restart (R550). -/
def revert (code : Nat) (s : State) : State :=
  if s.store.upd.reverting.isSome then s
  else restartWarm (modUpd (fun u => { u with reverting := some code }) s)

/-- The boot record names the verified bank for a trial (R546, R601). -/
def bootTrialDone (s : State) : State :=
  let s := modStore (fun x => { x with boot := { fallback := x.running, candidate := !x.running, trial := true } }) s
  if s.store.upd.recovery then
    restartWarm (completeAll (.update 1) .done (fun _ => [0]) (modUpd (fun u => { u with op := none }) s))
  else modUpd (fun u => { u with op := none, armed := true }) s

/-- The counter is to be raised to an image's ARB (R538, R551). -/
def raiseCounter (arb : Nat) (s : State) : State :=
  if arb ≤ s.otp.floor then s else { s with otp := { s.otp with pend := s.otp.pend ++ [min 128 arb + 1] } }

/-- The trial image is confirmed in the boot record; the counter follows where it is below the image's ARB (R551). -/
def confirmDone (code : Nat) (st : Status) (s : State) : State :=
  let s := modUpd (fun u => { u with state := 0, raising := false }) s
  updateEvent 4 code (completeAll (.update 2) st (fun _ => []) s)

/-- The boot record names the running bank active, TRIAL clear, and the FALLBACK copy is freed (R551). -/
def bootConfirmDone (s : State) : State :=
  let s := modStore (fun x =>
    { x with boot := { fallback := x.running, candidate := x.running, trial := false }, fallback := none }) s
  let s := modUpd (fun u => { u with op := none }) s
  let arb := (bankDesc s.store.running s).arb
  if arb ≤ s.otp.floor then confirmDone 0 .done s
  else raiseCounter arb (modUpd (fun u => { u with raising := true }) s)

/-- An MRAM operation that failed: its command completes with STORE_FAIL and the state is the one before it (log entry
107). -/
def updFailed (op : UpdOp) (s : State) : State :=
  let s := modUpd (fun u => { u with op := none }) s
  match op with
  | .verify => completeAll (.update 0) .storeFail (fun _ => []) s
  | .bootConfirm => completeAll (.update 2) .storeFail (fun _ => []) s
  | _ => completeAll (.update 1) .storeFail (fun _ => []) (modUpd (fun u => { u with state := 2, recovery := false }) s)

/-- UPDATE_WRITE_VERIFIED: the MRAM operation of the update flow in progress completes, or has failed; bad names a block that
failed the re-reading of UPDATE_VERIFY (R544, R546, R551, R601). -/
def execUpdateWriteVerified (t : Nat) (ok : Bool) (bad : Option Nat) (s : State) : Host.Outcome State Fault Refusal :=
  .next (match s.store.upd.op with
    | none => s
    | some op =>
      let s := toL t s
      if !hostUp s then s
      else if !ok && op != .verify then updFailed op s
      else match op with
        | .verify => verifyDone bad s
        | .fallbackCopy =>
          modUpd (fun u => { u with op := some .bootTrial }) (modStore (fun x => { x with fallback := some (authBank s) }) s)
        | .bootTrial => bootTrialDone s
        | .bootConfirm => bootConfirmDone s)

/-! ### The handover (R547, R548) -/

/-- The handover begins at a management-tick boundary after both writes of the commit: dispatch stops (R546, R547). -/
def handoverStart (s : State) : State :=
  if !s.store.upd.armed || s.ldie != .running then s
  else
    { (modUpd (fun u => { u with armed := false, handover := some s.now, trialFrom := mgmtNow s }) s) with
      clk := { s.clk with paused := true } }

/-- HANDOVER: the first dispatch by the new image at tick t, no later than 4 ms after the boundary (R547, R548). -/
def execHandover (t : Nat) (s : State) : Host.Outcome State Fault Refusal :=
  .next (match s.store.upd.handover with
    | none => s
    | some b =>
      let s := toL (min t (b + 800000)) s
      if s.ldie != .running then s
      else
        let pause := s.now - b
        let s := modStore (fun x => { x with running := x.boot.candidate, result := 1, pause := pause / 200 }) s
        let s := modUpd (fun u => { u with state := 4, held := false, handover := none, got := [] }) s
        let s := releaseWrites (bump (ctr 0x0E 5) { s with clk := { s.clk with paused := false } })
        let v := (bankDesc s.store.running s).version
        let s := completeAll (.update 1) .done (fun _ => [word v]) s
        let s := updateEvent 3 (pause / 20000) (updateEvent 1 1 s)
        if (authBank s).cfmt = runCfmt s then s else pushEdit {} s)

/-- HANDOVER_FAILURE: the record is rejected, or the first dispatch has not come in time: the device reverts (R548). -/
def execHandoverFailure (t : Nat) (s : State) : Host.Outcome State Fault Refusal :=
  .next (if s.store.upd.handover.isNone || s.ldie != .running then s else revert 4 (toL t s))

/-! ### UPDATE_ABORT and UPDATE_CONFIRM (R545, R551) -/

/-- UPDATE_ABORT (R545). -/
def updateAbort (r : Req) (s : State) : State × Ans :=
  let s := checkHolder s
  match s.store.upd.state with
    | 0 => (s, .done [])
    | 3 => (s, .fail .busy [])
    | 4 => if s.store.boot.trial then (revert 1 s, .wait (.update 3) false []) else (s, .done [])
    | _ => if holds r.slot s then (endUpdate 2 s, .done []) else (s, .fail .busy [])

/-- UPDATE_ABORT as the interpreter knows it. -/
def infoUpdateAbort : OpInfo :=
  { op := 0x0906, len := lenIs 0, auth := true, right := some 1, obj := objZero, recovery := true
    onAccept := touchUpdate
    run := fun e s => updateAbort e.req s }

/-- UPDATE_ABORT (R545). -/
def execUpdateAbort (r : Req) (s : State) : Host.Outcome State Fault Refusal := .next (command infoUpdateAbort r s)

/-- UPDATE_CONFIRM (R551). -/
def updateConfirm (s : State) : State × Ans :=
  if s.store.upd.state != 4 || !s.store.boot.trial || s.store.upd.op.isSome then (s, .fail .busy [])
  else (modUpd (fun u => { u with op := some .bootConfirm }) s, .wait (.update 2) true [])

/-- UPDATE_CONFIRM as the interpreter knows it. -/
def infoUpdateConfirm : OpInfo :=
  { op := 0x0907, len := lenIs 0, auth := true, right := some 1, obj := objZero, onAccept := touchUpdate
    run := fun _ s => updateConfirm s }

/-- UPDATE_CONFIRM (R551). -/
def execUpdateConfirm (r : Req) (s : State) : Host.Outcome State Fault Refusal := .next (command infoUpdateConfirm r s)

/-! ### Limits and OTP (R492, R541, R550, R551) -/

/-- UPDATE_INACTIVITY: 6,000 management ticks without an accepted update opcode of the holder (R541). -/
def execUpdateInactivity (s : State) : Host.Outcome State Fault Refusal :=
  let u := s.store.upd
  .next (if !u.held || !receiving s || !hostUp s then s else endUpdate 3 (toL (u.idleEnd * mgmtTicks) s))

/-- TRIAL_EXPIRY: TRIAL_T minutes have passed since the handover boundary (R550). -/
def execTrialExpiry (s : State) : Host.Outcome State Fault Refusal :=
  let x := s.store
  .next (if x.upd.state != 4 || !x.boot.trial || x.trialT = 0 || s.ldie != .running then s
    else revert 3 (toL ((x.upd.trialFrom + 12000 * x.trialT) * mgmtTicks) s))

/-- A raise of the anti-rollback counter to n reads back programmed, or has failed (R538, R551). -/
def counterRaised (n : Nat) (ok : Bool) (s : State) : State :=
  let s := if ok then { s with otp := { s.otp with floor := max s.otp.floor n } } else reportL 0x1C5 0xFF s
  if !s.store.upd.raising then s
  else confirmDone (b2n (!ok)) (if ok then .done else .storeFail) s

/-- OTP_PROGRAM_DONE: the OTP programming under way reads back programmed, or has failed after three attempts (R492,
R551). -/
def execOtpProgramDone (t : Nat) (ok : Bool) (s : State) : Host.Outcome State Fault Refusal :=
  .next (match s.otp.pend with
    | [] => s
    | n :: rest =>
      let s := { (toL t s) with otp := { s.otp with pend := rest } }
      if n = 0 then rootRetired ok s else counterRaised (n - 1) ok s)

end Sys2Proof.Machine
end

