-- ==== Sys2Proof/Machine/Reset.lean ====
section
/-! DEFINITION. What an L-die reset does (R87, R447, R453, R568), and the revert of a trial image that it brings (R550). -/

namespace Sys2Proof.Machine

/-- The L-die resets of R568. A wake from OFF is a power-on. -/
inductive LReset where
  | powerOn | rstn | chip | warm | deepSleep
  deriving DecidableEq, Repr, Inhabited

/-- The reason that DEVICE_RESTARTED and SPINDLE_STAT.REASON carry (R105, R568). -/
def LReset.reason : LReset → Nat
  | .powerOn => 1 | .rstn => 2 | .chip => 3 | .warm => 4 | .deepSleep => 1

/-! ### The store (R530, R540, R546, R550) -/

/-- An event of a start, held for each slot's binding (R553, R579, log entry 43). -/
def holdEvent (opc : Nat) (ws : List Word) (s : State) : State :=
  (List.range 4).foldl (fun s n => modSlot n (fun sl => { sl with heldMore := sl.heldMore ++ [(opc, s.now, ws)] }) s) s

/-- The trial image is reverted: the boot record names the fallback bank, and the FALLBACK copy becomes the authoritative
configuration (R550). What the start reports of it waits in the notes. -/
def revertNow (code : Nat) (s : State) : State :=
  let x := s.store
  let a := (nth x.banks 0).seq
  let b := (nth x.banks 1).seq
  let seq := ((if seqNewer a b then a else b) + 1) % 2 ^ 32
  let n := writeBank s
  let banks := match x.fallback with
    | some b => put x.banks n { b with seq := seq, valid := true }
    | none => x.banks
  bump (ctr 0x0E 6) (modStore (fun x =>
    { x with banks := banks, auth := if x.fallback.isSome then some n else x.auth, fallback := none
             boot := { fallback := x.boot.fallback, candidate := x.boot.fallback, trial := false }
             result := 2, reverted := some code }) s)

/-- The store controller through an L-die reset: writes in progress are lost, an update session ends, a trial image reverts
unless the reset starts it out of recovery (R530, R540, R550, R601). -/
def resetStore (s : State) : State :=
  let u := s.store.upd
  let s := if u.state = 1 || u.state = 2 then modFw (otherBank s) (fun _ => {}) s else s
  let go := u.recovery && s.store.boot.trial && s.faults.pendingL3.isSome
  let notes := if go then [(1, 1)] else if u.held then [(1, 6)] else []
  let s := if s.store.boot.trial && !go then
      revertNow (u.reverting.getD (if u.handover.isSome then 4 else 2)) s else s
  modStore (fun x =>
    { x with edits := [], writing := none, ended := [], tries := 0, dev := [], later := [], staged := false, notes := notes, degraded := false
             upd := { recovery := go }, trialT := 0, result := if x.reverted.isSome then x.result else 0
             pause := if x.reverted.isSome then x.pause else 0 }) s

/-! ### The other blocks -/

/-- The host side through an L-die reset: everything goes, and each slot holds DEVICE_RESTARTED, and the FAULT event of an L3
restart that a fault caused (R87). -/
def resetHost (k : LReset) (s : State) : State :=
  let held := match s.faults.pendingL3 with
    | some p => if p.fault then some (faultPayload p.cls 3 p.w0 p.w2 s) else none
    | none => none
  { s with host := { slots := Vector.replicate 4 { heldRestart := some k.reason, heldFault := held } } }

/-- The fault collector through an L-die reset: the retention domain keeps class states, records, sticky bits and L4_SEEN, and
the quiet periods count on (R453). -/
def resetFaults (k : LReset) (s : State) : State :=
  let f := s.faults
  let fresh : FaultSt := {}
  let m := s.now / mgmtTicks
  let keep := fun (i : Nat) =>
    let c := nth f.cls i
    { c with cfg := (nth fresh.cls i).cfg, quietEnd := c.quietEnd - m }
  { s with faults := match k with
    | .powerOn => fresh
    | _ => { fresh with cls := Vector.ofFn (fun (i : Fin 5) => keep i.val), sticky := f.sticky, l4Seen := f.l4Seen } }

/-- The key store through an L-die reset: MRAM stays, what was not written is gone, and the store is LOCKED (R483, R485). -/
def resetKeys (s : State) : State :=
  let k := s.keys
  { s with
    keys := { slots := k.stored, stored := k.stored, older := k.older, bankB := k.bankB, seq := k.seq, zcount := k.zcount
              nonce := k.nonce, mark := k.mark, writes := k.writes }
    otp := { s.otp with pend := [] } }

/-- Ranging through an L-die reset: FAILS, LOCK_LEVEL and the remaining lock-out are retained (R513, R517). -/
def resetRange (k : LReset) (s : State) : State :=
  let x := s.range
  let m := s.now / mgmtTicks
  { s with range := match k with
    | .powerOn => {}
    | _ => { fails := x.fails, level := x.level, lockEnd := x.lockEnd.map (fun t => t - m) } }

/-- The clock and power manager through an L-die reset: WARM leaves it, a wake from DEEP SLEEP leaves its registers, any other
reset clears it but for PREF, which the retention domain holds, and MODE, which the next start takes (R447, R557, R559, R568). -/
def resetClk (k : LReset) (s : State) : State :=
  let c := s.clk
  let start := fun (c : ClkSt) =>
    { c with step := .released, entry := none, recovery := 0, otherBooted := false, pdieCold := false, coldFs := false
             chainWait := false, step9 := 0, paused := false, waking := false, railWait := none }
  { s with clk := match k with
    | .warm => { (start c) with noBootsel := s.store.upd.recovery, power := 0 }
    | .deepSleep => { (start c) with
        rootRc := true, locked := false, coast := false, switch := none, xtalOk := false, xtalBad := false, xtalAbsent := false
        noBootsel := false, reqs := [], waking := c.waking }
    | .powerOn => {}
    | _ => { ctl := 4 ||| (c.ctl &&& 1), pref := c.pref } }

/-- A warm restart or a chip reset counted (R467). -/
def countRestart (k : LReset) (s : State) : State :=
  if k == .warm then bump (ctr 0x0F 0x420) s
  else if k == .chip then bump (ctr 0x0F 0x421) s
  else s

/-- The counters through an L-die reset: those of the P-die stay, and those of the retention domain but for a power-on. -/
def resetCounters (k : LReset) (s : State) : State :=
  countRestart k { s with counters := s.counters.filter (fun p => pdieCounter p.1 || (k != .powerOn && retainedCounter p.1)) }

/-- The L-die goes through a reset and starts: device time begins at 0, down frames stop, and the P-die is left to its
hold-over (R28, R87, R568). -/
def lDieReset (k : LReset) (s : State) : State :=
  let s := resetRange k (resetKeys (resetStore (resetHost k s)))
  let missed := if k == .powerOn then 0 else s.spindle.missed
  let s := resetCounters k (resetClk k (resetFaults k s))
  { s with now := 0, ldie := .starting, loom := {}, weft := {}, act := {}, light := {}, fio := {}, can := {}, nm := {}
           spindle := { reason := k.reason, missed := missed } }

end Sys2Proof.Machine
end

