-- ==== Sys2Proof/Machine/Entry.lean ====
section
/-! DEFINITION. The entry into the low-power states through its four abort points, and PWR_STATE_REQ (R571 to R573, R585). -/

namespace Sys2Proof.Machine

/-- The power state that a target of PWR_STATE_REQ is to the P-die: 1 SLEEP, 2 DEEP SLEEP, 3 OFF (R569). -/
def pTarget (target : Nat) : Nat := target - 1

/-! ### PWR_STATE_REQ (R585) -/

/-- Check 1: reserved bits, and a wake source that acts in the target state (R574). -/
def wakeFits (target : Nat) (w : Word) (s : State) : Bool :=
  onlyBits 1 w && (target < 2 || bit 0 w || s.clk.wakeEn.toNat &&& wakeActs target != 0)

/-- Check 3: the network channels sleep or are off, the actuator slots are idle, and for DEEP SLEEP and OFF every skein is off. -/
def quietFor (target : Nat) (s : State) : Bool :=
  (List.range 12).all (fun c => !(nmCh c s).en || (nmCh c s).phase == 0 || (nmCh c s).phase == 3) &&
    (List.range 16).all (fun a => (actL a s).phase == 0) &&
    (target < 3 || (List.range 48).all (fun k => !(defL k s).defined || offL k s))

/-- PWR_STATE_REQ for a target state: a wake source latches from its dispatch on, so an earlier report of the P-die counts for
nothing (R571, R585). -/
def pwrStateReq (e : Entry) (s : State) : State × Ans :=
  let target := obj e.req
  let w := arg e.req 0
  let force := bit 0 w
  if !wakeFits target w s then (s, .fail .badObject [])
  else if target < 2 then
    let s := modClk (fun c => { c with power := target }) s
    (if target = 0 then restartWdogs s else s, .done [word target])
  else if s.clk.entry.isSome || (1 ≤ s.store.upd.state && s.store.upd.state ≤ 3) then (s, .fail .busy [])
  else if !force && !quietFor target s then (s, .fail .busy [])
  else
    let entry : PwrEntry := { target := target, since := s.now, force := force, slot := e.req.slot, tag := e.req.tag }
    (stopRun 6 (modClk (fun c => { c with entry := some entry, wakeHeard := 0 }) s), .wait .power true [])

/-- PWR_STATE_REQ as the interpreter knows it. -/
def infoPwrStateReq : OpInfo :=
  { op := 0x0B00, len := lenIs 1, obj := fun r _ => obj r ≤ 4, run := pwrStateReq }

/-- PWR_STATE_REQ (R585). -/
def execPwrStateReq (r : Req) (s : State) : Host.Outcome State Fault Refusal := .next (command infoPwrStateReq r s)

/-! ### The phases (R571) -/

/-- The limit of a phase, ticks (R571). -/
def phaseLimit (phase : Nat) : Nat :=
  match phase with
  | 1 => 20000000
  | 2 => 3000000
  | 3 => 200000
  | _ => 20000

/-- Nothing of the configuration, of FV, RCTR and the lock-out, or of the keys is still to be written and verified. -/
def storeQuiet (s : State) : Bool :=
  s.store.edits.isEmpty && s.store.writing.isNone && deviceItems s == s.store.dev && !persistPend s &&
    (List.range 48).all (fun k => !(skL k s).learn.save)

/-- The work of a phase is done (R571). -/
def phaseDone (e : PwrEntry) (s : State) : Bool :=
  match e.phase with
  | 1 => s.range.run.isNone && s.host.flight.all (fun x => x.stage != .taken || x.await == .power)
  | 2 => storeQuiet s
  | 3 => linkLive s && s.pdie.target == pTarget e.target &&
      !s.weft.cfg.any (fun c => c.item == .power (pTarget e.target))
  | _ => true

/-- The work with which a phase begins (R571). -/
def beginPhase (phase target : Nat) (s : State) : State :=
  match phase with
  | 2 => saveCounters s
  | 3 => (pushCfg (.power (pTarget target)) s).2
  | _ => s

/-- The entry is abandoned at an abort point (R572). -/
def abandon (ap : Nat) (e : PwrEntry) (s : State) : State :=
  let s := modClk (fun c => { c with entry := none, lastAp := ap }) s
  let s := if 3 ≤ e.phase then (pushCfg (.power 0) s).2 else s
  let s := completeAll .power .done (fun _ => [pack [(8, ap), (0, 0)]]) (bump (ctr 0x10 (0x20 + ap)) s)
  powerEvent 1 ap e.latched s

/-- With FORCE a slot that is not IDLE is stopped as by ACT_STOP (R585). -/
def stopSlots (s : State) : State :=
  (List.range 16).foldl (fun s a => if (actL a s).phase = 0 then s else (actStop a s).1) s

/-- AP4 is passed: PWR_STATE_REQ completes with the target state (R573, R585). -/
def passLast (e : PwrEntry) (s : State) : State :=
  let s := modClk (fun c => { c with ap4 := s.now, entry := some { e with phase := 5 } }) s
  let s := if e.force then stopSlots s else s
  completeAll .power .done (fun _ => [word e.target]) s

/-- ABORT_POINT: the phase that runs ends at its abort point: the entry is abandoned where a wake has latched, else it goes on
(R571 to R573). -/
def execAbortPoint (t : Nat) (s : State) : Host.Outcome State Fault Refusal :=
  let s := toL t s
  .next (match s.clk.entry with
    | none => s
    | some e =>
      if 5 ≤ e.phase || e.since + phaseLimit e.phase < s.now || !phaseDone e s then s
      else if e.latched != 0 then abandon e.phase e s
      else if e.phase = 4 then passLast e s
      else
        beginPhase (e.phase + 1) e.target
          (modClk (fun c => { c with entry := some { e with phase := e.phase + 1, since := s.now } }) s))

/-- ENTRY_PHASE_TIMEOUT: the phase that runs exceeds its limit; the entry is abandoned at its abort point, and PWR_ENTRY is
reported (R571). -/
def execEntryPhaseTimeout (s : State) : Host.Outcome State Fault Refusal :=
  .next (match s.clk.entry with
    | none => s
    | some e =>
      if 5 ≤ e.phase then s
      else reportL 0x206 e.phase (abandon e.phase e (toL (e.since + phaseLimit e.phase) s)))

/-! ### Into the state (R573) -/

/-- A skein of the P-die as it is switched off for DEEP SLEEP or OFF (R573). -/
def restSkein (x : SkeinP) : SkeinP :=
  { x with sp := {}, hand := none, drive := .off, change := none, bactual := 0, via := none, brakeEnd := none
           inrushEnd := none, retryEnd := none, flash := none }

/-- The P-die parks for DEEP SLEEP or OFF: every output is off and its timebase stops (R569, R573). -/
def parkPDie (s : State) : State :=
  let s := (List.range 48).foldl (fun s k => accrue k s) s
  let s := (List.range 16).foldl (fun s a => stopSlot a s) s
  let s := modP (fun p =>
    { p with sup := .asleep, lived := false, warm := false, slewBy := 0, skeins := p.skeins.map restSkein, silentAt := none, expiry := none
             ports := p.ports.map (fun x => { x with blank := true, swap := none }) }) s
  fioFailSafe ((List.range 48).foldl (fun s k => driveGates k s) s)

/-- The P-die applies the target state: its field pins are polled from now on (R328, R573). -/
def enterPDie (target : Nat) (s : State) : State :=
  let s := modP (fun p => { p with power := pTarget target, target := 0 }) s
  let s := modFioP (fun f => { f with lastPoll := s.pNow, pins := f.pins.map (fun x => { x with polls := 0 }) }) s
  syncAllTrx (if target = 2 then s else parkPDie s)

/-- The regulator requests of an entry (R573, R582). -/
def entryRails (target : Nat) (s : State) : State :=
  match target with
  | 3 => pushReg { rail := 2, kind := .off } s
  | 4 => pushReg { rail := 1, kind := .off } (pushReg { rail := 0, kind := .off } (pushReg { rail := 2, kind := .off } s))
  | _ => s

/-- The L-die goes dark: in DEEP SLEEP its core domains are gated, in OFF it is unpowered; what the always-on domain or the
P-die holds of the power manager stays (R568, R569). -/
def darken (target : Nat) (s : State) : State :=
  let c := s.clk
  let beat := s.host.chain.sent
  let s := if target = 3 then lDieReset .deepSleep s else
    modClk (fun x => { x with wakeEn := c.wakeEn, wakeSrc := c.wakeSrc, wakeEdge := c.wakeEdge, wakeLevel := c.wakeLevel
                              wakeTimer := c.wakeTimer, ap4 := c.ap4 }) (lDieReset .powerOn s)
  let s := modClk (fun x => { x with power := target, reqs := c.reqs }) s
  modChainSt (fun x => { x with sent := beat }) { s with ldie := .off }

/-- ENTRY_COMMIT: after AP4 and the response of PWR_STATE_REQ, or 1 ms, the device enters the target state (R573). -/
def execEntryCommit (t : Nat) (s : State) : Host.Outcome State Fault Refusal :=
  let s := toL t s
  .next (match s.clk.entry with
    | none => s
    | some e =>
      let left := !s.host.flight.any (fun x => x.op == 0x0B00 && x.req.slot == e.slot && x.req.tag == e.tag)
      if e.phase < 5 || (!left && s.now < s.clk.ap4 + 200000) then s
      else
        let s := (List.range 12).foldl (fun s k => stopForClock k s) s
        let s := alvLow 1 s
        let s := if e.target = 2 then s else
          sendBeats (modChainSt (fun c => { c with park := true }) s)
        let s := bump (ctr 0x10 (0x10 + e.target)) (enterPDie e.target s)
        let s := modClk (fun c => { c with power := e.target, entry := none }) (entryRails e.target s)
        let s := if e.target = 2 then s else darken e.target s
        if e.latched = 0 then s
        else
          let s := modClk (fun c => { c with waking := true }) s
          if e.target = 2 then s else wakePDie s)

end Sys2Proof.Machine
end

