-- ==== Sys2Proof/Machine/Adopt.lean ====
section
/-! DEFINITION. ADOPT_DONE: what the L-die adopts from the P-die, and what follows (R162, R213, R244 to R246, R268, R299,
R331). -/

namespace Sys2Proof.Machine

/-! ### Skeins and cells (R162, R213, R244) -/

/-- The handover of skein k as the P-die holds it. Its masks name the outgoing cell alone: the incoming one is that of the
handover that the L-die itself has started, and after an L-die reset no cell is taken for it, so that each other ACTIVE cell has
its failover (R157; DESIGN CHOICE, log entry 96). -/
def adoptedHand (fresh : Bool) (k : Nat) (s : State) : Option Handover :=
  match (skP k s).hand.bind (fun h => (bitList 12 h.outgoing).head?) with
  | none => none
  | some i =>
    let o := (defP k s).first + i
    let own := (skL k s).hand.filter (fun x => !fresh && x.outgoing == some o)
    some { incoming := own.bind (fun x => x.incoming), outgoing := some o }

/-- The L-die takes skein k from the readback: its definition, its set-point as the commanded one, mask and roles; each cell
still taken out is reported at the present tick (R162, R244). fresh tells of an L-die that has just started. -/
def adoptSkein (fresh : Bool) (k : Nat) (s : State) : State :=
  let p := skP k s
  let changed := fresh || (skL k s).defn != p.defn
  let hand := adoptedHand fresh k s
  let s := modSkL k (fun x =>
    { x with defn := p.defn, sp := p.sp, send := false, define := none, hand := hand, joining := []
             overCap := if fresh then p.cap else x.overCap, lastChange := if fresh then s.now else x.lastChange }) s
  let s := rolesOfMask k p.defn p.mask s
  let out := p.defn.cells.filter (fun n => causePending (cellP n s))
  let order := ranked (cellsIn k .standby s) s
  modSkL k (fun x =>
    { x with reports := out.map (fun n => { cell := n, cause := (cellP n s).cause, tick := s.now }), spares := order
             learn := if changed then {} else x.learn }) s

/-- Every PAUSING cell starts the full pause of its present rung anew at the present tick, on the die that times it (R209,
R213). -/
def restartPauses (s : State) : State :=
  let s := modP (fun p => { p with cells := p.cells.map (fun c =>
    if c.ladder == .pausing then startPause false s.pNow c else c) }) s
  let timed := (List.range 96).filter (fun n => (cellP n s).ladder == .pausing && 4 ≤ (cellP n s).tries)
  modLoom (fun l =>
    { l with releases := [], pauses := timed.map (fun n => (n, mgmtStart s + rungMgmt (cellP n s).tries)) }) s

/-- The L-die's copies of the power array as the readback gives them. -/
def adoptArray (fresh : Bool) (s : State) : State :=
  let s := restartPauses s
  let s := modLoom (fun l =>
    { l with view := s.pdie.cells, skeinView := s.pdie.skeins, bankView := s.pdie.banks, prot := s.pdie.prot
             widened := bitsOf ((List.range 48).filter (fun k => widened k s))
             roles := Vector.replicate 96 .none }) s
  (List.range 48).foldl (fun s k => adoptSkein fresh k s) s

/-! ### Definitions (R245, R594) -/

/-- The definition that the L-die knows for skein k beside the P-die's: the stored one at a start, else its own (R245). -/
def knownDef (fresh : Bool) (k : Nat) (s : State) : Option SkeinDef :=
  if fresh then
    ((storedRecs s).find? (fun r => r.cls == 1 && r.inst == k)).map (fun r => defOf { (default : Req) with payload := r.data })
  else if (defL k s).defined then some (defL k s) else none

/-- A known definition agrees with the P-die's: in the fields of the fail-safe memory where the P-die has it from there. -/
def defAgrees (k : Nat) (d : SkeinDef) (s : State) : Bool :=
  if (skP k s).fromFs then storedPart d == (skP k s).defn else d == (skP k s).defn

/-- Where the P-die holds only what its fail-safe memory stores of a skein, the L-die sends the rest; a stored definition that
differs from the live one is reported, once, with the first such skein (R245). -/
def settleDefs (fresh : Bool) (known : List (Nat × SkeinDef)) (s : State) : State :=
  let held := known.filter (fun p => (skP p.1 s).defn.defined)
  let fill := held.filter (fun p => (skP p.1 s).fromFs && defAgrees p.1 p.2 s)
  let s := fill.foldl (fun s p => (pushCfg (.fill p.1 p.2) s).2) s
  match held.find? (fun p => !defAgrees p.1 p.2 s) with
  | some p => if fresh then reportL 0x123 p.1 s else s
  | none => s

/-! ### The other blocks (R268, R299) -/

/-- The slots: each that is not IDLE brings its phase, one that the P-die has ended is IDLE, and none is kept in HOLD by a
fail-safe state any more (R268, R269). -/
def adoptSlots (s : State) : State :=
  (List.range 16).foldl (fun s a =>
    let s := modActP a (fun x => { x with fsHold := false, flags := { x.flags with heldFs := false } }) s
    let p := actP a s
    let s := modActL a (fun x => { x with prof := p.prof }) s
    if p.phase != 0 then takeActEvent a 0 p.phase p.flags s.pNow s
    else if 2 ≤ (actL a s).phase then setPhase a 0 s else s) s

/-- The matrix ports: enable state, scan fields and displayed buffer; after a reset the copy of the frame memory is stale
(R299). -/
def adoptPorts (fresh : Bool) (s : State) : State :=
  (List.range 2).foldl (fun s p =>
    let x := portP p s
    let fs := nth s.pdie.portFs p
    let lit := portLit x s
    modPortL p (fun y =>
      { y with cfg := setFld 30 30 (b2n fs) ((y.cfg &&& ~~~portPBits) ||| (x.cfg &&& portPBits)), coli := x.coli
               displayed := x.displayed, scanning := lit, temp := x.temp, lsyncLost := x.lsyncLost, rowF := x.rowF
               colOpen := x.colOpen, colShort := x.colShort, factor := x.factor, stale := y.stale || fresh }) s) s

/-! ### What the P-die queued (R234, R448) -/

/-- A frame that waited for the link reaches the L-die: the array comes from the readback itself, and faults raise no reaction
above L1 (R162, R448). -/
def drainUp (u : UpFrame) (s : State) : State :=
  match u.body with
  | .cellOut _ _ _ _ => s
  | .echo _ => s
  | b => if b.isField then gatherUp b s else takeUp 1 b s

/-- The L-die holds frame u already; one that has just started holds none (R234). -/
def heldUp (fresh : Bool) (u : UpFrame) (s : State) : Bool :=
  let before := seqBefore u.seq s.weft.ack
  !fresh && u.sent.isSome && (s.weft.held.contains u.seq || (1 ≤ before && before ≤ 32))

/-- Every frame that the P-die holds is taken, but for those that the L-die holds already (R234). -/
def drainAll (fresh : Bool) (s : State) : State :=
  let s := (s.pdie.up.filter (fun u => !heldUp fresh u s)).foldl (fun s u => drainUp u s) s
  let s := modWeft (fun w => { w with ack := s.pdie.evSeq, held := [] }) s
  modP (fun p => { p with up := [] }) s

/-! ### ADOPT_DONE -/

/-- The P-die accepts ADOPT_DONE: hold-over, or the wait for a first link, is over (R241, R246). -/
def adoptP (s : State) : State :=
  modP (fun p =>
    { p with sup := .linked, silentAt := none, expiry := none, wasLive := false, lived := true, fsPending := false, expired := false
             slewBy := 0, lastDown := s.pNow, power := if s.clk.power = 2 then 1 else 0, target := 0 }) s

/-- What the registers of the WEFT block say of the silence that has ended (R246, R252). -/
def adoptStatus (p : PDie) (s : State) : State :=
  let silent := p.wasLive && p.silentAt.isSome
  modWeft (fun w =>
    { w with state := .live, adopting := false, sending := true, retryAt := none, trainStart := none, lastUp := s.now
             cfg := [], warm := p.warm, coldFs := p.coldFs, tamper := p.tamper
             fsApplied := w.fsApplied || p.fsPending, silenceSeen := w.silenceSeen || p.silentAt.isSome
             lastExpired := if silent then p.expired else w.lastExpired
             lastHold := if silent then (s.pNow - p.silentAt.getD s.pNow) / 200000 else w.lastHold
             nvPend := nvWaiting s
             fsView := Vector.ofFn (fun (i : Fin 48) =>
               let c := (fsCopy (nth p.fs i.val)).getD {}
               (c.valid, c.mode, c.val)) }) s

/-- The faults that an adoption reports: a silence of a link that had been LIVE, and fail-safe states adopted (R246). -/
def adoptReports (p : PDie) (s : State) : State :=
  let s := if p.wasLive && p.silentAt.isSome then reportL 0x124 0xFF s else s
  if p.fsPending then reportL 0x125 0xFF s else s

/-- The gates of every skein and the transceivers follow the supervisor's new condition. -/
def driveAll (s : State) : State :=
  syncAllTrx ((List.range 48).foldl (fun s k => driveGates k (accrue k s)) s)

/-- What a start does once it has adopted: SYS_BOOT.COLD_FS, then the stored items that act on the P-die, or in recovery
FS_FORCE (R599, R605, R609). -/
def startAdopted (p : PDie) (s : State) : State :=
  let s := modClk (fun c => { c with coldFs := p.coldFs && p.fsPending }) s
  if s.clk.recovery != 0 then (pushCfg .fsForce s).2
  else settleDevice (restoreAdopted s)

/-- The primary marks that the P-die holds brought in line with the chain entries (R178). -/
def markPrimaries (s : State) : State :=
  (List.range 48).foldl (fun s k =>
    if (nth s.loom.skeinView k).primary == (chainOf k s).any (fun j => !bit 24 (nth s.loom.chain j).cfg) then s
    else markPrimary k s) s

/-- The P-die accepts ADOPT_DONE: the link is LIVE, hold-over ends, and the L-die has adopted the live state (R236, R241,
R244). Group 0x03, where it is disabled, releases the slots adopted in PEAK or HOLD (R270); the matrix ports and the field outputs
go to their disable states (R301, R332). -/
def adopt (s : State) : State :=
  let p := s.pdie
  let fresh := s.clk.step == .started
  let known := (List.range 48).filterMap (fun k => (knownDef fresh k s).map (fun d => (k, d)))
  let s := driveAll (adoptP s)
  let s := drainAll fresh s
  let s := adoptStatus p s
  let s := adoptArray fresh s
  let s := adoptFio (adoptPorts fresh (adoptSlots s))
  let s := adoptReports p s
  let s := settleDefs fresh known s
  let s := if fresh then readbackTrx s else adoptTrx s
  let s := seeTamper s
  let s := if s.deviceId = 0 then modChainSt (fun c => { c with adopted := true }) s else s
  let s := if fresh then startAdopted p s else s
  let s := if groupOff 0x03 s then disableAct s else s
  let s := if groupOff 0x04 s then disablePorts s else s
  let s := if groupOff 0x05 s then disableFio s else s
  markPrimaries (disableAdopted s)

/-- ADOPT_DONE: with one complete readback cycle taken since the start mark and one complete refresh cycle sent, the mark goes
into an odd down frame (R230, R237). -/
def execAdoptDone (m : MarkAt) (s : State) : Host.Outcome State Fault Refusal :=
  let s := toL m.t s
  .next (if s.weft.state != .adopt || !s.weft.adopting || s.weft.readSeen != allSlots || s.weft.refSeen != allSlots ||
        idleDueDown s || !ldieUp s then s
    else downFrame m.t true .mark (markPayload s.weft.ack MarkCode.adoptDone.code 0) m.line (fun p s =>
      if pfld 41 38 p = MarkCode.adoptDone.code then adopt s else s) s)

end Sys2Proof.Machine
end

