-- ==== Sys2Proof/Machine/Start.lean ====
section
/-! DEFINITION. Resets, wakes and starts: the rows of R568, the restore of R577, boot check, firmware and recovery start, and
the P-die's power-on (chapters 18 and 19). -/

namespace Sys2Proof.Machine

/-! ### Resets of the L-die (R40, R447, R568) -/

/-- The straps as they are sampled (R49). -/
def sampleStraps (id : Nat) (split bootsel : Bool) (s : State) : State :=
  { s with deviceId := id % 4, split := split, bootsel := bootsel }

/-- The L-die starts: its reset is released and the VCORE request goes to the PMIC (R583). -/
def startLDie (k : LReset) (s : State) : State :=
  let s := lDieReset k s
  pushReg (vcoreRequest s) s

/-- L_DIE_POWER_ON: first power, a rail dropout, or the rails' return that ends OFF: the whole L-die starts anew (R568). At a
wake from OFF the power manager shows what woke it (R579). -/
def execLDiePowerOn (t id : Nat) (split bootsel : Bool) (s : State) : Host.Outcome State Fault Refusal :=
  let s := toP t s
  let c := s.clk
  let s := sampleStraps id split bootsel (startLDie .powerOn s)
  .next (if c.power != 4 then s
    else
      let s := modClk (fun x => { x with power := 4, wakeSrc := c.wakeSrc, wakeLevel := c.wakeLevel }) s
      if s.pdie.sup == .asleep then wakePDie s else s)

/-- RSTN: low for some ns: from 1 µs on it resets the L-die, below 100 ns it is ignored, and between them it does either (R40,
R568, log entry 2). While the L-die is dark in a low-power state it has nothing to reset (log entry 45). -/
def execRstn (t ns id : Nat) (split bootsel : Bool) (s : State) : Host.Outcome State Fault Refusal :=
  let s := toL t s
  .next (if ns < 100 || (s.ldie == .off && 3 ≤ s.clk.power && s.clk.railWait.isNone) then s
    else
      let w := if ns < 1000 then freeWord s else (1, s)
      if bit 0 w.1 then sampleStraps id split bootsel (startLDie .rstn w.2) else w.2)

/-- L3_WARM: the warm form of a pending L3. The restart that follows UPDATE_COMMIT in recovery waits for its response (R447,
R601). -/
def execL3Warm (t : Nat) (s : State) : Host.Outcome State Fault Refusal :=
  let s := toL t s
  .next (match s.faults.pendingL3 with
    | none => s
    | some p =>
      let waits := s.store.upd.recovery && s.host.flight.any (fun e => e.op == 0x0905 && e.stage == .answered)
      if p.chip || waits then s else startLDie .warm s)

/-- L3_CHIP: the chip form of a pending L3 (R447). -/
def execL3Chip (t : Nat) (s : State) : Host.Outcome State Fault Refusal :=
  let s := toL t s
  .next (match s.faults.pendingL3 with
    | none => s
    | some p => if p.chip then startLDie .chip s else s)

/-- TRSTN: it resets the JTAG TAP alone, of which nothing is seen here (R568). -/
def execTrstn (t : Nat) (s : State) : Host.Outcome State Fault Refusal := .next (toL t s)

/-! ### The P-die's power-on (R568, R594) -/

/-- P_DIE_POWER_ON: the whole P-die resets, its device time and its counters too; its fail-safe memory stays, and a write of it that
the power cuts leaves an old or a new entry in force (R247, R568). -/
def execPDiePowerOn (t : Nat) (s : State) : Host.Outcome State Fault Refusal :=
  let s := toP t s
  let far := fun (i : Nat) => (Config.freeWord (s.free + i)).toNat
  .next { s with
    pNow := 0
    free := s.free + 51
    pdie := { sup := .reset, expiry := none, msel := s.pdie.msel, trx := Vector.replicate 6 { tstate := 0 }
              fsHold := s.pdie.fsHoldNew.elim s.pdie.fsHold (fun v => if far 48 % 2 = 0 then s.pdie.fsHold else v)
              fsPort := Vector.ofFn (fun (i : Fin 2) => (nth s.pdie.fsPortNew i.val).elim (nth s.pdie.fsPort i.val) (fun v =>
                if far (49 + i.val) % 2 = 0 then nth s.pdie.fsPort i.val else v))
              fs := Vector.ofFn (fun (i : Fin 48) => cutFs (far i.val) (nth s.pdie.fs i.val)) }
    counters := s.counters.filter (fun p => !pdieCounter p.1) }

/-- A skein that the P-die takes from its fail-safe memory: off, its cells but the spares in the mask (R594). -/
def storedSkein (e : FsEntry) : SkeinP :=
  match fsCopy e with
  | none => {}
  | some c =>
    if !c.defn.defined then {} else
    { defn := c.defn, mask := 2 ^ (c.defn.count - c.defn.nspare) - 1, fromFs := true }

/-- P_DIE_POWER_ON_RELEASE: HOLD and the stored definitions come into force, and HOLD counts (R594). -/
def execPDiePowerOnRelease (t : Nat) (s : State) : Host.Outcome State Fault Refusal :=
  let s := toP t s
  .next (if s.pdie.sup != .reset then s
    else syncAllTrx (modP (fun p =>
      { p with sup := .cold, hold := p.fsHold, portFs := p.fsPort, expiry := some (s.pNow + p.fsHold * 200000), skeins := p.fs.map storedSkein
               ports := p.ports.map (fun x => { x with blank := true }) }) s))

/-! ### Wakes and rails (R575, R578) -/

/-- DEEP_SLEEP_WAKE: the squelch detector sees the P-die's burst; the L-die's core domains are powered, VAUX is asked for
(R575, R577). -/
def execDeepSleepWake (t : Nat) (s : State) : Host.Outcome State Fault Refusal :=
  let s := toP t s
  .next (if s.ldie != .off || s.clk.power != 3 || !s.clk.waking || s.clk.railWait.isSome then s
    else
      let s := pushReg { rail := 2, kind := .on } { s with ldie := .starting, now := 0 }
      pushReg (vcoreRequest s) s)

/-- RAIL_TIMEOUT: a rail that the restore needs is not within limits: the L-die stays in reset (R578). -/
def execRailTimeout (t rail : Nat) (s : State) : Host.Outcome State Fault Refusal :=
  let s := toP t s
  .next (if s.ldie != .starting || s.clk.step != .released then s
    else modClk (fun c => { c with railWait := some (rail % 3) }) { s with ldie := .off })

/-- RESTORE_RETRY: the always-on domain repeats the restore (R578). -/
def execRestoreRetry (t : Nat) (s : State) : Host.Outcome State Fault Refusal :=
  let s := toP t s
  .next (match s.clk.railWait with
    | none => s
    | some r =>
      if s.ldie != .off then s else pushReg { rail := r, kind := .on } { s with ldie := .starting, now := 0 })

/-! ### Boot check (R538, R550) -/

/-- Firmware bank b passes the boot check; bad holds the banks whose content does not agree with their signature, hash and
checks, as bits (R538). -/
def bankBoots (b : Bool) (bad : Nat) (s : State) : Bool :=
  (fwBank b s).desc.isSome && (fwBank b s).verified && decide (s.otp.floor ≤ (bankDesc b s).arb) && !bad.testBit (b2n b)

/-- Bank b runs from this start on; the counter follows its ARB (R538). -/
def bootBank (b : Bool) (s : State) : State :=
  raiseCounter (bankDesc b s).arb (modClk (fun c => { c with recovery := 0 }) (modStore (fun x => { x with running := b }) s))

/-- A recovery start for a cause of SYS_BOOT.START (R599, R609). -/
def bootRecovery (why : Nat) (s : State) : State :=
  modClk (fun c => { c with recovery := why }) (modStore (fun x => { x with running := x.boot.active }) s)

/-- The boot check: the active bank, else the other one, else the recovery loader. A trial image that fails reverts (R538,
R550, R599). -/
def bootCheck (bad : Nat) (s : State) : State :=
  let a := s.store.boot.active
  if s.bootsel && !s.clk.noBootsel then bootRecovery 1 s
  else if bankBoots a bad s then bootBank a s
  else
    let s := if s.store.boot.trial then revertNow 5 s else s
    if bankBoots (!a) bad s then
      let s := modStore (fun x => { x with boot := { fallback := !a, candidate := !a, trial := false } }) s
      bootBank (!a) (reportL 0x1C3 (b2n a) (modClk (fun c => { c with otherBooted := true }) s))
    else bootRecovery 2 s

/-! ### RESTORE (R577, R579) -/

/-- Controllers and channels return after step 11 (R369, R398, R577). -/
def resumeBuses (s : State) : State :=
  (List.range 12).foldl (fun s c => resumeNm c s) (startAllCan s)

/-- POWER_STATE WOKE: the state left and the wake sources latched (R579). -/
def wokeWords (s : State) : List Word := powerWords s.clk.power 2 0 s.clk.wakeSrc s

/-- Step 11 of a start: ports active. Out of DEEP SLEEP and OFF the event WOKE is held for the slots' binding; a trial image
started out of recovery is in TRIAL (R550, R577, R579, R601). -/
def enterRun (s : State) : State :=
  let s := if 3 ≤ s.clk.power then holdEvent 0xF0C (wokeWords s) s else s
  let rail := s.clk.railWait
  let s := modClk (fun c => { c with power := 0, waking := false, railWait := none }) s
  let s := if s.clk.recovery != 0 then { s with ldie := .recovery }
    else resumeBuses { s with ldie := .running }
  let s := keepHeld (modClk (fun c => { c with step := .run }) s)
  let s := if s.clk.recovery != 0 then s else adoptTrx s
  let s := match rail with
    | none => s
    | some r => reportL 0x204 r (modClk (fun c => { c with regFail := setPin c.regFail r true, regRail := r }) s)
  if s.store.upd.recovery && s.clk.recovery = 0 then
    modUpd (fun u => { u with state := if s.store.boot.trial then 4 else 0, trialFrom := mgmtNow s, recovery := false }) s
  else s

/-- The return from SLEEP: the cores after their self-tests, the P-die unparked, ports, controllers and channels active (R439,
R577). -/
def leaveSleep (miss : Nat) (s : State) : State :=
  let s := if s.split then s else startTests miss s
  if s.ldie == .halted then s
  else
    let words := wokeWords s
    let s := modClk (fun c => { c with power := 0, waking := false }) s
    let s := syncAllTrx (resumePins (modP (fun p => { p with power := 0, target := 0, wakeReq := 0, lastDown := s.pNow }) s))
    postEvent 0xF0C words (resumeBuses (restartWdogs s))

/-- Steps 5 to 8: root and PLL run, the self-tests have passed, the cores are released and the boot check is done (R439, R538,
R559, R577). -/
def releaseCores (miss bad : Nat) (s : State) : State :=
  let s := modClk (fun c => { c with
    locked := true, modeAct := if s.spindle.reason = 4 then c.modeAct else bit 0 c.ctl }) s
  let s := startTests miss s
  if s.ldie == .halted then s
  else modClk (fun c => { c with step := .checked }) (bootCheck bad s)

/-- RESTORE: the restore goes on as far as it can: from SLEEP to RUN; after a reset to the end of the boot check, and once
the link is LIVE to RUN. miss names the injections that the self-tests of the start miss, bad the firmware banks whose content is
corrupt. -/
def execRestore (t miss bad : Nat) (s : State) : Host.Outcome State Fault Refusal :=
  let s := toL t s
  .next (if s.ldie == .starting then
      match s.clk.step with
      | .released => releaseCores miss bad s
      | .started => if linkLive s then enterRun s else s
      | _ => s
    else if s.clk.power = 2 && s.clk.waking && ldieUp s then leaveSleep miss s
    else s)

/-! ### Firmware and recovery start (R533, R597, R599, R603) -/

/-- The valid configuration banks whose format the running image reads; without an image every format is read. -/
def readableBanks (s : State) : List Nat :=
  [0, 1].filter (fun n =>
    let b := nth s.store.banks n
    b.valid && (match (fwBank s.store.running s).desc with
      | some d => (d.cfmtMin ≤ b.cfmt && b.cfmt ≤ d.cfmtNew) || s.clk.recovery != 0
      | none => true))

/-- The authoritative bank is the newer of the banks that can be read; bad names banks whose CRC does not verify, as bits (R529,
R533). -/
def chooseBank (bad : Nat) (s : State) : State :=
  let s := modStore (fun x => { x with banks := Vector.ofFn (fun (i : Fin 2) =>
    { (nth x.banks i.val) with valid := (nth x.banks i.val).valid && !bad.testBit i.val }) }) s
  let auth := match readableBanks s with
    | [a, b] => some (if seqNewer (nth s.store.banks b).seq (nth s.store.banks a).seq then b else a)
    | [a] => some a
    | _ => none
  modStore (fun x => { x with auth := auth }) s

/-- What the start reports of the store: no bank, one bank, a revert (R533, R550). -/
def reportStore (s : State) : State :=
  let n := ((nth s.store.banks 0).valid, (nth s.store.banks 1).valid)
  let note := fun (x : Nat × Nat) (s : State) => modStore (fun y => { y with notes := y.notes ++ [x] }) s
  let s := if s.store.auth.isNone then note (6, 2) (reportL 0x1C2 0xFF s)
    else if n = (true, true) then s
    else note (6, 1) (reportL 0x1C1 (b2n n.1) (modStore (fun x => { x with degraded := true }) s))
  match s.store.reverted with
  | none => s
  | some code => note (5, code) (reportL 0x1C4 code (modStore (fun x => { x with reverted := none }) s))

/-- The notes of a start become events held for the slots' binding (R553). -/
def holdNotes (s : State) : State :=
  let s := s.store.notes.foldl (fun s x => holdEvent 0xF0B [pack [(8, x.2), (0, x.1)], updStat s] s) s
  modStore (fun x => { x with notes := [] }) s

/-- The Weft link is trained from step 9 on, but a cold device of a chain waits for the chain's time (R597, R603). -/
def trainOrWait (s : State) : State :=
  let s := modClk (fun c => { c with step9 := s.now }) s
  if s.deviceId != 0 && !s.pdie.warm then modClk (fun c => { c with step := .chainWait }) s
  else startTraining (modClk (fun c => { c with step := .started }) s)

/-- FIRMWARE_STARTED: step 9: the firmware reads the authoritative bank into its working copy, the items that act on the L-die
alone come into force, and training may begin. A start that measured XI, any but L3 WARM, reports an absent crystal. bad names configuration banks whose CRC does not verify (R533, R557, R591,
R597). -/
def execFirmwareStarted (t bad : Nat) (s : State) : Host.Outcome State Fault Refusal :=
  let s := toL t s
  .next (if s.ldie != .starting || s.clk.step != .checked || s.clk.recovery != 0 then s
    else
      let cold := s.spindle.reason = 1 && s.clk.power != 3
      let s := holdNotes (reportStore (chooseBank bad s))
      let s := settleDevice (restoreClasses cold [12, 13, 14, 11, 9] s)
      let measured := s.spindle.reason != 4
      let s := if measured && s.clk.xtalAbsent && !s.clk.pref then reportL 0x202 0xFF s else s
      trainOrWait s)

/-- RECOVERY_START: the recovery loader runs in place of the firmware, with the HOST items of the store (R599, R600). -/
def execRecoveryStart (t bad : Nat) (s : State) : Host.Outcome State Fault Refusal :=
  let s := toL t s
  .next (if s.ldie != .starting || s.clk.step != .checked || s.clk.recovery = 0 then s
    else trainOrWait (restoreClasses false [12] (holdNotes (reportStore (chooseBank bad s)))))

/-- CHAIN_WAIT_TIMEOUT: 20 ms after step 9 without an ALIGNED heartbeat of the up neighbour, training starts (R603). -/
def execChainWaitTimeout (s : State) : Host.Outcome State Fault Refusal :=
  .next (if s.clk.step != .chainWait || s.ldie != .starting then s
    else chainWaitOver (modClk (fun c => { c with chainWait := true }) (toL (s.clk.step9 + 4000000) s)))

end Sys2Proof.Machine
end

