-- ==== Sys2Proof/Machine/Manage.lean ====
section
/-! DEFINITION. The management tick and the rows of Loom's pass that have a name of their own (R21, R166, R170, R172, R179,
R180). -/

namespace Sys2Proof.Machine

/-! ### Parts of a pass -/

/-- PROT_HOT: a map entry reaches HOT; it is armed again 5 °C below (R202). Temperatures are held as °C + 64. -/
def hotPass (s : State) : State :=
  let hot := fld 7 0 s.loom.tjLimit + 64
  (List.range 96).foldl (fun s n =>
    let t := (viewOf n s).temp
    let seen := s.loom.hotSeen.testBit n
    if hot ≤ t && !seen then reportL 0x0AA n (modLoom (fun l => { l with hotSeen := setPin l.hotSeen n true }) s)
    else if t + 5 ≤ hot && seen then modLoom (fun l => { l with hotSeen := setPin l.hotSeen n false }) s
    else s) s

/-- A pending SKEIN_DEFINE at the pass: the placement of its cells goes down with the definition, or the command fails where
the link is not LIVE (R146, R154), or a slot bound to the skein has fired since the command was accepted (R256; DEDUCED, log
entry 99); on an ARMED secondary no cell becomes ACTIVE (R174). -/
def passDefine (k : Nat) (s : State) : State :=
  match (skL k s).define with
  | none => s
  | some x =>
    if x.sent.isSome then s
    else if !linkLive s then
      completeAll (.pass 0 k) .faultActive (fun _ => []) (modSkL k (fun y => { y with define := none }) s)
    else if !offForDefine k s then
      completeAll (.pass 0 k) .busy (fun _ => []) (modSkL k (fun y => { y with define := none }) s)
    else
      let mask := if armedSecondary k s then 0 else placedMask x.defn (placement x.defn 0 s)
      let (id, s) := pushCfg (.skein k x.defn mask) s
      modSkL k (fun y => { y with define := some { x with sent := some id } }) s

/-- A deletion that names no defined skein completes at the end of the pass (R146). -/
def passUndefined (s : State) : State :=
  (List.range 48).foldl (fun s k =>
    if (skL k s).define.isNone && !(defL k s).defined then completeAll (.pass 0 k) .done (fun _ => []) s else s) s

/-- The phase of an actuator slot keeps skein k from a handover (R167). -/
def passPeak (s : State) (k : Nat) : Bool := actPeakL k s

/-- Loom's pass: chain entries as written, definitions, every skein in rising order, dissipation, budgets, chain entries
(R161, R166, R171 to R175, R184, R187). -/
def loomPass (s : State) : State :=
  let s := bump64 (ctr 0x03 0x200) ((List.range 16).foldl (fun s j => takeChain j s) s)
  let s := if !linkLive s then s
    else
      let s := hotPass (ledgerFold s)
      let s := (List.range 48).foldl (fun s k => passSkein (passPeak s) k s) s
      let s := bankOverPass (shedPass s)
      let s := (List.range 16).foldl (fun s j => passChain j s) s
      (List.range 48).foldl (fun s k => learnPass k s) s
  passUndefined ((List.range 48).foldl (fun s k => passDefine k s) s)

/-- The store's part of a boundary: the device's own items, the bank writes that start, the handover (R481, R530, R532,
R546). -/
def storePass (s : State) : State := handoverStart (keyWriteStart (cfgWriteStart (gatherDevice (checkHolder s))))

/-- The management passes run: the firmware has started, no recovery loader stands in its place, its core is not frozen (R435,
R599). -/
def passesRun (s : State) : Bool :=
  (s.ldie == .running || (s.ldie == .starting && (s.clk.step == .started || s.clk.step == .chainWait) && s.clk.recovery == 0)) &&
    !s.spindle.frozen

/-- The boundaries between the last pass and boundary m whose passes were skipped, and which are never run late: each one is
reported as MGT_OVERRUN (R23). -/
def overrunPass (m : Nat) (s : State) : State :=
  let missed := match s.spindle.lastPass with
    | none => 0
    | some l => m - (l + 1)
  modSpindle (fun x => { x with lastPass := some m }) ((List.range missed).foldl (fun s _ => reportL 0x000 0xFF s) s)

/-- MANAGEMENT_TICK: device time reaches boundary m, a multiple of 1,000,000 ticks, and the passes of the management plane run
(R21, R22). rails are the rails' STATUS_WORDs as the regulator port reads them at the tick (R583). -/
def execManagementTick (m : Nat) (rails : List Nat) (s : State) : Host.Outcome State Fault Refusal :=
  .next (if m * mgmtTicks < s.now || !ldieUp s || decide (s.spindle.lastPass = some m) then s
    else
      let s := toL (m * mgmtTicks) s
      if !passesRun s then s
      else restoreLater (storePass (railPoll rails (deratePass (loomPass (overrunPass m s))))))

/-! ### Rotation (R170) -/

/-- ROTATION_DUE: at a pass, ROT_INT management ticks after the last change of the active set of skein k, one cell of it
rotates. It is deferred as every handover is, and waits where the pass has started another one or a join (R166, R167). -/
def execRotationDue (k : Nat) (s : State) : Host.Outcome State Fault Refusal :=
  let due := (ceilDiv (skL k s).lastChange mgmtTicks + fld 13 0 (skL k s).loomCfg) * mgmtTicks
  .next (if !passesRun s || !linkLive s || !(defL k s).defined || groupOff 0x0D s || (skL k s).hand.isSome then s
    else
      let s := toL due s
      if deferred k (passPeak s k) s || (skL k s).movedAt == some (mgmtNow s) then s else (passRotate k s).getD s)

/-! ### Shedding (R172) -/

/-- The group whose cap is lifted next: PRIO 1 first. -/
def liftNext (s : State) : Option Nat :=
  [1, 2, 3].find? (fun p => s.loom.shedGroup ≤ p && (groupSkeins p s).any (fun k => (skL k s).shed))

/-- SHED_LIFT: 200 passes in a row have stayed below 90 % of the limit: the cap of one group is lifted, PRIO 1 first, and so
on every further 200 passes (R172). -/
def execShedLift (s : State) : Host.Outcome State Fault Refusal :=
  .next (if s.loom.coolPasses < 200 || !passesRun s || !linkLive s then s
    else
      let s1 := modLoom (fun l => { l with coolPasses := l.coolPasses - 200 }) s
      match liftNext s with
      | none => modLoom (fun l => { l with shedGroup := 4 }) s1
      | some p => modLoom (fun l => { l with shedGroup := p + 1 }) (shedGroup p false s1))

/-! ### Give-back and role swap (R179, R180) -/

/-- The count of entry j has reached its GIVEBACK (R179). -/
def giveCounted (e : ChainEntry) : Bool := fld 15 0 e.give != 0 && decide (fld 15 0 e.give ≤ e.count.getD 0)

/-- GIVE_NOW stands on either entry (R179). -/
def giveNowSeen (e : ChainEntry) (s : State) : Bool :=
  e.giveNow || ((partnerView e s).map (fun v => v.give == 1)).getD false

/-- GIVEBACK: the give-back of entry j begins on the secondary: by its count, whose boundary is the first of the two, or by
GIVE_NOW, which waits for the next boundary (R179). None begins while group 0x0D is disabled (R173). -/
def execGiveback (t j : Nat) (s : State) : Host.Outcome State Fault Refusal :=
  let s := toL t s
  let e := chainE j s
  .next (if !passesRun s || !linkLive s || e.state != 3 || !e.secondary || e.giving != 0 || groupOff 0x0D s then s
    else if giveCounted e then modChain j (fun x => { x with giving := 1 }) s
    else if giveNowSeen e s then modChain j (fun x => { x with giving := 2 }) s
    else s)

/-- ROLE_SWAP: after 20 passes above 90 % of its limit, with the secondary below 70 % of its own (swapWorth), the primary of
entry j offers a swap; the passes run it once the secondary has accepted (R180, log entries 46 and 73). None is offered while
group 0x0D is disabled (R173). -/
def execRoleSwap (t j : Nat) (s : State) : Host.Outcome State Fault Refusal :=
  let s := toL t s
  let e := chainE j s
  let rested := (e.lastSwap.map (fun m => decide (m + 200 ≤ mgmtNow s))).getD true
  .next (if !passesRun s || !linkLive s || e.state != 2 || e.secondary || !bit 16 e.give || e.swapping != 0 || e.hotPasses < 20 ||
        groupOff 0x0D s || !rested then s
    else modChain j (fun x => { x with swapping := 3, hotPasses := 0, lastSwap := some (mgmtNow s) }) s)

end Sys2Proof.Machine
end

