-- ==== Sys2Proof/Machine/Eoden.lean ====
section
/-! DEFINITION. The opcodes of group 0x00, the opcode index (R97), the receipt of a request frame through its stages (R32), its
forwarding along the chain (R425), dispatch (R81) and the release of SNAPALIGN commands (R112). -/

namespace Sys2Proof.Machine

/-! ### PING, GET_INFO, SUBSCRIBE, GET_TIME (R97) -/

/-- PING as the interpreter knows it. -/
def infoPing : OpInfo := { op := 0x0000, len := lenIs 0, recovery := true, run := fun _ s => (s, .done [sysId]) }

/-- PING (R97). -/
def execPing (r : Req) (s : State) : Host.Outcome State Fault Refusal := .next (command infoPing r s)

/-- GET_INFO: no rule gives the words that it returns, nor their number, so both are free values (R97, log entry 2). -/
def getInfo (s : State) : State × Ans :=
  let (n, s) := freeWord s
  let (l, s) := freeWords (n.toNat % 257) s
  (s, .done l)

/-- GET_INFO as the interpreter knows it. -/
def infoGetInfo : OpInfo := { op := 0x0001, len := lenIs 0, recovery := true, run := fun _ s => getInfo s }

/-- GET_INFO (R97). -/
def execGetInfo (r : Req) (s : State) : Host.Outcome State Fault Refusal := .next (command infoGetInfo r s)

/-- SUBSCRIBE: a word for HOST_EVT_MASKn of the slot (R97, R104). -/
def subscribe (r : Req) (s : State) : State × Ans :=
  (modSlot r.slot (fun sl => { sl with mask := arg r 0 &&& 0xFFFFFFFC }) s, .done [])

/-- SUBSCRIBE as the interpreter knows it. -/
def infoSubscribe : OpInfo := { op := 0x0004, len := lenIs 1, recovery := true, run := fun e s => subscribe e.req s }

/-- SUBSCRIBE (R97). -/
def execSubscribe (r : Req) (s : State) : Host.Outcome State Fault Refusal := .next (command infoSubscribe r s)

/-- GET_TIME as the interpreter knows it. -/
def infoGetTime : OpInfo := { op := 0x0005, len := lenIs 0, recovery := true, run := fun _ s => (s, .done (natToWords 2 (deviceTime s).toNat)) }

/-- GET_TIME (R97). -/
def execGetTime (r : Req) (s : State) : Host.Outcome State Fault Refusal := .next (command infoGetTime r s)

/-! ### Sessions (R90 to R95) -/

/-- The session of slot n, as a key ends it or another one takes its place: the commands of the slot in flight, but the one that
brings this about, answer under the new key, or without a CMAC (R70, R90). -/
def setSession (n : Nat) (x : Option Session) (e : Entry) (s : State) : State :=
  let s := modSlot n (fun sl =>
    { sl with session := x, ended := false, ends := sl.ends + b2n sl.session.isSome
              shaOpen := false, shaState := [], shaRest := [], shaLen := 0 }) s
  modFlight (fun l => l.map (fun y =>
    if y.req.slot == n && !sameCmd y e then { y with key := x.map (fun z => z.key) } else y)) s

/-- The parent slot of a session: key, rights and generation, or the status that refuses it (R92, R469). With the TRNG's health tests
failed there is no nonce for a session (R489; after the checks of R92, DEDUCED, log entry 61). -/
def sessionParent (p : Nat) (s : State) : Except Status (List Byte × Nat × Nat) :=
  let found : Except Status (List Byte × Nat × Nat) :=
    if p = 64 then
      if s.keys.state != .ready then .error .faultActive
      else if s.otp.retired then .error .keyStale
      else .ok (transportKey, 1, 0)
    else match loadCheck p 2 none s with
      | .error st => .error st
      | .ok k => .ok (k, (keySlot p s).rights, (keySlot p s).gen)
  match found with
  | .error st => .error st
  | .ok y => if s.keys.trngFail then .error .faultActive else .ok y

/-- The loads of a SESSION_OPEN: the parent key, and the session key for the proof (R475, R500). -/
def countParent (p : Nat) (x : Except Status (List Byte × Nat × Nat)) (s : State) : State :=
  match x with
  | .ok y =>
    let s := if p = 64 then bump (ctr 0x0D 0) s else countLoad p (.ok y.1) s
    bump (ctr 0x0D 0) s
  | .error st => countLoad p (.error st) s

/-- SESSION_OPEN of an authenticated session on parent slot p (R90, R92). -/
def openSession (e : Entry) (p : Nat) (s : State) : State × Ans :=
  let n := e.req.slot
  let host := wordsToBytes e.req.payload
  let parent := sessionParent p s
  let s := countParent p parent s
  match parent with
  | .error st => (s, .fail st [])
  | .ok (key, rights, gen) =>
    let (nonce, s) := freeBytes 16 s
    let sk := kdf key (ascii "EODEN-SESS") (host ++ nonce ++ bytesLE 1 n) 16
    let proof := (cmac sk (ascii "EODEN-DEV" ++ host)).take 8
    let x : Session := { key := BitVec.ofNat 128 (natBE sk), parent := p, rights := rights, gen := gen, nonce := nonce }
    (setSession n (some x) e s, .done (bytesToWords 6 (nonce ++ proof)))

/-- SESSION_OPEN of an unauthenticated session: no packet of the slot carries a CMAC any more (R90). Its nonce too needs the TRNG
(R489). -/
def openPlain (e : Entry) (s : State) : State × Ans :=
  if s.keys.trngFail then (s, .fail .faultActive [])
  else
    let (nonce, s) := freeBytes 16 s
    let s := modEntry e (fun y => { y with key := none }) (setSession e.req.slot none e s)
    (s, .done (bytesToWords 6 (nonce ++ List.replicate 8 0)))

/-- OBJECT of SESSION_OPEN: a key slot, the transport root, or no parent (R90, R92). -/
def sessionObj (r : Req) (_ : State) : Bool := obj r ≤ 64 || r.object == 0xFFFFFFFF

/-- SESSION_OPEN as the interpreter knows it. -/
def infoSessionOpen : OpInfo :=
  { op := 0x0002, len := lenIs 4, recovery := true, obj := sessionObj
    run := fun e s => if e.req.object == 0xFFFFFFFF then openPlain e s else openSession e (obj e.req) s }

/-- SESSION_OPEN (R90 to R92). -/
def execSessionOpen (r : Req) (s : State) : Host.Outcome State Fault Refusal := .next (command infoSessionOpen r s)

/-- SESSION_CLOSE as the interpreter knows it: it waits until every other command of its slot has completed (R95). -/
def infoSessionClose : OpInfo :=
  { op := 0x0003, len := lenIs 0, recovery := true, run := fun _ s => (s, .wait .slotEmpty false []) }

/-- SESSION_CLOSE (R95). -/
def execSessionClose (r : Req) (s : State) : Host.Outcome State Fault Refusal := .next (command infoSessionClose r s)

/-! ### FUNC_ENABLE (R85) -/

/-- The groups that FUNC_ENABLE names (R85). -/
def canDisable (g : Nat) : Bool := 0x02 ≤ g && g ≤ 0x0D && g != 0x0A

/-- An entry into a low-power state that has not passed AP1 is given up with group 0x0B (R589). -/
def dropEntry (s : State) : State :=
  if (s.clk.entry.map (fun e => e.phase == 1)).getD false then
    completeAll .power .abortedDisabled (fun _ => []) (modClk (fun c => { c with entry := none }) s)
  else s

/-- The disable state of a function group (R113, R148, R173, R270, R301, R332, R370, R399, R497, R518, R552, R589). -/
def disableGroup (g : Nat) (s : State) : State :=
  match g with
  | 0x02 => disableLoads s
  | 0x03 => disableAct s
  | 0x04 => disableLight s
  | 0x05 => disableFio s
  | 0x06 => disableCan s
  | 0x07 => disableRange s
  | 0x09 => if receiving s then endUpdate 5 s else s
  | 0x0B => dropEntry s
  | 0x0C => abortWhere (fun e => e.stage == .aligned) .abortedDisabled s
  | 0x0D => liftAll s
  | _ => s

/-- A function group is enabled again (R332, R370, R399). -/
def enableGroup (g : Nat) (s : State) : State :=
  match g with
  | 0x05 => enableFio s
  | 0x06 => enableNm (enableCan s)
  | _ => s

/-- A command that the owning subsystem has taken and whose output change has not entered a down frame: it is short of its commit
point still (R84). One that a latch has released is past it (R112). -/
def notDown (e : Entry) : Bool :=
  e.stage == .taken && !e.down && !e.req.snapalign &&
    (match e.await with
      | .inForce _ | .dim _ | .swap _ => true
      | .echo _ => [0x0204, 0x0301, 0x0302, 0x0502].contains e.op
      | _ => false)

/-- The command is one of group g short of its commit point (R84, R85, R112). -/
def uncommitted (g : Nat) (e : Entry) : Bool :=
  groupOf e.op == g && (e.stage == .waiting || e.stage == .aligned || notDown e)

/-- What an aborted command would have sent down is withdrawn, and a slot is in the phase that it had before (R85). -/
def withdraw (s : State) (e : Entry) : State :=
  if !notDown e then s
  else match e.await with
    | .inForce k => modSkL k (fun x => { x with sp := x.sent, alignAt := none }) s
    | .swap p => modPortL p (fun x => { x with swapPend := false, swapWait := none }) (modWeft (fun w =>
        { w with cfg := w.cfg.filter (fun c => match c.item with
            | .swap q _ => q != p
            | _ => true) }) s)
    | .echo i =>
      let s := modWeft (fun w => { w with cfg := w.cfg.filter (fun c => c.id != i) }) s
      let a := obj e.req
      if e.op = 0x0301 then setPhase a 0 s else if e.op = 0x0302 then setPhase a (actL a s).left s else s
    | _ => s

/-- The commands of group g short of their commit point complete with ABORTED_DISABLED and have no effect (R85). -/
def abortGroup (g : Nat) (s : State) : State :=
  abortWhere (uncommitted g) .abortedDisabled ((s.host.flight.filter (uncommitted g)).foldl withdraw s)

/-- FUNC_ENABLE: payload bit 0 enables the group in OBJECT [7:0], or disables it (R85). -/
def funcEnable (r : Req) (s : State) : State × Ans :=
  let g := fld 7 0 r.object
  let on := bit 0 (arg r 0)
  if on == !groupOff g s then (s, .done [])
  else if on then (enableGroup g (modHost (fun h => { h with disabled := h.disabled &&& (0xFFFF ^^^ (1 <<< g)) }) s), .done [])
  else
    let s := disableGroup g (abortGroup g s)
    (modHost (fun h => { h with disabled := h.disabled ||| (1 <<< g) }) s, .done [])

/-- FUNC_ENABLE as the interpreter knows it. -/
def infoFuncEnable : OpInfo :=
  { op := 0x0006, len := lenIs 1, auth := true, obj := fun r _ => canDisable (fld 7 0 r.object), run := fun e s => funcEnable e.req s }

/-- FUNC_ENABLE (R85). -/
def execFuncEnable (r : Req) (s : State) : Host.Outcome State Fault Refusal := .next (command infoFuncEnable r s)

/-! ### The opcode index (R97) -/

/-- The opcodes of groups 0x00 to 0x04. -/
def opsLow : List OpInfo :=
  [infoPing, infoGetInfo, infoSessionOpen, infoSessionClose, infoSubscribe, infoGetTime, infoFuncEnable,
   infoReadReg, infoWriteReg, infoReadBlock, infoModifyReg, infoWriteBlock,
   infoLoadSet, infoLoadGet, infoSkeinDefine, infoBridgeSet, infoLoadClearLatch, infoLoadSense, infoFailsafeSet,
   infoActProfileSet, infoActFire, infoActStop, infoActStatus,
   infoDimSet, infoMatrixWrite, infoMatrixSwap, infoWhorlLoad, infoWhorlRun, infoWhorlStop, infoDerateGet]

/-- The opcodes of groups 0x05 to 0x08. -/
def opsMid : List OpInfo :=
  [infoFioCfg, infoFioRead, infoFioWrite, infoFioCountRead,
   infoCanCfg, infoCanTx, infoCanRxRead, infoCanFilterSet, infoNtCfg, infoNmSleepReq, infoNmStatus, infoGwRouteSet,
   infoRangeStart, infoRangeResult, infoRangeZoneCfg, infoLockoutClear, infoImmoCfg,
   infoKeyProvision, infoKeyDerive, infoKeyInvalidate, infoCryptoOp, infoKeyInfo, infoZeroise]

/-- The opcodes of groups 0x09 to 0x0D. -/
def opsHigh : List OpInfo :=
  [infoCfgWrite, infoCfgRead, infoUpdateBegin, infoUpdateBlock, infoUpdateVerify, infoUpdateCommit, infoUpdateAbort,
   infoUpdateConfirm,
   infoFaultStatus, infoFaultAck, infoFaultCaptureRead, infoFaultReactionSet, infoFaultInject,
   infoPwrStateReq, infoClkStatus, infoClkGate, infoWakeCfg,
   infoSnapTake, infoSnapRead, infoSnapRelease, infoCounterRead,
   infoLoomPlacementGet, infoLoomRotateCfg, infoLoomPin, infoLoomChainCfg, infoLoomBudgetGet]

/-- The opcode index (R97). -/
def opInfo (op : Nat) : Option OpInfo := (opsLow ++ opsMid ++ opsHigh).find? (fun o => o.op == op)

/-! ### Frames (R69 to R76) -/

/-- The request header of a frame (R71). -/
structure Head where
  magic : Nat
  version : Nat
  op : Nat
  /-- byte 5 as received -/
  b5 : Nat
  /-- LENGTH -/
  length : Nat
  /-- the header fields as a request, with no payload yet -/
  req : Req
  deriving DecidableEq, Repr

/-- A number of n bytes at offset i of a frame. -/
def numAt (l : List Byte) (i n : Nat) : Nat := natLE ((l.drop i).take n)

/-- The header of a frame (R71). -/
def frameHead (t : Nat) (p : Port) (peer : Peer) (l : List Byte) : Head :=
  let b5 := numAt l 5 1
  { magic := numAt l 0 1, version := numAt l 1 1, op := numAt l 2 2, b5 := b5, length := numAt l 6 2
    req := { t := t, port := p, peer := peer, slot := b5 / 64, device := b5 / 16 % 4, tag := numAt l 4 1
             ordered := b5.testBit 3, noresp := b5.testBit 2, snapalign := b5.testBit 1, urgent := b5.testBit 0
             object := word (numAt l 8 4), seq := numAt l 12 4, payload := [] } }

/-- The frame's CRC-32C stands at offset i and is right (R69). -/
def crcAt (i : Nat) (l : List Byte) : Bool := i + 4 ≤ l.length && numAt l i 4 == (crc32c (l.take i)).toNat

/-- The answer to a frame that failed stage 1, 2 or 3, on the port by which it came, with byte 5 as received (R76). -/
def refuseFrame (h : Head) (st : Status) (key : Option (BitVec 128)) (s : State) : State :=
  pushOut h.req.port (answerFrame h.op h.req h.b5 st key s) s

/-- The answer to a request that failed stage 4: byte 5 is that of a response (R72). -/
def refuseFour (h : Head) (st : Status) (key : Option (BitVec 128)) (s : State) : State :=
  pushOut h.req.port (answerFrame h.op h.req (byte5 h.req false) st key s) s

/-! ### Forwarding (R425, R426) -/

/-- Ply port q takes requests onward: trained, not lost, in order (R424, R425). -/
def linkOnward (q : Nat) (s : State) : Bool := (plyOf q s).state == .up && !(plyOf q s).orderErr

/-- A request for another device is forwarded, and its slot's route port is the port by which it came (R425, R426). -/
def forward (h : Head) (l : List Byte) (s : State) : State :=
  let q := toward h.req.device s
  if h.magic != 0xB7 || h.version != 2 then refuseFour h .badMagic none s
  else if (l.length != 20 + h.length && l.length != 28 + h.length) || !crcAt (16 + h.length) l then refuseFrame h .badCrc none s
  else if !linkOnward q s then refuseFour h .badObject none s
  else
    let s := modChainSt (fun c => { c with
      route := put c.route h.req.slot (some h.req.port), routePeer := put c.routePeer h.req.slot h.req.peer }) s
    pushOut (ixPort (3 + q)) { kind := .forwarded, slot := h.req.slot, raw := l } s

/-! ### The stages (R32, R75 to R77, R89 to R93, R478) -/

/-- A CMAC that does not verify: AUTH_FAIL, and the eighth in a row reports HOST_AUTH, whose L2 finds the slot's port, and ends
session and binding (R93, R632). -/
def authFail (h : Head) (s : State) : State :=
  let n := h.req.slot
  let s := refuseFrame h .authFail none (modSlot n (fun sl => { sl with authFails := sl.authFails + 1 }) s)
  if (slotOf n s).authFails < 8 then s
  else
    let clear := fun (e : Entry) => if e.req.slot == n then { e with key := none } else e
    modFlight (fun l => l.map clear) (endSession n (reportL 0x020 n s))

/-- Stage 4 of a request of this device, whose payload is the bytes between header and trailer (R74). -/
def stageFour (h : Head) (body : List Byte) (s : State) : State :=
  let key := slotKey h.req.slot s
  if h.magic != 0xB7 || h.version != 2 then refuseFour h .badMagic key s
  else match opInfo h.op with
    | none => refuseFour h .badOpcode key s
    | some o =>
      if h.req.snapalign && !o.snap then refuseFour h .badOpcode key s
      else if h.length != body.length || body.length % 4 != 0 then refuseFour h .badLength key s
      else submit o { h.req with payload := bytesToWords (body.length / 4) body } s

/-- A request passes the replay check: its SEQ is above the slot's last one, or it is a SESSION_OPEN on a slot without an
authenticated session (R89, R91). -/
def fresh (h : Head) (s : State) : Bool :=
  (slotOf h.req.slot s).lastSeq < h.req.seq || (h.op == 0x0002 && (slotOf h.req.slot s).session.isNone)

/-- A request for this device on a slot without an authenticated session; trail is the length of its trailer (R75, R478). -/
def takePlain (h : Head) (l : List Byte) (trail : Nat) (s : State) : State :=
  if (slotOf h.req.slot s).ended && h.op != 0x0002 then refuseFrame h .keyStale none s
  else if !fresh h s then refuseFrame h .replay none s
  else stageFour h ((l.take (l.length - trail)).drop 16) (passed3 h.req s)

/-- A request for this device goes through the stages (R32). On a slot whose session the key store ended, the trailer may or may
not have a CMAC after it (log entry 52). -/
def takeOwn (h : Head) (l : List Byte) (s : State) : State :=
  let n := l.length
  let sl := slotOf h.req.slot s
  match sl.session with
  | none =>
    if crcAt (n - 4) l then takePlain h l 4 s
    else if sl.ended && crcAt (n - 12) l then takePlain h l 12 s
    else refuseFrame h .badCrc none s
  | some x =>
    if !crcAt (n - 12) l then refuseFrame h .badCrc (some x.key) s
    else if (cmac (keyBytes x.key) (l.take (n - 8))).take 8 != l.drop (n - 8) then authFail h (bump (ctr 0x0D 0) s)
    else if !fresh h s then
      refuseFrame h .replay (some x.key) (bump (ctr 0x0D 0) (modSlot h.req.slot (fun sl => { sl with authFails := 0 }) s))
    else stageFour h ((l.take (n - 12)).drop 16) (passed3 h.req s)

/-- A frame taken from a port's input buffer; one that has no room for a header and a trailer is dropped (R70, R81). -/
def takeFrame (p : Port) (peer : Peer) (l : List Byte) (s : State) : State :=
  if l.length < 20 then s
  else
    let h := frameHead s.now p peer l
    if h.req.device = s.deviceId then takeOwn h l s else forward h l s

/-- The next port in the round robin that holds a request (R81). -/
def nextPort (s : State) : Option Nat :=
  ((List.range 5).map (fun i => (s.host.turn + i) % 5)).find? (fun i => !(nth s.host.ports i).input.isEmpty)

/-- The interpreter takes at most n received requests, one per port per turn (R81). -/
def interpret : Nat → State → State
  | 0, s => s
  | n + 1, s =>
    match nextPort s with
    | none => s
    | some i =>
      match (nth s.host.ports i).input with
      | [] => s
      | (peer, l) :: rest =>
        let s := modHost (fun h => { h with
          ports := upd h.ports i (fun b => { b with input := rest }), turn := (i + 1) % 5 }) s
        interpret n (takeFrame (ixPort i) peer l s)

/-- The requests received and not yet taken. -/
def received (s : State) : Nat := (s.host.ports.toList.map (fun b => b.input.length)).sum

/-- Port p delivers frames to the interpreter (R410, R414, R561, R602). -/
def portUp (p : Port) (s : State) : Bool :=
  match p with
  | .qspi => qspiUp s
  | .mac0 => macUp 0 s
  | .mac1 => macUp 1 s
  | .plyUp => plyLive 0 s
  | .plyDown => plyLive 1 s

/-- EODEN_REQUEST: a complete request frame is received on a port, and the interpreter takes every frame that waits. The empty
frame stands for none: then only those in the input buffers are taken (R32, R81). -/
def execEodenRequest (t : Nat) (port : Port) (peer : Peer) (frame : List Byte) (s : State) : Host.Outcome State Fault Refusal :=
  let s := toL t s
  .next (if !interpreterUp s then s
    else
      let s := if frame.isEmpty || !portUp port s then s else pushIn port peer frame s
      interpret (received s) s)

/-! ### Dispatch (R81) -/

/-- The command that is dispatched next: one released by a latch, URGENT ones, then the others, each in acceptance order (R81, R82,
R112). -/
def nextCommand (s : State) : Option Entry :=
  let l := s.host.flight.filter (fun e => eligible e s)
  match l.find? (fun e => e.stage == .released) with
  | some e => some e
  | none => match l.find? (fun e => e.req.urgent) with
    | some e => some e
    | none => l.head?

/-- REQUEST_DISPATCH: the owning subsystem takes the next waiting request (R81). -/
def execRequestDispatch (t : Nat) (s : State) : Host.Outcome State Fault Refusal :=
  let s := toL t s
  .next (if !interpreterUp s then s
    else match nextCommand s with
      | none => s
      | some e => (opInfo e.op).elim s (fun o => carryOut o e s))

/-! ### SNAPALIGN (R112) -/

/-- The tick at which a SNAPALIGN command expires: 200 management ticks from its acceptance (R11, R112). -/
def alignEnd (e : Entry) : Nat := (ceilDiv e.accepted mgmtTicks + 200) * mgmtTicks

/-- SNAPALIGN_EXPIRED: the oldest SNAPALIGN command that waits, and those whose time ends with it, complete with EXPIRED
(R112). -/
def execSnapalignExpired (s : State) : Host.Outcome State Fault Refusal :=
  .next (match s.host.flight.find? (fun e => e.stage == .aligned) with
    | none => s
    | some e =>
      let s := toL (alignEnd e) s
      abortWhere (fun x => x.stage == .aligned && alignEnd x ≤ s.now) .expired s)

/-- What the commands released at latch tick t have put in the queues of the link takes effect 100 ticks after it, but for a swap,
which waits for a frame start (R112, R304). A frame that comes later takes effect as it comes (log entry 78). -/
def alignOutputs (t : Nat) (s0 s : State) : State :=
  let s := modWeft (fun w => { w with cfg := w.cfg.map (fun c =>
    if c.id < s0.weft.nextId then c else match c.item with
      | .swap _ _ => c
      | _ => { c with due := t + 100 }) }) s
  (List.range 48).foldl (fun s k =>
    if (skL k s).send && (skL k s).sp != (skL k s0).sp then modSkL k (fun x => { x with alignAt := some (t + 100) }) s else s) s

/-- The SNAPALIGN commands are released at latch tick t and taken ahead of every other command, in acceptance order; one that an
earlier command holds back is dispatched later (R82, R112). -/
def releaseAligned (t : Nat) (s : State) : State :=
  let l := s.host.flight.filter (fun e => e.stage == .aligned)
  let s := modFlight (fun f => f.map (fun e => if e.stage == .aligned then { e with stage := .released } else e)) s
  alignOutputs t s (l.foldl (fun s e =>
    let e := { e with stage := .released }
    if eligible e s then (opInfo e.op).elim s (fun o => carryOut o e s) else s) s)

/-- SNAPSHOT_LATCH: the next latch tick comes: its set latches and SNAPALIGN commands are released, or a refused chain mark is
reported (R109, R110, R112). -/
def execSnapshotLatch (s : State) : Host.Outcome State Fault Refusal :=
  .next (match nextLatch s with
    | none => s
    | some (n, t, refused) =>
      let s := toL t s
      match refused with
      | some st =>
        snapshotDone n st 0 (modReel (fun r => { r with
          refused := r.refused.filter (fun m => !(m.set == n && m.tick == t && m.status == st)) }) s)
      | none => releaseAligned t (latchSet n s))

end Sys2Proof.Machine
end

