-- ==== Sys2Proof/Machine/RegRows.lean ====
section
/-! DEFINITION. The rows of the table that are register accesses: each one is a WRITE_REG or a READ_REG request whose OBJECT is the
register's address (R100). A row whose index names no register is no access and has no effect. -/

namespace Sys2Proof.Machine

/-- The request r as a WRITE_REG of v to the register at an address. -/
def regWrite (a : Nat) (v : Word) (r : Req) (s : State) : State :=
  command infoWriteReg { r with object := word a, payload := [v] } s

/-- SKEIN_CTL_WRITE: SKEIN_CTLk (R144). -/
def execSkeinCtlWrite (k : Nat) (v : Word) (r : Req) (s : State) : Host.Outcome State Fault Refusal :=
  .next (if k < 48 then regWrite (0x42014 + 0x20 * k) v r s else s)

/-- LOOM_SKEIN_REG_WRITE: LOOM_SKEIN_CFGk, or LOOM_SKEIN_PINk (R186). -/
def execLoomSkeinRegWrite (k : Nat) (pin : Bool) (v : Word) (r : Req) (s : State) : Host.Outcome State Fault Refusal :=
  .next (if k < 48 then regWrite (0x31000 + 0x10 * k + 4 * b2n pin) v r s else s)

/-- FIO_PIN_CFG_WRITE: FIO_PINi_CFG (R333). -/
def execFioPinCfgWrite (i : Nat) (v : Word) (r : Req) (s : State) : Host.Outcome State Fault Refusal :=
  .next (if i < 80 then regWrite (0x81000 + 4 * i) v r s else s)

/-- FIO_OUT_WRITE: FIO_OUTn (R335). -/
def execFioOutWrite (n : Nat) (v : Word) (r : Req) (s : State) : Host.Outcome State Fault Refusal :=
  .next (if n < 3 then regWrite (0x80020 + 4 * n) v r s else s)

/-- WHORL_PROGRAM_WRITE: word i of the Whorl program memory (R305). -/
def execWhorlProgramWrite (i : Nat) (v : Word) (r : Req) (s : State) : Host.Outcome State Fault Refusal :=
  .next (if i < 1024 then regWrite (0x74000 + 4 * i) v r s else s)

/-- ROUTE_ENTRY_WRITE: word j of routing entry e (R407). -/
def execRouteEntryWrite (e j : Nat) (v : Word) (r : Req) (s : State) : Host.Outcome State Fault Refusal :=
  .next (if e < 2048 ∧ j < 4 then regWrite (0xB8000 + 0x10 * e + 4 * j) v r s else s)

/-- CAN_TRIG_WRITE: CAN_TRIGi_CFG, or CAN_TRIGi_WIN (R376). -/
def execCanTrigWrite (i : Nat) (win : Bool) (v : Word) (r : Req) (s : State) : Host.Outcome State Fault Refusal :=
  .next (if i < 16 then regWrite (0xAC100 + 8 * i + 4 * b2n win) v r s else s)

/-- CAN_AUTH_WRITE: word j of authentication profile a (R363). -/
def execCanAuthWrite (a j : Nat) (v : Word) (r : Req) (s : State) : Host.Outcome State Fault Refusal :=
  .next (if a < 64 ∧ j < 4 then regWrite (0xAD000 + 0x10 * a + 4 * j) v r s else s)

/-- RETRAIN: WEFT_CTL with RETRAIN set (R236). -/
def execRetrain (v : Word) (r : Req) (s : State) : Host.Outcome State Fault Refusal := .next (regWrite 0x90000 (v ||| 1) r s)

/-- WEFT_HOLD_WRITE: WEFT_CTL.HOLD (R243). -/
def execWeftHoldWrite (hold : Nat) (r : Req) (s : State) : Host.Outcome State Fault Refusal :=
  .next (regWrite 0x90000 (pack [(16, hold % 1024)]) r s)

/-- COLI_WRITE: LIGHT_PORTp_COLIq (R286). -/
def execColiWrite (p q : Nat) (v : Word) (r : Req) (s : State) : Host.Outcome State Fault Refusal :=
  .next (if p < 2 ∧ q < 12 then regWrite (0x70040 + 0x100 * p + 4 * q) v r s else s)

/-- PORT_FS_WRITE: LIGHT_PORTp_CFG, which holds the fail-safe choice FS (R300). -/
def execPortFsWrite (p : Nat) (v : Word) (r : Req) (s : State) : Host.Outcome State Fault Refusal :=
  .next (if p < 2 then regWrite (0x70000 + 0x100 * p) v r s else s)

/-- FRAME_MEMORY_WRITE: word i of the frame memory window (R288, R289). -/
def execFrameMemoryWrite (i : Nat) (v : Word) (r : Req) (s : State) : Host.Outcome State Fault Refusal :=
  .next (if i < 1536 then regWrite (0x78000 + 4 * i) v r s else s)

/-- ROOT_SELECT_WRITE: CLK_SRC (R565). -/
def execRootSelectWrite (v : Word) (r : Req) (s : State) : Host.Outcome State Fault Refusal := .next (regWrite 0x100008 v r s)

/-- VCORE_SET_WRITE: REG_VCORE (R583). -/
def execVcoreSetWrite (v : Word) (r : Req) (s : State) : Host.Outcome State Fault Refusal := .next (regWrite 0x100204 v r s)

/-- FIO_FAULT_CLEAR: FIO_STAT with FAULT written 1 (R326). -/
def execFioFaultClear (r : Req) (s : State) : Host.Outcome State Fault Refusal := .next (regWrite 0x80004 1 r s)

/-- EXT_TEMP_WRITE: LIGHT_EXT_TEMP (R292). -/
def execExtTempWrite (v : Word) (r : Req) (s : State) : Host.Outcome State Fault Refusal := .next (regWrite 0x70300 v r s)

/-- ERRCAP_READ: a READ_REG of CAN_ERRCAPk, which clears what it returns (R7). -/
def execErrcapRead (k : Nat) (r : Req) (s : State) : Host.Outcome State Fault Refusal :=
  .next (if k < 12 then command infoReadReg { r with object := word (0xA0024 + 0x1000 * k), payload := [] } s else s)

/-- GENERIC_REG_WRITE: a write to the register at an address; a field whose value is out of its range keeps its old one (R630). -/
def execGenericRegWrite (a : Nat) (v : Word) (r : Req) (s : State) : Host.Outcome State Fault Refusal := .next (regWrite a v r s)

end Sys2Proof.Machine
end

