-- ==== Sys2Proof/Machine/Dispatch.lean ====
section
/-! DEFINITION. The meaning of every command: one arm per constructor, each one direct call of its meaning. -/

namespace Sys2Proof.Machine

def exec (i : Instr) (s : State) : Host.Outcome State Fault Refusal :=
  match i with
  | .ping r => Sys2Proof.Machine.execPing r s
  | .getInfo r => Sys2Proof.Machine.execGetInfo r s
  | .sessionOpen r => Sys2Proof.Machine.execSessionOpen r s
  | .sessionClose r => Sys2Proof.Machine.execSessionClose r s
  | .subscribe r => Sys2Proof.Machine.execSubscribe r s
  | .getTime r => Sys2Proof.Machine.execGetTime r s
  | .funcEnable r => Sys2Proof.Machine.execFuncEnable r s
  | .readReg r => Sys2Proof.Machine.execReadReg r s
  | .writeReg r => Sys2Proof.Machine.execWriteReg r s
  | .readBlock r => Sys2Proof.Machine.execReadBlock r s
  | .modifyReg r => Sys2Proof.Machine.execModifyReg r s
  | .writeBlock r => Sys2Proof.Machine.execWriteBlock r s
  | .loadSet r => Sys2Proof.Machine.execLoadSet r s
  | .loadGet r => Sys2Proof.Machine.execLoadGet r s
  | .skeinDefine r => Sys2Proof.Machine.execSkeinDefine r s
  | .bridgeSet r => Sys2Proof.Machine.execBridgeSet r s
  | .loadClearLatch r => Sys2Proof.Machine.execLoadClearLatch r s
  | .loadSense r => Sys2Proof.Machine.execLoadSense r s
  | .failsafeSet r => Sys2Proof.Machine.execFailsafeSet r s
  | .fsMemoryVerified t w ok => Sys2Proof.Machine.execFsMemoryVerified t w ok s
  | .actProfileSet r => Sys2Proof.Machine.execActProfileSet r s
  | .actFire r => Sys2Proof.Machine.execActFire r s
  | .actStop r => Sys2Proof.Machine.execActStop r s
  | .actStatus r => Sys2Proof.Machine.execActStatus r s
  | .dimSet r => Sys2Proof.Machine.execDimSet r s
  | .matrixWrite r => Sys2Proof.Machine.execMatrixWrite r s
  | .matrixSwap r => Sys2Proof.Machine.execMatrixSwap r s
  | .whorlLoad r => Sys2Proof.Machine.execWhorlLoad r s
  | .whorlRun r => Sys2Proof.Machine.execWhorlRun r s
  | .whorlStop r => Sys2Proof.Machine.execWhorlStop r s
  | .derateGet r => Sys2Proof.Machine.execDerateGet r s
  | .fioCfg r => Sys2Proof.Machine.execFioCfg r s
  | .fioRead r => Sys2Proof.Machine.execFioRead r s
  | .fioWrite r => Sys2Proof.Machine.execFioWrite r s
  | .fioCountRead r => Sys2Proof.Machine.execFioCountRead r s
  | .canCfg r => Sys2Proof.Machine.execCanCfg r s
  | .canTx r => Sys2Proof.Machine.execCanTx r s
  | .canRxRead r => Sys2Proof.Machine.execCanRxRead r s
  | .canFilterSet r => Sys2Proof.Machine.execCanFilterSet r s
  | .ntCfg r => Sys2Proof.Machine.execNtCfg r s
  | .nmSleepReq r => Sys2Proof.Machine.execNmSleepReq r s
  | .nmStatus r => Sys2Proof.Machine.execNmStatus r s
  | .gwRouteSet r => Sys2Proof.Machine.execGwRouteSet r s
  | .rangeStart r => Sys2Proof.Machine.execRangeStart r s
  | .rangeResult r => Sys2Proof.Machine.execRangeResult r s
  | .rangeZoneCfg r => Sys2Proof.Machine.execRangeZoneCfg r s
  | .lockoutClear r => Sys2Proof.Machine.execLockoutClear r s
  | .immoCfg r => Sys2Proof.Machine.execImmoCfg r s
  | .keyProvision r => Sys2Proof.Machine.execKeyProvision r s
  | .keyDerive r => Sys2Proof.Machine.execKeyDerive r s
  | .keyInvalidate r => Sys2Proof.Machine.execKeyInvalidate r s
  | .transportRootRetire r => Sys2Proof.Machine.execTransportRootRetire r s
  | .encrypt r => Sys2Proof.Machine.execEncrypt r s
  | .decrypt r => Sys2Proof.Machine.execDecrypt r s
  | .macGen r => Sys2Proof.Machine.execMacGen r s
  | .macVer r => Sys2Proof.Machine.execMacVer r s
  | .sha256 r => Sys2Proof.Machine.execSha256 r s
  | .ecdsaVerify r => Sys2Proof.Machine.execEcdsaVerify r s
  | .random r => Sys2Proof.Machine.execRandom r s
  | .keyInfo r => Sys2Proof.Machine.execKeyInfo r s
  | .zeroise r => Sys2Proof.Machine.execZeroise r s
  | .cfgWriteMerge r => Sys2Proof.Machine.execCfgWriteMerge r s
  | .cfgWriteStageNew r => Sys2Proof.Machine.execCfgWriteStageNew r s
  | .cfgWriteStageAdd r => Sys2Proof.Machine.execCfgWriteStageAdd r s
  | .cfgWriteReplace r => Sys2Proof.Machine.execCfgWriteReplace r s
  | .cfgWriteLive r => Sys2Proof.Machine.execCfgWriteLive r s
  | .cfgRead r => Sys2Proof.Machine.execCfgRead r s
  | .updateBegin r => Sys2Proof.Machine.execUpdateBegin r s
  | .updateBlock r => Sys2Proof.Machine.execUpdateBlock r s
  | .updateVerify r => Sys2Proof.Machine.execUpdateVerify r s
  | .updateCommit r => Sys2Proof.Machine.execUpdateCommit r s
  | .updateAbort r => Sys2Proof.Machine.execUpdateAbort r s
  | .updateConfirm r => Sys2Proof.Machine.execUpdateConfirm r s
  | .recoveryUpdateCommit r => Sys2Proof.Machine.execRecoveryUpdateCommit r s
  | .faultStatus r => Sys2Proof.Machine.execFaultStatus r s
  | .faultAck r => Sys2Proof.Machine.execFaultAck r s
  | .faultCaptureRead r => Sys2Proof.Machine.execFaultCaptureRead r s
  | .faultReactionSet r => Sys2Proof.Machine.execFaultReactionSet r s
  | .faultInject r => Sys2Proof.Machine.execFaultInject r s
  | .pwrStateReq r => Sys2Proof.Machine.execPwrStateReq r s
  | .clkStatus r => Sys2Proof.Machine.execClkStatus r s
  | .clkGate r => Sys2Proof.Machine.execClkGate r s
  | .wakeCfg r => Sys2Proof.Machine.execWakeCfg r s
  | .snapTake r => Sys2Proof.Machine.execSnapTake r s
  | .snapRead r => Sys2Proof.Machine.execSnapRead r s
  | .snapRelease r => Sys2Proof.Machine.execSnapRelease r s
  | .counterRead r => Sys2Proof.Machine.execCounterRead r s
  | .loomPlacementGet r => Sys2Proof.Machine.execLoomPlacementGet r s
  | .loomRotateCfg r => Sys2Proof.Machine.execLoomRotateCfg r s
  | .loomPin r => Sys2Proof.Machine.execLoomPin r s
  | .loomChainCfg r => Sys2Proof.Machine.execLoomChainCfg r s
  | .loomBudgetGet r => Sys2Proof.Machine.execLoomBudgetGet r s
  | .skeinCtlWrite k v r => Sys2Proof.Machine.execSkeinCtlWrite k v r s
  | .loomSkeinRegWrite k pin v r => Sys2Proof.Machine.execLoomSkeinRegWrite k pin v r s
  | .fioPinCfgWrite i_ v r => Sys2Proof.Machine.execFioPinCfgWrite i_ v r s
  | .fioOutWrite n v r => Sys2Proof.Machine.execFioOutWrite n v r s
  | .whorlProgramWrite i_ v r => Sys2Proof.Machine.execWhorlProgramWrite i_ v r s
  | .routeEntryWrite e j v r => Sys2Proof.Machine.execRouteEntryWrite e j v r s
  | .canTrigWrite i_ win v r => Sys2Proof.Machine.execCanTrigWrite i_ win v r s
  | .canAuthWrite a j v r => Sys2Proof.Machine.execCanAuthWrite a j v r s
  | .wdogKick t c v => Sys2Proof.Machine.execWdogKick t c v s
  | .retrain v r => Sys2Proof.Machine.execRetrain v r s
  | .weftHoldWrite hold r => Sys2Proof.Machine.execWeftHoldWrite hold r s
  | .coliWrite p q v r => Sys2Proof.Machine.execColiWrite p q v r s
  | .portFsWrite p v r => Sys2Proof.Machine.execPortFsWrite p v r s
  | .frameMemoryWrite i_ v r => Sys2Proof.Machine.execFrameMemoryWrite i_ v r s
  | .rootSelectWrite v r => Sys2Proof.Machine.execRootSelectWrite v r s
  | .vcoreSetWrite v r => Sys2Proof.Machine.execVcoreSetWrite v r s
  | .fioFaultClear r => Sys2Proof.Machine.execFioFaultClear r s
  | .extTempWrite v r => Sys2Proof.Machine.execExtTempWrite v r s
  | .errcapRead k r => Sys2Proof.Machine.execErrcapRead k r s
  | .genericRegWrite a v r => Sys2Proof.Machine.execGenericRegWrite a v r s
  | .eodenRequest t port peer frame => Sys2Proof.Machine.execEodenRequest t port peer frame s
  | .requestDispatch t => Sys2Proof.Machine.execRequestDispatch t s
  | .responseSent t port => Sys2Proof.Machine.execResponseSent t port s
  | .snapalignExpired => Sys2Proof.Machine.execSnapalignExpired s
  | .snapshotLatch => Sys2Proof.Machine.execSnapshotLatch s
  | .qspiSend t len data => Sys2Proof.Machine.execQspiSend t len data s
  | .qspiStatus t => Sys2Proof.Machine.execQspiStatus t s
  | .qspiFetch t => Sys2Proof.Machine.execQspiFetch t s
  | .udpDatagramRx t m peer dst dport vlan plain data => Sys2Proof.Machine.execUdpDatagramRx t m peer dst dport vlan plain data s
  | .arpRequest t m asked fromAddr => Sys2Proof.Machine.execArpRequest t m asked fromAddr s
  | .icmpEcho t m asked fromAddr => Sys2Proof.Machine.execIcmpEcho t m asked fromAddr s
  | .gptpSync t m ns => Sys2Proof.Machine.execGptpSync t m ns s
  | .gptpSyncLoss t => Sys2Proof.Machine.execGptpSyncLoss t s
  | .pdelayRequest t m measured => Sys2Proof.Machine.execPdelayRequest t m measured s
  | .announce t m gm => Sys2Proof.Machine.execAnnounce t m gm s
  | .plyTraining t p latency => Sys2Proof.Machine.execPlyTraining t p latency s
  | .plyRetrain t p => Sys2Proof.Machine.execPlyRetrain t p s
  | .plyEodenPacket t p crc packet => Sys2Proof.Machine.execPlyEodenPacket t p crc packet s
  | .heartbeat h => Sys2Proof.Machine.execHeartbeat h s
  | .heartbeatSend => Sys2Proof.Machine.execHeartbeatSend s
  | .plyMark t p set tick => Sys2Proof.Machine.execPlyMark t p set tick s
  | .mirror t dev k kind value effect status => Sys2Proof.Machine.execMirror t dev k kind value effect status s
  | .mirrorSend t => Sys2Proof.Machine.execMirrorSend t s
  | .credit t p n => Sys2Proof.Machine.execCredit t p n s
  | .plyLoss d => Sys2Proof.Machine.execPlyLoss d s
  | .weftTraining t latency => Sys2Proof.Machine.execWeftTraining t latency s
  | .trainingTimeout => Sys2Proof.Machine.execTrainingTimeout s
  | .trainingRetry => Sys2Proof.Machine.execTrainingRetry s
  | .refresh t slot e => Sys2Proof.Machine.execRefresh t slot e s
  | .setpoint t k e => Sys2Proof.Machine.execSetpoint t k e s
  | .config t e => Sys2Proof.Machine.execConfig t e s
  | .configEchoTimeout => Sys2Proof.Machine.execConfigEchoTimeout s
  | .timeExchange t e => Sys2Proof.Machine.execTimeExchange t e s
  | .ladderRelease m n => Sys2Proof.Machine.execLadderRelease m n s
  | .adoptDone m => Sys2Proof.Machine.execAdoptDone m s
  | .adoptionReadbackStart m => Sys2Proof.Machine.execAdoptionReadbackStart m s
  | .readback t slot e m => Sys2Proof.Machine.execReadback t slot e m s
  | .cellOut t e => Sys2Proof.Machine.execCellOut t e s
  | .eventFrame t e => Sys2Proof.Machine.execEventFrame t e s
  | .idleFrame t up e => Sys2Proof.Machine.execIdleFrame t up e s
  | .unackedResend t e => Sys2Proof.Machine.execUnackedResend t e s
  | .linkSilence t => Sys2Proof.Machine.execLinkSilence t s
  | .upLoss t => Sys2Proof.Machine.execUpLoss t s
  | .holdoverExpiry => Sys2Proof.Machine.execHoldoverExpiry s
  | .fsForce t e => Sys2Proof.Machine.execFsForce t e s
  | .tripDecision t n current => Sys2Proof.Machine.execTripDecision t n current s
  | .classificationClose k => Sys2Proof.Machine.execClassificationClose k s
  | .limitTimeout t n others => Sys2Proof.Machine.execLimitTimeout t n others s
  | .thermalShutdown t n => Sys2Proof.Machine.execThermalShutdown t n s
  | .thermalRelease t n => Sys2Proof.Machine.execThermalRelease t n s
  | .clampPulseEnd t n energy => Sys2Proof.Machine.execClampPulseEnd t n energy s
  | .gateStuck t n => Sys2Proof.Machine.execGateStuck t n s
  | .pumpLow t n => Sys2Proof.Machine.execPumpLow t n s
  | .pumpRecovered t n => Sys2Proof.Machine.execPumpRecovered t n s
  | .ladderPauseEnd n => Sys2Proof.Machine.execLadderPauseEnd n s
  | .ladderMgmtPauseEnd n => Sys2Proof.Machine.execLadderMgmtPauseEnd n s
  | .cleanRun t n => Sys2Proof.Machine.execCleanRun t n s
  | .droopSet t b => Sys2Proof.Machine.execDroopSet t b s
  | .droopClear t b => Sys2Proof.Machine.execDroopClear t b s
  | .droopSuspensionEnd b => Sys2Proof.Machine.execDroopSuspensionEnd b s
  | .offStateDiagFilter t k opn stb => Sys2Proof.Machine.execOffStateDiagFilter t k opn stb s
  | .senseBad t n bad => Sys2Proof.Machine.execSenseBad t n bad s
  | .senseSelfTestDone t => Sys2Proof.Machine.execSenseSelfTestDone t s
  | .mselChange t code => Sys2Proof.Machine.execMselChange t code s
  | .tamperFlag t => Sys2Proof.Machine.execTamperFlag t s
  | .fingerprintRecord t k currents supplies => Sys2Proof.Machine.execFingerprintRecord t k currents supplies s
  | .inrushEnd k => Sys2Proof.Machine.execInrushEnd k s
  | .gateOffReported t k => Sys2Proof.Machine.execGateOffReported t k s
  | .deadtimeEnd k => Sys2Proof.Machine.execDeadtimeEnd k s
  | .brakePhaseEnd k => Sys2Proof.Machine.execBrakePhaseEnd k s
  | .handoverLeave k => Sys2Proof.Machine.execHandoverLeave k s
  | .managementTick m rails => Sys2Proof.Machine.execManagementTick m rails s
  | .rotationDue k => Sys2Proof.Machine.execRotationDue k s
  | .shedLift => Sys2Proof.Machine.execShedLift s
  | .giveback t j => Sys2Proof.Machine.execGiveback t j s
  | .roleSwap t j => Sys2Proof.Machine.execRoleSwap t j s
  | .quietPeriodEnd c => Sys2Proof.Machine.execQuietPeriodEnd c s
  | .extTempStale => Sys2Proof.Machine.execExtTempStale s
  | .integrationTimeout k => Sys2Proof.Machine.execIntegrationTimeout k s
  | .updateInactivity => Sys2Proof.Machine.execUpdateInactivity s
  | .trialExpiry => Sys2Proof.Machine.execTrialExpiry s
  | .lockoutEnd => Sys2Proof.Machine.execLockoutEnd s
  | .peakEnd a means => Sys2Proof.Machine.execPeakEnd a means s
  | .holdEnd a => Sys2Proof.Machine.execHoldEnd a s
  | .releaseEnd a => Sys2Proof.Machine.execReleaseEnd a s
  | .chopThreshold t a sample means => Sys2Proof.Machine.execChopThreshold t a sample means s
  | .chopOffEnd a => Sys2Proof.Machine.execChopOffEnd a s
  | .fadeStep k => Sys2Proof.Machine.execFadeStep k s
  | .fadeEnd k => Sys2Proof.Machine.execFadeEnd k s
  | .frameStart p => Sys2Proof.Machine.execFrameStart p s
  | .swapCopyDone p => Sys2Proof.Machine.execSwapCopyDone p s
  | .lsyncEdge t => Sys2Proof.Machine.execLsyncEdge t s
  | .lsyncLoss p => Sys2Proof.Machine.execLsyncLoss p s
  | .rowOvercurrent t p r => Sys2Proof.Machine.execRowOvercurrent t p r s
  | .columnOpen t p c => Sys2Proof.Machine.execColumnOpen t p c s
  | .columnShort t p c => Sys2Proof.Machine.execColumnShort t p c s
  | .whorlEnd t e => Sys2Proof.Machine.execWhorlEnd t e s
  | .whorlSet t e => Sys2Proof.Machine.execWhorlSet t e s
  | .whorlSetr t e => Sys2Proof.Machine.execWhorlSetr t e s
  | .whorlFade t e => Sys2Proof.Machine.execWhorlFade t e s
  | .whorlLdi t e => Sys2Proof.Machine.execWhorlLdi t e s
  | .whorlAddi t e => Sys2Proof.Machine.execWhorlAddi t e s
  | .whorlWait t e => Sys2Proof.Machine.execWhorlWait t e s
  | .whorlWaitr t e => Sys2Proof.Machine.execWhorlWaitr t e s
  | .whorlSync t e => Sys2Proof.Machine.execWhorlSync t e s
  | .whorlWaitExpiry e => Sys2Proof.Machine.execWhorlWaitExpiry e s
  | .whorlLoop t e => Sys2Proof.Machine.execWhorlLoop t e s
  | .whorlJmp t e => Sys2Proof.Machine.execWhorlJmp t e s
  | .whorlPix t e => Sys2Proof.Machine.execWhorlPix t e s
  | .whorlShift t e => Sys2Proof.Machine.execWhorlShift t e s
  | .whorlSwap t e => Sys2Proof.Machine.execWhorlSwap t e s
  | .whorlEvt t e => Sys2Proof.Machine.execWhorlEvt t e s
  | .whorlBadInstr t e => Sys2Proof.Machine.execWhorlBadInstr t e s
  | .debouncedChange t pins => Sys2Proof.Machine.execDebouncedChange t pins s
  | .fioEventGapEnd => Sys2Proof.Machine.execFioEventGapEnd s
  | .wettingBoostEnd i_ => Sys2Proof.Machine.execWettingBoostEnd i_ s
  | .outputTrip t i_ => Sys2Proof.Machine.execOutputTrip t i_ s
  | .outputThermal t i_ => Sys2Proof.Machine.execOutputThermal t i_ s
  | .hallOvercurrent t i_ => Sys2Proof.Machine.execHallOvercurrent t i_ s
  | .poll states => Sys2Proof.Machine.execPoll states s
  | .canFrameValid t sof k w0 rtr brs esi af xl data => Sys2Proof.Machine.execCanFrameValid t sof k w0 rtr brs esi af xl data s
  | .canTxSuccess t sof k src meas => Sys2Proof.Machine.execCanTxSuccess t sof k src meas s
  | .canTxError t k src lec data quiet => Sys2Proof.Machine.execCanTxError t k src lec data quiet s
  | .arbitrationLoss t k src => Sys2Proof.Machine.execArbitrationLoss t k src s
  | .boffDelayEnd k => Sys2Proof.Machine.execBoffDelayEnd k s
  | .recoveryDone t k => Sys2Proof.Machine.execRecoveryDone t k s
  | .integrationDone t k => Sys2Proof.Machine.execIntegrationDone t k s
  | .restrictedError t k lec data => Sys2Proof.Machine.execRestrictedError t k lec data s
  | .triggerFire t i_ => Sys2Proof.Machine.execTriggerFire t i_ s
  | .triggerMiss i_ => Sys2Proof.Machine.execTriggerMiss i_ s
  | .referenceMessage t sof k w0 data => Sys2Proof.Machine.execReferenceMessage t sof k w0 data s
  | .referenceSend t sof => Sys2Proof.Machine.execReferenceSend t sof s
  | .ntLoss => Sys2Proof.Machine.execNtLoss s
  | .wakeUpPattern t n a b c => Sys2Proof.Machine.execWakeUpPattern t n a b c s
  | .wakeUpFrame t n head dlc data => Sys2Proof.Machine.execWakeUpFrame t n head dlc data s
  | .fecWake t n => Sys2Proof.Machine.execFecWake t n s
  | .txdDomTimeout t n => Sys2Proof.Machine.execTxdDomTimeout t n s
  | .trxThermal t n on => Sys2Proof.Machine.execTrxThermal t n on s
  | .ringFrameRx t sof k w0 data => Sys2Proof.Machine.execRingFrameRx t sof k w0 data s
  | .tokenSend c => Sys2Proof.Machine.execTokenSend c s
  | .successorTimeout c => Sys2Proof.Machine.execSuccessorTimeout c s
  | .presenceTimeout c a => Sys2Proof.Machine.execPresenceTimeout c a s
  | .reformSend c => Sys2Proof.Machine.execReformSend c s
  | .ringRestartFrame c => Sys2Proof.Machine.execRingRestartFrame c s
  | .aloneDeclare t c => Sys2Proof.Machine.execAloneDeclare t c s
  | .commitRx t sof k w0 data => Sys2Proof.Machine.execCommitRx t sof k w0 data s
  | .silenceTick c => Sys2Proof.Machine.execSilenceTick c s
  | .nmWake t c => Sys2Proof.Machine.execNmWake t c s
  | .wakeQuietGap t c => Sys2Proof.Machine.execWakeQuietGap t c s
  | .wakeFrameRx t sof k w0 data => Sys2Proof.Machine.execWakeFrameRx t sof k w0 data s
  | .gwDatagramRx t m peer data => Sys2Proof.Machine.execGwDatagramRx t m peer data s
  | .gwDatagramSend t m => Sys2Proof.Machine.execGwDatagramSend t m s
  | .segmentIsolation t g => Sys2Proof.Machine.execSegmentIsolation t g s
  | .lockstepMismatch t => Sys2Proof.Machine.execLockstepMismatch t s
  | .checkerSelfTest miss => Sys2Proof.Machine.execCheckerSelfTest miss s
  | .delayCopyError t => Sys2Proof.Machine.execDelayCopyError t s
  | .watchdogExpiry c => Sys2Proof.Machine.execWatchdogExpiry c s
  | .memoryError t kind addr access master core => Sys2Proof.Machine.execMemoryError t kind addr access master core s
  | .faultReport t src inst detail addr access master => Sys2Proof.Machine.execFaultReport t src inst detail addr access master s
  | .alvToggle => Sys2Proof.Machine.execAlvToggle s
  | .zeroisationStepDone t => Sys2Proof.Machine.execZeroisationStepDone t s
  | .keyStoreReady t a b => Sys2Proof.Machine.execKeyStoreReady t a b s
  | .keyBankVerified t ok => Sys2Proof.Machine.execKeyBankVerified t ok s
  | .trngHealthFail t => Sys2Proof.Machine.execTrngHealthFail t s
  | .trngHealthPass t => Sys2Proof.Machine.execTrngHealthPass t s
  | .cfgBankVerified t ok => Sys2Proof.Machine.execCfgBankVerified t ok s
  | .handover t => Sys2Proof.Machine.execHandover t s
  | .handoverFailure t => Sys2Proof.Machine.execHandoverFailure t s
  | .xiMeasurement t outcome => Sys2Proof.Machine.execXiMeasurement t outcome s
  | .rootFailure t => Sys2Proof.Machine.execRootFailure t s
  | .autoRcSwitch => Sys2Proof.Machine.execAutoRcSwitch s
  | .rootSwitchLock t forced => Sys2Proof.Machine.execRootSwitchLock t forced s
  | .pllLockLoss t => Sys2Proof.Machine.execPllLockLoss t s
  | .abortPoint t => Sys2Proof.Machine.execAbortPoint t s
  | .entryPhaseTimeout => Sys2Proof.Machine.execEntryPhaseTimeout s
  | .entryCommit t => Sys2Proof.Machine.execEntryCommit t s
  | .wakeLatch t src up => Sys2Proof.Machine.execWakeLatch t src up s
  | .deepSleepWake t => Sys2Proof.Machine.execDeepSleepWake t s
  | .restore t miss bad => Sys2Proof.Machine.execRestore t miss bad s
  | .railTimeout t rail => Sys2Proof.Machine.execRailTimeout t rail s
  | .restoreRetry t => Sys2Proof.Machine.execRestoreRetry t s
  | .regRequestTimeout t status => Sys2Proof.Machine.execRegRequestTimeout t status s
  | .pDiePowerOn t => Sys2Proof.Machine.execPDiePowerOn t s
  | .pDiePowerOnRelease t => Sys2Proof.Machine.execPDiePowerOnRelease t s
  | .lDiePowerOn t id split bootsel => Sys2Proof.Machine.execLDiePowerOn t id split bootsel s
  | .rstn t ns id split bootsel => Sys2Proof.Machine.execRstn t ns id split bootsel s
  | .l3Warm t => Sys2Proof.Machine.execL3Warm t s
  | .l3Chip t => Sys2Proof.Machine.execL3Chip t s
  | .trstn t => Sys2Proof.Machine.execTrstn t s
  | .firmwareStarted t bad => Sys2Proof.Machine.execFirmwareStarted t bad s
  | .chainWaitTimeout => Sys2Proof.Machine.execChainWaitTimeout s
  | .recoveryStart t bad => Sys2Proof.Machine.execRecoveryStart t bad s
  | .anchorSlotStart => Sys2Proof.Machine.execAnchorSlotStart s
  | .reportRead good pre answers => Sys2Proof.Machine.execReportRead good pre answers s
  | .slotResult => Sys2Proof.Machine.execSlotResult s
  | .macLinkChange t m up fast => Sys2Proof.Machine.execMacLinkChange t m up fast s
  | .canRxError t k lec data eight => Sys2Proof.Machine.execCanRxError t k lec data eight s
  | .regRequestAcknowledged t status => Sys2Proof.Machine.execRegRequestAcknowledged t status s
  | .unitGateClosed t u => Sys2Proof.Machine.execUnitGateClosed t u s
  | .retryWindowEnd k => Sys2Proof.Machine.execRetryWindowEnd k s
  | .otpProgramDone t ok => Sys2Proof.Machine.execOtpProgramDone t ok s
  | .updateWriteVerified t ok bad => Sys2Proof.Machine.execUpdateWriteVerified t ok bad s

end Sys2Proof.Machine
end

