-- ==== Sys2Proof/Safety.lean ====
section
/-! DEFINITION. What counts as a safe step, in the terms in which statements are made: a step that answers a next state, and an
invariant that every step keeps. -/

namespace Sys2Proof.Machine

/-- The outcome is a next state. -/
def Goes (o : Host.Outcome State Fault Refusal) : Prop := ∃ t, o = .next t

/-- The command answers a next state, of which q holds. -/
def GoesTo (o : Host.Outcome State Fault Refusal) (q : State → Prop) : Prop := ∃ t, o = .next t ∧ q t

/-- The predicate is kept by every step. -/
def Kept (inv : State → Prop) : Prop := ∀ s t, inv s → step s = .next t → inv t

/-! ### A request that is carried out as it arrives -/

/-- The state as a request arrives: device time moved to the request's tick, and stage 3 of R32 passed. -/
def arrived (r : Req) (s : State) : State := passed3 r (toL r.t s)

/-- The entry that an accepted request becomes (R78). -/
def entryFor (o : OpInfo) (r : Req) (s : State) : Entry :=
  { op := o.op, req := r, accepted := (arrived r s).now, key := slotKey r.slot (arrived r s) }

/-- The state with the request held in flight (R78). -/
def heldAt (o : OpInfo) (r : Req) (s : State) : State := modFlight (fun l => l ++ [entryFor o r s]) (arrived r s)

/-- The same entry as its subsystem takes it: past its commit point (R84). -/
def takenEntry (o : OpInfo) (r : Req) (s : State) : Entry := { entryFor o r s with stage := .taken }

/-- The state in which the subsystem takes the command. -/
def atRun (o : OpInfo) (r : Req) (s : State) : State :=
  modEntry (entryFor o r s) (fun x => { x with stage := .taken }) (o.onAccept (entryFor o r s) (heldAt o r s))

/-- The request is taken as it arrives: the interpreter runs, the request passes stage 4 of R74, it is not SNAPALIGN, its function
group and its unit are open (R85, R561), nothing holds back its dispatch (R82), and no other waiting command goes before
it (R81). -/
def ready (o : OpInfo) (r : Req) (s : State) : Bool :=
  interpreterUp (toL r.t s) && (stage4 o r (arrived r s)).isNone && !r.snapalign && !groupOff (groupOf o.op) (arrived r s) &&
    (barred o r (o.onAccept (entryFor o r s) (heldAt o r s))).isNone &&
    eligible (entryFor o r s) (o.onAccept (entryFor o r s) (heldAt o r s)) &&
    !goesFirst (entryFor o r s) (o.onAccept (entryFor o r s) (heldAt o r s))

/-- The command of request r completes with DONE and this payload, in state t. -/
def doneWith (o : OpInfo) (r : Req) (s : State) (payload : List Word) (t : State) : State :=
  complete (entryFor o r s) .done payload t

/-- The command of request r waits in state t for one report, the words of data kept for its response; where q holds, it answers
QUEUED (R83). -/
def waitsWith (o : OpInfo) (r : Req) (s : State) (w : Await) (q : Bool) (data : List Word) (t : State) : State :=
  settle (entryFor o r s) (.wait w q data) t

/-- The request r as a WRITE_REG of v to the register at an address (R100). -/
def regReq (a : Nat) (v : Word) (r : Req) : Req := { r with object := word a, payload := [v] }

/-- The operands of a set-point word are good for skein k, and the host owns it (R143). -/
def loadTakes (k : Nat) (w : Word) (s : State) : Bool :=
  (defL k s).defined && !(defL k s).leg && dutyOk (defL k s) (fld 16 0 w) && (defL k s).owner != 1 && (defL k s).owner != 2

/-- The set-point that a word commands for skein k (R143). -/
def wordSp (k : Nat) (w : Word) (s : State) : SetPoint := { (skL k s).sp with duty := fld 16 0 w, hiz := bit 17 w }

/-- A pin word is good for skein k: it names cells of the skein, no cell pinned and kept out at once, no more pinned cells
than TARGET and no fewer left than TARGET, and no pinned cell out of service (R183). -/
def pinTakes (k : Nat) (w : Word) (s : State) : Bool :=
  let d := defL k s
  let pins := fld 11 0 w
  let outs := fld 27 16 w
  d.defined && pins < 2 ^ d.count && outs < 2 ^ d.count && pins &&& outs == 0 && (bitList 12 pins).length ≤ d.target &&
    d.target ≤ d.count - popCount 12 outs &&
    (bitList 12 pins).all (fun i => !(roleOf (d.first + i) s == .outOfService && causePending (viewOf (d.first + i) s)))

/-! ### Frames of the Weft link -/

/-- The link carries down frames: it is LIVE or in ADOPT, the P-die runs, and no L4 reaction has halted the L-die (R230, R445). -/
def downOpen (s : State) : Bool :=
  (s.weft.state == .live || s.weft.state == .adopt) && s.pdie.sup != .reset && s.pdie.sup != .asleep && !s.faults.halted

/-- The state in which a good down frame of tick t with payload p has been taken; in an odd frame time it carries the
acknowledgement (R231, R234). -/
def gotDown (t : Nat) (odd : Bool) (p : Nat) (s : State) : State :=
  let s := modP (fun x => { x with lastDown := (toL t s).pNow }) (toL t s)
  if odd && obeys s then takeAck (pfld 47 42 p) s else s

/-- The link carries up frames: it is LIVE or in ADOPT, the P-die runs, and no L4 reaction has halted the L-die. -/
def upOpen (s : State) : Bool :=
  (s.weft.state == .live || s.weft.state == .adopt) && s.pdie.sup != .reset && s.pdie.sup != .asleep && !s.faults.halted

/-- The state in which a good up frame of tick t has been taken. -/
def gotUp (t : Nat) (s : State) : State := modWeft (fun w => { w with lastUp := (toL t s).now }) (toL t s)

/-! ### Whorl engines -/

/-- Engine e executes: it runs, the link is LIVE, the host side is up, the device is not in SLEEP, and its PC lies in its range
(R242, R294, R570). -/
def whorlOpen (e : Nat) (s : State) : Bool :=
  e < 16 && (engine e s).state == .running && linkLive s && hostUp s && s.clk.power != 2 && (engine e s).low ≤ (engine e s).pc &&
    (engine e s).pc ≤ (engine e s).high

/-- The state in which engine e carries out the instruction that it executes at tick t, or at the first tick it may (R295). -/
def whorlBegun (t e : Nat) (s : State) : State := begins e (toL (instrTick t e s) s)

/-! ### CAN frames -/

/-- Controller k takes the frame x at its valid point: it is one of the twelve, it receives, it carries the frame's format, no stop
has left a frame in progress to it, and the host side is up (R339, R340, R345, R355). -/
def canOpen (k : Nat) (x : CanRx) (s : State) : Bool :=
  k < 12 && receives k s && hostUp s && rxShape x && formatOn k x s && (canCtl k s).tail.isNone

/-! ### The straps -/

/-- What no operation but the sampling of the straps touches: the waiting commands, DEVICE_ID, SPLIT and BOOTSEL (R49, R52). -/
def State.fixed (s : State) : List Instr × Nat × Bool × Bool := (s.pending, s.deviceId, s.split, s.bootsel)

/-- The command samples the straps: the resets of R49. -/
def samples (c : Instr) : Bool :=
  match c with
  | .lDiePowerOn _ _ _ _ => true
  | .rstn _ _ _ _ _ => true
  | _ => false

/-! ### Host commands -/

/-- The host command that a row of the table is: its opcode as the interpreter knows it, and the request it stands for. -/
def hostRow (c : Instr) : Option (OpInfo × Req) :=
  match c with
  | .ping r => some (infoPing, r)
  | .getInfo r => some (infoGetInfo, r)
  | .sessionOpen r => some (infoSessionOpen, r)
  | .sessionClose r => some (infoSessionClose, r)
  | .subscribe r => some (infoSubscribe, r)
  | .getTime r => some (infoGetTime, r)
  | .funcEnable r => some (infoFuncEnable, r)
  | .readReg r => some (infoReadReg, r)
  | .writeReg r => some (infoWriteReg, r)
  | .readBlock r => some (infoReadBlock, r)
  | .modifyReg r => some (infoModifyReg, r)
  | .writeBlock r => some (infoWriteBlock, r)
  | .loadSet r => some (infoLoadSet, r)
  | .loadGet r => some (infoLoadGet, r)
  | .skeinDefine r => some (infoSkeinDefine, r)
  | .bridgeSet r => some (infoBridgeSet, r)
  | .loadClearLatch r => some (infoLoadClearLatch, r)
  | .loadSense r => some (infoLoadSense, r)
  | .failsafeSet r => some (infoFailsafeSet, r)
  | .actProfileSet r => some (infoActProfileSet, r)
  | .actFire r => some (infoActFire, r)
  | .actStop r => some (infoActStop, r)
  | .actStatus r => some (infoActStatus, r)
  | .dimSet r => some (infoDimSet, r)
  | .matrixWrite r => some (infoMatrixWrite, r)
  | .matrixSwap r => some (infoMatrixSwap, r)
  | .whorlLoad r => some (infoWhorlLoad, r)
  | .whorlRun r => some (infoWhorlRun, r)
  | .whorlStop r => some (infoWhorlStop, r)
  | .derateGet r => some (infoDerateGet, r)
  | .fioCfg r => some (infoFioCfg, r)
  | .fioRead r => some (infoFioRead, r)
  | .fioWrite r => some (infoFioWrite, r)
  | .fioCountRead r => some (infoFioCountRead, r)
  | .canCfg r => some (infoCanCfg, r)
  | .canTx r => some (infoCanTx, r)
  | .canRxRead r => some (infoCanRxRead, r)
  | .canFilterSet r => some (infoCanFilterSet, r)
  | .ntCfg r => some (infoNtCfg, r)
  | .nmSleepReq r => some (infoNmSleepReq, r)
  | .nmStatus r => some (infoNmStatus, r)
  | .gwRouteSet r => some (infoGwRouteSet, r)
  | .rangeStart r => some (infoRangeStart, r)
  | .rangeResult r => some (infoRangeResult, r)
  | .rangeZoneCfg r => some (infoRangeZoneCfg, r)
  | .lockoutClear r => some (infoLockoutClear, r)
  | .immoCfg r => some (infoImmoCfg, r)
  | .keyProvision r => some (infoKeyProvision, r)
  | .keyDerive r => some (infoKeyDerive, r)
  | .keyInvalidate r => some (infoKeyInvalidate, r)
  | .transportRootRetire r => some (infoKeyInvalidate, { r with object := 0x40 })
  | .encrypt r => some (infoCryptoOp, (withOp 1 r))
  | .decrypt r => some (infoCryptoOp, (withOp 2 r))
  | .macGen r => some (infoCryptoOp, (withOp 3 r))
  | .macVer r => some (infoCryptoOp, (withOp 4 r))
  | .sha256 r => some (infoCryptoOp, (withOp 5 r))
  | .ecdsaVerify r => some (infoCryptoOp, (withOp 6 r))
  | .random r => some (infoCryptoOp, (withOp 7 r))
  | .keyInfo r => some (infoKeyInfo, r)
  | .zeroise r => some (infoZeroise, r)
  | .cfgWriteMerge r => some (infoCfgWrite, { r with object := 0 })
  | .cfgWriteStageNew r => some (infoCfgWrite, { r with object := 1 })
  | .cfgWriteStageAdd r => some (infoCfgWrite, { r with object := 2 })
  | .cfgWriteReplace r => some (infoCfgWrite, { r with object := 3 })
  | .cfgWriteLive r => some (infoCfgWrite, { r with object := 4 })
  | .cfgRead r => some (infoCfgRead, r)
  | .updateBegin r => some (infoUpdateBegin, r)
  | .updateBlock r => some (infoUpdateBlock, r)
  | .updateVerify r => some (infoUpdateVerify, r)
  | .updateCommit r => some (infoUpdateCommit, r)
  | .updateAbort r => some (infoUpdateAbort, r)
  | .updateConfirm r => some (infoUpdateConfirm, r)
  | .faultStatus r => some (infoFaultStatus, r)
  | .faultAck r => some (infoFaultAck, r)
  | .faultCaptureRead r => some (infoFaultCaptureRead, r)
  | .faultReactionSet r => some (infoFaultReactionSet, r)
  | .faultInject r => some (infoFaultInject, r)
  | .pwrStateReq r => some (infoPwrStateReq, r)
  | .clkStatus r => some (infoClkStatus, r)
  | .clkGate r => some (infoClkGate, r)
  | .wakeCfg r => some (infoWakeCfg, r)
  | .snapTake r => some (infoSnapTake, r)
  | .snapRead r => some (infoSnapRead, r)
  | .snapRelease r => some (infoSnapRelease, r)
  | .counterRead r => some (infoCounterRead, r)
  | .loomPlacementGet r => some (infoLoomPlacementGet, r)
  | .loomRotateCfg r => some (infoLoomRotateCfg, r)
  | .loomPin r => some (infoLoomPin, r)
  | .loomChainCfg r => some (infoLoomChainCfg, r)
  | .loomBudgetGet r => some (infoLoomBudgetGet, r)
  | _ => none

/-- The state in which a request that fails stage 4 is answered with a status, and nothing else done (R74, R76). -/
def refusedWith (o : OpInfo) (r : Req) (s : State) (st : Status) : State :=
  pushOut r.port (answerFrame o.op r (byte5 r false) st (slotKey r.slot (arrived r s)) (arrived r s)) (arrived r s)

/-- SNAPALIGN and the LENGTH of the request are allowed for the opcode: the checks 2 and 3 of R74. -/
def formatOk (o : OpInfo) (r : Req) : Bool := (!r.snapalign || o.snap) && o.len (4 * r.payload.length) && o.fits r

/-- The state in which the request has been accepted and is held in flight (R78, R80). -/
def acceptedAt (o : OpInfo) (r : Req) (s : State) : State := o.onAccept (entryFor o r s) (heldAt o r s)

/-! ### What a command leaves unchanged -/

/-- The queries, the sessions, the snapshots and the cryptographic operations of the host. -/
def queryOrSession (c : Instr) : Bool :=
  match c with
  | .ping _ | .getInfo _ | .sessionOpen _ | .sessionClose _ | .subscribe _ | .getTime _ | .loadGet _ | .loadSense _
  | .actStatus _ | .derateGet _ | .fioRead _ | .rangeResult _ | .encrypt _ | .decrypt _ | .macGen _ | .macVer _ | .sha256 _
  | .ecdsaVerify _ | .random _ | .keyInfo _ | .cfgRead _ | .faultStatus _ | .faultCaptureRead _ | .clkStatus _ | .snapTake _
  | .snapRead _ | .snapRelease _ | .counterRead _ | .loomPlacementGet _ | .loomBudgetGet _ => true
  | _ => false

/-- The steps of the host ports and of a snapshot that no host command causes at once. -/
def portStep (c : Instr) : Bool :=
  match c with
  | .responseSent _ _ | .snapalignExpired | .qspiStatus _ | .qspiFetch _ | .udpDatagramRx _ _ _ _ _ _ _ _ | .arpRequest _ _ _ _
  | .icmpEcho _ _ _ _ | .gptpSync _ _ _ | .pdelayRequest _ _ _ | .announce _ _ _ | .plyTraining _ _ _ | .plyEodenPacket _ _ _ _
  | .heartbeatSend | .plyMark _ _ _ _ | .credit _ _ _ => true
  | _ => false

/-- The steps that the P-die takes for itself. -/
def pdieStep (c : Instr) : Bool :=
  match c with
  | .fsMemoryVerified _ _ _ | .holdoverExpiry | .tripDecision _ _ _ | .limitTimeout _ _ _ | .thermalShutdown _ _
  | .thermalRelease _ _ | .clampPulseEnd _ _ _ | .gateStuck _ _ | .pumpLow _ _ | .pumpRecovered _ _ | .ladderPauseEnd _
  | .cleanRun _ _ | .droopSet _ _ | .droopClear _ _ | .droopSuspensionEnd _ | .offStateDiagFilter _ _ _ _ | .senseBad _ _ _
  | .senseSelfTestDone _ | .mselChange _ _ | .tamperFlag _ | .fingerprintRecord _ _ _ _ | .inrushEnd _ | .gateOffReported _ _
  | .deadtimeEnd _ | .brakePhaseEnd _ | .peakEnd _ _ | .releaseEnd _ | .chopOffEnd _ | .frameStart _ | .swapCopyDone _
  | .lsyncEdge _ | .lsyncLoss _ | .rowOvercurrent _ _ _ | .columnOpen _ _ _ | .columnShort _ _ _ | .debouncedChange _ _
  | .wettingBoostEnd _ | .outputTrip _ _ | .outputThermal _ _ | .hallOvercurrent _ _ | .poll _ | .wakeUpPattern _ _ _ _ _
  | .wakeUpFrame _ _ _ _ _ | .fecWake _ _ | .txdDomTimeout _ _ | .trxThermal _ _ _ | .pDiePowerOn _ | .pDiePowerOnRelease _
  | .retryWindowEnd _ => true
  | _ => false

/-- The commands and steps of skeins and of the Loom planner that end in the planner. -/
def loomStep (c : Instr) : Bool :=
  match c with
  | .loadSet _ | .skeinDefine _ | .bridgeSet _ | .loomRotateCfg _ | .loomPin _ | .loomChainCfg _ | .plyRetrain _ _
  | .mirror _ _ _ _ _ _ _ | .mirrorSend _ | .ladderMgmtPauseEnd _ | .rotationDue _ | .giveback _ _ | .roleSwap _ _ => true
  | _ => false

/-- The commands and steps of the stores, of ranging and of fault handling that end there. -/
def storeStep (c : Instr) : Bool :=
  match c with
  | .rangeStart _ | .lockoutClear _ | .immoCfg _ | .keyProvision _ | .keyDerive _ | .keyInvalidate _ | .transportRootRetire _
  | .zeroise _ | .cfgWriteMerge _ | .cfgWriteStageNew _ | .cfgWriteStageAdd _ | .cfgWriteReplace _ | .cfgWriteLive _
  | .updateBegin _ | .updateBlock _ | .updateVerify _ | .updateCommit _ | .updateAbort _ | .updateConfirm _
  | .recoveryUpdateCommit _ | .faultAck _ | .faultReactionSet _ | .quietPeriodEnd _ | .updateInactivity | .trialExpiry
  | .lockoutEnd | .alvToggle | .zeroisationStepDone _ | .keyBankVerified _ _ | .trngHealthPass _ | .handoverFailure _
  | .anchorSlotStart | .updateWriteVerified _ _ _ => true
  | _ => false

/-- The commands and steps of the CAN controllers and of network management that end there. -/
def canStep (c : Instr) : Bool :=
  match c with
  | .canCfg _ | .canTx _ | .canRxRead _ | .canFilterSet _ | .ntCfg _ | .nmSleepReq _ | .nmStatus _ | .gwRouteSet _
  | .integrationTimeout _ | .arbitrationLoss _ _ _ | .boffDelayEnd _ | .recoveryDone _ _ | .integrationDone _ _
  | .restrictedError _ _ _ _ | .triggerFire _ _ | .triggerMiss _ | .tokenSend _ | .successorTimeout _ | .presenceTimeout _ _
  | .reformSend _ | .ringRestartFrame _ | .aloneDeclare _ _ | .silenceTick _ | .nmWake _ _ | .wakeQuietGap _ _
  | .gwDatagramSend _ _ => true
  | _ => false

/-- The steps of the Whorl engines, of the cores and of the checkers that end there or in a fault report. -/
def reportStep (c : Instr) : Bool :=
  match c with
  | .matrixWrite _ | .matrixSwap _ | .whorlLoad _ | .whorlRun _ | .whorlStop _ | .faultInject _ | .wdogKick _ _ _
  | .qspiSend _ _ _ | .gptpSyncLoss _ | .trainingTimeout | .adoptionReadbackStart _ | .extTempStale | .whorlEnd _ _
  | .whorlLdi _ _ | .whorlAddi _ _ | .whorlWait _ _ | .whorlWaitr _ _ | .whorlSync _ _ | .whorlWaitExpiry _ | .whorlLoop _ _
  | .whorlJmp _ _ | .whorlPix _ _ | .whorlShift _ _ | .whorlSwap _ _ | .whorlEvt _ _ | .whorlBadInstr _ _ | .lockstepMismatch _
  | .checkerSelfTest _ | .delayCopyError _ | .watchdogExpiry _ | .memoryError _ _ _ _ _ _ => true
  | _ => false

/-- The commands that can change the key store or the OTP: those that carry out a waiting host command, the key commands, the steps of
the stores, and the resets and adoptions that set them anew. -/
def keyStep (c : Instr) : Bool :=
  match c with
  | .keyProvision _ | .keyDerive _ | .keyInvalidate _ | .transportRootRetire _ | .zeroise _ | .eodenRequest _ _ _ _
  | .requestDispatch _ | .snapshotLatch | .adoptDone _ | .readback _ _ _ _ | .managementTick _ _ | .zeroisationStepDone _
  | .keyStoreReady _ _ _ | .keyBankVerified _ _ | .trngHealthFail _ | .trngHealthPass _ | .entryCommit _ | .restore _ _ _
  | .lDiePowerOn _ _ _ _ | .rstn _ _ _ _ _ | .l3Warm _ | .l3Chip _ | .otpProgramDone _ _ | .updateWriteVerified _ _ _ => true
  | _ => false

/-- The state besides the host side, the counters, the clocks and the count of free values. -/
def State.besidesHost (s : State) : State := { s with host := {}, counters := [], now := 0, pNow := 0, free := 0 }

/-- The state besides the P-die, the counters, the clocks and the count of free values. -/
def State.besidesPDie (s : State) : State := { s with pdie := {}, counters := [], now := 0, pNow := 0, free := 0 }

/-- The state besides the host side and the Loom planner. -/
def State.besidesLoom (s : State) : State := { s.besidesHost with loom := {} }

/-- The state besides the host side, the stores, the ranging unit and the fault collector. -/
def State.besidesStores (s : State) : State :=
  { s.besidesHost with keys := {}, otp := {}, store := {}, range := {}, faults := {} }

/-- The state besides the host side, the CAN controllers, network management, the framer and the P-die. -/
def State.besidesCan (s : State) : State := { s.besidesHost with can := {}, nm := {}, pdie := {}, weft := {} }

/-- The state besides the host side, the lighting, the cores, the fault collector, the framer and the condition of the L-die. -/
def State.besidesReports (s : State) : State :=
  { s.besidesHost with light := {}, spindle := {}, faults := {}, weft := {}, ldie := .off }

/-! ### The invariant -/

/-- DEVICE_ID is 0 to 3 (R36), and every command that waits is well formed. -/
def State.Inv (s : State) : Prop := s.deviceId < 4 ∧ ∀ c ∈ s.pending, c.wf = true

end Sys2Proof.Machine
end

