-- ==== Sys2Proof/Certificates/Slice0/Obligations.lean ====
section
/-! DEFINITION. The statements for the provers. The first 38 say of every command, row by row, the next state it has under hypotheses on the
state and the operands alone; the others state rules of the spec, invariants of every step, and what a command leaves unchanged.
`ready o r s` says that the request passes the interpreter's checks and is carried out at once; `atRun o r s` is the state in which it is. -/

open Sys2Proof Sys2Proof.Machine

/-- PING answers SYS_ID (R2, R97). GET_INFO answers a free number of free words (log entry 2). GET_TIME answers device time, low word first
(R97). SUBSCRIBE writes the slot's event mask, whose bits 1:0 it cannot change (R97, R104). SESSION_CLOSE waits for the other commands of
its slot (R95). SESSION_OPEN without a parent, while the random source has not failed, ends the session's key (R90, R489). SESSION_OPEN on
a parent that passes its checks derives the session key and answers the device nonce and the proof (R90). FUNC_ENABLE enables a group that
is disabled, disables one that is enabled, aborting its commands short of their commit point, and else changes nothing (R85). -/
def Obligations.InterpreterCommandsComplete : Prop :=
  (∀ (r : Req) (s : State), ready infoPing r s = true →
    exec (.ping r) s = .next (doneWith infoPing r s [0x96600B00] (atRun infoPing r s))) ∧
  (∀ (r : Req) (s : State), ready infoGetInfo r s = true →
    let n := freeWord (atRun infoGetInfo r s)
    let l := freeWords (n.1.toNat % 257) n.2
    exec (.getInfo r) s = .next (doneWith infoGetInfo r s l.1 l.2)) ∧
  (∀ (r : Req) (s : State), ready infoGetTime r s = true →
    exec (.getTime r) s =
      .next (doneWith infoGetTime r s (natToWords 2 (deviceTime (atRun infoGetTime r s)).toNat) (atRun infoGetTime r s))) ∧
  (∀ (r : Req) (s : State), ready infoSubscribe r s = true →
    exec (.subscribe r) s = .next (doneWith infoSubscribe r s []
      (modSlot r.slot (fun sl => { sl with mask := arg r 0 &&& 0xFFFFFFFC }) (atRun infoSubscribe r s)))) ∧
  (∀ (r : Req) (s : State), ready infoSessionClose r s = true →
    exec (.sessionClose r) s =
      .next (waitsWith infoSessionClose r s .slotEmpty false [] (atRun infoSessionClose r s))) ∧
  (∀ (r : Req) (s : State), ready infoSessionOpen r s = true → r.object = 0xFFFFFFFF → s.keys.trngFail = false →
    let e := takenEntry infoSessionOpen r s
    let nonce := freeBytes 16 (atRun infoSessionOpen r s)
    exec (.sessionOpen r) s = .next (doneWith infoSessionOpen r s (bytesToWords 6 (nonce.1 ++ List.replicate 8 0))
      (modEntry e (fun y => { y with key := none }) (setSession r.slot none e nonce.2)))) ∧
  (∀ (r : Req) (s : State) (key : List Byte) (rights gen : Nat), ready infoSessionOpen r s = true → obj r ≤ 64 →
    sessionParent (obj r) (atRun infoSessionOpen r s) = .ok (key, rights, gen) →
    let host := wordsToBytes r.payload
    let nonce := freeBytes 16 (countParent (obj r) (.ok (key, rights, gen)) (atRun infoSessionOpen r s))
    let sk := kdf key (ascii "EODEN-SESS") (host ++ nonce.1 ++ bytesLE 1 r.slot) 16
    let x : Session := { key := BitVec.ofNat 128 (natBE sk), parent := obj r, rights := rights, gen := gen, nonce := nonce.1 }
    exec (.sessionOpen r) s = .next (doneWith infoSessionOpen r s
      (bytesToWords 6 (nonce.1 ++ (cmac sk (ascii "EODEN-DEV" ++ host)).take 8))
      (setSession r.slot (some x) (takenEntry infoSessionOpen r s) nonce.2))) ∧
  (∀ (r : Req) (s : State), ready infoFuncEnable r s = true →
    let g := fld 7 0 r.object
    let a := atRun infoFuncEnable r s
    (bit 0 (arg r 0) = true → groupOff g a = true →
      exec (.funcEnable r) s = .next (doneWith infoFuncEnable r s []
        (enableGroup g (modHost (fun h => { h with disabled := h.disabled &&& (0xFFFF ^^^ (1 <<< g)) }) a)))) ∧
    (bit 0 (arg r 0) = false → groupOff g a = false →
      exec (.funcEnable r) s = .next (doneWith infoFuncEnable r s []
        (modHost (fun h => { h with disabled := h.disabled ||| (1 <<< g) }) (disableGroup g (abortGroup g a))))) ∧
    (bit 0 (arg r 0) = !groupOff g a → exec (.funcEnable r) s = .next (doneWith infoFuncEnable r s [] a)))

/-- READ_REG answers the register, and clears what its read clears. WRITE_REG is answered as the register's block answers the write, and
STORE_TRIAL takes bits 7:0 of the value. MODIFY_REG writes the register under the mask and keeps its old value for the response (R100,
R102). READ_BLOCK answers the words in rising address order, and WRITE_BLOCK writes them in that order (R101, R103). Register rows of the
power side, each a WRITE_REG that is taken as it arrives (R100): SKEIN_CTLk commands the set-point of a host-owned skein (R144);
LOOM_SKEIN_CFGk and LOOM_SKEIN_PINk keep their word (R182, R183); WEFT_CTL retrains the link (R252) and sends HOLD to the P-die and its
fail-safe memory (R243). -/
def Obligations.RegisterCommandsAndLoadRowsComplete : Prop :=
  (∀ (r : Req) (s : State), ready infoReadReg r s = true →
    let a := atRun infoReadReg r s
    exec (.readReg r) s = .next (doneWith infoReadReg r s [(readReg (obj r) a).getD 0] (readClears (obj r) a))) ∧
  (∀ (r : Req) (s : State), ready infoWriteReg r s = true →
    let w := writeReg (entryFor infoWriteReg r s).authed false (obj r) (arg r 0) (atRun infoWriteReg r s)
    exec (.writeReg r) s = .next (settle (entryFor infoWriteReg r s) w.2 w.1)) ∧
  (∀ (r : Req) (s : State), ready infoWriteReg r s = true → obj r = 0xE000C →
    exec (.writeReg r) s = .next (doneWith infoWriteReg r s []
      (modStore (fun x => { x with trialT := fld 7 0 (arg r 0) }) (atRun infoWriteReg r s)))) ∧
  (∀ (r : Req) (s : State), ready infoModifyReg r s = true →
    let a := atRun infoModifyReg r s
    let old := (readReg (obj r) a).getD 0
    let w := writeReg (entryFor infoModifyReg r s).authed false (obj r) (modifyValue (w1cReg (obj r)) old (arg r 0) (arg r 1))
      (readClears (obj r) a)
    exec (.modifyReg r) s = .next (settle (entryFor infoModifyReg r s) (keepOld old w.2) w.1)) ∧
  (∀ (r : Req) (s : State), ready infoReadBlock r s = true → blockOk (obj r) (arg r 0).toNat = true →
    let l := readBlock (arg r 0).toNat (obj r) (atRun infoReadBlock r s)
    exec (.readBlock r) s = .next (doneWith infoReadBlock r s l.1 l.2)) ∧
  (∀ (r : Req) (s : State), ready infoWriteBlock r s = true → blockOk (obj r) r.payload.length = true →
    (obj r / 0x10000 = 7 → coliBlockOk (obj r % 0x10000) r.payload (atRun infoWriteBlock r s) = true) →
    let w := writeWords r.payload.length (entryFor infoWriteBlock r s).authed true (obj r) r.payload {} (atRun infoWriteBlock r s)
    w.2.bad = none →
    exec (.writeBlock r) s = .next (settle (entryFor infoWriteBlock r s) (.waits w.2.awaits []) w.1)) ∧
  (∀ (k : Nat) (v : Word) (r : Req) (s : State), k < 48 →
    let r' := regReq (0x42014 + 0x20 * k) v r
    let a := atRun infoWriteReg r' s
    ready infoWriteReg r' s = true → loadTakes k v a = true → (defL k a).owner = 0 → groupOff 0x02 a = false →
    passes k a = none → setPointCheck k (wordSp k v a) a = none → linkLive a = true → apart k a = false →
    exec (.skeinCtlWrite k v r) s = .next (waitsWith infoWriteReg r' s (.inForce k) false [] (commandSp k (wordSp k v a) a))) ∧
  (∀ (k : Nat) (v : Word) (r : Req) (s : State), k < 48 →
    let r' := regReq (0x31000 + 0x10 * k) v r
    let a := atRun infoWriteReg r' s
    ready infoWriteReg r' s = true → (defL k a).defined = true → groupOff 0x0D a = false →
    (fld 13 0 v = 0 ∨ 20 ≤ fld 13 0 v ∧ fld 13 0 v ≤ 12000) →
    exec (.loomSkeinRegWrite k false v r) s = .next (doneWith infoWriteReg r' s []
      (modSkL k (fun x => { x with loomCfg := v &&& 0x00033FFF }) a))) ∧
  (∀ (k : Nat) (v : Word) (r : Req) (s : State), k < 48 →
    let r' := regReq (0x31004 + 0x10 * k) v r
    let a := atRun infoWriteReg r' s
    ready infoWriteReg r' s = true → pinTakes k v a = true → groupOff 0x0D a = false →
    exec (.loomSkeinRegWrite k true v r) s = .next (doneWith infoWriteReg r' s []
      (modSkL k (fun x => { x with pin := v &&& 0x0FFF0FFF, pinFresh := true }) a))) ∧
  (∀ (v : Word) (r : Req) (s : State),
    let r' := regReq 0x90000 (v ||| 1) r
    let a := atRun infoWriteReg r' s
    ready infoWriteReg r' s = true → word (fld 25 16 v) = holdComing a ∨ 1000 < fld 25 16 v →
    exec (.retrain v r) s = .next (doneWith infoWriteReg r' s [] (retrain a))) ∧
  (∀ (hold : Nat) (r : Req) (s : State),
    let r' := regReq 0x90000 (pack [(16, hold)]) r
    let a := atRun infoWriteReg r' s
    ready infoWriteReg r' s = true → hold ≤ 1000 → word hold ≠ holdComing a → linkLive a = true →
    let q := pushCfg (.hold hold) a
    exec (.weftHoldWrite hold r) s = .next (waitsWith infoWriteReg r' s (.echo q.1) false [] (nvStarts 48 q.2)))

/-- LOAD_SET of a skein that no partner drives commands the set-point and waits for it to be in force; of one that its partner drives it
passes the command over the Ply link; where that link is not up, each side keeps the DUTY (R143, R176). LOAD_GET answers control, status,
committed and sensed current (R145). BRIDGE_SET commands the pair's set-point (R147). SKEIN_DEFINE of an off skein, with a definition that
passes its checks or with COUNT 0, which deletes it, is carried out at the next Loom pass, for which the command waits after QUEUED
(R146). -/
def Obligations.LoadCommandsComplete : Prop :=
  (∀ (r : Req) (s : State), ready infoLoadSet r s = true →
    let a := atRun infoLoadSet r s
    let k := skeinOf r
    let w := arg r 0
    loadTakes k w a = true →
    (passes k a = none → setPointCheck k (wordSp k w a) a = none → linkLive a = true → apart k a = false →
      exec (.loadSet r) s = .next (waitsWith infoLoadSet r s (.inForce k) false [] (commandSp k (wordSp k w a) a))) ∧
    (passes k a = none → setPointCheck k (wordSp k w a) a = none → linkLive a = true → apart k a = true →
      exec (.loadSet r) s = .next (doneWith infoLoadSet r s [] (keepDuty k (wordSp k w a) a))) ∧
    (∀ j, passes k a = some j → plyToward (chainE j a).pdev a = true →
      exec (.loadSet r) s = .next (waitsWith infoLoadSet r s (.mirror k) false [w]
        (pushMirror { dev := (chainE j a).pdev, skein := (chainE j a).pskein, kind := .command, value := w.toNat } a))) ∧
    (∀ j, passes k a = some j → plyToward (chainE j a).pdev a = false → setPointCheck k (wordSp k w a) a = none →
      exec (.loadSet r) s = .next (doneWith infoLoadSet r s [] (keepDuty k (wordSp k w a) a)))) ∧
  (∀ (r : Req) (s : State), ready infoLoadGet r s = true →
    let a := atRun infoLoadGet r s
    let k := skeinOf r
    (defL k a).defined = true →
    exec (.loadGet r) s = .next (doneWith infoLoadGet r s
      [ctlWord (skL k a).sp, skeinStat k a, committedWord k a, word (skeinCur k a)] a)) ∧
  (∀ (r : Req) (s : State), ready infoBridgeSet r s = true →
    let a := atRun infoBridgeSet r s
    let k := skeinOf r
    let p : SetPoint :=
      { duty := fld 16 0 (arg r 1), hiz := (skL k a).sp.hiz, bstate := fld 2 0 (arg r 0), decay := bit 8 (arg r 0) }
    pairedL k a = true → leaderL k a = k → p.bstate ≤ 4 → dutyOk (defL k a) p.duty = true →
    setPointCheck k p a = none → linkLive a = true →
    exec (.bridgeSet r) s = .next (waitsWith infoBridgeSet r s (.inForce k) false [] (commandSp k p a))) ∧
  (∀ (r : Req) (s : State), ready infoSkeinDefine r s = true →
    let a := atRun infoSkeinDefine r s
    let k := skeinOf r
    let d := defOf r
    offForDefine k a = true → linkLive a = true →
    (d.count = 0 → (defL k a).defined = true → exec (.skeinDefine r) s = .next (waitsWith infoSkeinDefine r s (.pass 0 k) true []
      (modSkL k (fun x => { x with define := some { defn := {} } }) a))) ∧
    (d.count = 0 → (defL k a).defined = false →
      exec (.skeinDefine r) s = .next (waitsWith infoSkeinDefine r s (.pass 0 k) true [] a)) ∧
    (d.count ≠ 0 → cellsValid k d a = true → modeValid d = true → timingValid d = true → currentValid d = true →
      exec (.skeinDefine r) s = .next (waitsWith infoSkeinDefine r s (.pass 0 k) true []
        (modSkL k (fun x => { x with define := some { defn := d } }) a))))

/-- The opcodes of the Loom planner: LOOM_PLACEMENT_GET and LOOM_BUDGET_GET answer its registers (R181, R185), LOOM_ROTATE_CFG and LOOM_PIN
take their word (R182, R183), and LOOM_CHAIN_CFG waits for the next pass (R184). -/
def Obligations.LoomCommandsComplete : Prop :=
  (∀ (r : Req) (s : State), ready infoLoomPlacementGet r s = true →
    let a := atRun infoLoomPlacementGet r s
    let k := skeinOf r
    (defL k a).defined = true →
    exec (.loomPlacementGet r) s = .next (doneWith infoLoomPlacementGet r s [mapWord k a, statWord k a, word (skL k a).lastChange] a)) ∧
  (∀ (r : Req) (s : State), ready infoLoomRotateCfg r s = true →
    let a := atRun infoLoomRotateCfg r s
    let k := skeinOf r
    let ri := fld 13 0 (arg r 0)
    (defL k a).defined = true → (ri = 0 ∨ 20 ≤ ri ∧ ri ≤ 12000) →
    exec (.loomRotateCfg r) s = .next (doneWith infoLoomRotateCfg r s []
      (modSkL k (fun x => { x with loomCfg := arg r 0 &&& 0x00033FFF }) a))) ∧
  (∀ (r : Req) (s : State), ready infoLoomPin r s = true →
    let a := atRun infoLoomPin r s
    let k := skeinOf r
    pinTakes k (arg r 0) a = true →
    exec (.loomPin r) s = .next (doneWith infoLoomPin r s []
      (modSkL k (fun x => { x with pin := arg r 0 &&& 0x0FFF0FFF, pinFresh := true }) a))) ∧
  (∀ (r : Req) (s : State), ready infoLoomChainCfg r s = true →
    let a := atRun infoLoomChainCfg r s
    let j := obj r
    let w := arg r 0
    let k := fld 5 0 w
    let pdev := fld 9 8 w
    (bit 25 w = true → (chainE j a).state ≠ 0 → (chainE j a).state ≠ 3 →
      exec (.loomChainCfg r) s = .next (waitsWith infoLoomChainCfg r s (.pass 1 j) true []
        (modChain j (fun x => { x with fresh := some (w, arg r 1) }) a))) ∧
    (bit 25 w = false → bit 26 w = false → (chainE j a).state = 0 → pdev ≠ a.deviceId → (nth a.host.chain.views pdev).present = true →
      k < 48 → (defL k a).defined = true → (defL k a).mode = 1 → (defL k a).owner = 0 → (defL k a).leg = false →
      otherEntry j k a = false → offL k a = true →
      exec (.loomChainCfg r) s = .next (waitsWith infoLoomChainCfg r s (.pass 1 j) true []
        (modChain j (fun x => { x with fresh := some (w, arg r 1) }) a)))) ∧
  (∀ (r : Req) (s : State), ready infoLoomBudgetGet r s = true →
    let a := atRun infoLoomBudgetGet r s
    exec (.loomBudgetGet r) s = .next (doneWith infoLoomBudgetGet r s
      ((List.range 12).map (fun b => loadWord (bankSum b [] a)) ++ [loadWord (pkgSum [] a), word a.loom.pwrEst]) a))

/-- EODEN_REQUEST puts the frame into its port's input buffer, and the interpreter takes all that wait (R32, R81). REQUEST_DISPATCH carries
out the next command (R81). RESPONSE_SENT takes a frame off its port, and the departure of a final response frees its tag (R78, R421).
SNAPALIGN_EXPIRED answers EXPIRED to the commands whose time has come, and SNAPSHOT_LATCH latches the set and releases the waiting ones,
or reports a refused mark (R109 to R112). The QSPI port: SEND puts a whole frame into the input buffer, counts it, and discards one that
is too long for the buffer or cut short; STATUS drives the length of the next output frame and the free room, FETCH drives the oldest
output frame (R411 to R413). -/
def Obligations.InterpreterAndQspiEventsComplete : Prop :=
  (∀ (t : Nat) (port : Port) (peer : Peer) (frame : List Byte) (s : State), interpreterUp (toL t s) = true →
    (portUp port (toL t s) = true → frame ≠ [] →
      exec (.eodenRequest t port peer frame) s =
        .next (interpret (received (pushIn port peer frame (toL t s))) (pushIn port peer frame (toL t s)))) ∧
    (frame = [] → exec (.eodenRequest t port peer frame) s = .next (interpret (received (toL t s)) (toL t s)))) ∧
  (∀ (t : Nat) (e : Entry) (o : OpInfo) (s : State), interpreterUp (toL t s) = true → nextCommand (toL t s) = some e →
    opInfo e.op = some o → exec (.requestDispatch t) s = .next (carryOut o e (toL t s))) ∧
  (∀ (t : Nat) (f : OutFrame) (rest : List OutFrame) (s : State), hostUp s = true → s.host.shifting = f :: rest →
    exec (.responseSent t .qspi) s = .next (departed f (modHost (fun h => { h with shifting := rest }) (toL t s)))) ∧
  (∀ (t : Nat) (port : Port) (f : OutFrame) (rest : List OutFrame) (s : State), hostUp s = true →
    port = .mac0 ∨ port = .mac1 → (portOf port s).output = f :: rest →
    let v := (macOf (portIx port - 1) s).vlan
    exec (.responseSent t port) s = .next (departed f (modPort port (fun b =>
      { b with output := rest, last := f.bytes, lastPeer := f.peer
               lastTag := if bit 12 v = true then some (fld 11 0 v + 8192 * fld 15 13 v) else none }) (toL t s)))) ∧
  (∀ (t : Nat) (p : Nat) (f : OutFrame) (rest : List OutFrame) (s : State), hostUp s = true → p < 2 →
    (portOf (ixPort (3 + p)) s).output = f :: rest → (plyOf p s).state = .up → f.bytes.length ≤ (plyOf p s).credit →
    let u := modPly p (fun x => { x with credit := x.credit - f.bytes.length })
      (modPort (ixPort (3 + p)) (fun b => { b with output := rest, last := plyBytes 1 f.bytes, lastPeer := f.peer, lastTag := none }) (toL t s))
    exec (.responseSent t (ixPort (3 + p))) s =
      .next (departed f (if f.kind = .forwarded then bump (ctr 0x01 (0x22 + 4 * p)) u else u))) ∧
  (∀ (e : Entry) (s : State), s.host.flight.find? (fun x => x.stage == .aligned) = some e →
    let u := toL (alignEnd e) s
    exec .snapalignExpired s = .next (abortWhere (fun x => x.stage == .aligned && alignEnd x ≤ u.now) .expired u)) ∧
  (∀ (n t : Nat) (s : State), nextLatch s = some (n, t, none) →
    exec .snapshotLatch s = .next (releaseAligned t (latchSet n (toL t s)))) ∧
  (∀ (n t st : Nat) (s : State), nextLatch s = some (n, t, some st) →
    exec .snapshotLatch s = .next (snapshotDone n st 0 (modReel (fun r => { r with
      refused := r.refused.filter (fun m => !(m.set == n && m.tick == t && m.status == st)) }) (toL t s)))) ∧
  (∀ (t len : Nat) (data : List Byte) (s : State), qspiUp s = true →
    let u := toL t s
    (20 ≤ len → len ≤ 1052 → len ≤ qspiFree u → len ≤ data.length →
      exec (.qspiSend t len data) s = .next (bump (ctr 0x01 0) (pushIn .qspi default (data.take len) u))) ∧
    ((len < 20 ∨ 1052 < len ∨ qspiFree u < len) →
      exec (.qspiSend t len data) s = .next (qspiDiscard (fun h => { h with overrun := true }) u)) ∧
    (20 ≤ len → len ≤ 1052 → len ≤ qspiFree u → data.length < len →
      exec (.qspiSend t len data) s = .next (qspiDiscard (fun h => { h with trunc := true }) u))) ∧
  (∀ (t : Nat) (s : State), qspiUp s = true →
    let u := toL t s
    exec (.qspiStatus t) s = .next (modHost (fun h => { h with qspiData := bytesLE 2 (nextLen u) ++ bytesLE 2 (qspiFree u) }) u)) ∧
  (∀ (t : Nat) (s : State), qspiUp s = true →
    let u := toL t s
    ((portOf .qspi u).output = [] → exec (.qspiFetch t) s = .next (modHost (fun h => { h with qspiData := bytesLE 2 0 }) u)) ∧
    (∀ f rest, (portOf .qspi u).output = f :: rest →
      exec (.qspiFetch t) s = .next (modHost (fun h =>
          { h with qspiData := bytesLE 2 f.bytes.length ++ f.bytes, shifting := h.shifting ++ [f] })
        (modPort .qspi (fun b => { b with output := rest, last := f.bytes }) u))))

/-- The MACs: a UDP datagram for the device is counted and put into its input buffer, or dropped where that has no room; ARP and ICMP requests
for its address are answered with its own VLAN tag (R414 to R416). 802.1AS: a Sync gives OFFSET, RATE and under DISCIPLINE the slew, three
missed ones end SYNCED, a peer-delay exchange gives the link delay, and an Announce the grandmaster (R417, R418). The Ply ports: training,
retraining, received packets, credit, marks and the loss of a device (R109, R420 to R426). -/
def Obligations.PortAndPlyEventsComplete : Prop :=
  (∀ (t m : Nat) (peer : Peer) (dst dport : Nat) (vlan : Option Nat) (data : List Byte) (s : State),
    hostUp s = true → macUp m s = true → dst = (macOf m s).ip.toNat → dport = fld 31 16 (macOf m s).cfg → vlanOk m vlan s = true →
    let u := toL t s
    (inputBytes (ixPort (1 + m)) u + data.length ≤ 32768 →
      exec (.udpDatagramRx t m peer dst dport vlan true data) s =
        .next (bump (ctr 0x01 (0x10 + 4 * m)) (pushIn (ixPort (1 + m)) peer data u))) ∧
    (32768 < inputBytes (ixPort (1 + m)) u + data.length →
      exec (.udpDatagramRx t m peer dst dport vlan true data) s =
        .next (bump (ctr 0x01 (0x11 + 4 * m)) (modMac m (fun x => { x with rxDrop := true }) u)))) ∧
  (∀ (t m asked fromAddr : Nat) (s : State), hostUp s = true → macUp m s = true → asked % 2 ^ 32 = (macOf m s).ip.toNat →
    vlanOk m (askedTag asked) s = true →
    let u := modMac m (fun x => { x with replyTo := fromAddr, replies := x.replies + 1, replyTag := sentTag (ixPort (1 + m)) s })
      (toL t s)
    exec (.arpRequest t m asked fromAddr) s = .next u ∧ exec (.icmpEcho t m asked fromAddr) s = .next u) ∧
  (∀ (t m ns : Nat) (s : State), gptpOn m s = true → s.host.gptp.lastSync = none →
    let u := modGptp (fun g => { g with
      offset := (ns : Int) - 5 * t, rate := s.host.gptp.rate, synced := true, lastSync := some t, lastGptp := ns }) (toL t s)
    exec (.gptpSync t m ns) s = .next (modGptp (fun g => startSlew t ns { g with disciplined := disciplined u }) u)) ∧
  (∀ (t t0 m ns : Nat) (s : State), gptpOn m s = true → s.host.gptp.lastSync = some t0 → t0 < t →
    let u := modGptp (fun g => { g with
      offset := (ns : Int) - 5 * t
      rate := (((ns : Int) - s.host.gptp.lastGptp) - 5 * ((t : Int) - t0)) * 1000000000 / (5 * ((t : Int) - t0))
      synced := true, lastSync := some t, lastGptp := ns }) (toL t s)
    exec (.gptpSync t m ns) s = .next (modGptp (fun g => startSlew t ns { g with disciplined := disciplined u }) u)) ∧
  (∀ (t : Nat) (s : State), hostUp s = true → s.host.gptp.synced = true →
    exec (.gptpSyncLoss t) s = .next (reportL 0x022 (b2n (bit 1 s.host.gptp.cfg))
      (modGptp (fun g => { g with synced := false, disciplined := false, slewBy := 0 }) (toL t s)))) ∧
  (∀ (t m ns : Nat) (s : State), gptpOn m s = true →
    exec (.pdelayRequest t m (some ns)) s = .next (modGptp (fun g => { g with pdelay := min 65535 ns }) (toL t s)) ∧
    exec (.pdelayRequest t m none) s = .next (modMac m (fun x => { x with replies := x.replies + 1 }) (toL t s))) ∧
  (∀ (t m gm : Nat) (s : State), gptpOn m s = true →
    exec (.announce t m gm) s = .next (modGptp (fun g =>
      { g with gm := some gm, gmChange := g.gmChange || (g.gm.map (fun x => x != gm)).getD false }) (toL t s))) ∧
  (∀ (t p latency : Nat) (s : State), plyRuns s = true → p < 2 → (plyOf p s).state ≠ .up →
    let u := modPly p (fun x => { x with state := .up, latency := min 255 latency, credit := 0 }) (toL t s)
    exec (.plyTraining t p latency) s = .next (if hasNeighbour p u then chainEvent (facing p u) 1 u else u)) ∧
  (∀ (t p : Nat) (s : State), plyRuns s = true → p < 2 → (plyOf p s).state ≠ .down →
    let u := modPly p (fun x => { x with state := .training }) (toL t s)
    exec (.plyRetrain t p) s = .next (fallbackFor (fun d => toward d u == p) u)) ∧
  (∀ (ty : Nat) (body : List Byte), ty < 256 → body.length ≤ 1060 → readPly (plyBytes ty body) = some (ty, body)) ∧
  (∀ (t p : Nat) (crc packet : List Byte) (s : State), plyLive p s = true → hostUp s = true →
    let u := plyPacket p (toL t s)
    (readPly (packet ++ crc) = none → exec (.plyEodenPacket t p crc packet) s = .next (bump (ctr 0x01 (0x21 + 4 * p)) u)) ∧
    (∀ frame, readPly (packet ++ crc) = some (1, frame) → frame.headD 0 = 0xB8#8 →
      exec (.plyEodenPacket t p crc packet) s = .next (routeBack p frame u)) ∧
    (∀ frame, readPly (packet ++ crc) = some (1, frame) → frame.headD 0 ≠ 0xB8#8 →
      exec (.plyEodenPacket t p crc packet) s = .next (pushIn (ixPort (3 + p)) default frame u))) ∧
  (∀ (t p n : Nat) (s : State), plyLive p s = true →
    exec (.credit t p n) s = .next (modPly p (fun x => { x with credit := n }) (plyPacket p (toL t s)))) ∧
  (∀ (t p set tick : Nat) (s : State), plyLive p s = true → set < 4 → s.deviceId ≠ 0 →
    let u := plyPacket p (toL t s)
    exec (.plyMark t p set tick) s = .next (takeMark set tick
      (if (plyOf (1 - p) u).state = .up ∧ (plyOf (1 - p) u).orderErr = false ∧ (plyOf p u).orderErr = false then
        modChainSt (fun c => { c with sentMark := some (set, tick) }) u else u))) ∧
  (∀ (d h : Nat) (s : State), (viewDev d s).heard = some h → plyRuns s = true → (viewDev d s).present = true →
    (viewDev d s).parked = false → exec (.plyLoss d) s = .next (declareLost d (toL (h + 50000) s)))

/-- Heartbeats: one from the wrong neighbour sets ORDER_ERR and is reported once (R424); a right one updates the views and the alignment,
brings a lost neighbour back, ends a start's wait for the chain and is relayed onward, and a relayed one updates the views and goes on
(R422, R423, R427, R602, R603); the device sends its own every 50 µs on each trained port (R422). MIRROR packets of a cross-device skein
are taken, counted and sent over a Ply link that is up (R176, R432). That a neighbour heard again raises NEIGHBOUR_UP is the model's
choice (log entry 88). -/
def Obligations.HeartbeatAndMirrorComplete : Prop :=
  (∀ (h : Beat) (s : State), plyLive h.p s = true → h.dev ≠ s.deviceId → h.dev < 4 → h.relayed = false → h.dev ≠ facing h.p s →
    let v := modPly h.p (fun x => { x with neighId := h.dev, orderErr := true }) (plyPacket h.p (toL h.t s))
    ((plyOf h.p s).orderErr = true → exec (.heartbeat h) s = .next v) ∧
    ((plyOf h.p s).orderErr = false → exec (.heartbeat h) s = .next (reportL 0x024 (4 + h.p) (chainEvent h.dev 4 v)))) ∧
  (∀ (h : Beat) (s : State), plyLive h.p s = true → h.dev ≠ s.deviceId → h.dev < 4 → h.relayed = true →
    let v := takeView h (plyPacket h.p (toL h.t s))
    let q := 1 - h.p
    exec (.heartbeat h) s = .next
      (if (plyOf h.p v).orderErr = false ∧ (plyOf q v).orderErr = false ∧ (plyOf q v).state = .up then
        modChainSt (fun c => { c with relayed := put c.relayed q (some { h with relayed := true }) }) v else v)) ∧
  (∀ (h : Beat) (s : State), plyLive h.p s = true → h.dev ≠ s.deviceId → h.dev < 4 → h.relayed = false → h.dev = facing h.p s →
    let u := plyPacket h.p (toL h.t s)
    let q := 1 - h.p
    let v := takeView h (takeLatency h (modPly h.p (fun x =>
      { x with neighId := h.dev, orderErr := false, heard := some u.now, echo := h.time
               state := if x.state = .lost then .up else x.state }) u))
    let a := takeAlign h (if (plyOf h.p s).state = .lost then chainEvent h.dev 1 v else v)
    let w := if h.p = 0 ∧ h.aligned = true then chainWaitOver a else a
    exec (.heartbeat h) s = .next
      (if (plyOf h.p w).orderErr = false ∧ (plyOf q w).orderErr = false ∧ (plyOf q w).state = .up then
        modChainSt (fun c => { c with relayed := put c.relayed q (some { h with relayed := true }) }) w else w)) ∧
  (∀ (s : State), plyRuns s = true →
    let u := toL s.host.chain.nextBeat s
    exec .heartbeatSend s = .next (modChainSt (fun c => { c with
      nextBeat := max u.now c.nextBeat + 10000
      sent := Vector.ofFn (fun p => if plyTrained p.val s = true then some (ownBeat p.val u) else nth c.sent p.val) }) u)) ∧
  (∀ (t dev k value effect status j : Nat) (s : State), hostUp s = true → chainOf k s = some j → (chainE j s).pdev = dev →
    2 ≤ (chainE j s).state → plyToward dev s = true →
    let u := bump (ctr 0x01 (if s.deviceId < dev then 0x24 else 0x20)) (toL t s)
    exec (.mirror t dev k 0 value effect status) s = .next (mirrorIn j value effect u) ∧
    exec (.mirror t dev k 1 value effect status) s = .next (mirrorCommand j value u) ∧
    exec (.mirror t dev k 2 value effect status) s = .next (completeAll (.mirror k) (Status.ofCode status)
      (fun e => if status = 0 then e.data.drop 1 else if status = Status.code .budgetExceeded then [word value] else []) u)) ∧
  (∀ (t : Nat) (s : State), hostUp s = true →
    let duties := (List.range 16).filterMap (fun j =>
      let e := chainE j s
      if 2 ≤ e.state && !e.secondary then
        some ({ dev := e.pdev, skein := e.pskein, value := (skL e.skein s).sp.duty, effect := (skL e.skein s).effect } : MirrorMsg)
      else none)
    exec (.mirrorSend t) s = .next (modLoom (fun l =>
      { l with mirrorsSent := (l.mirrors ++ duties).filter (fun m => plyToward m.dev s), mirrors := [] }) (toL t s)))

/-- The life of the Weft link: training completes into ADOPT, times out and is retried, the adoption cycle opens and ends with ADOPT_DONE; the
link falls silent on the P-die, is lost on the L-die, and the fail-safe states apply at the end of hold-over or by FS_FORCE (R18, R236,
R237, R241, R244, R249, R445). -/
def Obligations.LinkStateEventsComplete : Prop :=
  (∀ (t latency : Nat) (s : State), s.weft.state = .training → s.pdie.sup ≠ .reset → s.pdie.sup ≠ .asleep →
    ldieUp (toL t s) = true → s.clk.step ≠ .started →
    let u := toL t s
    let v := settleTime (declareSilence (min u.pNow (u.pdie.lastDown + 2000)) u)
    v.clk.step ≠ .started →
    exec (.weftTraining t latency) s = .next (bump (ctr 0x09 4) (modWeft (fun w =>
      { w with state := .adopt, latency := latency % 256, trainStart := none, hold := v.pdie.hold
               warm := v.pdie.warm, lastUp := v.now, idleAt := v.now, readSeen := 0, refSeen := 0 })
      (modP (fun p => { p with idleAt := v.pNow }) v)))) ∧
  (∀ (t0 : Nat) (s : State), s.weft.trainStart = some t0 → s.weft.state = .training →
    let u := toL (t0 + 200000) s
    exec .trainingTimeout s = .next (reportL 0x121 0xFF (modWeft (fun w =>
      { w with state := .down, trainStart := none, retryAt := some (u.now + 200000) }) u))) ∧
  (∀ (t : Nat) (s : State), s.weft.retryAt = some t → s.weft.state = .down → ldieUp s = true →
    exec .trainingRetry s = .next (startTraining (toL t s))) ∧
  (∀ (m : MarkAt) (p : Nat) (s : State), upOpen s = true → s.weft.state = .adopt → idleDueUp (toL m.t s) = false →
    cellOutWaits (toL m.t s) = false →
    readFrame false true m.line (frameBytes .mark (markPayload 0 5 0)) = some (.mark, p) → pfld 41 38 p = 5 →
    exec (.adoptionReadbackStart m) s =
      .next (modWeft (fun w => { w with adopting := true, readSeen := 0, refSeen := 0 }) (gotUp m.t (toL m.t s)))) ∧
  (∀ (t : Nat) (s : State), s.pdie.power = 0 → s.pdie.silentAt = none → s.pdie.sup = .linked ∨ s.pdie.sup = .failSafe →
    let u := toP t s
    u.pdie.lastDown + 2000 ≤ u.pNow →
    let v := declareSilence u.pNow u
    exec (.linkSilence t) s = .next (if v.weft.state == .live then syncAllTrx (dropLink v) else v)) ∧
  (∀ (t : Nat) (s : State), s.weft.state = .live → s.weft.lastUp + 2000 ≤ (toL t s).now → ldieUp (toL t s) = true →
    exec (.upLoss t) s = .next (syncAllTrx (reportL 0x122 0xFF (dropLink (toL t s))))) ∧
  (∀ (e : Nat) (s : State), s.pdie.expiry = some e → s.pdie.sup = .cold ∨ s.pdie.sup = .holdover ∨ s.pdie.sup = .woken →
    exec .holdoverExpiry s = .next (enterFailSafe (s.pdie.sup == .cold)
      (modP (fun p => { p with expired := p.silentAt.isSome }) (toP e s)))) ∧
  (∀ (t p : Nat) (e : LineErr) (c : CfgOut) (s : State), s.weft.cfg.find? (fun c => c.item == .fsForce) = some c →
    s.weft.state = .live → s.pdie.sup ≠ .reset → s.pdie.sup ≠ .asleep →
    s.faults.halted = true ∨ (setPointWaits (toL t s) = false ∧ idleDueDown (toL t s) = false) →
    readFrame true true e (frameBytes .config (configPayload s.weft.ack 0x3FE 0)) = some (.config, p) →
    exec (.fsForce t e) s = .next (enterFailSafe false
      (modWeft (fun w => { w with cfg := w.cfg.filter (fun x => x.id != c.id) }) (gotDown t true p (toL t s))))) ∧
  (∀ (m : MarkAt) (p : Nat) (s : State), downOpen s = true → s.weft.state = .adopt → s.weft.adopting = true →
    s.weft.readSeen = allSlots → s.weft.refSeen = allSlots → idleDueDown (toL m.t s) = false → ldieUp (toL m.t s) = true →
    s.clk.step ≠ .started →
    readFrame true true m.line (frameBytes .mark (markPayload s.weft.ack 4 0)) = some (.mark, p) → pfld 41 38 p = 4 →
    let u := gotDown m.t true p (toL m.t s)
    let known := (List.range 48).filterMap (fun k => (knownDef false k u).map (fun d => (k, d)))
    let v := adoptFio (adoptPorts false (adoptSlots (adoptArray false (adoptStatus u.pdie (drainAll false (driveAll (adoptP u)))))))
    let w := seeTamper (adoptTrx (settleDefs false known (adoptReports u.pdie v)))
    let x := if w.deviceId = 0 then modChainSt (fun c => { c with adopted := true }) w else w
    let y := if groupOff 0x03 x then disableAct x else x
    let y := if groupOff 0x04 y then disablePorts y else y
    let y := if groupOff 0x05 y then disableFio y else y
    exec (.adoptDone m) s = .next (markPrimaries (disableAdopted y)))

/-- A frame is 8 bytes over two lanes that a clean line brings over whole (R228 to R230). The down frames: a refresh slot, a changed set-
point, a configuration item and its repetition, the time exchange, the release of a pause, and IDLE (R17, R209, R231, R233, R238): the
P-die takes what it reads of a frame that arrives valid, whatever the line turned over, and counts one that does not (R229, R235). The
bits of a refresh slot and the CONFIG index are the model's choice (log entry 51). The up frames: a readback slot, a CELL_OUT, an event, a
frame that is sent again, and IDLE (R230, R232, R234); the verification of an entry of the fail-safe memory is reported by the P-die
(R243, R251, R300). The numbers of the EVENT kinds are the model's choice (log entry 51). -/
def Obligations.WeftFrameEventsComplete : Prop :=
  (∀ (down odd : Bool) (ty : FrameType) (p : Nat), ty.permitted down odd = true →
    (frameBytes ty p).length = 8 ∧ readFrame down odd {} (frameBytes ty p) = some (ty, p % 2 ^ 48)) ∧
  (∀ (t slot p : Nat) (e : LineErr) (s : State), downOpen s = true → s.weft.state = .live →
    readFrame true false e (frameBytes .refresh (slotPayload slot (refreshContent slot (toL t s)))) = some (.refresh, p) →
    let v := gotDown t false p (noteRefresh slot (toL t s))
    obeys v = true → exec (.refresh t slot e) s = .next (takeRefresh (pfld 47 39 p) (pfld 38 0 p) v)) ∧
  (∀ (t k p : Nat) (e : LineErr) (s : State), downOpen s = true → s.weft.state = .live → (skL k s).send = true →
    idleDueDown (toL t s) = false →
    readFrame true true e (frameBytes .setpoint (setpointPayload s.weft.ack k (skL k s).sp (pairCap k (toL t s)))) = some (.setpoint, p) →
    let v := gotDown t true p (wentDown k (modSkL k (fun x => { x with send := false }) (toL t s)))
    exec (.setpoint t k e) s = .next (takeSetPoint (pfld 41 36 p) (bitsSetPoint (pfld 35 4 p)) (bitsCap (pfld 35 4 p))
      (alignedTo (pfld 41 36 p) v))) ∧
  (∀ (t p : Nat) (e : LineErr) (c : CfgOut) (s : State), downOpen s = true → s.weft.state = .live →
    s.weft.cfg.find? (fun c => c.sent.isNone && c.item != .fsForce && mayGo s.weft.cfg c) = some c →
    let u := toL t s
    setPointWaits u = false → idleDueDown u = false →
    readFrame true true e (frameBytes .config (c.payload s.weft.ack)) = some (.config, p) →
    pfld 41 32 p = c.word.1 → pfld 31 0 p = c.word.2 →
    let v := gotDown t true p (configDown c (modCfgOut c.id (fun x => { x with sent := some u.now }) u))
    obeys v = true → exec (.config t e) s = .next (arriveCfg c v)) ∧
  (∀ (c : CfgOut) (s : State), s.weft.cfg.find? (fun c => c.sent.isSome) = some c →
    exec .configEchoTimeout s = .next (modCfgOut c.id (fun x => { x with sent := none }) (toL (c.sent.getD 0 + 200) s))) ∧
  (∀ (t p : Nat) (e : LineErr) (s : State), downOpen s = true → markMay (toL t s) = true →
    readFrame true true e (frameBytes .mark (markPayload s.weft.ack 2 0)) = some (.mark, p) → pfld 41 38 p = 2 →
    let v := gotDown t true p (toL t s)
    obeys v = true → exec (.timeExchange t e) s = .next (markUp .timeExchange 0 (slewP v))) ∧
  (∀ (m : MarkAt) (n p : Nat) (s : State), downOpen s = true → s.weft.state = .live → s.loom.releases.contains n = true →
    markMay (toL m.t s) = true →
    readFrame true true m.line (frameBytes .mark (markPayload s.weft.ack 3 n)) = some (.mark, p) → pfld 41 38 p = 3 →
    let v := gotDown m.t true p (toL m.t s)
    obeys v = true → exec (.ladderRelease m n) s =
      .next (pauseOver (pfld 37 0 p) (modLoom (fun l =>
        { l with releases := l.releases.filter (fun x => x != n), view := upd l.view n (fun c => { c with due := true }) }) v))) ∧
  (∀ (t p : Nat) (e : LineErr) (s : State), downOpen s = true →
    let u := toL t s
    idleDueDown u = true ∨ (setPointWaits u = false ∧ configWaits u = false ∧ markWaits u = false) →
    readFrame true true e (frameBytes .idle (idlePayload s.weft.ack u.now)) = some (.idle, p) →
    exec (.idleFrame t false e) s = .next (gotDown t true p (modWeft (fun w => { w with idleAt := u.now }) u))) ∧
  (∀ (t slot : Nat) (e : LineErr) (s : State), downOpen s = true → s.weft.state = .live →
    readFrame true false e (frameBytes .refresh (slotPayload slot (refreshContent slot (toL t s)))) = none →
    exec (.refresh t slot e) s = .next (discardDown (toL t (noteRefresh slot (toL t s))))) ∧
  (∀ (t slot p : Nat) (e : LineErr) (m : List Nat) (s : State), upOpen s = true → s.weft.state = .live →
    cellOutWaits (toL t s) = false →
    readFrame false false e (frameBytes .readback (slotPayload slot 0)) = some (.readback, p) →
    exec (.readback t slot e m) s = .next (readbackSlot (pfld 47 39 p) m (gotUp t s))) ∧
  (∀ (t bank mask cause tick p : Nat) (e : LineErr) (u : UpFrame) (s : State),
    s.pdie.up.find? (fun u => u.sent.isNone && u.isCellOut) = some u → u.body = .cellOut bank mask cause tick →
    s.weft.state = .live ∨ s.weft.state = .adopt →
    let v := bump (ctr 0x09 6) (markSent u.seq (toL t s))
    upOpen v = true →
    readFrame false false e (frameBytes .cellOut (cellOutPayload u.seq bank mask cause tick)) = some (.cellOut, p) →
    let w := gotUp t v
    exec (.cellOut t e) s = .next (receiveUp (pfld 47 42 p)
      (.cellOut (pfld 41 38 p) (pfld 37 30 p) (pfld 29 26 p) (fullTick w.now (pfld 25 12 p))) w)) ∧
  (∀ (t p : Nat) (e : LineErr) (u : UpFrame) (s : State), s.pdie.up.find? (fun u => u.sent.isNone && !u.isCellOut) = some u →
    u.isCellOut = false → s.weft.state = .live → cellOutWaits (toL t s) = false → unacked (toL t s) < 32 → idleDueUp (toL t s) = false →
    let v := markSent u.seq (toL t s)
    upOpen v = true →
    readFrame false true e (frameBytes .event (eventPayload u.seq u.body.kind 0)) = some (.event, p) →
    exec (.eventFrame t e) s = .next (receiveUp (pfld 47 42 p) u.body (gotUp t v))) ∧
  (∀ (t p : Nat) (e : LineErr) (s : State),
    let u := toL t s
    upOpen u = true → cellOutWaits u = false → idleDueUp u = true ∨ (eventWaits u = false ∧ startMarkWaits u = false) →
    readFrame false true e (frameBytes .idle (idlePayload 0 u.pNow)) = some (.idle, p) →
    exec (.idleFrame t true e) s = .next (gotUp t (modP (fun p => { p with idleAt := u.pNow }) u))) ∧
  (∀ (t : Nat) (e : LineErr) (u : UpFrame) (s : State), resendDue (toL t s) = some u → s.weft.state = .live →
    u.isCellOut = true ∨ (cellOutWaits (toL t s) = false ∧ idleDueUp (toL t s) = false) →
    exec (.unackedResend t e) s = .next (sendUp t u e (bump (ctr 0x09 5) (markSent u.seq (toL t s))))) ∧
  (∀ (t slot : Nat) (e : LineErr) (m : List Nat) (s : State), upOpen s = true → cellOutWaits (toL t s) = false →
    readFrame false false e (frameBytes .readback (slotPayload slot 0)) = none →
    exec (.readback t slot e m) s = .next (discardUp (toL t s))) ∧
  (∀ (t w : Nat) (c : FsCopy) (s : State), s.pdie.sup ≠ .reset → w < 48 → (nth s.pdie.fs w).writing = some c →
    exec (.fsMemoryVerified t w true) s = .next (pushUp (.failSafe w true) (modP (fun p =>
      { p with fs := upd p.fs w (fun e => { writeFs c e with command := false }) }) (toP t s))) ∧
    exec (.fsMemoryVerified t w false) s = .next (pushUp (.failSafe w false) (modP (fun p =>
      { p with fs := upd p.fs w (fun e => { e with writing := none, command := false }) }) (toP t s)))) ∧
  (∀ (t v : Nat) (ok : Bool) (s : State), s.pdie.sup ≠ .reset → s.pdie.fsHoldNew = some v →
    exec (.fsMemoryVerified t 48 ok) s = .next (pushUp (.fsWord 48 ok)
      (modP (fun p => { p with fsHold := if ok then v else p.fsHold, fsHoldNew := none }) (toP t s)))) ∧
  (∀ (t p : Nat) (v ok : Bool) (s : State), s.pdie.sup ≠ .reset → p < 2 → nth s.pdie.fsPortNew p = some v →
    exec (.fsMemoryVerified t (49 + p) ok) s = .next (pushUp (.fsWord (49 + p) ok) (modP (fun q =>
      { q with fsPort := if ok then put q.fsPort p v else q.fsPort, fsPortNew := put q.fsPortNew p none }) (toP t s))))

/-- Trips of a cell: a current above the threshold, a limitation that lasts LIM_T, thermal shutdown, the energy of a clamp pulse, a gate that
is not reported off and a low charge pump take the cell out with their cause and counter (R192, R195, R203, R206, R207, R222). The
interlock and the bridge: the gates are reported off and the dead time starts, it ends and the incoming switches turn on (R133), the brake
phase ends and the pair moves to its new direction (R136), and a handover reaches its leave point (R155). -/
def Obligations.TripAndInterlockEventsComplete : Prop :=
  (∀ (t n current k : Nat) (s : State),
    let u := presentCell n (toP t s)
    skeinOfCellP n u = some k → threshold n k (cellP n u).lsOn u < current → (cellP n u).hsOn = true ∨ (cellP n u).lsOn = true →
    exec (.tripDecision t n current) s = .next (bump (ctr 0x05 (4 * n))
      (cellGoesOut n (if !inWindow k u || ((cellP n u).lsOn && (defP k u).mode == 3) then 1 else 2) id u))) ∧
  (∀ (t n k : Nat) (others : List Nat) (s : State),
    let u := presentCell n (toP t s)
    skeinOfCellP n u = some k →
    let joint := n :: (others.filter (fun m => m != n && (conductingCells k u).contains m))
    exec (.limitTimeout t n others) s = .next ((joint.filter (fun m => (cellP m u).hsOn || (cellP m u).lsOn)).foldl
      (fun s m => bump (ctr 0x05 (4 * m + 1)) (cellGoesOut m 3 id s)) u)) ∧
  (∀ (t n : Nat) (s : State), n < 96 → (cellP n s).thermal = false →
    exec (.thermalShutdown t n) s =
      .next (bump (ctr 0x05 (4 * n + 2)) (cellGoesOut n 4 (fun c => { c with thermal := true }) (toP t s)))) ∧
  (∀ (t n energy : Nat) (s : State), n < 96 →
    let u := bump (ctr 0x05 (4 * n + 3)) (modCell n (fun c => { c with energy := c.energy + energy }) (toP t s))
    let c := cellP n u
    let v := if fld 15 0 (nth u.pdie.prot.bobbin (bankOf n)) * 1000 ≤ c.ledger + c.energy ∧ c.locked = false then
      cellGoesOut n 5 (fun c => { c with locked := true }) u else u
    exec (.clampPulseEnd t n energy) s = .next (if 60000 < energy then cellGoesOut n 6 id v else v)) ∧
  (∀ (t n : Nat) (s : State), n < 96 → (cellP n s).gateStuck = false →
    let u := cellGoesOut n 7 (fun c => { c with gateStuck := true }) (toP t s)
    (skeinOfCellP n u = none → exec (.gateStuck t n) s = .next u) ∧
    (∀ k, skeinOfCellP n u = some k →
      exec (.gateStuck t n) s = .next (changeSkP k (modSkP k stickGate) u))) ∧
  (∀ (t n : Nat) (s : State), n < 96 → (cellP n s).pumpLow = false →
    exec (.pumpLow t n) s = .next (cellGoesOut n 8 (fun c => { c with pumpLow := true }) (toP t s))) ∧
  (∀ (t k : Nat) (s : State),
    let u := accrue k (toP t s)
    let v := (defP k u).cells.foldl (fun s n => modCell n (fun c => { c with gateStuck := false }) s) u
    let w := modSkP k (fun x =>
      if x.drive = .off ∧ x.lastOn ≠ .off ∧ x.clearAt = none then { x with stuckSide := .off, clearAt := some (v.pNow + deadOf k u) }
      else { x with stuckSide := .off }) v
    exec (.gateOffReported t k) s = .next (settleBridge (leaderP k w) (driveGates k w))) ∧
  (∀ (k e : Nat) (d : Drive) (s : State), (skP k s).change = some (d, some e) →
    let u := accrueBoth k (toP e s)
    exec (.deadtimeEnd k) s = .next (settleBridge (leaderP k u) (driveBoth k u))) ∧
  (∀ (k e : Nat) (s : State), (skP k s).brakeEnd = some e →
    exec (.brakePhaseEnd k) s =
      .next (settleBridge k (startBridge k (modSkP k (fun x => { x with brakeEnd := none }) (accrueBoth k (toP e s)))))) ∧
  (∀ (k : Nat) (h : HandP) (s : State), (skP k s).hand = some h →
    (slotsP k s).any (fun a => (actP a s).prof.chopper == k && ((actP a s).phase == 2 || (actP a s).phase == 3)) = false →
    let u := changeSkP k (leaveNow k) (toP (leavePoint k h s) s)
    exec (.handoverLeave k) s = .next (if linkLive u then endHandover k u else u))

/-- The way back of a cell and its bank: the junction has cooled, the pump is good, a pause of the ladder ends on either die, a clean run
resets TRIES, a droop sets and clears its flag and holds retries for 5 ms more (R203, R208, R209, R214, R215, R222); reports are
classified 400 ticks after the earliest of them (R158). -/
def Obligations.RetryEventsComplete : Prop :=
  (∀ (t n k : Nat) (s : State),
    let u := leavePause n (modCell n (fun c => { c with thermal := false }) (presentCell n (toP t s)))
    skeinOfCellP n u = some k → exec (.thermalRelease t n) s = .next (driveGates k u)) ∧
  (∀ (t n k : Nat) (s : State),
    let u := modCell n (fun c => { c with pumpLow := false }) (presentCell n (toP t s))
    skeinOfCellP n u = some k → exec (.pumpRecovered t n) s = .next (driveGates k u)) ∧
  (∀ (n e : Nat) (s : State), (cellP n s).pauseEnd = some e → silent s = false →
    exec (.ladderPauseEnd n) s = .next (pauseOver n (toP e s))) ∧
  (∀ (n : Nat) (p : Nat × Nat) (s : State), s.loom.pauses.find? (fun p => p.1 == n) = some p →
    exec (.ladderMgmtPauseEnd n) s = .next (modLoom (fun l =>
      { l with pauses := l.pauses.filter (fun q => q.1 != n), releases := l.releases ++ [n] }) (toL (p.2 * mgmtTicks) s))) ∧
  (∀ (t n k : Nat) (s : State), skeinOfCellP n (toP t s) = some k →
    let u := accrue k (toP t s)
    (cellP n u).ladder = .ready → fld 15 8 u.pdie.prot.ladder * 20000000 ≤ (cellP n u).cleanTicks →
    exec (.cleanRun t n) s = .next (modCell n (fun c => { c with tries := 0, cleanTicks := 0 }) u)) ∧
  (∀ (t b : Nat) (s : State), b < 12 → bit 2 s.pdie.prot.ctl = true → (nth s.pdie.banks b).droop = false →
    let u := modP (fun p => { p with banks := upd p.banks b (fun x => { x with droop := true, droopSeen := true, suspended := none }) })
      (toP t s)
    exec (.droopSet t b) s = .next (bump (ctr 0x05 (0x300 + b)) (reportP 0x0AE b 0
      (((List.range 48).filter (fun k => (banksP k u).contains b)).foldl (fun s k => spoilPrint k s) u)))) ∧
  (∀ (t b : Nat) (s : State), (nth s.pdie.banks b).droop = true →
    exec (.droopClear t b) s = .next (modP (fun p => { p with banks := upd p.banks b (fun x =>
      { x with droop := false, suspended := some ((toP t s).pNow + 1000000) }) }) (toP t s))) ∧
  (∀ (b e : Nat) (s : State), (nth s.pdie.banks b).suspended = some e →
    let u := modP (fun p => { p with banks := upd p.banks b (fun x => { x with suspended := none }) }) (toP e s)
    exec (.droopSuspensionEnd b) s = .next (((List.range 96).filter (fun n =>
      ((skeinOfCellP n u).map (fun k => (banksP k u).contains b)).getD (bankOf n == b))).foldl (fun s n => leavePause n s) u)) ∧
  (∀ (k t0 : Nat) (s : State), ((skL k s).reports.map (fun r => r.tick)).min? = some t0 → linkLive s = true →
    exec (.classificationClose k) s = .next (classify k (toL (t0 + 400) s))) ∧
  (∀ (k e : Nat) (s : State), (skP k s).retryEnd = some e →
    exec (.retryWindowEnd k) s = .next (modSkP k (fun x => { x with retryEnd := none }) (toP e s)))

/-- Diagnosis and sensing: the off-state conditions of a skein, in RUN, IDLE, SLEEP, hold-over or the fail-safe state (R216), a bad sense
channel (R197, R219), the self-test of ISNS (R221), the sense multiplexer (R220), the tamper flag, in every state but OFF (R57), a
fingerprint record (R196, R197) and the end of an inrush window (R139). The management plane: its passes at a boundary (R21, R22), a
rotation that is due (R167), the lift of a shed group (R172), give-back (R179) and role swap (R180, log entry 46). -/
def Obligations.SenseAndManagementEventsComplete : Prop :=
  (∀ (t k : Nat) (opn stb : Bool) (s : State),
    let u := toP t s
    let x := skP k s
    x.defn.defined = true → x.defn.leg = false → x.defn.mode = 1 ∨ x.defn.mode = 2 → bit 0 (nth s.pdie.prot.diag k) = true →
    offP k s = true → x.offSince + 200000 ≤ u.pNow →
    s.pdie.sup = .linked ∨ s.pdie.sup = .holdover ∨ s.pdie.sup = .failSafe →
    let stb' := stb && x.defn.mode == 1
    let opn' := opn && !stb'
    let load := s.deviceId * 48 + k
    let v := modSkP k (fun x => { x with isOpen := opn', stb := stb' }) u
    let w := if opn' = true ∧ x.isOpen = false then reportP 0x0AB load 0 v else v
    exec (.offStateDiagFilter t k opn stb) s =
      .next (if stb' = true ∧ x.stb = false then reportP 0x0AC load 0 w else w)) ∧
  (∀ (t n : Nat) (bad : Bool) (s : State), n < 96 → skeinOfCellP n s = none → (cellP n s).hsOn = false → (cellP n s).lsOn = false →
    let v := modCell n (fun c => { c with senseBad := bad }) (toP t s)
    exec (.senseBad t n bad) s = .next (if bad = true ∧ (cellP n s).senseBad = false then reportP 0x0A9 n 0 v else v)) ∧
  (∀ (t n k : Nat) (bad : Bool) (s : State), n < 96 → skeinOfCellP n s = some k →
    let u := changeSkP k id (toP t s)
    (cellP n u).hsOn = false → (cellP n u).lsOn = false →
    let v := modCell n (fun c => { c with senseBad := bad }) u
    let w := if bad = true then (skeinOfCellP n v).elim v (fun j => if (conductingCells j v).contains n then spoilPrint j v else v) else v
    exec (.senseBad t n bad) s = .next (if bad = true ∧ (cellP n u).senseBad = false then reportP 0x0A9 n 0 w else w)) ∧
  (∀ (t : Nat) (s : State), exec (.senseSelfTestDone t) s = .next (modP (fun p => { p with selfTest := true }) (toP t s))) ∧
  (∀ (t : Nat) (s : State), s.pdie.power ≠ 3 → s.pdie.sup ≠ .reset →
    exec (.tamperFlag t) s = .next (modP (fun p => { p with tamper := true }) (toP t s))) ∧
  (∀ (t code : Nat) (s : State),
    exec (.mselChange t code) s = .next (modP (fun p => { p with msel := code % 128 }) (toP t s))) ∧
  (∀ (t k : Nat) (currents : List (Option Nat)) (supplies : List Nat) (clean : Bool) (s : State), (skP k s).print = some clean →
    (defP k s).defined = true → currents.length = 64 → supplies.length = 64 →
    let u := toP t s
    (skP k s).printStart + (defP (leaderP k s) s).inrushTicks ≤ u.pNow →
    exec (.fingerprintRecord t k currents supplies) s = .next (pushUp
      (.record k (printPoints (fld 31 23 (nth s.pdie.prot.learn k)) (currents.zip supplies) 0)
        (clean && printable k u && supplies.all (fun v => 6000 ≤ v && v ≤ 32000)))
      (modSkP k (fun x => { x with print := none }) u))) ∧
  (∀ (k e : Nat) (s : State), (skP k s).inrushEnd = some e →
    exec (.inrushEnd k) s = .next (modSkP k (fun x => { x with inrushEnd := none }) (toP e s))) ∧
  (∀ (m : Nat) (rails : List Nat) (s : State), s.now ≤ m * mgmtTicks → ldieUp s = true → s.spindle.lastPass ≠ some m →
    let u := toL (m * mgmtTicks) s
    exec (.managementTick m rails) s =
      .next (if passesRun u then restoreLater (storePass (railPoll rails (deratePass (loomPass (overrunPass m u))))) else u)) ∧
  (∀ (k : Nat) (s : State), passesRun s = true → linkLive s = true → (defL k s).defined = true → groupOff 0x0D s = false →
    (skL k s).hand = none →
    let u := toL ((ceilDiv (skL k s).lastChange mgmtTicks + fld 13 0 (skL k s).loomCfg) * mgmtTicks) s
    exec (.rotationDue k) s =
      .next (if deferred k (passPeak u k) u = true ∨ (skL k u).movedAt = some (mgmtNow u) then u else (passRotate k u).getD u)) ∧
  (∀ (s : State), 200 ≤ s.loom.coolPasses → passesRun s = true → linkLive s = true →
    let u := modLoom (fun l => { l with coolPasses := l.coolPasses - 200 }) s
    (∀ p, liftNext s = some p → exec .shedLift s = .next (modLoom (fun l => { l with shedGroup := p + 1 }) (shedGroup p false u))) ∧
    (liftNext s = none → exec .shedLift s = .next (modLoom (fun l => { l with shedGroup := 4 }) u))) ∧
  (∀ (t j : Nat) (s : State), passesRun s = true → linkLive s = true → (chainE j s).state = 3 → (chainE j s).secondary = true →
    (chainE j s).giving = 0 → groupOff 0x0D s = false →
    (giveCounted (chainE j s) = true → exec (.giveback t j) s = .next (modChain j (fun x => { x with giving := 1 }) (toL t s))) ∧
    (giveCounted (chainE j s) = false → giveNowSeen (chainE j s) (toL t s) = true →
      exec (.giveback t j) s = .next (modChain j (fun x => { x with giving := 2 }) (toL t s)))) ∧
  (∀ (t j : Nat) (s : State), passesRun s = true → linkLive s = true → (chainE j s).state = 2 → (chainE j s).secondary = false →
    bit 16 (chainE j s).give = true → (chainE j s).swapping = 0 → 20 ≤ (chainE j s).hotPasses →
    groupOff 0x0D s = false → (chainE j s).lastSwap = none →
    let u := toL t s
    exec (.roleSwap t j) s =
      .next (modChain j (fun x => { x with swapping := 3, hotPasses := 0, lastSwap := some (mgmtNow u) }) u))

/-- The actuator sequencer: PEAK ends and HOLD begins, HOLD_T and REL_T end their phases, and the chopping skein turns off at its threshold
and on again (R257, R259, R264). Periods that end on a management tick: a class's quiet period (R451, R456), a stale external temperature
(R292), the integration of a CAN controller (R371), an idle update (R541), a trial (R550) and a lock-out (R512). -/
def Obligations.ActuatorEventsComplete : Prop :=
  (∀ (a : Nat) (means : List Nat) (s : State), (actP a s).phase = 2 →
    let u := detectRise a means s
    let x := actP a u
    let last := x.peakStart + x.prof.peakMax * 2000
    let stop := min last (x.kinkEnd.getD last)
    let missed := x.prof.kinkEn && !x.flags.kinkSeen
    let v := modActP a (fun x => { x with phase := 3, since := stop, rise := false, ph := true
                                          flags := { x.flags with noKink := missed, peakDur := (stop - x.peakStart) / 2000, heldFs := x.fsHold } })
      (toP stop u)
    exec (.peakEnd a means) s =
      .next (reportAct a 4 (followSlot a (if missed then reportP 0x0C2 a 0 v else v)))) ∧
  (∀ (a e : Nat) (s : State), (actL a s).holdEnd = some e → linkLive s = true → (actL a s).phase = 3 →
    exec (.holdEnd a) s = .next (pushCfg' (.act a 4) (setPhase a 4 (toL e s)))) ∧
  (∀ (a : Nat) (s : State), (actP a s).phase = 4 →
    exec (.releaseEnd a) s =
      .next (reportAct a 6 (stopSlot a (toP ((actP a s).since + (actP a s).prof.relT * 20000) s)))) ∧
  (∀ (a e : Nat) (s : State), (actP a s).offEnd = some e →
    let u := toP e s
    exec (.chopOffEnd a) s = .next (followSlot a (modActP a (fun x => { x with on := true, ivStart := u.pNow, offEnd := none }) u))) ∧
  (∀ (t a sample : Nat) (means : List Nat) (s : State),
    let u := toP t s
    let x := actP a u
    let p := x.prof
    x.phase = 2 ∨ x.phase = 3 → x.on = true → (if x.phase = 2 then p.iPeak else p.iHold) ≤ sample →
    x.rise = true ∨ x.ivStart + 250 ≤ u.pNow →
    let toff := (if x.phase = 2 then p.toffPeak else p.toffHold) * 200
    let v := detectRise a means u
    let w := chopLeave a (if x.rise then v else detectCycle a (v.pNow - x.ivStart) toff v)
    let ph := x.ph && (x.ivStart < x.since || w.pNow < x.ivStart + 375)
    let code := if x.phase = 2 then p.peakDec else if ph then p.phDec else p.holdDec
    let d := if p.kind = 1 then chooseDecay a code w else (0, w)
    exec (.chopThreshold t a sample means) s = .next (followSlot a (modActP a (fun x =>
      { x with on := false, ivStart := d.2.pNow, offEnd := some (d.2.pNow + toff), rise := false, ph := ph
               dec := d.1, mix := x.prof.mixT }) d.2))) ∧
  (∀ (c : Nat) (s : State), ldieUp s = true → c < 5 → (clsOf c s).active = true →
    let u := modCls c (fun x => { x with active := false, recoveries := min 65535 (x.recoveries + 1) })
      (toL ((clsOf c s).quietEnd * mgmtTicks) s)
    exec (.quietPeriodEnd c) s = .next (postEvent 0xF02 (faultPayload c 2 (clsOf c u).lastW0 (clsOf c u).lastW2 u) u)) ∧
  (∀ (m : Nat) (s : State), s.light.extEnd = some m → hostUp s = true →
    exec .extTempStale s = .next (modLight (fun x => { x with extStale := true, extEnd := none }) (toL (m * mgmtTicks) s))) ∧
  (∀ (k m : Nat) (s : State), (canCtl k s).cfgEnd = some m → hostUp s = true →
    exec (.integrationTimeout k) s = .next (cfgDone k .faultActive (toL (m * mgmtTicks) s))) ∧
  (∀ (s : State), s.store.upd.held = true → receiving s = true → hostUp s = true →
    exec .updateInactivity s = .next (endUpdate 3 (toL (s.store.upd.idleEnd * mgmtTicks) s))) ∧
  (∀ (s : State), s.store.upd.state = 4 → s.store.boot.trial = true → s.store.trialT ≠ 0 → s.ldie = .running →
    exec .trialExpiry s = .next (revert 3 (toL ((s.store.upd.trialFrom + 12000 * s.store.trialT) * mgmtTicks) s))) ∧
  (∀ (t : Nat) (s : State), s.range.lockEnd = some t → ldieUp s = true →
    exec .lockoutEnd s = .next (endLockout (toL (t * mgmtTicks) s)))

/-- The lighting engine's fades and the matrix ports: a fade steps and ends, frames start, a swap's copy is done, LSYNC comes or is lost, and
rows and columns fail (R280, R284, R290, R291). A row or column of a matrix port that fails: the row is off for its slot, the short column
for its frame, each latched after 8 frames, the open column at once (R291). -/
def Obligations.LightEventsComplete : Prop :=
  (∀ (k : Nat) (f : Fade) (s : State), (lightSk k s).fade = some f → linkLive s = true → s.clk.power ≠ 2 →
    let t := max (s.now / 200000) (f.last / 200000 + 1) * 200000
    t < f.start + f.dur →
    exec (.fadeStep k) s = .next (dimStarted k (writeDuty k
      (modLightSk k (fun x => { x with level := fadeLevel f t, fade := some { f with last := t } }) (toL t s))))) ∧
  (∀ (k : Nat) (f : Fade) (s : State), (lightSk k s).fade = some f → linkLive s = true → s.clk.power ≠ 2 →
    let u := dimStarted k (writeDuty k
      (modLightSk k (fun x => { x with level := f.l1, fade := none }) (toL (f.start + f.dur) s)))
    let v := completeAll (.dim k) .done (fun _ => []) u
    exec (.fadeEnd k) s = .next (if bit 2 (lightSk k v).cfg then lightEvent v.now k 8 0 (lightStat k v) v else v)) ∧
  (∀ (p : Nat) (s : State), p < 2 → portLit (portP p s) s = true →
    let x := portP p s
    let at' := max s.pNow ((x.frame.map (fun f => f.2)).getD 0)
    (onDeviceTime x = true → x.sync ≠ 1 ∨ x.held = false →
      exec (.frameStart p) s = .next (startFrame p (toP (ceilDiv at' (framePeriod x.cfg) * framePeriod x.cfg) s))) ∧
    (onDeviceTime x = false ∨ x.sync = 1 → x.held = true → exec (.frameStart p) s = .next (startFrame p (toP at' s)))) ∧
  (∀ (p e : Nat) (s : State), (portP p s).copyEnd = some e →
    exec (.swapCopyDone p) s =
      .next (pushUp (.light p 5 1 (toP e s).pNow) (modPortP p (fun x => { x with copyEnd := none }) (toP e s)))) ∧
  (∀ (t : Nat) (s : State), exec (.lsyncEdge t) s = .next (lsyncEdge 1 (lsyncEdge 0 (toP t s)))) ∧
  (∀ (p : Nat) (s : State), p < 2 → (portP p s).sync = 1 → (portP p s).lsyncLost = false → portLit (portP p s) s = true →
    let u := toP ((portP p s).lastEdge + 20000000) s
    exec (.lsyncLoss p) s = .next (pushUp (.light p 4 0 u.pNow) (modPortP p (fun x => { x with lsyncLost := true }) u))) ∧
  (∀ (t p r : Nat) (s : State), p < 2 → r < 16 →
    let u := toP t s
    let x := portP p u
    portLit x u = true → rowOn x u.pNow = some r →
    let run := nth x.rowRun r + 1
    let v := bump (ctr 0x07 (0x10 * p + 3)) (modPortP p (fun x =>
      { x with rowOff := x.rowOff ||| 1 <<< r, rowRun := put x.rowRun r run
               rowF := if 8 ≤ run then x.rowF ||| 1 <<< r else x.rowF }) u)
    exec (.rowOvercurrent t p r) s =
      .next (if 8 ≤ run then pushUp (.light p 1 r v.pNow) (reportP 0x0E1 (16 * p + r) 0 v) else v)) ∧
  (∀ (t p c : Nat) (s : State), p < 2 → c < 48 →
    let u := toP t s
    portLit (portP p u) u = true → (portP p u).colOpen.testBit c = false →
    let v := modPortP p (fun x => { x with colOpen := x.colOpen ||| 1 <<< c }) u
    exec (.columnOpen t p c) s = .next (pushUp (.light p 2 c v.pNow) (reportP 0x0E2 (48 * p + c) 0 v))) ∧
  (∀ (t p c : Nat) (s : State), p < 2 → c < 48 →
    let u := toP t s
    let x := portP p u
    portLit x u = true → (sinking x u.pNow).contains c = true →
    let run := nth x.colRun c + 1
    let v := modPortP p (fun x =>
      { x with colOff := x.colOff ||| 1 <<< c, colRun := put x.colRun c run
               colShort := if 8 ≤ run then x.colShort ||| 1 <<< c else x.colShort }) u
    exec (.columnShort t p c) s = .next (if 8 ≤ run then pushUp (.light p 3 c v.pNow) (reportP 0x0E3 (48 * p + c) 0 v) else v))

/-- The Whorl instructions that set levels, move values and wait (R280, R295, R296). OP stands in bits 31:27 of the word at the PC, TGT in
26:20, r in 18:16, a value in 15:0 and a count in 19:0. The distance of SYNC 0 is a free value (log entry 40). The Whorl instructions that
end, jump, draw, swap and report (R295, R296, R298, R308), and the end of a wait (R295). A TGT other than 0 on an instruction that has no
target stops the engine with BAD_TARGET (R296). -/
def Obligations.WhorlInstructionsComplete : Prop :=
  (∀ (t e : Nat) (s : State), whorlOpen e s = true →
    let w := fetched e s
    let b := whorlBegun t e s
    (fld 31 27 w = 0x01 → exec (.whorlSet t e) s = .next (runaway e (setTarget e (fld 26 20 w) (fld 15 0 w) b))) ∧
    (fld 31 27 w = 0x02 → exec (.whorlSetr t e) s = .next (runaway e (setTarget e (fld 26 20 w) (nth (engine e b).lv (fld 18 16 w)) b))) ∧
    (fld 31 27 w = 0x03 → fld 26 20 w < 0x30 → exec (.whorlFade t e) s = .next (runaway e (onSkein e (fld 26 20 w)
      (whorlLevel e (fld 26 20 w) (nth (engine e b).lv (fld 18 16 w)) (fld 15 0 w)) b))) ∧
    (fld 31 27 w = 0x03 → 0x30 ≤ fld 26 20 w → exec (.whorlFade t e) s = .next (runaway e (stopWith e 2 b))) ∧
    (fld 31 27 w = 0x04 → fld 26 20 w = 0 → exec (.whorlLdi t e) s =
      .next (runaway e (modEngine e (fun x => { x with lv := put x.lv (fld 18 16 w) (fld 15 0 w) }) b))) ∧
    (fld 31 27 w = 0x05 → fld 26 20 w = 0 →
      let sum := min 65535 (((nth (engine e b).lv (fld 18 16 w) : Nat) : Int) + signed 16 (fld 15 0 w)).toNat
      exec (.whorlAddi t e) s = .next (runaway e (modEngine e (fun x => { x with lv := put x.lv (fld 18 16 w) sum }) b))) ∧
    (fld 31 27 w = 0x06 → fld 26 20 w = 0 → exec (.whorlWait t e) s = .next (runaway e (waitFor e ((engine e b).time + fld 19 0 w * 2000) b))) ∧
    (fld 31 27 w = 0x07 → fld 26 20 w = 0 → exec (.whorlWaitr t e) s =
      .next (runaway e (waitFor e ((engine e b).time + nth (engine e b).lv (fld 18 16 w) * 2000) b))) ∧
    (fld 31 27 w = 0x08 → fld 26 20 w = 0 → fld 19 0 w ≠ 0 → exec (.whorlSync t e) s =
      .next (runaway e (waitFor e (ceilDiv b.now (fld 19 0 w * 2000) * (fld 19 0 w * 2000)) b))) ∧
    (fld 31 27 w = 0x08 → fld 26 20 w = 0 → fld 19 0 w = 0 → exec (.whorlSync t e) s =
      .next (runaway e (waitFor e (b.now + (freeWord b).1.toNat) (freeWord b).2))) ∧
    (fld 26 20 w ≠ 0 →
      (fld 31 27 w = 0x04 → exec (.whorlLdi t e) s = .next (runaway e (stopWith e 2 b))) ∧
      (fld 31 27 w = 0x05 → exec (.whorlAddi t e) s = .next (runaway e (stopWith e 2 b))) ∧
      (fld 31 27 w = 0x06 → exec (.whorlWait t e) s = .next (runaway e (stopWith e 2 b))) ∧
      (fld 31 27 w = 0x07 → exec (.whorlWaitr t e) s = .next (runaway e (stopWith e 2 b))) ∧
      (fld 31 27 w = 0x08 → exec (.whorlSync t e) s = .next (runaway e (stopWith e 2 b))))) ∧
  (∀ (t e : Nat) (s : State), whorlOpen e s = true →
    let w := fetched e s
    let b := whorlBegun t e s
    let p := fld 10 10 w
    let v := nth (engine e b).lv (fld 18 16 w)
    (fld 31 27 w = 0x00 → fld 26 20 w = 0 →
      let u := releaseClaims e (modEngine e (fun x => { x with state := .idle }) b)
      exec (.whorlEnd t e) s = .next (runaway e (lightEvent u.now e 1 0 (whorlStat e u) u))) ∧
    (fld 31 27 w = 0x09 → fld 26 20 w = 0 →
      let u := modEngine e (fun x => { x with lv := put x.lv (fld 18 16 w) (v - 1) }) b
      exec (.whorlLoop t e) s = .next (runaway e (if v - 1 = 0 then u else modEngine e (fun x => { x with pc := fld 9 0 w }) u))) ∧
    (fld 31 27 w = 0x0A → fld 26 20 w = 0 → exec (.whorlJmp t e) s = .next (runaway e (modEngine e (fun x => { x with pc := fld 9 0 w }) b))) ∧
    (fld 31 27 w = 0x0B → fld 26 20 w = 0 → fld 5 0 w ≤ 47 → exec (.whorlPix t e) s =
      .next (runaway e (onPort e p (fun s => writePixel p (backOf p s) (fld 9 6 w * 48 + fld 5 0 w) v s) b))) ∧
    (fld 31 27 w = 0x0B → fld 26 20 w = 0 → 47 < fld 5 0 w → exec (.whorlPix t e) s = .next (runaway e (stopWith e 2 b))) ∧
    (fld 31 27 w = 0x0C → fld 26 20 w < 0x40 ∨ 0x50 ≤ fld 26 20 w → exec (.whorlShift t e) s = .next (runaway e (stopWith e 2 b))) ∧
    (fld 31 27 w = 0x0C → 0x40 ≤ fld 26 20 w → fld 26 20 w < 0x50 → exec (.whorlShift t e) s =
      .next (runaway e (onRegion e (fld 26 20 w - 0x40) (shiftRegion (fld 1 0 w) v) b))) ∧
    (fld 31 27 w = 0x0D → fld 26 20 w = 0 → exec (.whorlSwap t e) s = .next (runaway e (onPort e p (fun s =>
      swapPort p (bit 0 w) (modEngine e (fun x => { x with state := .waiting, swapOf := some p, run := 0 }) s)) b))) ∧
    (fld 31 27 w = 0x0E → fld 26 20 w = 0 → exec (.whorlEvt t e) s = .next (runaway e (lightEvent b.now e 3 (fld 7 0 w) (whorlStat e b) b))) ∧
    (0x0F ≤ fld 31 27 w → exec (.whorlBadInstr t e) s = .next (runaway e (stopWith e 1 b))) ∧
    (fld 26 20 w ≠ 0 →
      (fld 31 27 w = 0x00 → exec (.whorlEnd t e) s = .next (runaway e (stopWith e 2 b))) ∧
      (fld 31 27 w = 0x09 → exec (.whorlLoop t e) s = .next (runaway e (stopWith e 2 b))) ∧
      (fld 31 27 w = 0x0A → exec (.whorlJmp t e) s = .next (runaway e (stopWith e 2 b))) ∧
      (fld 31 27 w = 0x0B → exec (.whorlPix t e) s = .next (runaway e (stopWith e 2 b))) ∧
      (fld 31 27 w = 0x0D → exec (.whorlSwap t e) s = .next (runaway e (stopWith e 2 b))) ∧
      (fld 31 27 w = 0x0E → exec (.whorlEvt t e) s = .next (runaway e (stopWith e 2 b))))) ∧
  (∀ (e : Nat) (s : State), e < 16 → (engine e s).state = .waiting → (engine e s).swapOf = none → linkLive s = true → hostUp s = true → s.clk.power ≠ 2 →
    exec (.whorlWaitExpiry e) s = .next (modEngine e (fun x => { x with state := .running }) (toL (engine e s).time s)))

/-- The field pins: debounced changes, wetting, trips and overcurrents of the P-die, its polls in the low-power states, and the event gap
(R313, R316 to R318, R325, R328). The field-pin opcodes: FIO_CFG sends the words of its pins (R333), FIO_READ answers the states (R334),
FIO_WRITE drives outputs (R335), and FIO_COUNT_READ answers a counter channel, or waits for its reading and clearing (R336). -/
def Obligations.FieldPinEventsAndCommandsComplete : Prop :=
  (∀ (t : Nat) (pins : List Nat) (s : State), sampling s = true →
    let u := toP (ceilDiv (max t s.pNow) 200 * 200) s
    let moved := (List.range 80).filter (fun i => pins.contains i && (pinMode (pinP i u).cfg != 0 &&
      decide (((pinP i u).since / 200 + fld 31 16 (pinP i u).cfg) * 200 ≤ u.pNow)))
    exec (.debouncedChange t pins) s = .next (countMoved moved (moved.foldl (fun s i => debounced i s) u))) ∧
  (∀ (r : Nat) (s : State), s.fio.raised = some r → s.fio.gather.first ≠ none → hostUp s = true →
    exec .fioEventGapEnd s = .next (raiseFio (toL (r + fld 9 0 s.fio.ctl * 20000) s))) ∧
  (∀ (i e : Nat) (s : State), (pinP i s).boostEnd = some e →
    exec (.wettingBoostEnd i) s = .next (modPinP i (fun x => { x with boostEnd := none }) (toP e s))) ∧
  (∀ (t i : Nat) (s : State), pinMode (pinP i s).cfg = 2 → (pinP i s).out = true → (pinP i s).latch = false →
    let u := setFioFault (bump (ctr 0x08 0x200) (modPinP i (fun x => { x with latch := true }) (toP t s)))
    exec (.outputTrip t i) s = .next u ∧ exec (.outputThermal t i) s = .next u) ∧
  (∀ (t i : Nat) (s : State), pinMode (pinP i s).cfg = 1 → pinTset (pinP i s).cfg = 3 → sampling s = true →
    exec (.hallOvercurrent t i) s = .next (setFioFault (modPinP i (fun x => { x with limited := true }) (toP t s)))) ∧
  (∀ (states : Nat) (s : State), s.pdie.power = 1 →
    let due := s.pdie.fio.lastPoll + fld 9 0 s.pdie.fio.poll * 200000
    exec (.poll states) s = .next ((List.range 80).foldl (fun s i => pollPin i (states.testBit i) s)
      (modFioP (fun x => { x with lastPoll := due }) (toP (due + fld 23 16 s.pdie.fio.poll * 200) s)))) ∧
  (∀ (states : Nat) (s : State), s.pdie.power = 2 →
    exec (.poll states) s = .next ((List.range 80).foldl (fun s i => pollPin i (states.testBit i) s) s)) ∧
  (∀ (r : Req) (s : State), ready infoFioCfg r s = true →
    let a := atRun infoFioCfg r s
    let ws := r.payload.drop 1
    let send := fun (acc : List Await × State) (i : Nat) =>
      let q := pushCfg (.fio (0x1000 + 4 * (obj r + i)) (wordAt ws i)) acc.2
      (acc.1 ++ [Await.echo q.1], q.2)
    let x := (List.range ws.length).foldl send ([], a)
    (arg r 0).toNat + 1 = r.payload.length → obj r + ws.length ≤ 80 → ws.all pinCfgOk = true →
    ((List.range 80).filter (fun i =>
      pinWet10 (if obj r ≤ i ∧ i < obj r + ws.length then wordAt ws (i - obj r) else pinWanted i a))).length ≤ 16 →
    linkLive a = true →
    exec (.fioCfg r) s = .next (settle (entryFor infoFioCfg r s) (.waits x.1 []) x.2)) ∧
  (∀ (r : Req) (s : State), ready infoFioRead r s = true →
    let a := atRun infoFioRead r s
    exec (.fioRead r) s =
      .next (doneWith infoFioRead r s (pinWords a.fio.ins ++ pinWords a.fio.outs ++ [word a.fio.updated]) a)) ∧
  (∀ (r : Req) (s : State), ready infoFioWrite r s = true →
    let a := atRun infoFioWrite r s
    let mask := wordsPins (arg r 0) (arg r 1) (arg r 2)
    let value := wordsPins (arg r 3) (arg r 4) (arg r 5)
    let q := sendOutputs (outputsComing a - (outputsComing a &&& mask) + (value &&& mask)) a
    mask &&& pinsWhere (fun i => pinMode (pinWanted i a) == 2) = mask → linkLive a = true →
    exec (.fioWrite r) s = .next (waitsWith infoFioWrite r s (.echo q.1) false [] q.2)) ∧
  (∀ (r : Req) (s : State), ready infoFioCountRead r s = true →
    let a := atRun infoFioCountRead r s
    let x := nth a.fio.counts (obj r)
    fld 1 0 x.cfg ≠ 0 → onlyBits 1 (arg r 0) = true →
      (bit 0 (arg r 0) = false → exec (.fioCountRead r) s =
        .next (doneWith infoFioCountRead r s [word x.count, word x.period, word x.last, word a.fio.taken] a)) ∧
      (bit 0 (arg r 0) = true → linkLive a = true → exec (.fioCountRead r) s =
        .next (waitsWith infoFioCountRead r s (.fioCount (obj r)) false [] (pushCfg (.fioClear (obj r)) a).2)))

/-- CAN controllers: a frame received, sent, failed or beaten in arbitration (sources 0 and 1 are the heads of URGENT and NORMAL, 2 + i
trigger i, 18 the reference message), the steps of bus-off recovery and integration, and errors while receiving or in an error flag (R339,
R343, R345, R346, R348, R350, R355, R357, R359, R371, R382). What a data-phase error does with error signalling disabled is the model's
choice (log entry 101), and so are the loop delay that no row carries (102) and a lone COMMIT frame's SOF (109). -/
def Obligations.CanEventsComplete : Prop :=
  (∀ (t k : Nat) (x : CanRx) (s : State), canOpen k x s = true →
    let u := frameTaken t k x s
    ringOf k x.w0 x.rtr x.data u = none → refPrio k x.w0 x.rtr x.data u = none →
    exec (.canFrameValid t x.sof k x.w0 x.rtr x.brs x.esi x.af x.xl x.data) s = .next u) ∧
  (∀ (t sof k src meas : Nat) (f : CanFrame) (s : State), (canCtl k s).tail = none → src < 2 →
    let a := settleTrigs (toL t s)
    offered k src a = some f → (canCtl k a).state = .active → chosen k src sof a = true → drives k sof a = true →
    let u := modHead k src (fun _ => none) (frameEnded k t (txGood k (frameFmt f.w0) meas (sofSeen k sof a)))
    let v := if f.conf then canEvent sof k 2 f.handle (natToWords 2 sof) u else u
    (ringOf k f.w0 f.rtr f.data v = none → exec (.canTxSuccess t sof k src meas) s = .next v) ∧
    (∀ m, ringOf k f.w0 f.rtr f.data v = some m → exec (.canTxSuccess t sof k src meas) s =
      .next (if m.1 = (nmCh k v).addr then ringSent k sof m v else v))) ∧
  (∀ (t sof k i meas : Nat) (f : CanFrame) (s : State), (canCtl k s).tail = none →
    let a := settleTrigs (toL t s)
    offered k (2 + i) a = some f → (canCtl k a).state = .active → chosen k (2 + i) sof a = true → drives k sof a = true →
    f.conf = false →
    let u := bump (ctr 0x0A 0x102) (modTrig i (fun x => { x with due := none })
      (frameEnded k t (txGood k (frameFmt f.w0) meas (sofSeen k sof a))))
    ringOf k f.w0 f.rtr f.data u = none →
    exec (.canTxSuccess t sof k (2 + i) meas) s = .next u) ∧
  (∀ (t k src lec : Nat) (data quiet : Bool) (s : State), (canCtl k s).tail = none → src ≠ 19 →
    let a := settleTrigs (toL t s)
    attempted k src t a = true →
    let b := loneCommit k src t (offered k src a) a
    let c := if data then measureFree k (fmtOf k src a) b else b
    let u := frameEnded k t (txBad k (fmtOf k src a) lec data quiet c)
    exec (.canTxError t k src lec data quiet) s = .next (afterBad k lec
      (if src < 2 then headFailed k src lec u
      else if src = 18 then refFailed ((refStart k t u).getD t) u else missTrig (src - 2) u))) ∧
  (∀ (t k lec : Nat) (data quiet : Bool) (s : State), (canCtl k s).tail = none →
    let a := settleTrigs (toL t s)
    (canCtl k a).state = .active →
    let u := passiveEdge k a (modCtl k (fun c => { c with tec := c.tec + 8, errCap := errCapWord true data lec }) a)
    exec (.canTxError t k 19 lec data quiet) s = .next (if 255 < (canCtl k u).tec then busOff k u else u)) ∧
  (∀ (t k src : Nat) (s : State), (canCtl k s).tail = none →
    let a := settleTrigs (toL t s)
    attempted k src t a = true →
    let u := frameEnded k t (ackClear k (bump (ctr 0x0A (0x10 * k + 4)) (loneCommit k src t (offered k src a) a)))
    exec (.arbitrationLoss t k src) s = .next (if src < 2 then modHead k src (fun f => some { f with onlyAck := false }) u
      else if src = 18 then u else missTrig (src - 2) u)) ∧
  (∀ (k e : Nat) (s : State), (canCtl k s).boffEnd = some e → (canCtl k s).state = .busOff →
    exec (.boffDelayEnd k) s = .next (modCtl k (fun c => { c with state := .recovering, boffEnd := none }) (toL e s))) ∧
  (∀ (t k : Nat) (s : State), (canCtl k s).state = .recovering →
    exec (.recoveryDone t k) s = .next (reformIfDue k
      (cfgDone k .done (modCtl k (fun c => { c with state := .active, tec := 0, rxErr := 0 }) (toL t s))))) ∧
  (∀ (t k : Nat) (s : State), (canCtl k s).state = .integrating →
    let off := groupOff 0x06 s
    let u := modCtl k (fun c => { c with
      state := if off = true ∧ bit 16 (canCtl k s).cfg.ctl = true then .restricted
        else if off = true then .stopped else modeState (canCtl k s).cfg.mode
      tail := none }) (toL t s)
    exec (.integrationDone t k) s = .next (reformIfDue k (cfgDone k .done (syncTrx k u)))) ∧
  (∀ (t k lec : Nat) (data : Bool) (s : State), (canCtl k s).state = .restricted →
    exec (.restrictedError t k lec data) s = .next (bump (ctr 0x0A (0x10 * k + 3))
      (modCtl k (fun c => { c with state := .integrating, errCap := errCapWord false data lec }) (toL t s)))) ∧
  (∀ (t k lec : Nat) (data eight : Bool) (s : State), (canCtl k s).tail = none →
    let r := rxMuted k data (toL t s)
    ((canCtl k s).state = .active →
      exec (.canRxError t k lec data eight) s = .next (passiveEdge k r.2 (bump (ctr 0x0A (0x10 * k + 3)) (modCtl k (fun c =>
        { c with rxErr := min 255 (c.rxErr + if r.1 = true then 0 else if eight = true then 8 else 1)
                 errCap := errCapWord false data lec, lastEnd := t }) r.2)))) ∧
    ((canCtl k s).state = .monitor →
      exec (.canRxError t k lec data eight) s = .next (passiveEdge k r.2 (bump (ctr 0x0A (0x10 * k + 3)) (modCtl k (fun c =>
        { c with rxErr := min 255 c.rxErr, errCap := errCapWord false data lec, lastEnd := t }) r.2)))))

/-- Network time: a trigger fires at its offset of NT or misses its window, a reference message is received or sent, and the predicted cycle
starts pass without one (R364 to R367). The DISC bit that a sender shows and the loop delay of an FD reference message are free values
(log entries 2, 102). -/
def Obligations.NetworkTimeEventsComplete : Prop :=
  (∀ (t i : Nat) (s : State), i < 16 → hostUp s = true → groupOff 0x06 s = false →
    let u := settleTrig i (toL t s)
    let n := u.can.nt
    let start := n.startAt t
    let x := nth u.can.trigs i
    bit 31 x.cfg = true → x.buf ≠ none → n.synced = true ∨ n.sending = true → n.base ≠ none →
    t = n.pointAt t (fld 19 0 x.cfg * 200) →
    n.countAt t % 2 ^ fld 29 27 x.cfg = fld 26 21 x.cfg % 2 ^ fld 29 27 x.cfg → x.fired ≠ some start →
    exec (.triggerFire t i) s = .next (modTrig i (fun _ => { x with due := some t, fired := some start }) u)) ∧
  (∀ (i d : Nat) (s : State), (nth s.can.trigs i).due = some d →
    let u := settleTrigs (toL (d + fld 15 0 (nth s.can.trigs i).win * 200) s)
    hostUp s = true → (nth u.can.trigs i).due ≠ none →
    exec (.triggerMiss i) s = .next (bump (ctr 0x0A 0x103) (modTrig i (fun x => { x with due := none }) u))) ∧
  (∀ (t sof k p q : Nat) (w0 : Word) (data : List Byte) (s : State), refPrio k w0 false data s = some q →
    canOpen k (plainFrame sof w0 data) s = true →
    let u := frameTaken t k (plainFrame sof w0 data) s
    ringOf k w0 false data u = none → refPrio k w0 false data u = some p → groupOff 0x06 u = false →
    exec (.referenceMessage t sof k w0 data) s = .next (refReceived p sof data u)) ∧
  (∀ (t sof : Nat) (s : State),
    let n := s.can.nt
    let k := n.ctrl
    let fmt := b2n (bit 30 n.ref)
    (canCtl k s).tail = none → hostUp s = true → groupOff 0x06 s = false → (canCtl k s).state = .active →
    refStart k sof s = some t → t ≤ sof → drives k sof s = true →
    let w := freeWord (cycleStart t (toL sof (toL t s)))
    let time := unsigned 56 ((sof : Int) + n.offsetAt sof)
    let data := BitVec.ofNat 8 (n.countAt t + 128 * b2n (bit 0 w.1)) :: (if n.level2 then bytesLE 7 time else [])
    let u := modNt (fun x =>
      { x with base := some t, count := n.countAt t, disc := bit 0 w.1, mprio := n.prio, sent := data }) w.2
    exec (.referenceSend t sof) s =
      .next (frameEnded k sof (txGood k fmt 0 (sofSeen k sof (bump (ctr 0x0A 0x101) (measureFree k fmt u)))))) ∧
  (∀ (b : Nat) (s : State), s.can.nt.base = some b → hostUp s = true → s.can.nt.sending = false → s.can.nt.synced = true →
    s.can.nt.role ≠ 0 →
    let n := s.can.nt
    let t := n.after b (n.nmiss * n.cycleT)
    let u := toL t s
    let v := modNt (fun x =>
      let y := { x with synced := false, base := some t, count := (x.count + x.nmiss) % 64
                        sending := 2 ≤ n.role && !groupOff 0x06 u }
      if y.role = 2 then ownCycle (asMaster y) t else y) u
    exec .ntLoss s = .next (reportL 0x146 n.ctrl (canEvent v.now n.ctrl 6 0 [ntStat v] v)))

/-- The transceivers: wake-up pattern, wake-up frame and frame errors wake one that stands by, a dominant TXD and a thermal shutdown are
reported (R382, R384, R385), and the L-die takes a wake (R387, R395). The gateway's Ethernet segments and isolation (R404 to R406), and a
MAC's link (R406, R414). -/
def Obligations.TransceiverAndGatewayEventsComplete : Prop :=
  (∀ (t n a b c : Nat) (s : State), n < 6 → (trxP n s).tstate = 3 →
    let p := phaseCounts a (toP t s)
    let q := phaseCounts b p.2
    let r := phaseCounts c q.2
    p.1 = true → q.1 = true → r.1 = true → a + b + c ≤ fld 15 12 (trxP n r.2).cfg * 1000000 →
    exec (.wakeUpPattern t n a b c) s = .next (wakeTrx n 1 r.2)) ∧
  (∀ (t n dlc : Nat) (head : FrameHead) (data : List Byte) (s : State), n < 6 → (trxP n s).tstate = 3 → selective (trxP n s) = true →
    s.pdie.sup ≠ .cold →
    ((trxP n s).fec + head.errs < 32 →
      let u := modTrx n (fun x => { x with fec := x.fec + head.errs - 1 }) (toP t s)
      exec (.wakeUpFrame t n head dlc data) s = .next (if wakeFrame (trxP n s) head.id dlc data then wakeTrx n 2 u else u)) ∧
    (32 ≤ (trxP n s).fec + head.errs →
      exec (.wakeUpFrame t n head dlc data) s = .next (wakeTrx n 3 (modTrx n (fun x => { x with fec := 32 }) (toP t s))))) ∧
  (∀ (t n : Nat) (s : State), n < 6 → (trxP n s).tstate = 3 → selective (trxP n s) = true → s.pdie.sup ≠ .cold →
    exec (.fecWake t n) s = .next (wakeTrx n 3 (modTrx n (fun x => { x with fec := 32 }) (toP t s)))) ∧
  (∀ (t n : Nat) (s : State), n < 6 → (trxP n s).tstate = 1 →
    let u := reportP 0x160 n 0 (modTrx n (fun x => { x with txdDom := true, held := some t }) (toP t s))
    let v := modTrx n (fun x => { x with txdDom := true, held := some t }) (toP t s)
    exec (.txdDomTimeout t n) s = .next (pushUp (.trx n 1 v.pNow) u)) ∧
  (∀ (t n : Nat) (s : State), n < 6 → (trxP n s).tstate ≠ 0 →
    ((trxP n s).thermal = false →
      let v := modTrx n (fun x => { x with thermal := true }) (toP t s)
      exec (.trxThermal t n true) s = .next (pushUp (.trx n 2 v.pNow) (reportP 0x161 n 0 v))) ∧
    ((trxP n s).thermal = true →
      exec (.trxThermal t n false) s = .next (modTrx n (fun x => { x with thermal := false }) (toP t s)))) ∧
  (∀ (t c : Nat) (s : State), c < 6 → (trxP c s).wake = true → (trxP c s).told = false → linkLive s = true → hostUp s = true →
    groupOff 0x06 s = false →
    let u := modTrx c (fun y => { y with told := true }) (toL t s)
    exec (.nmWake t c) s = .next (syncTrx c (wakeNm c (trxP c s).cause (modNm (fun n => { n with trx := put n.trx c (trxP c u) }) u)))) ∧
  (∀ (t m peer : Nat) (data : List Byte) (s : State), m < 2 → hostUp s = true → ethOn m s = true → (nth s.host.macs m).link = true →
    peer = (nth s.nm.gw.dst m).toNat →
    exec (.gwDatagramRx t m peer data) s =
      .next ((recordFrames 60 (bytesToWords (data.length / 4) data)).foldl (fun s x => gwOffer (12 + m) 0 x s) (toL t s))) ∧
  (∀ (t m : Nat) (s : State), m < 2 → hostUp s = true → (nth s.nm.gw.fill m).words ≠ [] →
    exec (.gwDatagramSend t m) s = .next (modGw (fun x =>
      { x with sent := put x.sent m (nth s.nm.gw.fill m).words, fill := put x.fill m {} })
      (toL (min t ((nth s.nm.gw.fill m).first + 20000)) s))) ∧
  (∀ (t g : Nat) (s : State), g < 14 → hostUp s = true → exec (.segmentIsolation t g) s = .next (raiseIso g (toL t s))) ∧
  (∀ (t m : Nat) (up fast : Bool) (s : State), m < 2 → hostUp s = true → bit 0 (macOf m s).cfg = true →
    up = true → rootSteady s = true → portOpen (12 + m) s = true →
    let rate := if (macOf m s).rgmii then (if bit 4 (macOf m s).cfg then 1 else 2) else if fast then 2 else 1
    exec (.macLinkChange t m up fast) s =
      .next (raiseIso (12 + m) (modMac m (fun y => { y with link := true, rate := rate }) (toL t s)))) ∧
  (∀ (t m : Nat) (fast : Bool) (s : State), m < 2 → hostUp s = true → bit 0 (macOf m s).cfg = true →
    exec (.macLinkChange t m false fast) s =
      .next (raiseIso (12 + m) (modMac m (fun y => { y with link := false, rate := 0 }) (toL t s))))

/-- The ring of network management: frames of the ring are taken, the token is passed on, silent members are skipped and dropped, the ring is
formed anew, and a channel falls asleep and wakes (R389 to R396). -/
def Obligations.RingEventsComplete : Prop :=
  (∀ (t sof k : Nat) (w0 : Word) (data : List Byte) (f : RingFlags) (m : Nat × Nat × RingFlags × Nat) (s : State),
    ringFlags k w0 data s = some f → canOpen k (plainFrame sof w0 data) s = true →
    let u := frameTaken t k (plainFrame sof w0 data) s
    ringOf k w0 false data u = some m → refPrio k w0 false data (ringReceived k sof m u) = none →
    (f.commit = false → f.wake = false → exec (.ringFrameRx t sof k w0 data) s = .next (ringReceived k sof m u)) ∧
    (f.commit = true → exec (.commitRx t sof k w0 data) s = .next (ringReceived k sof m u)) ∧
    (f.wake = true → exec (.wakeFrameRx t sof k w0 data) s = .next (ringReceived k sof m u))) ∧
  (∀ (c e : Nat) (s : State), (nmCh c s).token = some e → nmRuns c s = true →
    (nmCh c s).phase = 1 ∨ ((nmCh c s).phase = 2 ∧ (nmCh c s).claim = true) →
    (¬ ((nmCh c s).claim = true ∧ (bitList 64 (nmCh c s).pres).head? ≠ some (nmCh c s).addr) →
      let u := toL e s
      exec (.tokenSend c) s = .next (passToken c (readyNm c u) (nextRun c (nmCh c s).incoming u)
        (modCh c (fun y => { y with broke := false }) u))) ∧
    ((nmCh c s).claim = true → (bitList 64 (nmCh c s).pres).head? ≠ some (nmCh c s).addr →
      exec (.tokenSend c) s = .next (modCh c (fun y => { y with token := none, claim := false }) (toL e s)))) ∧
  (∀ (c a e : Nat) (s : State), (nmCh c s).succ = some a → (nmCh c s).sentEnd = some e → nmRuns c s = true → (nmCh c s).phase = 1 →
    exec (.successorTimeout c) s =
      .next (passToken c (nmCh c s).sentReady (nmCh c s).sentRun (dropPres c a (bump (ctr 0x0B (0x102 + 4 * c)) (toL (e + (nmCh c s).tmax) s))))) ∧
  (∀ (c a : Nat) (s : State), (nmCh c s).heard.get a ≠ 0 → hostUp s = true →
    exec (.presenceTimeout c a) s = .next (dropPres c a (modCh c (fun y => { y with heard := y.heard.set a 0 })
      (toL ((nmCh c s).heard.get a - 1 + 4 * (nmCh c s).tmax) s)))) ∧
  (∀ (c : Nat) (s : State), nmRuns c s = true → (nmCh c s).phase = 1 → (nmCh c s).alone = false → (nmCh c s).reformed = false →
    let u := modCh c (fun y => { y with reformed := true }) (toL ((nmCh c s).heardAny + 4 * (nmCh c s).tmax) s)
    exec (.reformSend c) s = .next (sendRing c (nmCh c s).addr (nextRun c 0 u) { ready := readyNm c u, reform := true } u)) ∧
  (∀ (c e : Nat) (s : State), (nmCh c s).restart = some e → nmRuns c s = true →
    let u := modCh c (fun y => { y with restart := none }) (toL e s)
    exec (.ringRestartFrame c) s = .next (sendRing c (nmCh c s).addr (nextRun c 0 u) { ready := readyNm c u } u)) ∧
  (∀ (t c : Nat) (s : State), nmRuns c s = true → (canCtl c s).alone = true ∨ (nmCh c s).heardAny + 4 * (nmCh c s).tmax ≤ t →
    exec (.aloneDeclare t c) s = .next (declareAlone c (toL t s))) ∧
  (∀ (c : Nat) (s : State), (nmCh c s).phase = 2 → nmRuns c s = true → (nmCh c s).wakePend = false →
    let u := stopCtl c (dropFrames c 5 (fun _ => true) (toL ((nmCh c s).commit + (nmCh c s).drain) s))
    exec (.silenceTick c) s = .next (nmComplete c 1 1 (syncTrx c (setPhaseNm c 3 u)))) ∧
  (∀ (t c : Nat) (s : State), (nmCh c s).phase = 2 → (nmCh c s).wakePend = true → nmRuns c s = true →
    exec (.wakeQuietGap t c) s = .next (sendWake c (toL t s)))

/-- The core complex: a kick of a watchdog and its expiry, a lockstep mismatch, a checker self-test, a delay-copy error and the errors of the
memories, with the reports they make and the cores they freeze (R435 to R440). The fault collector takes injected faults, then a report,
but not one of the lockstep units in SPLIT mode, and carries out the block resets (R441, R444 to R446, R464); ALV changes level at each
multiple of 100,000 ticks, or goes low (R457). -/
def Obligations.CoreAndCollectorEventsComplete : Prop :=
  (∀ (t c v : Nat) (s : State), hasWdog c s = true → wdogRuns s = true → s.spindle.frozen = false →
    let u := toL t s
    let w := nth u.spindle.wdog c
    let x := modWdog c (fun w => { w with last := some u.now, expectA5 := !w.expectA5, expired := false }) u
    (w.last = none → v = (if w.expectA5 then 0xA5 else 0x5A) → exec (.wdogKick t c v) s = .next x) ∧
    (v ≠ (if w.expectA5 then 0xA5 else 0x5A) → exec (.wdogKick t c v) s = .next (reportL 0x043 c x))) ∧
  (∀ (t : Nat) (s : State), ldieUp s = true → lockstep s = true →
    exec (.lockstepMismatch t) s =
      .next (reportL 0x040 0xFF (freeze (modSpindle (fun x => { x with injMismatch := false }) (toL t s)))) ∧
    exec (.delayCopyError t) s =
      .next (reportL 0x042 0xFF (freeze (modSpindle (fun x => { x with injDelay := false }) (toL t s))))) ∧
  (∀ (miss : Nat) (s : State), ldieUp s = true → lockstep s = true → s.clk.power < 2 →
    let u := toL (max s.spindle.selfNext (ceilDiv s.now 200000 * 200000)) s
    let m := (miss % 16) ||| b2n s.spindle.injChecker
    let v := selfTest m (modSpindle (fun x => { x with selfNext := u.now + 200000 }) u)
    exec (.checkerSelfTest miss) s = .next (if m = 0 then v else reportL 0x041 0xFF v)) ∧
  (∀ (c t : Nat) (s : State), (nth s.spindle.wdog c).last = some t → hasWdog c s = true → wdogRuns s = true →
    (nth s.spindle.wdog c).expired = false →
    exec (.watchdogExpiry c) s =
      .next (reportL 0x043 c (modWdog c (fun w => { w with expired := true }) (toL (t + wdogTicks s) s)))) ∧
  (∀ (t addr access master core : Nat) (s : State), ldieUp s = true →
    let u := toL t s
    let v := bump (ctr 0x02 2) (modSpindle (fun x => { x with eccAddr := word addr, injCe := false }) u)
    exec (.memoryError t 0 addr access master core) s =
      .next (report { src := 0x003, addr := word addr, access := access, master := master, tick := v.now } v) ∧
    exec (.memoryError t 1 addr access master core) s =
      .next (report { src := 0x004, addr := word addr, access := access, master := master, tick := u.now }
        (modSpindle (fun x => { x with injUe := false }) u)) ∧
    exec (.memoryError t 2 addr access master core) s =
      .next (report { src := 0x005, inst := core % 2, addr := word addr, access := access, master := master, tick := u.now } u)) ∧
  (∀ (t src inst detail addr access master : Nat) (s : State), ldieUp s = true →
    let u := s.faults.inject.foldl injected (modFaults (fun f => { f with inject := [] }) (toL t s))
    (u.split = false ∨ src < 0x040 ∨ 0x042 < src → exec (.faultReport t src inst detail addr access master) s = .next (runResets (report
      { src := src, inst := inst, detail := detail, addr := word addr, access := access, master := master, tick := u.now } u))) ∧
    (u.split = true → 0x040 ≤ src → src ≤ 0x042 →
      exec (.faultReport t src inst detail addr access master) s = .next (runResets u))) ∧
  (∀ (s : State), s.ldie ≠ .off →
    let u := toL (max s.faults.alvNext (ceilDiv s.now 100000 * 100000)) s
    exec .alvToggle s = .next (modFaults (fun f =>
      { f with alvNext := u.now + 100000, alvStop := alvStopOf u, alvOn := alvStopOf u == 0
               alvHigh := alvStopOf u == 0 && !f.alvHigh }) u))

/-- The key store: the steps of a zeroisation (R484, R489, R495), the start of the store (R483, R485, R486), a verified bank write (R481), the
health tests of the random source (R489), and the end of an OTP programming (R492, R551). -/
def Obligations.KeyEventsComplete : Prop :=
  (∀ (t : Nat) (z : Zeroise) (s : State), s.keys.zero = some z →
    let u := toL t s
    let next := fun (n : Nat) (s : State) => modKeys (fun k => { k with zero := some { z with step := n } }) s
    (z.step = 0 → exec (.zeroisationStepDone t) s = .next (next 1 (zeroStep1 z u))) ∧
    (z.step = 1 → s.keys.trngFail = false →
      exec (.zeroisationStepDone t) s = .next (completeAll .erase .done (fun _ => []) (next 2 (zeroStep2 u)))) ∧
    (z.step = 1 → s.keys.trngFail = true → exec (.zeroisationStepDone t) s = .next (completeAll .erase .faultActive (fun _ => [])
      (zeroEnd z.code (modKeys (fun k => { k with nonceHeld := some z.code }) (zeroStep3 u))))) ∧
    (2 ≤ z.step → exec (.zeroisationStepDone t) s = .next (zeroEnd z.code (zeroStep3 u)))) ∧
  (∀ (t a b : Nat) (s : State), s.keys.state = .locked → linkLive s = true → hostUp s = true →
    let u := seeTamper (if s.keys.mark = true ∨ a = 2 ∨ b = 2 then completeZeroise (toL t s) else loadBanks a b (toL t s))
    exec (.keyStoreReady t a b) s = .next (if u.keys.state == .ready then keyEvent 0x7F 6 0 u else u)) ∧
  (∀ (t : Nat) (table : Vector KeySlot 64) (s : State), s.keys.writing = some table →
    let u := toL t s
    exec (.keyBankVerified t true) s = .next (banksIdle (keyWriteDone table u)) ∧
    (s.keys.tries < 2 → exec (.keyBankVerified t false) s =
      .next (banksIdle (modKeys (fun k => { k with tries := k.tries + 1 }) u))) ∧
    (2 ≤ s.keys.tries → exec (.keyBankVerified t false) s = .next (banksIdle (keyWriteFailed u)))) ∧
  (∀ (t : Nat) (s : State), s.keys.trngFail = false → s.ldie ≠ .off → s.ldie ≠ .halted →
    exec (.trngHealthFail t) s = .next (reportL 0x1A3 0xFF (modKeys (fun k => { k with trngFail := true }) (toL t s)))) ∧
  (∀ (t : Nat) (s : State), s.ldie ≠ .off → s.ldie ≠ .halted →
    let u := modKeys (fun k => { k with trngFail := false }) (toL t s)
    (s.keys.nonceHeld = none → exec (.trngHealthPass t) s = .next u) ∧
    (∀ code, s.keys.nonceHeld = some code →
      let v := zeroEnd code (modKeys (fun k => { k with nonceHeld := none }) (zeroStep2 u))
      exec (.trngHealthPass t) s = .next (if code = 3 ∧ v.keys.state = .ready then keyEvent 0x7F 6 0 v else v))) ∧
  (∀ (t : Nat) (ok : Bool) (rest : List Nat) (s : State), s.otp.pend = 0 :: rest →
    exec (.otpProgramDone t ok) s = .next (rootRetired ok { toL t s with otp := { s.otp with pend := rest } })) ∧
  (∀ (t n : Nat) (ok : Bool) (rest : List Nat) (s : State), s.otp.pend = (n + 1) :: rest →
    exec (.otpProgramDone t ok) s = .next (counterRaised n ok { toL t s with otp := { s.otp with pend := rest } }))

/-- The store and the update flow: a configuration bank write that verifies, that is tried again, or that has failed three times (R530); the
operations of an update (R544, R546, R551, R601), the handover to the new image, and its failure (R547, R548). -/
def Obligations.StoreEventsComplete : Prop :=
  (∀ (t : Nat) (edits : List CfgEdit) (s : State), s.store.writing = some edits →
    exec (.cfgBankVerified t true) s = .next (banksIdle (cfgWriteDone edits (toL t s))) ∧
    (s.store.tries < 2 → exec (.cfgBankVerified t false) s =
      .next (bump (ctr 0x0E 1) (modStore (fun x => { x with tries := x.tries + 1 }) (toL t s)))) ∧
    (2 ≤ s.store.tries → exec (.cfgBankVerified t false) s = .next (banksIdle (cfgWriteFailed (toL t s))))) ∧
  (∀ (t : Nat) (bad : Option Nat) (s : State), hostUp s = true →
    let u := toL t s
    (s.store.upd.op = some .verify → exec (.updateWriteVerified t true bad) s = .next (verifyDone bad u)) ∧
    (s.store.upd.op = some .fallbackCopy → exec (.updateWriteVerified t true bad) s =
      .next (modUpd (fun u => { u with op := some .bootTrial }) (modStore (fun x => { x with fallback := some (authBank u) }) u))) ∧
    (s.store.upd.op = some .bootTrial → exec (.updateWriteVerified t true bad) s = .next (bootTrialDone u)) ∧
    (s.store.upd.op = some .bootConfirm → exec (.updateWriteVerified t true bad) s = .next (bootConfirmDone u)) ∧
    (∀ op, s.store.upd.op = some op → op ≠ .verify → exec (.updateWriteVerified t false bad) s = .next (updFailed op u))) ∧
  (∀ (t b : Nat) (s : State), s.store.upd.handover = some b → s.ldie = .running →
    let u := toL (min t (b + 800000)) s
    let pause := u.now - b
    let v := modUpd (fun u => { u with state := 4, held := false, handover := none, got := [] })
      (modStore (fun x => { x with running := x.boot.candidate, result := 1, pause := pause / 200 }) u)
    let w := releaseWrites (bump (ctr 0x0E 5) { v with clk := { v.clk with paused := false } })
    let x := updateEvent 3 (pause / 20000) (updateEvent 1 1
      (completeAll (.update 1) .done (fun _ => [word (bankDesc w.store.running w).version]) w))
    exec (.handover t) s = .next (if (authBank x).cfmt = runCfmt x then x else pushEdit {} x)) ∧
  (∀ (t b : Nat) (s : State), s.store.upd.handover = some b → s.ldie = .running →
    exec (.handoverFailure t) s = .next (revert 4 (toL t s)))

/-- The clocks: a measurement of XI at a start with PREF 0 (R557), and before a switch to the crystal (R565); a root failure and the switch to
the RC that follows it (R562 to R564); the end of a root switch (R565); a loss of lock (R592); the closing of a unit's clock (R561). The
power and clock opcodes: PWR_STATE_REQ takes RUN and IDLE at once and begins the entry into a low-power state (R571, R585), CLK_STATUS
answers the status words (R586), CLK_GATE opens units and marks others for closing (R587), WAKE_CFG sends the wake configuration to the
P-die (R588). -/
def Obligations.ClockEventsAndPowerCommandsComplete : Prop :=
  (∀ (t outcome : Nat) (s : State),
    let u := toL t s
    let v := modClk (fun c => { c with xtalOk := outcome == 0, xtalAbsent := outcome == 1, xtalBad := outcome != 0 && outcome != 1 }) u
    (s.clk.switch = some (false, true) → exec (.xiMeasurement t outcome) s = .next (
      if outcome = 0 then modClk (fun c => { c with switch := some (false, false) }) v
      else modClk (fun c => { c with switch := none, sel := c.rootRc, xtalBad := true }) v)) ∧
    (s.clk.switch = none → s.ldie = .starting → s.clk.step = .released → s.clk.pref = false → s.clk.xtalOk = false →
      s.clk.xtalAbsent = false → s.clk.xtalBad = false → exec (.xiMeasurement t outcome) s = .next (
        if outcome = 0 then modClk (fun c => { c with rootRc := false }) v
        else if outcome = 1 then v else reportL 0x202 0xFF v))) ∧
  (∀ (t : Nat) (s : State), ldieUp s = true → s.clk.coast = false →
    let u := toL t s
    let v := bump (ctr 0x10 0) (modClk (fun c => { c with coast := true, locked := false, coastAt := u.now }) u)
    let w := stopForRoot (powerEvent 3 0 0 (reportL 0x200 0xFF v))
    let x := (List.range 2).foldl (fun s p =>
      if (plyOf p s).state == .up then modPly p (fun x => { x with state := .training }) s else s) w
    exec (.rootFailure t) s = .next (fallbackFor (fun _ => true) (if x.deviceId = 0 then x else setAligned false x))) ∧
  (∀ (s : State), s.clk.coast = true → bit 1 s.clk.ctl = true → s.clk.switch = none → ldieUp s = true →
    exec .autoRcSwitch s =
      .next (modClk (fun c => { c with switch := some (true, false), sel := true }) (toL (s.clk.coastAt + 200000) s))) ∧
  (∀ (t : Nat) (rc forced : Bool) (s : State), s.clk.switch = some (rc, false) → ldieUp s = true →
    let u := bump (ctr 0x10 1) (modClk (fun c =>
      { c with switch := none, rootRc := rc, sel := rc, coast := false, locked := true, deadSrc := c.deadSrc || forced }) (toL t s))
    let v := powerEvent 4 0 0 (if forced then bump (ctr 0x10 2) (reportL 0x201 0xFF u) else u)
    exec (.rootSwitchLock t forced) s =
      .next (if rc then stopForRoot (if v.deviceId = 0 then v else setAligned false v) else resumeForRoot v)) ∧
  (∀ (t : Nat) (s : State), ldieUp s = true → s.clk.coast = false → s.clk.locked = true →
    exec (.pllLockLoss t) s = .next (reportL 0x203 0xFF (modClk (fun c => { c with locked := false }) (toL t s)))) ∧
  (∀ (t n : Nat) (s : State), n < 17 → s.clk.gatePend.testBit n = true → unitIdle n (toL t s) = true → ldieUp s = true →
    exec (.unitGateClosed t n) s = .next (modClk (fun c =>
      { c with gate := setPin c.gate n true, gatePend := setPin c.gatePend n false }) (closeUnit n (toL t s)))) ∧
  (∀ (r : Req) (s : State), ready infoPwrStateReq r s = true →
    let a := atRun infoPwrStateReq r s
    let target := obj r
    let u := modClk (fun c => { c with power := target }) a
    wakeFits target (arg r 0) a = true →
      (target < 2 →
        exec (.pwrStateReq r) s = .next (doneWith infoPwrStateReq r s [word target] (if target = 0 then restartWdogs u else u))) ∧
      (2 ≤ target → a.clk.entry = none → (a.store.upd.state = 0 ∨ 4 ≤ a.store.upd.state) →
        (bit 0 (arg r 0) = true ∨ quietFor target a = true) →
        exec (.pwrStateReq r) s = .next (waitsWith infoPwrStateReq r s .power true [] (stopRun 6 (modClk (fun c =>
          { c with entry := some { target := target, since := a.now, force := bit 0 (arg r 0), slot := r.slot, tag := r.tag }
                   wakeHeard := 0 }) a))))) ∧
  (∀ (r : Req) (s : State), ready infoClkStatus r s = true →
    let a := atRun infoClkStatus r s
    exec (.clkStatus r) s =
      .next (doneWith infoClkStatus r s [clkStat a, word a.clk.gate, pwrStat a, word a.clk.wakeSrc, regStat a] a)) ∧
  (∀ (r : Req) (s : State), ready infoClkGate r s = true →
    let a := atRun infoClkGate r s
    let close := arg r 0
    let opn := arg r 1
    let u := modClk (fun c =>
      { c with gate := c.gate - (c.gate &&& opn.toNat)
               gatePend := (c.gatePend - (c.gatePend &&& opn.toNat)) ||| (close.toNat - (close.toNat &&& c.gate)) }) a
    close &&& opn = 0 → onlyBits 0x1FFFF close = true → onlyBits 0x1FFFF opn = true →
    (∀ n, portUnit r.port = some n → bit n close = false) →
    exec (.clkGate r) s = .next (doneWith infoClkGate r s []
      ((List.range 12).foldl (fun s k => if bit k opn && a.clk.gate.testBit k then startCtl k s else s) u))) ∧
  (∀ (r : Req) (s : State), ready infoWakeCfg r s = true →
    let a := atRun infoWakeCfg r s
    let q := pushCfg (.wake (arg r 0) (edgeWritten (wakeComing a).2.1 (fld 7 0 (arg r 1))) (arg r 2).toNat) a
    onlyBits 0x3FFF (arg r 0) = true → onlyBits 0xF00FF (arg r 1) = true → (arg r 2).toNat ≤ 86400 → linkLive a = true →
    exec (.wakeCfg r) s = .next (waitsWith infoWakeCfg r s (.echo q.1) false [] q.2))

/-- The entry into a low-power state: an abort point of a phase whose work is done, with and without a latched wake (R571 to R573), a phase
that takes too long (R571), and the entry itself after the response has left (R573); a wake source that latches (R571, R574). The rails: a
request that STATUS_WORD shows met (R581), one that has timed out (R581), the wake from DEEP SLEEP (R575, R577), a rail that does not come
up in the restore, and the next attempt (R578). -/
def Obligations.PowerEntryAndRailEventsComplete : Prop :=
  (∀ (t : Nat) (e : PwrEntry) (s : State), s.clk.entry = some e → e.phase < 5 →
    let u := toL t s
    u.now ≤ e.since + phaseLimit e.phase → phaseDone e u = true →
      (e.latched ≠ 0 → exec (.abortPoint t) s = .next (abandon e.phase e u)) ∧
      (e.latched = 0 → e.phase = 4 → exec (.abortPoint t) s = .next (passLast e u)) ∧
      (e.latched = 0 → e.phase ≠ 4 → exec (.abortPoint t) s = .next (beginPhase (e.phase + 1) e.target
        (modClk (fun c => { c with entry := some { e with phase := e.phase + 1, since := u.now } }) u)))) ∧
  (∀ (e : PwrEntry) (s : State), s.clk.entry = some e → e.phase < 5 →
    exec .entryPhaseTimeout s =
      .next (reportL 0x206 e.phase (abandon e.phase e (toL (e.since + phaseLimit e.phase) s)))) ∧
  (∀ (t : Nat) (e : PwrEntry) (s : State), s.clk.entry = some e → 5 ≤ e.phase → e.target = 2 → e.latched = 0 →
    s.host.flight.any (fun x => x.op == 0x0B00 && x.req.slot == e.slot && x.req.tag == e.tag) = false →
    exec (.entryCommit t) s = .next (modClk (fun c => { c with power := 2, entry := none })
      (bump (ctr 0x10 0x12) (enterPDie 2
        (alvLow 1 ((List.range 12).foldl (fun s k => stopForClock k s) (toL t s))))))) ∧
  (∀ (t src : Nat) (up : Bool) (s : State), src < 14 → bit src s.clk.wakeEn = true →
    (src < 4 → (s.clk.wakeEdge >>> (2 * src)) % 4 = 3 ∨ (s.clk.wakeEdge >>> (2 * src)) % 4 = (if up then 1 else 2)) →
    let u := if src < 4 then modClk (fun c => { c with wakeLevel := setPin c.wakeLevel src up }) (toP t s) else toP t s
    let v := modClk (fun c =>
        { c with wakeHeard := setPin c.wakeHeard src false, wakeSrc := setPin c.wakeSrc src true
                 entry := c.entry.map (fun e => { e with latched := setPin e.latched src true }) })
      (modP (fun p => { p with wakeReq := setPin p.wakeReq src false }) u)
    let w := modClk (fun c => { c with waking := true }) v
    wakeRequested src u = true →
      (∀ e, s.clk.entry = some e → (wakeActs e.target).testBit src = true → s.clk.power < 2 →
        exec (.wakeLatch t src up) s = .next v) ∧
      (s.clk.entry = none → 2 ≤ s.clk.power → (wakeActs s.clk.power).testBit src = true → s.clk.waking = false →
        exec (.wakeLatch t src up) s = .next (if s.clk.power = 2 then w else wakePDie w))) ∧
  (∀ (t status : Nat) (q : RegReq) (rest : List RegReq) (s : State), s.clk.reqs = q :: rest →
    let u := toL t s
    let v := bump (ctr 0x10 3) u
    (regMet q.kind status = true → exec (.regRequestAcknowledged t status) s = .next (modClk (fun c => { c with reqs := offRails c.power rest }) u)) ∧
    (q.tries < 2 → exec (.regRequestTimeout t status) s =
      .next (modClk (fun c => { c with reqs := { q with tries := q.tries + 1 } :: rest }) v)) ∧
    (2 ≤ q.tries → exec (.regRequestTimeout t status) s = .next (powerEvent 5 0 0 (reportL 0x204 q.rail (modClk (fun c =>
      { c with reqs := offRails c.power rest, regLast := status % 65536, regRail := q.rail, regFail := setPin c.regFail q.rail true }) v))))) ∧
  (∀ (t : Nat) (s : State), s.ldie = .off → s.clk.power = 3 → s.clk.waking = true → s.clk.railWait = none →
    let u := pushReg { rail := 2, kind := .on } { toP t s with ldie := .starting, now := 0 }
    exec (.deepSleepWake t) s = .next (pushReg (vcoreRequest u) u)) ∧
  (∀ (t rail : Nat) (s : State), s.ldie = .starting → s.clk.step = .released →
    exec (.railTimeout t rail) s = .next (modClk (fun c => { c with railWait := some (rail % 3) }) { toP t s with ldie := .off })) ∧
  (∀ (t r : Nat) (s : State), s.clk.railWait = some r → s.ldie = .off →
    exec (.restoreRetry t) s = .next (pushReg { rail := r, kind := .on } { toP t s with ldie := .starting, now := 0 }))

/-- The resets: a power-on of each die and the release of the P-die (R568, R594), RSTN, both forms of a pending L3 (R447), and TRSTN, which
touches the JTAG TAP alone (R568). The start: the release of the cores, the firmware's start at step 9, that of the recovery loader, the
chain wait, the last step once the link is LIVE, and the return from SLEEP (R533, R538, R577, R597, R599, R603). -/
def Obligations.ResetsAndStartsComplete : Prop :=
  (∀ (t id : Nat) (split bootsel : Bool) (s : State), s.clk.power ≠ 4 →
    exec (.lDiePowerOn t id split bootsel) s = .next (sampleStraps id split bootsel (startLDie .powerOn (toP t s)))) ∧
  (∀ (t id : Nat) (split bootsel : Bool) (s : State), s.clk.power = 4 →
    let u := modClk (fun x => { x with power := 4, wakeSrc := s.clk.wakeSrc, wakeLevel := s.clk.wakeLevel })
      (sampleStraps id split bootsel (startLDie .powerOn (toP t s)))
    exec (.lDiePowerOn t id split bootsel) s = .next (if u.pdie.sup = .asleep then wakePDie u else u)) ∧
  (∀ (t ns id : Nat) (split bootsel : Bool) (s : State), s.ldie ≠ .off →
    (ns < 100 → exec (.rstn t ns id split bootsel) s = .next (toL t s)) ∧
    (1000 ≤ ns → exec (.rstn t ns id split bootsel) s = .next (sampleStraps id split bootsel (startLDie .rstn (toL t s))))) ∧
  (∀ (t : Nat) (p : PendingL3) (s : State), s.faults.pendingL3 = some p →
    (p.chip = true → exec (.l3Chip t) s = .next (startLDie .chip (toL t s))) ∧
    (p.chip = false → s.store.upd.recovery = false → exec (.l3Warm t) s = .next (startLDie .warm (toL t s)))) ∧
  (∀ (t : Nat) (s : State), exec (.trstn t) s = .next (toL t s)) ∧
  (∀ (t : Nat) (s : State),
    let far := fun (i : Nat) => (Config.freeWord (s.free + i)).toNat
    exec (.pDiePowerOn t) s = .next { toP t s with
      pNow := 0
      free := s.free + 51
      pdie := { sup := .reset, expiry := none, msel := s.pdie.msel, trx := Vector.replicate 6 { tstate := 0 }
                fsHold := s.pdie.fsHoldNew.elim s.pdie.fsHold (fun v => if far 48 % 2 = 0 then s.pdie.fsHold else v)
                fsPort := Vector.ofFn (fun (i : Fin 2) => (nth s.pdie.fsPortNew i.val).elim (nth s.pdie.fsPort i.val) (fun v =>
                  if far (49 + i.val) % 2 = 0 then nth s.pdie.fsPort i.val else v))
                fs := Vector.ofFn (fun (i : Fin 48) => cutFs (far i.val) (nth s.pdie.fs i.val)) }
      counters := s.counters.filter (fun p => !pdieCounter p.1) }) ∧
  (∀ (t : Nat) (s : State), s.pdie.sup = .reset →
    let u := toP t s
    exec (.pDiePowerOnRelease t) s = .next (syncAllTrx (modP (fun p =>
      { p with sup := .cold, hold := p.fsHold, portFs := p.fsPort, expiry := some (u.pNow + p.fsHold * 200000), skeins := p.fs.map storedSkein
               ports := p.ports.map (fun x => { x with blank := true }) }) u))) ∧
  (∀ (t miss bad : Nat) (s : State), s.ldie = .starting →
    (s.clk.step = .released → exec (.restore t miss bad) s = .next (releaseCores miss bad (toL t s))) ∧
    (s.clk.step = .started → linkLive s = true → exec (.restore t miss bad) s = .next (enterRun (toL t s)))) ∧
  (∀ (t miss bad : Nat) (s : State), s.ldie ≠ .starting → s.clk.power = 2 → s.clk.waking = true → ldieUp s = true →
    exec (.restore t miss bad) s = .next (leaveSleep miss (toL t s))) ∧
  (∀ (t bad : Nat) (s : State), s.ldie = .starting → s.clk.step = .checked → s.clk.recovery = 0 →
    let u := settleDevice (restoreClasses (decide (s.spindle.reason = 1 ∧ s.clk.power ≠ 3)) [12, 13, 14, 11, 9]
      (holdNotes (reportStore (chooseBank bad (toL t s)))))
    exec (.firmwareStarted t bad) s =
      .next (trainOrWait (if u.spindle.reason != 4 && u.clk.xtalAbsent && !u.clk.pref then reportL 0x202 0xFF u else u))) ∧
  (∀ (t bad : Nat) (s : State), s.ldie = .starting → s.clk.step = .checked → s.clk.recovery ≠ 0 →
    exec (.recoveryStart t bad) s =
      .next (trainOrWait (restoreClasses false [12] (holdNotes (reportStore (chooseBank bad (toL t s))))))) ∧
  (∀ (s : State), s.clk.step = .chainWait → s.ldie = .starting →
    exec .chainWaitTimeout s =
      .next (chainWaitOver (modClk (fun c => { c with chainWait := true }) (toL (s.clk.step9 + 4000000) s))))

/-- Ranging: the start of a round's next slot and of a round (R506, R519), the reading of a REPORT (R503, R506), and the result of a slot,
with the round's end after the last one (R508, R509). RANGE_START of usable tokens and anchors begins a run at its start tick, or with
ROUNDS 0 stops it (R519). RANGE_RESULT answers the round's figures (R520). RANGE_ZONE_CFG of a zone or a token is in force at once, of an
anchor or the radio once every enabled anchor has reported it, which is a free value (R521, log entry 2). LOCKOUT_CLEAR ends a lock-out
(R522), and IMMO_CFG takes its word, without its reserved bits (R523). -/
def Obligations.RangingEventsAndCommandsComplete : Prop :=
  (∀ (r : RangeRun) (s : State), s.range.run = some r → r.slot = none → s.ldie = .running →
    (r.busy = false → exec .anchorSlotStart s = .next (beginRound r s)) ∧
    (r.busy = true → linkLive s = true → exec .anchorSlotStart s = .next (beginSlot s))) ∧
  (∀ (good : Bool) (pre : Option Nat) (answers : List TokAnswer) (r : RangeRun) (n : Nat) (s : State),
    s.range.run = some r → r.slot = some n → r.read = false →
    let v := toL (slotEdge r s + slotTicks s - 60000) s
    let u := countLoad (fld 29 24 (anchor n v).cfg) (linkKey n v) v
    exec (.reportRead good pre answers) s = .next (
      if good = true ∧ loads (linkKey n v) = true then modRun (fun r => { r with read := true, report := some (pre, answers) }) u
      else linkError n (modRun (fun r => { r with read := true }) u))) ∧
  (∀ (r : RangeRun) (n : Nat) (s : State), s.range.run = some r → r.slot = some n → r.read = true →
    let u := toL (slotEdge r s + slotTicks s - 20000) s
    let x := slotResult n r u
    let v := x.2.foldl (fun s v => bump (ctr 0x0C (0x200 + v.tok)) s) (modAnchor n (fun a => { a with res := x.1 }) u)
    let r' : RangeRun := { r with slot := none, ix := r.ix + 1, results := r.results ++ [x.1], answers := r.answers ++ x.2 }
    let w := modRange (fun x => { x with run := some r' }) v
    exec .slotResult s = .next (if r.todo.isEmpty then endRound r' w else w)) ∧
  (∀ (r : Req) (s : State), ready infoRangeStart r s = true →
    let a := atRun infoRangeStart r s
    let toks := fld 7 0 r.object
    let ancs := fld 5 0 (arg r 0)
    let rounds := fld 15 8 (arg r 0)
    rangeStartValid r a = true → lockedOut a = false → a.keys.state = .ready → linkLive a = true →
    (bitList 8 toks).any (fun t => loads (tokenKey t a)) = true → (bitList 6 ancs).all (fun n => loads (linkKey n a)) = true →
      (rounds = 0 → exec (.rangeStart r) s = .next (doneWith infoRangeStart r s [word a.range.runNo] (stopRun 1 a))) ∧
      (rounds ≠ 0 → a.range.run = none →
        let run : RangeRun :=
          { toks := toks, ancs := ancs, left := rounds, immo := bit 16 (arg r 0), roundT := fld 15 0 (arg r 1)
            start := ceilDiv (a.now + 60000) 100000 * 100000, cmd := some (r.slot, r.tag) }
        exec (.rangeStart r) s = .next (waitsWith infoRangeStart r s .ranging false []
          (modRange (fun x => { x with run := some run, runNo := (x.runNo + 1) % 65536, roundNo := 0 }) a)))) ∧
  (∀ (r : Req) (s : State), ready infoRangeResult r s = true →
    let a := atRun infoRangeResult r s
    exec (.rangeResult r) s = .next (doneWith infoRangeResult r s
      ([rangeStat a, pack [(16, a.range.roundNo), (0, a.range.runNo)]] ++ natToWords 2 a.range.async ++
        a.range.anc.toList.map anchorStat ++ a.range.tok.toList.map tokenStat) a)) ∧
  (∀ (r : Req) (s : State), ready infoRangeZoneCfg r s = true →
    let a := atRun infoRangeZoneCfg r s
    let o := obj r
    let u := putZoneCfg o r.payload a
    let w := freeWord u
    let mute := (List.range 6).filter (fun n => bit 31 (anchor n w.2).cfg && !bit n w.1)
    zoneCfgValid o r.payload = true → a.range.run = none → cfgKey o r.payload a = none →
      (o < 0x100 ∨ (0x200 ≤ o ∧ o < 0x300) → exec (.rangeZoneCfg r) s = .next (doneWith infoRangeZoneCfg r s [] u)) ∧
      (¬ (o < 0x100 ∨ (0x200 ≤ o ∧ o < 0x300)) → exec (.rangeZoneCfg r) s = .next (
        if mute.isEmpty then doneWith infoRangeZoneCfg r s [] w.2
        else complete (entryFor infoRangeZoneCfg r s) .faultActive [] (mute.foldl (fun s n => linkError n s) w.2)))) ∧
  (∀ (r : Req) (s : State), ready infoLockoutClear r s = true → onlyBits 1 (arg r 0) = true →
    let a := atRun infoLockoutClear r s
    let u := if bit 0 (arg r 0) then modRange (fun x => { x with level := 0 }) a else a
    exec (.lockoutClear r) s = .next (doneWith infoLockoutClear r s []
      (if lockedOut a then endLockout u else modRange (fun x => { x with fails := 0 }) u))) ∧
  (∀ (r : Req) (s : State), ready infoImmoCfg r s = true →
    let a := atRun infoImmoCfg r s
    let w := arg r 0 &&& 0x80FF3F00
    (bit 31 w = true → immoProfileOk w a = true) → a.range.run = none →
    exec (.immoCfg r) s = .next (doneWith infoImmoCfg r s [] (modRange (fun x => { x with immo := w }) a)))

/-- Register rows of the field pins and the lighting engine: FIO_PINi_CFG, FIO_OUTn and FIO_STAT.FAULT go to the P-die (R326, R333, R335), a
word of the Whorl program memory is kept (R305), LIGHT_PORTp_COLIq goes to the P-die where the port's sum allows it (R286), FS of
LIGHT_PORTp_CFG goes into the fail-safe memory (R300), a word of the frame memory window writes its two pixels (R288, R289), and
LIGHT_EXT_TEMP is taken for one second (R292). -/
def Obligations.FieldRegisterRowsComplete : Prop :=
  (∀ (i : Nat) (v : Word) (r : Req) (s : State), i < 80 →
    let r' := regReq (0x81000 + 4 * i) v r
    let a := atRun infoWriteReg r' s
    ready infoWriteReg r' s = true → groupOff 0x05 a = false → pinCfgOk v = true →
    ((List.range 80).filter (fun j => pinWet10 (if i ≤ j ∧ j < i + 1 then v else pinWanted j a))).length ≤ 16 → linkLive a = true →
    let q := pushCfg (.fio (0x1000 + 4 * i) v) a
    exec (.fioPinCfgWrite i v r) s = .next (settle (entryFor infoWriteReg r' s) (.waits [.echo q.1] []) q.2)) ∧
  (∀ (n : Nat) (v : Word) (r : Req) (s : State), n < 3 →
    let r' := regReq (0x80020 + 4 * n) v r
    let a := atRun infoWriteReg r' s
    ready infoWriteReg r' s = true → groupOff 0x05 a = false → linkLive a = true →
    let m := outWordMask n a
    let q := sendOutputs (outputsComing a - (outputsComing a &&& m) + (v.toNat <<< (32 * n) &&& m)) a
    exec (.fioOutWrite n v r) s = .next (waitsWith infoWriteReg r' s (.echo q.1) false [] q.2)) ∧
  (∀ (r : Req) (s : State),
    let r' := regReq 0x80004 1 r
    let a := atRun infoWriteReg r' s
    ready infoWriteReg r' s = true → linkLive a = true →
    let q := pushCfg (.fio 0x04 1) a
    exec (.fioFaultClear r) s = .next (waitsWith infoWriteReg r' s (.echo q.1) false [] q.2)) ∧
  (∀ (i : Nat) (v : Word) (r : Req) (s : State), i < 1024 →
    let r' := regReq (0x74000 + 4 * i) v r
    let a := atRun infoWriteReg r' s
    ready infoWriteReg r' s = true → groupOff 0x04 a = false →
    (a.light.engines.toList.any (fun x => (x.state == .running || x.state == .waiting) && x.low < i + 1 && i ≤ x.high)) = false →
    exec (.whorlProgramWrite i v r) s = .next (doneWith infoWriteReg r' s []
      (modLight (fun x => { x with prog := x.prog.set i v.toNat }) a))) ∧
  (∀ (p c : Nat) (v : Word) (r : Req) (s : State), p < 2 → c < 12 →
    let r' := regReq (0x70040 + 0x100 * p + 4 * c) v r
    let a := atRun infoWriteReg r' s
    ready infoWriteReg r' s = true → coliSum (put (coliWanted p a) c v) ≤ max 2125 (coliSum (coliWanted p a)) → linkLive a = true →
    let q := pushCfg (.light (0x40 + 0x100 * p + 4 * c) v) a
    exec (.coliWrite p c v r) s = .next (waitsWith infoWriteReg r' s (.echo q.1) false [] q.2)) ∧
  (∀ (p : Nat) (v : Word) (r : Req) (s : State), p < 2 →
    let r' := regReq (0x70000 + 0x100 * p) v r
    let a := atRun infoWriteReg r' s
    let old := portCfgComing p a
    let new := writeFields [rw 30 30, rw 29 29, rw 28 28, rwIn 27 26 0 1, rw 23 20, rwIn 19 16 0 8, rw 15 8, rw 0 0] old v
    ready infoWriteReg r' s = true → old &&& portPBits = new &&& portPBits → bit 30 old ≠ bit 30 new → linkLive a = true →
    let q := pushCfg (.portFs p (bit 30 new)) (modPortL p (fun x => { x with cfg := setFld 29 28 (fld 29 28 new) x.cfg }) a)
    exec (.portFsWrite p v r) s = .next (settle (entryFor infoWriteReg r' s) (.waits [.echo q.1] [])
      (modWeft (fun w => { w with nvPend := setPin w.nvPend (49 + p) true }) q.2))) ∧
  (∀ (i p b n : Nat) (v : Word) (r : Req) (s : State), i < 1536 → windowPixel (0x8000 + 4 * i) = some (p, b, n) →
    let r' := regReq (0x78000 + 4 * i) v r
    let a := atRun infoWriteReg r' s
    ready infoWriteReg r' s = true → linkLive a = true →
    let u := writePixels p b [(n, fld 15 0 v), (n + 1, fld 31 16 v)] a
    exec (.frameMemoryWrite i v r) s = .next (settle (entryFor infoWriteReg r' s) (.waits (pixelEchoes p a u) []) u)) ∧
  (∀ (v : Word) (r : Req) (s : State),
    let r' := regReq 0x70300 v r
    let a := atRun infoWriteReg r' s
    ready infoWriteReg r' s = true →
    exec (.extTempWrite v r) s = .next (doneWith infoWriteReg r' s []
      (modLight (fun x => { x with extTemp := fld 7 0 v, extStale := false, extEnd := some (mgmtStart a + 200) }) a)))

/-- Register rows of the network and of the clocks: a word of the routing table that leaves its entry valid (R407), CAN_TRIGi, in force from
the next cycle start (R376), an authentication profile, written by an authenticated session (R363), the root source (R565), VCORE (R583),
CAN_ERRCAPk, which a read clears (R7). GENERIC_REG_WRITE, a WRITE_REG of any register by its address, comes to what the register's block
answers (R100): a write to a read-only block changes nothing (R7), STORE_UPD_CFG takes TRIAL_T (R554), HOST_MACm_IP its word (R431), and
LOOM_PWR_LIMIT takes a value in its range and keeps the old one otherwise (R630). -/
def Obligations.NetworkRegisterRowsComplete : Prop :=
  (∀ (e j : Nat) (v : Word) (r : Req) (s : State), e < 2048 → j < 4 →
    let r' := regReq (0xB8000 + 0x10 * e + 4 * j) v r
    let a := atRun infoWriteReg r' s
    let u := modGw (fun x => { x with routes := x.routes.set (4 * e + j) v.toNat }) a
    ready infoWriteReg r' s = true → groupOff 0x06 a = false → routeOk (routeAt e u) = true →
    exec (.routeEntryWrite e j v r) s = .next (doneWith infoWriteReg r' s [] u)) ∧
  (∀ (i : Nat) (win : Bool) (v : Word) (r : Req) (s : State), i < 16 →
    let r' := regReq (0xAC100 + 8 * i + 4 * b2n win) v r
    let a := settleTrig i (atRun infoWriteReg r' s)
    let old := trigWords (nth a.can.trigs i)
    let c := if win then old.1 else v &&& 0xBFEFFFFF
    let w := if win then v &&& 0xFFFF else old.2
    ready infoWriteReg r' s = true → fld 29 27 c ≤ 6 → w ≠ 0 → trigFits a.can.nt.cycleT c = true →
    exec (.canTrigWrite i win v r) s = .next (doneWith infoWriteReg r' s [] (modTrig i (fun x => { x with next := some (c, w, a.now) }) a))) ∧
  (∀ (n j : Nat) (v : Word) (r : Req) (s : State), n < 64 → j < 4 →
    let r' := regReq (0xAD000 + 0x10 * n + 4 * j) v r
    let a := atRun infoWriteReg r' s
    let new := writeFields [rw 22 22, rw 21 16, rwIn 14 12 1 4, rwIn 11 8 3 8, rw 5 5, rw 4 4, rwIn 3 0 0 11] (canAuth n a).cfg v
    let slot := keySlot (fld 21 16 new) a
    ready infoWriteReg r' s = true → (entryFor infoWriteReg r' s).authed = true →
      (j = 0 → bit 4 new = false →
        exec (.canAuthWrite n j v r) s = .next (doneWith infoWriteReg r' s [] (modAuth n (fun x => { x with cfg := new }) a))) ∧
      (j = 0 → bit 4 new = true → a.keys.state = .ready → slot.occupied = true → slot.purpose = 3 →
        exec (.canAuthWrite n j v r) s =
          .next (doneWith infoWriteReg r' s [] (modAuth n (fun x =>
            let held := bit 4 (canAuth n a).cfg && fld 21 16 (canAuth n a).cfg == fld 21 16 new
            { x with cfg := new, gen := if held then x.gen else slot.gen }) a))) ∧
      (j = 1 → exec (.canAuthWrite n j v r) s = .next (doneWith infoWriteReg r' s [] (modAuth n (fun x =>
        { x with id := writeFields [rwIn 31 30 0 2, rw 29 29, rw 28 0] x.id v }) a))) ∧
      (2 ≤ j → exec (.canAuthWrite n j v r) s = .next (doneWith infoWriteReg r' s [] a))) ∧
  (∀ (v : Word) (r : Req) (s : State),
    let r' := regReq 0x100008 v r
    ready infoWriteReg r' s = true →
    exec (.rootSelectWrite v r) s = .next (doneWith infoWriteReg r' s []
      (selectRoot (bit 0 v) (modClk (fun c => { c with pref := bit 1 v }) (atRun infoWriteReg r' s))))) ∧
  (∀ (v : Word) (r : Req) (s : State),
    let r' := regReq 0x100204 v r
    let u := modClk (fun c => { c with regVcore := fld 4 0 v }) (atRun infoWriteReg r' s)
    ready infoWriteReg r' s = true → fld 4 0 v ≤ 18 →
    exec (.vcoreSetWrite v r) s = .next (doneWith infoWriteReg r' s [] (pushReg (vcoreRequest u) u))) ∧
  (∀ (k : Nat) (r : Req) (s : State), k < 12 →
    let r' : Req := { r with object := word (0xA0024 + 0x1000 * k), payload := [] }
    let a := atRun infoReadReg r' s
    ready infoReadReg r' s = true →
    exec (.errcapRead k r) s = .next (doneWith infoReadReg r' s [(canCtl k a).errCap] (modCtl k (fun c => { c with errCap := 0 }) a))) ∧
  (∀ (n : Nat) (v : Word) (r : Req) (s : State), n < 2 ^ 32 →
    let r' := regReq n v r
    let w := writeReg (entryFor infoWriteReg r' s).authed false n v (atRun infoWriteReg r' s)
    ready infoWriteReg r' s = true →
    exec (.genericRegWrite n v r) s = .next (settle (entryFor infoWriteReg r' s) w.2 w.1)) ∧
  (∀ (n : Nat) (v : Word) (r : Req) (s : State), n < 2 ^ 32 → n / 0x10000 ∈ [0x00, 0x06, 0x0D, 0x11] →
    let r' := regReq n v r
    ready infoWriteReg r' s = true →
    exec (.genericRegWrite n v r) s = .next (doneWith infoWriteReg r' s [] (atRun infoWriteReg r' s))) ∧
  (∀ (v : Word) (r : Req) (s : State),
    let r' := regReq 0xE000C v r
    ready infoWriteReg r' s = true →
    exec (.genericRegWrite 0xE000C v r) s = .next (doneWith infoWriteReg r' s []
      (modStore (fun x => { x with trialT := fld 7 0 v }) (atRun infoWriteReg r' s)))) ∧
  (∀ (m : Nat) (v : Word) (r : Req) (s : State), m < 2 →
    let r' := regReq (0x10204 + 0x40 * m) v r
    ready infoWriteReg r' s = true →
    exec (.genericRegWrite (0x10204 + 0x40 * m) v r) s = .next (doneWith infoWriteReg r' s []
      (modMac m (fun x => { x with ip := v }) (atRun infoWriteReg r' s)))) ∧
  (∀ (v : Word) (r : Req) (s : State),
    let r' := regReq 0x30008 v r
    let a := atRun infoWriteReg r' s
    ready infoWriteReg r' s = true →
    exec (.genericRegWrite 0x30008 v r) s = .next (doneWith infoWriteReg r' s []
      (if fld 15 0 v ≤ 1800 then modLoom (fun l => { l with pwrLimit := setFld 15 0 (fld 15 0 v) l.pwrLimit }) a else a)))

/-- The actuator opcodes: ACT_PROFILE_SET of an idle slot sends the profile, or with KIND 0 its deletion, to the P-die (R271); ACT_FIRE of an
idle slot starts PEAK or, while its claim does not fit or another slot of its HSKEIN waits, joins the queue, and of a slot in HOLD
restarts HOLD_T (R266, R272); ACT_STOP takes a deferred slot out of the queue, whose new head starts where its claim fits, releases one in
PEAK or HOLD, and leaves any other as it is (R273); ACT_STATUS answers status, measurement and current (R274). LOAD_CLEAR_LATCH without
LATCH relearns or clears DEGRADED at once; with LATCH it sends all its bits to the P-die, and RELEARN and DEGRADED take effect with the
echo of latches that cleared (R223); LOAD_SENSE answers the sensed currents (R224); FAILSAFE_SET waits, after QUEUED, until the P-die has
stored the setting (R251). -/
def Obligations.ActuatorSenseAndFailsafeCommandsComplete : Prop :=
  (∀ (r : Req) (s : State), ready infoActProfileSet r s = true →
    let x := atRun infoActProfileSet r s
    let a := obj r
    let p := profileOf r
    (actL a x).phase = 0 → linkLive x = true →
      (p.kind = 0 →
        let q := pushCfg (.actProfile a {}) x
        exec (.actProfileSet r) s = .next (waitsWith infoActProfileSet r s (.echo q.1) false [] q.2)) ∧
      (p.kind ≠ 0 → bindValid a p x = true → fieldsValid p = true → actCurrentsValid a p x = true → clampValid a p x = true →
        let q := pushCfg (.actProfile a p) x
        exec (.actProfileSet r) s = .next (waitsWith infoActProfileSet r s (.echo q.1) false [] q.2))) ∧
  (∀ (r : Req) (s : State), ready infoActFire r s = true →
    let x := atRun infoActFire r s
    let a := obj r
    let p := (actL a x).prof
    p.kind ≠ 0 → linkLive x = true → p.skeins.any (fun k => fireBarred k x) = false →
      ((actL a x).phase = 3 → exec (.actFire r) s = .next (doneWith infoActFire r s [2] (modActL a (fun y =>
        { y with holdEnd := if p.holdT = 0 then none else some (x.now + p.holdT * 200000) }) x))) ∧
      (let u := modActL a (fun y => { y with aborted := false, deferred := false }) x
       let v := setPhase a 1 (modActL a (fun y => { y with deferred := true }) u)
       let w := bump (ctr 0x06 (8 * a + 1)) (modAct (fun y => { y with queue := y.queue ++ [a] }) v)
       (actL a x).phase = 0 → fireBudget p x = none →
        (claimFits a u = true → queued p u = false →
          exec (.actFire r) s = .next (waitsWith infoActFire r s (.echo (decidePeak a u).1) false [0] (decidePeak a u).2)) ∧
        (claimFits a u = false ∨ queued p u = true → exec (.actFire r) s = .next (doneWith infoActFire r s [1] (actEvent w.now a 2 w))))) ∧
  (∀ (r : Req) (s : State), ready infoActStop r s = true →
    let x := atRun infoActStop r s
    let a := obj r
    (actL a x).prof.kind ≠ 0 →
      ((actL a x).phase = 1 → exec (.actStop r) s = .next (doneWith infoActStop r s []
        (claimFell a (setPhase a 0 (modAct (fun y => { y with queue := y.queue.filter (fun b => b != a) }) x))))) ∧
      ((actL a x).phase = 2 ∨ (actL a x).phase = 3 → linkLive x = true → linkLive (setPhase a 4 x) = true →
        let q := pushCfg (.act a 4) (setPhase a 4 x)
        exec (.actStop r) s = .next (waitsWith infoActStop r s (.echo q.1) false [] q.2)) ∧
      ((actL a x).phase = 0 ∨ 4 ≤ (actL a x).phase → exec (.actStop r) s = .next (doneWith infoActStop r s [] x))) ∧
  (∀ (r : Req) (s : State), ready infoActStatus r s = true →
    let x := atRun infoActStatus r s
    let a := obj r
    (actL a x).prof.kind ≠ 0 →
    exec (.actStatus r) s =
      .next (doneWith infoActStatus r s [actStat a x, actMeas a x, word (skeinCur (actL a x).prof.chopper x)] x)) ∧
  (∀ (r : Req) (s : State), ready infoLoadClearLatch r s = true →
    let a := atRun infoLoadClearLatch r s
    let k := skeinOf r
    let w := arg r 0
    let v := if bit 1 w then relearn k a
      else if bit 2 w then modSkL k (fun x => { x with learn := { x.learn with degraded := false, r := x.learn.m, drift := 0 } }) a
      else a
    let more := fld 2 1 w
    let q := pushCfg (.clearLatch k more) a
    (defL k a).defined = true → onlyBits 7 w = true →
      (∀ (c : CfgOut) (t : State), c.item = .clearLatch k more → c.refused = false →
        echoed c t = clearLearn k more (echoed { c with refused := true } t)) ∧
      (bit 0 w = false → exec (.loadClearLatch r) s = .next (doneWith infoLoadClearLatch r s [] v)) ∧
      (bit 0 w = true → (defL k a).cells.any (fun n => (viewOf n a).gateStuck) = false → linkLive a = true →
        exec (.loadClearLatch r) s = .next (waitsWith infoLoadClearLatch r s (.echo q.1) false [] q.2))) ∧
  (∀ (r : Req) (s : State), ready infoLoadSense r s = true →
    let a := atRun infoLoadSense r s
    let k := skeinOf r
    let d := defL k a
    d.defined = true → linkLive a = true →
    exec (.loadSense r) s = .next (doneWith infoLoadSense r s
      (pack [(16, d.count), (0, skeinCur k a)] :: protSkeinStat k a :: d.cells.map (fun n => cellSense n a)) a)) ∧
  (∀ (r : Req) (s : State), ready infoFailsafeSet r s = true →
    let a := atRun infoFailsafeSet r s
    let k := skeinOf r
    failsafeOk k (arg r 0) (arg r 1) a = true → linkLive a = true →
    exec (.failsafeSet r) s = .next (waitsWith infoFailsafeSet r s (.failSafe k) true []
      (nvStarts k (pushCfg (.failSafe k (fld 2 0 (arg r 0)) (arg r 1)) a).2)))

/-- The lighting opcodes: DIM_SET moves a skein to its level at once or through a fade (R302); MATRIX_WRITE writes pixels of the back buffer
and MATRIX_SWAP swaps the buffers of a port that no Whorl engine owns (R303, R304); WHORL_LOAD, WHORL_RUN and WHORL_STOP (R305, R306);
DERATE_GET answers factor and temperature of a skein or a port (R307). -/
def Obligations.LightCommandsComplete : Prop :=
  (∀ (r : Req) (s : State), ready infoDimSet r s = true →
    let a := atRun infoDimSet r s
    let k := skeinOf r
    let l := fld 15 0 (arg r 0)
    let fade := fld 15 0 (arg r 1)
    (defL k a).defined = true → (defL k a).owner = 1 → (defL k a).static = false → onlyBits 0xFFFF (arg r 0) = true →
    onlyBits 0xFFFF (arg r 1) = true → bit 1 (lightSk k a).cfg = false → setPointCheck k (levelSp k l a) a = none → linkLive a = true →
    exec (.dimSet r) s = .next (waitsWith infoDimSet r s (if fade = 0 then .inForce k else .dim k) false []
      (goLevel k l fade (completeAll (.dim k) .done (fun _ => []) a)))) ∧
  (∀ (r : Req) (s : State), ready infoMatrixWrite r s = true →
    let a := atRun infoMatrixWrite r s
    let p := obj r
    let first := fld 9 0 (arg r 0)
    let count := fld 25 16 (arg r 0)
    let px := r.payload.drop 1
    let u := writePixels p (backOf p a) ((List.range count).map (fun j => (first + j, halfWord px j))) a
    1 ≤ count → count ≤ 510 → first + count ≤ 768 → px.length = ceilDiv count 2 → bit 28 (portL p a).cfg = false →
    linkLive a = true →
    exec (.matrixWrite r) s = .next (settle (entryFor infoMatrixWrite r s) (.waits (pixelEchoes p a u) []) u)) ∧
  (∀ (r : Req) (s : State), ready infoMatrixSwap r s = true →
    let a := atRun infoMatrixSwap r s
    let p := obj r
    bit 28 (portL p a).cfg = false → linkLive a = true →
    exec (.matrixSwap r) s = .next (waitsWith infoMatrixSwap r s (.swap p) (bit 0 (portL p a).cfg) [] (swapPort p (bit 0 (arg r 0)) a))) ∧
  (∀ (r : Req) (s : State), ready infoWhorlLoad r s = true →
    let a := atRun infoWhorlLoad r s
    let stop := obj r + r.payload.length
    stop ≤ 1024 →
    (a.light.engines.toList.any (fun x => (x.state == .running || x.state == .waiting) && x.low < stop && obj r ≤ x.high)) = false →
    exec (.whorlLoad r) s = .next (doneWith infoWhorlLoad r s [] (modLight (fun x =>
      { x with prog := ((List.range r.payload.length).map (fun i => (obj r + i, (arg r i).toNat))).foldl (fun t q => t.set q.1 q.2) x.prog }) a))) ∧
  (∀ (r : Req) (s : State), ready infoWhorlRun r s = true →
    let a := atRun infoWhorlRun r s
    let start := fld 9 0 (arg r 0)
    let low := fld 9 0 (arg r 1)
    let high := fld 25 16 (arg r 1)
    low ≤ start → start ≤ high → (engine (obj r) a).state ≠ .running → (engine (obj r) a).state ≠ .waiting →
    exec (.whorlRun r) s = .next (waitsWith infoWhorlRun r s (.whorl (obj r)) false []
      (modEngine (obj r) (fun _ => { state := .running, pc := start, low := low, high := high, time := a.now }) a))) ∧
  (∀ (r : Req) (s : State), ready infoWhorlStop r s = true →
    exec (.whorlStop r) s = .next (doneWith infoWhorlStop r s [] (releaseClaims (obj r) (completeAll (.whorl (obj r)) .done (fun _ => [])
      (modEngine (obj r) (fun x => { x with state := .idle, swapOf := none }) (atRun infoWhorlStop r s)))))) ∧
  (∀ (r : Req) (s : State), ready infoDerateGet r s = true →
    let a := atRun infoDerateGet r s
    let words := fun (w : Word) (f own : Nat) => [word f, pack [(8, b2n a.light.extStale), (0, derateTemp w own a)]]
    let k := obj r % 48
    let x := portL (obj r % 2) a
    (obj r < 192 → (defL k a).defined = true → (defL k a).owner = 1 → exec (.derateGet r) s =
      .next (doneWith infoDerateGet r s (words (lightSk k a).derate (lightSk k a).factor (skeinTemp k a)) a)) ∧
    (192 ≤ obj r → exec (.derateGet r) s = .next (doneWith infoDerateGet r s (words x.derate x.factor x.temp) a)))

/-- CAN_CFG takes a valid configuration: an unchanged one completes at once, MODE off stops the controller, any other starts it anew, and a
controller in bus-off recovers (R371). CAN_TX of a valid frame with room is queued, or stored in its trigger's buffer, with its handle as
the answer; under a transmit profile its authenticator is added (R351, R360, R367, R372). CAN_RX_READ answers a buffer or records of the
FIFO (R373), and CAN_FILTER_SET writes valid filters and, on a bus, waits for the first later SOF (R374). -/
def Obligations.CanCommandsComplete : Prop :=
  (∀ (r : Req) (s : State), ready infoCanCfg r s = true →
    let a := atRun infoCanCfg r s
    let e := takenEntry infoCanCfg r s
    let k := obj r
    let old := canCtl k a
    let n := canCfgOf r
    let c : CanCfg := { n with ctl := n.ctl &&& 0x0001FFF7, tdc := n.tdc &&& 0xFF7F0000 }
    let u := modCtl k (fun x => { x with cfg := c }) a
    let v := dropFrames k 3 (fun f => !c.allows (frameFmt f.w0)) (if bit 17 n.ctl then dropFrames k 3 (fun _ => true) u else u)
    let wait := fun (stop : Option Nat) (s : State) => modCtl k (fun x => { x with cfgPend := true, cfgEnd := stop }) s
    canCfgOk k n = true →
      (old.state = .busOff → c.mode = 1 → exec (.canCfg r) s = .next (waitsWith infoCanCfg r s (.can k) true []
        (wait none (modCtl k (fun x => { x with state := .recovering, boffEnd := none }) v)))) ∧
      (¬ (old.state = .busOff ∧ c.mode = 1) → lasting c = lasting old.cfg → exec (.canCfg r) s = .next (doneWith infoCanCfg r s [] v)) ∧
      (¬ (old.state = .busOff ∧ c.mode = 1) → lasting c ≠ lasting old.cfg → c.mode = 0 →
        exec (.canCfg r) s = .next (doneWith infoCanCfg r s [] (giveQueued e (stopCtl k v)))) ∧
      (¬ (old.state = .busOff ∧ c.mode = 1) → lasting c ≠ lasting old.cfg → c.mode ≠ 0 →
        exec (.canCfg r) s = .next (waitsWith infoCanCfg r s (.can k) true []
          (wait (some (mgmtStart v + 100)) (startCtl k v))))) ∧
  (∀ (r : Req) (s : State), ready infoCanTx r s = true →
    let a := atRun infoCanTx r s
    let k := obj r
    let w1 := arg r 1
    let c := canCtl k a
    let f := txFrame r
    let prof := if bit 11 w1 then none else authProfileOf k true (arg r 0) a
    let extra := (prof.map (fun n => (canAuth n a).extra)).getD 0
    let slots := frameSlots { f with data := f.data ++ List.replicate extra 0 }
    (bit 21 w1 = true ∨ c.state = .active ∨ c.state = .integrating) → (nth a.nm.chans k).phase ≠ 2 → canTxValid k r extra a = true →
    (bit 21 w1 = true ∨ (if bit 14 w1 then slotsUsed c.urgent + slots ≤ 16 else slotsUsed c.normal + slots ≤ 64)) →
      (∀ n key, prof = some n → authLoad n a = .ok key →
        let b := countLoad (fld 21 16 (canAuth n a).cfg) (.ok key) a
        let x := authSend n key f.w0 f.data b
        (bit 21 w1 = false → exec (.canTx r) s = .next (doneWith infoCanTx r s [word (canCtl k x.2).handle]
          (enqueue k (bit 14 w1) { f with data := x.1 } x.2)))) ∧
      (prof = none →
        (bit 21 w1 = false → exec (.canTx r) s = .next (doneWith infoCanTx r s [word c.handle] (enqueue k (bit 14 w1) f a))) ∧
        (bit 21 w1 = true → exec (.canTx r) s = .next (doneWith infoCanTx r s [word c.handle]
          (modTrig (fld 20 16 w1) (fun t => { t with buf := some { f with handle := c.handle } })
            (settleTrig (fld 20 16 w1) (modCtl k (fun c => { c with handle := (c.handle + 1) % 65536 }) a))))))) ∧
  (∀ (r : Req) (s : State), ready infoCanRxRead r s = true →
    let a := atRun infoCanRxRead r s
    let k := fld 11 8 r.object
    let b := fld 7 0 r.object
    let w := arg r 0
    let c := canCtl k a
    let l := takeRecords (fld 7 0 w) 1024 c.fifo;
      (b < 32 → exec (.canRxRead r) s = .next (doneWith infoCanRxRead r s
        (if (nth c.bufs b).isEmpty then List.replicate 6 0 else nth c.bufs b) (if bit 8 w then a else
          modCtl k (fun c => { c with bufNew := c.bufNew - (c.bufNew &&& 1 <<< b), bufOvr := c.bufOvr - (c.bufOvr &&& 1 <<< b) }) a))) ∧
      (b = 0xFF → fld 7 0 w ≠ 0 → exec (.canRxRead r) s = .next (doneWith infoCanRxRead r s l.flatten
        (if bit 8 w then a else modCtl k (fun c => { c with fifo := c.fifo.drop l.length }) a)))) ∧
  (∀ (r : Req) (s : State), ready infoCanFilterSet r s = true →
    let a := atRun infoCanFilterSet r s
    let k := fld 11 8 r.object
    let j := fld 5 0 r.object
    let n := (arg r 0).toNat
    let u := modCtl k (fun c =>
      { c with filters := (List.range n).foldl (fun v i => put v (j + i) (filterArg r i)) c.filters
               was := c.was ++ [(a.now, c.filters)] }) a
    1 ≤ n → n ≤ 64 → j + n ≤ 64 → ((List.range n).map (filterArg r)).all (filterOk k) = true →
      ((canCtl k a).onBus = true → exec (.canFilterSet r) s = .next (waitsWith infoCanFilterSet r s (.canFilter k a.now) false [] u)) ∧
      ((canCtl k a).onBus = false → exec (.canFilterSet r) s = .next (doneWith infoCanFilterSet r s [] u)))

/-- NT_CFG takes a valid configuration of network time (R375). NM_SLEEP_REQ withdraws a need and waits for sleep, or states it and waits for
the channel to be up (R400). NM_STATUS answers the channel's words and clears WAKE (R401). GW_ROUTE_SET writes whole entries that are
valid (R407). -/
def Obligations.NetworkCommandsComplete : Prop :=
  (∀ (r : Req) (s : State), ready infoNtCfg r s = true →
    let a := atRun infoNtCfg r s
    let old := a.can.nt
    let cfg := arg r 0 &&& 0x000711FF
    let cyc := (arg r 2).toNat
    let moved := fld 3 0 cfg != old.ctrl || cyc != old.cycleT
    let role := fld 5 4 cfg
    let n1 : CanNt :=
      { old with cfg := cfg, ref := arg r 1 &&& 0x7FFFFFFF, cycle := arg r 2, synced := old.synced && !moved && role != 2 }
    let n2 := if role = 2 then { n1 with offset := 0, slew := 0, rate := 0, last := none } else n1
    let n3 := if moved || old.role = 0 || role = 2 then ownCycle n2 a.now else n2
    fld 3 0 cfg ≤ 11 → 1 ≤ fld 18 16 cfg → 20000 ≤ cyc → cyc ≤ 200000000 →
    a.can.trigs.toList.all (fun t => trigFits cyc t.cfg && trigFits cyc ((t.next.map (fun x => x.1)).getD t.cfg)) = true →
    exec (.ntCfg r) s = .next (doneWith infoNtCfg r s [] (modNt (fun _ =>
      { n3 with sending := !groupOff 0x06 a && (role == 2 || (role == 3 && old.sending)) }) a))) ∧
  (∀ (r : Req) (s : State), ready infoNmSleepReq r s = true →
    let a := atRun infoNmSleepReq r s
    let c := obj r
    let u := modCh c (fun x => { x with need := false }) a
    let v := nmComplete c 1 2 (modCh c (fun x => { x with need := true }) a)
    let w := if (nmCh c a).need && (nmCh c v).phase != 3 then v else wakeNm c 4 v
    (nmCh c a).en = true → onlyBits 1 (arg r 0) = true →
      (bit 0 (arg r 0) = true → (nmCh c u).phase = 3 → exec (.nmSleepReq r) s = .next (doneWith infoNmSleepReq r s [1] u)) ∧
      (bit 0 (arg r 0) = true → (nmCh c u).phase ≠ 3 →
        exec (.nmSleepReq r) s = .next (waitsWith infoNmSleepReq r s (.nm (2 * c + 1)) true [] u)) ∧
      (bit 0 (arg r 0) = false → (nmCh c w).phase = 1 → exec (.nmSleepReq r) s = .next (doneWith infoNmSleepReq r s [0] w)) ∧
      (bit 0 (arg r 0) = false → (nmCh c w).phase ≠ 1 →
        exec (.nmSleepReq r) s = .next (waitsWith infoNmSleepReq r s (.nm (2 * c)) false [] w))) ∧
  (∀ (r : Req) (s : State), ready infoNmStatus r s = true →
    let a := atRun infoNmStatus r s
    let c := obj r
    let x := nmCh c a
    let t := nth a.nm.trx c
    exec (.nmStatus r) s = .next (doneWith infoNmStatus r s ([nmStat x] ++ presWords x ++ [if c < 6 then trxStat t else 0])
      (if c < 6 ∧ t.wake ∧ linkLive a then
        (pushCfg (.trx (0x20 * c + 4) 0x100) (modNm (fun n => { n with trx := upd n.trx c (fun y => { y with wake := false }) }) a)).2
      else a))) ∧
  (∀ (r : Req) (s : State), ready infoGwRouteSet r s = true →
    let a := atRun infoGwRouteSet r s
    let n := (arg r 0).toNat
    let u := modGw (fun x =>
      { x with routes := (List.range (4 * n)).foldl (fun t j => t.set (4 * obj r + j) (arg r (1 + j)).toNat) x.routes }) a
    r.payload.length = 1 + 4 * n → obj r + n ≤ 2048 → (∀ i, i < n → routeOk (routeAt (obj r + i) u) = true) →
    exec (.gwRouteSet r) s = .next (doneWith infoGwRouteSet r s [] u))

/-- KEY_PROVISION of an empty slot with a wrap that verifies stores the key and waits, after QUEUED, for the bank write (R481, R490).
KEY_DERIVE of a usable parent derives the child and completes (R491). KEY_INVALIDATE empties the slot, with its descendants where asked,
and ends the sessions that rest on it (R477, R492); an empty slot is left as it is. TRANSPORT_ROOT_RETIRE waits for the OTP (R492).
KEY_INFO answers a slot or the root (R494), and ZEROISE begins a zeroisation (R484, R495). -/
def Obligations.KeyCommandsComplete : Prop :=
  (∀ (r : Req) (s : State), ready infoKeyProvision r s = true →
    let a := atRun infoKeyProvision r s
    let w := arg r 0
    let n := obj r
    let b := (wordsToBytes r.payload).drop 4
    let size := if bit 23 w then 32 else 16
    let ct := (b.drop 12).take size
    let ses := (slotOf r.slot a).session.getD {}
    let ktk := kdf (keyBytes ses.key) (ascii "EODEN-KTK") ses.nonce 16
    let u := modKeySlot n (newSlot (fld 19 16 w) (fld 11 8 w) (gcmCtr ktk (b.take 12) ct)) (bump (ctr 0x0D 0) a)
    fieldsFit (fld 19 16 w) (fld 11 8 w) (bit 23 w) = true → r.payload.length = (if bit 23 w then 16 else 12) →
    onlyBits 0x008F0F00 w = true → hasKeys r a = true → a.weft.tamper = false → a.keys.state = .ready →
    (keySlot n a).occupied = false → (keySlot n a).gen ≠ 0xFFFF →
    gcmTag ktk (b.take 12) (bytesLE 4 w.toNat ++ bytesLE 4 n) ct = (b.drop (12 + size)).take 16 →
    exec (.keyProvision r) s = .next (waitsWith infoKeyProvision r s (.keyBank (nextKeyWrite u)) true [] (storeChange 3 n u))) ∧
  (∀ (r : Req) (s : State), ready infoKeyDerive r s = true →
    let a := atRun infoKeyDerive r s
    let w := arg r 0
    let p := obj r
    let c := fld 5 0 w
    let ll := fld 5 0 (arg r 1)
    let cl := fld 14 8 (arg r 1)
    let b := (wordsToBytes r.payload).drop 8
    let par := keySlot p a
    let old := keySlot c a
    let key := kdf par.key (b.take ll) ((b.drop (padded ll)).take cl) (if bit 23 w then 32 else 16)
    let slot := { newSlot (fld 19 16 w) (fld 27 24 w) key old with
      derived := true, parent := p, depth := par.depth + 1, pgen := par.gen, gen := old.gen + b2n old.occupied }
    p ≠ c → fieldsFit (fld 19 16 w) (fld 27 24 w) (bit 23 w) = true → 1 ≤ ll → ll ≤ 32 → cl ≤ 64 →
    4 * r.payload.length = 8 + padded ll + padded cl → onlyBits 0x0F8F003F w = true → par.depth ≤ 3 → hasKeys r a = true →
    a.weft.tamper = false → a.keys.state = .ready → par.occupied = true → par.purpose = 1 → stale p a = false →
    (old.occupied = false ∨ stale c a = true) → old.gen ≠ 0xFFFF →
    exec (.keyDerive r) s = .next (doneWith infoKeyDerive r s []
      (storeChange 4 c (endDeadSessions none (modKeySlot c (fun _ => slot) (countLoad p (.ok []) a)))))) ∧
  (∀ (r : Req) (s : State), ready infoKeyInvalidate r s = true → obj r < 64 → onlyBits 1 (arg r 0) = true →
    let a := atRun infoKeyInvalidate r s
    let n := obj r
    let more := if bit 0 (arg r 0) then (descendants a.keys.slots 4 [n]).eraseDups else []
    let u := endDeadSessions (some (r.slot, r.tag)) ((n :: more).foldl (fun s m => modKeySlot m emptied s) a)
    hasKeys r a = true → a.keys.state = .ready →
      ((keySlot n a).occupied = false → exec (.keyInvalidate r) s = .next (doneWith infoKeyInvalidate r s [] a)) ∧
      ((keySlot n a).occupied = true → exec (.keyInvalidate r) s =
        .next (waitsWith infoKeyInvalidate r s (.keyBank (nextKeyWrite u)) true [] (storeChange 2 n u)))) ∧
  (∀ (r : Req) (s : State),
    let r' : Req := { r with object := 0x40 }
    let a := atRun infoKeyInvalidate r' s
    ready infoKeyInvalidate r' s = true → arg r 0 = 0x52455449 → hasKeys r' a = true →
    exec (.transportRootRetire r) s = .next (waitsWith infoKeyInvalidate r' s .otp true []
      { a with otp := { a.otp with pend := a.otp.pend ++ [0] } })) ∧
  (∀ (r : Req) (s : State), ready infoKeyInfo r s = true →
    let a := atRun infoKeyInfo r s
    let n := obj r
    let x := keySlot n a
    (n = 64 → exec (.keyInfo r) s = .next (doneWith infoKeyInfo r s (rootStat a :: natToWords 2 Config.uid.toNat) a)) ∧
    (n < 64 → exec (.keyInfo r) s = .next (doneWith infoKeyInfo r s
      [slotInfo n a, slotGen n a, if x.occupied && !stale n a then x.kcv else 0] a))) ∧
  (∀ (r : Req) (s : State), ready infoZeroise r s = true → arg r 0 = 0x5A45524F →
    let a := atRun infoZeroise r s
    hasKeys r a = true → a.keys.state = .ready →
    exec (.zeroise r) s = .next (waitsWith infoZeroise r s .erase false [] (startZeroise 2 (some (r.slot, r.tag)) a)))

/-- The rows of CRYPTO_OP (R493): the operations under a key whose slot loads for their purpose answer their words, and count the load and the
operation (R475); SHA-256 answers as its STEP says, ECDSA_VERIFY whether the signature fails, and RANDOM free bytes (log entry 2). -/
def Obligations.CryptoCommandsComplete : Prop :=
  (∀ (r : Req) (s : State) (key : List Byte),
    let r' := withOp 1 r
    let a := atRun infoCryptoOp r' s
    ready infoCryptoOp r' s = true → cryptoValid r' a = true → loadCheck (obj r) 5 none a = .ok key →
    exec (.encrypt r) s = .next (doneWith infoCryptoOp r' s (byteWords (encryptWith key (cryptoArgs r').mode (cryptoData r')))
      (bump (ctr 0x0D 2) (countLoad (obj r) (.ok key) a)))) ∧
  (∀ (r : Req) (s : State) (key : List Byte),
    let r' := withOp 2 r
    let a := atRun infoCryptoOp r' s
    ready infoCryptoOp r' s = true → cryptoValid r' a = true → loadCheck (obj r) 6 none a = .ok key →
    exec (.decrypt r) s = .next (doneWith infoCryptoOp r' s (decryptWith key (cryptoArgs r').mode (cryptoData r'))
      (bump (ctr 0x0D 2) (countLoad (obj r) (.ok key) a)))) ∧
  (∀ (r : Req) (s : State) (key : List Byte),
    let r' := withOp 3 r
    let a := atRun infoCryptoOp r' s
    ready infoCryptoOp r' s = true → cryptoValid r' a = true → loadCheck (obj r) 7 none a = .ok key →
    exec (.macGen r) s = .next (doneWith infoCryptoOp r' s (byteWords (cmac key ((cryptoData r').getD 0 [])))
      (bump (ctr 0x0D 2) (countLoad (obj r) (.ok key) a)))) ∧
  (∀ (r : Req) (s : State) (key : List Byte),
    let r' := withOp 4 r
    let a := atRun infoCryptoOp r' s
    ready infoCryptoOp r' s = true → cryptoValid r' a = true → loadCheck (obj r) 8 none a = .ok key →
    exec (.macVer r) s = .next (doneWith infoCryptoOp r' s [word (b2n ((cmac key ((cryptoData r').getD 0 [])).take (cryptoArgs r').tagLen != (cryptoData r').getD 1 []))]
      (bump (ctr 0x0D 2) (countLoad (obj r) (.ok key) a)))) ∧
  (∀ (r : Req) (s : State),
    let r' := withOp 5 r
    let a := atRun infoCryptoOp r' s
    let x := shaOp r.slot (cryptoArgs r').step ((cryptoData r').getD 0 []) a
    ready infoCryptoOp r' s = true → cryptoValid r' a = true →
    exec (.sha256 r) s = .next (doneWith infoCryptoOp r' s x.2 (bump (ctr 0x0D 2) x.1))) ∧
  (∀ (r : Req) (s : State),
    let r' := withOp 6 r
    let a := atRun infoCryptoOp r' s
    let f := fun (i : Nat) => (cryptoData r').getD i []
    let ok := ecdsaVerify (f 0) (natBE ((f 2).take 32)) (natBE ((f 2).drop 32)) (natBE ((f 1).take 32)) (natBE ((f 1).drop 32))
    ready infoCryptoOp r' s = true → cryptoValid r' a = true →
    exec (.ecdsaVerify r) s = .next (doneWith infoCryptoOp r' s [word (b2n (!ok))] (bump (ctr 0x0D 2) a))) ∧
  (∀ (r : Req) (s : State),
    let r' := withOp 7 r
    let a := atRun infoCryptoOp r' s
    let x := freeBytes (cryptoArgs r').data a
    ready infoCryptoOp r' s = true → cryptoValid r' a = true → a.keys.trngFail = false →
    exec (.random r) s = .next (doneWith infoCryptoOp r' s (byteWords x.1) (bump (ctr 0x0D 2) x.2)))

/-- The rows of CFG_WRITE, whose records pass their checks: OBJECT 0 merges into the working copy's write, 1 and 2 fill the staging, 3
replaces the whole configuration by it, 4 writes the live items of some classes (R534, R633); the writes wait, after QUEUED, for their
bank write. CFG_READ answers the matching records, or waits until no bank write is in progress (R535). -/
def Obligations.ConfigCommandsComplete : Prop :=
  (∀ (r : Req) (l : List CfgRec) (s : State),
    let stage := fun (base : List CfgRec) (l : List CfgRec) => l.foldl mergeRec base
    let r' : Req := { r with object := 0 }
    let a := atRun infoCfgWrite r' s
    ready infoCfgWrite r' s = true →
    cfgChecks (parseRecs r.payload.length r.payload) (fun l => bankBytes (stage (workRecs a) l)) true = .ok l →
    exec (.cfgWriteMerge r) s =
      .next (waitsWith infoCfgWrite r' s (.cfgBank (a.store.writes + 1)) true [] (pushEdit { recs := l } a))) ∧
  (∀ (r : Req) (l : List CfgRec) (s : State),
    let stage := fun (base : List CfgRec) (l : List CfgRec) => l.foldl mergeRec base
    let r' : Req := { r with object := 1 }
    let a := atRun infoCfgWrite r' s
    ready infoCfgWrite r' s = true →
    cfgChecks (parseRecs r.payload.length r.payload) (fun l => bankBytes (stage [] l)) true = .ok l →
    exec (.cfgWriteStageNew r) s =
      .next (doneWith infoCfgWrite r' s [] (modStore (fun x => { x with staging := stage [] l, staged := true }) a))) ∧
  (∀ (r : Req) (l : List CfgRec) (s : State),
    let stage := fun (base : List CfgRec) (l : List CfgRec) => l.foldl mergeRec base
    let r' : Req := { r with object := 2 }
    let a := atRun infoCfgWrite r' s
    ready infoCfgWrite r' s = true →
    cfgChecks (parseRecs r.payload.length r.payload) (fun l => bankBytes (stage a.store.staging l)) true = .ok l →
    exec (.cfgWriteStageAdd r) s =
      .next (doneWith infoCfgWrite r' s [] (modStore (fun x => { x with staging := stage a.store.staging l }) a))) ∧
  (∀ (r : Req) (l : List CfgRec) (s : State),
    let stage := fun (base : List CfgRec) (l : List CfgRec) => l.foldl mergeRec base
    let r' : Req := { r with object := 3 }
    let a := atRun infoCfgWrite r' s
    let all := stage a.store.staging l
    ready infoCfgWrite r' s = true →
    cfgChecks (parseRecs r.payload.length r.payload) (fun l => bankBytes (stage a.store.staging l)) a.store.staged = .ok l →
    exec (.cfgWriteReplace r) s = .next (waitsWith infoCfgWrite r' s (.cfgBank (a.store.writes + 1)) true []
      (pushEdit { clear := 0xFFFF, recs := all } (modStore (fun x => { x with staging := all }) a)))) ∧
  (∀ (r : Req) (s : State),
    let r' : Req := { r with object := 4 }
    let a := atRun infoCfgWrite r' s
    let m := (arg r 0).toNat
    let e : CfgEdit := { clear := m, recs := ((List.range 15).map (fun c => if m.testBit c then liveRecs c a else [])).flatten }
    ready infoCfgWrite r' s = true → r.payload.length = 1 → m &&& 0x7FFE = m → m ≠ 0 → bankBytes (e.apply (workRecs a)) ≤ 131072 →
    exec (.cfgWriteLive r) s = .next (waitsWith infoCfgWrite r' s (.cfgBank (a.store.writes + 1)) true [] (pushEdit e a))) ∧
  (∀ (r : Req) (s : State), ready infoCfgRead r s = true →
    let a := atRun infoCfgRead r s
    (a.store.writing = none →
      exec (.cfgRead r) s = .next (doneWith infoCfgRead r s (cfgReadWords r.object (arg r 0).toNat a) a)) ∧
    (a.store.writing.isSome = true → exec (.cfgRead r) s = .next (waitsWith infoCfgRead r s .bankIdle true [] a)))

/-- The update opcodes, of the session's holder or of a new one: UPDATE_BEGIN opens the session with the descriptor (R542), UPDATE_BLOCK
stores a block, unless its read-back, a free value, fails it (R543, log entry 2), or waits for a bank write in progress, UPDATE_VERIFY
starts the re-reading (R544), UPDATE_COMMIT the handover's writes, in recovery those of the restart into the image (R546, R601),
UPDATE_ABORT ends the session or reverts the trial (R545), UPDATE_CONFIRM confirms the trial (R551). -/
def Obligations.UpdateCommandsComplete : Prop :=
  (∀ (r : Req) (s : State), ready infoUpdateBegin r s = true → r.object = 0 →
    let a := checkHolder (atRun infoUpdateBegin r s)
    let d := descOf r.payload
    let u := modFw (otherBank a) (fun _ => { desc := some d }) a
    a.store.upd.state = 0 → descFormOk r.payload = true → descFits d a = true → descSigned r.payload = true → a.otp.floor ≤ d.arb →
    exec (.updateBegin r) s = .next (doneWith infoUpdateBegin r s [] (bump (ctr 0x0E 2) (modUpd (fun _ =>
      { state := 1, slot := r.slot, held := true, idleEnd := mgmtStart u + 6000, ends := (slotOf r.slot u).ends }) u)))) ∧
  (∀ (r : Req) (s : State), ready infoUpdateBlock r s = true →
    let a := atRun infoUpdateBlock r s
    let b := checkHolder a
    let ws := args r 1 128
    let c : State := { b with free := b.free + 1 }
    let d := modFw (otherBank c) (fun x =>
      { x with blocks := putBlock (obj r) ws x.blocks, checks := x.checks.set (obj r) (arg r 0).toNat }) c
    b.store.upd.state = 1 → holds r.slot b = true → obj r < (bankDesc (otherBank b) b).nblk → crc32c (wordsToBytes ws) = arg r 0 →
      (bankWrites b = true → exec (.updateBlock r) s = .next (waitsWith infoUpdateBlock r s .bankIdle true [] b)) ∧
      (bankWrites b = false → exec (.updateBlock r) s = .next (
        if Config.blockWritten b.free then doneWith infoUpdateBlock r s [] (bump (ctr 0x0E 3) (modUpd (fun u =>
          { u with got := if u.got.contains (obj r) then u.got else u.got ++ [obj r] }) d))
        else complete (entryFor infoUpdateBlock r s) .storeFail [] c))) ∧
  (∀ (r : Req) (s : State), ready infoUpdateVerify r s = true →
    let a := checkHolder (atRun infoUpdateVerify r s)
    a.store.upd.state = 1 → holds r.slot a = true → missingBlock a = none →
    exec (.updateVerify r) s = .next (waitsWith infoUpdateVerify r s (.update 0) true [] (modUpd (fun u => { u with op := some .verify }) a))) ∧
  (∀ (r : Req) (s : State), ready infoUpdateCommit r s = true →
    let a := checkHolder (atRun infoUpdateCommit r s)
    let u := modUpd (fun u => { u with state := 3, op := some .fallbackCopy, recovery := a.ldie == .recovery }) a
    a.store.upd.state = 2 → holds r.slot a = true →
      exec (.updateCommit r) s = .next (waitsWith infoUpdateCommit r s (.update 1) true [] u) ∧
      (s.ldie = .recovery → exec (.recoveryUpdateCommit r) s = .next (waitsWith infoUpdateCommit r s (.update 1) true [] u))) ∧
  (∀ (r : Req) (s : State), ready infoUpdateAbort r s = true →
    let a := checkHolder (atRun infoUpdateAbort r s)
    (a.store.upd.state = 0 → exec (.updateAbort r) s = .next (doneWith infoUpdateAbort r s [] a)) ∧
    (a.store.upd.state = 1 ∨ a.store.upd.state = 2 → holds r.slot a = true →
      exec (.updateAbort r) s = .next (doneWith infoUpdateAbort r s [] (endUpdate 2 a))) ∧
    (a.store.upd.state = 4 → a.store.boot.trial = true →
      exec (.updateAbort r) s = .next (waitsWith infoUpdateAbort r s (.update 3) false [] (revert 1 a)))) ∧
  (∀ (r : Req) (s : State), ready infoUpdateConfirm r s = true →
    let a := atRun infoUpdateConfirm r s
    a.store.upd.state = 4 → a.store.boot.trial = true → a.store.upd.op = none →
    exec (.updateConfirm r) s = .next (waitsWith infoUpdateConfirm r s (.update 2) true [] (modUpd (fun u => { u with op := some .bootConfirm }) a)))

/-- The fault opcodes: FAULT_STATUS answers the collector's words (R460), FAULT_ACK clears class states, records and sticky bits as its word
says (R461), FAULT_CAPTURE_READ answers a record (R462), FAULT_REACTION_SET sets a reaction (R463), and FAULT_INJECT, where injection is
enabled, leaves the fault to its row, or arms the injection in the hardware (R464). The snapshot and counter opcodes: SNAP_TAKE of a free
set holds it, fixes its latch tick and waits for the latch, with QUEUED where it lies more than 1 ms off (R108, R109); SNAP_READ and
COUNTER_READ answer counters (R111), of a set that never latched free words (log entry 79), SNAP_RELEASE frees a set (R111). -/
def Obligations.FaultAndSnapshotCommandsComplete : Prop :=
  (∀ (r : Req) (s : State), ready infoFaultStatus r s = true →
    let a := atRun infoFaultStatus r s
    exec (.faultStatus r) s = .next (doneWith infoFaultStatus r s
      (faultStat a :: (List.range 5).map (fun c => clsStat (clsOf c a)) ++ a.faults.sticky.toList) a)) ∧
  (∀ (r : Req) (s : State), ready infoFaultAck r s = true → onlyBits 0x11F1F (arg r 0) = true →
    let w := arg r 0
    let u := (List.range 5).foldl (fun s c =>
      let s := if bit c w && c < 3 then modCls c (fun x => { x with active := false }) s else s
      if bit (8 + c) w then modCls c (fun x => { x with cap := {} }) s else s) (atRun infoFaultAck r s)
    exec (.faultAck r) s = .next (doneWith infoFaultAck r s []
      (if bit 16 w then modFaults (fun f => { f with sticky := Vector.replicate 18 0 }) u else u))) ∧
  (∀ (r : Req) (s : State), ready infoFaultCaptureRead r s = true →
    let a := atRun infoFaultCaptureRead r s
    exec (.faultCaptureRead r) s = .next (doneWith infoFaultCaptureRead r s (capWords (clsOf (obj r) a).cap) a)) ∧
  (∀ (r : Req) (s : State), ready infoFaultReactionSet r s = true → reactionOk (obj r) (arg r 0) = true →
    exec (.faultReactionSet r) s = .next (doneWith infoFaultReactionSet r s []
      (setReaction (obj r) (arg r 0) (atRun infoFaultReactionSet r s)))) ∧
  (∀ (r : Req) (s : State), ready infoFaultInject r s = true →
    let a := atRun infoFaultInject r s
    let w := arg r 0
    bit 0 a.faults.ctl = true → (srcInfo (obj r)).isSome = true →
      (bit 8 w = false → exec (.faultInject r) s = .next (doneWith infoFaultInject r s []
        (modFaults (fun f => { f with inject := f.inject ++ [(obj r, fld 7 0 w)] }) a))) ∧
      (bit 8 w = true → obj r = 0x003 → exec (.faultInject r) s =
        .next (doneWith infoFaultInject r s [] (modSpindle (fun x => { x with injCe := true }) a))) ∧
      (bit 8 w = true → obj r = 0x040 → a.split = false → exec (.faultInject r) s =
        .next (doneWith infoFaultInject r s [] (modSpindle (fun x => { x with injMismatch := true }) a)))) ∧
  (∀ (r : Req) (s : State), ready infoSnapTake r s = true →
    let n := obj r % 4
    let chain := r.object.getLsbD 8
    let t0 := (arrived r s).now
    let t := latchTick t0 r
    let e : Entry := { entryFor infoSnapTake r s with data := word 0 :: natToWords 2 t }
    let a := modEntry e (fun x => { x with stage := .taken }) (modEntry e (fun x => { x with data := word 0 :: natToWords 2 t })
      (modSet n (fun _ => { held := true, pending := true, chain := chain, tick := t }) (heldAt infoSnapTake r s)))
    let u := if chain && (plyOf 1 a).state == .up && !(plyOf 1 a).orderErr then
      modChainSt (fun c => { c with sentMark := some (n, t) }) a else a
    let v := modSet n (fun x => { x with armed := true }) u
    t < 2 ^ 64 → t0 + snapLead chain ≤ t → t ≤ t0 + 200000000 → (reelSet n (heldAt infoSnapTake r s)).held = false →
    exec (.snapTake r) s = .next (settle e (.wait (.latch n t) (t0 + 200000 < t) (natToWords 2 t)) v)) ∧
  (∀ (r : Req) (s : State), ready infoSnapRead r s = true →
    let a := atRun infoSnapRead r s
    let x := reelSet (obj r) a
    x.held = true → countArgs r = true → setPending x a = false →
      (x.pending = false → exec (.snapRead r) s =
        .next (doneWith infoSnapRead r s (counterWords x.counters.get (arg r 0).toNat (arg r 1).toNat) a)) ∧
      (x.pending = true → exec (.snapRead r) s = .next (doneWith infoSnapRead r s
        (freeWords (arg r 1).toNat a).1 (freeWords (arg r 1).toNat a).2))) ∧
  (∀ (r : Req) (s : State), ready infoSnapRelease r s = true →
    let a := atRun infoSnapRelease r s
    setPending (reelSet (obj r) a) a = false →
    exec (.snapRelease r) s = .next (doneWith infoSnapRelease r s [] (releaseSet (obj r) a))) ∧
  (∀ (r : Req) (s : State), ready infoCounterRead r s = true → countArgs r = true →
    let a := atRun infoCounterRead r s
    exec (.counterRead r) s =
      .next (doneWith infoCounterRead r s (counterWords (fun i => counterValue i a) (arg r 0).toNat (arg r 1).toNat) a))

/-- A step takes the command at the front of the queue and is that command's effect on the state with the queue's rest. On an empty queue the
block idles, which is the model's choice (log entry 3). -/
def Obligations.StepRunsFrontCommand : Prop :=
  (∀ (c : Instr) (rest : List Instr) (s : State), step { s with pending := c :: rest } = exec c { s with pending := rest }) ∧
  (∀ s : State, s.pending = [] → step s = .next s)

/-- Every register for which the spec states a whole reset value reads that value at reset: SYS_ID and the slot registers (R2, R104), then
block by block the register tables of the chapters; of a register that has an index, the first one. -/
def Obligations.RegistersResetAsSpec : Prop := ∀ p ∈ 
  ([(0x0, 0x96600B00), (0x10000, 0x1), (0x10010, 0x100), (0x10020, 0x0), (0x10030, 0x3), (0x1000C, 0x1), (0x1001C, 0x100),
   (0x1002C, 0x0), (0x1003C, 0x3)] ++
  [(0x10104, 0x40000000), (0x10200, 0xA3E80000), (0x10204, 0x0), (0x10210, 0x0), (0x10214, 0x0), (0x10300, 0x0),
   (0x10304, 0x0), (0x10308, 0x0), (0x1030C, 0x0), (0x10310, 0x0), (0x10400, 0x0)] ++
  [(0x20004, 0x14), (0x20008, 0x0), (0x2000C, 0x0), (0x20010, 0x0)] ++
  [(0x30000, 0x3), (0x30004, 0x0), (0x30008, 0x708), (0x3000C, 0x0), (0x30010, 0xA08C), (0x31000, 0x190), (0x31004, 0x0),
   (0x31008, 0x0), (0x3100C, 0x3E80000), (0x32000, 0x0), (0x32004, 0x14), (0x32008, 0x0)] ++
  [(0x40000, 0xFF0400), (0x40004, 0x0), (0x40008, 0x0), (0x4000C, 0x0), (0x40010, 0x0), (0x42000, 0x0), (0x42004, 0x0),
   (0x42008, 0x0), (0x4200C, 0x40000000), (0x42010, 0x0), (0x42014, 0x20000), (0x42018, 0x0), (0x4201C, 0x0),
   (0x43000, 0x232807D0), (0x43004, 0x0), (0x43100, 0x3A98), (0x43104, 0x0)] ++
  [(0x50000, 0x7), (0x50004, 0xA07), (0x50008, 0x6), (0x51000, 0xC83018), (0x51004, 0xA0400), (0x51008, 0x438F0401),
   (0x5100C, 0x0), (0x52000, 0x4B00190), (0x52004, 0x0), (0x54000, 0x0), (0x54004, 0x0), (0x54008, 0x0)] ++
  [(0x60000, 0x0), (0x61000, 0x0), (0x61004, 0x0), (0x61008, 0x0), (0x6100C, 0x0), (0x61010, 0x0), (0x61014, 0x0),
   (0x61018, 0x0), (0x6101C, 0x0)] ++
  [(0x70004, 0x3E8000), (0x70008, 0x12CA082), (0x7000C, 0x0), (0x70010, 0x0), (0x70014, 0x0), (0x70018, 0x0), (0x7001C, 0x0),
   (0x70040, 0x0), (0x70200, 0x0), (0x70300, 0x100), (0x71000, 0x0), (0x71004, 0x3E80000), (0x71008, 0x12CA082),
   (0x72000, 0x0), (0x72004, 0x0)] ++
  [(0x80000, 0xA), (0x80004, 0x0), (0x80008, 0x140014), (0x8000C, 0x0), (0x80010, 0x0), (0x80014, 0x0), (0x80018, 0x0),
   (0x80020, 0x0), (0x80024, 0x0), (0x80028, 0x0), (0x81000, 0x3E80000), (0x82000, 0x4), (0x82004, 0x0), (0x82008, 0x0),
   (0x8200C, 0x0), (0x82010, 0x0)] ++
  [(0x90000, 0x640000), (0x90004, 0x0), (0x90008, 0x0), (0x9000C, 0x0)] ++
  [(0xA0000, 0x0), (0xA0004, 0x401000), (0xA0008, 0x0), (0xA000C, 0x0), (0xA0010, 0x0), (0xA0014, 0x0), (0xA0018, 0x0),
   (0xA001C, 0x0), (0xA0020, 0x0), (0xA0024, 0x0), (0xA0028, 0x0), (0xA002C, 0x0), (0xA0030, 0x0), (0xA0100, 0x0),
   (0xA0104, 0x0), (0xA0108, 0x0), (0xAC000, 0x30000), (0xAC004, 0x0), (0xAC008, 0xF4240), (0xAC00C, 0x0), (0xAC010, 0x0),
   (0xAC014, 0x0), (0xAC018, 0x0), (0xAC100, 0x0), (0xAC104, 0x64), (0xAD000, 0x1400), (0xAD004, 0x0), (0xAD008, 0x0),
   (0xAD00C, 0x0)] ++
  [(0xB0000, 0x1820), (0xB0004, 0x3), (0xB0008, 0x0), (0xB000C, 0x0), (0xB0010, 0x0), (0xB0014, 0x0), (0xB1000, 0x0),
   (0xB1004, 0x140064), (0xB1008, 0x10008), (0xB100C, 0x0), (0xB1010, 0x0), (0xB2000, 0xA3E90000), (0xB2004, 0x0),
   (0xB2008, 0x0), (0xB8000, 0x0), (0xB8004, 0x0), (0xB8008, 0x0), (0xB800C, 0x0)] ++
  [(0xC0000, 0xFF00000), (0xC0004, 0x1400900), (0xC0008, 0x203C0040), (0xC000C, 0x50003), (0xC0010, 0x0), (0xC0100, 0x0),
   (0xC0104, 0xFFFF0000), (0xC0200, 0x0), (0xC0204, 0x0), (0xC0208, 0xFFFF0000), (0xC0300, 0x0), (0xC0304, 0x10000),
   (0xC0400, 0x0), (0xC0404, 0x0)] ++
  [(0xD0000, 0x0), (0xD000C, 0x0)] ++
  [(0xE000C, 0x0), (0xE001C, 0x0)] ++
  [(0xF0000, 0x0), (0xF0004, 0x70000), (0xF0030, 0x0), (0xF0100, 0x0), (0xF0200, 0x0)] ++
  [(0x100000, 0x4), (0x100004, 0x1), (0x100008, 0x0), (0x10000C, 0x71E000A), (0x100010, 0x0), (0x100014, 0x0),
   (0x100100, 0x700), (0x100104, 0xF), (0x100108, 0x0), (0x10010C, 0x55), (0x100110, 0x0), (0x100200, 0x42414094),
   (0x100204, 0x9), (0x100208, 0x0)] : List (Nat × Word)), readReg p.1 State.reset = some p.2

/-- The invariant of the block: DEVICE_ID is 0 to 3 (R36), and every command that waits is well formed. -/
def Obligations.InvariantAtReset : Prop := State.reset.Inv

/-- Every step keeps the invariant: the straps give a device ID of 0 to 3 whenever they are sampled, and no command puts an ill-formed command
into the queue. -/
def Obligations.EveryStepKeepsInvariant : Prop := Kept State.Inv

/-- Only an L-die power-on and RSTN sample the straps: every other command leaves DEVICE_ID, SPLIT and BOOTSEL as sampled, and leaves the
waiting commands alone; so do an L3 chip reset and a warm restart (R49). The two that sample leave the queue alone too. -/
def Obligations.StrapsHoldBetweenResets : Prop :=
  (∀ (c : Instr) (s t : State), samples c = false → exec c s = .next t → t.fixed = s.fixed) ∧
  (∀ (c : Instr) (s t : State), exec c s = .next t → t.pending = s.pending)

/-- Only the key commands, the steps of the stores and of zeroisation, the commands that carry out a waiting host command, and the resets,
restores and adoptions change the key store or the OTP. No register write, no other opcode, no frame of a link and no event of a pin does.
-/
def Obligations.KeysChangeOnlyByKeySteps : Prop :=
  ∀ (c : Instr) (s t : State), keyStep c = false → exec c s = .next t → t.keys = s.keys ∧ t.otp = s.otp

/-- A query, a session command, a snapshot command or a cryptographic operation changes nothing but the host side (its slots, commands in
flight, output and snapshot sets), counters, the clocks and the count of free values; so do the steps of the host ports. The host commands
among them leave the other slots alone. -/
def Obligations.QueriesChangeHostSideOnly : Prop :=
  (∀ (c : Instr) (s t : State), (queryOrSession c || portStep c) = true → exec c s = .next t → t.besidesHost = s.besidesHost) ∧
  (∀ (c : Instr) (o : OpInfo) (r : Req) (s t : State) (n : Nat), queryOrSession c = true → hostRow c = some (o, r) →
    exec c s = .next t → n ≠ r.slot → slotOf n t = slotOf n s)

/-- What the P-die does for itself (its trips, ladders, timers, matrix frames, debounced pins, transceivers and hold-over) changes nothing on
the L-die but counters and the clocks: the L-die learns of it by up frames alone. -/
def Obligations.PDieStepsStayOnPDie : Prop :=
  ∀ (c : Instr) (s t : State), pdieStep c = true → exec c s = .next t → t.besidesPDie = s.besidesPDie

/-- A command or step of the Loom planner changes nothing but the planner's side, the host side, counters and the clocks: above all the cells
themselves, on the P-die, move only when a frame carries the change. LOAD_SET, BRIDGE_SET, SKEIN_DEFINE, LOOM_ROTATE_CFG and LOOM_PIN
leave every other skein alone; SHED_LIFT, which reports, changes nothing else but the fault collector, the framer's queue and the L-die's
condition. -/
def Obligations.LoadCommandsStayInPlanner : Prop :=
  (∀ (c : Instr) (s t : State), loomStep c = true → exec c s = .next t → t.besidesLoom = s.besidesLoom) ∧
  (∀ (c : Instr) (r : Req) (s t : State) (j : Nat),
    (c = .loadSet r ∨ c = .bridgeSet r ∨ c = .skeinDefine r ∨ c = .loomRotateCfg r ∨ c = .loomPin r) →
    exec c s = .next t → j ≠ skeinOf r → skL j t = skL j s) ∧
  (∀ s t : State, exec .shedLift s = .next t → { t.besidesReports with loom := {} } = { s.besidesReports with loom := {} })

/-- The commands and steps of the configuration, firmware and key stores, of ranging and of fault acknowledgement that end there change no
output, no link, no CAN controller, no clock and no core: nothing but the stores, OTP, the ranging unit, the fault collector, the host
side, counters, the clocks and the count of free values. -/
def Obligations.StoreStepsStayInStores : Prop :=
  ∀ (c : Instr) (s t : State), storeStep c = true → exec c s = .next t → t.besidesStores = s.besidesStores

/-- The commands and steps of the CAN controllers and of network management that end there change nothing but the controllers, the channels,
the gateway, the P-die's transceivers, the framer's queue to it, the host side, counters, the clocks and the count of free values. -/
def Obligations.CanStepsStayInCan : Prop :=
  ∀ (c : Instr) (s t : State), canStep c = true → exec c s = .next t → t.besidesCan = s.besidesCan

/-- The Whorl instructions (but SET, SETR and FADE, which drive skeins), the lockstep and memory checks and the watchdogs change nothing but
the lighting, the cores, the fault collector, the framer's queue, the L-die's condition, the host side, counters, the clocks and the count
of free values: a report of theirs reaches no output, key, store, CAN controller or clock at once. -/
def Obligations.ReportingStepsStayInReports : Prop :=
  ∀ (c : Instr) (s t : State), reportStep c = true → exec c s = .next t → t.besidesReports = s.besidesReports

/-- RSTN, an L3 warm restart and an L3 chip reset leave the P-die alone: its cells, skeins, ladders, fail-safe memory and hold-over go on, and
it learns of the reset by the silence of the link (R18, R40). -/
def Obligations.LDieResetsLeavePDie : Prop :=
  ∀ (c : Instr) (s t : State),
    ((∃ t0 ns id split bootsel, c = .rstn t0 ns id split bootsel) ∨ (∃ t0, c = .l3Warm t0) ∨ (∃ t0, c = .l3Chip t0)) →
    exec c s = .next t → t.pdie = s.pdie

/-- Stage 4 over every opcode: a request is answered with BAD_OPCODE for a SNAPALIGN that is not allowed, else BAD_LENGTH, else NOT_PERMITTED,
else TAG_IN_USE, else BAD_OBJECT, the first check that fails deciding (R74). The answer is all that happens: no command is held, the other
slots are as they were, and nothing besides the host side changes; the sequence counter is taken all the same (R76, R77). -/
def Obligations.StageFourRefusalOnlyAnswers : Prop :=
  (∀ (c : Instr) (o : OpInfo) (r : Req) (s : State), hostRow c = some (o, r) → interpreterUp (toL r.t s) = true →
    let a := arrived r s
    let fits := o.len (4 * r.payload.length) && o.fits r
    (r.snapalign = true → o.snap = false → exec c s = .next (refusedWith o r s .badOpcode)) ∧
    ((r.snapalign = false ∨ o.snap = true) → fits = false → exec c s = .next (refusedWith o r s .badLength)) ∧
    (formatOk o r = true → permitted o r a = false → exec c s = .next (refusedWith o r s .notPermitted)) ∧
    (formatOk o r = true → permitted o r a = true → tagHeld r a = true → exec c s = .next (refusedWith o r s .tagInUse)) ∧
    (formatOk o r = true → permitted o r a = true → tagHeld r a = false → o.obj r a = false →
      exec c s = .next (refusedWith o r s .badObject))) ∧
  (∀ (o : OpInfo) (r : Req) (s : State) (st : Status),
    let t := refusedWith o r s st
    t.host.flight = s.host.flight ∧ t.besidesHost = s.besidesHost ∧ (r.slot < 4 → (slotOf r.slot t).lastSeq = r.seq) ∧
    (∀ n, n ≠ r.slot → slotOf n t = slotOf n s))

/-- A slot that requires authentication and has no authenticated session accepts PING and SESSION_OPEN alone: on a slot that is enabled and
bound to the ingress port, these two are permitted, and every other opcode whose SNAPALIGN and LENGTH are in order is answered with
NOT_PERMITTED. On every slot without a session, so are the opcodes marked A in the opcode index, and register accesses to the KEY block
(R94). -/
def Obligations.UnauthenticatedSlotsRefused : Prop :=
  (∀ (c : Instr) (o : OpInfo) (r : Req) (s : State), hostRow c = some (o, r) → interpreterUp (toL r.t s) = true →
    (slotOf r.slot (arrived r s)).session = none → formatOk o r = true →
    (bit 1 (slotOf r.slot (arrived r s)).cfg = true ∧ o.op ≠ 0x0000 ∧ o.op ≠ 0x0002) ∨
      o.op ∈ [0x0006, 0x0702, 0x0703, 0x0704, 0x0800, 0x0801, 0x0802, 0x0803, 0x0804, 0x0805, 0x0900, 0x0902, 0x0903, 0x0904, 0x0905,
        0x0906, 0x0907, 0x0A03, 0x0A04] ∨ (0x0100 ≤ o.op ∧ o.op ≤ 0x0104 ∧ obj r / 0x10000 = 0xD) →
    exec c s = .next (refusedWith o r s .notPermitted)) ∧
  (∀ (o : OpInfo) (r : Req) (s : State), (o = infoPing ∨ o = infoSessionOpen) → (slotOf r.slot s).session = none →
    permitted o r s = (bit 0 (slotOf r.slot s).cfg && (slotOf r.slot s).port == some r.port))

/-- A new request of a disabled function group that passes stage 4 completes with ABORTED_DISABLED, a SNAPALIGN one after QUEUED, and nothing
besides the host side changes (R83, R85). -/
def Obligations.DisabledGroupAborts : Prop :=
  ∀ (c : Instr) (o : OpInfo) (r : Req) (s : State), hostRow c = some (o, r) → interpreterUp (toL r.t s) = true →
    stage4 o r (arrived r s) = none → groupOff (groupOf o.op) (arrived r s) = true →
    let e := entryFor o r s
    let u := if r.snapalign then giveQueued e (heldAt o r s) else heldAt o r s
    exec c s = .next (complete e .abortedDisabled [] u) ∧ (complete e .abortedDisabled [] u).besidesHost = s.besidesHost

/-- An accepted request waits in flight, and its subsystem does nothing yet: without SNAPALIGN where an earlier command holds it back or
another goes before it (R81, R82). With SNAPALIGN it answers QUEUED and waits for the next latch, a 65th one failing with BUSY, and any
with ABORTED_DISABLED while group 0x0C is disabled (R83, R112, R113). -/
def Obligations.HeldCommandsWait : Prop :=
  ∀ (c : Instr) (o : OpInfo) (r : Req) (s : State), hostRow c = some (o, r) → interpreterUp (toL r.t s) = true →
    stage4 o r (arrived r s) = none → groupOff (groupOf o.op) (arrived r s) = false →
    let e := entryFor o r s
    (r.snapalign = false → (eligible e (acceptedAt o r s) = false ∨ goesFirst e (acceptedAt o r s) = true) →
      exec c s = .next (acceptedAt o r s)) ∧
    (r.snapalign = true → groupOff 0x0C (arrived r s) = false → alignPending (arrived r s) < 64 →
      exec c s = .next (modEntry e (fun x => { x with stage := .aligned }) (giveQueued e (heldAt o r s)))) ∧
    (r.snapalign = true → groupOff 0x0C (arrived r s) = false → 64 ≤ alignPending (arrived r s) →
      exec c s = .next (complete e .busy [] (giveQueued e (heldAt o r s)))) ∧
    (r.snapalign = true → groupOff 0x0C (arrived r s) = true →
      exec c s = .next (complete e .abortedDisabled [] (giveQueued e (heldAt o r s))))

/-- The queries with one OBJECT, or none: LOOM_BUDGET_GET, FIO_READ, FAULT_STATUS, FAULT_CAPTURE_READ and CLK_STATUS answer the registers that
their rules list, and any other OBJECT fails with BAD_OBJECT (R185, R334, R460, R462, R586). -/
def Obligations.StatusQueriesAnswerRegisters : Prop :=
  (∀ (r : Req) (s : State), ready infoLoomBudgetGet r s = true →
    let a := atRun infoLoomBudgetGet r s
    r.object = 0 ∧ r.payload = [] ∧ exec (.loomBudgetGet r) s = .next (doneWith infoLoomBudgetGet r s
      ((List.range 12).map (fun b => (readReg (0x43004 + 0x10 * b) a).getD 0) ++
        [(readReg 0x43104 a).getD 0, (readReg 0x3000C a).getD 0]) a)) ∧
  (∀ (r : Req) (s : State), ready infoFioRead r s = true →
    let a := atRun infoFioRead r s
    r.object = 0 ∧ r.payload = [] ∧ exec (.fioRead r) s = .next (doneWith infoFioRead r s
      ([0x80010, 0x80014, 0x80018, 0x80020, 0x80024, 0x80028].map (fun x => (readReg x a).getD 0) ++ [word a.fio.updated]) a)) ∧
  (∀ (r : Req) (s : State), ready infoFaultStatus r s = true →
    let a := atRun infoFaultStatus r s
    r.object = 0 ∧ r.payload = [] ∧ exec (.faultStatus r) s = .next (doneWith infoFaultStatus r s
      ((readReg 0xF0004 a).getD 0 :: (List.range 5).map (fun c => (readReg (0xF0030 + 4 * c) a).getD 0) ++
        (List.range 18).map (fun b => (readReg (0xF0200 + 4 * b) a).getD 0)) a)) ∧
  (∀ (r : Req) (s : State), ready infoFaultCaptureRead r s = true →
    let a := atRun infoFaultCaptureRead r s
    let x := (clsOf (obj r) a).cap
    obj r ≤ 4 ∧ r.payload = [] ∧ (x.valid = false → exec (.faultCaptureRead r) s = .next (doneWith infoFaultCaptureRead r s [0, 0, 0, 0, 0, 0] a)) ∧
    (x.valid = true → exec (.faultCaptureRead r) s = .next (doneWith infoFaultCaptureRead r s
      ((List.range 6).map (fun w => (readReg (0xF0100 + 0x20 * obj r + 4 * w) a).getD 0)) a))) ∧
  (∀ (r : Req) (s : State), ready infoClkStatus r s = true →
    let a := atRun infoClkStatus r s
    r.object = 0 ∧ r.payload = [] ∧ exec (.clkStatus r) s = .next (doneWith infoClkStatus r s
      ([0x100004, 0x100010, 0x100100, 0x100108, 0x100208].map (fun x => (readReg x a).getD 0)) a)) ∧
  (∀ (c : Instr) (o : OpInfo) (r : Req) (s : State),
    (c = .loomBudgetGet r ∧ o = infoLoomBudgetGet ∨ c = .fioRead r ∧ o = infoFioRead ∨ c = .faultStatus r ∧ o = infoFaultStatus ∨
      c = .clkStatus r ∧ o = infoClkStatus) →
    interpreterUp (toL r.t s) = true → formatOk o r = true → permitted o r (arrived r s) = true → tagHeld r (arrived r s) = false →
    r.object ≠ 0 → exec c s = .next (refusedWith o r s .badObject)) ∧
  (∀ (r : Req) (s : State), interpreterUp (toL r.t s) = true → formatOk infoFaultCaptureRead r = true →
    permitted infoFaultCaptureRead r (arrived r s) = true → tagHeld r (arrived r s) = false → 4 < obj r →
    exec (.faultCaptureRead r) s = .next (refusedWith infoFaultCaptureRead r s .badObject))

/-- Writes to SPINDLE_WDOG_CFG, FAULT_CTL and FAULT_CLASSc_CFG, by WRITE_REG, MODIFY_REG or WRITE_BLOCK, from a slot without an authenticated
session fail with NOT_PERMITTED; the sticky bits are cleared from any slot, each by writing 1 to it (R465). -/
def Obligations.ProtectedRegistersNeedSession : Prop :=
  (∀ (c : Instr) (o : OpInfo) (r : Req) (s : State) (i : Nat),
    (c = .writeReg r ∧ o = infoWriteReg ∧ i = 0 ∨ c = .modifyReg r ∧ o = infoModifyReg ∧ i = 0 ∨
      c = .writeBlock r ∧ o = infoWriteBlock ∧ i < r.payload.length) →
    interpreterUp (toL r.t s) = true → (slotOf r.slot (arrived r s)).session = none → formatOk o r = true →
    obj r + 4 * i ∈ [0x20004, 0xF0000, 0xF0010, 0xF0014, 0xF0018, 0xF001C, 0xF0020] →
    exec c s = .next (refusedWith o r s .notPermitted)) ∧
  (∀ (r : Req) (s : State) (b : Nat), ready infoWriteReg r s = true → b < 18 → obj r = 0xF0200 + 4 * b →
    let a := atRun infoWriteReg r s
    exec (.writeReg r) s = .next (doneWith infoWriteReg r s []
      (modFaults (fun f => { f with sticky := upd f.sticky b (fun w => w &&& ~~~ arg r 0) }) a)))

/-- On a slot with an authenticated session a request whose CMAC does not verify is answered with AUTH_FAIL without a CMAC, and the slot's
count of consecutive ones goes up; the eighth in a row ends the slot's session and binding and reports HOST_AUTH. A request whose CMAC
verifies ends the row, whether it is a replay or passes stage 3 (R93). -/
def Obligations.AuthFailuresEndSession : Prop :=
  (∀ (h : Head) (l : List Byte) (s : State) (x : Session),
    let n := h.req.slot
    let bad := (cmac (keyBytes x.key) (l.take (l.length - 8))).take 8 != l.drop (l.length - 8)
    n < 4 → (slotOf n s).session = some x → crcAt (l.length - 12) l = true →
    (bad = true → ∃ u : State,
      (nth u.host.ports (portIx h.req.port)).output =
        (nth s.host.ports (portIx h.req.port)).output ++ [answerFrame h.op h.req h.b5 .authFail none s] ∧
      (slotOf n u).lastSeq = (slotOf n s).lastSeq ∧ u.host.flight.map (fun e => e.req) = s.host.flight.map (fun e => e.req) ∧
      ((slotOf n s).authFails < 7 → takeOwn h l s = u ∧ (slotOf n u).authFails = (slotOf n s).authFails + 1 ∧
        (slotOf n u).session = some x ∧ (slotOf n u).port = (slotOf n s).port) ∧
      (7 ≤ (slotOf n s).authFails →
        takeOwn h l s = modFlight (fun l => l.map (fun e => if e.req.slot == n then { e with key := none } else e))
          (endSession n (reportL 0x020 n u)) ∧
        (slotOf n (takeOwn h l s)).session = none ∧ (slotOf n (takeOwn h l s)).port = none)) ∧
    (bad = false → fresh h s = false → (slotOf n (takeOwn h l s)).authFails = 0)) ∧
  (∀ (r : Req) (s : State), r.slot < 4 → (slotOf r.slot (passed3 r s)).authFails = 0) ∧
  (∃ d, srcInfo 0x020 = some (1, d))

/-- Stage 3 takes a request only if its SEQ is greater than the slot's last accepted one on this device; otherwise it answers REPLAY, and the
request has no other effect on commands, on the last accepted counter or on another slot. SESSION_OPEN on a slot without an authenticated
session is exempt (R89, R91). -/
def Obligations.ReplayedRequestsRefused : Prop :=
  (∀ (h : Head) (l : List Byte) (s : State),
    let n := h.req.slot
    let t := takeOwn h l s
    n < 4 → h.req.seq ≤ (slotOf n s).lastSeq →
    ((∃ x, (slotOf n s).session = some x ∧ crcAt (l.length - 12) l = true ∧
        (cmac (keyBytes x.key) (l.take (l.length - 8))).take 8 = l.drop (l.length - 8)) ∨
      ((slotOf n s).session = none ∧ (slotOf n s).ended = false ∧ crcAt (l.length - 4) l = true ∧ h.op ≠ 0x0002)) →
    (nth t.host.ports (portIx h.req.port)).output =
      (nth s.host.ports (portIx h.req.port)).output ++ [answerFrame h.op h.req h.b5 .replay (slotKey n s) s] ∧
    t.host.flight = s.host.flight ∧ (slotOf n t).lastSeq = (slotOf n s).lastSeq ∧ t.besidesHost = s.besidesHost ∧
    (∀ m, m ≠ n → slotOf m t = slotOf m s)) ∧
  (∀ (h : Head) (l : List Byte) (s : State), (slotOf h.req.slot s).session = none → h.op = 0x0002 → crcAt (l.length - 4) l = true →
    takeOwn h l s = stageFour h ((l.take (l.length - 4)).drop 16) (passed3 h.req s)) ∧
  (∀ (r : Req) (s : State), r.slot < 4 → (slotOf r.slot (passed3 r s)).lastSeq = r.seq)

/-- A report of a source sets its sticky bit. Within 400 ticks of the source's first one it is the same fault and changes no class (R444).
Otherwise the class is ACTIVE, its last words tell source, level and escalation, and where it was ACTIVE already and ESC is set, the level
is one above the source's reaction, at most L4 (R450); the first fault fills the class record, and another one leaves the record alone and
counts in LATER (R454). -/
def Obligations.ReportsCaptureAndEscalate : Prop :=
  ∀ (r : Report) (s : State) (k d : Nat), srcInfo r.src = some (k, d) →
    let t := report r s
    let c := clsOf k s
    let first := s.faults.first.get r.src
    let esc := c.active && bit 16 c.cfg
    let want := if esc then min 4 ((reactionOf r.src s).1 + 1) else (reactionOf r.src s).1
    let lvl := max r.minLevel (min want r.maxLevel)
    let lvl := if lvl = 2 ∧ r.src / 32 ∉ [1, 6, 7, 10, 11] then 1 else lvl
    let w0 := faultW0 k lvl esc r
    (nth t.faults.sticky (r.src / 32)).getLsbD (r.src % 32) = true ∧
    (first ≠ 0 → s.now + 1 - first ≤ 400 → t.faults.cls = s.faults.cls) ∧
    ((first = 0 ∨ 400 < s.now + 1 - first) →
      (clsOf k t).active = true ∧ (clsOf k t).lastW0 = w0 ∧ (clsOf k t).lastW2 = faultW2 r ∧
      (∀ j, j ≠ k → clsOf j t = clsOf j s) ∧
      (c.cap.valid = false → (clsOf k t).cap =
        { valid := true, w0 := setFld 31 31 1 w0, w1 := r.addr, w2 := faultW2 r, tick := r.tick, later := 0 }) ∧
      (c.cap.valid = true → (clsOf k t).cap = { c.cap with later := min 65535 (c.cap.later + 1) }))
end

