-- ==== Sys2Proof/Laws/Arrays.lean ====
section
/-! SUPPORT. Read after write for the arrays of fixed size and the sparse tables, and the canonical form of the tables. -/

namespace Sys2Proof.Machine

/-- A read of the entry written gives what was written. -/
@[simp] theorem nth_put_same {α : Type} {n : Nat} [Inhabited α] (v : Vector α n) (i : Nat) (x : α) (h : i < n) :
    nth (put v i x) i = x := by
  simp [nth, put, h]

/-- A write leaves every other entry alone. -/
@[simp] theorem nth_put_other {α : Type} {n : Nat} [Inhabited α] (v : Vector α n) (i j : Nat) (x : α) (h : i ≠ j) :
    nth (put v i x) j = nth v j := by
  simp [nth, put, h]

/-- A write past the end changes nothing. -/
theorem put_past {α : Type} {n : Nat} (v : Vector α n) (i : Nat) (x : α) (h : n ≤ i) : put v i x = v := by
  ext j hj
  simp only [put, Vector.getElem_setIfInBounds]
  split
  · omega
  · rfl

/-- The entry changed by f. -/
@[simp] theorem nth_upd_same {α : Type} {n : Nat} [Inhabited α] (v : Vector α n) (i : Nat) (f : α → α) (h : i < n) :
    nth (upd v i f) i = f (nth v i) := nth_put_same v i _ h

/-- A change leaves every other entry alone. -/
@[simp] theorem nth_upd_other {α : Type} {n : Nat} [Inhabited α] (v : Vector α n) (i j : Nat) (f : α → α) (h : i ≠ j) :
    nth (upd v i f) j = nth v j := nth_put_other v i j _ h

/-- What an entry of a changed array is. -/
theorem nth_upd {α : Type} {n : Nat} [Inhabited α] (v : Vector α n) (i j : Nat) (f : α → α) :
    nth (upd v i f) j = if i = j ∧ j < n then f (nth v j) else nth v j := by
  by_cases h : i = j
  · subst h
    by_cases hn : i < n
    · simp [hn]
    · simp [upd, put_past v i _ (Nat.le_of_not_lt hn), hn]
  · simp [h]

/-! ### Tables -/

/-- A read of the key written gives what was written, in a canonical table. -/
theorem Table.get_below (t : Table) (b i : Nat) (h : Table.wfFrom (some b) t = true) (hi : i ≤ b) : Table.get t i = 0 := by
  induction t generalizing b with
  | nil => rfl
  | cons p rest ih =>
    obtain ⟨k, v⟩ := p
    simp only [Table.wfFrom, Bool.and_eq_true, decide_eq_true_eq] at h
    have hk : i ≠ k := by omega
    simp only [Table.get, hk, if_false]
    exact ih k h.2 (by omega)

/-- A weaker lower bound holds too. -/
theorem Table.wfFrom_none (t : Table) (b : Nat) (h : Table.wfFrom (some b) t = true) : Table.wfFrom none t = true := by
  cases t with
  | nil => rfl
  | cons p rest =>
    obtain ⟨k, v⟩ := p
    simp only [Table.wfFrom, Bool.and_eq_true] at h ⊢
    exact ⟨⟨trivial, h.1.2⟩, h.2⟩

/-- A canonical table above b is canonical above every smaller number. -/
theorem Table.wfFrom_le (t : Table) (a b : Nat) (hab : a ≤ b) (h : Table.wfFrom (some b) t = true) :
    Table.wfFrom (some a) t = true := by
  cases t with
  | nil => rfl
  | cons p rest =>
    obtain ⟨k, v⟩ := p
    simp only [Table.wfFrom, Bool.and_eq_true, decide_eq_true_eq] at h ⊢
    exact ⟨⟨by omega, h.1.2⟩, h.2⟩

/-- Writing a key above the bound keeps the canonical form above the bound. -/
theorem Table.set_wfFrom (t : Table) (b i x : Nat) (hb : b < i) (h : Table.wfFrom (some b) t = true) :
    Table.wfFrom (some b) (Table.set t i x) = true := by
  induction t generalizing b with
  | nil => by_cases hx : x = 0 <;> simp [Table.set, Table.wfFrom, hx, hb]
  | cons p rest ih =>
    obtain ⟨k, v⟩ := p
    simp only [Table.wfFrom, Bool.and_eq_true, decide_eq_true_eq] at h
    obtain ⟨⟨h1, h2⟩, h3⟩ := h
    simp only [Table.set]
    split
    · rename_i hik
      split
      · exact Table.wfFrom_le rest b k (by omega) h3
      · rename_i hx
        simp [Table.wfFrom, h1, hx, h3]
    · split
      · split
        · simp only [Table.wfFrom, Bool.and_eq_true, decide_eq_true_eq]
          exact ⟨⟨h1, h2⟩, h3⟩
        · rename_i hik hx
          simp only [Table.wfFrom, Bool.and_eq_true, decide_eq_true_eq]
          exact ⟨⟨hb, by simp [hx]⟩, ⟨hik, h2⟩, h3⟩
      · simp only [Table.wfFrom, Bool.and_eq_true, decide_eq_true_eq]
        exact ⟨⟨h1, h2⟩, ih k (by omega) h3⟩

/-- Every write keeps the canonical form of a table. -/
theorem Table.set_wf (t : Table) (i x : Nat) (h : t.wf = true) : (Table.set t i x).wf = true := by
  unfold Table.wf at h ⊢
  cases t with
  | nil => by_cases hx : x = 0 <;> simp [Table.set, Table.wfFrom, hx]
  | cons p rest =>
    obtain ⟨k, v⟩ := p
    simp only [Table.wfFrom, Bool.and_eq_true, true_and] at h
    obtain ⟨h2, h3⟩ := h
    simp only [Table.set]
    split
    · split
      · exact Table.wfFrom_none rest k h3
      · rename_i hx
        simp [Table.wfFrom, hx, h3]
    · split
      · split
        · simp only [Table.wfFrom, Bool.and_eq_true, true_and]
          exact ⟨h2, h3⟩
        · rename_i hik hx
          simp only [Table.wfFrom, Bool.and_eq_true, decide_eq_true_eq, true_and]
          exact ⟨by simp [hx], ⟨hik, h2⟩, h3⟩
      · simp only [Table.wfFrom, Bool.and_eq_true, true_and]
        exact ⟨h2, Table.set_wfFrom rest k i x (by omega) h3⟩

/-- Every count keeps the canonical form of a table. -/
theorem Table.add_wf (t : Table) (w i n : Nat) (h : t.wf = true) : (Table.add t w i n).wf = true := Table.set_wf t i _ h

/-- A table cleared in part keeps the canonical form above a bound. -/
theorem Table.filter_wfFrom (t : Table) (b : Nat) (p : Nat × Nat → Bool) (h : Table.wfFrom (some b) t = true) :
    Table.wfFrom (some b) (t.filter p) = true := by
  induction t generalizing b with
  | nil => rfl
  | cons q rest ih =>
    obtain ⟨k, v⟩ := q
    simp only [Table.wfFrom, Bool.and_eq_true, decide_eq_true_eq] at h
    simp only [List.filter_cons]
    split
    · simp only [Table.wfFrom, Bool.and_eq_true, decide_eq_true_eq]
      exact ⟨h.1, ih k h.2⟩
    · exact Table.wfFrom_le _ b k (by omega) (ih k h.2)

/-- A table cleared in part keeps its canonical form. -/
theorem Table.filter_wf (t : Table) (p : Nat × Nat → Bool) (h : t.wf = true) : Table.wf (t.filter p) = true := by
  unfold Table.wf at h ⊢
  cases t with
  | nil => rfl
  | cons q rest =>
    obtain ⟨k, v⟩ := q
    simp only [Table.wfFrom, Bool.and_eq_true, true_and] at h
    simp only [List.filter_cons]
    split
    · simp only [Table.wfFrom, Bool.and_eq_true, true_and]
      exact ⟨h.1, Table.filter_wfFrom rest k p h.2⟩
    · exact Table.wfFrom_none _ k (Table.filter_wfFrom rest k p h.2)

/-- A write leaves what every other key reads as. -/
@[simp] theorem Table.get_set_other (t : Table) (i j x : Nat) (h : i ≠ j) : Table.get (Table.set t i x) j = Table.get t j := by
  induction t with
  | nil => by_cases hx : x = 0 <;> simp [Table.set, Table.get, hx, Ne.symm h]
  | cons p rest ih =>
    obtain ⟨k, v⟩ := p
    simp only [Table.set]
    split
    · rename_i hik
      subst hik
      split <;> simp [Table.get, Ne.symm h]
    · split
      · split <;> simp [Table.get, Ne.symm h]
      · simp only [Table.get, ih]

/-- A read of the key written gives what was written, in a canonical table above a bound. -/
theorem Table.get_set_from (t : Table) (b i x : Nat) (h : Table.wfFrom (some b) t = true) :
    Table.get (Table.set t i x) i = x := by
  induction t generalizing b with
  | nil => by_cases hx : x = 0 <;> simp [Table.set, Table.get, hx]
  | cons p rest ih =>
    obtain ⟨k, v⟩ := p
    simp only [Table.wfFrom, Bool.and_eq_true, decide_eq_true_eq] at h
    simp only [Table.set]
    split
    · rename_i hik
      subst hik
      split
      · rename_i hx
        rw [Table.get_below rest i i h.2 (Nat.le_refl i), hx]
      · simp [Table.get]
    · rename_i hik
      split
      · rename_i hlt
        split
        · rename_i hx
          simp only [Table.get, hik, if_false]
          rw [Table.get_below rest k i h.2 (by omega), hx]
        · simp [Table.get]
      · simp only [Table.get, hik, if_false]
        exact ih k h.2

/-- A read of the key written gives what was written, in a canonical table. -/
theorem Table.get_set_same (t : Table) (i x : Nat) (h : t.wf = true) : Table.get (Table.set t i x) i = x := by
  unfold Table.wf at h
  cases t with
  | nil => by_cases hx : x = 0 <;> simp [Table.set, Table.get, hx]
  | cons p rest =>
    obtain ⟨k, v⟩ := p
    simp only [Table.wfFrom, Bool.and_eq_true, true_and] at h
    simp only [Table.set]
    split
    · rename_i hik
      subst hik
      split
      · rename_i hx
        rw [Table.get_below rest i i h.2 (Nat.le_refl i), hx]
      · simp [Table.get]
    · rename_i hik
      split
      · rename_i hlt
        split
        · rename_i hx
          simp only [Table.get, hik, if_false]
          rw [Table.get_below rest k i h.2 (by omega), hx]
        · simp [Table.get]
      · simp only [Table.get, hik, if_false]
        exact Table.get_set_from rest k i x h.2

end Sys2Proof.Machine
end

