-- ==== Sys2Proof/Laws/Can.lean ====
section
/-! SUPPORT. What a CAN controller does with a received frame: one lemma per kind of frame. -/

namespace Sys2Proof.Machine

/-- With no frame left in progress by a stop, a row about a frame acts where its condition holds. -/
theorem onFrame_clear (k sof : Nat) (ok : State → Bool) (act : State → State) (s : State) (h : (canCtl k s).tail = none)
    (hok : ok s = true) : onFrame k sof ok act s = act s := by
  simp [onFrame, h, hok]

/-- With no frame left in progress by a stop, a row about a frame does nothing where its condition fails. -/
theorem onFrame_idle (k sof : Nat) (ok : State → Bool) (act : State → State) (s : State) (h : (canCtl k s).tail = none)
    (hok : ok s = false) : onFrame k sof ok act s = s := by
  simp [onFrame, h, hok]

/-- A frame that the controller takes is served. -/
theorem frameValid_open (t k : Nat) (x : CanRx) (s : State) (h : canOpen k x s = true) :
    frameValid t k x s = frameServed t k x s := by
  simp only [canOpen, Bool.and_eq_true, decide_eq_true_eq, Option.isNone_iff_eq_none] at h
  obtain ⟨⟨⟨⟨⟨h1, h2⟩, h3⟩, h4⟩, h5⟩, h6⟩ := h
  rw [frameValid, onFrame_clear _ _ _ _ _ h6 (by simp [h1, h2, h3, h4]), if_pos h5]

/-- A frame that is neither a ring frame nor a reference message is received and offered to the gateway. -/
theorem frameValid_plain (t k : Nat) (x : CanRx) (s : State) (h : canOpen k x s = true)
    (hr : ringOf k x.w0 x.rtr x.data (frameTaken t k x s) = none)
    (hp : refPrio k x.w0 x.rtr x.data (frameTaken t k x s) = none) : frameValid t k x s = frameTaken t k x s := by
  simp only [frameValid_open _ _ _ _ h, frameServed, hr, hp]

/-- A ring frame goes to its channel too. -/
theorem frameValid_ring (t k : Nat) (x : CanRx) (s : State) (m : Nat × Nat × RingFlags × Nat) (h : canOpen k x s = true)
    (hr : ringOf k x.w0 x.rtr x.data (frameTaken t k x s) = some m)
    (hp : refPrio k x.w0 x.rtr x.data (ringReceived k x.sof m (frameTaken t k x s)) = none) :
    frameValid t k x s = ringReceived k x.sof m (frameTaken t k x s) := by
  simp only [frameValid_open _ _ _ _ h, frameServed, hr, hp]

/-- A reference message goes to network time too. -/
theorem frameValid_ref (t k p : Nat) (x : CanRx) (s : State) (h : canOpen k x s = true)
    (hr : ringOf k x.w0 x.rtr x.data (frameTaken t k x s) = none)
    (hp : refPrio k x.w0 x.rtr x.data (frameTaken t k x s) = some p)
    (hg : groupOff 0x06 (frameTaken t k x s) = false) :
    frameValid t k x s = refReceived p x.sof x.data (frameTaken t k x s) := by
  simp only [frameValid_open _ _ _ _ h, frameServed, hr, hp, hg]
  simp

end Sys2Proof.Machine
end

