-- ==== Sys2Proof/Laws/Fixed.lean ====
section
/-! SUPPORT. No operation of the block touches its queue of commands or the straps as sampled: one lemma per operation. The two
resets that sample the straps are the exceptions (R49). -/

set_option linter.all false

namespace Sys2Proof.Machine

/-- The state that an outcome answers; s where it stops. -/
def after (o : Host.Outcome State Fault Refusal) (s : State) : State :=
  match o with
  | .next t => t
  | _ => s

@[simp] theorem after_next (t s : State) : after (.next t) s = t := rfl
@[simp] theorem fixed_foldl {α : Type} (f : State → α → State) (h : ∀ s x, (f s x).fixed = s.fixed) (l : List α) (s : State) : (l.foldl f s).fixed = s.fixed := by
  induction l generalizing s with
  | nil => rfl
  | cons a l ih => exact (ih _).trans (h _ _)
@[simp] theorem fixed_ite (c : Prop) [Decidable c] (a b : State) : (if c then a else b).fixed = if c then a.fixed else b.fixed := by split <;> rfl
@[simp] theorem fst_ite {α β : Type} (c : Prop) [Decidable c] (a b : α × β) : (if c then a else b).1 = if c then a.1 else b.1 := by split <;> rfl
@[simp] theorem snd_ite {α β : Type} (c : Prop) [Decidable c] (a b : α × β) : (if c then a else b).2 = if c then a.2 else b.2 := by split <;> rfl
@[simp] theorem after_ite (c : Prop) [Decidable c] (a b : Host.Outcome State Fault Refusal) (s : State) : after (if c then a else b) s = if c then after a s else after b s := by split <;> rfl
@[simp] theorem fixed_mk (s : State) (a0 : Nat) (a1 : Nat) (a2 : Nat) (a3 : Table) (a4 : LDie) (a5 : HostSt) (a6 : LoomSt) (a7 : PDie) (a8 : WeftL) (a9 : ActSt) (a10 : LightSt) (a11 : FioL) (a12 : CanSt) (a13 : NmSt) (a14 : KeySt) (a15 : Otp) (a16 : RangeSt) (a17 : StoreSt) (a18 : Spindle) (a19 : FaultSt) (a20 : ClkSt) : State.fixed ⟨s.pending, a0, a1, a2, a3, a4, s.deviceId, s.split, s.bootsel, a5, a6, a7, a8, a9, a10, a11, a12, a13, a14, a15, a16, a17, a18, a19, a20⟩ = s.fixed := rfl
@[simp] theorem fixed_elim {α : Type} (o : Option α) (a : State) (f : α → State) (h : ∀ x, (f x).fixed = a.fixed) : (o.elim a f).fixed = a.fixed := by cases o <;> simp [h]
theorem fixed_getD (o : Option State) (a : State) (h : ∀ t, o = some t → t.fixed = a.fixed) : (o.getD a).fixed = a.fixed := by cases o with
  | none => rfl
  | some t => exact h t rfl

@[simp] theorem toL_fixed (t : Nat) (s : State) : (toL t s).fixed = s.fixed := by
  simp only [toL, fixed_mk, fixed_ite, ite_self, fixed_foldl, fst_ite, snd_ite, after_next, after_ite, implies_true, fixed_elim]

@[simp] theorem toP_fixed (t : Nat) (s : State) : (toP t s).fixed = s.fixed := by
  simp only [toP, fixed_mk, fixed_ite, ite_self, fixed_foldl, fst_ite, snd_ite, after_next, after_ite, implies_true, fixed_elim]

@[simp] theorem modHost_fixed (f : HostSt → HostSt) (s : State) : (modHost f s).fixed = s.fixed := by
  simp only [modHost, fixed_mk, fixed_ite, ite_self, fixed_foldl, fst_ite, snd_ite, after_next, after_ite, implies_true, fixed_elim]

@[simp] theorem modLoom_fixed (f : LoomSt → LoomSt) (s : State) : (modLoom f s).fixed = s.fixed := by
  simp only [modLoom, fixed_mk, fixed_ite, ite_self, fixed_foldl, fst_ite, snd_ite, after_next, after_ite, implies_true, fixed_elim]

@[simp] theorem modP_fixed (f : PDie → PDie) (s : State) : (modP f s).fixed = s.fixed := by
  simp only [modP, fixed_mk, fixed_ite, ite_self, fixed_foldl, fst_ite, snd_ite, after_next, after_ite, implies_true, fixed_elim]

@[simp] theorem modWeft_fixed (f : WeftL → WeftL) (s : State) : (modWeft f s).fixed = s.fixed := by
  simp only [modWeft, fixed_mk, fixed_ite, ite_self, fixed_foldl, fst_ite, snd_ite, after_next, after_ite, implies_true, fixed_elim]

@[simp] theorem modFaults_fixed (f : FaultSt → FaultSt) (s : State) : (modFaults f s).fixed = s.fixed := by
  simp only [modFaults, fixed_mk, fixed_ite, ite_self, fixed_foldl, fst_ite, snd_ite, after_next, after_ite, implies_true, fixed_elim]

@[simp] theorem modSpindle_fixed (f : Spindle → Spindle) (s : State) : (modSpindle f s).fixed = s.fixed := by
  simp only [modSpindle, fixed_mk, fixed_ite, ite_self, fixed_foldl, fst_ite, snd_ite, after_next, after_ite, implies_true, fixed_elim]

@[simp] theorem modSlot_fixed (n : Nat) (f : Slot → Slot) (s : State) : (modSlot n f s).fixed = s.fixed := by
  simp only [modSlot, fixed_mk, fixed_ite, ite_self, fixed_foldl, fst_ite, snd_ite, after_next, after_ite, implies_true, fixed_elim, modHost_fixed, modLoom_fixed, modP_fixed]

@[simp] theorem modSkL_fixed (k : Nat) (f : SkeinL → SkeinL) (s : State) : (modSkL k f s).fixed = s.fixed := by
  simp only [modSkL, fixed_mk, fixed_ite, ite_self, fixed_foldl, fst_ite, snd_ite, after_next, after_ite, implies_true, fixed_elim, modLoom_fixed, modP_fixed]

@[simp] theorem modSkP_fixed (k : Nat) (f : SkeinP → SkeinP) (s : State) : (modSkP k f s).fixed = s.fixed := by
  simp only [modSkP, fixed_mk, fixed_ite, ite_self, fixed_foldl, fst_ite, snd_ite, after_next, after_ite, implies_true, fixed_elim, modP_fixed]

@[simp] theorem modCell_fixed (n : Nat) (f : CellP → CellP) (s : State) : (modCell n f s).fixed = s.fixed := by
  simp only [modCell, fixed_mk, fixed_ite, ite_self, fixed_foldl, fst_ite, snd_ite, after_next, after_ite, implies_true, fixed_elim, modP_fixed]

@[simp] theorem bumpBy_fixed (i n : Nat) (s : State) : (bumpBy i n s).fixed = s.fixed := by
  simp only [bumpBy, fixed_mk, fixed_ite, ite_self, fixed_foldl, fst_ite, snd_ite, after_next, after_ite, implies_true, fixed_elim]

@[simp] theorem bump_fixed (i : Nat) (s : State) : (bump i s).fixed = s.fixed := by
  simp only [bump, fixed_mk, fixed_ite, ite_self, fixed_foldl, fst_ite, snd_ite, after_next, after_ite, implies_true, fixed_elim, bumpBy_fixed]

@[simp] theorem bump64_fixed (i : Nat) (s : State) : (bump64 i s).fixed = s.fixed := by
  simp only [bump64, fixed_mk, fixed_ite, ite_self, fixed_foldl, fst_ite, snd_ite, after_next, after_ite, implies_true, fixed_elim, bump_fixed]

@[simp] theorem freeWord_fixed (s : State) : (freeWord s).2.fixed = s.fixed := by
  simp only [freeWord, fixed_mk, fixed_ite, ite_self, fixed_foldl, fst_ite, snd_ite, after_next, after_ite, implies_true, fixed_elim]

@[simp] theorem freeBytes_fixed (n : Nat) (s : State) : (freeBytes n s).2.fixed = s.fixed := by
  simp only [freeBytes, fixed_mk, fixed_ite, ite_self, fixed_foldl, fst_ite, snd_ite, after_next, after_ite, implies_true, fixed_elim]

@[simp] theorem pushOut_fixed (p : Port) (f : OutFrame) (s : State) : (pushOut p f s).fixed = s.fixed := by
  simp only [pushOut, fixed_mk, fixed_ite, ite_self, fixed_foldl, fst_ite, snd_ite, after_next, after_ite, implies_true, fixed_elim, bump_fixed, modHost_fixed]

set_option maxRecDepth 4000 in
@[simp] theorem sendEvent_fixed (n opc t : Nat) (payload : List Word) (s : State) : (sendEvent n opc t payload s).fixed = s.fixed := by
  simp only [sendEvent, fixed_mk, fixed_ite, ite_self, fixed_foldl, fst_ite, snd_ite, after_next, after_ite, implies_true, fixed_elim, modSlot_fixed, pushOut_fixed]
  repeat' split
  all_goals (first | (with_reducible rfl) | simp only [fixed_mk, fixed_ite, ite_self, fixed_foldl, fst_ite, snd_ite, after_next, after_ite, implies_true, fixed_elim, modSlot_fixed, pushOut_fixed])

@[simp] theorem queueEvent_fixed (n opc t : Nat) (payload : List Word) (s : State) : (queueEvent n opc t payload s).fixed = s.fixed := by
  simp only [queueEvent, fixed_mk, fixed_ite, ite_self, fixed_foldl, fst_ite, snd_ite, after_next, after_ite, implies_true, fixed_elim, modSlot_fixed, sendEvent_fixed]

@[simp] theorem postEventAt_fixed (t opc : Nat) (payload : List Word) (s : State) : (postEventAt t opc payload s).fixed = s.fixed := by
  simp only [postEventAt, fixed_mk, fixed_ite, ite_self, fixed_foldl, fst_ite, snd_ite, after_next, after_ite, implies_true, fixed_elim, queueEvent_fixed]

@[simp] theorem postEvent_fixed (opc : Nat) (payload : List Word) (s : State) : (postEvent opc payload s).fixed = s.fixed := by
  simp only [postEvent, fixed_mk, fixed_ite, ite_self, fixed_foldl, fst_ite, snd_ite, after_next, after_ite, implies_true, fixed_elim, postEventAt_fixed]

@[simp] theorem overflowEvent_fixed (n : Nat) (s : State) : (overflowEvent n s).fixed = s.fixed := by
  simp only [overflowEvent, fixed_mk, fixed_ite, ite_self, fixed_foldl, fst_ite, snd_ite, after_next, after_ite, implies_true, fixed_elim, modSlot_fixed, sendEvent_fixed]

set_option maxRecDepth 4000 in
@[simp] theorem sendHeld_fixed (n : Nat) (s : State) : (sendHeld n s).fixed = s.fixed := by
  simp only [sendHeld, fixed_mk, fixed_ite, ite_self, fixed_foldl, fst_ite, snd_ite, after_next, after_ite, implies_true, fixed_elim, modSlot_fixed, queueEvent_fixed]
  repeat' split
  all_goals (first | (with_reducible rfl) | simp only [fixed_mk, fixed_ite, ite_self, fixed_foldl, fst_ite, snd_ite, after_next, after_ite, implies_true, fixed_elim, modSlot_fixed, queueEvent_fixed])

@[simp] theorem keepHeld_fixed (s : State) : (keepHeld s).fixed = s.fixed := by
  simp only [keepHeld, fixed_mk, fixed_ite, ite_self, fixed_foldl, fst_ite, snd_ite, after_next, after_ite, implies_true, fixed_elim, modSlot_fixed]

@[simp] theorem modFlight_fixed (f : List Entry → List Entry) (s : State) : (modFlight f s).fixed = s.fixed := by
  simp only [modFlight, fixed_mk, fixed_ite, ite_self, fixed_foldl, fst_ite, snd_ite, after_next, after_ite, implies_true, fixed_elim, modHost_fixed]

@[simp] theorem modEntry_fixed (e : Entry) (f : Entry → Entry) (s : State) : (modEntry e f s).fixed = s.fixed := by
  simp only [modEntry, fixed_mk, fixed_ite, ite_self, fixed_foldl, fst_ite, snd_ite, after_next, after_ite, implies_true, fixed_elim, modFlight_fixed]

@[simp] theorem endSession_fixed (n : Nat) (s : State) : (endSession n s).fixed = s.fixed := by
  simp only [endSession, fixed_mk, fixed_ite, ite_self, fixed_foldl, fst_ite, snd_ite, after_next, after_ite, implies_true, fixed_elim, modSlot_fixed]

@[simp] theorem completeAt_fixed (t : Nat) (e : Entry) (st : Status) (payload : List Word) (s : State) : (completeAt t e st payload s).fixed = s.fixed := by
  simp only [completeAt, fixed_mk, fixed_ite, ite_self, fixed_foldl, fst_ite, snd_ite, after_next, after_ite, implies_true, fixed_elim, modEntry_fixed, modFlight_fixed, pushOut_fixed]

@[simp] theorem closeSlot_fixed (n : Nat) (s : State) : (closeSlot n s).fixed = s.fixed := by
  simp only [closeSlot, fixed_mk, fixed_ite, ite_self, fixed_foldl, fst_ite, snd_ite, after_next, after_ite, implies_true, fixed_elim, completeAt_fixed, endSession_fixed]

@[simp] theorem complete_fixed (e : Entry) (st : Status) (payload : List Word) (s : State) : (complete e st payload s).fixed = s.fixed := by
  simp only [complete, fixed_mk, fixed_ite, ite_self, fixed_foldl, fst_ite, snd_ite, after_next, after_ite, implies_true, fixed_elim, closeSlot_fixed, completeAt_fixed]

@[simp] theorem giveQueued_fixed (e : Entry) (s : State) : (giveQueued e s).fixed = s.fixed := by
  simp only [giveQueued, fixed_mk, fixed_ite, ite_self, fixed_foldl, fst_ite, snd_ite, after_next, after_ite, implies_true, fixed_elim, modEntry_fixed, pushOut_fixed]

set_option maxRecDepth 4000 in
@[simp] theorem awaited_fixed (a : Await) (st : Status) (f : Entry → List Word) (s : State) (e : Entry) : (awaited a st f s e).fixed = s.fixed := by
  simp only [awaited, fixed_mk, fixed_ite, ite_self, fixed_foldl, fst_ite, snd_ite, after_next, after_ite, implies_true, fixed_elim, complete_fixed, modEntry_fixed]
  repeat' split
  all_goals (first | (with_reducible rfl) | simp only [fixed_mk, fixed_ite, ite_self, fixed_foldl, fst_ite, snd_ite, after_next, after_ite, implies_true, fixed_elim, complete_fixed, modEntry_fixed])

@[simp] theorem completeAll_fixed (a : Await) (st : Status) (f : Entry → List Word) (s : State) : (completeAll a st f s).fixed = s.fixed := by
  simp only [completeAll, fixed_mk, fixed_ite, ite_self, fixed_foldl, fst_ite, snd_ite, after_next, after_ite, implies_true, fixed_elim, awaited_fixed]

@[simp] theorem abortWhere_fixed (p : Entry → Bool) (st : Status) (s : State) : (abortWhere p st s).fixed = s.fixed := by
  simp only [abortWhere, fixed_mk, fixed_ite, ite_self, fixed_foldl, fst_ite, snd_ite, after_next, after_ite, implies_true, fixed_elim, complete_fixed]

@[simp] theorem modCls_fixed (c : Nat) (f : FaultClass → FaultClass) (s : State) : (modCls c f s).fixed = s.fixed := by
  simp only [modCls, fixed_mk, fixed_ite, ite_self, fixed_foldl, fst_ite, snd_ite, after_next, after_ite, implies_true, fixed_elim, modFaults_fixed]

@[simp] theorem alvLow_fixed (why : Nat) (s : State) : (alvLow why s).fixed = s.fixed := by
  simp only [alvLow, fixed_mk, fixed_ite, ite_self, fixed_foldl, fst_ite, snd_ite, after_next, after_ite, implies_true, fixed_elim, modFaults_fixed]

set_option maxRecDepth 4000 in
@[simp] theorem portReset_fixed (p : Port) (s : State) : (portReset p s).fixed = s.fixed := by
  simp only [portReset, fixed_mk, fixed_ite, ite_self, fixed_foldl, fst_ite, snd_ite, after_next, after_ite, implies_true, fixed_elim, modFlight_fixed, modHost_fixed, overflowEvent_fixed]
  repeat' split
  all_goals (first | (with_reducible rfl) | simp only [fixed_mk, fixed_ite, ite_self, fixed_foldl, fst_ite, snd_ite, after_next, after_ite, implies_true, fixed_elim, modFlight_fixed, modHost_fixed, overflowEvent_fixed])

@[simp] theorem faultEvent_fixed (cls : Nat) (w0 w2 : Word) (s : State) : (faultEvent cls w0 w2 s).fixed = s.fixed := by
  simp only [faultEvent, fixed_mk, fixed_ite, ite_self, fixed_foldl, fst_ite, snd_ite, after_next, after_ite, implies_true, fixed_elim, postEvent_fixed]

@[simp] theorem takeL1_fixed (s : State) : (takeL1 s).fixed = s.fixed := by
  simp only [takeL1, fixed_mk, fixed_ite, ite_self, fixed_foldl, fst_ite, snd_ite, after_next, after_ite, implies_true, fixed_elim, bump_fixed]

@[simp] theorem takeL3_fixed (chip : Bool) (cls : Nat) (w0 w2 : Word) (s : State) : (takeL3 chip cls w0 w2 s).fixed = s.fixed := by
  simp only [takeL3, fixed_mk, fixed_ite, ite_self, fixed_foldl, fst_ite, snd_ite, after_next, after_ite, implies_true, fixed_elim, alvLow_fixed, modFaults_fixed]

@[simp] theorem takeL4_fixed (s : State) : (takeL4 s).fixed = s.fixed := by
  simp only [takeL4, fixed_mk, fixed_ite, ite_self, fixed_foldl, fst_ite, snd_ite, after_next, after_ite, implies_true, fixed_elim, alvLow_fixed, modFaults_fixed, modWeft_fixed]

theorem blockReset_fixed (src inst : Nat) (s t : State) (h : blockReset src inst s = some t) : t.fixed = s.fixed := by
  unfold blockReset at h
  split at h
  · simp only [Option.some.injEq] at h
    rw [← h]
    exact fixed_elim _ _ _ (fun x => portReset_fixed x s)
  · simp only [Option.some.injEq] at h
    rw [← h]
    exact modFaults_fixed _ s
  · simp only [Option.some.injEq] at h
    rw [← h]
    exact modFaults_fixed _ s
  · simp only [Option.some.injEq] at h
    rw [← h]
    exact modFaults_fixed _ s
  · simp only [Option.some.injEq] at h
    rw [← h]
    exact modFaults_fixed _ s
  · simp at h
set_option maxRecDepth 4000 in
@[simp] theorem react_fixed (lvl : Nat) (chip : Bool) (cls : Nat) (fresh : Bool) (w0 w2 : Word) (r : Report) (s : State) : (react lvl chip cls fresh w0 w2 r s).fixed = s.fixed := by
  unfold react
  split
  · split <;> simp [fixed_mk, fixed_ite, ite_self, fixed_foldl, fst_ite, snd_ite, after_next, after_ite, implies_true, fixed_elim, faultEvent_fixed, takeL1_fixed, takeL3_fixed, takeL4_fixed]
  · simp [fixed_mk, fixed_ite, ite_self, fixed_foldl, fst_ite, snd_ite, after_next, after_ite, implies_true, fixed_elim, faultEvent_fixed, takeL1_fixed, takeL3_fixed, takeL4_fixed]
  · split
    · rename_i s' h
      simp [fixed_mk, fixed_ite, ite_self, fixed_foldl, fst_ite, snd_ite, after_next, after_ite, implies_true, fixed_elim, faultEvent_fixed, takeL1_fixed, takeL3_fixed, takeL4_fixed, blockReset_fixed _ _ _ _ h]
    · simp [fixed_mk, fixed_ite, ite_self, fixed_foldl, fst_ite, snd_ite, after_next, after_ite, implies_true, fixed_elim, faultEvent_fixed, takeL1_fixed, takeL3_fixed, takeL4_fixed]
  · simp [fixed_mk, fixed_ite, ite_self, fixed_foldl, fst_ite, snd_ite, after_next, after_ite, implies_true, fixed_elim, faultEvent_fixed, takeL1_fixed, takeL3_fixed, takeL4_fixed]
  · simp [fixed_mk, fixed_ite, ite_self, fixed_foldl, fst_ite, snd_ite, after_next, after_ite, implies_true, fixed_elim, faultEvent_fixed, takeL1_fixed, takeL3_fixed, takeL4_fixed]

@[simp] theorem newFault_fixed (r : Report) (cls : Nat) (fresh : Bool) (s : State) : (newFault r cls fresh s).fixed = s.fixed := by
  simp only [newFault, fixed_mk, fixed_ite, ite_self, fixed_foldl, fst_ite, snd_ite, after_next, after_ite, implies_true, fixed_elim, bump_fixed, modCls_fixed, react_fixed]

set_option maxRecDepth 4000 in
@[simp] theorem report_fixed (r : Report) (s : State) : (report r s).fixed = s.fixed := by
  simp only [report, fixed_mk, fixed_ite, ite_self, fixed_foldl, fst_ite, snd_ite, after_next, after_ite, implies_true, fixed_elim, bump_fixed, modFaults_fixed, newFault_fixed]
  repeat' split
  all_goals (first | (with_reducible rfl) | simp only [fixed_mk, fixed_ite, ite_self, fixed_foldl, fst_ite, snd_ite, after_next, after_ite, implies_true, fixed_elim, bump_fixed, modFaults_fixed, newFault_fixed])

@[simp] theorem reportL_fixed (src inst : Nat) (s : State) : (reportL src inst s).fixed = s.fixed := by
  simp only [reportL, fixed_mk, fixed_ite, ite_self, fixed_foldl, fst_ite, snd_ite, after_next, after_ite, implies_true, fixed_elim, report_fixed]

@[simp] theorem passed3_fixed (r : Req) (s : State) : (passed3 r s).fixed = s.fixed := by
  simp only [passed3, fixed_mk, fixed_ite, ite_self, fixed_foldl, fst_ite, snd_ite, after_next, after_ite, implies_true, fixed_elim, bump_fixed, modSlot_fixed, sendHeld_fixed]

set_option maxRecDepth 4000 in
@[simp] theorem settle_fixed (e : Entry) (a : Ans) (s : State) : (settle e a s).fixed = s.fixed := by
  simp only [settle, fixed_mk, fixed_ite, ite_self, fixed_foldl, fst_ite, snd_ite, after_next, after_ite, implies_true, fixed_elim, closeSlot_fixed, complete_fixed, giveQueued_fixed, modEntry_fixed]
  repeat' split
  all_goals (first | (with_reducible rfl) | simp only [fixed_mk, fixed_ite, ite_self, fixed_foldl, fst_ite, snd_ite, after_next, after_ite, implies_true, fixed_elim, closeSlot_fixed, complete_fixed, giveQueued_fixed, modEntry_fixed])

set_option maxRecDepth 4000 in
@[simp] theorem carryOut_fixed (o : OpInfo) (e : Entry) (s : State) (hr : ∀ e s, (o.run e s).1.fixed = s.fixed) : (carryOut o e s).fixed = s.fixed := by
  unfold carryOut
  split
  · simp [fixed_mk, fixed_ite, ite_self, fixed_foldl, fst_ite, snd_ite, after_next, after_ite, implies_true, fixed_elim, complete_fixed, modEntry_fixed, settle_fixed, hr]
  · simp [fixed_mk, fixed_ite, ite_self, fixed_foldl, fst_ite, snd_ite, after_next, after_ite, implies_true, fixed_elim, complete_fixed, modEntry_fixed, settle_fixed, hr]

@[simp] theorem accept_fixed (o : OpInfo) (r : Req) (s : State) (ha : ∀ e s, (o.onAccept e s).fixed = s.fixed) : (accept o r s).fixed = s.fixed := by
  simp only [accept, fixed_mk, fixed_ite, ite_self, fixed_foldl, fst_ite, snd_ite, after_next, after_ite, implies_true, fixed_elim, complete_fixed, giveQueued_fixed, modEntry_fixed, modFlight_fixed, ha]

set_option maxRecDepth 4000 in
@[simp] theorem submit_fixed (o : OpInfo) (r : Req) (s : State) (hr : ∀ e s, (o.run e s).1.fixed = s.fixed) (ha : ∀ e s, (o.onAccept e s).fixed = s.fixed) : (submit o r s).fixed = s.fixed := by
  unfold submit
  split
  · simp [fixed_mk, fixed_ite, ite_self, fixed_foldl, fst_ite, snd_ite, after_next, after_ite, implies_true, fixed_elim, accept_fixed, carryOut_fixed, pushOut_fixed, hr, ha]
  · have h1 := accept_fixed o r s ha
    dsimp only
    split
    · rename_i e h
      split
      · rw [carryOut_fixed o e _ hr, h1]
      · exact h1
    · exact h1

set_option maxRecDepth 4000 in
@[simp] theorem command_fixed (o : OpInfo) (r : Req) (s : State) (hr : ∀ e s, (o.run e s).1.fixed = s.fixed) (ha : ∀ e s, (o.onAccept e s).fixed = s.fixed) : (command o r s).fixed = s.fixed := by
  simp [command, fixed_mk, fixed_ite, ite_self, fixed_foldl, fst_ite, snd_ite, after_next, after_ite, implies_true, fixed_elim, passed3_fixed, submit_fixed, toL_fixed, hr, ha]

@[simp] theorem driveGates_fixed (k : Nat) (s : State) : (driveGates k s).fixed = s.fixed := by
  simp only [driveGates, fixed_mk, fixed_ite, ite_self, fixed_foldl, fst_ite, snd_ite, after_next, after_ite, implies_true, fixed_elim, modCell_fixed, modSkP_fixed]

@[simp] theorem accrue_fixed (k : Nat) (s : State) : (accrue k s).fixed = s.fixed := by
  simp only [accrue, fixed_mk, fixed_ite, ite_self, fixed_foldl, fst_ite, snd_ite, after_next, after_ite, implies_true, fixed_elim, modCell_fixed, modSkP_fixed]

set_option maxRecDepth 4000 in
@[simp] theorem changeSkP_fixed (k : Nat) (f : State → State) (s : State) (hf : ∀ s, (f s).fixed = s.fixed) : (changeSkP k f s).fixed = s.fixed := by
  simp [changeSkP, fixed_mk, fixed_ite, ite_self, fixed_foldl, fst_ite, snd_ite, after_next, after_ite, implies_true, fixed_elim, accrue_fixed, driveGates_fixed, hf]

@[simp] theorem spoilPrint_fixed (k : Nat) (s : State) : (spoilPrint k s).fixed = s.fixed := by
  simp only [spoilPrint, fixed_mk, fixed_ite, ite_self, fixed_foldl, fst_ite, snd_ite, after_next, after_ite, implies_true, fixed_elim, modSkP_fixed]

set_option maxRecDepth 4000 in
@[simp] theorem presentCell_fixed (n : Nat) (s : State) : (presentCell n s).fixed = s.fixed := by
  unfold presentCell
  repeat' (first | (with_reducible rfl) | (simp [fixed_mk, fixed_ite, ite_self, fixed_foldl, fst_ite, snd_ite, after_next, after_ite, implies_true, fixed_elim, changeSkP_fixed]; done) | split | (refine fixed_foldl _ (fun s x => ?_) _ _))

@[simp] theorem pushCfg_fixed (i : CfgItem) (s : State) : (pushCfg i s).2.fixed = s.fixed := by
  simp only [pushCfg, fixed_mk, fixed_ite, ite_self, fixed_foldl, fst_ite, snd_ite, after_next, after_ite, implies_true, fixed_elim, modWeft_fixed]

@[simp] theorem pushCfg'_fixed (i : CfgItem) (s : State) : (pushCfg' i s).fixed = s.fixed := by
  simp only [pushCfg', fixed_mk, fixed_ite, ite_self, fixed_foldl, fst_ite, snd_ite, after_next, after_ite, implies_true, fixed_elim, pushCfg_fixed]

@[simp] theorem pushUp_fixed (b : UpBody) (s : State) : (pushUp b s).fixed = s.fixed := by
  simp only [pushUp, fixed_mk, fixed_ite, ite_self, fixed_foldl, fst_ite, snd_ite, after_next, after_ite, implies_true, fixed_elim, modP_fixed]

@[simp] theorem reportP_fixed (src inst detail : Nat) (s : State) : (reportP src inst detail s).fixed = s.fixed := by
  simp only [reportP, fixed_mk, fixed_ite, ite_self, fixed_foldl, fst_ite, snd_ite, after_next, after_ite, implies_true, fixed_elim, pushUp_fixed]

@[simp] theorem pushCellOut_fixed (n cause : Nat) (s : State) : (pushCellOut n cause s).fixed = s.fixed := by
  simp only [pushCellOut, fixed_mk, fixed_ite, ite_self, fixed_foldl, fst_ite, snd_ite, after_next, after_ite, implies_true, fixed_elim, modP_fixed, pushUp_fixed]

@[simp] theorem wakeHeard_fixed (src : Nat) (s : State) : (wakeHeard src s).fixed = s.fixed := by
  simp only [wakeHeard, fixed_mk, fixed_ite, ite_self, fixed_foldl, fst_ite, snd_ite, after_next, after_ite, implies_true, fixed_elim]

@[simp] theorem modKeys_fixed (f : KeySt → KeySt) (s : State) : (modKeys f s).fixed = s.fixed := by
  simp only [modKeys, fixed_mk, fixed_ite, ite_self, fixed_foldl, fst_ite, snd_ite, after_next, after_ite, implies_true, fixed_elim]

@[simp] theorem modKeySlot_fixed (n : Nat) (f : KeySlot → KeySlot) (s : State) : (modKeySlot n f s).fixed = s.fixed := by
  simp only [modKeySlot, fixed_mk, fixed_ite, ite_self, fixed_foldl, fst_ite, snd_ite, after_next, after_ite, implies_true, fixed_elim, modKeys_fixed]

set_option maxRecDepth 4000 in
@[simp] theorem countLoad_fixed (n : Nat) (r : Except Status (List Byte)) (s : State) : (countLoad n r s).fixed = s.fixed := by
  simp only [countLoad, fixed_mk, fixed_ite, ite_self, fixed_foldl, fst_ite, snd_ite, after_next, after_ite, implies_true, fixed_elim, bump_fixed]
  repeat' split
  all_goals (first | (with_reducible rfl) | simp only [fixed_mk, fixed_ite, ite_self, fixed_foldl, fst_ite, snd_ite, after_next, after_ite, implies_true, fixed_elim, bump_fixed])

@[simp] theorem keyEvent_fixed (slot reason code : Nat) (s : State) : (keyEvent slot reason code s).fixed = s.fixed := by
  simp only [keyEvent, fixed_mk, fixed_ite, ite_self, fixed_foldl, fst_ite, snd_ite, after_next, after_ite, implies_true, fixed_elim, postEvent_fixed]

@[simp] theorem endByKey_fixed (n : Nat) (keep : Option (Nat × Nat)) (s : State) : (endByKey n keep s).fixed = s.fixed := by
  simp only [endByKey, fixed_mk, fixed_ite, ite_self, fixed_foldl, fst_ite, snd_ite, after_next, after_ite, implies_true, fixed_elim, modFlight_fixed, modSlot_fixed]

set_option maxRecDepth 4000 in
@[simp] theorem endDeadSessions_fixed (keep : Option (Nat × Nat)) (s : State) : (endDeadSessions keep s).fixed = s.fixed := by
  unfold endDeadSessions
  refine fixed_foldl _ (fun s x => ?_) _ _
  repeat' (first | (with_reducible rfl) | (simp only [fixed_mk, fixed_ite, ite_self, fixed_foldl, fst_ite, snd_ite, after_next, after_ite, implies_true, fixed_elim, endByKey_fixed]; done) | split | simp only [fixed_mk, fixed_ite, ite_self, fixed_foldl, fst_ite, snd_ite, after_next, after_ite, implies_true, fixed_elim, endByKey_fixed])

@[simp] theorem storeChange_fixed (reason slot : Nat) (s : State) : (storeChange reason slot s).fixed = s.fixed := by
  simp only [storeChange, fixed_mk, fixed_ite, ite_self, fixed_foldl, fst_ite, snd_ite, after_next, after_ite, implies_true, fixed_elim, modKeys_fixed]

@[simp] theorem keyWriteStart_fixed (s : State) : (keyWriteStart s).fixed = s.fixed := by
  simp only [keyWriteStart, fixed_mk, fixed_ite, ite_self, fixed_foldl, fst_ite, snd_ite, after_next, after_ite, implies_true, fixed_elim, modKeys_fixed]

@[simp] theorem keyWriteDone_fixed (v : Vector KeySlot 64) (s : State) : (keyWriteDone v s).fixed = s.fixed := by
  simp only [keyWriteDone, fixed_mk, fixed_ite, ite_self, fixed_foldl, fst_ite, snd_ite, after_next, after_ite, implies_true, fixed_elim, bump_fixed, completeAll_fixed, keyEvent_fixed, modKeys_fixed]

@[simp] theorem keyWriteFailed_fixed (s : State) : (keyWriteFailed s).fixed = s.fixed := by
  simp only [keyWriteFailed, fixed_mk, fixed_ite, ite_self, fixed_foldl, fst_ite, snd_ite, after_next, after_ite, implies_true, fixed_elim, completeAll_fixed, endDeadSessions_fixed, keyEvent_fixed, modKeys_fixed]

set_option maxRecDepth 4000 in
@[simp] theorem keyBankVerified_fixed (t : Nat) (ok : Bool) (s : State) : (keyBankVerified t ok s).fixed = s.fixed := by
  unfold keyBankVerified
  repeat' (first | (with_reducible rfl) | (simp only [fixed_mk, fixed_ite, ite_self, fixed_foldl, fst_ite, snd_ite, after_next, after_ite, implies_true, fixed_elim, keyWriteDone_fixed, keyWriteFailed_fixed, modKeys_fixed, toL_fixed]; done) | split | simp only [fixed_mk, fixed_ite, ite_self, fixed_foldl, fst_ite, snd_ite, after_next, after_ite, implies_true, fixed_elim, keyWriteDone_fixed, keyWriteFailed_fixed, modKeys_fixed, toL_fixed])

@[simp] theorem startZeroise_fixed (code : Nat) (host : Option (Nat × Nat)) (s : State) : (startZeroise code host s).fixed = s.fixed := by
  simp only [startZeroise, fixed_mk, fixed_ite, ite_self, fixed_foldl, fst_ite, snd_ite, after_next, after_ite, implies_true, fixed_elim, completeAll_fixed, modKeys_fixed]

@[simp] theorem seeTamper_fixed (s : State) : (seeTamper s).fixed = s.fixed := by
  simp only [seeTamper, fixed_mk, fixed_ite, ite_self, fixed_foldl, fst_ite, snd_ite, after_next, after_ite, implies_true, fixed_elim, modKeys_fixed, reportL_fixed, startZeroise_fixed]

@[simp] theorem zeroStep1_fixed (z : Zeroise) (s : State) : (zeroStep1 z s).fixed = s.fixed := by
  simp only [zeroStep1, fixed_mk, fixed_ite, ite_self, fixed_foldl, fst_ite, snd_ite, after_next, after_ite, implies_true, fixed_elim, endByKey_fixed, modSlot_fixed]

@[simp] theorem zeroStep2_fixed (s : State) : (zeroStep2 s).fixed = s.fixed := by
  simp only [zeroStep2, fixed_mk, fixed_ite, ite_self, fixed_foldl, fst_ite, snd_ite, after_next, after_ite, implies_true, fixed_elim, freeBytes_fixed, modKeys_fixed]

@[simp] theorem zeroStep3_fixed (s : State) : (zeroStep3 s).fixed = s.fixed := by
  simp only [zeroStep3, fixed_mk, fixed_ite, ite_self, fixed_foldl, fst_ite, snd_ite, after_next, after_ite, implies_true, fixed_elim, modKeys_fixed]

@[simp] theorem zeroEnd_fixed (code : Nat) (s : State) : (zeroEnd code s).fixed = s.fixed := by
  simp only [zeroEnd, fixed_mk, fixed_ite, ite_self, fixed_foldl, fst_ite, snd_ite, after_next, after_ite, implies_true, fixed_elim, keyEvent_fixed, modKeys_fixed]

set_option maxRecDepth 4000 in
@[simp] theorem execZeroisationStepDone_fixed (t : Nat) (s : State) : (after (execZeroisationStepDone t s) s).fixed = s.fixed := by
  unfold execZeroisationStepDone
  repeat' (first | (with_reducible rfl) | (simp only [fixed_mk, fixed_ite, ite_self, fixed_foldl, fst_ite, snd_ite, after_next, after_ite, implies_true, fixed_elim, completeAll_fixed, modKeys_fixed, toL_fixed, zeroEnd_fixed, zeroStep1_fixed, zeroStep2_fixed, zeroStep3_fixed]; done) | split | simp only [fixed_mk, fixed_ite, ite_self, fixed_foldl, fst_ite, snd_ite, after_next, after_ite, implies_true, fixed_elim, completeAll_fixed, modKeys_fixed, toL_fixed, zeroEnd_fixed, zeroStep1_fixed, zeroStep2_fixed, zeroStep3_fixed])

@[simp] theorem completeZeroise_fixed (s : State) : (completeZeroise s).fixed = s.fixed := by
  simp only [completeZeroise, fixed_mk, fixed_ite, ite_self, fixed_foldl, fst_ite, snd_ite, after_next, after_ite, implies_true, fixed_elim, modKeys_fixed, zeroEnd_fixed, zeroStep2_fixed, zeroStep3_fixed]

@[simp] theorem loadBanks_fixed (a b : Nat) (s : State) : (loadBanks a b s).fixed = s.fixed := by
  simp only [loadBanks, fixed_mk, fixed_ite, ite_self, fixed_foldl, fst_ite, snd_ite, after_next, after_ite, implies_true, fixed_elim, keyEvent_fixed, modKeys_fixed, reportL_fixed]

@[simp] theorem execKeyStoreReady_fixed (t a b : Nat) (s : State) : (after (execKeyStoreReady t a b s) s).fixed = s.fixed := by
  simp only [execKeyStoreReady, fixed_mk, fixed_ite, ite_self, fixed_foldl, fst_ite, snd_ite, after_next, after_ite, implies_true, fixed_elim, completeZeroise_fixed, keyEvent_fixed, loadBanks_fixed, seeTamper_fixed, toL_fixed]

@[simp] theorem execTrngHealthFail_fixed (t : Nat) (s : State) : (after (execTrngHealthFail t s) s).fixed = s.fixed := by
  simp only [execTrngHealthFail, fixed_mk, fixed_ite, ite_self, fixed_foldl, fst_ite, snd_ite, after_next, after_ite, implies_true, fixed_elim, modKeys_fixed, reportL_fixed, toL_fixed]

set_option maxRecDepth 4000 in
@[simp] theorem execTrngHealthPass_fixed (t : Nat) (s : State) : (after (execTrngHealthPass t s) s).fixed = s.fixed := by
  simp only [execTrngHealthPass, fixed_mk, fixed_ite, ite_self, fixed_foldl, fst_ite, snd_ite, after_next, after_ite, implies_true, fixed_elim, keyEvent_fixed, modKeys_fixed, toL_fixed, zeroEnd_fixed, zeroStep2_fixed]
  repeat' split
  all_goals (first | (with_reducible rfl) | simp only [fixed_mk, fixed_ite, ite_self, fixed_foldl, fst_ite, snd_ite, after_next, after_ite, implies_true, fixed_elim, keyEvent_fixed, modKeys_fixed, toL_fixed, zeroEnd_fixed, zeroStep2_fixed])

@[simp] theorem keyProvision_fixed (r : Req) (s : State) : (keyProvision r s).1.fixed = s.fixed := by
  simp only [keyProvision, fixed_mk, fixed_ite, ite_self, fixed_foldl, fst_ite, snd_ite, after_next, after_ite, implies_true, fixed_elim, bump_fixed, modKeySlot_fixed, storeChange_fixed]

@[simp] theorem execKeyProvision_fixed (r : Req) (s : State) : (after (execKeyProvision r s) s).fixed = s.fixed := by
  simp only [execKeyProvision, fixed_mk, fixed_ite, ite_self, fixed_foldl, fst_ite, snd_ite, after_next, after_ite, implies_true, fixed_elim, command_fixed, keyProvision_fixed, infoKeyProvision]

@[simp] theorem keyDerive_fixed (r : Req) (s : State) : (keyDerive r s).1.fixed = s.fixed := by
  simp only [keyDerive, fixed_mk, fixed_ite, ite_self, fixed_foldl, fst_ite, snd_ite, after_next, after_ite, implies_true, fixed_elim, bump_fixed, countLoad_fixed, endDeadSessions_fixed, modKeySlot_fixed, storeChange_fixed]

@[simp] theorem execKeyDerive_fixed (r : Req) (s : State) : (after (execKeyDerive r s) s).fixed = s.fixed := by
  simp only [execKeyDerive, fixed_mk, fixed_ite, ite_self, fixed_foldl, fst_ite, snd_ite, after_next, after_ite, implies_true, fixed_elim, command_fixed, keyDerive_fixed, infoKeyDerive]

@[simp] theorem keyInvalidate_fixed (e : Entry) (s : State) : (keyInvalidate e s).1.fixed = s.fixed := by
  simp only [keyInvalidate, fixed_mk, fixed_ite, ite_self, fixed_foldl, fst_ite, snd_ite, after_next, after_ite, implies_true, fixed_elim, endDeadSessions_fixed, modKeySlot_fixed, storeChange_fixed]

@[simp] theorem rootRetire_fixed (r : Req) (s : State) : (rootRetire r s).1.fixed = s.fixed := by
  simp only [rootRetire, fixed_mk, fixed_ite, ite_self, fixed_foldl, fst_ite, snd_ite, after_next, after_ite, implies_true, fixed_elim]

@[simp] theorem execKeyInvalidate_fixed (r : Req) (s : State) : (after (execKeyInvalidate r s) s).fixed = s.fixed := by
  simp only [execKeyInvalidate, fixed_mk, fixed_ite, ite_self, fixed_foldl, fst_ite, snd_ite, after_next, after_ite, implies_true, fixed_elim, command_fixed, keyInvalidate_fixed, rootRetire_fixed, infoKeyInvalidate]

@[simp] theorem execTransportRootRetire_fixed (r : Req) (s : State) : (after (execTransportRootRetire r s) s).fixed = s.fixed := by
  simp only [execTransportRootRetire, fixed_mk, fixed_ite, ite_self, fixed_foldl, fst_ite, snd_ite, after_next, after_ite, implies_true, fixed_elim, command_fixed, keyInvalidate_fixed, rootRetire_fixed, infoKeyInvalidate]

@[simp] theorem rootRetired_fixed (ok : Bool) (s : State) : (rootRetired ok s).fixed = s.fixed := by
  simp only [rootRetired, fixed_mk, fixed_ite, ite_self, fixed_foldl, fst_ite, snd_ite, after_next, after_ite, implies_true, fixed_elim, completeAll_fixed, endDeadSessions_fixed]

@[simp] theorem execKeyInfo_fixed (r : Req) (s : State) : (after (execKeyInfo r s) s).fixed = s.fixed := by
  simp only [execKeyInfo, fixed_mk, fixed_ite, ite_self, fixed_foldl, fst_ite, snd_ite, after_next, after_ite, implies_true, fixed_elim, command_fixed, infoKeyInfo]

@[simp] theorem zeroise_fixed (r : Req) (s : State) : (zeroise r s).1.fixed = s.fixed := by
  simp only [zeroise, fixed_mk, fixed_ite, ite_self, fixed_foldl, fst_ite, snd_ite, after_next, after_ite, implies_true, fixed_elim, startZeroise_fixed]

@[simp] theorem execZeroise_fixed (r : Req) (s : State) : (after (execZeroise r s) s).fixed = s.fixed := by
  simp only [execZeroise, fixed_mk, fixed_ite, ite_self, fixed_foldl, fst_ite, snd_ite, after_next, after_ite, implies_true, fixed_elim, command_fixed, zeroise_fixed, infoZeroise]

set_option maxRecDepth 4000 in
@[simp] theorem shaOp_fixed (n step : Nat) (data : List Byte) (s : State) : (shaOp n step data s).1.fixed = s.fixed := by
  simp only [shaOp, fixed_mk, fixed_ite, ite_self, fixed_foldl, fst_ite, snd_ite, after_next, after_ite, implies_true, fixed_elim, modSlot_fixed]
  repeat' split
  all_goals (first | (with_reducible rfl) | simp only [fixed_mk, fixed_ite, ite_self, fixed_foldl, fst_ite, snd_ite, after_next, after_ite, implies_true, fixed_elim, modSlot_fixed])

set_option maxRecDepth 4000 in
@[simp] theorem keylessOp_fixed (r : Req) (s : State) : (keylessOp r s).1.fixed = s.fixed := by
  simp only [keylessOp, fixed_mk, fixed_ite, ite_self, fixed_foldl, fst_ite, snd_ite, after_next, after_ite, implies_true, fixed_elim, freeBytes_fixed, shaOp_fixed]
  repeat' split
  all_goals (first | (with_reducible rfl) | simp only [fixed_mk, fixed_ite, ite_self, fixed_foldl, fst_ite, snd_ite, after_next, after_ite, implies_true, fixed_elim, freeBytes_fixed, shaOp_fixed])

set_option maxRecDepth 4000 in
@[simp] theorem cryptoOp_fixed (r : Req) (s : State) : (cryptoOp r s).1.fixed = s.fixed := by
  simp only [cryptoOp, fixed_mk, fixed_ite, ite_self, fixed_foldl, fst_ite, snd_ite, after_next, after_ite, implies_true, fixed_elim, bump_fixed, countLoad_fixed, keylessOp_fixed]
  repeat' split
  all_goals (first | (with_reducible rfl) | simp only [fixed_mk, fixed_ite, ite_self, fixed_foldl, fst_ite, snd_ite, after_next, after_ite, implies_true, fixed_elim, bump_fixed, countLoad_fixed, keylessOp_fixed])

@[simp] theorem execEncrypt_fixed (r : Req) (s : State) : (after (execEncrypt r s) s).fixed = s.fixed := by
  simp only [execEncrypt, fixed_mk, fixed_ite, ite_self, fixed_foldl, fst_ite, snd_ite, after_next, after_ite, implies_true, fixed_elim, command_fixed, cryptoOp_fixed, infoCryptoOp, infoCryptoOp, infoCryptoOp, infoCryptoOp, infoCryptoOp, infoCryptoOp, infoCryptoOp]

@[simp] theorem execDecrypt_fixed (r : Req) (s : State) : (after (execDecrypt r s) s).fixed = s.fixed := by
  simp only [execDecrypt, fixed_mk, fixed_ite, ite_self, fixed_foldl, fst_ite, snd_ite, after_next, after_ite, implies_true, fixed_elim, command_fixed, cryptoOp_fixed, infoCryptoOp, infoCryptoOp, infoCryptoOp, infoCryptoOp, infoCryptoOp, infoCryptoOp]

@[simp] theorem execMacGen_fixed (r : Req) (s : State) : (after (execMacGen r s) s).fixed = s.fixed := by
  simp only [execMacGen, fixed_mk, fixed_ite, ite_self, fixed_foldl, fst_ite, snd_ite, after_next, after_ite, implies_true, fixed_elim, command_fixed, cryptoOp_fixed, infoCryptoOp, infoCryptoOp, infoCryptoOp, infoCryptoOp, infoCryptoOp]

@[simp] theorem execMacVer_fixed (r : Req) (s : State) : (after (execMacVer r s) s).fixed = s.fixed := by
  simp only [execMacVer, fixed_mk, fixed_ite, ite_self, fixed_foldl, fst_ite, snd_ite, after_next, after_ite, implies_true, fixed_elim, command_fixed, cryptoOp_fixed, infoCryptoOp, infoCryptoOp, infoCryptoOp, infoCryptoOp]

@[simp] theorem execSha256_fixed (r : Req) (s : State) : (after (execSha256 r s) s).fixed = s.fixed := by
  simp only [execSha256, fixed_mk, fixed_ite, ite_self, fixed_foldl, fst_ite, snd_ite, after_next, after_ite, implies_true, fixed_elim, command_fixed, cryptoOp_fixed, infoCryptoOp, infoCryptoOp, infoCryptoOp]

@[simp] theorem execEcdsaVerify_fixed (r : Req) (s : State) : (after (execEcdsaVerify r s) s).fixed = s.fixed := by
  simp only [execEcdsaVerify, fixed_mk, fixed_ite, ite_self, fixed_foldl, fst_ite, snd_ite, after_next, after_ite, implies_true, fixed_elim, command_fixed, cryptoOp_fixed, infoCryptoOp, infoCryptoOp]

@[simp] theorem execRandom_fixed (r : Req) (s : State) : (after (execRandom r s) s).fixed = s.fixed := by
  simp only [execRandom, fixed_mk, fixed_ite, ite_self, fixed_foldl, fst_ite, snd_ite, after_next, after_ite, implies_true, fixed_elim, command_fixed, cryptoOp_fixed, infoCryptoOp]

set_option maxRecDepth 4000 in
@[simp] theorem cellGoesOut_fixed (n cause : Nat) (mark : CellP → CellP) (s : State) : (cellGoesOut n cause mark s).fixed = s.fixed := by
  simp [cellGoesOut, fixed_mk, fixed_ite, ite_self, fixed_foldl, fst_ite, snd_ite, after_next, after_ite, implies_true, fixed_elim, accrue_fixed, bump_fixed, driveGates_fixed, modCell_fixed, pushCellOut_fixed, reportP_fixed, spoilPrint_fixed]

@[simp] theorem makeReady_fixed (n : Nat) (s : State) : (makeReady n s).fixed = s.fixed := by
  simp only [makeReady, fixed_mk, fixed_ite, ite_self, fixed_foldl, fst_ite, snd_ite, after_next, after_ite, implies_true, fixed_elim, modCell_fixed]

@[simp] theorem retrySkein_fixed (k : Nat) (s : State) : (retrySkein k s).fixed = s.fixed := by
  simp only [retrySkein, fixed_mk, fixed_ite, ite_self, fixed_foldl, fst_ite, snd_ite, after_next, after_ite, implies_true, fixed_elim, accrue_fixed, bump_fixed, driveGates_fixed, makeReady_fixed, modSkP_fixed]

set_option maxRecDepth 4000 in
@[simp] theorem leavePause_fixed (n : Nat) (s : State) : (leavePause n s).fixed = s.fixed := by
  simp only [leavePause, fixed_mk, fixed_ite, ite_self, fixed_foldl, fst_ite, snd_ite, after_next, after_ite, implies_true, fixed_elim, makeReady_fixed, retrySkein_fixed]
  repeat' split
  all_goals (first | (with_reducible rfl) | simp only [fixed_mk, fixed_ite, ite_self, fixed_foldl, fst_ite, snd_ite, after_next, after_ite, implies_true, fixed_elim, makeReady_fixed, retrySkein_fixed])

@[simp] theorem pauseOver_fixed (n : Nat) (s : State) : (pauseOver n s).fixed = s.fixed := by
  simp only [pauseOver, fixed_mk, fixed_ite, ite_self, fixed_foldl, fst_ite, snd_ite, after_next, after_ite, implies_true, fixed_elim, leavePause_fixed, modCell_fixed]

@[simp] theorem foldCell_fixed (n : Nat) (s : State) : (foldCell n s).fixed = s.fixed := by
  simp only [foldCell, fixed_mk, fixed_ite, ite_self, fixed_foldl, fst_ite, snd_ite, after_next, after_ite, implies_true, fixed_elim, modCell_fixed]

@[simp] theorem ledgerFold_fixed (s : State) : (ledgerFold s).fixed = s.fixed := by
  simp only [ledgerFold, fixed_mk, fixed_ite, ite_self, fixed_foldl, fst_ite, snd_ite, after_next, after_ite, implies_true, fixed_elim, accrue_fixed, driveGates_fixed, foldCell_fixed]

@[simp] theorem syncEnvelope_fixed (k : Nat) (s : State) : (syncEnvelope k s).fixed = s.fixed := by
  simp only [syncEnvelope, fixed_mk, fixed_ite, ite_self, fixed_foldl, fst_ite, snd_ite, after_next, after_ite, implies_true, fixed_elim, modSkL_fixed, pushCfg'_fixed]

@[simp] theorem learnPass_fixed (k : Nat) (s : State) : (learnPass k s).fixed = s.fixed := by
  simp only [learnPass, fixed_mk, fixed_ite, ite_self, fixed_foldl, fst_ite, snd_ite, after_next, after_ite, implies_true, fixed_elim, modSkL_fixed, reportL_fixed, syncEnvelope_fixed]

set_option maxRecDepth 4000 in
@[simp] theorem relearn_fixed (k : Nat) (s : State) : (relearn k s).fixed = s.fixed := by
  simp only [relearn, fixed_mk, fixed_ite, ite_self, fixed_foldl, fst_ite, snd_ite, after_next, after_ite, implies_true, fixed_elim, modSkL_fixed, syncEnvelope_fixed]
  repeat' split
  all_goals (first | (with_reducible rfl) | simp only [fixed_mk, fixed_ite, ite_self, fixed_foldl, fst_ite, snd_ite, after_next, after_ite, implies_true, fixed_elim, modSkL_fixed, syncEnvelope_fixed])

@[simp] theorem clearLearn_fixed (k more : Nat) (s : State) : (clearLearn k more s).fixed = s.fixed := by
  simp only [clearLearn, fixed_mk, fixed_ite, ite_self, fixed_foldl, fst_ite, snd_ite, after_next, after_ite, implies_true, fixed_elim, modSkL_fixed, relearn_fixed]

@[simp] theorem clearLatchP_fixed (k : Nat) (s : State) : (clearLatchP k s).fixed = s.fixed := by
  simp only [clearLatchP, fixed_mk, fixed_ite, ite_self, fixed_foldl, fst_ite, snd_ite, after_next, after_ite, implies_true, fixed_elim, accrue_fixed, driveGates_fixed, modCell_fixed, modSkP_fixed]

@[simp] theorem openPrint_fixed (k : Nat) (s : State) : (openPrint k s).fixed = s.fixed := by
  simp only [openPrint, fixed_mk, fixed_ite, ite_self, fixed_foldl, fst_ite, snd_ite, after_next, after_ite, implies_true, fixed_elim, modSkP_fixed]

@[simp] theorem dropPrint_fixed (k : Nat) (s : State) : (dropPrint k s).fixed = s.fixed := by
  simp only [dropPrint, fixed_mk, fixed_ite, ite_self, fixed_foldl, fst_ite, snd_ite, after_next, after_ite, implies_true, fixed_elim, modSkP_fixed]

@[simp] theorem takeEnvelope_fixed (k : Nat) (s : State) : (takeEnvelope k s).fixed = s.fixed := by
  simp only [takeEnvelope, fixed_mk, fixed_ite, ite_self, fixed_foldl, fst_ite, snd_ite, after_next, after_ite, implies_true, fixed_elim, modSkP_fixed]

set_option maxRecDepth 4000 in
@[simp] theorem execTripDecision_fixed (t n current : Nat) (s : State) : (after (execTripDecision t n current s) s).fixed = s.fixed := by
  simp only [execTripDecision, fixed_mk, fixed_ite, ite_self, fixed_foldl, fst_ite, snd_ite, after_next, after_ite, implies_true, fixed_elim, bump_fixed, cellGoesOut_fixed, presentCell_fixed, toP_fixed]
  repeat' split
  all_goals (first | (with_reducible rfl) | simp only [fixed_mk, fixed_ite, ite_self, fixed_foldl, fst_ite, snd_ite, after_next, after_ite, implies_true, fixed_elim, bump_fixed, cellGoesOut_fixed, presentCell_fixed, toP_fixed])

set_option maxRecDepth 4000 in
@[simp] theorem execLimitTimeout_fixed (t n : Nat) (others : List Nat) (s : State) : (after (execLimitTimeout t n others s) s).fixed = s.fixed := by
  simp only [execLimitTimeout, fixed_mk, fixed_ite, ite_self, fixed_foldl, fst_ite, snd_ite, after_next, after_ite, implies_true, fixed_elim, bump_fixed, cellGoesOut_fixed, presentCell_fixed, toP_fixed]
  repeat' split
  all_goals (first | (with_reducible rfl) | simp only [fixed_mk, fixed_ite, ite_self, fixed_foldl, fst_ite, snd_ite, after_next, after_ite, implies_true, fixed_elim, bump_fixed, cellGoesOut_fixed, presentCell_fixed, toP_fixed])

@[simp] theorem execThermalShutdown_fixed (t n : Nat) (s : State) : (after (execThermalShutdown t n s) s).fixed = s.fixed := by
  simp only [execThermalShutdown, fixed_mk, fixed_ite, ite_self, fixed_foldl, fst_ite, snd_ite, after_next, after_ite, implies_true, fixed_elim, bump_fixed, cellGoesOut_fixed, toP_fixed]

set_option maxRecDepth 4000 in
@[simp] theorem execThermalRelease_fixed (t n : Nat) (s : State) : (after (execThermalRelease t n s) s).fixed = s.fixed := by
  simp [execThermalRelease, fixed_mk, fixed_ite, ite_self, fixed_foldl, fst_ite, snd_ite, after_next, after_ite, implies_true, fixed_elim, driveGates_fixed, leavePause_fixed, modCell_fixed, presentCell_fixed, toP_fixed]

@[simp] theorem execClampPulseEnd_fixed (t n energy : Nat) (s : State) : (after (execClampPulseEnd t n energy s) s).fixed = s.fixed := by
  simp only [execClampPulseEnd, fixed_mk, fixed_ite, ite_self, fixed_foldl, fst_ite, snd_ite, after_next, after_ite, implies_true, fixed_elim, bump_fixed, cellGoesOut_fixed, modCell_fixed, toP_fixed]

@[simp] theorem execGateStuck_fixed (t n : Nat) (s : State) : (after (execGateStuck t n s) s).fixed = s.fixed := by
  simp only [execGateStuck, fixed_mk, fixed_ite, ite_self, fixed_foldl, fst_ite, snd_ite, after_next, after_ite, implies_true, fixed_elim, cellGoesOut_fixed, changeSkP_fixed, modSkP_fixed, toP_fixed]

@[simp] theorem execPumpLow_fixed (t n : Nat) (s : State) : (after (execPumpLow t n s) s).fixed = s.fixed := by
  simp only [execPumpLow, fixed_mk, fixed_ite, ite_self, fixed_foldl, fst_ite, snd_ite, after_next, after_ite, implies_true, fixed_elim, cellGoesOut_fixed, toP_fixed]

set_option maxRecDepth 4000 in
@[simp] theorem execPumpRecovered_fixed (t n : Nat) (s : State) : (after (execPumpRecovered t n s) s).fixed = s.fixed := by
  simp [execPumpRecovered, fixed_mk, fixed_ite, ite_self, fixed_foldl, fst_ite, snd_ite, after_next, after_ite, implies_true, fixed_elim, driveGates_fixed, modCell_fixed, presentCell_fixed, toP_fixed]

set_option maxRecDepth 4000 in
@[simp] theorem execLadderPauseEnd_fixed (n : Nat) (s : State) : (after (execLadderPauseEnd n s) s).fixed = s.fixed := by
  simp only [execLadderPauseEnd, fixed_mk, fixed_ite, ite_self, fixed_foldl, fst_ite, snd_ite, after_next, after_ite, implies_true, fixed_elim, pauseOver_fixed, toP_fixed]
  repeat' split
  all_goals (first | (with_reducible rfl) | simp only [fixed_mk, fixed_ite, ite_self, fixed_foldl, fst_ite, snd_ite, after_next, after_ite, implies_true, fixed_elim, pauseOver_fixed, toP_fixed])

set_option maxRecDepth 4000 in
@[simp] theorem execLadderMgmtPauseEnd_fixed (n : Nat) (s : State) : (after (execLadderMgmtPauseEnd n s) s).fixed = s.fixed := by
  simp only [execLadderMgmtPauseEnd, fixed_mk, fixed_ite, ite_self, fixed_foldl, fst_ite, snd_ite, after_next, after_ite, implies_true, fixed_elim, modLoom_fixed, toL_fixed]
  repeat' split
  all_goals (first | (with_reducible rfl) | simp only [fixed_mk, fixed_ite, ite_self, fixed_foldl, fst_ite, snd_ite, after_next, after_ite, implies_true, fixed_elim, modLoom_fixed, toL_fixed])

set_option maxRecDepth 4000 in
@[simp] theorem execCleanRun_fixed (t n : Nat) (s : State) : (after (execCleanRun t n s) s).fixed = s.fixed := by
  simp [execCleanRun, fixed_mk, fixed_ite, ite_self, fixed_foldl, fst_ite, snd_ite, after_next, after_ite, implies_true, fixed_elim, accrue_fixed, modCell_fixed, toP_fixed]

@[simp] theorem execDroopSet_fixed (t b : Nat) (s : State) : (after (execDroopSet t b s) s).fixed = s.fixed := by
  simp only [execDroopSet, fixed_mk, fixed_ite, ite_self, fixed_foldl, fst_ite, snd_ite, after_next, after_ite, implies_true, fixed_elim, bump_fixed, modP_fixed, reportP_fixed, spoilPrint_fixed, toP_fixed]

@[simp] theorem execDroopClear_fixed (t b : Nat) (s : State) : (after (execDroopClear t b s) s).fixed = s.fixed := by
  simp only [execDroopClear, fixed_mk, fixed_ite, ite_self, fixed_foldl, fst_ite, snd_ite, after_next, after_ite, implies_true, fixed_elim, modP_fixed, toP_fixed]

set_option maxRecDepth 4000 in
@[simp] theorem execDroopSuspensionEnd_fixed (b : Nat) (s : State) : (after (execDroopSuspensionEnd b s) s).fixed = s.fixed := by
  simp only [execDroopSuspensionEnd, fixed_mk, fixed_ite, ite_self, fixed_foldl, fst_ite, snd_ite, after_next, after_ite, implies_true, fixed_elim, leavePause_fixed, modP_fixed, toP_fixed]
  repeat' split
  all_goals (first | (with_reducible rfl) | simp only [fixed_mk, fixed_ite, ite_self, fixed_foldl, fst_ite, snd_ite, after_next, after_ite, implies_true, fixed_elim, leavePause_fixed, modP_fixed, toP_fixed])

@[simp] theorem execOffStateDiagFilter_fixed (t k : Nat) (opn stb : Bool) (s : State) : (after (execOffStateDiagFilter t k opn stb s) s).fixed = s.fixed := by
  simp only [execOffStateDiagFilter, fixed_mk, fixed_ite, ite_self, fixed_foldl, fst_ite, snd_ite, after_next, after_ite, implies_true, fixed_elim, modSkP_fixed, reportP_fixed, toP_fixed]

@[simp] theorem execSenseBad_fixed (t n : Nat) (bad : Bool) (s : State) : (after (execSenseBad t n bad s) s).fixed = s.fixed := by
  simp only [execSenseBad, fixed_mk, fixed_ite, ite_self, fixed_foldl, fst_ite, snd_ite, after_next, after_ite, implies_true, fixed_elim, modCell_fixed, presentCell_fixed, reportP_fixed, spoilPrint_fixed, toP_fixed]

@[simp] theorem execSenseSelfTestDone_fixed (t : Nat) (s : State) : (after (execSenseSelfTestDone t s) s).fixed = s.fixed := by
  simp only [execSenseSelfTestDone, fixed_mk, fixed_ite, ite_self, fixed_foldl, fst_ite, snd_ite, after_next, after_ite, implies_true, fixed_elim, modP_fixed, toP_fixed]

@[simp] theorem execMselChange_fixed (t code : Nat) (s : State) : (after (execMselChange t code s) s).fixed = s.fixed := by
  simp only [execMselChange, fixed_mk, fixed_ite, ite_self, fixed_foldl, fst_ite, snd_ite, after_next, after_ite, implies_true, fixed_elim, modP_fixed, toP_fixed]

@[simp] theorem execTamperFlag_fixed (t : Nat) (s : State) : (after (execTamperFlag t s) s).fixed = s.fixed := by
  simp only [execTamperFlag, fixed_mk, fixed_ite, ite_self, fixed_foldl, fst_ite, snd_ite, after_next, after_ite, implies_true, fixed_elim, modP_fixed, toP_fixed]

set_option maxRecDepth 4000 in
@[simp] theorem execFingerprintRecord_fixed (t k : Nat) (currents : List (Option Nat)) (supplies : List Nat) (s : State) : (after (execFingerprintRecord t k currents supplies s) s).fixed = s.fixed := by
  simp only [execFingerprintRecord, fixed_mk, fixed_ite, ite_self, fixed_foldl, fst_ite, snd_ite, after_next, after_ite, implies_true, fixed_elim, modSkP_fixed, pushUp_fixed, toP_fixed]
  repeat' split
  all_goals (first | (with_reducible rfl) | simp only [fixed_mk, fixed_ite, ite_self, fixed_foldl, fst_ite, snd_ite, after_next, after_ite, implies_true, fixed_elim, modSkP_fixed, pushUp_fixed, toP_fixed])

set_option maxRecDepth 4000 in
@[simp] theorem execInrushEnd_fixed (k : Nat) (s : State) : (after (execInrushEnd k s) s).fixed = s.fixed := by
  simp only [execInrushEnd, fixed_mk, fixed_ite, ite_self, fixed_foldl, fst_ite, snd_ite, after_next, after_ite, implies_true, fixed_elim, modSkP_fixed, toP_fixed]
  repeat' split
  all_goals (first | (with_reducible rfl) | simp only [fixed_mk, fixed_ite, ite_self, fixed_foldl, fst_ite, snd_ite, after_next, after_ite, implies_true, fixed_elim, modSkP_fixed, toP_fixed])

set_option maxRecDepth 4000 in
@[simp] theorem execRetryWindowEnd_fixed (k : Nat) (s : State) : (after (execRetryWindowEnd k s) s).fixed = s.fixed := by
  simp only [execRetryWindowEnd, fixed_mk, fixed_ite, ite_self, fixed_foldl, fst_ite, snd_ite, after_next, after_ite, implies_true, fixed_elim, modSkP_fixed, toP_fixed]
  repeat' split
  all_goals (first | (with_reducible rfl) | simp only [fixed_mk, fixed_ite, ite_self, fixed_foldl, fst_ite, snd_ite, after_next, after_ite, implies_true, fixed_elim, modSkP_fixed, toP_fixed])

@[simp] theorem modActP_fixed (a : Nat) (f : ActP → ActP) (s : State) : (modActP a f s).fixed = s.fixed := by
  simp only [modActP, fixed_mk, fixed_ite, ite_self, fixed_foldl, fst_ite, snd_ite, after_next, after_ite, implies_true, fixed_elim, modP_fixed]

@[simp] theorem leaveNow_fixed (k : Nat) (s : State) : (leaveNow k s).fixed = s.fixed := by
  simp only [leaveNow, fixed_mk, fixed_ite, ite_self, fixed_foldl, fst_ite, snd_ite, after_next, after_ite, implies_true, fixed_elim, modSkP_fixed]

@[simp] theorem followSlots_fixed (k : Nat) (s : State) : (followSlots k s).fixed = s.fixed := by
  simp only [followSlots, fixed_mk, fixed_ite, ite_self, fixed_foldl, fst_ite, snd_ite, after_next, after_ite, implies_true, fixed_elim, accrue_fixed, bump_fixed, driveGates_fixed, leaveNow_fixed, modSkP_fixed, openPrint_fixed, takeEnvelope_fixed]

@[simp] theorem followSlot_fixed (a : Nat) (s : State) : (followSlot a s).fixed = s.fixed := by
  simp only [followSlot, fixed_mk, fixed_ite, ite_self, fixed_foldl, fst_ite, snd_ite, after_next, after_ite, implies_true, fixed_elim, followSlots_fixed]

@[simp] theorem reportActAt_fixed (a reason tick : Nat) (s : State) : (reportActAt a reason tick s).fixed = s.fixed := by
  simp only [reportActAt, fixed_mk, fixed_ite, ite_self, fixed_foldl, fst_ite, snd_ite, after_next, after_ite, implies_true, fixed_elim, pushUp_fixed]

@[simp] theorem reportAct_fixed (a reason : Nat) (s : State) : (reportAct a reason s).fixed = s.fixed := by
  simp only [reportAct, fixed_mk, fixed_ite, ite_self, fixed_foldl, fst_ite, snd_ite, after_next, after_ite, implies_true, fixed_elim, reportActAt_fixed]

@[simp] theorem setKink_fixed (a first at' : Nat) (s : State) : (setKink a first at' s).fixed = s.fixed := by
  simp only [setKink, fixed_mk, fixed_ite, ite_self, fixed_foldl, fst_ite, snd_ite, after_next, after_ite, implies_true, fixed_elim, modActP_fixed, reportActAt_fixed]

set_option maxRecDepth 4000 in
@[simp] theorem detectRise_fixed (a : Nat) (means : List Nat) (s : State) : (detectRise a means s).fixed = s.fixed := by
  simp only [detectRise, fixed_mk, fixed_ite, ite_self, fixed_foldl, fst_ite, snd_ite, after_next, after_ite, implies_true, fixed_elim, setKink_fixed]
  repeat' split
  all_goals (first | (with_reducible rfl) | simp only [fixed_mk, fixed_ite, ite_self, fixed_foldl, fst_ite, snd_ite, after_next, after_ite, implies_true, fixed_elim, setKink_fixed])

@[simp] theorem chooseDecay_fixed (a code : Nat) (s : State) : (chooseDecay a code s).2.fixed = s.fixed := by
  simp only [chooseDecay, fixed_mk, fixed_ite, ite_self, fixed_foldl, fst_ite, snd_ite, after_next, after_ite, implies_true, fixed_elim, modActP_fixed, reportAct_fixed, reportP_fixed]

@[simp] theorem startPeak_fixed (a : Nat) (s : State) : (startPeak a s).fixed = s.fixed := by
  simp only [startPeak, fixed_mk, fixed_ite, ite_self, fixed_foldl, fst_ite, snd_ite, after_next, after_ite, implies_true, fixed_elim, followSlot_fixed, modActP_fixed, reportAct_fixed]

@[simp] theorem freeMeans_fixed (n : Nat) (s : State) : (freeMeans n s).2.fixed = s.fixed := by
  simp only [freeMeans, fixed_mk, fixed_ite, ite_self, fixed_foldl, fst_ite, snd_ite, after_next, after_ite, implies_true, fixed_elim]

@[simp] theorem endRise_fixed (a : Nat) (s : State) : (endRise a s).fixed = s.fixed := by
  simp only [endRise, fixed_mk, fixed_ite, ite_self, fixed_foldl, fst_ite, snd_ite, after_next, after_ite, implies_true, fixed_elim, detectRise_fixed, freeMeans_fixed]

@[simp] theorem startRelease_fixed (a : Nat) (s : State) : (startRelease a s).fixed = s.fixed := by
  simp only [startRelease, fixed_mk, fixed_ite, ite_self, fixed_foldl, fst_ite, snd_ite, after_next, after_ite, implies_true, fixed_elim, chooseDecay_fixed, endRise_fixed, followSlot_fixed, modActP_fixed, reportAct_fixed]

@[simp] theorem stopSlot_fixed (a : Nat) (s : State) : (stopSlot a s).fixed = s.fixed := by
  simp only [stopSlot, fixed_mk, fixed_ite, ite_self, fixed_foldl, fst_ite, snd_ite, after_next, after_ite, implies_true, fixed_elim, followSlot_fixed, modActP_fixed]

@[simp] theorem abortSlotP_fixed (a : Nat) (s : State) : (abortSlotP a s).fixed = s.fixed := by
  simp only [abortSlotP, fixed_mk, fixed_ite, ite_self, fixed_foldl, fst_ite, snd_ite, after_next, after_ite, implies_true, fixed_elim, endRise_fixed, reportAct_fixed, stopSlot_fixed]

set_option maxRecDepth 4000 in
@[simp] theorem takePhase_fixed (a phase : Nat) (s : State) : (takePhase a phase s).fixed = s.fixed := by
  simp only [takePhase, fixed_mk, fixed_ite, ite_self, fixed_foldl, fst_ite, snd_ite, after_next, after_ite, implies_true, fixed_elim, abortSlotP_fixed, startPeak_fixed, startRelease_fixed]
  repeat' split
  all_goals (first | (with_reducible rfl) | simp only [fixed_mk, fixed_ite, ite_self, fixed_foldl, fst_ite, snd_ite, after_next, after_ite, implies_true, fixed_elim, abortSlotP_fixed, startPeak_fixed, startRelease_fixed])

@[simp] theorem slotsFailSafe_fixed (mode : Nat → Nat) (s : State) : (slotsFailSafe mode s).fixed = s.fixed := by
  simp only [slotsFailSafe, fixed_mk, fixed_ite, ite_self, fixed_foldl, fst_ite, snd_ite, after_next, after_ite, implies_true, fixed_elim, modActP_fixed, startRelease_fixed]

@[simp] theorem modAct_fixed (f : ActSt → ActSt) (s : State) : (modAct f s).fixed = s.fixed := by
  simp only [modAct, fixed_mk, fixed_ite, ite_self, fixed_foldl, fst_ite, snd_ite, after_next, after_ite, implies_true, fixed_elim]

@[simp] theorem modActL_fixed (a : Nat) (f : ActL → ActL) (s : State) : (modActL a f s).fixed = s.fixed := by
  simp only [modActL, fixed_mk, fixed_ite, ite_self, fixed_foldl, fst_ite, snd_ite, after_next, after_ite, implies_true, fixed_elim, modAct_fixed]

@[simp] theorem actEvent_fixed (t a reason : Nat) (s : State) : (actEvent t a reason s).fixed = s.fixed := by
  simp only [actEvent, fixed_mk, fixed_ite, ite_self, fixed_foldl, fst_ite, snd_ite, after_next, after_ite, implies_true, fixed_elim, postEventAt_fixed]

@[simp] theorem setPhase_fixed (a phase : Nat) (s : State) : (setPhase a phase s).fixed = s.fixed := by
  simp only [setPhase, fixed_mk, fixed_ite, ite_self, fixed_foldl, fst_ite, snd_ite, after_next, after_ite, implies_true, fixed_elim, modActL_fixed, modSkL_fixed]

@[simp] theorem decidePeak_fixed (a : Nat) (s : State) : (decidePeak a s).2.fixed = s.fixed := by
  simp only [decidePeak, fixed_mk, fixed_ite, ite_self, fixed_foldl, fst_ite, snd_ite, after_next, after_ite, implies_true, fixed_elim, pushCfg_fixed, setPhase_fixed]

set_option maxRecDepth 4000 in
@[simp] theorem startHead_fixed (h : Nat) (s : State) : (startHead h s).fixed = s.fixed := by
  simp only [startHead, fixed_mk, fixed_ite, ite_self, fixed_foldl, fst_ite, snd_ite, after_next, after_ite, implies_true, fixed_elim, decidePeak_fixed, modAct_fixed]
  repeat' split
  all_goals (first | (with_reducible rfl) | simp only [fixed_mk, fixed_ite, ite_self, fixed_foldl, fst_ite, snd_ite, after_next, after_ite, implies_true, fixed_elim, decidePeak_fixed, modAct_fixed])

@[simp] theorem claimFell_fixed (a : Nat) (s : State) : (claimFell a s).fixed = s.fixed := by
  simp only [claimFell, fixed_mk, fixed_ite, ite_self, fixed_foldl, fst_ite, snd_ite, after_next, after_ite, implies_true, fixed_elim, startHead_fixed]

@[simp] theorem abortSlot_fixed (a : Nat) (s : State) : (abortSlot a s).fixed = s.fixed := by
  simp only [abortSlot, fixed_mk, fixed_ite, ite_self, fixed_foldl, fst_ite, snd_ite, after_next, after_ite, implies_true, fixed_elim, actEvent_fixed, bump_fixed, claimFell_fixed, modAct_fixed, modActL_fixed, pushCfg'_fixed, reportL_fixed, setPhase_fixed]

@[simp] theorem abortSlotsOf_fixed (k : Nat) (s : State) : (abortSlotsOf k s).fixed = s.fixed := by
  simp only [abortSlotsOf, fixed_mk, fixed_ite, ite_self, fixed_foldl, fst_ite, snd_ite, after_next, after_ite, implies_true, fixed_elim, abortSlot_fixed]

@[simp] theorem dropDeferred_fixed (s : State) : (dropDeferred s).fixed = s.fixed := by
  simp only [dropDeferred, fixed_mk, fixed_ite, ite_self, fixed_foldl, fst_ite, snd_ite, after_next, after_ite, implies_true, fixed_elim, abortSlot_fixed, modAct_fixed]

set_option maxRecDepth 4000 in
@[simp] theorem disableAct_fixed (s : State) : (disableAct s).fixed = s.fixed := by
  unfold disableAct
  split
  · rw [dropDeferred_fixed]
  rw [fixed_foldl _ (fun s a => ?_), dropDeferred_fixed]
  split <;> simp only [fixed_mk, fixed_ite, ite_self, fixed_foldl, fst_ite, snd_ite, after_next, after_ite, implies_true, fixed_elim, actEvent_fixed, bump_fixed, pushCfg'_fixed, setPhase_fixed, modActL_fixed]

set_option maxRecDepth 4000 in
@[simp] theorem takeActEvent_fixed (a reason phase : Nat) (f : ActFlags) (tick : Nat) (s : State) : (takeActEvent a reason phase f tick s).fixed = s.fixed := by
  simp only [takeActEvent, fixed_mk, fixed_ite, ite_self, fixed_foldl, fst_ite, snd_ite, after_next, after_ite, implies_true, fixed_elim, actEvent_fixed, bump_fixed, claimFell_fixed, modActL_fixed, setPhase_fixed]
  repeat' split
  all_goals (first | (with_reducible rfl) | simp only [fixed_mk, fixed_ite, ite_self, fixed_foldl, fst_ite, snd_ite, after_next, after_ite, implies_true, fixed_elim, actEvent_fixed, bump_fixed, claimFell_fixed, modActL_fixed, setPhase_fixed])

@[simp] theorem accrueBoth_fixed (k : Nat) (s : State) : (accrueBoth k s).fixed = s.fixed := by
  simp only [accrueBoth, fixed_mk, fixed_ite, ite_self, fixed_foldl, fst_ite, snd_ite, after_next, after_ite, implies_true, fixed_elim, accrue_fixed]

@[simp] theorem driveBoth_fixed (k : Nat) (s : State) : (driveBoth k s).fixed = s.fixed := by
  simp only [driveBoth, fixed_mk, fixed_ite, ite_self, fixed_foldl, fst_ite, snd_ite, after_next, after_ite, implies_true, fixed_elim, driveGates_fixed]

set_option maxRecDepth 4000 in
@[simp] theorem printBridge_fixed (l : Nat) (n : Option Nat) (s : State) : (printBridge l n s).fixed = s.fixed := by
  unfold printBridge
  repeat' (first | (with_reducible rfl) | (simp only [fixed_mk, fixed_ite, ite_self, fixed_foldl, fst_ite, snd_ite, after_next, after_ite, implies_true, fixed_elim, dropPrint_fixed, openPrint_fixed]; done) | split | simp only [fixed_mk, fixed_ite, ite_self, fixed_foldl, fst_ite, snd_ite, after_next, after_ite, implies_true, fixed_elim, dropPrint_fixed, openPrint_fixed])

@[simp] theorem startBridge_fixed (l : Nat) (s : State) : (startBridge l s).fixed = s.fixed := by
  simp only [startBridge, fixed_mk, fixed_ite, ite_self, fixed_foldl, fst_ite, snd_ite, after_next, after_ite, implies_true, fixed_elim, driveBoth_fixed, modSkP_fixed, printBridge_fixed]

@[simp] theorem handChanged_fixed (k : Nat) (s : State) : (handChanged k s).fixed = s.fixed := by
  simp only [handChanged, fixed_mk, fixed_ite, ite_self, fixed_foldl, fst_ite, snd_ite, after_next, after_ite, implies_true, fixed_elim, modSkP_fixed]

theorem settleBridgeN_fixed (n l : Nat) (s : State) : (settleBridgeN n l s).fixed = s.fixed := by
  induction n generalizing s with
  | zero => rfl
  | succ n ih =>
    unfold settleBridgeN
    split
    · rfl
    · dsimp only
      repeat' split
      all_goals simp only [ih, startBridge_fixed, handChanged_fixed, modSkP_fixed, driveGates_fixed]
set_option maxRecDepth 4000 in
@[simp] theorem settleBridge_fixed (l : Nat) (s : State) : (settleBridge l s).fixed = s.fixed := by
  exact settleBridgeN_fixed 4 l s

set_option maxRecDepth 4000 in
@[simp] theorem turnOn_fixed (k : Nat) (s : State) : (turnOn k s).fixed = s.fixed := by
  simp only [turnOn, fixed_mk, fixed_ite, ite_self, fixed_foldl, fst_ite, snd_ite, after_next, after_ite, implies_true, fixed_elim, bump_fixed, modSkP_fixed, openPrint_fixed, takeEnvelope_fixed]
  repeat' split
  all_goals (first | (with_reducible rfl) | simp only [fixed_mk, fixed_ite, ite_self, fixed_foldl, fst_ite, snd_ite, after_next, after_ite, implies_true, fixed_elim, bump_fixed, modSkP_fixed, openPrint_fixed, takeEnvelope_fixed])

@[simp] theorem leaveOff_fixed (k : Nat) (s : State) : (leaveOff k s).fixed = s.fixed := by
  simp only [leaveOff, fixed_mk, fixed_ite, ite_self, fixed_foldl, fst_ite, snd_ite, after_next, after_ite, implies_true, fixed_elim, leaveNow_fixed]

@[simp] theorem applySetPoint_fixed (k : Nat) (p : SetPoint) (cap : Nat) (s : State) : (applySetPoint k p cap s).fixed = s.fixed := by
  simp only [applySetPoint, fixed_mk, fixed_ite, ite_self, fixed_foldl, fst_ite, snd_ite, after_next, after_ite, implies_true, fixed_elim, accrueBoth_fixed, driveBoth_fixed, handChanged_fixed, leaveOff_fixed, modSkP_fixed, settleBridge_fixed, spoilPrint_fixed, startBridge_fixed, turnOn_fixed]

@[simp] theorem applyMask_fixed (k mask outgoing rule : Nat) (s : State) : (applyMask k mask outgoing rule s).fixed = s.fixed := by
  simp only [applyMask, fixed_mk, fixed_ite, ite_self, fixed_foldl, fst_ite, snd_ite, after_next, after_ite, implies_true, fixed_elim, changeSkP_fixed, modSkP_fixed]

@[simp] theorem setSlew_fixed (k v : Nat) (s : State) : (setSlew k v s).fixed = s.fixed := by
  simp only [setSlew, fixed_mk, fixed_ite, ite_self, fixed_foldl, fst_ite, snd_ite, after_next, after_ite, implies_true, fixed_elim, modCell_fixed]

@[simp] theorem applyDefine_fixed (k : Nat) (d : SkeinDef) (mask : Nat) (s : State) : (applyDefine k d mask s).fixed = s.fixed := by
  simp only [applyDefine, fixed_mk, fixed_ite, ite_self, fixed_foldl, fst_ite, snd_ite, after_next, after_ite, implies_true, fixed_elim, accrue_fixed, modCell_fixed, modSkP_fixed, setSlew_fixed]

@[simp] theorem applyFsSkein_fixed (cold : Bool) (k : Nat) (s : State) : (applyFsSkein cold k s).fixed = s.fixed := by
  simp only [applyFsSkein, fixed_mk, fixed_ite, ite_self, fixed_foldl, fst_ite, snd_ite, after_next, after_ite, implies_true, fixed_elim, applySetPoint_fixed, driveBoth_fixed, modSkP_fixed]

@[simp] theorem portsFailSafe_fixed (cold : Bool) (s : State) : (portsFailSafe cold s).fixed = s.fixed := by
  simp only [portsFailSafe, fixed_mk, fixed_ite, ite_self, fixed_foldl, fst_ite, snd_ite, after_next, after_ite, implies_true, fixed_elim, modP_fixed]

@[simp] theorem applyFailSafe_fixed (cold : Bool) (s : State) : (applyFailSafe cold s).fixed = s.fixed := by
  simp only [applyFailSafe, fixed_mk, fixed_ite, ite_self, fixed_foldl, fst_ite, snd_ite, after_next, after_ite, implies_true, fixed_elim, applyFsSkein_fixed, bump_fixed, modP_fixed, portsFailSafe_fixed, slotsFailSafe_fixed]

@[simp] theorem setRole_fixed (n : Nat) (r : Role) (s : State) : (setRole n r s).fixed = s.fixed := by
  simp only [setRole, fixed_mk, fixed_ite, ite_self, fixed_foldl, fst_ite, snd_ite, after_next, after_ite, implies_true, fixed_elim, modLoom_fixed]

@[simp] theorem takeRoles_fixed (p : List (Nat × Role)) (s : State) : (takeRoles p s).fixed = s.fixed := by
  simp only [takeRoles, fixed_mk, fixed_ite, ite_self, fixed_foldl, fst_ite, snd_ite, after_next, after_ite, implies_true, fixed_elim, setRole_fixed]

@[simp] theorem loadStatus_fixed (k reason : Nat) (s : State) : (loadStatus k reason s).fixed = s.fixed := by
  simp only [loadStatus, fixed_mk, fixed_ite, ite_self, fixed_foldl, fst_ite, snd_ite, after_next, after_ite, implies_true, fixed_elim, postEvent_fixed]

@[simp] theorem setLevel_fixed (k : Nat) (s : State) : (setLevel k s).fixed = s.fixed := by
  simp only [setLevel, fixed_mk, fixed_ite, ite_self, fixed_foldl, fst_ite, snd_ite, after_next, after_ite, implies_true, fixed_elim, abortSlotsOf_fixed, loadStatus_fixed, modSkL_fixed, reportL_fixed]

@[simp] theorem setLevelFast_fixed (k : Nat) (s : State) : (setLevelFast k s).fixed = s.fixed := by
  simp only [setLevelFast, fixed_mk, fixed_ite, ite_self, fixed_foldl, fst_ite, snd_ite, after_next, after_ite, implies_true, fixed_elim, setLevel_fixed]

@[simp] theorem recap_fixed (k : Nat) (f : SkeinL → SkeinL) (s : State) : (recap k f s).fixed = s.fixed := by
  simp only [recap, fixed_mk, fixed_ite, ite_self, fixed_foldl, fst_ite, snd_ite, after_next, after_ite, implies_true, fixed_elim, loadStatus_fixed, modSkL_fixed]

@[simp] theorem shedSkein_fixed (k : Nat) (on : Bool) (s : State) : (shedSkein k on s).fixed = s.fixed := by
  simp only [shedSkein, fixed_mk, fixed_ite, ite_self, fixed_foldl, fst_ite, snd_ite, after_next, after_ite, implies_true, fixed_elim, recap_fixed, reportL_fixed]

@[simp] theorem activeChanged_fixed (k : Nat) (s : State) : (activeChanged k s).fixed = s.fixed := by
  simp only [activeChanged, fixed_mk, fixed_ite, ite_self, fixed_foldl, fst_ite, snd_ite, after_next, after_ite, implies_true, fixed_elim, modSkL_fixed]

@[simp] theorem join_fixed (k n : Nat) (s : State) : (join k n s).fixed = s.fixed := by
  simp only [join, fixed_mk, fixed_ite, ite_self, fixed_foldl, fst_ite, snd_ite, after_next, after_ite, implies_true, fixed_elim, modSkL_fixed]

@[simp] theorem joined_fixed (k : Nat) (s : State) : (joined k s).fixed = s.fixed := by
  simp only [joined, fixed_mk, fixed_ite, ite_self, fixed_foldl, fst_ite, snd_ite, after_next, after_ite, implies_true, fixed_elim, activeChanged_fixed, modSkL_fixed, setRole_fixed]

set_option maxRecDepth 4000 in
@[simp] theorem startHandover_fixed (k incoming : Nat) (outgoing : Option Nat) (s : State) : (startHandover k incoming outgoing s).fixed = s.fixed := by
  simp only [startHandover, fixed_mk, fixed_ite, ite_self, fixed_foldl, fst_ite, snd_ite, after_next, after_ite, implies_true, fixed_elim, join_fixed, modSkL_fixed]
  repeat' split
  all_goals (first | (with_reducible rfl) | simp only [fixed_mk, fixed_ite, ite_self, fixed_foldl, fst_ite, snd_ite, after_next, after_ite, implies_true, fixed_elim, join_fixed, modSkL_fixed])

set_option maxRecDepth 4000 in
@[simp] theorem endHandover_fixed (k : Nat) (s : State) : (endHandover k s).fixed = s.fixed := by
  unfold endHandover
  repeat' (first | (with_reducible rfl) | (simp [fixed_mk, fixed_ite, ite_self, fixed_foldl, fst_ite, snd_ite, after_next, after_ite, implies_true, fixed_elim, activeChanged_fixed, bump_fixed, modSkL_fixed, setRole_fixed]; done) | split | (refine fixed_foldl _ (fun s x => ?_) _ _))

set_option maxRecDepth 4000 in
@[simp] theorem settleHand_fixed (k : Nat) (p : SkeinP) (s : State) : (settleHand k p s).fixed = s.fixed := by
  simp only [settleHand, fixed_mk, fixed_ite, ite_self, fixed_foldl, fst_ite, snd_ite, after_next, after_ite, implies_true, fixed_elim, endHandover_fixed]
  repeat' split
  all_goals (first | (with_reducible rfl) | simp only [fixed_mk, fixed_ite, ite_self, fixed_foldl, fst_ite, snd_ite, after_next, after_ite, implies_true, fixed_elim, endHandover_fixed])

set_option maxRecDepth 4000 in
@[simp] theorem failOver_fixed (k n : Nat) (s : State) : (failOver k n s).fixed = s.fixed := by
  simp only [failOver, fixed_mk, fixed_ite, ite_self, fixed_foldl, fst_ite, snd_ite, after_next, after_ite, implies_true, fixed_elim, bump_fixed, join_fixed, loadStatus_fixed]
  repeat' split
  all_goals (first | (with_reducible rfl) | simp only [fixed_mk, fixed_ite, ite_self, fixed_foldl, fst_ite, snd_ite, after_next, after_ite, implies_true, fixed_elim, bump_fixed, join_fixed, loadStatus_fixed])

set_option maxRecDepth 4000 in
@[simp] theorem cellFault_fixed (k n : Nat) (s : State) : (cellFault k n s).fixed = s.fixed := by
  simp only [cellFault, fixed_mk, fixed_ite, ite_self, fixed_foldl, fst_ite, snd_ite, after_next, after_ite, implies_true, fixed_elim, activeChanged_fixed, bump_fixed, failOver_fixed, modSkL_fixed, setRole_fixed]
  repeat' split
  all_goals (first | (with_reducible rfl) | simp only [fixed_mk, fixed_ite, ite_self, fixed_foldl, fst_ite, snd_ite, after_next, after_ite, implies_true, fixed_elim, activeChanged_fixed, bump_fixed, failOver_fixed, modSkL_fixed, setRole_fixed])

@[simp] theorem classify_fixed (k : Nat) (s : State) : (classify k s).fixed = s.fixed := by
  simp only [classify, fixed_mk, fixed_ite, ite_self, fixed_foldl, fst_ite, snd_ite, after_next, after_ite, implies_true, fixed_elim, abortSlotsOf_fixed, bump_fixed, cellFault_fixed, modSkL_fixed, setLevelFast_fixed]

set_option maxRecDepth 4000 in
@[simp] theorem returnCells_fixed (k : Nat) (s : State) : (returnCells k s).fixed = s.fixed := by
  unfold returnCells
  refine fixed_foldl _ (fun s x => ?_) _ _
  repeat' (first | (with_reducible rfl) | (simp only [fixed_mk, fixed_ite, ite_self, fixed_foldl, fst_ite, snd_ite, after_next, after_ite, implies_true, fixed_elim, loadStatus_fixed, setRole_fixed]; done) | split | simp only [fixed_mk, fixed_ite, ite_self, fixed_foldl, fst_ite, snd_ite, after_next, after_ite, implies_true, fixed_elim, loadStatus_fixed, setRole_fixed])

theorem passExclude_fixed (k : Nat) (s t : State) (h : passExclude k s = some t) : t.fixed = s.fixed := by
  unfold passExclude at h
  split at h
  · cases h
    rw [startHandover_fixed]
  · cases h
theorem passPin_fixed (k : Nat) (s t : State) (h : passPin k s = some t) : t.fixed = s.fixed := by
  unfold passPin at h
  try dsimp only at h
  repeat' split at h
  all_goals (first | (cases h; done) | (cases h; rw [startHandover_fixed]) | (obtain ⟨i, _, hi⟩ := Option.map_eq_some_iff.mp h; rw [← hi, startHandover_fixed]))
theorem passEvict_fixed (k : Nat) (s t : State) (h : passEvict k s = some t) : t.fixed = s.fixed := by
  unfold passEvict at h
  try dsimp only at h
  repeat' split at h
  all_goals (first | (cases h; done) | (cases h; rw [startHandover_fixed]) | (obtain ⟨i, _, hi⟩ := Option.map_eq_some_iff.mp h; rw [← hi, startHandover_fixed]))
theorem passJoin_fixed (k : Nat) (s t : State) (h : passJoin k s = some t) : t.fixed = s.fixed := by
  unfold passJoin at h
  split at h
  · obtain ⟨i, _, hi⟩ := Option.map_eq_some_iff.mp h
    rw [← hi, startHandover_fixed]
  · cases h
theorem passRebalance_fixed (k : Nat) (s t : State) (h : passRebalance k s = some t) : t.fixed = s.fixed := by
  unfold passRebalance at h
  dsimp only at h
  repeat' split at h
  all_goals (first | (cases h; done) | (cases h; rw [startHandover_fixed]) | skip)
  all_goals (rename_i hm; repeat' split at hm)
  all_goals (first | (cases hm; done) | (cases hm; cases h; rw [startHandover_fixed]))
theorem passRotate_fixed (k : Nat) (s t : State) (h : passRotate k s = some t) : t.fixed = s.fixed := by
  unfold passRotate at h
  repeat' split at h
  all_goals (cases h; try rw [startHandover_fixed])
theorem passItem_fixed (k : Nat) (s t : State) (h : passItem k s = some t) : t.fixed = s.fixed := by
  unfold passItem at h
  split at h
  · cases h; rename_i h; exact passExclude_fixed k s t h
  · split at h
    · cases h; rename_i h; exact passPin_fixed k s t h
    · split at h
      · cases h; rename_i h; exact passEvict_fixed k s t h
      · split at h
        · cases h; rename_i h; exact passJoin_fixed k s t h
        · exact passRebalance_fixed k s t h
theorem passJoins_fixed (k : Nat) (s t : State) (h : passJoins k s = some t) : t.fixed = s.fixed := by
  unfold passJoins at h
  split at h
  · rename_i x hp
    split at h
    · exact passJoin_fixed k s t h
    · cases h; exact passPin_fixed k s _ hp
  · exact passJoin_fixed k s t h
set_option maxRecDepth 4000 in
@[simp] theorem passSkein_fixed (peak : Nat → Bool) (k : Nat) (s : State) : (passSkein peak k s).fixed = s.fixed := by
  unfold passSkein
  split
  · rfl
  dsimp only
  generalize hi : (if (deferred k (peak k) (returnCells k s) || (skL k (returnCells k s)).hand.isSome) = true then none
    else if groupOff 0x0D (returnCells k s) = true then passJoins k (returnCells k s) else passItem k (returnCells k s) : Option State) = it
  have hg : ∀ t, it = some t → t.fixed = s.fixed := by
    intro t ht
    rw [ht] at hi
    split at hi
    · cases hi
    · split at hi
      · rw [passJoins_fixed k _ t hi, returnCells_fixed]
      · rw [passItem_fixed k _ t hi, returnCells_fixed]
  have he : (it.elim (returnCells k s) (fun x => modSkL k (fun y => { y with movedAt := some (mgmtNow (returnCells k s)) }) x)).fixed = s.fixed := by
    cases it with
    | none => exact returnCells_fixed k s
    | some t => exact (modSkL_fixed k _ t).trans (hg t rfl)
  simp only [fixed_mk, fixed_ite, ite_self, fixed_foldl, fst_ite, snd_ite, after_next, after_ite, implies_true, fixed_elim, bump_fixed, loadStatus_fixed, modSkL_fixed, recap_fixed, setLevel_fixed, he]

@[simp] theorem shedGroup_fixed (p : Nat) (on : Bool) (s : State) : (shedGroup p on s).fixed = s.fixed := by
  simp only [shedGroup, fixed_mk, fixed_ite, ite_self, fixed_foldl, fst_ite, snd_ite, after_next, after_ite, implies_true, fixed_elim, shedSkein_fixed]

@[simp] theorem shedMembers_fixed (s : State) : (shedMembers s).fixed = s.fixed := by
  simp only [shedMembers, fixed_mk, fixed_ite, ite_self, fixed_foldl, fst_ite, snd_ite, after_next, after_ite, implies_true, fixed_elim, shedSkein_fixed]

@[simp] theorem liftAll_fixed (s : State) : (liftAll s).fixed = s.fixed := by
  simp only [liftAll, fixed_mk, fixed_ite, ite_self, fixed_foldl, fst_ite, snd_ite, after_next, after_ite, implies_true, fixed_elim, modLoom_fixed, recap_fixed, shedGroup_fixed]

set_option maxRecDepth 4000 in
@[simp] theorem shedPass_fixed (s : State) : (shedPass s).fixed = s.fixed := by
  simp only [shedPass, fixed_mk, fixed_ite, ite_self, fixed_foldl, fst_ite, snd_ite, after_next, after_ite, implies_true, fixed_elim, liftAll_fixed, modLoom_fixed, shedGroup_fixed, shedMembers_fixed]
  repeat' split
  all_goals (first | (with_reducible rfl) | simp only [fixed_mk, fixed_ite, ite_self, fixed_foldl, fst_ite, snd_ite, after_next, after_ite, implies_true, fixed_elim, liftAll_fixed, modLoom_fixed, shedGroup_fixed, shedMembers_fixed])

@[simp] theorem movesDone_fixed (s : State) : (movesDone s).fixed = s.fixed := by
  simp only [movesDone, fixed_mk, fixed_ite, ite_self, fixed_foldl, fst_ite, snd_ite, after_next, after_ite, implies_true, fixed_elim, setRole_fixed]

@[simp] theorem bankOverPass_fixed (s : State) : (bankOverPass s).fixed = s.fixed := by
  simp only [bankOverPass, fixed_mk, fixed_ite, ite_self, fixed_foldl, fst_ite, snd_ite, after_next, after_ite, implies_true, fixed_elim, movesDone_fixed, reportL_fixed]

@[simp] theorem modChain_fixed (j : Nat) (f : ChainEntry → ChainEntry) (s : State) : (modChain j f s).fixed = s.fixed := by
  simp only [modChain, fixed_mk, fixed_ite, ite_self, fixed_foldl, fst_ite, snd_ite, after_next, after_ite, implies_true, fixed_elim, modLoom_fixed]

@[simp] theorem standDown_fixed (k : Nat) (s : State) : (standDown k s).fixed = s.fixed := by
  simp only [standDown, fixed_mk, fixed_ite, ite_self, fixed_foldl, fst_ite, snd_ite, after_next, after_ite, implies_true, fixed_elim, activeChanged_fixed, modSkL_fixed, setRole_fixed]

@[simp] theorem standUp_fixed (k : Nat) (s : State) : (standUp k s).fixed = s.fixed := by
  simp only [standUp, fixed_mk, fixed_ite, ite_self, fixed_foldl, fst_ite, snd_ite, after_next, after_ite, implies_true, fixed_elim, join_fixed]

@[simp] theorem markPrimary_fixed (k : Nat) (s : State) : (markPrimary k s).fixed = s.fixed := by
  simp only [markPrimary, fixed_mk, fixed_ite, ite_self, fixed_foldl, fst_ite, snd_ite, after_next, after_ite, implies_true, fixed_elim, pushCfg'_fixed]

@[simp] theorem arm_fixed (j : Nat) (s : State) : (arm j s).fixed = s.fixed := by
  simp only [arm, fixed_mk, fixed_ite, ite_self, fixed_foldl, fst_ite, snd_ite, after_next, after_ite, implies_true, fixed_elim, loadStatus_fixed, modChain_fixed, standDown_fixed]

@[simp] theorem takeover_fixed (j : Nat) (s : State) : (takeover j s).fixed = s.fixed := by
  simp only [takeover, fixed_mk, fixed_ite, ite_self, fixed_foldl, fst_ite, snd_ite, after_next, after_ite, implies_true, fixed_elim, bump_fixed, loadStatus_fixed, modChain_fixed, modSkL_fixed, reportL_fixed, standUp_fixed]

@[simp] theorem takeoverAll_fixed (dev : Nat) (s : State) : (takeoverAll dev s).fixed = s.fixed := by
  simp only [takeoverAll, fixed_mk, fixed_ite, ite_self, fixed_foldl, fst_ite, snd_ite, after_next, after_ite, implies_true, fixed_elim, modChain_fixed, takeover_fixed]

@[simp] theorem giveBackDone_fixed (j : Nat) (s : State) : (giveBackDone j s).fixed = s.fixed := by
  simp only [giveBackDone, fixed_mk, fixed_ite, ite_self, fixed_foldl, fst_ite, snd_ite, after_next, after_ite, implies_true, fixed_elim, bump_fixed, loadStatus_fixed, modChain_fixed, standDown_fixed]

@[simp] theorem swapDone_fixed (j : Nat) (s : State) : (swapDone j s).fixed = s.fixed := by
  simp only [swapDone, fixed_mk, fixed_ite, ite_self, fixed_foldl, fst_ite, snd_ite, after_next, after_ite, implies_true, fixed_elim, bump_fixed, loadStatus_fixed, markPrimary_fixed, modChain_fixed, standDown_fixed]

set_option maxRecDepth 4000 in
@[simp] theorem passChain_fixed (j : Nat) (s : State) : (passChain j s).fixed = s.fixed := by
  unfold passChain
  repeat' (first | (with_reducible rfl) | (simp only [fixed_mk, fixed_ite, ite_self, fixed_foldl, fst_ite, snd_ite, after_next, after_ite, implies_true, fixed_elim, arm_fixed, giveBackDone_fixed, loadStatus_fixed, modChain_fixed, modSkL_fixed, standUp_fixed, swapDone_fixed, takeover_fixed]; done) | split | simp only [fixed_mk, fixed_ite, ite_self, fixed_foldl, fst_ite, snd_ite, after_next, after_ite, implies_true, fixed_elim, arm_fixed, giveBackDone_fixed, loadStatus_fixed, modChain_fixed, modSkL_fixed, standUp_fixed, swapDone_fixed, takeover_fixed])

@[simp] theorem deleteChain_fixed (j : Nat) (s : State) : (deleteChain j s).fixed = s.fixed := by
  simp only [deleteChain, fixed_mk, fixed_ite, ite_self, fixed_foldl, fst_ite, snd_ite, after_next, after_ite, implies_true, fixed_elim, loadStatus_fixed, markPrimary_fixed, modChain_fixed]

@[simp] theorem storeChain_fixed (j : Nat) (w g : Word) (s : State) : (storeChain j w g s).fixed = s.fixed := by
  simp only [storeChain, fixed_mk, fixed_ite, ite_self, fixed_foldl, fst_ite, snd_ite, after_next, after_ite, implies_true, fixed_elim, loadStatus_fixed, markPrimary_fixed, modChain_fixed]

set_option maxRecDepth 4000 in
@[simp] theorem takeChain_fixed (j : Nat) (s : State) : (takeChain j s).fixed = s.fixed := by
  simp only [takeChain, fixed_mk, fixed_ite, ite_self, fixed_foldl, fst_ite, snd_ite, after_next, after_ite, implies_true, fixed_elim, completeAll_fixed, deleteChain_fixed, modChain_fixed, storeChain_fixed]
  repeat' split
  all_goals (first | (with_reducible rfl) | simp only [fixed_mk, fixed_ite, ite_self, fixed_foldl, fst_ite, snd_ite, after_next, after_ite, implies_true, fixed_elim, completeAll_fixed, deleteChain_fixed, modChain_fixed, storeChain_fixed])

@[simp] theorem commandSp_fixed (k : Nat) (p : SetPoint) (s : State) : (commandSp k p s).fixed = s.fixed := by
  simp only [commandSp, fixed_mk, fixed_ite, ite_self, fixed_foldl, fst_ite, snd_ite, after_next, after_ite, implies_true, fixed_elim, modSkL_fixed]

@[simp] theorem pushMirror_fixed (m : MirrorMsg) (s : State) : (pushMirror m s).fixed = s.fixed := by
  simp only [pushMirror, fixed_mk, fixed_ite, ite_self, fixed_foldl, fst_ite, snd_ite, after_next, after_ite, implies_true, fixed_elim, modLoom_fixed]

set_option maxRecDepth 4000 in
@[simp] theorem mirrorDuty_fixed (k : Nat) (s : State) : (mirrorDuty k s).fixed = s.fixed := by
  simp only [mirrorDuty, fixed_mk, fixed_ite, ite_self, fixed_foldl, fst_ite, snd_ite, after_next, after_ite, implies_true, fixed_elim, pushMirror_fixed]
  repeat' split
  all_goals (first | (with_reducible rfl) | simp only [fixed_mk, fixed_ite, ite_self, fixed_foldl, fst_ite, snd_ite, after_next, after_ite, implies_true, fixed_elim, pushMirror_fixed])

@[simp] theorem keepDuty_fixed (k : Nat) (p : SetPoint) (s : State) : (keepDuty k p s).fixed = s.fixed := by
  simp only [keepDuty, fixed_mk, fixed_ite, ite_self, fixed_foldl, fst_ite, snd_ite, after_next, after_ite, implies_true, fixed_elim, modSkL_fixed]

@[simp] theorem countRefused_fixed (ks : List Nat) (s : State) : (countRefused ks s).fixed = s.fixed := by
  simp only [countRefused, fixed_mk, fixed_ite, ite_self, fixed_foldl, fst_ite, snd_ite, after_next, after_ite, implies_true, fixed_elim, bump_fixed]

@[simp] theorem refuse_fixed (k : Nat) (st : Status) (p : List Word) (s : State) : (refuse k st p s).1.fixed = s.fixed := by
  simp only [refuse, fixed_mk, fixed_ite, ite_self, fixed_foldl, fst_ite, snd_ite, after_next, after_ite, implies_true, fixed_elim, countRefused_fixed]

set_option maxRecDepth 4000 in
@[simp] theorem loadSet_fixed (k : Nat) (w : Word) (s : State) : (loadSet k w s).1.fixed = s.fixed := by
  simp only [loadSet, fixed_mk, fixed_ite, ite_self, fixed_foldl, fst_ite, snd_ite, after_next, after_ite, implies_true, fixed_elim, command_fixed, commandSp_fixed, keepDuty_fixed, pushMirror_fixed, refuse_fixed]
  repeat' split
  all_goals (first | (with_reducible rfl) | simp only [fixed_mk, fixed_ite, ite_self, fixed_foldl, fst_ite, snd_ite, after_next, after_ite, implies_true, fixed_elim, command_fixed, commandSp_fixed, keepDuty_fixed, pushMirror_fixed, refuse_fixed])

@[simp] theorem execLoadSet_fixed (r : Req) (s : State) : (after (execLoadSet r s) s).fixed = s.fixed := by
  simp only [execLoadSet, fixed_mk, fixed_ite, ite_self, fixed_foldl, fst_ite, snd_ite, after_next, after_ite, implies_true, fixed_elim, command_fixed, loadSet_fixed, infoLoadSet]

@[simp] theorem execLoadGet_fixed (r : Req) (s : State) : (after (execLoadGet r s) s).fixed = s.fixed := by
  simp only [execLoadGet, fixed_mk, fixed_ite, ite_self, fixed_foldl, fst_ite, snd_ite, after_next, after_ite, implies_true, fixed_elim, command_fixed, infoLoadGet]

@[simp] theorem skeinDefine_fixed (k : Nat) (d : SkeinDef) (s : State) : (skeinDefine k d s).1.fixed = s.fixed := by
  simp only [skeinDefine, fixed_mk, fixed_ite, ite_self, fixed_foldl, fst_ite, snd_ite, after_next, after_ite, implies_true, fixed_elim, countRefused_fixed, modSkL_fixed]

@[simp] theorem execSkeinDefine_fixed (r : Req) (s : State) : (after (execSkeinDefine r s) s).fixed = s.fixed := by
  simp only [execSkeinDefine, fixed_mk, fixed_ite, ite_self, fixed_foldl, fst_ite, snd_ite, after_next, after_ite, implies_true, fixed_elim, command_fixed, skeinDefine_fixed, infoSkeinDefine]

set_option maxRecDepth 4000 in
@[simp] theorem bridgeSet_fixed (k : Nat) (w0 w1 : Word) (s : State) : (bridgeSet k w0 w1 s).1.fixed = s.fixed := by
  simp only [bridgeSet, fixed_mk, fixed_ite, ite_self, fixed_foldl, fst_ite, snd_ite, after_next, after_ite, implies_true, fixed_elim, commandSp_fixed, refuse_fixed]
  repeat' split
  all_goals (first | (with_reducible rfl) | simp only [fixed_mk, fixed_ite, ite_self, fixed_foldl, fst_ite, snd_ite, after_next, after_ite, implies_true, fixed_elim, commandSp_fixed, refuse_fixed])

@[simp] theorem execBridgeSet_fixed (r : Req) (s : State) : (after (execBridgeSet r s) s).fixed = s.fixed := by
  simp only [execBridgeSet, fixed_mk, fixed_ite, ite_self, fixed_foldl, fst_ite, snd_ite, after_next, after_ite, implies_true, fixed_elim, bridgeSet_fixed, command_fixed, infoBridgeSet]

@[simp] theorem disableFs_fixed (k : Nat) (s : State) : (disableFs k s).fixed = s.fixed := by
  simp only [disableFs, fixed_mk, fixed_ite, ite_self, fixed_foldl, fst_ite, snd_ite, after_next, after_ite, implies_true, fixed_elim, modSkL_fixed, modWeft_fixed]

set_option maxRecDepth 4000 in
@[simp] theorem disableState_fixed (k : Nat) (s : State) : (disableState k s).fixed = s.fixed := by
  unfold disableState
  repeat' (first | (with_reducible rfl) | (simp only [fixed_mk, fixed_ite, ite_self, fixed_foldl, fst_ite, snd_ite, after_next, after_ite, implies_true, fixed_elim, disableFs_fixed, modSkL_fixed]; done) | split | simp only [fixed_mk, fixed_ite, ite_self, fixed_foldl, fst_ite, snd_ite, after_next, after_ite, implies_true, fixed_elim, disableFs_fixed, modSkL_fixed])

set_option maxRecDepth 4000 in
@[simp] theorem disableSkein_fixed (k : Nat) (s : State) : (disableSkein k s).fixed = s.fixed := by
  simp only [disableSkein, fixed_mk, fixed_ite, ite_self, fixed_foldl, fst_ite, snd_ite, after_next, after_ite, implies_true, fixed_elim, disableState_fixed, modSkL_fixed]
  repeat' split
  all_goals (first | (with_reducible rfl) | simp only [fixed_mk, fixed_ite, ite_self, fixed_foldl, fst_ite, snd_ite, after_next, after_ite, implies_true, fixed_elim, disableState_fixed, modSkL_fixed])

@[simp] theorem disableLater_fixed (k : Nat) (s : State) : (disableLater k s).fixed = s.fixed := by
  simp only [disableLater, fixed_mk, fixed_ite, ite_self, fixed_foldl, fst_ite, snd_ite, after_next, after_ite, implies_true, fixed_elim, disableState_fixed, modSkL_fixed]

@[simp] theorem disableLoads_fixed (s : State) : (disableLoads s).fixed = s.fixed := by
  simp only [disableLoads, fixed_mk, fixed_ite, ite_self, fixed_foldl, fst_ite, snd_ite, after_next, after_ite, implies_true, fixed_elim, disableSkein_fixed, modSkL_fixed]

@[simp] theorem disableAdopted_fixed (s : State) : (disableAdopted s).fixed = s.fixed := by
  simp only [disableAdopted, fixed_mk, fixed_ite, ite_self, fixed_foldl, fst_ite, snd_ite, after_next, after_ite, implies_true, fixed_elim, disableLater_fixed, modSkL_fixed]

@[simp] theorem writeP_fixed (i : CfgItem) (s : State) : (writeP i s).1.fixed = s.fixed := by
  simp only [writeP, fixed_mk, fixed_ite, ite_self, fixed_foldl, fst_ite, snd_ite, after_next, after_ite, implies_true, fixed_elim, pushCfg_fixed]

@[simp] theorem writeSkeinCtl_fixed (k : Nat) (v : Word) (s : State) : (writeSkeinCtl k v s).1.fixed = s.fixed := by
  simp only [writeSkeinCtl, fixed_mk, fixed_ite, ite_self, fixed_foldl, fst_ite, snd_ite, after_next, after_ite, implies_true, fixed_elim, loadSet_fixed]

@[simp] theorem writeCell_fixed (off : Nat) (v : Word) (s : State) : (writeCell off v s).1.fixed = s.fixed := by
  simp only [writeCell, fixed_mk, fixed_ite, ite_self, fixed_foldl, fst_ite, snd_ite, after_next, after_ite, implies_true, fixed_elim, modLoom_fixed, writeP_fixed, writeSkeinCtl_fixed]

@[simp] theorem execGateOffReported_fixed (t k : Nat) (s : State) : (after (execGateOffReported t k s) s).fixed = s.fixed := by
  simp only [execGateOffReported, fixed_mk, fixed_ite, ite_self, fixed_foldl, fst_ite, snd_ite, after_next, after_ite, implies_true, fixed_elim, accrue_fixed, driveGates_fixed, modCell_fixed, modSkP_fixed, settleBridge_fixed, toP_fixed]

set_option maxRecDepth 4000 in
@[simp] theorem execDeadtimeEnd_fixed (k : Nat) (s : State) : (after (execDeadtimeEnd k s) s).fixed = s.fixed := by
  simp only [execDeadtimeEnd, fixed_mk, fixed_ite, ite_self, fixed_foldl, fst_ite, snd_ite, after_next, after_ite, implies_true, fixed_elim, accrueBoth_fixed, driveBoth_fixed, settleBridge_fixed, toP_fixed]
  repeat' split
  all_goals (first | (with_reducible rfl) | simp only [fixed_mk, fixed_ite, ite_self, fixed_foldl, fst_ite, snd_ite, after_next, after_ite, implies_true, fixed_elim, accrueBoth_fixed, driveBoth_fixed, settleBridge_fixed, toP_fixed])

set_option maxRecDepth 4000 in
@[simp] theorem execBrakePhaseEnd_fixed (k : Nat) (s : State) : (after (execBrakePhaseEnd k s) s).fixed = s.fixed := by
  simp only [execBrakePhaseEnd, fixed_mk, fixed_ite, ite_self, fixed_foldl, fst_ite, snd_ite, after_next, after_ite, implies_true, fixed_elim, accrueBoth_fixed, modSkP_fixed, settleBridge_fixed, startBridge_fixed, toP_fixed]
  repeat' split
  all_goals (first | (with_reducible rfl) | simp only [fixed_mk, fixed_ite, ite_self, fixed_foldl, fst_ite, snd_ite, after_next, after_ite, implies_true, fixed_elim, accrueBoth_fixed, modSkP_fixed, settleBridge_fixed, startBridge_fixed, toP_fixed])

@[simp] theorem execLoomPlacementGet_fixed (r : Req) (s : State) : (after (execLoomPlacementGet r s) s).fixed = s.fixed := by
  simp only [execLoomPlacementGet, fixed_mk, fixed_ite, ite_self, fixed_foldl, fst_ite, snd_ite, after_next, after_ite, implies_true, fixed_elim, command_fixed, infoLoomPlacementGet]

@[simp] theorem rotateCfg_fixed (k : Nat) (w : Word) (s : State) : (rotateCfg k w s).1.fixed = s.fixed := by
  simp only [rotateCfg, fixed_mk, fixed_ite, ite_self, fixed_foldl, fst_ite, snd_ite, after_next, after_ite, implies_true, fixed_elim, modSkL_fixed]

@[simp] theorem execLoomRotateCfg_fixed (r : Req) (s : State) : (after (execLoomRotateCfg r s) s).fixed = s.fixed := by
  simp only [execLoomRotateCfg, fixed_mk, fixed_ite, ite_self, fixed_foldl, fst_ite, snd_ite, after_next, after_ite, implies_true, fixed_elim, command_fixed, rotateCfg_fixed, infoLoomRotateCfg]

@[simp] theorem loomPin_fixed (k : Nat) (w : Word) (s : State) : (loomPin k w s).1.fixed = s.fixed := by
  simp only [loomPin, fixed_mk, fixed_ite, ite_self, fixed_foldl, fst_ite, snd_ite, after_next, after_ite, implies_true, fixed_elim, modSkL_fixed]

@[simp] theorem execLoomPin_fixed (r : Req) (s : State) : (after (execLoomPin r s) s).fixed = s.fixed := by
  simp only [execLoomPin, fixed_mk, fixed_ite, ite_self, fixed_foldl, fst_ite, snd_ite, after_next, after_ite, implies_true, fixed_elim, command_fixed, loomPin_fixed, infoLoomPin]

@[simp] theorem chainCfg_fixed (j : Nat) (w g : Word) (s : State) : (chainCfg j w g s).1.fixed = s.fixed := by
  simp only [chainCfg, fixed_mk, fixed_ite, ite_self, fixed_foldl, fst_ite, snd_ite, after_next, after_ite, implies_true, fixed_elim, accept_fixed, modChain_fixed]

@[simp] theorem execLoomChainCfg_fixed (r : Req) (s : State) : (after (execLoomChainCfg r s) s).fixed = s.fixed := by
  simp only [execLoomChainCfg, fixed_mk, fixed_ite, ite_self, fixed_foldl, fst_ite, snd_ite, after_next, after_ite, implies_true, fixed_elim, chainCfg_fixed, command_fixed, infoLoomChainCfg]

@[simp] theorem execLoomBudgetGet_fixed (r : Req) (s : State) : (after (execLoomBudgetGet r s) s).fixed = s.fixed := by
  simp only [execLoomBudgetGet, fixed_mk, fixed_ite, ite_self, fixed_foldl, fst_ite, snd_ite, after_next, after_ite, implies_true, fixed_elim, command_fixed, infoLoomBudgetGet]

set_option maxRecDepth 4000 in
@[simp] theorem asOpcode_fixed (f : State → State × Ans) (s : State) (hf : ∀ s, (f s).1.fixed = s.fixed) : (asOpcode f s).1.fixed = s.fixed := by
  simp [asOpcode, fixed_mk, fixed_ite, ite_self, fixed_foldl, fst_ite, snd_ite, after_next, after_ite, implies_true, fixed_elim, hf]

set_option maxRecDepth 4000 in
@[simp] theorem writeLoom_fixed (off : Nat) (v : Word) (s : State) : (writeLoom off v s).1.fixed = s.fixed := by
  simp only [writeLoom, fixed_mk, fixed_ite, ite_self, fixed_foldl, fst_ite, snd_ite, after_next, after_ite, implies_true, fixed_elim, asOpcode_fixed, loomPin_fixed, modLoom_fixed, rotateCfg_fixed]
  repeat' split
  all_goals (first | (with_reducible rfl) | simp only [fixed_mk, fixed_ite, ite_self, fixed_foldl, fst_ite, snd_ite, after_next, after_ite, implies_true, fixed_elim, asOpcode_fixed, loomPin_fixed, modLoom_fixed, rotateCfg_fixed])

set_option maxRecDepth 4000 in
@[simp] theorem mirrorInForce_fixed (k : Nat) (changed : Bool) (s : State) : (mirrorInForce k changed s).fixed = s.fixed := by
  simp only [mirrorInForce, fixed_mk, fixed_ite, ite_self, fixed_foldl, fst_ite, snd_ite, after_next, after_ite, implies_true, fixed_elim, mirrorDuty_fixed, modSkL_fixed, pushMirror_fixed]
  repeat' split
  all_goals (first | (with_reducible rfl) | simp only [fixed_mk, fixed_ite, ite_self, fixed_foldl, fst_ite, snd_ite, after_next, after_ite, implies_true, fixed_elim, mirrorDuty_fixed, modSkL_fixed, pushMirror_fixed])

@[simp] theorem mirrorIn_fixed (j value effect : Nat) (s : State) : (mirrorIn j value effect s).fixed = s.fixed := by
  simp only [mirrorIn, fixed_mk, fixed_ite, ite_self, fixed_foldl, fst_ite, snd_ite, after_next, after_ite, implies_true, fixed_elim, modSkL_fixed]

set_option maxRecDepth 4000 in
@[simp] theorem mirrorCommand_fixed (j value : Nat) (s : State) : (mirrorCommand j value s).fixed = s.fixed := by
  simp only [mirrorCommand, fixed_mk, fixed_ite, ite_self, fixed_foldl, fst_ite, snd_ite, after_next, after_ite, implies_true, fixed_elim, loadSet_fixed, modSkL_fixed, pushMirror_fixed]
  repeat' split
  all_goals (first | (with_reducible rfl) | simp only [fixed_mk, fixed_ite, ite_self, fixed_foldl, fst_ite, snd_ite, after_next, after_ite, implies_true, fixed_elim, loadSet_fixed, modSkL_fixed, pushMirror_fixed])

set_option maxRecDepth 4000 in
@[simp] theorem execMirror_fixed (t dev k kind value effect status : Nat) (s : State) : (after (execMirror t dev k kind value effect status s) s).fixed = s.fixed := by
  simp only [execMirror, fixed_mk, fixed_ite, ite_self, fixed_foldl, fst_ite, snd_ite, after_next, after_ite, implies_true, fixed_elim, bump_fixed, completeAll_fixed, mirrorCommand_fixed, mirrorIn_fixed, toL_fixed]
  repeat' split
  all_goals (first | (with_reducible rfl) | simp only [fixed_mk, fixed_ite, ite_self, fixed_foldl, fst_ite, snd_ite, after_next, after_ite, implies_true, fixed_elim, bump_fixed, completeAll_fixed, mirrorCommand_fixed, mirrorIn_fixed, toL_fixed])

@[simp] theorem execMirrorSend_fixed (t : Nat) (s : State) : (after (execMirrorSend t s) s).fixed = s.fixed := by
  simp only [execMirrorSend, fixed_mk, fixed_ite, ite_self, fixed_foldl, fst_ite, snd_ite, after_next, after_ite, implies_true, fixed_elim, modLoom_fixed, toL_fixed]

set_option maxRecDepth 4000 in
@[simp] theorem mirrorFallback_fixed (k : Nat) (s : State) : (mirrorFallback k s).fixed = s.fixed := by
  unfold mirrorFallback
  refine fixed_foldl _ (fun s x => ?_) _ _
  repeat' (first | (with_reducible rfl) | (simp only [fixed_mk, fixed_ite, ite_self, fixed_foldl, fst_ite, snd_ite, after_next, after_ite, implies_true, fixed_elim, awaited_fixed, complete_fixed, keepDuty_fixed, refuse_fixed]; done) | split | simp only [fixed_mk, fixed_ite, ite_self, fixed_foldl, fst_ite, snd_ite, after_next, after_ite, implies_true, fixed_elim, awaited_fixed, complete_fixed, keepDuty_fixed, refuse_fixed])

set_option maxRecDepth 4000 in
@[simp] theorem execClassificationClose_fixed (k : Nat) (s : State) : (after (execClassificationClose k s) s).fixed = s.fixed := by
  simp only [execClassificationClose, fixed_mk, fixed_ite, ite_self, fixed_foldl, fst_ite, snd_ite, after_next, after_ite, implies_true, fixed_elim, classify_fixed, toL_fixed]
  repeat' split
  all_goals (first | (with_reducible rfl) | simp only [fixed_mk, fixed_ite, ite_self, fixed_foldl, fst_ite, snd_ite, after_next, after_ite, implies_true, fixed_elim, classify_fixed, toL_fixed])

set_option maxRecDepth 4000 in
@[simp] theorem execHandoverLeave_fixed (k : Nat) (s : State) : (after (execHandoverLeave k s) s).fixed = s.fixed := by
  simp only [execHandoverLeave, fixed_mk, fixed_ite, ite_self, fixed_foldl, fst_ite, snd_ite, after_next, after_ite, implies_true, fixed_elim, changeSkP_fixed, endHandover_fixed, leaveNow_fixed, toP_fixed]
  repeat' split
  all_goals (first | (with_reducible rfl) | simp only [fixed_mk, fixed_ite, ite_self, fixed_foldl, fst_ite, snd_ite, after_next, after_ite, implies_true, fixed_elim, changeSkP_fixed, endHandover_fixed, leaveNow_fixed, toP_fixed])

@[simp] theorem modTrx_fixed (n : Nat) (f : Trx → Trx) (s : State) : (modTrx n f s).fixed = s.fixed := by
  simp only [modTrx, fixed_mk, fixed_ite, ite_self, fixed_foldl, fst_ite, snd_ite, after_next, after_ite, implies_true, fixed_elim, modP_fixed]

@[simp] theorem syncTrx_fixed (n : Nat) (s : State) : (syncTrx n s).fixed = s.fixed := by
  simp only [syncTrx, fixed_mk, fixed_ite, ite_self, fixed_foldl, fst_ite, snd_ite, after_next, after_ite, implies_true, fixed_elim, modTrx_fixed]

@[simp] theorem syncAllTrx_fixed (s : State) : (syncAllTrx s).fixed = s.fixed := by
  simp only [syncAllTrx, fixed_mk, fixed_ite, ite_self, fixed_foldl, fst_ite, snd_ite, after_next, after_ite, implies_true, fixed_elim, syncTrx_fixed]

@[simp] theorem wakeTrx_fixed (n cause : Nat) (s : State) : (wakeTrx n cause s).fixed = s.fixed := by
  simp only [wakeTrx, fixed_mk, fixed_ite, ite_self, fixed_foldl, fst_ite, snd_ite, after_next, after_ite, implies_true, fixed_elim, bump_fixed, modP_fixed, modTrx_fixed, pushUp_fixed, syncTrx_fixed]

@[simp] theorem phaseCounts_fixed (ns : Nat) (s : State) : (phaseCounts ns s).2.fixed = s.fixed := by
  simp only [phaseCounts, fixed_mk, fixed_ite, ite_self, fixed_foldl, fst_ite, snd_ite, after_next, after_ite, implies_true, fixed_elim, freeWord_fixed]

@[simp] theorem execWakeUpPattern_fixed (t n a b c : Nat) (s : State) : (after (execWakeUpPattern t n a b c s) s).fixed = s.fixed := by
  simp only [execWakeUpPattern, fixed_mk, fixed_ite, ite_self, fixed_foldl, fst_ite, snd_ite, after_next, after_ite, implies_true, fixed_elim, phaseCounts_fixed, toP_fixed, wakeTrx_fixed]

@[simp] theorem execWakeUpFrame_fixed (t n : Nat) (head : FrameHead) (dlc : Nat) (data : List Byte) (s : State) : (after (execWakeUpFrame t n head dlc data s) s).fixed = s.fixed := by
  simp only [execWakeUpFrame, fixed_mk, fixed_ite, ite_self, fixed_foldl, fst_ite, snd_ite, after_next, after_ite, implies_true, fixed_elim, modTrx_fixed, toP_fixed, wakeTrx_fixed]

@[simp] theorem execFecWake_fixed (t n : Nat) (s : State) : (after (execFecWake t n s) s).fixed = s.fixed := by
  simp only [execFecWake, fixed_mk, fixed_ite, ite_self, fixed_foldl, fst_ite, snd_ite, after_next, after_ite, implies_true, fixed_elim, modTrx_fixed, toP_fixed, wakeTrx_fixed]

@[simp] theorem execTxdDomTimeout_fixed (t n : Nat) (s : State) : (after (execTxdDomTimeout t n s) s).fixed = s.fixed := by
  simp only [execTxdDomTimeout, fixed_mk, fixed_ite, ite_self, fixed_foldl, fst_ite, snd_ite, after_next, after_ite, implies_true, fixed_elim, modTrx_fixed, pushUp_fixed, reportP_fixed, toP_fixed]

@[simp] theorem execTrxThermal_fixed (t n : Nat) (on : Bool) (s : State) : (after (execTrxThermal t n on s) s).fixed = s.fixed := by
  simp only [execTrxThermal, fixed_mk, fixed_ite, ite_self, fixed_foldl, fst_ite, snd_ite, after_next, after_ite, implies_true, fixed_elim, modTrx_fixed, pushUp_fixed, reportP_fixed, toP_fixed]

@[simp] theorem takeTrx_fixed (off : Nat) (v : Word) (s : State) : (takeTrx off v s).fixed = s.fixed := by
  simp only [takeTrx, fixed_mk, fixed_ite, ite_self, fixed_foldl, fst_ite, snd_ite, after_next, after_ite, implies_true, fixed_elim, modTrx_fixed, reportP_fixed, syncTrx_fixed]

@[simp] theorem modCan_fixed (f : CanSt → CanSt) (s : State) : (modCan f s).fixed = s.fixed := by
  simp only [modCan, fixed_mk, fixed_ite, ite_self, fixed_foldl, fst_ite, snd_ite, after_next, after_ite, implies_true, fixed_elim]

@[simp] theorem modCtl_fixed (k : Nat) (f : CanCtl → CanCtl) (s : State) : (modCtl k f s).fixed = s.fixed := by
  simp only [modCtl, fixed_mk, fixed_ite, ite_self, fixed_foldl, fst_ite, snd_ite, after_next, after_ite, implies_true, fixed_elim, modCan_fixed]

@[simp] theorem modAuth_fixed (a : Nat) (f : CanAuth → CanAuth) (s : State) : (modAuth a f s).fixed = s.fixed := by
  simp only [modAuth, fixed_mk, fixed_ite, ite_self, fixed_foldl, fst_ite, snd_ite, after_next, after_ite, implies_true, fixed_elim, modCan_fixed]

@[simp] theorem canEvent_fixed (t k kind handle : Nat) (ws : List Word) (s : State) : (canEvent t k kind handle ws s).fixed = s.fixed := by
  simp only [canEvent, fixed_mk, fixed_ite, ite_self, fixed_foldl, fst_ite, snd_ite, after_next, after_ite, implies_true, fixed_elim, postEventAt_fixed]

@[simp] theorem stateEvent_fixed (k : Nat) (s : State) : (stateEvent k s).fixed = s.fixed := by
  simp only [stateEvent, fixed_mk, fixed_ite, ite_self, fixed_foldl, fst_ite, snd_ite, after_next, after_ite, implies_true, fixed_elim, canEvent_fixed]

@[simp] theorem txFail_fixed (k reason : Nat) (f : CanFrame) (s : State) : (txFail k reason f s).fixed = s.fixed := by
  simp only [txFail, fixed_mk, fixed_ite, ite_self, fixed_foldl, fst_ite, snd_ite, after_next, after_ite, implies_true, fixed_elim, postEvent_fixed]

@[simp] theorem dropFrames_fixed (k reason : Nat) (p : CanFrame → Bool) (s : State) : (dropFrames k reason p s).fixed = s.fixed := by
  simp only [dropFrames, fixed_mk, fixed_ite, ite_self, fixed_foldl, fst_ite, snd_ite, after_next, after_ite, implies_true, fixed_elim, modCtl_fixed, txFail_fixed]

@[simp] theorem filtersIn_fixed (k : Nat) (l : List (Nat × Vector CanFilter 64)) (s : State) : (filtersIn k l s).fixed = s.fixed := by
  simp only [filtersIn, fixed_mk, fixed_ite, ite_self, fixed_foldl, fst_ite, snd_ite, after_next, after_ite, implies_true, fixed_elim, completeAll_fixed]

@[simp] theorem startCtl_fixed (k : Nat) (s : State) : (startCtl k s).fixed = s.fixed := by
  simp only [startCtl, fixed_mk, fixed_ite, ite_self, fixed_foldl, fst_ite, snd_ite, after_next, after_ite, implies_true, fixed_elim, filtersIn_fixed, modCtl_fixed, modTrx_fixed, syncTrx_fixed]

@[simp] theorem stopCtl_fixed (k : Nat) (s : State) : (stopCtl k s).fixed = s.fixed := by
  simp only [stopCtl, fixed_mk, fixed_ite, ite_self, fixed_foldl, fst_ite, snd_ite, after_next, after_ite, implies_true, fixed_elim, filtersIn_fixed, modCtl_fixed, modTrx_fixed, syncTrx_fixed]

set_option maxRecDepth 4000 in
@[simp] theorem onFrame_fixed (k sof : Nat) (ok : State → Bool) (act : State → State) (s : State) (hf : ∀ s, (act s).fixed = s.fixed) : (onFrame k sof ok act s).fixed = s.fixed := by
  unfold onFrame
  repeat' (first | (with_reducible rfl) | (simp only [fixed_mk, fixed_ite, ite_self, fixed_foldl, fst_ite, snd_ite, after_next, after_ite, implies_true, fixed_elim, modCtl_fixed, hf]; done) | split | simp only [fixed_mk, fixed_ite, ite_self, fixed_foldl, fst_ite, snd_ite, after_next, after_ite, implies_true, fixed_elim, modCtl_fixed, hf])

@[simp] theorem cfgDone_fixed (k : Nat) (st : Status) (s : State) : (cfgDone k st s).fixed = s.fixed := by
  simp only [cfgDone, fixed_mk, fixed_ite, ite_self, fixed_foldl, fst_ite, snd_ite, after_next, after_ite, implies_true, fixed_elim, completeAll_fixed, modCtl_fixed]

@[simp] theorem passiveEdge_fixed (k : Nat) (before s : State) : (passiveEdge k before s).fixed = s.fixed := by
  simp only [passiveEdge, fixed_mk, fixed_ite, ite_self, fixed_foldl, fst_ite, snd_ite, after_next, after_ite, implies_true, fixed_elim, reportL_fixed]

@[simp] theorem setAlone_fixed (k : Nat) (s : State) : (setAlone k s).fixed = s.fixed := by
  simp only [setAlone, fixed_mk, fixed_ite, ite_self, fixed_foldl, fst_ite, snd_ite, after_next, after_ite, implies_true, fixed_elim, modCtl_fixed, reportL_fixed, stateEvent_fixed]

@[simp] theorem ackClear_fixed (k : Nat) (s : State) : (ackClear k s).fixed = s.fixed := by
  simp only [ackClear, fixed_mk, fixed_ite, ite_self, fixed_foldl, fst_ite, snd_ite, after_next, after_ite, implies_true, fixed_elim, modCtl_fixed, stateEvent_fixed]

@[simp] theorem busOff_fixed (k : Nat) (s : State) : (busOff k s).fixed = s.fixed := by
  simp only [busOff, fixed_mk, fixed_ite, ite_self, fixed_foldl, fst_ite, snd_ite, after_next, after_ite, implies_true, fixed_elim, bump_fixed, dropFrames_fixed, modCtl_fixed, reportL_fixed]

@[simp] theorem integrationDone_fixed (k : Nat) (s : State) : (integrationDone k s).fixed = s.fixed := by
  simp only [integrationDone, fixed_mk, fixed_ite, ite_self, fixed_foldl, fst_ite, snd_ite, after_next, after_ite, implies_true, fixed_elim, cfgDone_fixed, modCtl_fixed, syncTrx_fixed]

set_option maxRecDepth 4000 in
@[simp] theorem execIntegrationTimeout_fixed (k : Nat) (s : State) : (after (execIntegrationTimeout k s) s).fixed = s.fixed := by
  simp only [execIntegrationTimeout, fixed_mk, fixed_ite, ite_self, fixed_foldl, fst_ite, snd_ite, after_next, after_ite, implies_true, fixed_elim, cfgDone_fixed, toL_fixed]
  repeat' split
  all_goals (first | (with_reducible rfl) | simp only [fixed_mk, fixed_ite, ite_self, fixed_foldl, fst_ite, snd_ite, after_next, after_ite, implies_true, fixed_elim, cfgDone_fixed, toL_fixed])

set_option maxRecDepth 4000 in
@[simp] theorem execBoffDelayEnd_fixed (k : Nat) (s : State) : (after (execBoffDelayEnd k s) s).fixed = s.fixed := by
  simp only [execBoffDelayEnd, fixed_mk, fixed_ite, ite_self, fixed_foldl, fst_ite, snd_ite, after_next, after_ite, implies_true, fixed_elim, busOff_fixed, modCtl_fixed, toL_fixed]
  repeat' split
  all_goals (first | (with_reducible rfl) | simp only [fixed_mk, fixed_ite, ite_self, fixed_foldl, fst_ite, snd_ite, after_next, after_ite, implies_true, fixed_elim, busOff_fixed, modCtl_fixed, toL_fixed])

@[simp] theorem execRestrictedError_fixed (t k lec : Nat) (data : Bool) (s : State) : (after (execRestrictedError t k lec data s) s).fixed = s.fixed := by
  simp only [execRestrictedError, fixed_mk, fixed_ite, ite_self, fixed_foldl, fst_ite, snd_ite, after_next, after_ite, implies_true, fixed_elim, bump_fixed, modCtl_fixed, toL_fixed]

@[simp] theorem rxBad_fixed (t k lec n : Nat) (data : Bool) (s : State) : (rxBad t k lec n data s).fixed = s.fixed := by
  simp only [rxBad, fixed_mk, fixed_ite, ite_self, fixed_foldl, fst_ite, snd_ite, after_next, after_ite, implies_true, fixed_elim, bump_fixed, modCtl_fixed, passiveEdge_fixed]

@[simp] theorem rxMuted_fixed (k : Nat) (data : Bool) (s : State) : (rxMuted k data s).2.fixed = s.fixed := by
  simp only [rxMuted, fixed_mk, fixed_ite, ite_self, fixed_foldl, fst_ite, snd_ite, after_next, after_ite, implies_true, fixed_elim, freeWord_fixed]

@[simp] theorem execCanRxError_fixed (t k lec : Nat) (data eight : Bool) (s : State) : (after (execCanRxError t k lec data eight s) s).fixed = s.fixed := by
  simp only [execCanRxError, fixed_mk, fixed_ite, ite_self, fixed_foldl, fst_ite, snd_ite, after_next, after_ite, implies_true, fixed_elim, onFrame_fixed, rxBad_fixed, rxMuted_fixed, toL_fixed]

@[simp] theorem authSend_fixed (a : Nat) (key : List Byte) (w0 : Word) (data : List Byte) (s : State) : (authSend a key w0 data s).2.fixed = s.fixed := by
  simp only [authSend, fixed_mk, fixed_ite, ite_self, fixed_foldl, fst_ite, snd_ite, after_next, after_ite, implies_true, fixed_elim, modAuth_fixed]

set_option maxRecDepth 4000 in
@[simp] theorem authCheck_fixed (a : Nat) (w0 : Word) (data : List Byte) (s : State) : (authCheck a w0 data s).2.fixed = s.fixed := by
  simp only [authCheck, fixed_mk, fixed_ite, ite_self, fixed_foldl, fst_ite, snd_ite, after_next, after_ite, implies_true, fixed_elim, countLoad_fixed, modAuth_fixed]
  repeat' split
  all_goals (first | (with_reducible rfl) | simp only [fixed_mk, fixed_ite, ite_self, fixed_foldl, fst_ite, snd_ite, after_next, after_ite, implies_true, fixed_elim, countLoad_fixed, modAuth_fixed])

@[simp] theorem authFailed_fixed (k a : Nat) (s : State) : (authFailed k a s).fixed = s.fixed := by
  simp only [authFailed, fixed_mk, fixed_ite, ite_self, fixed_foldl, fst_ite, snd_ite, after_next, after_ite, implies_true, fixed_elim, bump_fixed, modAuth_fixed, reportL_fixed]

@[simp] theorem modHead_fixed (k src : Nat) (f : CanFrame → Option CanFrame) (s : State) : (modHead k src f s).fixed = s.fixed := by
  simp only [modHead, fixed_mk, fixed_ite, ite_self, fixed_foldl, fst_ite, snd_ite, after_next, after_ite, implies_true, fixed_elim, modCtl_fixed]

@[simp] theorem enqueue_fixed (k : Nat) (urgent : Bool) (f : CanFrame) (s : State) : (enqueue k urgent f s).fixed = s.fixed := by
  simp only [enqueue, fixed_mk, fixed_ite, ite_self, fixed_foldl, fst_ite, snd_ite, after_next, after_ite, implies_true, fixed_elim, modCtl_fixed]

@[simp] theorem measureTdc_fixed (k fmt meas : Nat) (s : State) : (measureTdc k fmt meas s).fixed = s.fixed := by
  simp only [measureTdc, fixed_mk, fixed_ite, ite_self, fixed_foldl, fst_ite, snd_ite, after_next, after_ite, implies_true, fixed_elim, modCtl_fixed, reportL_fixed]

@[simp] theorem measureFree_fixed (k fmt : Nat) (s : State) : (measureFree k fmt s).fixed = s.fixed := by
  simp only [measureFree, fixed_mk, fixed_ite, ite_self, fixed_foldl, fst_ite, snd_ite, after_next, after_ite, implies_true, fixed_elim, freeWord_fixed, measureTdc_fixed]

@[simp] theorem txGood_fixed (k fmt meas : Nat) (s : State) : (txGood k fmt meas s).fixed = s.fixed := by
  simp only [txGood, fixed_mk, fixed_ite, ite_self, fixed_foldl, fst_ite, snd_ite, after_next, after_ite, implies_true, fixed_elim, ackClear_fixed, bump_fixed, measureTdc_fixed, modCtl_fixed]

@[simp] theorem txBad_fixed (k fmt lec : Nat) (data quiet : Bool) (s : State) : (txBad k fmt lec data quiet s).fixed = s.fixed := by
  simp only [txBad, fixed_mk, fixed_ite, ite_self, fixed_foldl, fst_ite, snd_ite, after_next, after_ite, implies_true, fixed_elim, bump_fixed, modCtl_fixed, passiveEdge_fixed]

@[simp] theorem afterBad_fixed (k lec : Nat) (s : State) : (afterBad k lec s).fixed = s.fixed := by
  simp only [afterBad, fixed_mk, fixed_ite, ite_self, fixed_foldl, fst_ite, snd_ite, after_next, after_ite, implies_true, fixed_elim, ackClear_fixed, busOff_fixed, setAlone_fixed]

set_option maxRecDepth 4000 in
@[simp] theorem headFailed_fixed (k src lec : Nat) (s : State) : (headFailed k src lec s).fixed = s.fixed := by
  simp only [headFailed, fixed_mk, fixed_ite, ite_self, fixed_foldl, fst_ite, snd_ite, after_next, after_ite, implies_true, fixed_elim, modHead_fixed, setAlone_fixed, txFail_fixed]
  repeat' split
  all_goals (first | (with_reducible rfl) | simp only [fixed_mk, fixed_ite, ite_self, fixed_foldl, fst_ite, snd_ite, after_next, after_ite, implies_true, fixed_elim, modHead_fixed, setAlone_fixed, txFail_fixed])

@[simp] theorem toBuffer_fixed (k b : Nat) (overwrite : Bool) (record : Bool → List Word) (s : State) : (toBuffer k b overwrite record s).fixed = s.fixed := by
  simp only [toBuffer, fixed_mk, fixed_ite, ite_self, fixed_foldl, fst_ite, snd_ite, after_next, after_ite, implies_true, fixed_elim, bump_fixed, modCtl_fixed]

@[simp] theorem fifoDropped_fixed (k : Nat) (s : State) : (fifoDropped k s).fixed = s.fixed := by
  simp only [fifoDropped, fixed_mk, fixed_ite, ite_self, fixed_foldl, fst_ite, snd_ite, after_next, after_ite, implies_true, fixed_elim, bump_fixed, modCtl_fixed, reportL_fixed]

@[simp] theorem toFifo_fixed (k : Nat) (record : List Word) (s : State) : (toFifo k record s).fixed = s.fixed := by
  simp only [toFifo, fixed_mk, fixed_ite, ite_self, fixed_foldl, fst_ite, snd_ite, after_next, after_ite, implies_true, fixed_elim, canEvent_fixed, fifoDropped_fixed, modCtl_fixed]

set_option maxRecDepth 4000 in
@[simp] theorem deliver_fixed (k j : Nat) (x : CanRx) (authOk authBad : Bool) (s : State) : (deliver k j x authOk authBad s).fixed = s.fixed := by
  simp only [deliver, fixed_mk, fixed_ite, ite_self, fixed_foldl, fst_ite, snd_ite, after_next, after_ite, implies_true, fixed_elim, canEvent_fixed, toBuffer_fixed, toFifo_fixed]
  repeat' split
  all_goals (first | (with_reducible rfl) | simp only [fixed_mk, fixed_ite, ite_self, fixed_foldl, fst_ite, snd_ite, after_next, after_ite, implies_true, fixed_elim, canEvent_fixed, toBuffer_fixed, toFifo_fixed])

@[simp] theorem rxGood_fixed (k : Nat) (s : State) : (rxGood k s).fixed = s.fixed := by
  simp only [rxGood, fixed_mk, fixed_ite, ite_self, fixed_foldl, fst_ite, snd_ite, after_next, after_ite, implies_true, fixed_elim, ackClear_fixed, bump_fixed, freeWord_fixed, modCtl_fixed]

set_option maxRecDepth 4000 in
@[simp] theorem canReceive_fixed (k : Nat) (x : CanRx) (s : State) : (canReceive k x s).1.fixed = s.fixed := by
  simp only [canReceive, fixed_mk, fixed_ite, ite_self, fixed_foldl, fst_ite, snd_ite, after_next, after_ite, implies_true, fixed_elim, authCheck_fixed, authFailed_fixed, bump_fixed, deliver_fixed, rxGood_fixed]
  repeat' split
  all_goals (first | (with_reducible rfl) | simp only [fixed_mk, fixed_ite, ite_self, fixed_foldl, fst_ite, snd_ite, after_next, after_ite, implies_true, fixed_elim, authCheck_fixed, authFailed_fixed, bump_fixed, deliver_fixed, rxGood_fixed])

@[simp] theorem modNt_fixed (f : CanNt → CanNt) (s : State) : (modNt f s).fixed = s.fixed := by
  simp only [modNt, fixed_mk, fixed_ite, ite_self, fixed_foldl, fst_ite, snd_ite, after_next, after_ite, implies_true, fixed_elim, modCan_fixed]

@[simp] theorem modTrig_fixed (i : Nat) (f : CanTrig → CanTrig) (s : State) : (modTrig i f s).fixed = s.fixed := by
  simp only [modTrig, fixed_mk, fixed_ite, ite_self, fixed_foldl, fst_ite, snd_ite, after_next, after_ite, implies_true, fixed_elim, modCan_fixed]

@[simp] theorem cycleStart_fixed (t : Nat) (s : State) : (cycleStart t s).fixed = s.fixed := by
  simp only [cycleStart, fixed_mk, fixed_ite, ite_self, fixed_foldl, fst_ite, snd_ite, after_next, after_ite, implies_true, fixed_elim, modCan_fixed]

@[simp] theorem settleTrig_fixed (i : Nat) (s : State) : (settleTrig i s).fixed = s.fixed := by
  simp only [settleTrig, fixed_mk, fixed_ite, ite_self, fixed_foldl, fst_ite, snd_ite, after_next, after_ite, implies_true, fixed_elim, modTrig_fixed]

@[simp] theorem settleTrigs_fixed (s : State) : (settleTrigs s).fixed = s.fixed := by
  simp only [settleTrigs, fixed_mk, fixed_ite, ite_self, fixed_foldl, fst_ite, snd_ite, after_next, after_ite, implies_true, fixed_elim, cycleStart_fixed]

@[simp] theorem canConfigure_fixed (k : Nat) (n : CanCfg) (e : Entry) (s : State) : (canConfigure k n e s).1.fixed = s.fixed := by
  simp only [canConfigure, fixed_mk, fixed_ite, ite_self, fixed_foldl, fst_ite, snd_ite, after_next, after_ite, implies_true, fixed_elim, busOff_fixed, dropFrames_fixed, giveQueued_fixed, modCtl_fixed, startCtl_fixed, stopCtl_fixed]

@[simp] theorem execCanCfg_fixed (r : Req) (s : State) : (after (execCanCfg r s) s).fixed = s.fixed := by
  simp only [execCanCfg, fixed_mk, fixed_ite, ite_self, fixed_foldl, fst_ite, snd_ite, after_next, after_ite, implies_true, fixed_elim, canConfigure_fixed, command_fixed, infoCanCfg]

@[simp] theorem placeFrame_fixed (k : Nat) (r : Req) (f : CanFrame) (s : State) : (placeFrame k r f s).1.fixed = s.fixed := by
  simp only [placeFrame, fixed_mk, fixed_ite, ite_self, fixed_foldl, fst_ite, snd_ite, after_next, after_ite, implies_true, fixed_elim, enqueue_fixed, modCtl_fixed, modTrig_fixed, settleTrig_fixed]

set_option maxRecDepth 4000 in
@[simp] theorem canTx_fixed (k : Nat) (r : Req) (s : State) : (canTx k r s).1.fixed = s.fixed := by
  simp only [canTx, fixed_mk, fixed_ite, ite_self, fixed_foldl, fst_ite, snd_ite, after_next, after_ite, implies_true, fixed_elim, authSend_fixed, countLoad_fixed, placeFrame_fixed]
  repeat' split
  all_goals (first | (with_reducible rfl) | simp only [fixed_mk, fixed_ite, ite_self, fixed_foldl, fst_ite, snd_ite, after_next, after_ite, implies_true, fixed_elim, authSend_fixed, countLoad_fixed, placeFrame_fixed])

@[simp] theorem execCanTx_fixed (r : Req) (s : State) : (after (execCanTx r s) s).fixed = s.fixed := by
  simp only [execCanTx, fixed_mk, fixed_ite, ite_self, fixed_foldl, fst_ite, snd_ite, after_next, after_ite, implies_true, fixed_elim, canTx_fixed, command_fixed, infoCanTx]

@[simp] theorem canRxRead_fixed (r : Req) (s : State) : (canRxRead r s).1.fixed = s.fixed := by
  simp only [canRxRead, fixed_mk, fixed_ite, ite_self, fixed_foldl, fst_ite, snd_ite, after_next, after_ite, implies_true, fixed_elim, modCtl_fixed]

@[simp] theorem execCanRxRead_fixed (r : Req) (s : State) : (after (execCanRxRead r s) s).fixed = s.fixed := by
  simp only [execCanRxRead, fixed_mk, fixed_ite, ite_self, fixed_foldl, fst_ite, snd_ite, after_next, after_ite, implies_true, fixed_elim, canRxRead_fixed, command_fixed, infoCanRxRead]

@[simp] theorem canFilterSet_fixed (r : Req) (s : State) : (canFilterSet r s).1.fixed = s.fixed := by
  simp only [canFilterSet, fixed_mk, fixed_ite, ite_self, fixed_foldl, fst_ite, snd_ite, after_next, after_ite, implies_true, fixed_elim, modCtl_fixed]

@[simp] theorem sofSeen_fixed (k sof : Nat) (s : State) : (sofSeen k sof s).fixed = s.fixed := by
  simp only [sofSeen, fixed_mk, fixed_ite, ite_self, fixed_foldl, fst_ite, snd_ite, after_next, after_ite, implies_true, fixed_elim, filtersIn_fixed, modCtl_fixed]

@[simp] theorem execCanFilterSet_fixed (r : Req) (s : State) : (after (execCanFilterSet r s) s).fixed = s.fixed := by
  simp only [execCanFilterSet, fixed_mk, fixed_ite, ite_self, fixed_foldl, fst_ite, snd_ite, after_next, after_ite, implies_true, fixed_elim, canFilterSet_fixed, command_fixed, infoCanFilterSet]

@[simp] theorem writeAuth_fixed (a o : Nat) (v : Word) (authed : Bool) (s : State) : (writeAuth a o v authed s).1.fixed = s.fixed := by
  simp only [writeAuth, fixed_mk, fixed_ite, ite_self, fixed_foldl, fst_ite, snd_ite, after_next, after_ite, implies_true, fixed_elim, modAuth_fixed]

@[simp] theorem stopAllCan_fixed (reason : Nat) (s : State) : (stopAllCan reason s).fixed = s.fixed := by
  simp only [stopAllCan, fixed_mk, fixed_ite, ite_self, fixed_foldl, fst_ite, snd_ite, after_next, after_ite, implies_true, fixed_elim, dropFrames_fixed, stopCtl_fixed]

@[simp] theorem startAllCan_fixed (s : State) : (startAllCan s).fixed = s.fixed := by
  simp only [startAllCan, fixed_mk, fixed_ite, ite_self, fixed_foldl, fst_ite, snd_ite, after_next, after_ite, implies_true, fixed_elim, startCtl_fixed]

set_option maxRecDepth 4000 in
@[simp] theorem dropTriggers_fixed (reason : Nat) (s : State) : (dropTriggers reason s).fixed = s.fixed := by
  unfold dropTriggers
  refine fixed_foldl _ (fun s x => ?_) _ _
  repeat' (first | (with_reducible rfl) | (simp only [fixed_mk, fixed_ite, ite_self, fixed_foldl, fst_ite, snd_ite, after_next, after_ite, implies_true, fixed_elim, modCan_fixed, txFail_fixed]; done) | split | simp only [fixed_mk, fixed_ite, ite_self, fixed_foldl, fst_ite, snd_ite, after_next, after_ite, implies_true, fixed_elim, modCan_fixed, txFail_fixed])

@[simp] theorem disableCan_fixed (s : State) : (disableCan s).fixed = s.fixed := by
  simp only [disableCan, fixed_mk, fixed_ite, ite_self, fixed_foldl, fst_ite, snd_ite, after_next, after_ite, implies_true, fixed_elim, dropFrames_fixed, dropTriggers_fixed, filtersIn_fixed, modCan_fixed, modCtl_fixed, settleTrigs_fixed]

@[simp] theorem enableCan_fixed (s : State) : (enableCan s).fixed = s.fixed := by
  simp only [enableCan, fixed_mk, fixed_ite, ite_self, fixed_foldl, fst_ite, snd_ite, after_next, after_ite, implies_true, fixed_elim, modCan_fixed, startCtl_fixed, stateEvent_fixed]

@[simp] theorem resetCtl_fixed (k : Nat) (s : State) : (resetCtl k s).fixed = s.fixed := by
  simp only [resetCtl, fixed_mk, fixed_ite, ite_self, fixed_foldl, fst_ite, snd_ite, after_next, after_ite, implies_true, fixed_elim, dropFrames_fixed, startCtl_fixed]

@[simp] theorem modNm_fixed (f : NmSt → NmSt) (s : State) : (modNm f s).fixed = s.fixed := by
  simp only [modNm, fixed_mk, fixed_ite, ite_self, fixed_foldl, fst_ite, snd_ite, after_next, after_ite, implies_true, fixed_elim]

@[simp] theorem modCh_fixed (c : Nat) (f : NmChan → NmChan) (s : State) : (modCh c f s).fixed = s.fixed := by
  simp only [modCh, fixed_mk, fixed_ite, ite_self, fixed_foldl, fst_ite, snd_ite, after_next, after_ite, implies_true, fixed_elim, modNm_fixed]

@[simp] theorem nmEvent_fixed (c reason code : Nat) (s : State) : (nmEvent c reason code s).fixed = s.fixed := by
  simp only [nmEvent, fixed_mk, fixed_ite, ite_self, fixed_foldl, fst_ite, snd_ite, after_next, after_ite, implies_true, fixed_elim, postEvent_fixed]

@[simp] theorem setPhaseNm_fixed (c ph : Nat) (s : State) : (setPhaseNm c ph s).fixed = s.fixed := by
  simp only [setPhaseNm, fixed_mk, fixed_ite, ite_self, fixed_foldl, fst_ite, snd_ite, after_next, after_ite, implies_true, fixed_elim, modCh_fixed, nmEvent_fixed]

@[simp] theorem sendRing_fixed (c dest run : Nat) (f : RingFlags) (s : State) : (sendRing c dest run f s).fixed = s.fixed := by
  simp only [sendRing, fixed_mk, fixed_ite, ite_self, fixed_foldl, fst_ite, snd_ite, after_next, after_ite, implies_true, fixed_elim, enqueue_fixed, modCtl_fixed]

@[simp] theorem nmComplete_fixed (c rel code : Nat) (s : State) : (nmComplete c rel code s).fixed = s.fixed := by
  simp only [nmComplete, fixed_mk, fixed_ite, ite_self, fixed_foldl, fst_ite, snd_ite, after_next, after_ite, implies_true, fixed_elim, completeAll_fixed]

@[simp] theorem setPres_fixed (c pres : Nat) (s : State) : (setPres c pres s).fixed = s.fixed := by
  simp only [setPres, fixed_mk, fixed_ite, ite_self, fixed_foldl, fst_ite, snd_ite, after_next, after_ite, implies_true, fixed_elim, modCh_fixed, nmEvent_fixed]

@[simp] theorem dropPres_fixed (c a : Nat) (s : State) : (dropPres c a s).fixed = s.fixed := by
  simp only [dropPres, fixed_mk, fixed_ite, ite_self, fixed_foldl, fst_ite, snd_ite, after_next, after_ite, implies_true, fixed_elim, setPres_fixed]

@[simp] theorem declareAlone_fixed (c : Nat) (s : State) : (declareAlone c s).fixed = s.fixed := by
  simp only [declareAlone, fixed_mk, fixed_ite, ite_self, fixed_foldl, fst_ite, snd_ite, after_next, after_ite, implies_true, fixed_elim, modCh_fixed, nmEvent_fixed, setPres_fixed]

@[simp] theorem reformRing_fixed (c a : Nat) (s : State) : (reformRing c a s).fixed = s.fixed := by
  simp only [reformRing, fixed_mk, fixed_ite, ite_self, fixed_foldl, fst_ite, snd_ite, after_next, after_ite, implies_true, fixed_elim, modCh_fixed, setPres_fixed]

@[simp] theorem enterCommit_fixed (c tC : Nat) (s : State) : (enterCommit c tC s).fixed = s.fixed := by
  simp only [enterCommit, fixed_mk, fixed_ite, ite_self, fixed_foldl, fst_ite, snd_ite, after_next, after_ite, implies_true, fixed_elim, bump_fixed, modCh_fixed, setPhaseNm_fixed]

@[simp] theorem backAwake_fixed (c : Nat) (s : State) : (backAwake c s).fixed = s.fixed := by
  simp only [backAwake, fixed_mk, fixed_ite, ite_self, fixed_foldl, fst_ite, snd_ite, after_next, after_ite, implies_true, fixed_elim, modCh_fixed, nmComplete_fixed, setPhaseNm_fixed]

@[simp] theorem sendWake_fixed (c : Nat) (s : State) : (sendWake c s).fixed = s.fixed := by
  simp only [sendWake, fixed_mk, fixed_ite, ite_self, fixed_foldl, fst_ite, snd_ite, after_next, after_ite, implies_true, fixed_elim, sendRing_fixed]

set_option maxRecDepth 4000 in
@[simp] theorem wakeNm_fixed (c code : Nat) (s : State) : (wakeNm c code s).fixed = s.fixed := by
  simp only [wakeNm, fixed_mk, fixed_ite, ite_self, fixed_foldl, fst_ite, snd_ite, after_next, after_ite, implies_true, fixed_elim, backAwake_fixed, modCh_fixed, nmEvent_fixed, sendWake_fixed, startCtl_fixed, syncTrx_fixed]
  repeat' split
  all_goals (first | (with_reducible rfl) | simp only [fixed_mk, fixed_ite, ite_self, fixed_foldl, fst_ite, snd_ite, after_next, after_ite, implies_true, fixed_elim, backAwake_fixed, modCh_fixed, nmEvent_fixed, sendWake_fixed, startCtl_fixed, syncTrx_fixed])

@[simp] theorem execSilenceTick_fixed (c : Nat) (s : State) : (after (execSilenceTick c s) s).fixed = s.fixed := by
  simp only [execSilenceTick, fixed_mk, fixed_ite, ite_self, fixed_foldl, fst_ite, snd_ite, after_next, after_ite, implies_true, fixed_elim, dropFrames_fixed, nmComplete_fixed, setPhaseNm_fixed, stopCtl_fixed, syncTrx_fixed, toL_fixed]

@[simp] theorem execNmWake_fixed (t c : Nat) (s : State) : (after (execNmWake t c s) s).fixed = s.fixed := by
  simp only [execNmWake, fixed_mk, fixed_ite, ite_self, fixed_foldl, fst_ite, snd_ite, after_next, after_ite, implies_true, fixed_elim, modNm_fixed, modTrx_fixed, syncTrx_fixed, toL_fixed, wakeNm_fixed]

@[simp] theorem execWakeQuietGap_fixed (t c : Nat) (s : State) : (after (execWakeQuietGap t c s) s).fixed = s.fixed := by
  simp only [execWakeQuietGap, fixed_mk, fixed_ite, ite_self, fixed_foldl, fst_ite, snd_ite, after_next, after_ite, implies_true, fixed_elim, sendWake_fixed, toL_fixed]

@[simp] theorem passToken_fixed (c : Nat) (ready : Bool) (run : Nat) (s : State) : (passToken c ready run s).fixed = s.fixed := by
  simp only [passToken, fixed_mk, fixed_ite, ite_self, fixed_foldl, fst_ite, snd_ite, after_next, after_ite, implies_true, fixed_elim, modCh_fixed, sendRing_fixed]

set_option maxRecDepth 4000 in
@[simp] theorem execTokenSend_fixed (c : Nat) (s : State) : (after (execTokenSend c s) s).fixed = s.fixed := by
  simp only [execTokenSend, fixed_mk, fixed_ite, ite_self, fixed_foldl, fst_ite, snd_ite, after_next, after_ite, implies_true, fixed_elim, modCh_fixed, passToken_fixed, toL_fixed]
  repeat' split
  all_goals (first | (with_reducible rfl) | simp only [fixed_mk, fixed_ite, ite_self, fixed_foldl, fst_ite, snd_ite, after_next, after_ite, implies_true, fixed_elim, modCh_fixed, passToken_fixed, toL_fixed])

set_option maxRecDepth 4000 in
@[simp] theorem execSuccessorTimeout_fixed (c : Nat) (s : State) : (after (execSuccessorTimeout c s) s).fixed = s.fixed := by
  simp only [execSuccessorTimeout, fixed_mk, fixed_ite, ite_self, fixed_foldl, fst_ite, snd_ite, after_next, after_ite, implies_true, fixed_elim, bump_fixed, dropPres_fixed, passToken_fixed, toL_fixed]
  repeat' split
  all_goals (first | (with_reducible rfl) | simp only [fixed_mk, fixed_ite, ite_self, fixed_foldl, fst_ite, snd_ite, after_next, after_ite, implies_true, fixed_elim, bump_fixed, dropPres_fixed, passToken_fixed, toL_fixed])

@[simp] theorem execPresenceTimeout_fixed (c a : Nat) (s : State) : (after (execPresenceTimeout c a s) s).fixed = s.fixed := by
  simp only [execPresenceTimeout, fixed_mk, fixed_ite, ite_self, fixed_foldl, fst_ite, snd_ite, after_next, after_ite, implies_true, fixed_elim, dropPres_fixed, modCh_fixed, toL_fixed]

@[simp] theorem execReformSend_fixed (c : Nat) (s : State) : (after (execReformSend c s) s).fixed = s.fixed := by
  simp only [execReformSend, fixed_mk, fixed_ite, ite_self, fixed_foldl, fst_ite, snd_ite, after_next, after_ite, implies_true, fixed_elim, modCh_fixed, sendRing_fixed, toL_fixed]

set_option maxRecDepth 4000 in
@[simp] theorem execRingRestartFrame_fixed (c : Nat) (s : State) : (after (execRingRestartFrame c s) s).fixed = s.fixed := by
  simp only [execRingRestartFrame, fixed_mk, fixed_ite, ite_self, fixed_foldl, fst_ite, snd_ite, after_next, after_ite, implies_true, fixed_elim, modCh_fixed, sendRing_fixed, toL_fixed]
  repeat' split
  all_goals (first | (with_reducible rfl) | simp only [fixed_mk, fixed_ite, ite_self, fixed_foldl, fst_ite, snd_ite, after_next, after_ite, implies_true, fixed_elim, modCh_fixed, sendRing_fixed, toL_fixed])

@[simp] theorem execAloneDeclare_fixed (t c : Nat) (s : State) : (after (execAloneDeclare t c s) s).fixed = s.fixed := by
  simp only [execAloneDeclare, fixed_mk, fixed_ite, ite_self, fixed_foldl, fst_ite, snd_ite, after_next, after_ite, implies_true, fixed_elim, declareAlone_fixed, toL_fixed]

@[simp] theorem ringReceived_fixed (c sof : Nat) (m : Nat × Nat × RingFlags × Nat) (s : State) : (ringReceived c sof m s).fixed = s.fixed := by
  simp only [ringReceived, fixed_mk, fixed_ite, ite_self, fixed_foldl, fst_ite, snd_ite, after_next, after_ite, implies_true, fixed_elim, backAwake_fixed, enterCommit_fixed, modCh_fixed, nmEvent_fixed, reformRing_fixed, setPres_fixed]

@[simp] theorem ringSent_fixed (c sof : Nat) (m : Nat × Nat × RingFlags × Nat) (s : State) : (ringSent c sof m s).fixed = s.fixed := by
  simp only [ringSent, fixed_mk, fixed_ite, ite_self, fixed_foldl, fst_ite, snd_ite, after_next, after_ite, implies_true, fixed_elim, backAwake_fixed, bump_fixed, enterCommit_fixed, modCh_fixed, reformRing_fixed]

@[simp] theorem reformIfDue_fixed (c : Nat) (s : State) : (reformIfDue c s).fixed = s.fixed := by
  simp only [reformIfDue, fixed_mk, fixed_ite, ite_self, fixed_foldl, fst_ite, snd_ite, after_next, after_ite, implies_true, fixed_elim, modCh_fixed, sendRing_fixed]

@[simp] theorem resumeNm_fixed (c : Nat) (s : State) : (resumeNm c s).fixed = s.fixed := by
  simp only [resumeNm, fixed_mk, fixed_ite, ite_self, fixed_foldl, fst_ite, snd_ite, after_next, after_ite, implies_true, fixed_elim, modCh_fixed, nmComplete_fixed, reformIfDue_fixed, setPhaseNm_fixed, stopCtl_fixed, syncTrx_fixed]

@[simp] theorem adoptTrx_fixed (s : State) : (adoptTrx s).fixed = s.fixed := by
  simp only [adoptTrx, fixed_mk, fixed_ite, ite_self, fixed_foldl, fst_ite, snd_ite, after_next, after_ite, implies_true, fixed_elim, modNm_fixed, modTrx_fixed, syncAllTrx_fixed, syncTrx_fixed, wakeNm_fixed]

@[simp] theorem readbackTrx_fixed (s : State) : (readbackTrx s).fixed = s.fixed := by
  simp only [readbackTrx, fixed_mk, fixed_ite, ite_self, fixed_foldl, fst_ite, snd_ite, after_next, after_ite, implies_true, fixed_elim, modNm_fixed]

@[simp] theorem takeTrxEvent_fixed (n code : Nat) (s : State) : (takeTrxEvent n code s).fixed = s.fixed := by
  simp only [takeTrxEvent, fixed_mk, fixed_ite, ite_self, fixed_foldl, fst_ite, snd_ite, after_next, after_ite, implies_true, fixed_elim, modNm_fixed, nmEvent_fixed, wakeHeard_fixed]

@[simp] theorem nmSleepReq_fixed (c : Nat) (release : Bool) (s : State) : (nmSleepReq c release s).1.fixed = s.fixed := by
  simp only [nmSleepReq, fixed_mk, fixed_ite, ite_self, fixed_foldl, fst_ite, snd_ite, after_next, after_ite, implies_true, fixed_elim, modCh_fixed, nmComplete_fixed, wakeNm_fixed]

@[simp] theorem execNmSleepReq_fixed (r : Req) (s : State) : (after (execNmSleepReq r s) s).fixed = s.fixed := by
  simp only [execNmSleepReq, fixed_mk, fixed_ite, ite_self, fixed_foldl, fst_ite, snd_ite, after_next, after_ite, implies_true, fixed_elim, command_fixed, nmSleepReq_fixed, infoNmSleepReq]

set_option maxRecDepth 4000 in
@[simp] theorem nmStatus_fixed (c : Nat) (s : State) : (nmStatus c s).1.fixed = s.fixed := by
  simp only [nmStatus, fixed_mk, fixed_ite, ite_self, fixed_foldl, fst_ite, snd_ite, after_next, after_ite, implies_true, fixed_elim, modNm_fixed, pushCfg'_fixed]
  repeat' split
  all_goals (first | (with_reducible rfl) | simp only [fixed_mk, fixed_ite, ite_self, fixed_foldl, fst_ite, snd_ite, after_next, after_ite, implies_true, fixed_elim, modNm_fixed, pushCfg'_fixed])

@[simp] theorem execNmStatus_fixed (r : Req) (s : State) : (after (execNmStatus r s) s).fixed = s.fixed := by
  simp only [execNmStatus, fixed_mk, fixed_ite, ite_self, fixed_foldl, fst_ite, snd_ite, after_next, after_ite, implies_true, fixed_elim, command_fixed, nmStatus_fixed, infoNmStatus]

@[simp] theorem profileSet_fixed (a : Nat) (p : ActProfile) (s : State) : (profileSet a p s).1.fixed = s.fixed := by
  simp only [profileSet, fixed_mk, fixed_ite, ite_self, fixed_foldl, fst_ite, snd_ite, after_next, after_ite, implies_true, fixed_elim, countRefused_fixed, writeP_fixed]

@[simp] theorem execActProfileSet_fixed (r : Req) (s : State) : (after (execActProfileSet r s) s).fixed = s.fixed := by
  simp only [execActProfileSet, fixed_mk, fixed_ite, ite_self, fixed_foldl, fst_ite, snd_ite, after_next, after_ite, implies_true, fixed_elim, command_fixed, profileSet_fixed, infoActProfileSet]

set_option maxRecDepth 4000 in
@[simp] theorem actFire_fixed (a : Nat) (s : State) : (actFire a s).1.fixed = s.fixed := by
  simp only [actFire, fixed_mk, fixed_ite, ite_self, fixed_foldl, fst_ite, snd_ite, after_next, after_ite, implies_true, fixed_elim, actEvent_fixed, bump_fixed, countRefused_fixed, decidePeak_fixed, modAct_fixed, modActL_fixed, setPhase_fixed]
  repeat' split
  all_goals (first | (with_reducible rfl) | simp only [fixed_mk, fixed_ite, ite_self, fixed_foldl, fst_ite, snd_ite, after_next, after_ite, implies_true, fixed_elim, actEvent_fixed, bump_fixed, countRefused_fixed, decidePeak_fixed, modAct_fixed, modActL_fixed, setPhase_fixed])

@[simp] theorem execActFire_fixed (r : Req) (s : State) : (after (execActFire r s) s).fixed = s.fixed := by
  simp only [execActFire, fixed_mk, fixed_ite, ite_self, fixed_foldl, fst_ite, snd_ite, after_next, after_ite, implies_true, fixed_elim, actFire_fixed, command_fixed, infoActFire]

set_option maxRecDepth 4000 in
@[simp] theorem actStop_fixed (a : Nat) (s : State) : (actStop a s).1.fixed = s.fixed := by
  simp only [actStop, fixed_mk, fixed_ite, ite_self, fixed_foldl, fst_ite, snd_ite, after_next, after_ite, implies_true, fixed_elim, claimFell_fixed, modAct_fixed, setPhase_fixed, writeP_fixed]
  repeat' split
  all_goals (first | (with_reducible rfl) | simp only [fixed_mk, fixed_ite, ite_self, fixed_foldl, fst_ite, snd_ite, after_next, after_ite, implies_true, fixed_elim, claimFell_fixed, modAct_fixed, setPhase_fixed, writeP_fixed])

@[simp] theorem execActStop_fixed (r : Req) (s : State) : (after (execActStop r s) s).fixed = s.fixed := by
  simp only [execActStop, fixed_mk, fixed_ite, ite_self, fixed_foldl, fst_ite, snd_ite, after_next, after_ite, implies_true, fixed_elim, actStop_fixed, command_fixed, infoActStop]

@[simp] theorem execActStatus_fixed (r : Req) (s : State) : (after (execActStatus r s) s).fixed = s.fixed := by
  simp only [execActStatus, fixed_mk, fixed_ite, ite_self, fixed_foldl, fst_ite, snd_ite, after_next, after_ite, implies_true, fixed_elim, command_fixed, infoActStatus]

@[simp] theorem detectCycle_fixed (a tOn tOff : Nat) (s : State) : (detectCycle a tOn tOff s).fixed = s.fixed := by
  simp only [detectCycle, fixed_mk, fixed_ite, ite_self, fixed_foldl, fst_ite, snd_ite, after_next, after_ite, implies_true, fixed_elim, modActP_fixed, setKink_fixed]

set_option maxRecDepth 4000 in
@[simp] theorem chopLeave_fixed (a : Nat) (s : State) : (chopLeave a s).fixed = s.fixed := by
  simp only [chopLeave, fixed_mk, fixed_ite, ite_self, fixed_foldl, fst_ite, snd_ite, after_next, after_ite, implies_true, fixed_elim, changeSkP_fixed, endHandover_fixed, leaveNow_fixed]
  repeat' split
  all_goals (first | (with_reducible rfl) | simp only [fixed_mk, fixed_ite, ite_self, fixed_foldl, fst_ite, snd_ite, after_next, after_ite, implies_true, fixed_elim, changeSkP_fixed, endHandover_fixed, leaveNow_fixed])

@[simp] theorem execChopThreshold_fixed (t a sample : Nat) (means : List Nat) (s : State) : (after (execChopThreshold t a sample means s) s).fixed = s.fixed := by
  simp only [execChopThreshold, fixed_mk, fixed_ite, ite_self, fixed_foldl, fst_ite, snd_ite, after_next, after_ite, implies_true, fixed_elim, chooseDecay_fixed, chopLeave_fixed, detectCycle_fixed, detectRise_fixed, followSlot_fixed, modActP_fixed, toP_fixed]

set_option maxRecDepth 4000 in
@[simp] theorem execChopOffEnd_fixed (a : Nat) (s : State) : (after (execChopOffEnd a s) s).fixed = s.fixed := by
  simp only [execChopOffEnd, fixed_mk, fixed_ite, ite_self, fixed_foldl, fst_ite, snd_ite, after_next, after_ite, implies_true, fixed_elim, followSlot_fixed, modActP_fixed, toP_fixed]
  repeat' split
  all_goals (first | (with_reducible rfl) | simp only [fixed_mk, fixed_ite, ite_self, fixed_foldl, fst_ite, snd_ite, after_next, after_ite, implies_true, fixed_elim, followSlot_fixed, modActP_fixed, toP_fixed])

@[simp] theorem execPeakEnd_fixed (a : Nat) (means : List Nat) (s : State) : (after (execPeakEnd a means s) s).fixed = s.fixed := by
  simp only [execPeakEnd, fixed_mk, fixed_ite, ite_self, fixed_foldl, fst_ite, snd_ite, after_next, after_ite, implies_true, fixed_elim, detectRise_fixed, followSlot_fixed, modActP_fixed, reportAct_fixed, reportP_fixed, toP_fixed]

set_option maxRecDepth 4000 in
@[simp] theorem execHoldEnd_fixed (a : Nat) (s : State) : (after (execHoldEnd a s) s).fixed = s.fixed := by
  unfold execHoldEnd
  repeat' (first | (with_reducible rfl) | (simp [fixed_mk, fixed_ite, ite_self, fixed_foldl, fst_ite, snd_ite, after_next, after_ite, implies_true, fixed_elim, pushCfg'_fixed, setPhase_fixed, toL_fixed]; done) | split | (refine fixed_foldl _ (fun s x => ?_) _ _))

@[simp] theorem execReleaseEnd_fixed (a : Nat) (s : State) : (after (execReleaseEnd a s) s).fixed = s.fixed := by
  simp only [execReleaseEnd, fixed_mk, fixed_ite, ite_self, fixed_foldl, fst_ite, snd_ite, after_next, after_ite, implies_true, fixed_elim, reportAct_fixed, stopSlot_fixed, toP_fixed]

@[simp] theorem modPortP_fixed (p : Nat) (f : PortP → PortP) (s : State) : (modPortP p f s).fixed = s.fixed := by
  simp only [modPortP, fixed_mk, fixed_ite, ite_self, fixed_foldl, fst_ite, snd_ite, after_next, after_ite, implies_true, fixed_elim, modP_fixed]

@[simp] theorem swapNow_fixed (p : Nat) (copy : Bool) (s : State) : (swapNow p copy s).fixed = s.fixed := by
  simp only [swapNow, fixed_mk, fixed_ite, ite_self, fixed_foldl, fst_ite, snd_ite, after_next, after_ite, implies_true, fixed_elim, bump_fixed, modPortP_fixed, pushUp_fixed]

set_option maxRecDepth 4000 in
@[simp] theorem startFrame_fixed (p : Nat) (s : State) : (startFrame p s).fixed = s.fixed := by
  simp only [startFrame, fixed_mk, fixed_ite, ite_self, fixed_foldl, fst_ite, snd_ite, after_next, after_ite, implies_true, fixed_elim, bump64_fixed, modPortP_fixed, swapNow_fixed]
  repeat' split
  all_goals (first | (with_reducible rfl) | simp only [fixed_mk, fixed_ite, ite_self, fixed_foldl, fst_ite, snd_ite, after_next, after_ite, implies_true, fixed_elim, bump64_fixed, modPortP_fixed, swapNow_fixed])

@[simp] theorem execFrameStart_fixed (p : Nat) (s : State) : (after (execFrameStart p s) s).fixed = s.fixed := by
  simp only [execFrameStart, fixed_mk, fixed_ite, ite_self, fixed_foldl, fst_ite, snd_ite, after_next, after_ite, implies_true, fixed_elim, startFrame_fixed, toP_fixed]

@[simp] theorem lsyncEdge_fixed (p : Nat) (s : State) : (lsyncEdge p s).fixed = s.fixed := by
  simp only [lsyncEdge, fixed_mk, fixed_ite, ite_self, fixed_foldl, fst_ite, snd_ite, after_next, after_ite, implies_true, fixed_elim, bump_fixed, modPortP_fixed, startFrame_fixed]

@[simp] theorem execLsyncEdge_fixed (t : Nat) (s : State) : (after (execLsyncEdge t s) s).fixed = s.fixed := by
  simp only [execLsyncEdge, fixed_mk, fixed_ite, ite_self, fixed_foldl, fst_ite, snd_ite, after_next, after_ite, implies_true, fixed_elim, lsyncEdge_fixed, toP_fixed]

@[simp] theorem execLsyncLoss_fixed (p : Nat) (s : State) : (after (execLsyncLoss p s) s).fixed = s.fixed := by
  simp only [execLsyncLoss, fixed_mk, fixed_ite, ite_self, fixed_foldl, fst_ite, snd_ite, after_next, after_ite, implies_true, fixed_elim, modPortP_fixed, pushUp_fixed, toP_fixed]

set_option maxRecDepth 4000 in
@[simp] theorem execSwapCopyDone_fixed (p : Nat) (s : State) : (after (execSwapCopyDone p s) s).fixed = s.fixed := by
  simp only [execSwapCopyDone, fixed_mk, fixed_ite, ite_self, fixed_foldl, fst_ite, snd_ite, after_next, after_ite, implies_true, fixed_elim, modPortP_fixed, pushUp_fixed, toP_fixed]
  repeat' split
  all_goals (first | (with_reducible rfl) | simp only [fixed_mk, fixed_ite, ite_self, fixed_foldl, fst_ite, snd_ite, after_next, after_ite, implies_true, fixed_elim, modPortP_fixed, pushUp_fixed, toP_fixed])

@[simp] theorem execRowOvercurrent_fixed (t p r : Nat) (s : State) : (after (execRowOvercurrent t p r s) s).fixed = s.fixed := by
  simp only [execRowOvercurrent, fixed_mk, fixed_ite, ite_self, fixed_foldl, fst_ite, snd_ite, after_next, after_ite, implies_true, fixed_elim, bump_fixed, modPortP_fixed, pushUp_fixed, reportP_fixed, toP_fixed]

@[simp] theorem execColumnOpen_fixed (t p c : Nat) (s : State) : (after (execColumnOpen t p c s) s).fixed = s.fixed := by
  simp only [execColumnOpen, fixed_mk, fixed_ite, ite_self, fixed_foldl, fst_ite, snd_ite, after_next, after_ite, implies_true, fixed_elim, modPortP_fixed, pushUp_fixed, reportP_fixed, toP_fixed]

@[simp] theorem execColumnShort_fixed (t p c : Nat) (s : State) : (after (execColumnShort t p c s) s).fixed = s.fixed := by
  simp only [execColumnShort, fixed_mk, fixed_ite, ite_self, fixed_foldl, fst_ite, snd_ite, after_next, after_ite, implies_true, fixed_elim, modPortP_fixed, pushUp_fixed, reportP_fixed, toP_fixed]

set_option maxRecDepth 4000 in
@[simp] theorem takePortCfg_fixed (p : Nat) (v : Word) (s : State) : (takePortCfg p v s).fixed = s.fixed := by
  unfold takePortCfg
  repeat' (first | (with_reducible rfl) | (simp only [fixed_mk, fixed_ite, ite_self, fixed_foldl, fst_ite, snd_ite, after_next, after_ite, implies_true, fixed_elim, modPortP_fixed, swapNow_fixed]; done) | split | simp only [fixed_mk, fixed_ite, ite_self, fixed_foldl, fst_ite, snd_ite, after_next, after_ite, implies_true, fixed_elim, modPortP_fixed, swapNow_fixed])

@[simp] theorem takeLight_fixed (off : Nat) (v : Word) (s : State) : (takeLight off v s).fixed = s.fixed := by
  simp only [takeLight, fixed_mk, fixed_ite, ite_self, fixed_foldl, fst_ite, snd_ite, after_next, after_ite, implies_true, fixed_elim, modPortP_fixed, takePortCfg_fixed]

@[simp] theorem takePixel_fixed (p b i v : Nat) (s : State) : (takePixel p b i v s).fixed = s.fixed := by
  simp only [takePixel, fixed_mk, fixed_ite, ite_self, fixed_foldl, fst_ite, snd_ite, after_next, after_ite, implies_true, fixed_elim, modPortP_fixed, toP_fixed]

@[simp] theorem takeSwap_fixed (p : Nat) (copy : Bool) (s : State) : (takeSwap p copy s).fixed = s.fixed := by
  simp only [takeSwap, fixed_mk, fixed_ite, ite_self, fixed_foldl, fst_ite, snd_ite, after_next, after_ite, implies_true, fixed_elim, modPortP_fixed, swapNow_fixed]

@[simp] theorem clearLatch_fixed (k : Nat) (w : Word) (s : State) : (clearLatch k w s).1.fixed = s.fixed := by
  simp only [clearLatch, fixed_mk, fixed_ite, ite_self, fixed_foldl, fst_ite, snd_ite, after_next, after_ite, implies_true, fixed_elim, clearLearn_fixed, writeP_fixed]

@[simp] theorem execLoadClearLatch_fixed (r : Req) (s : State) : (after (execLoadClearLatch r s) s).fixed = s.fixed := by
  simp only [execLoadClearLatch, fixed_mk, fixed_ite, ite_self, fixed_foldl, fst_ite, snd_ite, after_next, after_ite, implies_true, fixed_elim, clearLatch_fixed, command_fixed, infoLoadClearLatch]

set_option maxRecDepth 4000 in
@[simp] theorem writeProt_fixed (off : Nat) (v : Word) (s : State) : (writeProt off v s).1.fixed = s.fixed := by
  simp only [writeProt, fixed_mk, fixed_ite, ite_self, fixed_foldl, fst_ite, snd_ite, after_next, after_ite, implies_true, fixed_elim, modLoom_fixed, writeP_fixed]
  repeat' split
  all_goals (first | (with_reducible rfl) | simp only [fixed_mk, fixed_ite, ite_self, fixed_foldl, fst_ite, snd_ite, after_next, after_ite, implies_true, fixed_elim, modLoom_fixed, writeP_fixed])

@[simp] theorem execLoadSense_fixed (r : Req) (s : State) : (after (execLoadSense r s) s).fixed = s.fixed := by
  simp only [execLoadSense, fixed_mk, fixed_ite, ite_self, fixed_foldl, fst_ite, snd_ite, after_next, after_ite, implies_true, fixed_elim, command_fixed, infoLoadSense]

@[simp] theorem modLight_fixed (f : LightSt → LightSt) (s : State) : (modLight f s).fixed = s.fixed := by
  simp only [modLight, fixed_mk, fixed_ite, ite_self, fixed_foldl, fst_ite, snd_ite, after_next, after_ite, implies_true, fixed_elim]

@[simp] theorem modPortL_fixed (p : Nat) (f : PortL → PortL) (s : State) : (modPortL p f s).fixed = s.fixed := by
  simp only [modPortL, fixed_mk, fixed_ite, ite_self, fixed_foldl, fst_ite, snd_ite, after_next, after_ite, implies_true, fixed_elim, modLight_fixed]

@[simp] theorem modLightSk_fixed (k : Nat) (f : LightSkein → LightSkein) (s : State) : (modLightSk k f s).fixed = s.fixed := by
  simp only [modLightSk, fixed_mk, fixed_ite, ite_self, fixed_foldl, fst_ite, snd_ite, after_next, after_ite, implies_true, fixed_elim, modLight_fixed]

@[simp] theorem modEngine_fixed (e : Nat) (f : Engine → Engine) (s : State) : (modEngine e f s).fixed = s.fixed := by
  simp only [modEngine, fixed_mk, fixed_ite, ite_self, fixed_foldl, fst_ite, snd_ite, after_next, after_ite, implies_true, fixed_elim, modLight_fixed]

@[simp] theorem lightEvent_fixed (t obj reason code : Nat) (stat : Word) (s : State) : (lightEvent t obj reason code stat s).fixed = s.fixed := by
  simp only [lightEvent, fixed_mk, fixed_ite, ite_self, fixed_foldl, fst_ite, snd_ite, after_next, after_ite, implies_true, fixed_elim, postEventAt_fixed]

@[simp] theorem writeDuty_fixed (k : Nat) (s : State) : (writeDuty k s).fixed = s.fixed := by
  simp only [writeDuty, fixed_mk, fixed_ite, ite_self, fixed_foldl, fst_ite, snd_ite, after_next, after_ite, implies_true, fixed_elim, modSkL_fixed]

@[simp] theorem setLevelNow_fixed (k l : Nat) (s : State) : (setLevelNow k l s).fixed = s.fixed := by
  simp only [setLevelNow, fixed_mk, fixed_ite, ite_self, fixed_foldl, fst_ite, snd_ite, after_next, after_ite, implies_true, fixed_elim, modLightSk_fixed, modSkL_fixed, writeDuty_fixed]

@[simp] theorem startFade_fixed (k l d : Nat) (s : State) : (startFade k l d s).fixed = s.fixed := by
  simp only [startFade, fixed_mk, fixed_ite, ite_self, fixed_foldl, fst_ite, snd_ite, after_next, after_ite, implies_true, fixed_elim, modLightSk_fixed, modSkL_fixed]

@[simp] theorem goLevel_fixed (k l d : Nat) (s : State) : (goLevel k l d s).fixed = s.fixed := by
  simp only [goLevel, fixed_mk, fixed_ite, ite_self, fixed_foldl, fst_ite, snd_ite, after_next, after_ite, implies_true, fixed_elim, setLevelNow_fixed, startFade_fixed]

@[simp] theorem dimStarted_fixed (k : Nat) (s : State) : (dimStarted k s).fixed = s.fixed := by
  simp only [dimStarted, fixed_mk, fixed_ite, ite_self, fixed_foldl, fst_ite, snd_ite, after_next, after_ite, implies_true, fixed_elim, modFlight_fixed]

set_option maxRecDepth 4000 in
@[simp] theorem execFadeStep_fixed (k : Nat) (s : State) : (after (execFadeStep k s) s).fixed = s.fixed := by
  simp only [execFadeStep, fixed_mk, fixed_ite, ite_self, fixed_foldl, fst_ite, snd_ite, after_next, after_ite, implies_true, fixed_elim, dimStarted_fixed, modLightSk_fixed, toL_fixed, writeDuty_fixed]
  repeat' split
  all_goals (first | (with_reducible rfl) | simp only [fixed_mk, fixed_ite, ite_self, fixed_foldl, fst_ite, snd_ite, after_next, after_ite, implies_true, fixed_elim, dimStarted_fixed, modLightSk_fixed, toL_fixed, writeDuty_fixed])

set_option maxRecDepth 4000 in
@[simp] theorem execFadeEnd_fixed (k : Nat) (s : State) : (after (execFadeEnd k s) s).fixed = s.fixed := by
  unfold execFadeEnd
  repeat' (first | (with_reducible rfl) | (simp only [fixed_mk, fixed_ite, ite_self, fixed_foldl, fst_ite, snd_ite, after_next, after_ite, implies_true, fixed_elim, completeAll_fixed, dimStarted_fixed, lightEvent_fixed, modLightSk_fixed, toL_fixed, writeDuty_fixed]; done) | split | simp only [fixed_mk, fixed_ite, ite_self, fixed_foldl, fst_ite, snd_ite, after_next, after_ite, implies_true, fixed_elim, completeAll_fixed, dimStarted_fixed, lightEvent_fixed, modLightSk_fixed, toL_fixed, writeDuty_fixed])

set_option maxRecDepth 4000 in
@[simp] theorem dimSet_fixed (k : Nat) (w0 w1 : Word) (s : State) : (dimSet k w0 w1 s).1.fixed = s.fixed := by
  simp only [dimSet, fixed_mk, fixed_ite, ite_self, fixed_foldl, fst_ite, snd_ite, after_next, after_ite, implies_true, fixed_elim, completeAll_fixed, goLevel_fixed, refuse_fixed]
  repeat' split
  all_goals (first | (with_reducible rfl) | simp only [fixed_mk, fixed_ite, ite_self, fixed_foldl, fst_ite, snd_ite, after_next, after_ite, implies_true, fixed_elim, completeAll_fixed, goLevel_fixed, refuse_fixed])

@[simp] theorem execDimSet_fixed (r : Req) (s : State) : (after (execDimSet r s) s).fixed = s.fixed := by
  simp only [execDimSet, fixed_mk, fixed_ite, ite_self, fixed_foldl, fst_ite, snd_ite, after_next, after_ite, implies_true, fixed_elim, command_fixed, dimSet_fixed, infoDimSet]

@[simp] theorem writePixel_fixed (p b i v : Nat) (s : State) : (writePixel p b i v s).fixed = s.fixed := by
  simp only [writePixel, fixed_mk, fixed_ite, ite_self, fixed_foldl, fst_ite, snd_ite, after_next, after_ite, implies_true, fixed_elim, modPortL_fixed, pushCfg_fixed]

@[simp] theorem writePixels_fixed (p b : Nat) (l : List (Nat × Nat)) (s : State) : (writePixels p b l s).fixed = s.fixed := by
  simp only [writePixels, fixed_mk, fixed_ite, ite_self, fixed_foldl, fst_ite, snd_ite, after_next, after_ite, implies_true, fixed_elim, writePixel_fixed]

@[simp] theorem matrixWrite_fixed (p : Nat) (ws : List Word) (s : State) : (matrixWrite p ws s).1.fixed = s.fixed := by
  simp only [matrixWrite, fixed_mk, fixed_ite, ite_self, fixed_foldl, fst_ite, snd_ite, after_next, after_ite, implies_true, fixed_elim, writePixels_fixed]

@[simp] theorem execMatrixWrite_fixed (r : Req) (s : State) : (after (execMatrixWrite r s) s).fixed = s.fixed := by
  simp only [execMatrixWrite, fixed_mk, fixed_ite, ite_self, fixed_foldl, fst_ite, snd_ite, after_next, after_ite, implies_true, fixed_elim, command_fixed, matrixWrite_fixed, infoMatrixWrite]

set_option maxRecDepth 4000 in
@[simp] theorem swapPort_fixed (p : Nat) (copy : Bool) (s : State) : (swapPort p copy s).fixed = s.fixed := by
  simp only [swapPort, fixed_mk, fixed_ite, ite_self, fixed_foldl, fst_ite, snd_ite, after_next, after_ite, implies_true, fixed_elim, modPortL_fixed, pushCfg'_fixed]
  repeat' split
  all_goals (first | (with_reducible rfl) | simp only [fixed_mk, fixed_ite, ite_self, fixed_foldl, fst_ite, snd_ite, after_next, after_ite, implies_true, fixed_elim, modPortL_fixed, pushCfg'_fixed])

set_option maxRecDepth 4000 in
@[simp] theorem pixelEchoed_fixed (p id : Nat) (s : State) : (pixelEchoed p id s).fixed = s.fixed := by
  simp only [pixelEchoed, fixed_mk, fixed_ite, ite_self, fixed_foldl, fst_ite, snd_ite, after_next, after_ite, implies_true, fixed_elim, modPortL_fixed, pushCfg'_fixed]
  repeat' split
  all_goals (first | (with_reducible rfl) | simp only [fixed_mk, fixed_ite, ite_self, fixed_foldl, fst_ite, snd_ite, after_next, after_ite, implies_true, fixed_elim, modPortL_fixed, pushCfg'_fixed])

@[simp] theorem swapBegunL_fixed (p : Nat) (s : State) : (swapBegunL p s).fixed = s.fixed := by
  simp only [swapBegunL, fixed_mk, fixed_ite, ite_self, fixed_foldl, fst_ite, snd_ite, after_next, after_ite, implies_true, fixed_elim, modPortL_fixed]

@[simp] theorem swapDoneL_fixed (p : Nat) (s : State) : (swapDoneL p s).fixed = s.fixed := by
  simp only [swapDoneL, fixed_mk, fixed_ite, ite_self, fixed_foldl, fst_ite, snd_ite, after_next, after_ite, implies_true, fixed_elim, completeAll_fixed, modEngine_fixed, modPortL_fixed]

@[simp] theorem matrixSwap_fixed (p : Nat) (w : Word) (s : State) : (matrixSwap p w s).1.fixed = s.fixed := by
  simp only [matrixSwap, fixed_mk, fixed_ite, ite_self, fixed_foldl, fst_ite, snd_ite, after_next, after_ite, implies_true, fixed_elim, swapPort_fixed]

@[simp] theorem execMatrixSwap_fixed (r : Req) (s : State) : (after (execMatrixSwap r s) s).fixed = s.fixed := by
  simp only [execMatrixSwap, fixed_mk, fixed_ite, ite_self, fixed_foldl, fst_ite, snd_ite, after_next, after_ite, implies_true, fixed_elim, command_fixed, matrixSwap_fixed, infoMatrixSwap]

@[simp] theorem derateEvent_fixed (old new obj inst : Nat) (stat : State → Word) (s : State) : (derateEvent old new obj inst stat s).fixed = s.fixed := by
  simp only [derateEvent, fixed_mk, fixed_ite, ite_self, fixed_foldl, fst_ite, snd_ite, after_next, after_ite, implies_true, fixed_elim, lightEvent_fixed, reportL_fixed]

@[simp] theorem derateSkein_fixed (k : Nat) (s : State) : (derateSkein k s).fixed = s.fixed := by
  simp only [derateSkein, fixed_mk, fixed_ite, ite_self, fixed_foldl, fst_ite, snd_ite, after_next, after_ite, implies_true, fixed_elim, derateEvent_fixed, modLightSk_fixed, writeDuty_fixed]

set_option maxRecDepth 4000 in
@[simp] theorem deratePort_fixed (p : Nat) (s : State) : (deratePort p s).fixed = s.fixed := by
  simp only [deratePort, fixed_mk, fixed_ite, ite_self, fixed_foldl, fst_ite, snd_ite, after_next, after_ite, implies_true, fixed_elim, derateEvent_fixed, modPortL_fixed, pushCfg'_fixed]
  repeat' split
  all_goals (first | (with_reducible rfl) | simp only [fixed_mk, fixed_ite, ite_self, fixed_foldl, fst_ite, snd_ite, after_next, after_ite, implies_true, fixed_elim, derateEvent_fixed, modPortL_fixed, pushCfg'_fixed])

@[simp] theorem deratePass_fixed (s : State) : (deratePass s).fixed = s.fixed := by
  simp only [deratePass, fixed_mk, fixed_ite, ite_self, fixed_foldl, fst_ite, snd_ite, after_next, after_ite, implies_true, fixed_elim, deratePort_fixed, derateSkein_fixed]

@[simp] theorem execDerateGet_fixed (r : Req) (s : State) : (after (execDerateGet r s) s).fixed = s.fixed := by
  simp only [execDerateGet, fixed_mk, fixed_ite, ite_self, fixed_foldl, fst_ite, snd_ite, after_next, after_ite, implies_true, fixed_elim, command_fixed, infoDerateGet]

set_option maxRecDepth 4000 in
@[simp] theorem execExtTempStale_fixed (s : State) : (after (execExtTempStale s) s).fixed = s.fixed := by
  simp only [execExtTempStale, fixed_mk, fixed_ite, ite_self, fixed_foldl, fst_ite, snd_ite, after_next, after_ite, implies_true, fixed_elim, modLight_fixed, toL_fixed]
  repeat' split
  all_goals (first | (with_reducible rfl) | simp only [fixed_mk, fixed_ite, ite_self, fixed_foldl, fst_ite, snd_ite, after_next, after_ite, implies_true, fixed_elim, modLight_fixed, toL_fixed])

@[simp] theorem writePortCfg_fixed (p : Nat) (v : Word) (s : State) : (writePortCfg p v s).1.fixed = s.fixed := by
  simp only [writePortCfg, fixed_mk, fixed_ite, ite_self, fixed_foldl, fst_ite, snd_ite, after_next, after_ite, implies_true, fixed_elim, modPortL_fixed, modWeft_fixed, pushCfg_fixed]

@[simp] theorem writeWindow_fixed (p b i : Nat) (v : Word) (s : State) : (writeWindow p b i v s).1.fixed = s.fixed := by
  simp only [writeWindow, fixed_mk, fixed_ite, ite_self, fixed_foldl, fst_ite, snd_ite, after_next, after_ite, implies_true, fixed_elim, writePixels_fixed]

@[simp] theorem writePort_fixed (p o : Nat) (v : Word) (judged : Bool) (s : State) : (writePort p o v judged s).1.fixed = s.fixed := by
  simp only [writePort, fixed_mk, fixed_ite, ite_self, fixed_foldl, fst_ite, snd_ite, after_next, after_ite, implies_true, fixed_elim, modPortL_fixed, writeP_fixed, writePortCfg_fixed]

@[simp] theorem whorlLoad_fixed (a : Nat) (ws : List Word) (s : State) : (whorlLoad a ws s).1.fixed = s.fixed := by
  simp only [whorlLoad, fixed_mk, fixed_ite, ite_self, fixed_foldl, fst_ite, snd_ite, after_next, after_ite, implies_true, fixed_elim, modLight_fixed]

set_option maxRecDepth 4000 in
@[simp] theorem writeLight_fixed (off : Nat) (v : Word) (judged : Bool) (s : State) : (writeLight off v judged s).1.fixed = s.fixed := by
  simp only [writeLight, fixed_mk, fixed_ite, ite_self, fixed_foldl, fst_ite, snd_ite, after_next, after_ite, implies_true, fixed_elim, modLight_fixed, modLightSk_fixed, whorlLoad_fixed, writePort_fixed, writeWindow_fixed]
  repeat' split
  all_goals (first | (with_reducible rfl) | simp only [fixed_mk, fixed_ite, ite_self, fixed_foldl, fst_ite, snd_ite, after_next, after_ite, implies_true, fixed_elim, modLight_fixed, modLightSk_fixed, whorlLoad_fixed, writePort_fixed, writeWindow_fixed])

@[simp] theorem stopEngines_fixed (s : State) : (stopEngines s).fixed = s.fixed := by
  simp only [stopEngines, fixed_mk, fixed_ite, ite_self, fixed_foldl, fst_ite, snd_ite, after_next, after_ite, implies_true, fixed_elim, completeAll_fixed, modEngine_fixed, modLight_fixed]

@[simp] theorem disablePorts_fixed (s : State) : (disablePorts s).fixed = s.fixed := by
  simp only [disablePorts, fixed_mk, fixed_ite, ite_self, fixed_foldl, fst_ite, snd_ite, after_next, after_ite, implies_true, fixed_elim, pushCfg'_fixed]

@[simp] theorem disableLight_fixed (s : State) : (disableLight s).fixed = s.fixed := by
  simp only [disableLight, fixed_mk, fixed_ite, ite_self, fixed_foldl, fst_ite, snd_ite, after_next, after_ite, implies_true, fixed_elim, disablePorts_fixed, disableSkein_fixed, modLightSk_fixed, modSkL_fixed, stopEngines_fixed]

set_option maxRecDepth 4000 in
@[simp] theorem takeLightEvent_fixed (p kind idx tick : Nat) (s : State) : (takeLightEvent p kind idx tick s).fixed = s.fixed := by
  simp only [takeLightEvent, fixed_mk, fixed_ite, ite_self, fixed_foldl, fst_ite, snd_ite, after_next, after_ite, implies_true, fixed_elim, lightEvent_fixed, modPortL_fixed, swapBegunL_fixed, swapDoneL_fixed]
  repeat' split
  all_goals (first | (with_reducible rfl) | simp only [fixed_mk, fixed_ite, ite_self, fixed_foldl, fst_ite, snd_ite, after_next, after_ite, implies_true, fixed_elim, lightEvent_fixed, modPortL_fixed, swapBegunL_fixed, swapDoneL_fixed])

@[simp] theorem portEchoed_fixed (off : Nat) (v : Word) (s : State) : (portEchoed off v s).fixed = s.fixed := by
  simp only [portEchoed, fixed_mk, fixed_ite, ite_self, fixed_foldl, fst_ite, snd_ite, after_next, after_ite, implies_true, fixed_elim, modPortL_fixed]

@[simp] theorem releaseClaims_fixed (e : Nat) (s : State) : (releaseClaims e s).fixed = s.fixed := by
  simp only [releaseClaims, fixed_mk, fixed_ite, ite_self, fixed_foldl, fst_ite, snd_ite, after_next, after_ite, implies_true, fixed_elim, modLight_fixed]

@[simp] theorem stopWith_fixed (e reason : Nat) (s : State) : (stopWith e reason s).fixed = s.fixed := by
  simp only [stopWith, fixed_mk, fixed_ite, ite_self, fixed_foldl, fst_ite, snd_ite, after_next, after_ite, implies_true, fixed_elim, lightEvent_fixed, modEngine_fixed, releaseClaims_fixed, reportL_fixed]

@[simp] theorem begins_fixed (e : Nat) (s : State) : (begins e s).fixed = s.fixed := by
  simp only [begins, fixed_mk, fixed_ite, ite_self, fixed_foldl, fst_ite, snd_ite, after_next, after_ite, implies_true, fixed_elim, bump_fixed, completeAll_fixed, modEngine_fixed]

@[simp] theorem runaway_fixed (e : Nat) (s : State) : (runaway e s).fixed = s.fixed := by
  simp only [runaway, fixed_mk, fixed_ite, ite_self, fixed_foldl, fst_ite, snd_ite, after_next, after_ite, implies_true, fixed_elim, stopWith_fixed]

set_option maxRecDepth 4000 in
@[simp] theorem whorlExec_fixed (op : Nat → Bool) (act : Nat → Word → State → State) (t e : Nat) (s : State) (hf : ∀ e w s, (act e w s).fixed = s.fixed) : (whorlExec op act t e s).fixed = s.fixed := by
  simp [whorlExec, fixed_mk, fixed_ite, ite_self, fixed_foldl, fst_ite, snd_ite, after_next, after_ite, implies_true, fixed_elim, begins_fixed, completeAll_fixed, runaway_fixed, stopWith_fixed, toL_fixed, hf]

set_option maxRecDepth 4000 in
@[simp] theorem onSkein_fixed (e k : Nat) (f : State → State) (s : State) (hf : ∀ s, (f s).fixed = s.fixed) : (onSkein e k f s).fixed = s.fixed := by
  simp only [onSkein, fixed_mk, fixed_ite, ite_self, fixed_foldl, fst_ite, snd_ite, after_next, after_ite, implies_true, fixed_elim, modLightSk_fixed, stopWith_fixed, hf]
  repeat' split
  all_goals (first | (with_reducible rfl) | simp only [fixed_mk, fixed_ite, ite_self, fixed_foldl, fst_ite, snd_ite, after_next, after_ite, implies_true, fixed_elim, modLightSk_fixed, stopWith_fixed, hf])

set_option maxRecDepth 4000 in
@[simp] theorem onPort_fixed (e p : Nat) (f : State → State) (s : State) (hf : ∀ s, (f s).fixed = s.fixed) : (onPort e p f s).fixed = s.fixed := by
  simp only [onPort, fixed_mk, fixed_ite, ite_self, fixed_foldl, fst_ite, snd_ite, after_next, after_ite, implies_true, fixed_elim, modPortL_fixed, stopWith_fixed, hf]
  repeat' split
  all_goals (first | (with_reducible rfl) | simp only [fixed_mk, fixed_ite, ite_self, fixed_foldl, fst_ite, snd_ite, after_next, after_ite, implies_true, fixed_elim, modPortL_fixed, stopWith_fixed, hf])

@[simp] theorem onRegion_fixed (e r : Nat) (f : Region → State → State) (s : State) (hf : ∀ g s, (f g s).fixed = s.fixed) : (onRegion e r f s).fixed = s.fixed := by
  simp only [onRegion, fixed_mk, fixed_ite, ite_self, fixed_foldl, fst_ite, snd_ite, after_next, after_ite, implies_true, fixed_elim, stopWith_fixed, onPort_fixed, hf]

@[simp] theorem overBudget_fixed (e k : Nat) (s : State) : (overBudget e k s).fixed = s.fixed := by
  simp only [overBudget, fixed_mk, fixed_ite, ite_self, fixed_foldl, fst_ite, snd_ite, after_next, after_ite, implies_true, fixed_elim, modEngine_fixed, modLightSk_fixed, reportL_fixed]

@[simp] theorem cutFade_fixed (k l : Nat) (s : State) : (cutFade k l s).fixed = s.fixed := by
  simp only [cutFade, fixed_mk, fixed_ite, ite_self, fixed_foldl, fst_ite, snd_ite, after_next, after_ite, implies_true, fixed_elim, completeAll_fixed, dimStarted_fixed, setLevelNow_fixed]

@[simp] theorem whorlLevel_fixed (e k l d : Nat) (s : State) : (whorlLevel e k l d s).fixed = s.fixed := by
  simp only [whorlLevel, fixed_mk, fixed_ite, ite_self, fixed_foldl, fst_ite, snd_ite, after_next, after_ite, implies_true, fixed_elim, cutFade_fixed, goLevel_fixed, overBudget_fixed]

@[simp] theorem setTarget_fixed (e tgt l : Nat) (s : State) : (setTarget e tgt l s).fixed = s.fixed := by
  simp only [setTarget, fixed_mk, fixed_ite, ite_self, fixed_foldl, fst_ite, snd_ite, after_next, after_ite, implies_true, fixed_elim, onRegion_fixed, onSkein_fixed, stopWith_fixed, whorlLevel_fixed, writePixels_fixed]

@[simp] theorem execWhorlEnd_fixed (t e : Nat) (s : State) : (after (execWhorlEnd t e s) s).fixed = s.fixed := by
  simp only [execWhorlEnd, fixed_mk, fixed_ite, ite_self, fixed_foldl, fst_ite, snd_ite, after_next, after_ite, implies_true, fixed_elim, lightEvent_fixed, modEngine_fixed, releaseClaims_fixed, whorlExec_fixed]

@[simp] theorem execWhorlSet_fixed (t e : Nat) (s : State) : (after (execWhorlSet t e s) s).fixed = s.fixed := by
  simp only [execWhorlSet, fixed_mk, fixed_ite, ite_self, fixed_foldl, fst_ite, snd_ite, after_next, after_ite, implies_true, fixed_elim, setTarget_fixed, whorlExec_fixed]

@[simp] theorem execWhorlSetr_fixed (t e : Nat) (s : State) : (after (execWhorlSetr t e s) s).fixed = s.fixed := by
  simp only [execWhorlSetr, fixed_mk, fixed_ite, ite_self, fixed_foldl, fst_ite, snd_ite, after_next, after_ite, implies_true, fixed_elim, setTarget_fixed, whorlExec_fixed]

@[simp] theorem execWhorlFade_fixed (t e : Nat) (s : State) : (after (execWhorlFade t e s) s).fixed = s.fixed := by
  simp only [execWhorlFade, fixed_mk, fixed_ite, ite_self, fixed_foldl, fst_ite, snd_ite, after_next, after_ite, implies_true, fixed_elim, onSkein_fixed, stopWith_fixed, whorlExec_fixed, whorlLevel_fixed]

@[simp] theorem setLv_fixed (e : Nat) (w : Word) (v : Nat) (s : State) : (setLv e w v s).fixed = s.fixed := by
  simp only [setLv, fixed_mk, fixed_ite, ite_self, fixed_foldl, fst_ite, snd_ite, after_next, after_ite, implies_true, fixed_elim, modEngine_fixed]

@[simp] theorem execWhorlLdi_fixed (t e : Nat) (s : State) : (after (execWhorlLdi t e s) s).fixed = s.fixed := by
  simp only [execWhorlLdi, fixed_mk, fixed_ite, ite_self, fixed_foldl, fst_ite, snd_ite, after_next, after_ite, implies_true, fixed_elim, setLv_fixed, whorlExec_fixed]

@[simp] theorem execWhorlAddi_fixed (t e : Nat) (s : State) : (after (execWhorlAddi t e s) s).fixed = s.fixed := by
  simp only [execWhorlAddi, fixed_mk, fixed_ite, ite_self, fixed_foldl, fst_ite, snd_ite, after_next, after_ite, implies_true, fixed_elim, setLv_fixed, whorlExec_fixed]

@[simp] theorem waitFor_fixed (e T : Nat) (s : State) : (waitFor e T s).fixed = s.fixed := by
  simp only [waitFor, fixed_mk, fixed_ite, ite_self, fixed_foldl, fst_ite, snd_ite, after_next, after_ite, implies_true, fixed_elim, bump_fixed, modEngine_fixed]

@[simp] theorem execWhorlWait_fixed (t e : Nat) (s : State) : (after (execWhorlWait t e s) s).fixed = s.fixed := by
  simp only [execWhorlWait, fixed_mk, fixed_ite, ite_self, fixed_foldl, fst_ite, snd_ite, after_next, after_ite, implies_true, fixed_elim, waitFor_fixed, whorlExec_fixed]

@[simp] theorem execWhorlWaitr_fixed (t e : Nat) (s : State) : (after (execWhorlWaitr t e s) s).fixed = s.fixed := by
  simp only [execWhorlWaitr, fixed_mk, fixed_ite, ite_self, fixed_foldl, fst_ite, snd_ite, after_next, after_ite, implies_true, fixed_elim, waitFor_fixed, whorlExec_fixed]

@[simp] theorem syncTime_fixed (p : Nat) (s : State) : (syncTime p s).2.fixed = s.fixed := by
  simp only [syncTime, fixed_mk, fixed_ite, ite_self, fixed_foldl, fst_ite, snd_ite, after_next, after_ite, implies_true, fixed_elim, freeWord_fixed]

@[simp] theorem execWhorlSync_fixed (t e : Nat) (s : State) : (after (execWhorlSync t e s) s).fixed = s.fixed := by
  simp only [execWhorlSync, fixed_mk, fixed_ite, ite_self, fixed_foldl, fst_ite, snd_ite, after_next, after_ite, implies_true, fixed_elim, syncTime_fixed, waitFor_fixed, whorlExec_fixed]

@[simp] theorem execWhorlWaitExpiry_fixed (e : Nat) (s : State) : (after (execWhorlWaitExpiry e s) s).fixed = s.fixed := by
  simp only [execWhorlWaitExpiry, fixed_mk, fixed_ite, ite_self, fixed_foldl, fst_ite, snd_ite, after_next, after_ite, implies_true, fixed_elim, modEngine_fixed, toL_fixed]

@[simp] theorem execWhorlLoop_fixed (t e : Nat) (s : State) : (after (execWhorlLoop t e s) s).fixed = s.fixed := by
  simp only [execWhorlLoop, fixed_mk, fixed_ite, ite_self, fixed_foldl, fst_ite, snd_ite, after_next, after_ite, implies_true, fixed_elim, modEngine_fixed, setLv_fixed, whorlExec_fixed]

@[simp] theorem execWhorlJmp_fixed (t e : Nat) (s : State) : (after (execWhorlJmp t e s) s).fixed = s.fixed := by
  simp only [execWhorlJmp, fixed_mk, fixed_ite, ite_self, fixed_foldl, fst_ite, snd_ite, after_next, after_ite, implies_true, fixed_elim, modEngine_fixed, whorlExec_fixed]

@[simp] theorem execWhorlPix_fixed (t e : Nat) (s : State) : (after (execWhorlPix t e s) s).fixed = s.fixed := by
  simp only [execWhorlPix, fixed_mk, fixed_ite, ite_self, fixed_foldl, fst_ite, snd_ite, after_next, after_ite, implies_true, fixed_elim, onPort_fixed, stopWith_fixed, whorlExec_fixed, writePixel_fixed]

@[simp] theorem shiftRegion_fixed (dir v : Nat) (g : Region) (s : State) : (shiftRegion dir v g s).fixed = s.fixed := by
  simp only [shiftRegion, fixed_mk, fixed_ite, ite_self, fixed_foldl, fst_ite, snd_ite, after_next, after_ite, implies_true, fixed_elim, writePixels_fixed]

@[simp] theorem execWhorlShift_fixed (t e : Nat) (s : State) : (after (execWhorlShift t e s) s).fixed = s.fixed := by
  simp only [execWhorlShift, fixed_mk, fixed_ite, ite_self, fixed_foldl, fst_ite, snd_ite, after_next, after_ite, implies_true, fixed_elim, onRegion_fixed, shiftRegion_fixed, stopWith_fixed, whorlExec_fixed]

@[simp] theorem execWhorlSwap_fixed (t e : Nat) (s : State) : (after (execWhorlSwap t e s) s).fixed = s.fixed := by
  simp only [execWhorlSwap, fixed_mk, fixed_ite, ite_self, fixed_foldl, fst_ite, snd_ite, after_next, after_ite, implies_true, fixed_elim, modEngine_fixed, onPort_fixed, swapPort_fixed, whorlExec_fixed]

@[simp] theorem execWhorlEvt_fixed (t e : Nat) (s : State) : (after (execWhorlEvt t e s) s).fixed = s.fixed := by
  simp only [execWhorlEvt, fixed_mk, fixed_ite, ite_self, fixed_foldl, fst_ite, snd_ite, after_next, after_ite, implies_true, fixed_elim, lightEvent_fixed, whorlExec_fixed]

@[simp] theorem execWhorlBadInstr_fixed (t e : Nat) (s : State) : (after (execWhorlBadInstr t e s) s).fixed = s.fixed := by
  simp only [execWhorlBadInstr, fixed_mk, fixed_ite, ite_self, fixed_foldl, fst_ite, snd_ite, after_next, after_ite, implies_true, fixed_elim, stopWith_fixed, whorlExec_fixed]

@[simp] theorem execWhorlLoad_fixed (r : Req) (s : State) : (after (execWhorlLoad r s) s).fixed = s.fixed := by
  simp only [execWhorlLoad, fixed_mk, fixed_ite, ite_self, fixed_foldl, fst_ite, snd_ite, after_next, after_ite, implies_true, fixed_elim, command_fixed, whorlLoad_fixed, infoWhorlLoad]

@[simp] theorem whorlRun_fixed (e : Nat) (w0 w1 : Word) (s : State) : (whorlRun e w0 w1 s).1.fixed = s.fixed := by
  simp only [whorlRun, fixed_mk, fixed_ite, ite_self, fixed_foldl, fst_ite, snd_ite, after_next, after_ite, implies_true, fixed_elim, modEngine_fixed]

@[simp] theorem execWhorlRun_fixed (r : Req) (s : State) : (after (execWhorlRun r s) s).fixed = s.fixed := by
  simp only [execWhorlRun, fixed_mk, fixed_ite, ite_self, fixed_foldl, fst_ite, snd_ite, after_next, after_ite, implies_true, fixed_elim, command_fixed, whorlRun_fixed, infoWhorlRun]

@[simp] theorem whorlStop_fixed (e : Nat) (s : State) : (whorlStop e s).fixed = s.fixed := by
  simp only [whorlStop, fixed_mk, fixed_ite, ite_self, fixed_foldl, fst_ite, snd_ite, after_next, after_ite, implies_true, fixed_elim, completeAll_fixed, modEngine_fixed, releaseClaims_fixed]

@[simp] theorem execWhorlStop_fixed (r : Req) (s : State) : (after (execWhorlStop r s) s).fixed = s.fixed := by
  simp only [execWhorlStop, fixed_mk, fixed_ite, ite_self, fixed_foldl, fst_ite, snd_ite, after_next, after_ite, implies_true, fixed_elim, command_fixed, whorlStop_fixed, infoWhorlStop]

@[simp] theorem modFioP_fixed (f : FioP → FioP) (s : State) : (modFioP f s).fixed = s.fixed := by
  simp only [modFioP, fixed_mk, fixed_ite, ite_self, fixed_foldl, fst_ite, snd_ite, after_next, after_ite, implies_true, fixed_elim, modP_fixed]

@[simp] theorem modPinP_fixed (i : Nat) (f : PinP → PinP) (s : State) : (modPinP i f s).fixed = s.fixed := by
  simp only [modPinP, fixed_mk, fixed_ite, ite_self, fixed_foldl, fst_ite, snd_ite, after_next, after_ite, implies_true, fixed_elim, modFioP_fixed]

@[simp] theorem modCountP_fixed (c : Nat) (f : CountP → CountP) (s : State) : (modCountP c f s).fixed = s.fixed := by
  simp only [modCountP, fixed_mk, fixed_ite, ite_self, fixed_foldl, fst_ite, snd_ite, after_next, after_ite, implies_true, fixed_elim, modFioP_fixed]

@[simp] theorem takePinCfg_fixed (i : Nat) (w : Word) (s : State) : (takePinCfg i w s).fixed = s.fixed := by
  simp only [takePinCfg, fixed_mk, fixed_ite, ite_self, fixed_foldl, fst_ite, snd_ite, after_next, after_ite, implies_true, fixed_elim, modPinP_fixed]

@[simp] theorem takeCountCfg_fixed (c : Nat) (w : Word) (s : State) : (takeCountCfg c w s).fixed = s.fixed := by
  simp only [takeCountCfg, fixed_mk, fixed_ite, ite_self, fixed_foldl, fst_ite, snd_ite, after_next, after_ite, implies_true, fixed_elim, modCountP_fixed]

@[simp] theorem countTrig_fixed (kind c : Nat) (s : State) : (countTrig kind c s).fixed = s.fixed := by
  simp only [countTrig, fixed_mk, fixed_ite, ite_self, fixed_foldl, fst_ite, snd_ite, after_next, after_ite, implies_true, fixed_elim, modFioP_fixed, pushUp_fixed]

@[simp] theorem countEdge_fixed (c : Nat) (d : Int) (s : State) : (countEdge c d s).fixed = s.fixed := by
  simp only [countEdge, fixed_mk, fixed_ite, ite_self, fixed_foldl, fst_ite, snd_ite, after_next, after_ite, implies_true, fixed_elim, countTrig_fixed, modCountP_fixed]

@[simp] theorem quadEdge_fixed (c : Nat) (aMoved bMoved : Bool) (s : State) : (quadEdge c aMoved bMoved s).fixed = s.fixed := by
  simp only [quadEdge, fixed_mk, fixed_ite, ite_self, fixed_foldl, fst_ite, snd_ite, after_next, after_ite, implies_true, fixed_elim, countEdge_fixed, countTrig_fixed]

set_option maxRecDepth 4000 in
@[simp] theorem countMoved_fixed (moved : List Nat) (s : State) : (countMoved moved s).fixed = s.fixed := by
  unfold countMoved
  refine fixed_foldl _ (fun s x => ?_) _ _
  repeat' (first | (with_reducible rfl) | (simp only [fixed_mk, fixed_ite, ite_self, fixed_foldl, fst_ite, snd_ite, after_next, after_ite, implies_true, fixed_elim, countEdge_fixed, quadEdge_fixed]; done) | split | simp only [fixed_mk, fixed_ite, ite_self, fixed_foldl, fst_ite, snd_ite, after_next, after_ite, implies_true, fixed_elim, countEdge_fixed, quadEdge_fixed])

@[simp] theorem debounced_fixed (i : Nat) (s : State) : (debounced i s).fixed = s.fixed := by
  simp only [debounced, fixed_mk, fixed_ite, ite_self, fixed_foldl, fst_ite, snd_ite, after_next, after_ite, implies_true, fixed_elim, bump_fixed, modP_fixed, modPinP_fixed, pushUp_fixed]

@[simp] theorem restartDebounce_fixed (s : State) : (restartDebounce s).fixed = s.fixed := by
  simp only [restartDebounce, fixed_mk, fixed_ite, ite_self, fixed_foldl, fst_ite, snd_ite, after_next, after_ite, implies_true, fixed_elim, modFioP_fixed]

@[simp] theorem resumePins_fixed (s : State) : (resumePins s).fixed = s.fixed := by
  simp only [resumePins, fixed_mk, fixed_ite, ite_self, fixed_foldl, fst_ite, snd_ite, after_next, after_ite, implies_true, fixed_elim, modFioP_fixed, pushUp_fixed, restartDebounce_fixed]

@[simp] theorem execDebouncedChange_fixed (t : Nat) (pins : List Nat) (s : State) : (after (execDebouncedChange t pins s) s).fixed = s.fixed := by
  simp only [execDebouncedChange, fixed_mk, fixed_ite, ite_self, fixed_foldl, fst_ite, snd_ite, after_next, after_ite, implies_true, fixed_elim, countMoved_fixed, debounced_fixed, toP_fixed]

set_option maxRecDepth 4000 in
@[simp] theorem execWettingBoostEnd_fixed (i : Nat) (s : State) : (after (execWettingBoostEnd i s) s).fixed = s.fixed := by
  simp only [execWettingBoostEnd, fixed_mk, fixed_ite, ite_self, fixed_foldl, fst_ite, snd_ite, after_next, after_ite, implies_true, fixed_elim, modPinP_fixed, toP_fixed]
  repeat' split
  all_goals (first | (with_reducible rfl) | simp only [fixed_mk, fixed_ite, ite_self, fixed_foldl, fst_ite, snd_ite, after_next, after_ite, implies_true, fixed_elim, modPinP_fixed, toP_fixed])

@[simp] theorem setFioFault_fixed (s : State) : (setFioFault s).fixed = s.fixed := by
  simp only [setFioFault, fixed_mk, fixed_ite, ite_self, fixed_foldl, fst_ite, snd_ite, after_next, after_ite, implies_true, fixed_elim, modFioP_fixed, pushUp_fixed, reportP_fixed]

@[simp] theorem latchOutput_fixed (i : Nat) (s : State) : (latchOutput i s).fixed = s.fixed := by
  simp only [latchOutput, fixed_mk, fixed_ite, ite_self, fixed_foldl, fst_ite, snd_ite, after_next, after_ite, implies_true, fixed_elim, bump_fixed, modPinP_fixed, setFioFault_fixed]

@[simp] theorem execOutputTrip_fixed (t i : Nat) (s : State) : (after (execOutputTrip t i s) s).fixed = s.fixed := by
  simp only [execOutputTrip, fixed_mk, fixed_ite, ite_self, fixed_foldl, fst_ite, snd_ite, after_next, after_ite, implies_true, fixed_elim, latchOutput_fixed, toP_fixed]

@[simp] theorem execOutputThermal_fixed (t i : Nat) (s : State) : (after (execOutputThermal t i s) s).fixed = s.fixed := by
  simp only [execOutputThermal, fixed_mk, fixed_ite, ite_self, fixed_foldl, fst_ite, snd_ite, after_next, after_ite, implies_true, fixed_elim, latchOutput_fixed, toP_fixed]

@[simp] theorem execHallOvercurrent_fixed (t i : Nat) (s : State) : (after (execHallOvercurrent t i s) s).fixed = s.fixed := by
  simp only [execHallOvercurrent, fixed_mk, fixed_ite, ite_self, fixed_foldl, fst_ite, snd_ite, after_next, after_ite, implies_true, fixed_elim, modPinP_fixed, setFioFault_fixed, toP_fixed]

@[simp] theorem pollPin_fixed (i : Nat) (v : Bool) (s : State) : (pollPin i v s).fixed = s.fixed := by
  simp only [pollPin, fixed_mk, fixed_ite, ite_self, fixed_foldl, fst_ite, snd_ite, after_next, after_ite, implies_true, fixed_elim, modFioP_fixed, modP_fixed, modPinP_fixed]

@[simp] theorem execPoll_fixed (states : Nat) (s : State) : (after (execPoll states s) s).fixed = s.fixed := by
  simp only [execPoll, fixed_mk, fixed_ite, ite_self, fixed_foldl, fst_ite, snd_ite, after_next, after_ite, implies_true, fixed_elim, modFioP_fixed, pollPin_fixed, toP_fixed]

@[simp] theorem takeOutputs_fixed (mask value : Nat) (s : State) : (takeOutputs mask value s).fixed = s.fixed := by
  simp only [takeOutputs, fixed_mk, fixed_ite, ite_self, fixed_foldl, fst_ite, snd_ite, after_next, after_ite, implies_true, fixed_elim, modPinP_fixed]

@[simp] theorem takeFioWord_fixed (j : Nat) (v : Word) (s : State) : (takeFioWord j v s).fixed = s.fixed := by
  simp only [takeFioWord, fixed_mk, fixed_ite, ite_self, fixed_foldl, fst_ite, snd_ite, after_next, after_ite, implies_true, fixed_elim, modFioP_fixed]

@[simp] theorem takeFioCommit_fixed (s : State) : (takeFioCommit s).fixed = s.fixed := by
  simp only [takeFioCommit, fixed_mk, fixed_ite, ite_self, fixed_foldl, fst_ite, snd_ite, after_next, after_ite, implies_true, fixed_elim, takeOutputs_fixed]

@[simp] theorem clearFioFault_fixed (s : State) : (clearFioFault s).fixed = s.fixed := by
  simp only [clearFioFault, fixed_mk, fixed_ite, ite_self, fixed_foldl, fst_ite, snd_ite, after_next, after_ite, implies_true, fixed_elim, modFioP_fixed]

@[simp] theorem takeFio_fixed (off : Nat) (v : Word) (s : State) : (takeFio off v s).fixed = s.fixed := by
  simp only [takeFio, fixed_mk, fixed_ite, ite_self, fixed_foldl, fst_ite, snd_ite, after_next, after_ite, implies_true, fixed_elim, clearFioFault_fixed, modCountP_fixed, modFioP_fixed, takeCountCfg_fixed, takePinCfg_fixed]

@[simp] theorem takeFioClear_fixed (c : Nat) (s : State) : (takeFioClear c s).fixed = s.fixed := by
  simp only [takeFioClear, fixed_mk, fixed_ite, ite_self, fixed_foldl, fst_ite, snd_ite, after_next, after_ite, implies_true, fixed_elim, modCountP_fixed, pushUp_fixed]

@[simp] theorem fioFailSafe_fixed (s : State) : (fioFailSafe s).fixed = s.fixed := by
  simp only [fioFailSafe, fixed_mk, fixed_ite, ite_self, fixed_foldl, fst_ite, snd_ite, after_next, after_ite, implies_true, fixed_elim, modFioP_fixed]

@[simp] theorem modFio_fixed (f : FioL → FioL) (s : State) : (modFio f s).fixed = s.fixed := by
  simp only [modFio, fixed_mk, fixed_ite, ite_self, fixed_foldl, fst_ite, snd_ite, after_next, after_ite, implies_true, fixed_elim]

@[simp] theorem raiseFio_fixed (s : State) : (raiseFio s).fixed = s.fixed := by
  simp only [raiseFio, fixed_mk, fixed_ite, ite_self, fixed_foldl, fst_ite, snd_ite, after_next, after_ite, implies_true, fixed_elim, modFio_fixed, postEventAt_fixed]

@[simp] theorem gatherFio_fixed (t : Nat) (f : FioGather → FioGather) (s : State) : (gatherFio t f s).fixed = s.fixed := by
  simp only [gatherFio, fixed_mk, fixed_ite, ite_self, fixed_foldl, fst_ite, snd_ite, after_next, after_ite, implies_true, fixed_elim, modFio_fixed]

@[simp] theorem fioTrigger_fixed (t : Nat) (f : FioGather → FioGather) (s : State) : (fioTrigger t f s).fixed = s.fixed := by
  simp only [fioTrigger, fixed_mk, fixed_ite, ite_self, fixed_foldl, fst_ite, snd_ite, after_next, after_ite, implies_true, fixed_elim, gatherFio_fixed, raiseFio_fixed]

@[simp] theorem noteChange_fixed (i : Nat) (s : State) : (noteChange i s).fixed = s.fixed := by
  simp only [noteChange, fixed_mk, fixed_ite, ite_self, fixed_foldl, fst_ite, snd_ite, after_next, after_ite, implies_true, fixed_elim, modFio_fixed]

set_option maxRecDepth 4000 in
@[simp] theorem gatherUp_fixed (b : UpBody) (s : State) : (gatherUp b s).fixed = s.fixed := by
  unfold gatherUp
  repeat' (first | (with_reducible rfl) | (simp only [fixed_mk, fixed_ite, ite_self, fixed_foldl, fst_ite, snd_ite, after_next, after_ite, implies_true, fixed_elim, gatherFio_fixed, noteChange_fixed]; done) | split | simp only [fixed_mk, fixed_ite, ite_self, fixed_foldl, fst_ite, snd_ite, after_next, after_ite, implies_true, fixed_elim, gatherFio_fixed, noteChange_fixed])

@[simp] theorem takeFioEvent_fixed (i : Nat) (v : Bool) (tick : Nat) (s : State) : (takeFioEvent i v tick s).fixed = s.fixed := by
  simp only [takeFioEvent, fixed_mk, fixed_ite, ite_self, fixed_foldl, fst_ite, snd_ite, after_next, after_ite, implies_true, fixed_elim, fioTrigger_fixed, modFio_fixed, noteChange_fixed, wakeHeard_fixed]

@[simp] theorem takePolls_fixed (set states tick : Nat) (s : State) : (takePolls set states tick s).fixed = s.fixed := by
  simp only [takePolls, fixed_mk, fixed_ite, ite_self, fixed_foldl, fst_ite, snd_ite, after_next, after_ite, implies_true, fixed_elim, fioTrigger_fixed, modFio_fixed]

set_option maxRecDepth 4000 in
@[simp] theorem takeFioTrig_fixed (kind c tick : Nat) (s : State) : (takeFioTrig kind c tick s).fixed = s.fixed := by
  simp only [takeFioTrig, fixed_mk, fixed_ite, ite_self, fixed_foldl, fst_ite, snd_ite, after_next, after_ite, implies_true, fixed_elim, fioTrigger_fixed, modFio_fixed]
  repeat' split
  all_goals (first | (with_reducible rfl) | simp only [fixed_mk, fixed_ite, ite_self, fixed_foldl, fst_ite, snd_ite, after_next, after_ite, implies_true, fixed_elim, fioTrigger_fixed, modFio_fixed])

set_option maxRecDepth 4000 in
@[simp] theorem execFioEventGapEnd_fixed (s : State) : (after (execFioEventGapEnd s) s).fixed = s.fixed := by
  simp only [execFioEventGapEnd, fixed_mk, fixed_ite, ite_self, fixed_foldl, fst_ite, snd_ite, after_next, after_ite, implies_true, fixed_elim, raiseFio_fixed, toL_fixed]
  repeat' split
  all_goals (first | (with_reducible rfl) | simp only [fixed_mk, fixed_ite, ite_self, fixed_foldl, fst_ite, snd_ite, after_next, after_ite, implies_true, fixed_elim, raiseFio_fixed, toL_fixed])

@[simp] theorem takeFioCleared_fixed (c count period last tick : Nat) (s : State) : (takeFioCleared c count period last tick s).fixed = s.fixed := by
  simp only [takeFioCleared, fixed_mk, fixed_ite, ite_self, fixed_foldl, fst_ite, snd_ite, after_next, after_ite, implies_true, fixed_elim, completeAll_fixed, modFio_fixed]

@[simp] theorem fioEchoed_fixed (off : Nat) (v : Word) (s : State) : (fioEchoed off v s).fixed = s.fixed := by
  simp only [fioEchoed, fixed_mk, fixed_ite, ite_self, fixed_foldl, fst_ite, snd_ite, after_next, after_ite, implies_true, fixed_elim, modFio_fixed]

@[simp] theorem outputsEchoed_fixed (set : Nat) (s : State) : (outputsEchoed set s).fixed = s.fixed := by
  simp only [outputsEchoed, fixed_mk, fixed_ite, ite_self, fixed_foldl, fst_ite, snd_ite, after_next, after_ite, implies_true, fixed_elim, modFio_fixed]

@[simp] theorem sendOutputs_fixed (set : Nat) (s : State) : (sendOutputs set s).2.fixed = s.fixed := by
  simp only [sendOutputs, fixed_mk, fixed_ite, ite_self, fixed_foldl, fst_ite, snd_ite, after_next, after_ite, implies_true, fixed_elim, pushCfg_fixed, pushCfg'_fixed]

@[simp] theorem readbackFio_fixed (j : Nat) (s : State) : (readbackFio j s).fixed = s.fixed := by
  simp only [readbackFio, fixed_mk, fixed_ite, ite_self, fixed_foldl, fst_ite, snd_ite, after_next, after_ite, implies_true, fixed_elim, modFio_fixed]

@[simp] theorem adoptFio_fixed (s : State) : (adoptFio s).fixed = s.fixed := by
  simp only [adoptFio, fixed_mk, fixed_ite, ite_self, fixed_foldl, fst_ite, snd_ite, after_next, after_ite, implies_true, fixed_elim, fioTrigger_fixed, modFio_fixed, modFioP_fixed]

set_option maxRecDepth 4000 in
@[simp] theorem disableFio_fixed (s : State) : (disableFio s).fixed = s.fixed := by
  simp only [disableFio, fixed_mk, fixed_ite, ite_self, fixed_foldl, fst_ite, snd_ite, after_next, after_ite, implies_true, fixed_elim, modFio_fixed, sendOutputs_fixed]
  repeat' split
  all_goals (first | (with_reducible rfl) | simp only [fixed_mk, fixed_ite, ite_self, fixed_foldl, fst_ite, snd_ite, after_next, after_ite, implies_true, fixed_elim, modFio_fixed, sendOutputs_fixed])

@[simp] theorem enableFio_fixed (s : State) : (enableFio s).fixed = s.fixed := by
  simp only [enableFio, fixed_mk, fixed_ite, ite_self, fixed_foldl, fst_ite, snd_ite, after_next, after_ite, implies_true, fixed_elim, fioTrigger_fixed]

theorem fixed_fold1 {α β : Type} (f : β × State → α → β × State) (h : ∀ x a, (f x a).2.fixed = x.2.fixed) (l : List α) (x : β × State) : (l.foldl f x).2.fixed = x.2.fixed := by
  induction l generalizing x with
  | nil => rfl
  | cons a l ih => exact (ih _).trans (h _ _)
set_option maxRecDepth 4000 in
@[simp] theorem fioCfg_fixed (first : Nat) (ws : List Word) (s : State) : (fioCfg first ws s).1.fixed = s.fixed := by
  have h : ∀ (f : List Await × State → Nat → List Await × State) (l : List Nat) (x : List Await × State),
      (∀ x a, (f x a).2.fixed = x.2.fixed) → (l.foldl f x).2.fixed = x.2.fixed := fun f l x h => fixed_fold1 f h l x
  unfold fioCfg
  dsimp only
  repeat' split
  all_goals (first | (with_reducible rfl) | (refine h _ _ _ (fun x a => ?_); simp only [pushCfg_fixed]))

@[simp] theorem execFioCfg_fixed (r : Req) (s : State) : (after (execFioCfg r s) s).fixed = s.fixed := by
  simp only [execFioCfg, fixed_mk, fixed_ite, ite_self, fixed_foldl, fst_ite, snd_ite, after_next, after_ite, implies_true, fixed_elim, command_fixed, fioCfg_fixed, infoFioCfg]

@[simp] theorem execFioRead_fixed (r : Req) (s : State) : (after (execFioRead r s) s).fixed = s.fixed := by
  simp only [execFioRead, fixed_mk, fixed_ite, ite_self, fixed_foldl, fst_ite, snd_ite, after_next, after_ite, implies_true, fixed_elim, command_fixed, infoFioRead]

@[simp] theorem fioWrite_fixed (mask value : Nat) (s : State) : (fioWrite mask value s).1.fixed = s.fixed := by
  simp only [fioWrite, fixed_mk, fixed_ite, ite_self, fixed_foldl, fst_ite, snd_ite, after_next, after_ite, implies_true, fixed_elim, sendOutputs_fixed]

@[simp] theorem execFioWrite_fixed (r : Req) (s : State) : (after (execFioWrite r s) s).fixed = s.fixed := by
  simp only [execFioWrite, fixed_mk, fixed_ite, ite_self, fixed_foldl, fst_ite, snd_ite, after_next, after_ite, implies_true, fixed_elim, command_fixed, fioWrite_fixed, infoFioWrite]

set_option maxRecDepth 4000 in
@[simp] theorem fioCountRead_fixed (c : Nat) (w : Word) (s : State) : (fioCountRead c w s).1.fixed = s.fixed := by
  simp only [fioCountRead, fixed_mk, fixed_ite, ite_self, fixed_foldl, fst_ite, snd_ite, after_next, after_ite, implies_true, fixed_elim, pushCfg'_fixed]
  repeat' split
  all_goals (first | (with_reducible rfl) | simp only [fixed_mk, fixed_ite, ite_self, fixed_foldl, fst_ite, snd_ite, after_next, after_ite, implies_true, fixed_elim, pushCfg'_fixed])

@[simp] theorem execFioCountRead_fixed (r : Req) (s : State) : (after (execFioCountRead r s) s).fixed = s.fixed := by
  simp only [execFioCountRead, fixed_mk, fixed_ite, ite_self, fixed_foldl, fst_ite, snd_ite, after_next, after_ite, implies_true, fixed_elim, command_fixed, fioCountRead_fixed, infoFioCountRead]

@[simp] theorem writeCountCfg_fixed (c : Nat) (v : Word) (s : State) : (writeCountCfg c v s).1.fixed = s.fixed := by
  simp only [writeCountCfg, fixed_mk, fixed_ite, ite_self, fixed_foldl, fst_ite, snd_ite, after_next, after_ite, implies_true, fixed_elim, writeP_fixed]

set_option maxRecDepth 4000 in
@[simp] theorem asFio_fixed (f : State → State × Ans) (s : State) (hf : ∀ s, (f s).1.fixed = s.fixed) : (asFio f s).1.fixed = s.fixed := by
  simp [asFio, fixed_mk, fixed_ite, ite_self, fixed_foldl, fst_ite, snd_ite, after_next, after_ite, implies_true, fixed_elim, hf]

set_option maxRecDepth 4000 in
@[simp] theorem writeFio_fixed (off : Nat) (v : Word) (s : State) : (writeFio off v s).1.fixed = s.fixed := by
  simp only [writeFio, fixed_mk, fixed_ite, ite_self, fixed_foldl, fst_ite, snd_ite, after_next, after_ite, implies_true, fixed_elim, asFio_fixed, fioCfg_fixed, fioWrite_fixed, modFio_fixed, writeCountCfg_fixed, writeP_fixed]
  repeat' split
  all_goals (first | (with_reducible rfl) | simp only [fixed_mk, fixed_ite, ite_self, fixed_foldl, fst_ite, snd_ite, after_next, after_ite, implies_true, fixed_elim, asFio_fixed, fioCfg_fixed, fioWrite_fixed, modFio_fixed, writeCountCfg_fixed, writeP_fixed])

@[simp] theorem modGw_fixed (f : GwSt → GwSt) (s : State) : (modGw f s).fixed = s.fixed := by
  simp only [modGw, fixed_mk, fixed_ite, ite_self, fixed_foldl, fst_ite, snd_ite, after_next, after_ite, implies_true, fixed_elim, modNm_fixed]

@[simp] theorem isoEvent_fixed (g : Nat) (on : Bool) (s : State) : (isoEvent g on s).fixed = s.fixed := by
  simp only [isoEvent, fixed_mk, fixed_ite, ite_self, fixed_foldl, fst_ite, snd_ite, after_next, after_ite, implies_true, fixed_elim, postEvent_fixed]

@[simp] theorem raiseIso_fixed (g : Nat) (s : State) : (raiseIso g s).fixed = s.fixed := by
  simp only [raiseIso, fixed_mk, fixed_ite, ite_self, fixed_foldl, fst_ite, snd_ite, after_next, after_ite, implies_true, fixed_elim, busOff_fixed, isoEvent_fixed, modGw_fixed, reportL_fixed]

@[simp] theorem execSegmentIsolation_fixed (t g : Nat) (s : State) : (after (execSegmentIsolation t g s) s).fixed = s.fixed := by
  simp only [execSegmentIsolation, fixed_mk, fixed_ite, ite_self, fixed_foldl, fst_ite, snd_ite, after_next, after_ite, implies_true, fixed_elim, raiseIso_fixed, toL_fixed]

@[simp] theorem setIso_fixed (v : Word) (s : State) : (setIso v s).fixed = s.fixed := by
  simp only [setIso, fixed_mk, fixed_ite, ite_self, fixed_foldl, fst_ite, snd_ite, after_next, after_ite, implies_true, fixed_elim, isoEvent_fixed, modGw_fixed]

@[simp] theorem gwDrop_fixed (g : Nat) (s : State) : (gwDrop g s).fixed = s.fixed := by
  simp only [gwDrop, fixed_mk, fixed_ite, ite_self, fixed_foldl, fst_ite, snd_ite, after_next, after_ite, implies_true, fixed_elim, bump_fixed, modGw_fixed, reportL_fixed]

@[simp] theorem gwSent_fixed (g : Nat) (s : State) : (gwSent g s).fixed = s.fixed := by
  simp only [gwSent, fixed_mk, fixed_ite, ite_self, fixed_foldl, fst_ite, snd_ite, after_next, after_ite, implies_true, fixed_elim, bump_fixed]

set_option maxRecDepth 4000 in
@[simp] theorem toCan_fixed (k : Nat) (x : CanRx) (s : State) : (toCan k x s).1.fixed = s.fixed := by
  simp only [toCan, fixed_mk, fixed_ite, ite_self, fixed_foldl, fst_ite, snd_ite, after_next, after_ite, implies_true, fixed_elim, authSend_fixed, countLoad_fixed, enqueue_fixed, gwDrop_fixed, gwSent_fixed]
  repeat' split
  all_goals (first | (with_reducible rfl) | simp only [fixed_mk, fixed_ite, ite_self, fixed_foldl, fst_ite, snd_ite, after_next, after_ite, implies_true, fixed_elim, authSend_fixed, countLoad_fixed, enqueue_fixed, gwDrop_fixed, gwSent_fixed])

@[simp] theorem sendDatagram_fixed (m : Nat) (s : State) : (sendDatagram m s).fixed = s.fixed := by
  simp only [sendDatagram, fixed_mk, fixed_ite, ite_self, fixed_foldl, fst_ite, snd_ite, after_next, after_ite, implies_true, fixed_elim, modGw_fixed]

@[simp] theorem toEth_fixed (m : Nat) (record : List Word) (s : State) : (toEth m record s).fixed = s.fixed := by
  simp only [toEth, fixed_mk, fixed_ite, ite_self, fixed_foldl, fst_ite, snd_ite, after_next, after_ite, implies_true, fixed_elim, gwSent_fixed, modGw_fixed, sendDatagram_fixed]

@[simp] theorem toSegment_fixed (src g : Nat) (wakes : Bool) (x : CanRx) (s : State) : (toSegment src g wakes x s).1.fixed = s.fixed := by
  simp only [toSegment, fixed_mk, fixed_ite, ite_self, fixed_foldl, fst_ite, snd_ite, after_next, after_ite, implies_true, fixed_elim, gwDrop_fixed, toCan_fixed, toEth_fixed, wakeNm_fixed]

theorem fixed_fold0 {α β : Type} (f : State × β → α → State × β) (h : ∀ x a, (f x a).1.fixed = x.1.fixed) (l : List α) (x : State × β) : (l.foldl f x).1.fixed = x.1.fixed := by
  induction l generalizing x with
  | nil => rfl
  | cons a l ih => exact (ih _).trans (h _ _)
set_option maxRecDepth 4000 in
@[simp] theorem gwOffer_fixed (src extra : Nat) (x : CanRx) (s : State) : (gwOffer src extra x s).fixed = s.fixed := by
  unfold gwOffer
  split
  · rfl
  split
  · rfl
  dsimp only
  split
  · rw [fixed_foldl _ (fun s x => ?_)]
    exact gwDrop_fixed _ _
  · split
    · rw [modGw_fixed, bump_fixed, fixed_fold0 _ (fun x a => ?_)]
      exact toSegment_fixed _ _ _ _ _
    · rw [fixed_fold0 _ (fun x a => ?_)]
      exact toSegment_fixed _ _ _ _ _

@[simp] theorem execGwDatagramRx_fixed (t m peer : Nat) (data : List Byte) (s : State) : (after (execGwDatagramRx t m peer data s) s).fixed = s.fixed := by
  simp only [execGwDatagramRx, fixed_mk, fixed_ite, ite_self, fixed_foldl, fst_ite, snd_ite, after_next, after_ite, implies_true, fixed_elim, gwOffer_fixed, toL_fixed]

@[simp] theorem execGwDatagramSend_fixed (t m : Nat) (s : State) : (after (execGwDatagramSend t m s) s).fixed = s.fixed := by
  simp only [execGwDatagramSend, fixed_mk, fixed_ite, ite_self, fixed_foldl, fst_ite, snd_ite, after_next, after_ite, implies_true, fixed_elim, sendDatagram_fixed, toL_fixed]

@[simp] theorem writeRoutes_fixed (i : Nat) (ws : List Word) (s : State) : (writeRoutes i ws s).1.fixed = s.fixed := by
  simp only [writeRoutes, fixed_mk, fixed_ite, ite_self, fixed_foldl, fst_ite, snd_ite, after_next, after_ite, implies_true, fixed_elim, modGw_fixed]

@[simp] theorem execGwRouteSet_fixed (r : Req) (s : State) : (after (execGwRouteSet r s) s).fixed = s.fixed := by
  simp only [execGwRouteSet, fixed_mk, fixed_ite, ite_self, fixed_foldl, fst_ite, snd_ite, after_next, after_ite, implies_true, fixed_elim, command_fixed, writeRoutes_fixed, infoGwRouteSet]

@[simp] theorem writeNmCfg_fixed (c : Nat) (v : Word) (s : State) : (writeNmCfg c v s).fixed = s.fixed := by
  simp only [writeNmCfg, fixed_mk, fixed_ite, ite_self, fixed_foldl, fst_ite, snd_ite, after_next, after_ite, implies_true, fixed_elim, modCh_fixed, setPhaseNm_fixed]

set_option maxRecDepth 4000 in
@[simp] theorem writeTrxReg_fixed (n o : Nat) (v : Word) (s : State) : (writeTrxReg n o v s).1.fixed = s.fixed := by
  simp only [writeTrxReg, fixed_mk, fixed_ite, ite_self, fixed_foldl, fst_ite, snd_ite, after_next, after_ite, implies_true, fixed_elim, writeP_fixed]
  repeat' split
  all_goals (first | (with_reducible rfl) | simp only [fixed_mk, fixed_ite, ite_self, fixed_foldl, fst_ite, snd_ite, after_next, after_ite, implies_true, fixed_elim, writeP_fixed])

set_option maxRecDepth 4000 in
@[simp] theorem writeNmgw_fixed (off : Nat) (v : Word) (s : State) : (writeNmgw off v s).1.fixed = s.fixed := by
  simp only [writeNmgw, fixed_mk, fixed_ite, ite_self, fixed_foldl, fst_ite, snd_ite, after_next, after_ite, implies_true, fixed_elim, modCh_fixed, modGw_fixed, setIso_fixed, writeNmCfg_fixed, writeRoutes_fixed, writeTrxReg_fixed]
  repeat' split
  all_goals (first | (with_reducible rfl) | simp only [fixed_mk, fixed_ite, ite_self, fixed_foldl, fst_ite, snd_ite, after_next, after_ite, implies_true, fixed_elim, modCh_fixed, modGw_fixed, setIso_fixed, writeNmCfg_fixed, writeRoutes_fixed, writeTrxReg_fixed])

@[simp] theorem trxEchoed_fixed (off : Nat) (s : State) : (trxEchoed off s).fixed = s.fixed := by
  simp only [trxEchoed, fixed_mk, fixed_ite, ite_self, fixed_foldl, fst_ite, snd_ite, after_next, after_ite, implies_true, fixed_elim, modNm_fixed]

@[simp] theorem enableNm_fixed (s : State) : (enableNm s).fixed = s.fixed := by
  simp only [enableNm, fixed_mk, fixed_ite, ite_self, fixed_foldl, fst_ite, snd_ite, after_next, after_ite, implies_true, fixed_elim, resumeNm_fixed]

@[simp] theorem emptyGw_fixed (s : State) : (emptyGw s).fixed = s.fixed := by
  simp only [emptyGw, fixed_mk, fixed_ite, ite_self, fixed_foldl, fst_ite, snd_ite, after_next, after_ite, implies_true, fixed_elim, modGw_fixed]

@[simp] theorem modPort_fixed (p : Port) (f : PortBuf → PortBuf) (s : State) : (modPort p f s).fixed = s.fixed := by
  simp only [modPort, fixed_mk, fixed_ite, ite_self, fixed_foldl, fst_ite, snd_ite, after_next, after_ite, implies_true, fixed_elim, complete_fixed, modHost_fixed]

@[simp] theorem pushIn_fixed (p : Port) (peer : Peer) (frame : List Byte) (s : State) : (pushIn p peer frame s).fixed = s.fixed := by
  simp only [pushIn, fixed_mk, fixed_ite, ite_self, fixed_foldl, fst_ite, snd_ite, after_next, after_ite, implies_true, fixed_elim, modPort_fixed]

@[simp] theorem qspiDiscard_fixed (f : HostSt → HostSt) (s : State) : (qspiDiscard f s).fixed = s.fixed := by
  simp only [qspiDiscard, fixed_mk, fixed_ite, ite_self, fixed_foldl, fst_ite, snd_ite, after_next, after_ite, implies_true, fixed_elim, bump_fixed, modHost_fixed, reportL_fixed]

@[simp] theorem execQspiSend_fixed (t len : Nat) (data : List Byte) (s : State) : (after (execQspiSend t len data s) s).fixed = s.fixed := by
  simp only [execQspiSend, fixed_mk, fixed_ite, ite_self, fixed_foldl, fst_ite, snd_ite, after_next, after_ite, implies_true, fixed_elim, bump_fixed, pushIn_fixed, qspiDiscard_fixed, toL_fixed]

@[simp] theorem execQspiStatus_fixed (t : Nat) (s : State) : (after (execQspiStatus t s) s).fixed = s.fixed := by
  simp only [execQspiStatus, fixed_mk, fixed_ite, ite_self, fixed_foldl, fst_ite, snd_ite, after_next, after_ite, implies_true, fixed_elim, modHost_fixed, toL_fixed]

set_option maxRecDepth 4000 in
@[simp] theorem execQspiFetch_fixed (t : Nat) (s : State) : (after (execQspiFetch t s) s).fixed = s.fixed := by
  simp only [execQspiFetch, fixed_mk, fixed_ite, ite_self, fixed_foldl, fst_ite, snd_ite, after_next, after_ite, implies_true, fixed_elim, modHost_fixed, modPort_fixed, toL_fixed]
  repeat' split
  all_goals (first | (with_reducible rfl) | simp only [fixed_mk, fixed_ite, ite_self, fixed_foldl, fst_ite, snd_ite, after_next, after_ite, implies_true, fixed_elim, modHost_fixed, modPort_fixed, toL_fixed])

set_option maxRecDepth 4000 in
@[simp] theorem departed_fixed (f : OutFrame) (s : State) : (departed f s).fixed = s.fixed := by
  simp only [departed, fixed_mk, fixed_ite, ite_self, fixed_foldl, fst_ite, snd_ite, after_next, after_ite, implies_true, fixed_elim, modFlight_fixed, overflowEvent_fixed]
  repeat' split
  all_goals (first | (with_reducible rfl) | simp only [fixed_mk, fixed_ite, ite_self, fixed_foldl, fst_ite, snd_ite, after_next, after_ite, implies_true, fixed_elim, modFlight_fixed, overflowEvent_fixed])

@[simp] theorem modPly_fixed (p : Nat) (f : Ply → Ply) (s : State) : (modPly p f s).fixed = s.fixed := by
  simp only [modPly, fixed_mk, fixed_ite, ite_self, fixed_foldl, fst_ite, snd_ite, after_next, after_ite, implies_true, fixed_elim, modHost_fixed]

@[simp] theorem modMac_fixed (m : Nat) (f : Mac → Mac) (s : State) : (modMac m f s).fixed = s.fixed := by
  simp only [modMac, fixed_mk, fixed_ite, ite_self, fixed_foldl, fst_ite, snd_ite, after_next, after_ite, implies_true, fixed_elim, modHost_fixed]

set_option maxRecDepth 4000 in
@[simp] theorem execResponseSent_fixed (t : Nat) (port : Port) (s : State) : (after (execResponseSent t port s) s).fixed = s.fixed := by
  simp only [execResponseSent, fixed_mk, fixed_ite, ite_self, fixed_foldl, fst_ite, snd_ite, after_next, after_ite, implies_true, fixed_elim, bump_fixed, departed_fixed, modHost_fixed, modPly_fixed, modPort_fixed, toL_fixed]
  repeat' split
  all_goals (first | (with_reducible rfl) | simp only [fixed_mk, fixed_ite, ite_self, fixed_foldl, fst_ite, snd_ite, after_next, after_ite, implies_true, fixed_elim, bump_fixed, departed_fixed, modHost_fixed, modPly_fixed, modPort_fixed, toL_fixed])

@[simp] theorem execUdpDatagramRx_fixed (t m : Nat) (peer : Peer) (dst dport : Nat) (vlan : Option Nat) (plain : Bool) (data : List Byte) (s : State) : (after (execUdpDatagramRx t m peer dst dport vlan plain data s) s).fixed = s.fixed := by
  simp only [execUdpDatagramRx, fixed_mk, fixed_ite, ite_self, fixed_foldl, fst_ite, snd_ite, after_next, after_ite, implies_true, fixed_elim, bump_fixed, modMac_fixed, pushIn_fixed, toL_fixed]

@[simp] theorem answerMac_fixed (t m asked fromAddr : Nat) (s : State) : (answerMac t m asked fromAddr s).fixed = s.fixed := by
  simp only [answerMac, fixed_mk, fixed_ite, ite_self, fixed_foldl, fst_ite, snd_ite, after_next, after_ite, implies_true, fixed_elim, modMac_fixed, toL_fixed]

@[simp] theorem execArpRequest_fixed (t m asked fromAddr : Nat) (s : State) : (after (execArpRequest t m asked fromAddr s) s).fixed = s.fixed := by
  simp only [execArpRequest, fixed_mk, fixed_ite, ite_self, fixed_foldl, fst_ite, snd_ite, after_next, after_ite, implies_true, fixed_elim, answerMac_fixed]

@[simp] theorem execIcmpEcho_fixed (t m asked fromAddr : Nat) (s : State) : (after (execIcmpEcho t m asked fromAddr s) s).fixed = s.fixed := by
  simp only [execIcmpEcho, fixed_mk, fixed_ite, ite_self, fixed_foldl, fst_ite, snd_ite, after_next, after_ite, implies_true, fixed_elim, answerMac_fixed]

@[simp] theorem execMacLinkChange_fixed (t m : Nat) (up fast : Bool) (s : State) : (after (execMacLinkChange t m up fast s) s).fixed = s.fixed := by
  simp only [execMacLinkChange, fixed_mk, fixed_ite, ite_self, fixed_foldl, fst_ite, snd_ite, after_next, after_ite, implies_true, fixed_elim, modMac_fixed, raiseIso_fixed, toL_fixed]

@[simp] theorem modGptp_fixed (f : Gptp → Gptp) (s : State) : (modGptp f s).fixed = s.fixed := by
  simp only [modGptp, fixed_mk, fixed_ite, ite_self, fixed_foldl, fst_ite, snd_ite, after_next, after_ite, implies_true, fixed_elim, modHost_fixed]

@[simp] theorem execGptpSync_fixed (t m ns : Nat) (s : State) : (after (execGptpSync t m ns s) s).fixed = s.fixed := by
  simp only [execGptpSync, fixed_mk, fixed_ite, ite_self, fixed_foldl, fst_ite, snd_ite, after_next, after_ite, implies_true, fixed_elim, modGptp_fixed, toL_fixed]

@[simp] theorem execGptpSyncLoss_fixed (t : Nat) (s : State) : (after (execGptpSyncLoss t s) s).fixed = s.fixed := by
  simp only [execGptpSyncLoss, fixed_mk, fixed_ite, ite_self, fixed_foldl, fst_ite, snd_ite, after_next, after_ite, implies_true, fixed_elim, modGptp_fixed, reportL_fixed, toL_fixed]

set_option maxRecDepth 4000 in
@[simp] theorem execPdelayRequest_fixed (t m : Nat) (measured : Option Nat) (s : State) : (after (execPdelayRequest t m measured s) s).fixed = s.fixed := by
  simp only [execPdelayRequest, fixed_mk, fixed_ite, ite_self, fixed_foldl, fst_ite, snd_ite, after_next, after_ite, implies_true, fixed_elim, modGptp_fixed, modMac_fixed, toL_fixed]
  repeat' split
  all_goals (first | (with_reducible rfl) | simp only [fixed_mk, fixed_ite, ite_self, fixed_foldl, fst_ite, snd_ite, after_next, after_ite, implies_true, fixed_elim, modGptp_fixed, modMac_fixed, toL_fixed])

@[simp] theorem execAnnounce_fixed (t m gm : Nat) (s : State) : (after (execAnnounce t m gm s) s).fixed = s.fixed := by
  simp only [execAnnounce, fixed_mk, fixed_ite, ite_self, fixed_foldl, fst_ite, snd_ite, after_next, after_ite, implies_true, fixed_elim, modGptp_fixed, toL_fixed]

@[simp] theorem modChainSt_fixed (f : Chain → Chain) (s : State) : (modChainSt f s).fixed = s.fixed := by
  simp only [modChainSt, fixed_mk, fixed_ite, ite_self, fixed_foldl, fst_ite, snd_ite, after_next, after_ite, implies_true, fixed_elim, modHost_fixed]

@[simp] theorem modView_fixed (d : Nat) (f : DevView → DevView) (s : State) : (modView d f s).fixed = s.fixed := by
  simp only [modView, fixed_mk, fixed_ite, ite_self, fixed_foldl, fst_ite, snd_ite, after_next, after_ite, implies_true, fixed_elim, modChainSt_fixed]

@[simp] theorem chainEvent_fixed (d reason : Nat) (s : State) : (chainEvent d reason s).fixed = s.fixed := by
  simp only [chainEvent, fixed_mk, fixed_ite, ite_self, fixed_foldl, fst_ite, snd_ite, after_next, after_ite, implies_true, fixed_elim, postEvent_fixed]

@[simp] theorem fallbackFor_fixed (gone : Nat → Bool) (s : State) : (fallbackFor gone s).fixed = s.fixed := by
  simp only [fallbackFor, fixed_mk, fixed_ite, ite_self, fixed_foldl, fst_ite, snd_ite, after_next, after_ite, implies_true, fixed_elim, mirrorFallback_fixed]

@[simp] theorem setAligned_fixed (v : Bool) (s : State) : (setAligned v s).fixed = s.fixed := by
  simp only [setAligned, fixed_mk, fixed_ite, ite_self, fixed_foldl, fst_ite, snd_ite, after_next, after_ite, implies_true, fixed_elim, chainEvent_fixed, modChainSt_fixed]

@[simp] theorem execPlyTraining_fixed (t p latency : Nat) (s : State) : (after (execPlyTraining t p latency s) s).fixed = s.fixed := by
  simp only [execPlyTraining, fixed_mk, fixed_ite, ite_self, fixed_foldl, fst_ite, snd_ite, after_next, after_ite, implies_true, fixed_elim, chainEvent_fixed, modPly_fixed, toL_fixed]

@[simp] theorem execPlyRetrain_fixed (t p : Nat) (s : State) : (after (execPlyRetrain t p s) s).fixed = s.fixed := by
  simp only [execPlyRetrain, fixed_mk, fixed_ite, ite_self, fixed_foldl, fst_ite, snd_ite, after_next, after_ite, implies_true, fixed_elim, fallbackFor_fixed, modPly_fixed, toL_fixed]

@[simp] theorem plyPacket_fixed (p : Nat) (s : State) : (plyPacket p s).fixed = s.fixed := by
  simp only [plyPacket, fixed_mk, fixed_ite, ite_self, fixed_foldl, fst_ite, snd_ite, after_next, after_ite, implies_true, fixed_elim, bump_fixed]

set_option maxRecDepth 4000 in
@[simp] theorem routeBack_fixed (p : Nat) (frame : List Byte) (s : State) : (routeBack p frame s).fixed = s.fixed := by
  simp only [routeBack, fixed_mk, fixed_ite, ite_self, fixed_foldl, fst_ite, snd_ite, after_next, after_ite, implies_true, fixed_elim, bump_fixed, pushOut_fixed]
  repeat' split
  all_goals (first | (with_reducible rfl) | simp only [fixed_mk, fixed_ite, ite_self, fixed_foldl, fst_ite, snd_ite, after_next, after_ite, implies_true, fixed_elim, bump_fixed, pushOut_fixed])

set_option maxRecDepth 4000 in
@[simp] theorem execPlyEodenPacket_fixed (t p : Nat) (crc packet : List Byte) (s : State) : (after (execPlyEodenPacket t p crc packet s) s).fixed = s.fixed := by
  simp only [execPlyEodenPacket, fixed_mk, fixed_ite, ite_self, fixed_foldl, fst_ite, snd_ite, after_next, after_ite, implies_true, fixed_elim, bump_fixed, plyPacket_fixed, pushIn_fixed, routeBack_fixed, toL_fixed]
  repeat' split
  all_goals (first | (with_reducible rfl) | simp only [fixed_mk, fixed_ite, ite_self, fixed_foldl, fst_ite, snd_ite, after_next, after_ite, implies_true, fixed_elim, bump_fixed, plyPacket_fixed, pushIn_fixed, routeBack_fixed, toL_fixed])

@[simp] theorem execCredit_fixed (t p n : Nat) (s : State) : (after (execCredit t p n s) s).fixed = s.fixed := by
  simp only [execCredit, fixed_mk, fixed_ite, ite_self, fixed_foldl, fst_ite, snd_ite, after_next, after_ite, implies_true, fixed_elim, modPly_fixed, plyPacket_fixed, toL_fixed]

@[simp] theorem declareLost_fixed (d : Nat) (s : State) : (declareLost d s).fixed = s.fixed := by
  simp only [declareLost, fixed_mk, fixed_ite, ite_self, fixed_foldl, fst_ite, snd_ite, after_next, after_ite, implies_true, fixed_elim, bump_fixed, chainEvent_fixed, fallbackFor_fixed, modChainSt_fixed, modPly_fixed, modView_fixed, reportL_fixed, setAligned_fixed, takeoverAll_fixed]

set_option maxRecDepth 4000 in
@[simp] theorem execPlyLoss_fixed (d : Nat) (s : State) : (after (execPlyLoss d s) s).fixed = s.fixed := by
  unfold execPlyLoss
  repeat' (first | (with_reducible rfl) | (simp only [fixed_mk, fixed_ite, ite_self, fixed_foldl, fst_ite, snd_ite, after_next, after_ite, implies_true, fixed_elim, declareLost_fixed, toL_fixed]; done) | split | simp only [fixed_mk, fixed_ite, ite_self, fixed_foldl, fst_ite, snd_ite, after_next, after_ite, implies_true, fixed_elim, declareLost_fixed, toL_fixed])

@[simp] theorem takeView_fixed (h : Beat) (s : State) : (takeView h s).fixed = s.fixed := by
  simp only [takeView, fixed_mk, fixed_ite, ite_self, fixed_foldl, fst_ite, snd_ite, after_next, after_ite, implies_true, fixed_elim, chainEvent_fixed, declareLost_fixed, modPly_fixed, modView_fixed]

@[simp] theorem takeLatency_fixed (h : Beat) (s : State) : (takeLatency h s).fixed = s.fixed := by
  simp only [takeLatency, fixed_mk, fixed_ite, ite_self, fixed_foldl, fst_ite, snd_ite, after_next, after_ite, implies_true, fixed_elim, modPly_fixed]

@[simp] theorem takeAlign_fixed (h : Beat) (s : State) : (takeAlign h s).fixed = s.fixed := by
  simp only [takeAlign, fixed_mk, fixed_ite, ite_self, fixed_foldl, fst_ite, snd_ite, after_next, after_ite, implies_true, fixed_elim, modChainSt_fixed, setAligned_fixed]

@[simp] theorem startTraining_fixed (s : State) : (startTraining s).fixed = s.fixed := by
  simp only [startTraining, fixed_mk, fixed_ite, ite_self, fixed_foldl, fst_ite, snd_ite, after_next, after_ite, implies_true, fixed_elim, modWeft_fixed]

@[simp] theorem chainWaitOver_fixed (s : State) : (chainWaitOver s).fixed = s.fixed := by
  simp only [chainWaitOver, fixed_mk, fixed_ite, ite_self, fixed_foldl, fst_ite, snd_ite, after_next, after_ite, implies_true, fixed_elim, startTraining_fixed]

@[simp] theorem execHeartbeat_fixed (h : Beat) (s : State) : (after (execHeartbeat h s) s).fixed = s.fixed := by
  simp only [execHeartbeat, fixed_mk, fixed_ite, ite_self, fixed_foldl, fst_ite, snd_ite, after_next, after_ite, implies_true, fixed_elim, chainEvent_fixed, chainWaitOver_fixed, modChainSt_fixed, modPly_fixed, plyPacket_fixed, reportL_fixed, takeAlign_fixed, takeLatency_fixed, takeView_fixed, toL_fixed]

@[simp] theorem sendBeats_fixed (s : State) : (sendBeats s).fixed = s.fixed := by
  simp only [sendBeats, fixed_mk, fixed_ite, ite_self, fixed_foldl, fst_ite, snd_ite, after_next, after_ite, implies_true, fixed_elim, modChainSt_fixed]

@[simp] theorem execHeartbeatSend_fixed (s : State) : (after (execHeartbeatSend s) s).fixed = s.fixed := by
  simp only [execHeartbeatSend, fixed_mk, fixed_ite, ite_self, fixed_foldl, fst_ite, snd_ite, after_next, after_ite, implies_true, fixed_elim, modChainSt_fixed, sendBeats_fixed, toL_fixed]

@[simp] theorem modReel_fixed (f : Reel → Reel) (s : State) : (modReel f s).fixed = s.fixed := by
  simp only [modReel, fixed_mk, fixed_ite, ite_self, fixed_foldl, fst_ite, snd_ite, after_next, after_ite, implies_true, fixed_elim, modHost_fixed]

@[simp] theorem takeMark_fixed (set tick : Nat) (s : State) : (takeMark set tick s).fixed = s.fixed := by
  simp only [takeMark, fixed_mk, fixed_ite, ite_self, fixed_foldl, fst_ite, snd_ite, after_next, after_ite, implies_true, fixed_elim, modReel_fixed, refuse_fixed]

@[simp] theorem execPlyMark_fixed (t p set tick : Nat) (s : State) : (after (execPlyMark t p set tick s) s).fixed = s.fixed := by
  simp only [execPlyMark, fixed_mk, fixed_ite, ite_self, fixed_foldl, fst_ite, snd_ite, after_next, after_ite, implies_true, fixed_elim, modChainSt_fixed, plyPacket_fixed, takeMark_fixed, toL_fixed]

@[simp] theorem writeMacCfg_fixed (m : Nat) (v : Word) (s : State) : (writeMacCfg m v s).fixed = s.fixed := by
  simp only [writeMacCfg, fixed_mk, fixed_ite, ite_self, fixed_foldl, fst_ite, snd_ite, after_next, after_ite, implies_true, fixed_elim, modMac_fixed, raiseIso_fixed]

@[simp] theorem writeTimeCfg_fixed (v : Word) (s : State) : (writeTimeCfg v s).fixed = s.fixed := by
  simp only [writeTimeCfg, fixed_mk, fixed_ite, ite_self, fixed_foldl, fst_ite, snd_ite, after_next, after_ite, implies_true, fixed_elim, modGptp_fixed]

set_option maxRecDepth 4000 in
@[simp] theorem writeHost_fixed (off : Nat) (v : Word) (s : State) : (writeHost off v s).1.fixed = s.fixed := by
  simp only [writeHost, fixed_mk, fixed_ite, ite_self, fixed_foldl, fst_ite, snd_ite, after_next, after_ite, implies_true, fixed_elim, modGptp_fixed, modHost_fixed, modMac_fixed, modPly_fixed, modSlot_fixed, writeMacCfg_fixed, writeTimeCfg_fixed]
  repeat' split
  all_goals (first | (with_reducible rfl) | simp only [fixed_mk, fixed_ite, ite_self, fixed_foldl, fst_ite, snd_ite, after_next, after_ite, implies_true, fixed_elim, modGptp_fixed, modHost_fixed, modMac_fixed, modPly_fixed, modSlot_fixed, writeMacCfg_fixed, writeTimeCfg_fixed])

@[simp] theorem refReceived_fixed (p sof : Nat) (data : List Byte) (s : State) : (refReceived p sof data s).fixed = s.fixed := by
  simp only [refReceived, fixed_mk, fixed_ite, ite_self, fixed_foldl, fst_ite, snd_ite, after_next, after_ite, implies_true, fixed_elim, bump_fixed, cycleStart_fixed, modNt_fixed]

@[simp] theorem refFailed_fixed (t : Nat) (s : State) : (refFailed t s).fixed = s.fixed := by
  simp only [refFailed, fixed_mk, fixed_ite, ite_self, fixed_foldl, fst_ite, snd_ite, after_next, after_ite, implies_true, fixed_elim, modNt_fixed]

@[simp] theorem frameEnded_fixed (k t : Nat) (s : State) : (frameEnded k t s).fixed = s.fixed := by
  simp only [frameEnded, fixed_mk, fixed_ite, ite_self, fixed_foldl, fst_ite, snd_ite, after_next, after_ite, implies_true, fixed_elim, modCtl_fixed, modTrx_fixed]

set_option maxRecDepth 4000 in
@[simp] theorem execReferenceSend_fixed (t sof : Nat) (s : State) : (after (execReferenceSend t sof s) s).fixed = s.fixed := by
  simp only [execReferenceSend, fixed_mk, fixed_ite, ite_self, fixed_foldl, fst_ite, snd_ite, after_next, after_ite, implies_true, fixed_elim, bump_fixed, cycleStart_fixed, frameEnded_fixed, freeWord_fixed, measureFree_fixed, modNt_fixed, onFrame_fixed, sofSeen_fixed, toL_fixed, txGood_fixed]
  repeat' split
  all_goals (first | (with_reducible rfl) | simp only [fixed_mk, fixed_ite, ite_self, fixed_foldl, fst_ite, snd_ite, after_next, after_ite, implies_true, fixed_elim, bump_fixed, cycleStart_fixed, frameEnded_fixed, freeWord_fixed, measureFree_fixed, modNt_fixed, onFrame_fixed, sofSeen_fixed, toL_fixed, txGood_fixed])

set_option maxRecDepth 4000 in
@[simp] theorem execNtLoss_fixed (s : State) : (after (execNtLoss s) s).fixed = s.fixed := by
  simp only [execNtLoss, fixed_mk, fixed_ite, ite_self, fixed_foldl, fst_ite, snd_ite, after_next, after_ite, implies_true, fixed_elim, canEvent_fixed, modNt_fixed, reportL_fixed, toL_fixed]
  repeat' split
  all_goals (first | (with_reducible rfl) | simp only [fixed_mk, fixed_ite, ite_self, fixed_foldl, fst_ite, snd_ite, after_next, after_ite, implies_true, fixed_elim, canEvent_fixed, modNt_fixed, reportL_fixed, toL_fixed])

@[simp] theorem ntCfg_fixed (cfg ref cycle : Word) (s : State) : (ntCfg cfg ref cycle s).1.fixed = s.fixed := by
  simp only [ntCfg, fixed_mk, fixed_ite, ite_self, fixed_foldl, fst_ite, snd_ite, after_next, after_ite, implies_true, fixed_elim, modNt_fixed]

@[simp] theorem execNtCfg_fixed (r : Req) (s : State) : (after (execNtCfg r s) s).fixed = s.fixed := by
  simp only [execNtCfg, fixed_mk, fixed_ite, ite_self, fixed_foldl, fst_ite, snd_ite, after_next, after_ite, implies_true, fixed_elim, command_fixed, ntCfg_fixed, infoNtCfg]

@[simp] theorem execTriggerFire_fixed (t i : Nat) (s : State) : (after (execTriggerFire t i s) s).fixed = s.fixed := by
  simp only [execTriggerFire, fixed_mk, fixed_ite, ite_self, fixed_foldl, fst_ite, snd_ite, after_next, after_ite, implies_true, fixed_elim, modTrig_fixed, settleTrig_fixed, toL_fixed]

@[simp] theorem missTrig_fixed (i : Nat) (s : State) : (missTrig i s).fixed = s.fixed := by
  simp only [missTrig, fixed_mk, fixed_ite, ite_self, fixed_foldl, fst_ite, snd_ite, after_next, after_ite, implies_true, fixed_elim, bump_fixed, modTrig_fixed]

set_option maxRecDepth 4000 in
@[simp] theorem execTriggerMiss_fixed (i : Nat) (s : State) : (after (execTriggerMiss i s) s).fixed = s.fixed := by
  simp only [execTriggerMiss, fixed_mk, fixed_ite, ite_self, fixed_foldl, fst_ite, snd_ite, after_next, after_ite, implies_true, fixed_elim, missTrig_fixed, settleTrigs_fixed, toL_fixed]
  repeat' split
  all_goals (first | (with_reducible rfl) | simp only [fixed_mk, fixed_ite, ite_self, fixed_foldl, fst_ite, snd_ite, after_next, after_ite, implies_true, fixed_elim, missTrig_fixed, settleTrigs_fixed, toL_fixed])

set_option maxRecDepth 4000 in
@[simp] theorem txSent_fixed (t sof k src meas : Nat) (f : CanFrame) (s : State) : (txSent t sof k src meas f s).fixed = s.fixed := by
  unfold txSent
  repeat' (first | (with_reducible rfl) | (simp only [fixed_mk, fixed_ite, ite_self, fixed_foldl, fst_ite, snd_ite, after_next, after_ite, implies_true, fixed_elim, bump_fixed, canEvent_fixed, frameEnded_fixed, modHead_fixed, modTrig_fixed, ringSent_fixed, sofSeen_fixed, txGood_fixed]; done) | split | simp only [fixed_mk, fixed_ite, ite_self, fixed_foldl, fst_ite, snd_ite, after_next, after_ite, implies_true, fixed_elim, bump_fixed, canEvent_fixed, frameEnded_fixed, modHead_fixed, modTrig_fixed, ringSent_fixed, sofSeen_fixed, txGood_fixed])

set_option maxRecDepth 4000 in
@[simp] theorem execCanTxSuccess_fixed (t sof k src meas : Nat) (s : State) : (after (execCanTxSuccess t sof k src meas s) s).fixed = s.fixed := by
  unfold execCanTxSuccess
  rw [after_next]
  refine onFrame_fixed _ _ _ _ _ (fun s => ?_)
  dsimp only
  split
  · rw [settleTrigs_fixed, toL_fixed]
  · rw [txSent_fixed, settleTrigs_fixed, toL_fixed]

@[simp] theorem attemptFailed_fixed (k src lec t : Nat) (s : State) : (attemptFailed k src lec t s).fixed = s.fixed := by
  simp only [attemptFailed, fixed_mk, fixed_ite, ite_self, fixed_foldl, fst_ite, snd_ite, after_next, after_ite, implies_true, fixed_elim, headFailed_fixed, missTrig_fixed, refFailed_fixed]

set_option maxRecDepth 4000 in
@[simp] theorem loneCommit_fixed (k src t : Nat) (f : Option CanFrame) (s : State) : (loneCommit k src t f s).fixed = s.fixed := by
  unfold loneCommit
  repeat' (first | (with_reducible rfl) | (simp only [fixed_mk, fixed_ite, ite_self, fixed_foldl, fst_ite, snd_ite, after_next, after_ite, implies_true, fixed_elim, enterCommit_fixed, freeWord_fixed]; done) | split | simp only [fixed_mk, fixed_ite, ite_self, fixed_foldl, fst_ite, snd_ite, after_next, after_ite, implies_true, fixed_elim, enterCommit_fixed, freeWord_fixed])

set_option maxRecDepth 4000 in
@[simp] theorem execCanTxError_fixed (t k src lec : Nat) (data quiet : Bool) (s : State) : (after (execCanTxError t k src lec data quiet s) s).fixed = s.fixed := by
  simp only [execCanTxError, fixed_mk, fixed_ite, ite_self, fixed_foldl, fst_ite, snd_ite, after_next, after_ite, implies_true, fixed_elim, afterBad_fixed, attemptFailed_fixed, busOff_fixed, frameEnded_fixed, loneCommit_fixed, measureFree_fixed, modCtl_fixed, onFrame_fixed, passiveEdge_fixed, settleTrigs_fixed, toL_fixed, txBad_fixed]
  repeat' split
  all_goals (first | (with_reducible rfl) | simp only [fixed_mk, fixed_ite, ite_self, fixed_foldl, fst_ite, snd_ite, after_next, after_ite, implies_true, fixed_elim, afterBad_fixed, attemptFailed_fixed, busOff_fixed, frameEnded_fixed, loneCommit_fixed, measureFree_fixed, modCtl_fixed, onFrame_fixed, passiveEdge_fixed, settleTrigs_fixed, toL_fixed, txBad_fixed])

set_option maxRecDepth 4000 in
@[simp] theorem execArbitrationLoss_fixed (t k src : Nat) (s : State) : (after (execArbitrationLoss t k src s) s).fixed = s.fixed := by
  simp only [execArbitrationLoss, fixed_mk, fixed_ite, ite_self, fixed_foldl, fst_ite, snd_ite, after_next, after_ite, implies_true, fixed_elim, ackClear_fixed, bump_fixed, frameEnded_fixed, loneCommit_fixed, missTrig_fixed, modHead_fixed, onFrame_fixed, settleTrigs_fixed, toL_fixed]
  repeat' split
  all_goals (first | (with_reducible rfl) | simp only [fixed_mk, fixed_ite, ite_self, fixed_foldl, fst_ite, snd_ite, after_next, after_ite, implies_true, fixed_elim, ackClear_fixed, bump_fixed, frameEnded_fixed, loneCommit_fixed, missTrig_fixed, modHead_fixed, onFrame_fixed, settleTrigs_fixed, toL_fixed])

@[simp] theorem execIntegrationDone_fixed (t k : Nat) (s : State) : (after (execIntegrationDone t k s) s).fixed = s.fixed := by
  simp only [execIntegrationDone, fixed_mk, fixed_ite, ite_self, fixed_foldl, fst_ite, snd_ite, after_next, after_ite, implies_true, fixed_elim, integrationDone_fixed, reformIfDue_fixed, toL_fixed]

@[simp] theorem execRecoveryDone_fixed (t k : Nat) (s : State) : (after (execRecoveryDone t k s) s).fixed = s.fixed := by
  simp only [execRecoveryDone, fixed_mk, fixed_ite, ite_self, fixed_foldl, fst_ite, snd_ite, after_next, after_ite, implies_true, fixed_elim, cfgDone_fixed, modCtl_fixed, reformIfDue_fixed, toL_fixed]

@[simp] theorem frameTaken_fixed (t k : Nat) (x : CanRx) (s : State) : (frameTaken t k x s).fixed = s.fixed := by
  simp only [frameTaken, fixed_mk, fixed_ite, ite_self, fixed_foldl, fst_ite, snd_ite, after_next, after_ite, implies_true, fixed_elim, canReceive_fixed, frameEnded_fixed, gwOffer_fixed, sofSeen_fixed, toL_fixed]

set_option maxRecDepth 4000 in
@[simp] theorem frameServed_fixed (t k : Nat) (x : CanRx) (s : State) : (frameServed t k x s).fixed = s.fixed := by
  unfold frameServed
  repeat' (first | (with_reducible rfl) | (simp only [fixed_mk, fixed_ite, ite_self, fixed_foldl, fst_ite, snd_ite, after_next, after_ite, implies_true, fixed_elim, frameTaken_fixed, refReceived_fixed, ringReceived_fixed]; done) | split | simp only [fixed_mk, fixed_ite, ite_self, fixed_foldl, fst_ite, snd_ite, after_next, after_ite, implies_true, fixed_elim, frameTaken_fixed, refReceived_fixed, ringReceived_fixed])

set_option maxRecDepth 4000 in
@[simp] theorem frameValid_fixed (t k : Nat) (x : CanRx) (s : State) : (frameValid t k x s).fixed = s.fixed := by
  simp only [frameValid, fixed_mk, fixed_ite, ite_self, fixed_foldl, fst_ite, snd_ite, after_next, after_ite, implies_true, fixed_elim, frameServed_fixed, onFrame_fixed, rxBad_fixed, toL_fixed]
  repeat' split
  all_goals (first | (with_reducible rfl) | simp only [fixed_mk, fixed_ite, ite_self, fixed_foldl, fst_ite, snd_ite, after_next, after_ite, implies_true, fixed_elim, frameServed_fixed, onFrame_fixed, rxBad_fixed, toL_fixed])

@[simp] theorem execCanFrameValid_fixed (t sof k : Nat) (w0 : Word) (rtr brs esi : Bool) (af xl : Word) (data : List Byte) (s : State) : (after (execCanFrameValid t sof k w0 rtr brs esi af xl data s) s).fixed = s.fixed := by
  simp only [execCanFrameValid, fixed_mk, fixed_ite, ite_self, fixed_foldl, fst_ite, snd_ite, after_next, after_ite, implies_true, fixed_elim, frameValid_fixed]

@[simp] theorem execReferenceMessage_fixed (t sof k : Nat) (w0 : Word) (data : List Byte) (s : State) : (after (execReferenceMessage t sof k w0 data s) s).fixed = s.fixed := by
  simp only [execReferenceMessage, fixed_mk, fixed_ite, ite_self, fixed_foldl, fst_ite, snd_ite, after_next, after_ite, implies_true, fixed_elim, frameValid_fixed]

set_option maxRecDepth 4000 in
@[simp] theorem execRingFrameRx_fixed (t sof k : Nat) (w0 : Word) (data : List Byte) (s : State) : (after (execRingFrameRx t sof k w0 data s) s).fixed = s.fixed := by
  simp only [execRingFrameRx, fixed_mk, fixed_ite, ite_self, fixed_foldl, fst_ite, snd_ite, after_next, after_ite, implies_true, fixed_elim, frameValid_fixed]
  repeat' split
  all_goals (first | (with_reducible rfl) | simp only [fixed_mk, fixed_ite, ite_self, fixed_foldl, fst_ite, snd_ite, after_next, after_ite, implies_true, fixed_elim, frameValid_fixed])

set_option maxRecDepth 4000 in
@[simp] theorem execCommitRx_fixed (t sof k : Nat) (w0 : Word) (data : List Byte) (s : State) : (after (execCommitRx t sof k w0 data s) s).fixed = s.fixed := by
  simp only [execCommitRx, fixed_mk, fixed_ite, ite_self, fixed_foldl, fst_ite, snd_ite, after_next, after_ite, implies_true, fixed_elim, frameValid_fixed]
  repeat' split
  all_goals (first | (with_reducible rfl) | simp only [fixed_mk, fixed_ite, ite_self, fixed_foldl, fst_ite, snd_ite, after_next, after_ite, implies_true, fixed_elim, frameValid_fixed])

set_option maxRecDepth 4000 in
@[simp] theorem execWakeFrameRx_fixed (t sof k : Nat) (w0 : Word) (data : List Byte) (s : State) : (after (execWakeFrameRx t sof k w0 data s) s).fixed = s.fixed := by
  simp only [execWakeFrameRx, fixed_mk, fixed_ite, ite_self, fixed_foldl, fst_ite, snd_ite, after_next, after_ite, implies_true, fixed_elim, frameValid_fixed]
  repeat' split
  all_goals (first | (with_reducible rfl) | simp only [fixed_mk, fixed_ite, ite_self, fixed_foldl, fst_ite, snd_ite, after_next, after_ite, implies_true, fixed_elim, frameValid_fixed])

@[simp] theorem readsCan_fixed (off : Nat) (s : State) : (readsCan off s).fixed = s.fixed := by
  simp only [readsCan, fixed_mk, fixed_ite, ite_self, fixed_foldl, fst_ite, snd_ite, after_next, after_ite, implies_true, fixed_elim, modCtl_fixed]

@[simp] theorem writeTrig_fixed (i o : Nat) (v : Word) (s : State) : (writeTrig i o v s).1.fixed = s.fixed := by
  simp only [writeTrig, fixed_mk, fixed_ite, ite_self, fixed_foldl, fst_ite, snd_ite, after_next, after_ite, implies_true, fixed_elim, modTrig_fixed, settleTrig_fixed]

set_option maxRecDepth 4000 in
@[simp] theorem writeCan_fixed (authed : Bool) (off : Nat) (v : Word) (s : State) : (writeCan authed off v s).1.fixed = s.fixed := by
  simp only [writeCan, fixed_mk, fixed_ite, ite_self, fixed_foldl, fst_ite, snd_ite, after_next, after_ite, implies_true, fixed_elim, modCtl_fixed, modNt_fixed, writeAuth_fixed, writeTrig_fixed]
  repeat' split
  all_goals (first | (with_reducible rfl) | simp only [fixed_mk, fixed_ite, ite_self, fixed_foldl, fst_ite, snd_ite, after_next, after_ite, implies_true, fixed_elim, modCtl_fixed, modNt_fixed, writeAuth_fixed, writeTrig_fixed])

@[simp] theorem freeze_fixed (s : State) : (freeze s).fixed = s.fixed := by
  simp only [freeze, fixed_mk, fixed_ite, ite_self, fixed_foldl, fst_ite, snd_ite, after_next, after_ite, implies_true, fixed_elim, modSpindle_fixed]

@[simp] theorem execLockstepMismatch_fixed (t : Nat) (s : State) : (after (execLockstepMismatch t s) s).fixed = s.fixed := by
  simp only [execLockstepMismatch, fixed_mk, fixed_ite, ite_self, fixed_foldl, fst_ite, snd_ite, after_next, after_ite, implies_true, fixed_elim, freeze_fixed, modSpindle_fixed, reportL_fixed, toL_fixed]

@[simp] theorem execDelayCopyError_fixed (t : Nat) (s : State) : (after (execDelayCopyError t s) s).fixed = s.fixed := by
  simp only [execDelayCopyError, fixed_mk, fixed_ite, ite_self, fixed_foldl, fst_ite, snd_ite, after_next, after_ite, implies_true, fixed_elim, freeze_fixed, modSpindle_fixed, reportL_fixed, toL_fixed]

@[simp] theorem selfTest_fixed (miss : Nat) (s : State) : (selfTest miss s).fixed = s.fixed := by
  simp only [selfTest, fixed_mk, fixed_ite, ite_self, fixed_foldl, fst_ite, snd_ite, after_next, after_ite, implies_true, fixed_elim, bump64_fixed, modSpindle_fixed]

@[simp] theorem startTests_fixed (miss : Nat) (s : State) : (startTests miss s).fixed = s.fixed := by
  simp only [startTests, fixed_mk, fixed_ite, ite_self, fixed_foldl, fst_ite, snd_ite, after_next, after_ite, implies_true, fixed_elim, modSpindle_fixed, report_fixed, reportL_fixed, selfTest_fixed]

@[simp] theorem execCheckerSelfTest_fixed (miss : Nat) (s : State) : (after (execCheckerSelfTest miss s) s).fixed = s.fixed := by
  simp only [execCheckerSelfTest, fixed_mk, fixed_ite, ite_self, fixed_foldl, fst_ite, snd_ite, after_next, after_ite, implies_true, fixed_elim, modSpindle_fixed, reportL_fixed, selfTest_fixed, toL_fixed]

set_option maxRecDepth 4000 in
@[simp] theorem execMemoryError_fixed (t kind addr access master core : Nat) (s : State) : (after (execMemoryError t kind addr access master core s) s).fixed = s.fixed := by
  simp only [execMemoryError, fixed_mk, fixed_ite, ite_self, fixed_foldl, fst_ite, snd_ite, after_next, after_ite, implies_true, fixed_elim, bump_fixed, modSpindle_fixed, report_fixed, toL_fixed]
  repeat' split
  all_goals (first | (with_reducible rfl) | simp only [fixed_mk, fixed_ite, ite_self, fixed_foldl, fst_ite, snd_ite, after_next, after_ite, implies_true, fixed_elim, bump_fixed, modSpindle_fixed, report_fixed, toL_fixed])

@[simp] theorem modWdog_fixed (c : Nat) (f : Wdog → Wdog) (s : State) : (modWdog c f s).fixed = s.fixed := by
  simp only [modWdog, fixed_mk, fixed_ite, ite_self, fixed_foldl, fst_ite, snd_ite, after_next, after_ite, implies_true, fixed_elim, modSpindle_fixed]

@[simp] theorem kick_fixed (c v : Nat) (s : State) : (kick c v s).fixed = s.fixed := by
  simp only [kick, fixed_mk, fixed_ite, ite_self, fixed_foldl, fst_ite, snd_ite, after_next, after_ite, implies_true, fixed_elim, modWdog_fixed, reportL_fixed]

@[simp] theorem execWdogKick_fixed (t c v : Nat) (s : State) : (after (execWdogKick t c v s) s).fixed = s.fixed := by
  simp only [execWdogKick, fixed_mk, fixed_ite, ite_self, fixed_foldl, fst_ite, snd_ite, after_next, after_ite, implies_true, fixed_elim, kick_fixed, toL_fixed]

set_option maxRecDepth 4000 in
@[simp] theorem execWatchdogExpiry_fixed (c : Nat) (s : State) : (after (execWatchdogExpiry c s) s).fixed = s.fixed := by
  simp only [execWatchdogExpiry, fixed_mk, fixed_ite, ite_self, fixed_foldl, fst_ite, snd_ite, after_next, after_ite, implies_true, fixed_elim, modWdog_fixed, reportL_fixed, toL_fixed]
  repeat' split
  all_goals (first | (with_reducible rfl) | simp only [fixed_mk, fixed_ite, ite_self, fixed_foldl, fst_ite, snd_ite, after_next, after_ite, implies_true, fixed_elim, modWdog_fixed, reportL_fixed, toL_fixed])

@[simp] theorem restartWdogs_fixed (s : State) : (restartWdogs s).fixed = s.fixed := by
  simp only [restartWdogs, fixed_mk, fixed_ite, ite_self, fixed_foldl, fst_ite, snd_ite, after_next, after_ite, implies_true, fixed_elim, modWdog_fixed]

@[simp] theorem execAlvToggle_fixed (s : State) : (after (execAlvToggle s) s).fixed = s.fixed := by
  simp only [execAlvToggle, fixed_mk, fixed_ite, ite_self, fixed_foldl, fst_ite, snd_ite, after_next, after_ite, implies_true, fixed_elim, modFaults_fixed, toL_fixed]

@[simp] theorem stopFades_fixed (s : State) : (stopFades s).fixed = s.fixed := by
  simp only [stopFades, fixed_mk, fixed_ite, ite_self, fixed_foldl, fst_ite, snd_ite, after_next, after_ite, implies_true, fixed_elim, modLightSk_fixed]

@[simp] theorem abortUnit_fixed (ops : List Nat) (n : Nat) (s : State) : (abortUnit ops n s).fixed = s.fixed := by
  simp only [abortUnit, fixed_mk, fixed_ite, ite_self, fixed_foldl, fst_ite, snd_ite, after_next, after_ite, implies_true, fixed_elim, abortWhere_fixed]

@[simp] theorem abortOps_fixed (ops : List Nat) (s : State) : (abortOps ops s).fixed = s.fixed := by
  simp only [abortOps, fixed_mk, fixed_ite, ite_self, fixed_foldl, fst_ite, snd_ite, after_next, after_ite, implies_true, fixed_elim, abortWhere_fixed]

@[simp] theorem abortCan_fixed (k : Nat) (s : State) : (abortCan k s).fixed = s.fixed := by
  simp only [abortCan, fixed_mk, fixed_ite, ite_self, fixed_foldl, fst_ite, snd_ite, after_next, after_ite, implies_true, fixed_elim, abortUnit_fixed, abortWhere_fixed]

set_option maxRecDepth 4000 in
@[simp] theorem doReset_fixed (s : State) (x : Nat × Nat) : (doReset s x).fixed = s.fixed := by
  unfold doReset
  repeat' (first | (with_reducible rfl) | (simp only [fixed_mk, fixed_ite, ite_self, fixed_foldl, fst_ite, snd_ite, after_next, after_ite, implies_true, fixed_elim, abortCan_fixed, abortOps_fixed, abortUnit_fixed, actStop_fixed, emptyGw_fixed, resetCtl_fixed, stopFades_fixed, whorlStop_fixed]; done) | split | simp only [fixed_mk, fixed_ite, ite_self, fixed_foldl, fst_ite, snd_ite, after_next, after_ite, implies_true, fixed_elim, abortCan_fixed, abortOps_fixed, abortUnit_fixed, actStop_fixed, emptyGw_fixed, resetCtl_fixed, stopFades_fixed, whorlStop_fixed])

@[simp] theorem runResets_fixed (s : State) : (runResets s).fixed = s.fixed := by
  simp only [runResets, fixed_mk, fixed_ite, ite_self, fixed_foldl, fst_ite, snd_ite, after_next, after_ite, implies_true, fixed_elim, doReset_fixed, modFaults_fixed]

@[simp] theorem injected_fixed (s : State) (x : Nat × Nat) : (injected s x).fixed = s.fixed := by
  simp only [injected, fixed_mk, fixed_ite, ite_self, fixed_foldl, fst_ite, snd_ite, after_next, after_ite, implies_true, fixed_elim, report_fixed]

@[simp] theorem execFaultReport_fixed (t src inst detail addr access master : Nat) (s : State) : (after (execFaultReport t src inst detail addr access master s) s).fixed = s.fixed := by
  simp only [execFaultReport, fixed_mk, fixed_ite, ite_self, fixed_foldl, fst_ite, snd_ite, after_next, after_ite, implies_true, fixed_elim, injected_fixed, modFaults_fixed, report_fixed, runResets_fixed, toL_fixed]

@[simp] theorem execQuietPeriodEnd_fixed (c : Nat) (s : State) : (after (execQuietPeriodEnd c s) s).fixed = s.fixed := by
  simp only [execQuietPeriodEnd, fixed_mk, fixed_ite, ite_self, fixed_foldl, fst_ite, snd_ite, after_next, after_ite, implies_true, fixed_elim, modCls_fixed, postEvent_fixed, toL_fixed]

set_option maxRecDepth 4000 in
@[simp] theorem writeSpindle_fixed (off : Nat) (v : Word) (s : State) : (writeSpindle off v s).1.fixed = s.fixed := by
  simp only [writeSpindle, fixed_mk, fixed_ite, ite_self, fixed_foldl, fst_ite, snd_ite, after_next, after_ite, implies_true, fixed_elim, modSpindle_fixed]
  repeat' split
  all_goals (first | (with_reducible rfl) | simp only [fixed_mk, fixed_ite, ite_self, fixed_foldl, fst_ite, snd_ite, after_next, after_ite, implies_true, fixed_elim, modSpindle_fixed])

@[simp] theorem writeClassCfg_fixed (c : Nat) (v : Word) (s : State) : (writeClassCfg c v s).fixed = s.fixed := by
  simp only [writeClassCfg, fixed_mk, fixed_ite, ite_self, fixed_foldl, fst_ite, snd_ite, after_next, after_ite, implies_true, fixed_elim, modCls_fixed]

@[simp] theorem writeFault_fixed (off : Nat) (v : Word) (s : State) : (writeFault off v s).1.fixed = s.fixed := by
  simp only [writeFault, fixed_mk, fixed_ite, ite_self, fixed_foldl, fst_ite, snd_ite, after_next, after_ite, implies_true, fixed_elim, modFaults_fixed, writeClassCfg_fixed]

@[simp] theorem execFaultStatus_fixed (r : Req) (s : State) : (after (execFaultStatus r s) s).fixed = s.fixed := by
  simp only [execFaultStatus, fixed_mk, fixed_ite, ite_self, fixed_foldl, fst_ite, snd_ite, after_next, after_ite, implies_true, fixed_elim, command_fixed, infoFaultStatus]

@[simp] theorem faultAck_fixed (r : Req) (s : State) : (faultAck r s).1.fixed = s.fixed := by
  simp only [faultAck, fixed_mk, fixed_ite, ite_self, fixed_foldl, fst_ite, snd_ite, after_next, after_ite, implies_true, fixed_elim, modCls_fixed, modFaults_fixed]

@[simp] theorem execFaultAck_fixed (r : Req) (s : State) : (after (execFaultAck r s) s).fixed = s.fixed := by
  simp only [execFaultAck, fixed_mk, fixed_ite, ite_self, fixed_foldl, fst_ite, snd_ite, after_next, after_ite, implies_true, fixed_elim, command_fixed, faultAck_fixed, infoFaultAck]

@[simp] theorem execFaultCaptureRead_fixed (r : Req) (s : State) : (after (execFaultCaptureRead r s) s).fixed = s.fixed := by
  simp only [execFaultCaptureRead, fixed_mk, fixed_ite, ite_self, fixed_foldl, fst_ite, snd_ite, after_next, after_ite, implies_true, fixed_elim, command_fixed, infoFaultCaptureRead]

@[simp] theorem setReaction_fixed (n : Nat) (w : Word) (s : State) : (setReaction n w s).fixed = s.fixed := by
  simp only [setReaction, fixed_mk, fixed_ite, ite_self, fixed_foldl, fst_ite, snd_ite, after_next, after_ite, implies_true, fixed_elim, modFaults_fixed, react_fixed]

@[simp] theorem execFaultReactionSet_fixed (r : Req) (s : State) : (after (execFaultReactionSet r s) s).fixed = s.fixed := by
  simp only [execFaultReactionSet, fixed_mk, fixed_ite, ite_self, fixed_foldl, fst_ite, snd_ite, after_next, after_ite, implies_true, fixed_elim, command_fixed, setReaction_fixed, infoFaultReactionSet]

@[simp] theorem faultInject_fixed (r : Req) (s : State) : (faultInject r s).1.fixed = s.fixed := by
  simp only [faultInject, fixed_mk, fixed_ite, ite_self, fixed_foldl, fst_ite, snd_ite, after_next, after_ite, implies_true, fixed_elim, modFaults_fixed, modSpindle_fixed]

@[simp] theorem execFaultInject_fixed (r : Req) (s : State) : (after (execFaultInject r s) s).fixed = s.fixed := by
  simp only [execFaultInject, fixed_mk, fixed_ite, ite_self, fixed_foldl, fst_ite, snd_ite, after_next, after_ite, implies_true, fixed_elim, command_fixed, faultInject_fixed, infoFaultInject]

@[simp] theorem modRange_fixed (f : RangeSt → RangeSt) (s : State) : (modRange f s).fixed = s.fixed := by
  simp only [modRange, fixed_mk, fixed_ite, ite_self, fixed_foldl, fst_ite, snd_ite, after_next, after_ite, implies_true, fixed_elim]

@[simp] theorem modAnchor_fixed (n : Nat) (f : Anchor → Anchor) (s : State) : (modAnchor n f s).fixed = s.fixed := by
  simp only [modAnchor, fixed_mk, fixed_ite, ite_self, fixed_foldl, fst_ite, snd_ite, after_next, after_ite, implies_true, fixed_elim, modRange_fixed]

@[simp] theorem modToken_fixed (t : Nat) (f : Token → Token) (s : State) : (modToken t f s).fixed = s.fixed := by
  simp only [modToken, fixed_mk, fixed_ite, ite_self, fixed_foldl, fst_ite, snd_ite, after_next, after_ite, implies_true, fixed_elim, modRange_fixed]

@[simp] theorem modRun_fixed (f : RangeRun → RangeRun) (s : State) : (modRun f s).fixed = s.fixed := by
  simp only [modRun, fixed_mk, fixed_ite, ite_self, fixed_foldl, fst_ite, snd_ite, after_next, after_ite, implies_true, fixed_elim, modRange_fixed]

@[simp] theorem rangeEvent_fixed (reason code : Nat) (s : State) : (rangeEvent reason code s).fixed = s.fixed := by
  simp only [rangeEvent, fixed_mk, fixed_ite, ite_self, fixed_foldl, fst_ite, snd_ite, after_next, after_ite, implies_true, fixed_elim, postEvent_fixed]

set_option maxRecDepth 4000 in
@[simp] theorem endRun_fixed (code : Nat) (s : State) : (endRun code s).fixed = s.fixed := by
  unfold endRun
  repeat' (first | (with_reducible rfl) | (simp only [fixed_mk, fixed_ite, ite_self, fixed_foldl, fst_ite, snd_ite, after_next, after_ite, implies_true, fixed_elim, completeAll_fixed, modRange_fixed, rangeEvent_fixed]; done) | split | simp only [fixed_mk, fixed_ite, ite_self, fixed_foldl, fst_ite, snd_ite, after_next, after_ite, implies_true, fixed_elim, completeAll_fixed, modRange_fixed, rangeEvent_fixed])

set_option maxRecDepth 4000 in
@[simp] theorem stopRun_fixed (code : Nat) (s : State) : (stopRun code s).fixed = s.fixed := by
  simp only [stopRun, fixed_mk, fixed_ite, ite_self, fixed_foldl, fst_ite, snd_ite, after_next, after_ite, implies_true, fixed_elim, endRun_fixed, modRun_fixed]
  repeat' split
  all_goals (first | (with_reducible rfl) | simp only [fixed_mk, fixed_ite, ite_self, fixed_foldl, fst_ite, snd_ite, after_next, after_ite, implies_true, fixed_elim, endRun_fixed, modRun_fixed])

set_option maxRecDepth 4000 in
@[simp] theorem beginSlot_fixed (s : State) : (beginSlot s).fixed = s.fixed := by
  simp only [beginSlot, fixed_mk, fixed_ite, ite_self, fixed_foldl, fst_ite, snd_ite, after_next, after_ite, implies_true, fixed_elim, countLoad_fixed, modAnchor_fixed, modRun_fixed, report_fixed, toL_fixed]
  repeat' split
  all_goals (first | (with_reducible rfl) | simp only [fixed_mk, fixed_ite, ite_self, fixed_foldl, fst_ite, snd_ite, after_next, after_ite, implies_true, fixed_elim, countLoad_fixed, modAnchor_fixed, modRun_fixed, report_fixed, toL_fixed])

set_option maxRecDepth 4000 in
@[simp] theorem namedTokens_fixed (toks rctr : Nat) (s : State) : (namedTokens toks rctr s).2.fixed = s.fixed := by
  unfold namedTokens
  rw [fixed_fold1]
  intro x a
  dsimp only
  split <;> simp only [countLoad_fixed]

@[simp] theorem beginRound_fixed (r : RangeRun) (s : State) : (beginRound r s).fixed = s.fixed := by
  simp only [beginRound, fixed_mk, fixed_ite, ite_self, fixed_foldl, fst_ite, snd_ite, after_next, after_ite, implies_true, fixed_elim, beginSlot_fixed, completeAll_fixed, endRun_fixed, modRange_fixed, modRun_fixed, namedTokens_fixed, toL_fixed]

set_option maxRecDepth 4000 in
@[simp] theorem execAnchorSlotStart_fixed (s : State) : (after (execAnchorSlotStart s) s).fixed = s.fixed := by
  simp only [execAnchorSlotStart, fixed_mk, fixed_ite, ite_self, fixed_foldl, fst_ite, snd_ite, after_next, after_ite, implies_true, fixed_elim, beginRound_fixed, beginSlot_fixed]
  repeat' split
  all_goals (first | (with_reducible rfl) | simp only [fixed_mk, fixed_ite, ite_self, fixed_foldl, fst_ite, snd_ite, after_next, after_ite, implies_true, fixed_elim, beginRound_fixed, beginSlot_fixed])

@[simp] theorem linkError_fixed (n : Nat) (s : State) : (linkError n s).fixed = s.fixed := by
  simp only [linkError, fixed_mk, fixed_ite, ite_self, fixed_foldl, fst_ite, snd_ite, after_next, after_ite, implies_true, fixed_elim, bump_fixed, modAnchor_fixed, rangeEvent_fixed, reportL_fixed]

set_option maxRecDepth 4000 in
@[simp] theorem execReportRead_fixed (good : Bool) (pre : Option Nat) (answers : List TokAnswer) (s : State) : (after (execReportRead good pre answers s) s).fixed = s.fixed := by
  unfold execReportRead
  repeat' (first | (with_reducible rfl) | (simp only [fixed_mk, fixed_ite, ite_self, fixed_foldl, fst_ite, snd_ite, after_next, after_ite, implies_true, fixed_elim, countLoad_fixed, linkError_fixed, modRun_fixed, report_fixed, toL_fixed]; done) | split | simp only [fixed_mk, fixed_ite, ite_self, fixed_foldl, fst_ite, snd_ite, after_next, after_ite, implies_true, fixed_elim, countLoad_fixed, linkError_fixed, modRun_fixed, report_fixed, toL_fixed])

@[simp] theorem giveZone_fixed (z : Nat) (s : State) : (giveZone z s).fixed = s.fixed := by
  simp only [giveZone, fixed_mk, fixed_ite, ite_self, fixed_foldl, fst_ite, snd_ite, after_next, after_ite, implies_true, fixed_elim, modRange_fixed, rangeEvent_fixed]

@[simp] theorem beginLockout_fixed (s : State) : (beginLockout s).fixed = s.fixed := by
  simp only [beginLockout, fixed_mk, fixed_ite, ite_self, fixed_foldl, fst_ite, snd_ite, after_next, after_ite, implies_true, fixed_elim, bump_fixed, modRange_fixed, rangeEvent_fixed, reportL_fixed]

@[simp] theorem roundFigures_fixed (l : List ValidAns) (w : Nat) (s : State) : (roundFigures l w s).fixed = s.fixed := by
  simp only [roundFigures, fixed_mk, fixed_ite, ite_self, fixed_foldl, fst_ite, snd_ite, after_next, after_ite, implies_true, fixed_elim, modAnchor_fixed, modToken_fixed]

@[simp] theorem releaseFailed_fixed (code : Nat) (s : State) : (releaseFailed code s).2.fixed = s.fixed := by
  simp only [releaseFailed, fixed_mk, fixed_ite, ite_self, fixed_foldl, fst_ite, snd_ite, after_next, after_ite, implies_true, fixed_elim, modRange_fixed, reportL_fixed]

set_option maxRecDepth 4000 in
@[simp] theorem release_fixed (w : Nat) (l : List ValidAns) (s : State) : (release w l s).2.fixed = s.fixed := by
  simp only [release, fixed_mk, fixed_ite, ite_self, fixed_foldl, fst_ite, snd_ite, after_next, after_ite, implies_true, fixed_elim, authSend_fixed, bump_fixed, countLoad_fixed, enqueue_fixed, modRange_fixed, releaseFailed_fixed]
  repeat' split
  all_goals (first | (with_reducible rfl) | simp only [fixed_mk, fixed_ite, ite_self, fixed_foldl, fst_ite, snd_ite, after_next, after_ite, implies_true, fixed_elim, authSend_fixed, bump_fixed, countLoad_fixed, enqueue_fixed, modRange_fixed, releaseFailed_fixed])

set_option maxRecDepth 4000 in
@[simp] theorem applyOutcome_fixed (o : Nat) (r : RangeRun) (s : State) : (applyOutcome o r s).fixed = s.fixed := by
  simp only [applyOutcome, fixed_mk, fixed_ite, ite_self, fixed_foldl, fst_ite, snd_ite, after_next, after_ite, implies_true, fixed_elim, modRange_fixed, reportL_fixed, roundFigures_fixed]
  repeat' split
  all_goals (first | (with_reducible rfl) | simp only [fixed_mk, fixed_ite, ite_self, fixed_foldl, fst_ite, snd_ite, after_next, after_ite, implies_true, fixed_elim, modRange_fixed, reportL_fixed, roundFigures_fixed])

set_option maxRecDepth 4000 in
@[simp] theorem endRound_fixed (r : RangeRun) (s : State) : (endRound r s).fixed = s.fixed := by
  unfold endRound
  repeat' (first | (with_reducible rfl) | (simp only [fixed_mk, fixed_ite, ite_self, fixed_foldl, fst_ite, snd_ite, after_next, after_ite, implies_true, fixed_elim, applyOutcome_fixed, beginLockout_fixed, bump_fixed, endRun_fixed, giveZone_fixed, modRange_fixed, modRun_fixed, rangeEvent_fixed, release_fixed]; done) | split | simp only [fixed_mk, fixed_ite, ite_self, fixed_foldl, fst_ite, snd_ite, after_next, after_ite, implies_true, fixed_elim, applyOutcome_fixed, beginLockout_fixed, bump_fixed, endRun_fixed, giveZone_fixed, modRange_fixed, modRun_fixed, rangeEvent_fixed, release_fixed])

set_option maxRecDepth 4000 in
@[simp] theorem execSlotResult_fixed (s : State) : (after (execSlotResult s) s).fixed = s.fixed := by
  unfold execSlotResult
  repeat' (first | (with_reducible rfl) | (simp only [fixed_mk, fixed_ite, ite_self, fixed_foldl, fst_ite, snd_ite, after_next, after_ite, implies_true, fixed_elim, bump_fixed, endRound_fixed, modAnchor_fixed, modRange_fixed, toL_fixed]; done) | split | simp only [fixed_mk, fixed_ite, ite_self, fixed_foldl, fst_ite, snd_ite, after_next, after_ite, implies_true, fixed_elim, bump_fixed, endRound_fixed, modAnchor_fixed, modRange_fixed, toL_fixed])

@[simp] theorem endLockout_fixed (s : State) : (endLockout s).fixed = s.fixed := by
  simp only [endLockout, fixed_mk, fixed_ite, ite_self, fixed_foldl, fst_ite, snd_ite, after_next, after_ite, implies_true, fixed_elim, modRange_fixed, rangeEvent_fixed]

set_option maxRecDepth 4000 in
@[simp] theorem execLockoutEnd_fixed (s : State) : (after (execLockoutEnd s) s).fixed = s.fixed := by
  simp only [execLockoutEnd, fixed_mk, fixed_ite, ite_self, fixed_foldl, fst_ite, snd_ite, after_next, after_ite, implies_true, fixed_elim, endLockout_fixed, toL_fixed]
  repeat' split
  all_goals (first | (with_reducible rfl) | simp only [fixed_mk, fixed_ite, ite_self, fixed_foldl, fst_ite, snd_ite, after_next, after_ite, implies_true, fixed_elim, endLockout_fixed, toL_fixed])

@[simp] theorem rangeStart_fixed (r : Req) (s : State) : (rangeStart r s).1.fixed = s.fixed := by
  simp only [rangeStart, fixed_mk, fixed_ite, ite_self, fixed_foldl, fst_ite, snd_ite, after_next, after_ite, implies_true, fixed_elim, modRange_fixed, stopRun_fixed]

@[simp] theorem execRangeStart_fixed (r : Req) (s : State) : (after (execRangeStart r s) s).fixed = s.fixed := by
  simp only [execRangeStart, fixed_mk, fixed_ite, ite_self, fixed_foldl, fst_ite, snd_ite, after_next, after_ite, implies_true, fixed_elim, command_fixed, rangeStart_fixed, infoRangeStart]

@[simp] theorem execRangeResult_fixed (r : Req) (s : State) : (after (execRangeResult r s) s).fixed = s.fixed := by
  simp only [execRangeResult, fixed_mk, fixed_ite, ite_self, fixed_foldl, fst_ite, snd_ite, after_next, after_ite, implies_true, fixed_elim, command_fixed, infoRangeResult]

@[simp] theorem putZoneCfg_fixed (o : Nat) (ws : List Word) (s : State) : (putZoneCfg o ws s).fixed = s.fixed := by
  simp only [putZoneCfg, fixed_mk, fixed_ite, ite_self, fixed_foldl, fst_ite, snd_ite, after_next, after_ite, implies_true, fixed_elim, modAnchor_fixed, modRange_fixed, modToken_fixed]

set_option maxRecDepth 4000 in
@[simp] theorem rangeZoneCfg_fixed (r : Req) (s : State) : (rangeZoneCfg r s).1.fixed = s.fixed := by
  simp only [rangeZoneCfg, fixed_mk, fixed_ite, ite_self, fixed_foldl, fst_ite, snd_ite, after_next, after_ite, implies_true, fixed_elim, freeWord_fixed, linkError_fixed, putZoneCfg_fixed]
  repeat' split
  all_goals (first | (with_reducible rfl) | simp only [fixed_mk, fixed_ite, ite_self, fixed_foldl, fst_ite, snd_ite, after_next, after_ite, implies_true, fixed_elim, freeWord_fixed, linkError_fixed, putZoneCfg_fixed])

@[simp] theorem execRangeZoneCfg_fixed (r : Req) (s : State) : (after (execRangeZoneCfg r s) s).fixed = s.fixed := by
  simp only [execRangeZoneCfg, fixed_mk, fixed_ite, ite_self, fixed_foldl, fst_ite, snd_ite, after_next, after_ite, implies_true, fixed_elim, command_fixed, rangeZoneCfg_fixed, infoRangeZoneCfg]

@[simp] theorem lockoutClear_fixed (r : Req) (s : State) : (lockoutClear r s).1.fixed = s.fixed := by
  simp only [lockoutClear, fixed_mk, fixed_ite, ite_self, fixed_foldl, fst_ite, snd_ite, after_next, after_ite, implies_true, fixed_elim, endLockout_fixed, modRange_fixed]

@[simp] theorem execLockoutClear_fixed (r : Req) (s : State) : (after (execLockoutClear r s) s).fixed = s.fixed := by
  simp only [execLockoutClear, fixed_mk, fixed_ite, ite_self, fixed_foldl, fst_ite, snd_ite, after_next, after_ite, implies_true, fixed_elim, command_fixed, lockoutClear_fixed, infoLockoutClear]

@[simp] theorem immoCfg_fixed (r : Req) (s : State) : (immoCfg r s).1.fixed = s.fixed := by
  simp only [immoCfg, fixed_mk, fixed_ite, ite_self, fixed_foldl, fst_ite, snd_ite, after_next, after_ite, implies_true, fixed_elim, modRange_fixed]

@[simp] theorem execImmoCfg_fixed (r : Req) (s : State) : (after (execImmoCfg r s) s).fixed = s.fixed := by
  simp only [execImmoCfg, fixed_mk, fixed_ite, ite_self, fixed_foldl, fst_ite, snd_ite, after_next, after_ite, implies_true, fixed_elim, command_fixed, immoCfg_fixed, infoImmoCfg]

@[simp] theorem disableRange_fixed (s : State) : (disableRange s).fixed = s.fixed := by
  simp only [disableRange, fixed_mk, fixed_ite, ite_self, fixed_foldl, fst_ite, snd_ite, after_next, after_ite, implies_true, fixed_elim, stopRun_fixed]

@[simp] theorem writeRange_fixed (off : Nat) (v : Word) (s : State) : (writeRange off v s).1.fixed = s.fixed := by
  simp only [writeRange, fixed_mk, fixed_ite, ite_self, fixed_foldl, fst_ite, snd_ite, after_next, after_ite, implies_true, fixed_elim, modAnchor_fixed, modRange_fixed]

@[simp] theorem setPTime_fixed (t : Nat) (s : State) : (setPTime t s).fixed = s.fixed := by
  simp only [setPTime, fixed_mk, fixed_ite, ite_self, fixed_foldl, fst_ite, snd_ite, after_next, after_ite, implies_true, fixed_elim, accrue_fixed, modFioP_fixed, modP_fixed]

@[simp] theorem setLTime_fixed (t : Nat) (s : State) : (setLTime t s).fixed = s.fixed := by
  simp only [setLTime, fixed_mk, fixed_ite, ite_self, fixed_foldl, fst_ite, snd_ite, after_next, after_ite, implies_true, fixed_elim, modFaults_fixed, modHost_fixed, modSpindle_fixed, modWeft_fixed]

set_option maxRecDepth 4000 in
@[simp] theorem settleTime_fixed (s : State) : (settleTime s).fixed = s.fixed := by
  simp only [settleTime, fixed_mk, fixed_ite, ite_self, fixed_foldl, fst_ite, snd_ite, after_next, after_ite, implies_true, fixed_elim, modP_fixed, setLTime_fixed, setPTime_fixed]
  repeat' split
  all_goals (first | (with_reducible rfl) | simp only [fixed_mk, fixed_ite, ite_self, fixed_foldl, fst_ite, snd_ite, after_next, after_ite, implies_true, fixed_elim, modP_fixed, setLTime_fixed, setPTime_fixed])

@[simp] theorem freezePauses_fixed (s : State) : (freezePauses s).fixed = s.fixed := by
  simp only [freezePauses, fixed_mk, fixed_ite, ite_self, fixed_foldl, fst_ite, snd_ite, after_next, after_ite, implies_true, fixed_elim, modP_fixed]

@[simp] theorem enterFailSafe_fixed (cold : Bool) (s : State) : (enterFailSafe cold s).fixed = s.fixed := by
  simp only [enterFailSafe, fixed_mk, fixed_ite, ite_self, fixed_foldl, fst_ite, snd_ite, after_next, after_ite, implies_true, fixed_elim, applyFailSafe_fixed, fioFailSafe_fixed]

@[simp] theorem declareSilence_fixed (t : Nat) (s : State) : (declareSilence t s).fixed = s.fixed := by
  simp only [declareSilence, fixed_mk, fixed_ite, ite_self, fixed_foldl, fst_ite, snd_ite, after_next, after_ite, implies_true, fixed_elim, bump_fixed, enterFailSafe_fixed, freezePauses_fixed, modP_fixed, syncAllTrx_fixed]

@[simp] theorem nvStarts_fixed (w : Nat) (s : State) : (nvStarts w s).fixed = s.fixed := by
  simp only [nvStarts, fixed_mk, fixed_ite, ite_self, fixed_foldl, fst_ite, snd_ite, after_next, after_ite, implies_true, fixed_elim, modWeft_fixed]

set_option maxRecDepth 4000 in
@[simp] theorem failPassed_fixed (k : Nat) (s : State) : (failPassed k s).fixed = s.fixed := by
  simp only [failPassed, fixed_mk, fixed_ite, ite_self, fixed_foldl, fst_ite, snd_ite, after_next, after_ite, implies_true, fixed_elim, modSkL_fixed, pushMirror_fixed]
  repeat' split
  all_goals (first | (with_reducible rfl) | simp only [fixed_mk, fixed_ite, ite_self, fixed_foldl, fst_ite, snd_ite, after_next, after_ite, implies_true, fixed_elim, modSkL_fixed, pushMirror_fixed])

@[simp] theorem linkDown_fixed (s : State) : (linkDown s).fixed = s.fixed := by
  simp only [linkDown, fixed_mk, fixed_ite, ite_self, fixed_foldl, fst_ite, snd_ite, after_next, after_ite, implies_true, fixed_elim, abortWhere_fixed, dropDeferred_fixed, failPassed_fixed, modLoom_fixed, modWeft_fixed]

@[simp] theorem dropLink_fixed (s : State) : (dropLink s).fixed = s.fixed := by
  simp only [dropLink, fixed_mk, fixed_ite, ite_self, fixed_foldl, fst_ite, snd_ite, after_next, after_ite, implies_true, fixed_elim, linkDown_fixed, modWeft_fixed]

@[simp] theorem execLinkSilence_fixed (t : Nat) (s : State) : (after (execLinkSilence t s) s).fixed = s.fixed := by
  simp only [execLinkSilence, fixed_mk, fixed_ite, ite_self, fixed_foldl, fst_ite, snd_ite, after_next, after_ite, implies_true, fixed_elim, declareSilence_fixed, dropLink_fixed, syncAllTrx_fixed, toP_fixed]

@[simp] theorem execUpLoss_fixed (t : Nat) (s : State) : (after (execUpLoss t s) s).fixed = s.fixed := by
  simp only [execUpLoss, fixed_mk, fixed_ite, ite_self, fixed_foldl, fst_ite, snd_ite, after_next, after_ite, implies_true, fixed_elim, dropLink_fixed, reportL_fixed, syncAllTrx_fixed, toL_fixed]

set_option maxRecDepth 4000 in
@[simp] theorem execHoldoverExpiry_fixed (s : State) : (after (execHoldoverExpiry s) s).fixed = s.fixed := by
  unfold execHoldoverExpiry
  repeat' (first | (with_reducible rfl) | (simp only [fixed_mk, fixed_ite, ite_self, fixed_foldl, fst_ite, snd_ite, after_next, after_ite, implies_true, fixed_elim, enterFailSafe_fixed, modP_fixed, toP_fixed]; done) | split | simp only [fixed_mk, fixed_ite, ite_self, fixed_foldl, fst_ite, snd_ite, after_next, after_ite, implies_true, fixed_elim, enterFailSafe_fixed, modP_fixed, toP_fixed])

@[simp] theorem execWeftTraining_fixed (t latency : Nat) (s : State) : (after (execWeftTraining t latency s) s).fixed = s.fixed := by
  simp only [execWeftTraining, fixed_mk, fixed_ite, ite_self, fixed_foldl, fst_ite, snd_ite, after_next, after_ite, implies_true, fixed_elim, bump_fixed, declareSilence_fixed, modP_fixed, modWeft_fixed, settleTime_fixed, toL_fixed]

set_option maxRecDepth 4000 in
@[simp] theorem execTrainingTimeout_fixed (s : State) : (after (execTrainingTimeout s) s).fixed = s.fixed := by
  simp only [execTrainingTimeout, fixed_mk, fixed_ite, ite_self, fixed_foldl, fst_ite, snd_ite, after_next, after_ite, implies_true, fixed_elim, modWeft_fixed, reportL_fixed, toL_fixed]
  repeat' split
  all_goals (first | (with_reducible rfl) | simp only [fixed_mk, fixed_ite, ite_self, fixed_foldl, fst_ite, snd_ite, after_next, after_ite, implies_true, fixed_elim, modWeft_fixed, reportL_fixed, toL_fixed])

set_option maxRecDepth 4000 in
@[simp] theorem execTrainingRetry_fixed (s : State) : (after (execTrainingRetry s) s).fixed = s.fixed := by
  simp only [execTrainingRetry, fixed_mk, fixed_ite, ite_self, fixed_foldl, fst_ite, snd_ite, after_next, after_ite, implies_true, fixed_elim, startTraining_fixed, toL_fixed]
  repeat' split
  all_goals (first | (with_reducible rfl) | simp only [fixed_mk, fixed_ite, ite_self, fixed_foldl, fst_ite, snd_ite, after_next, after_ite, implies_true, fixed_elim, startTraining_fixed, toL_fixed])

@[simp] theorem reportCrc_fixed (m : Nat) (r : Report) (s : State) : (reportCrc m r s).fixed = s.fixed := by
  simp only [reportCrc, fixed_mk, fixed_ite, ite_self, fixed_foldl, fst_ite, snd_ite, after_next, after_ite, implies_true, fixed_elim, modWeft_fixed, report_fixed]

@[simp] theorem discardDown_fixed (s : State) : (discardDown s).fixed = s.fixed := by
  simp only [discardDown, fixed_mk, fixed_ite, ite_self, fixed_foldl, fst_ite, snd_ite, after_next, after_ite, implies_true, fixed_elim, bump_fixed, modP_fixed, reportP_fixed]

@[simp] theorem discardUp_fixed (s : State) : (discardUp s).fixed = s.fixed := by
  simp only [discardUp, fixed_mk, fixed_ite, ite_self, fixed_foldl, fst_ite, snd_ite, after_next, after_ite, implies_true, fixed_elim, bump_fixed, modWeft_fixed, reportCrc_fixed]

@[simp] theorem takeAck_fixed (ack : Nat) (s : State) : (takeAck ack s).fixed = s.fixed := by
  simp only [takeAck, fixed_mk, fixed_ite, ite_self, fixed_foldl, fst_ite, snd_ite, after_next, after_ite, implies_true, fixed_elim, modP_fixed]

set_option maxRecDepth 4000 in
@[simp] theorem sendDown_fixed (t : Nat) (odd : Bool) (ty : FrameType) (payload : Nat) (e : LineErr) (f : Nat → State → State) (s : State) (hf : ∀ p s, (f p s).fixed = s.fixed) : (sendDown t odd ty payload e f s).fixed = s.fixed := by
  simp only [sendDown, fixed_mk, fixed_ite, ite_self, fixed_foldl, fst_ite, snd_ite, after_next, after_ite, implies_true, fixed_elim, discardDown_fixed, modP_fixed, takeAck_fixed, toL_fixed, hf]
  repeat' split
  all_goals (first | (with_reducible rfl) | simp only [fixed_mk, fixed_ite, ite_self, fixed_foldl, fst_ite, snd_ite, after_next, after_ite, implies_true, fixed_elim, discardDown_fixed, modP_fixed, takeAck_fixed, toL_fixed, hf])

@[simp] theorem downFrame_fixed (t : Nat) (odd : Bool) (ty : FrameType) (payload : Nat) (e : LineErr) (f : Nat → State → State) (s : State) (hf : ∀ p s, (f p s).fixed = s.fixed) : (downFrame t odd ty payload e f s).fixed = s.fixed := by
  simp only [downFrame, fixed_mk, fixed_ite, ite_self, fixed_foldl, fst_ite, snd_ite, after_next, after_ite, implies_true, fixed_elim, sendDown_fixed, toL_fixed, hf]

set_option maxRecDepth 4000 in
@[simp] theorem upFrame_fixed (t : Nat) (odd : Bool) (ty : FrameType) (payload : Nat) (e : LineErr) (f : Nat → State → State) (s : State) (hf : ∀ p s, (f p s).fixed = s.fixed) : (upFrame t odd ty payload e f s).fixed = s.fixed := by
  simp only [upFrame, fixed_mk, fixed_ite, ite_self, fixed_foldl, fst_ite, snd_ite, after_next, after_ite, implies_true, fixed_elim, discardUp_fixed, modWeft_fixed, toL_fixed, hf]
  repeat' split
  all_goals (first | (with_reducible rfl) | simp only [fixed_mk, fixed_ite, ite_self, fixed_foldl, fst_ite, snd_ite, after_next, after_ite, implies_true, fixed_elim, discardUp_fixed, modWeft_fixed, toL_fixed, hf])

@[simp] theorem handsOff_fixed (k : Nat) (s : State) : (handsOff k s).fixed = s.fixed := by
  simp only [handsOff, fixed_mk, fixed_ite, ite_self, fixed_foldl, fst_ite, snd_ite, after_next, after_ite, implies_true, fixed_elim, settleHand_fixed]

@[simp] theorem takeSetPoint_fixed (k : Nat) (p : SetPoint) (cap : Nat) (s : State) : (takeSetPoint k p cap s).fixed = s.fixed := by
  simp only [takeSetPoint, fixed_mk, fixed_ite, ite_self, fixed_foldl, fst_ite, snd_ite, after_next, after_ite, implies_true, fixed_elim, applySetPoint_fixed, handsOff_fixed]

@[simp] theorem wentDown_fixed (k : Nat) (s : State) : (wentDown k s).fixed = s.fixed := by
  simp only [wentDown, fixed_mk, fixed_ite, ite_self, fixed_foldl, fst_ite, snd_ite, after_next, after_ite, implies_true, fixed_elim, modFlight_fixed, modSkL_fixed]

set_option maxRecDepth 4000 in
@[simp] theorem alignedTo_fixed (k : Nat) (s : State) : (alignedTo k s).fixed = s.fixed := by
  simp only [alignedTo, fixed_mk, fixed_ite, ite_self, fixed_foldl, fst_ite, snd_ite, after_next, after_ite, implies_true, fixed_elim, modSkL_fixed, toP_fixed]
  repeat' split
  all_goals (first | (with_reducible rfl) | simp only [fixed_mk, fixed_ite, ite_self, fixed_foldl, fst_ite, snd_ite, after_next, after_ite, implies_true, fixed_elim, modSkL_fixed, toP_fixed])

@[simp] theorem execSetpoint_fixed (t k : Nat) (e : LineErr) (s : State) : (after (execSetpoint t k e s) s).fixed = s.fixed := by
  simp only [execSetpoint, fixed_mk, fixed_ite, ite_self, fixed_foldl, fst_ite, snd_ite, after_next, after_ite, implies_true, fixed_elim, alignedTo_fixed, downFrame_fixed, modSkL_fixed, takeSetPoint_fixed, toL_fixed, wentDown_fixed]

@[simp] theorem takeSkeinSlot_fixed (k n : Nat) (s : State) : (takeSkeinSlot k n s).fixed = s.fixed := by
  simp only [takeSkeinSlot, fixed_mk, fixed_ite, ite_self, fixed_foldl, fst_ite, snd_ite, after_next, after_ite, implies_true, fixed_elim, alignedTo_fixed, takeSetPoint_fixed]

@[simp] theorem takeMaskSlot_fixed (k n : Nat) (s : State) : (takeMaskSlot k n s).fixed = s.fixed := by
  simp only [takeMaskSlot, fixed_mk, fixed_ite, ite_self, fixed_foldl, fst_ite, snd_ite, after_next, after_ite, implies_true, fixed_elim, applyMask_fixed, joined_fixed, settleHand_fixed]

@[simp] theorem takeCellSlot_fixed (n v : Nat) (s : State) : (takeCellSlot n v s).fixed = s.fixed := by
  simp only [takeCellSlot, fixed_mk, fixed_ite, ite_self, fixed_foldl, fst_ite, snd_ite, after_next, after_ite, implies_true, fixed_elim, modCell_fixed]

@[simp] theorem takePinSlot_fixed (j v : Nat) (s : State) : (takePinSlot j v s).fixed = s.fixed := by
  simp only [takePinSlot, fixed_mk, fixed_ite, ite_self, fixed_foldl, fst_ite, snd_ite, after_next, after_ite, implies_true, fixed_elim, takeOutputs_fixed]

@[simp] theorem takePortSlot_fixed (p v : Nat) (s : State) : (takePortSlot p v s).fixed = s.fixed := by
  simp only [takePortSlot, fixed_mk, fixed_ite, ite_self, fixed_foldl, fst_ite, snd_ite, after_next, after_ite, implies_true, fixed_elim, modPortP_fixed, takePortCfg_fixed]

@[simp] theorem noteRefresh_fixed (slot : Nat) (s : State) : (noteRefresh slot s).fixed = s.fixed := by
  simp only [noteRefresh, fixed_mk, fixed_ite, ite_self, fixed_foldl, fst_ite, snd_ite, after_next, after_ite, implies_true, fixed_elim, wentDown_fixed]

@[simp] theorem takeRefresh_fixed (slot n : Nat) (s : State) : (takeRefresh slot n s).fixed = s.fixed := by
  simp only [takeRefresh, fixed_mk, fixed_ite, ite_self, fixed_foldl, fst_ite, snd_ite, after_next, after_ite, implies_true, fixed_elim, takeCellSlot_fixed, takeMaskSlot_fixed, takePinSlot_fixed, takePortSlot_fixed, takeSkeinSlot_fixed]

@[simp] theorem execRefresh_fixed (t slot : Nat) (e : LineErr) (s : State) : (after (execRefresh t slot e s) s).fixed = s.fixed := by
  simp only [execRefresh, fixed_mk, fixed_ite, ite_self, fixed_foldl, fst_ite, snd_ite, after_next, after_ite, implies_true, fixed_elim, downFrame_fixed, modWeft_fixed, noteRefresh_fixed, takeRefresh_fixed, toL_fixed]

set_option maxRecDepth 4000 in
@[simp] theorem readbackSlot_fixed (slot : Nat) (m : List Nat) (s : State) : (readbackSlot slot m s).fixed = s.fixed := by
  simp only [readbackSlot, fixed_mk, fixed_ite, ite_self, fixed_foldl, fst_ite, snd_ite, after_next, after_ite, implies_true, fixed_elim, accrue_fixed, completeAll_fixed, driveGates_fixed, mirrorInForce_fixed, modActL_fixed, modCell_fixed, modLoom_fixed, modP_fixed, modPortL_fixed, modPortP_fixed, modWeft_fixed, readbackFio_fixed, readbackTrx_fixed, seeTamper_fixed, settleHand_fixed]
  repeat' split
  all_goals (first | (with_reducible rfl) | simp only [fixed_mk, fixed_ite, ite_self, fixed_foldl, fst_ite, snd_ite, after_next, after_ite, implies_true, fixed_elim, accrue_fixed, completeAll_fixed, driveGates_fixed, mirrorInForce_fixed, modActL_fixed, modCell_fixed, modLoom_fixed, modP_fixed, modPortL_fixed, modPortP_fixed, modWeft_fixed, readbackFio_fixed, readbackTrx_fixed, seeTamper_fixed, settleHand_fixed])

@[simp] theorem execReadback_fixed (t slot : Nat) (e : LineErr) (m : List Nat) (s : State) : (after (execReadback t slot e m s) s).fixed = s.fixed := by
  simp only [execReadback, fixed_mk, fixed_ite, ite_self, fixed_foldl, fst_ite, snd_ite, after_next, after_ite, implies_true, fixed_elim, modWeft_fixed, readbackSlot_fixed, toL_fixed, upFrame_fixed]

@[simp] theorem execAdoptionReadbackStart_fixed (m : MarkAt) (s : State) : (after (execAdoptionReadbackStart m s) s).fixed = s.fixed := by
  simp only [execAdoptionReadbackStart, fixed_mk, fixed_ite, ite_self, fixed_foldl, fst_ite, snd_ite, after_next, after_ite, implies_true, fixed_elim, modWeft_fixed, toL_fixed, upFrame_fixed]

@[simp] theorem startFsWrite_fixed (k : Nat) (c : FsCopy) (command : Bool) (s : State) : (startFsWrite k c command s).fixed = s.fixed := by
  simp only [startFsWrite, fixed_mk, fixed_ite, ite_self, fixed_foldl, fst_ite, snd_ite, after_next, after_ite, implies_true, fixed_elim, command_fixed, modP_fixed]

@[simp] theorem takeWakeCfg_fixed (en : Word) (edge timer : Nat) (s : State) : (takeWakeCfg en edge timer s).fixed = s.fixed := by
  simp only [takeWakeCfg, fixed_mk, fixed_ite, ite_self, fixed_foldl, fst_ite, snd_ite, after_next, after_ite, implies_true, fixed_elim]

@[simp] theorem takeProt_fixed (off : Nat) (v : Word) (s : State) : (takeProt off v s).fixed = s.fixed := by
  simp only [takeProt, fixed_mk, fixed_ite, ite_self, fixed_foldl, fst_ite, snd_ite, after_next, after_ite, implies_true, fixed_elim, modP_fixed, spoilPrint_fixed]

set_option maxRecDepth 4000 in
@[simp] theorem applyCfg_fixed (i : CfgItem) (s : State) : (applyCfg i s).fixed = s.fixed := by
  simp only [applyCfg, fixed_mk, fixed_ite, ite_self, fixed_foldl, fst_ite, snd_ite, after_next, after_ite, implies_true, fixed_elim, applyDefine_fixed, applyFsSkein_fixed, changeSkP_fixed, clearLatch_fixed, clearLatchP_fixed, enterFailSafe_fixed, modActP_fixed, modCell_fixed, modP_fixed, modPortP_fixed, modSkP_fixed, setSlew_fixed, startFsWrite_fixed, takeFio_fixed, takeFioClear_fixed, takeFioCommit_fixed, takeFioWord_fixed, takeLight_fixed, takePhase_fixed, takePixel_fixed, takeProt_fixed, takeSwap_fixed, takeTrx_fixed]
  repeat' split
  all_goals (first | (with_reducible rfl) | simp only [fixed_mk, fixed_ite, ite_self, fixed_foldl, fst_ite, snd_ite, after_next, after_ite, implies_true, fixed_elim, applyDefine_fixed, applyFsSkein_fixed, changeSkP_fixed, clearLatch_fixed, clearLatchP_fixed, enterFailSafe_fixed, modActP_fixed, modCell_fixed, modP_fixed, modPortP_fixed, modSkP_fixed, setSlew_fixed, startFsWrite_fixed, takeFio_fixed, takeFioClear_fixed, takeFioCommit_fixed, takeFioWord_fixed, takeLight_fixed, takePhase_fixed, takePixel_fixed, takeProt_fixed, takeSwap_fixed, takeTrx_fixed])

@[simp] theorem modCfgOut_fixed (id : Nat) (f : CfgOut → CfgOut) (s : State) : (modCfgOut id f s).fixed = s.fixed := by
  simp only [modCfgOut, fixed_mk, fixed_ite, ite_self, fixed_foldl, fst_ite, snd_ite, after_next, after_ite, implies_true, fixed_elim, modWeft_fixed]

@[simp] theorem arriveCfg_fixed (c : CfgOut) (s : State) : (arriveCfg c s).fixed = s.fixed := by
  simp only [arriveCfg, fixed_mk, fixed_ite, ite_self, fixed_foldl, fst_ite, snd_ite, after_next, after_ite, implies_true, fixed_elim, applyCfg_fixed, clearLatch_fixed, modCfgOut_fixed, pushUp_fixed, toP_fixed]

set_option maxRecDepth 4000 in
@[simp] theorem configDown_fixed (c : CfgOut) (s : State) : (configDown c s).fixed = s.fixed := by
  unfold configDown
  repeat' (first | (with_reducible rfl) | (simp only [fixed_mk, fixed_ite, ite_self, fixed_foldl, fst_ite, snd_ite, after_next, after_ite, implies_true, fixed_elim, modFlight_fixed, modSkL_fixed]; done) | split | simp only [fixed_mk, fixed_ite, ite_self, fixed_foldl, fst_ite, snd_ite, after_next, after_ite, implies_true, fixed_elim, modFlight_fixed, modSkL_fixed])

set_option maxRecDepth 4000 in
@[simp] theorem execConfig_fixed (t : Nat) (e : LineErr) (s : State) : (after (execConfig t e s) s).fixed = s.fixed := by
  simp only [execConfig, fixed_mk, fixed_ite, ite_self, fixed_foldl, fst_ite, snd_ite, after_next, after_ite, implies_true, fixed_elim, arriveCfg_fixed, configDown_fixed, downFrame_fixed, modCfgOut_fixed, toL_fixed]
  repeat' split
  all_goals (first | (with_reducible rfl) | simp only [fixed_mk, fixed_ite, ite_self, fixed_foldl, fst_ite, snd_ite, after_next, after_ite, implies_true, fixed_elim, arriveCfg_fixed, configDown_fixed, downFrame_fixed, modCfgOut_fixed, toL_fixed])

set_option maxRecDepth 4000 in
@[simp] theorem execConfigEchoTimeout_fixed (s : State) : (after (execConfigEchoTimeout s) s).fixed = s.fixed := by
  simp only [execConfigEchoTimeout, fixed_mk, fixed_ite, ite_self, fixed_foldl, fst_ite, snd_ite, after_next, after_ite, implies_true, fixed_elim, modCfgOut_fixed, toL_fixed]
  repeat' split
  all_goals (first | (with_reducible rfl) | simp only [fixed_mk, fixed_ite, ite_self, fixed_foldl, fst_ite, snd_ite, after_next, after_ite, implies_true, fixed_elim, modCfgOut_fixed, toL_fixed])

set_option maxRecDepth 4000 in
@[simp] theorem execFsForce_fixed (t : Nat) (e : LineErr) (s : State) : (after (execFsForce t e s) s).fixed = s.fixed := by
  simp only [execFsForce, fixed_mk, fixed_ite, ite_self, fixed_foldl, fst_ite, snd_ite, after_next, after_ite, implies_true, fixed_elim, enterFailSafe_fixed, modWeft_fixed, sendDown_fixed, toL_fixed]
  repeat' split
  all_goals (first | (with_reducible rfl) | simp only [fixed_mk, fixed_ite, ite_self, fixed_foldl, fst_ite, snd_ite, after_next, after_ite, implies_true, fixed_elim, enterFailSafe_fixed, modWeft_fixed, sendDown_fixed, toL_fixed])

@[simp] theorem rolesOfMask_fixed (k : Nat) (d : SkeinDef) (mask : Nat) (s : State) : (rolesOfMask k d mask s).fixed = s.fixed := by
  simp only [rolesOfMask, fixed_mk, fixed_ite, ite_self, fixed_foldl, fst_ite, snd_ite, after_next, after_ite, implies_true, fixed_elim, setRole_fixed]

@[simp] theorem defineDone_fixed (id k : Nat) (d : SkeinDef) (mask : Nat) (s : State) : (defineDone id k d mask s).fixed = s.fixed := by
  simp only [defineDone, fixed_mk, fixed_ite, ite_self, fixed_foldl, fst_ite, snd_ite, after_next, after_ite, implies_true, fixed_elim, completeAll_fixed, modLoom_fixed, modSkL_fixed, nvStarts_fixed, rolesOfMask_fixed, setRole_fixed]

set_option maxRecDepth 4000 in
@[simp] theorem echoed_fixed (c : CfgOut) (s : State) : (echoed c s).fixed = s.fixed := by
  simp only [echoed, fixed_mk, fixed_ite, ite_self, fixed_foldl, fst_ite, snd_ite, after_next, after_ite, implies_true, fixed_elim, clearLatch_fixed, clearLearn_fixed, defineDone_fixed, fioEchoed_fixed, modActL_fixed, modLoom_fixed, modPortL_fixed, modSkL_fixed, modWeft_fixed, outputsEchoed_fixed, pixelEchoed_fixed, portEchoed_fixed, takeWakeCfg_fixed, trxEchoed_fixed]
  repeat' split
  all_goals (first | (with_reducible rfl) | simp only [fixed_mk, fixed_ite, ite_self, fixed_foldl, fst_ite, snd_ite, after_next, after_ite, implies_true, fixed_elim, clearLatch_fixed, clearLearn_fixed, defineDone_fixed, fioEchoed_fixed, modActL_fixed, modLoom_fixed, modPortL_fixed, modSkL_fixed, modWeft_fixed, outputsEchoed_fixed, pixelEchoed_fixed, portEchoed_fixed, takeWakeCfg_fixed, trxEchoed_fixed])

set_option maxRecDepth 4000 in
@[simp] theorem takeEcho_fixed (id : Nat) (s : State) : (takeEcho id s).fixed = s.fixed := by
  simp only [takeEcho, fixed_mk, fixed_ite, ite_self, fixed_foldl, fst_ite, snd_ite, after_next, after_ite, implies_true, fixed_elim, completeAll_fixed, echoed_fixed, modWeft_fixed]
  repeat' split
  all_goals (first | (with_reducible rfl) | simp only [fixed_mk, fixed_ite, ite_self, fixed_foldl, fst_ite, snd_ite, after_next, after_ite, implies_true, fixed_elim, completeAll_fixed, echoed_fixed, modWeft_fixed])

set_option maxRecDepth 4000 in
@[simp] theorem takeCellOut_fixed (n cause tick : Nat) (s : State) : (takeCellOut n cause tick s).fixed = s.fixed := by
  simp only [takeCellOut, fixed_mk, fixed_ite, ite_self, fixed_foldl, fst_ite, snd_ite, after_next, after_ite, implies_true, fixed_elim, modLoom_fixed, modSkL_fixed]
  repeat' split
  all_goals (first | (with_reducible rfl) | simp only [fixed_mk, fixed_ite, ite_self, fixed_foldl, fst_ite, snd_ite, after_next, after_ite, implies_true, fixed_elim, modLoom_fixed, modSkL_fixed])

@[simp] theorem fsWritten_fixed (w : Nat) (ok : Bool) (s : State) : (fsWritten w ok s).fixed = s.fixed := by
  simp only [fsWritten, fixed_mk, fixed_ite, ite_self, fixed_foldl, fst_ite, snd_ite, after_next, after_ite, implies_true, fixed_elim, bump_fixed, modWeft_fixed]

@[simp] theorem viewFs_fixed (k : Nat) (s : State) : (viewFs k s).fixed = s.fixed := by
  simp only [viewFs, fixed_mk, fixed_ite, ite_self, fixed_foldl, fst_ite, snd_ite, after_next, after_ite, implies_true, fixed_elim, modWeft_fixed]

set_option maxRecDepth 4000 in
@[simp] theorem takeUp_fixed (lvl : Nat) (b : UpBody) (s : State) : (takeUp lvl b s).fixed = s.fixed := by
  simp only [takeUp, fixed_mk, fixed_ite, ite_self, fixed_foldl, fst_ite, snd_ite, after_next, after_ite, implies_true, fixed_elim, bump_fixed, completeAll_fixed, fsWritten_fixed, modLoom_fixed, modSkL_fixed, report_fixed, reportCrc_fixed, takeActEvent_fixed, takeCellOut_fixed, takeEcho_fixed, takeFioCleared_fixed, takeFioEvent_fixed, takeFioTrig_fixed, takeLightEvent_fixed, takePolls_fixed, takeTrxEvent_fixed, viewFs_fixed]
  repeat' split
  all_goals (first | (with_reducible rfl) | simp only [fixed_mk, fixed_ite, ite_self, fixed_foldl, fst_ite, snd_ite, after_next, after_ite, implies_true, fixed_elim, bump_fixed, completeAll_fixed, fsWritten_fixed, modLoom_fixed, modSkL_fixed, report_fixed, reportCrc_fixed, takeActEvent_fixed, takeCellOut_fixed, takeEcho_fixed, takeFioCleared_fixed, takeFioEvent_fixed, takeFioTrig_fixed, takeLightEvent_fixed, takePolls_fixed, takeTrxEvent_fixed, viewFs_fixed])

@[simp] theorem receiveUp_fixed (seq : Nat) (b : UpBody) (s : State) : (receiveUp seq b s).fixed = s.fixed := by
  simp only [receiveUp, fixed_mk, fixed_ite, ite_self, fixed_foldl, fst_ite, snd_ite, after_next, after_ite, implies_true, fixed_elim, modWeft_fixed, takeUp_fixed]

@[simp] theorem markSent_fixed (seq : Nat) (s : State) : (markSent seq s).fixed = s.fixed := by
  simp only [markSent, fixed_mk, fixed_ite, ite_self, fixed_foldl, fst_ite, snd_ite, after_next, after_ite, implies_true, fixed_elim, modP_fixed]

set_option maxRecDepth 4000 in
@[simp] theorem sendUp_fixed (t : Nat) (u : UpFrame) (e : LineErr) (s : State) : (sendUp t u e s).fixed = s.fixed := by
  simp only [sendUp, fixed_mk, fixed_ite, ite_self, fixed_foldl, fst_ite, snd_ite, after_next, after_ite, implies_true, fixed_elim, receiveUp_fixed, upFrame_fixed]
  repeat' split
  all_goals (first | (with_reducible rfl) | simp only [fixed_mk, fixed_ite, ite_self, fixed_foldl, fst_ite, snd_ite, after_next, after_ite, implies_true, fixed_elim, receiveUp_fixed, upFrame_fixed])

set_option maxRecDepth 4000 in
@[simp] theorem execCellOut_fixed (t : Nat) (e : LineErr) (s : State) : (after (execCellOut t e s) s).fixed = s.fixed := by
  simp only [execCellOut, fixed_mk, fixed_ite, ite_self, fixed_foldl, fst_ite, snd_ite, after_next, after_ite, implies_true, fixed_elim, bump_fixed, markSent_fixed, sendUp_fixed, toL_fixed]
  repeat' split
  all_goals (first | (with_reducible rfl) | simp only [fixed_mk, fixed_ite, ite_self, fixed_foldl, fst_ite, snd_ite, after_next, after_ite, implies_true, fixed_elim, bump_fixed, markSent_fixed, sendUp_fixed, toL_fixed])

set_option maxRecDepth 4000 in
@[simp] theorem execEventFrame_fixed (t : Nat) (e : LineErr) (s : State) : (after (execEventFrame t e s) s).fixed = s.fixed := by
  simp only [execEventFrame, fixed_mk, fixed_ite, ite_self, fixed_foldl, fst_ite, snd_ite, after_next, after_ite, implies_true, fixed_elim, markSent_fixed, sendUp_fixed, toL_fixed]
  repeat' split
  all_goals (first | (with_reducible rfl) | simp only [fixed_mk, fixed_ite, ite_self, fixed_foldl, fst_ite, snd_ite, after_next, after_ite, implies_true, fixed_elim, markSent_fixed, sendUp_fixed, toL_fixed])

set_option maxRecDepth 4000 in
@[simp] theorem execUnackedResend_fixed (t : Nat) (e : LineErr) (s : State) : (after (execUnackedResend t e s) s).fixed = s.fixed := by
  simp only [execUnackedResend, fixed_mk, fixed_ite, ite_self, fixed_foldl, fst_ite, snd_ite, after_next, after_ite, implies_true, fixed_elim, bump_fixed, markSent_fixed, sendUp_fixed, toL_fixed]
  repeat' split
  all_goals (first | (with_reducible rfl) | simp only [fixed_mk, fixed_ite, ite_self, fixed_foldl, fst_ite, snd_ite, after_next, after_ite, implies_true, fixed_elim, bump_fixed, markSent_fixed, sendUp_fixed, toL_fixed])

set_option maxRecDepth 4000 in
@[simp] theorem execIdleFrame_fixed (t : Nat) (up : Bool) (e : LineErr) (s : State) : (after (execIdleFrame t up e s) s).fixed = s.fixed := by
  unfold execIdleFrame
  repeat' (first | (with_reducible rfl) | (simp [fixed_mk, fixed_ite, ite_self, fixed_foldl, fst_ite, snd_ite, after_next, after_ite, implies_true, fixed_elim, downFrame_fixed, modP_fixed, modWeft_fixed, toL_fixed, upFrame_fixed]; done) | split | (refine fixed_foldl _ (fun s x => ?_) _ _))

@[simp] theorem slewP_fixed (s : State) : (slewP s).fixed = s.fixed := by
  simp only [slewP, fixed_mk, fixed_ite, ite_self, fixed_foldl, fst_ite, snd_ite, after_next, after_ite, implies_true, fixed_elim, modP_fixed]

@[simp] theorem markUp_fixed (c : MarkCode) (content : Nat) (s : State) : (markUp c content s).fixed = s.fixed := by
  simp only [markUp, fixed_mk, fixed_ite, ite_self, fixed_foldl, fst_ite, snd_ite, after_next, after_ite, implies_true, fixed_elim, upFrame_fixed]

@[simp] theorem execTimeExchange_fixed (t : Nat) (e : LineErr) (s : State) : (after (execTimeExchange t e s) s).fixed = s.fixed := by
  simp only [execTimeExchange, fixed_mk, fixed_ite, ite_self, fixed_foldl, fst_ite, snd_ite, after_next, after_ite, implies_true, fixed_elim, downFrame_fixed, markUp_fixed, slewP_fixed, toL_fixed]

@[simp] theorem execLadderRelease_fixed (m : MarkAt) (n : Nat) (s : State) : (after (execLadderRelease m n s) s).fixed = s.fixed := by
  simp only [execLadderRelease, fixed_mk, fixed_ite, ite_self, fixed_foldl, fst_ite, snd_ite, after_next, after_ite, implies_true, fixed_elim, downFrame_fixed, modLoom_fixed, pauseOver_fixed, toL_fixed]

set_option maxRecDepth 4000 in
@[simp] theorem execFsMemoryVerified_fixed (t w : Nat) (ok : Bool) (s : State) : (after (execFsMemoryVerified t w ok s) s).fixed = s.fixed := by
  simp only [execFsMemoryVerified, fixed_mk, fixed_ite, ite_self, fixed_foldl, fst_ite, snd_ite, after_next, after_ite, implies_true, fixed_elim, command_fixed, modP_fixed, pushUp_fixed, toP_fixed]
  repeat' split
  all_goals (first | (with_reducible rfl) | simp only [fixed_mk, fixed_ite, ite_self, fixed_foldl, fst_ite, snd_ite, after_next, after_ite, implies_true, fixed_elim, command_fixed, modP_fixed, pushUp_fixed, toP_fixed])

set_option maxRecDepth 4000 in
@[simp] theorem failsafeSet_fixed (k : Nat) (w0 w1 : Word) (s : State) : (failsafeSet k w0 w1 s).1.fixed = s.fixed := by
  simp only [failsafeSet, fixed_mk, fixed_ite, ite_self, fixed_foldl, fst_ite, snd_ite, after_next, after_ite, implies_true, fixed_elim, nvStarts_fixed, pushCfg'_fixed]
  repeat' split
  all_goals (first | (with_reducible rfl) | simp only [fixed_mk, fixed_ite, ite_self, fixed_foldl, fst_ite, snd_ite, after_next, after_ite, implies_true, fixed_elim, nvStarts_fixed, pushCfg'_fixed])

@[simp] theorem execFailsafeSet_fixed (r : Req) (s : State) : (after (execFailsafeSet r s) s).fixed = s.fixed := by
  simp only [execFailsafeSet, fixed_mk, fixed_ite, ite_self, fixed_foldl, fst_ite, snd_ite, after_next, after_ite, implies_true, fixed_elim, command_fixed, failsafeSet_fixed, infoFailsafeSet]

@[simp] theorem writeHold_fixed (ms : Nat) (s : State) : (writeHold ms s).1.fixed = s.fixed := by
  simp only [writeHold, fixed_mk, fixed_ite, ite_self, fixed_foldl, fst_ite, snd_ite, after_next, after_ite, implies_true, fixed_elim, nvStarts_fixed, pushCfg_fixed]

@[simp] theorem retrain_fixed (s : State) : (retrain s).fixed = s.fixed := by
  simp only [retrain, fixed_mk, fixed_ite, ite_self, fixed_foldl, fst_ite, snd_ite, after_next, after_ite, implies_true, fixed_elim, linkDown_fixed, startTraining_fixed, syncAllTrx_fixed]

@[simp] theorem writeWeft_fixed (off : Nat) (v : Word) (s : State) : (writeWeft off v s).1.fixed = s.fixed := by
  simp only [writeWeft, fixed_mk, fixed_ite, ite_self, fixed_foldl, fst_ite, snd_ite, after_next, after_ite, implies_true, fixed_elim, modWeft_fixed, retrain_fixed, writeHold_fixed]

@[simp] theorem modSet_fixed (n : Nat) (f : ReelSet → ReelSet) (s : State) : (modSet n f s).fixed = s.fixed := by
  simp only [modSet, fixed_mk, fixed_ite, ite_self, fixed_foldl, fst_ite, snd_ite, after_next, after_ite, implies_true, fixed_elim, modReel_fixed]

@[simp] theorem snapAccept_fixed (e : Entry) (s : State) : (snapAccept e s).fixed = s.fixed := by
  simp only [snapAccept, fixed_mk, fixed_ite, ite_self, fixed_foldl, fst_ite, snd_ite, after_next, after_ite, implies_true, fixed_elim, modEntry_fixed, modSet_fixed]

@[simp] theorem releaseSet_fixed (n : Nat) (s : State) : (releaseSet n s).fixed = s.fixed := by
  simp only [releaseSet, fixed_mk, fixed_ite, ite_self, fixed_foldl, fst_ite, snd_ite, after_next, after_ite, implies_true, fixed_elim, modSet_fixed]

set_option maxRecDepth 4000 in
@[simp] theorem snapTake_fixed (e : Entry) (s : State) : (snapTake e s).1.fixed = s.fixed := by
  simp only [snapTake, fixed_mk, fixed_ite, ite_self, fixed_foldl, fst_ite, snd_ite, after_next, after_ite, implies_true, fixed_elim, modChainSt_fixed, modSet_fixed, releaseSet_fixed]
  repeat' split
  all_goals (first | (with_reducible rfl) | simp only [fixed_mk, fixed_ite, ite_self, fixed_foldl, fst_ite, snd_ite, after_next, after_ite, implies_true, fixed_elim, modChainSt_fixed, modSet_fixed, releaseSet_fixed])

@[simp] theorem execSnapTake_fixed (r : Req) (s : State) : (after (execSnapTake r s) s).fixed = s.fixed := by
  simp only [execSnapTake, fixed_mk, fixed_ite, ite_self, fixed_foldl, fst_ite, snd_ite, after_next, after_ite, implies_true, fixed_elim, command_fixed, snapAccept_fixed, snapTake_fixed, infoSnapTake]

theorem freeWords_fixed (n : Nat) (s : State) : (freeWords n s).2.fixed = s.fixed := by
  induction n generalizing s with
  | zero => rfl
  | succ n ih => simp only [freeWords, ih, freeWord_fixed]
set_option maxRecDepth 4000 in
@[simp] theorem snapRead_fixed (r : Req) (s : State) : (snapRead r s).1.fixed = s.fixed := by
  unfold snapRead
  dsimp only
  repeat' split
  all_goals first | rfl | exact freeWords_fixed _ s

@[simp] theorem execSnapRead_fixed (r : Req) (s : State) : (after (execSnapRead r s) s).fixed = s.fixed := by
  simp only [execSnapRead, fixed_mk, fixed_ite, ite_self, fixed_foldl, fst_ite, snd_ite, after_next, after_ite, implies_true, fixed_elim, command_fixed, snapRead_fixed, infoSnapRead]

@[simp] theorem snapRelease_fixed (n : Nat) (s : State) : (snapRelease n s).1.fixed = s.fixed := by
  simp only [snapRelease, fixed_mk, fixed_ite, ite_self, fixed_foldl, fst_ite, snd_ite, after_next, after_ite, implies_true, fixed_elim, releaseSet_fixed]

@[simp] theorem execSnapRelease_fixed (r : Req) (s : State) : (after (execSnapRelease r s) s).fixed = s.fixed := by
  simp only [execSnapRelease, fixed_mk, fixed_ite, ite_self, fixed_foldl, fst_ite, snd_ite, after_next, after_ite, implies_true, fixed_elim, command_fixed, snapRelease_fixed, infoSnapRelease]

@[simp] theorem counterRead_fixed (r : Req) (s : State) : (counterRead r s).1.fixed = s.fixed := by
  simp only [counterRead, fixed_mk, fixed_ite, ite_self, fixed_foldl, fst_ite, snd_ite, after_next, after_ite, implies_true, fixed_elim]

@[simp] theorem execCounterRead_fixed (r : Req) (s : State) : (after (execCounterRead r s) s).fixed = s.fixed := by
  simp only [execCounterRead, fixed_mk, fixed_ite, ite_self, fixed_foldl, fst_ite, snd_ite, after_next, after_ite, implies_true, fixed_elim, command_fixed, counterRead_fixed, infoCounterRead]

@[simp] theorem snapshotDone_fixed (set status : Nat) (err : Int) (s : State) : (snapshotDone set status err s).fixed = s.fixed := by
  simp only [snapshotDone, fixed_mk, fixed_ite, ite_self, fixed_foldl, fst_ite, snd_ite, after_next, after_ite, implies_true, fixed_elim, postEvent_fixed]

@[simp] theorem snapshotMark_fixed (n : Nat) (s : State) : (snapshotMark n s).fixed = s.fixed := by
  simp only [snapshotMark, fixed_mk, fixed_ite, ite_self, fixed_foldl, fst_ite, snd_ite, after_next, after_ite, implies_true, fixed_elim, downFrame_fixed, markUp_fixed]

@[simp] theorem latchSet_fixed (n : Nat) (s : State) : (latchSet n s).fixed = s.fixed := by
  simp only [latchSet, fixed_mk, fixed_ite, ite_self, fixed_foldl, fst_ite, snd_ite, after_next, after_ite, implies_true, fixed_elim, accrue_fixed, completeAll_fixed, modLoom_fixed, modSet_fixed, snapshotDone_fixed, snapshotMark_fixed]

@[simp] theorem modClk_fixed (f : ClkSt → ClkSt) (s : State) : (modClk f s).fixed = s.fixed := by
  simp only [modClk, fixed_mk, fixed_ite, ite_self, fixed_foldl, fst_ite, snd_ite, after_next, after_ite, implies_true, fixed_elim]

@[simp] theorem powerEvent_fixed (reason ap wakes : Nat) (s : State) : (powerEvent reason ap wakes s).fixed = s.fixed := by
  simp only [powerEvent, fixed_mk, fixed_ite, ite_self, fixed_foldl, fst_ite, snd_ite, after_next, after_ite, implies_true, fixed_elim, postEvent_fixed]

@[simp] theorem stopForClock_fixed (k : Nat) (s : State) : (stopForClock k s).fixed = s.fixed := by
  simp only [stopForClock, fixed_mk, fixed_ite, ite_self, fixed_foldl, fst_ite, snd_ite, after_next, after_ite, implies_true, fixed_elim, dropFrames_fixed, stateEvent_fixed, stopCtl_fixed]

@[simp] theorem macLinkDown_fixed (m : Nat) (s : State) : (macLinkDown m s).fixed = s.fixed := by
  simp only [macLinkDown, fixed_mk, fixed_ite, ite_self, fixed_foldl, fst_ite, snd_ite, after_next, after_ite, implies_true, fixed_elim, modMac_fixed, raiseIso_fixed]

@[simp] theorem stopForRoot_fixed (s : State) : (stopForRoot s).fixed = s.fixed := by
  simp only [stopForRoot, fixed_mk, fixed_ite, ite_self, fixed_foldl, fst_ite, snd_ite, after_next, after_ite, implies_true, fixed_elim, macLinkDown_fixed, stopForClock_fixed]

@[simp] theorem resumeForRoot_fixed (s : State) : (resumeForRoot s).fixed = s.fixed := by
  simp only [resumeForRoot, fixed_mk, fixed_ite, ite_self, fixed_foldl, fst_ite, snd_ite, after_next, after_ite, implies_true, fixed_elim, startCtl_fixed]

set_option maxRecDepth 4000 in
@[simp] theorem execXiMeasurement_fixed (t outcome : Nat) (s : State) : (after (execXiMeasurement t outcome s) s).fixed = s.fixed := by
  simp only [execXiMeasurement, fixed_mk, fixed_ite, ite_self, fixed_foldl, fst_ite, snd_ite, after_next, after_ite, implies_true, fixed_elim, modClk_fixed, reportL_fixed, toL_fixed]
  repeat' split
  all_goals (first | (with_reducible rfl) | simp only [fixed_mk, fixed_ite, ite_self, fixed_foldl, fst_ite, snd_ite, after_next, after_ite, implies_true, fixed_elim, modClk_fixed, reportL_fixed, toL_fixed])

@[simp] theorem execRootFailure_fixed (t : Nat) (s : State) : (after (execRootFailure t s) s).fixed = s.fixed := by
  simp only [execRootFailure, fixed_mk, fixed_ite, ite_self, fixed_foldl, fst_ite, snd_ite, after_next, after_ite, implies_true, fixed_elim, bump_fixed, fallbackFor_fixed, modClk_fixed, modPly_fixed, powerEvent_fixed, reportL_fixed, setAligned_fixed, stopForRoot_fixed, toL_fixed]

@[simp] theorem execAutoRcSwitch_fixed (s : State) : (after (execAutoRcSwitch s) s).fixed = s.fixed := by
  simp only [execAutoRcSwitch, fixed_mk, fixed_ite, ite_self, fixed_foldl, fst_ite, snd_ite, after_next, after_ite, implies_true, fixed_elim, modClk_fixed, toL_fixed]

set_option maxRecDepth 4000 in
@[simp] theorem execRootSwitchLock_fixed (t : Nat) (forced : Bool) (s : State) : (after (execRootSwitchLock t forced s) s).fixed = s.fixed := by
  unfold execRootSwitchLock
  repeat' (first | (with_reducible rfl) | (simp only [fixed_mk, fixed_ite, ite_self, fixed_foldl, fst_ite, snd_ite, after_next, after_ite, implies_true, fixed_elim, bump_fixed, modClk_fixed, powerEvent_fixed, reportL_fixed, resumeForRoot_fixed, setAligned_fixed, stopForRoot_fixed, toL_fixed]; done) | split | simp only [fixed_mk, fixed_ite, ite_self, fixed_foldl, fst_ite, snd_ite, after_next, after_ite, implies_true, fixed_elim, bump_fixed, modClk_fixed, powerEvent_fixed, reportL_fixed, resumeForRoot_fixed, setAligned_fixed, stopForRoot_fixed, toL_fixed])

@[simp] theorem execPllLockLoss_fixed (t : Nat) (s : State) : (after (execPllLockLoss t s) s).fixed = s.fixed := by
  simp only [execPllLockLoss, fixed_mk, fixed_ite, ite_self, fixed_foldl, fst_ite, snd_ite, after_next, after_ite, implies_true, fixed_elim, modClk_fixed, reportL_fixed, toL_fixed]

@[simp] theorem closeUnit_fixed (u : Nat) (s : State) : (closeUnit u s).fixed = s.fixed := by
  simp only [closeUnit, fixed_mk, fixed_ite, ite_self, fixed_foldl, fst_ite, snd_ite, after_next, after_ite, implies_true, fixed_elim, macLinkDown_fixed, stopForClock_fixed]

@[simp] theorem execUnitGateClosed_fixed (t u : Nat) (s : State) : (after (execUnitGateClosed t u s) s).fixed = s.fixed := by
  simp only [execUnitGateClosed, fixed_mk, fixed_ite, ite_self, fixed_foldl, fst_ite, snd_ite, after_next, after_ite, implies_true, fixed_elim, closeUnit_fixed, modClk_fixed, toL_fixed]

@[simp] theorem clkGate_fixed (r : Req) (s : State) : (clkGate r s).1.fixed = s.fixed := by
  simp only [clkGate, fixed_mk, fixed_ite, ite_self, fixed_foldl, fst_ite, snd_ite, after_next, after_ite, implies_true, fixed_elim, modClk_fixed, startCtl_fixed]

@[simp] theorem execClkGate_fixed (r : Req) (s : State) : (after (execClkGate r s) s).fixed = s.fixed := by
  simp only [execClkGate, fixed_mk, fixed_ite, ite_self, fixed_foldl, fst_ite, snd_ite, after_next, after_ite, implies_true, fixed_elim, clkGate_fixed, command_fixed, infoClkGate]

@[simp] theorem execClkStatus_fixed (r : Req) (s : State) : (after (execClkStatus r s) s).fixed = s.fixed := by
  simp only [execClkStatus, fixed_mk, fixed_ite, ite_self, fixed_foldl, fst_ite, snd_ite, after_next, after_ite, implies_true, fixed_elim, command_fixed, infoClkStatus]

@[simp] theorem wakeCfg_fixed (r : Req) (s : State) : (wakeCfg r s).1.fixed = s.fixed := by
  simp only [wakeCfg, fixed_mk, fixed_ite, ite_self, fixed_foldl, fst_ite, snd_ite, after_next, after_ite, implies_true, fixed_elim, writeP_fixed]

@[simp] theorem execWakeCfg_fixed (r : Req) (s : State) : (after (execWakeCfg r s) s).fixed = s.fixed := by
  simp only [execWakeCfg, fixed_mk, fixed_ite, ite_self, fixed_foldl, fst_ite, snd_ite, after_next, after_ite, implies_true, fixed_elim, command_fixed, wakeCfg_fixed, infoWakeCfg]

@[simp] theorem wakePDie_fixed (s : State) : (wakePDie s).fixed = s.fixed := by
  simp only [wakePDie, fixed_mk, fixed_ite, ite_self, fixed_foldl, fst_ite, snd_ite, after_next, after_ite, implies_true, fixed_elim, modP_fixed, restartDebounce_fixed]

@[simp] theorem execWakeLatch_fixed (t src : Nat) (up : Bool) (s : State) : (after (execWakeLatch t src up s) s).fixed = s.fixed := by
  simp only [execWakeLatch, fixed_mk, fixed_ite, ite_self, fixed_foldl, fst_ite, snd_ite, after_next, after_ite, implies_true, fixed_elim, modClk_fixed, modP_fixed, toP_fixed, wakeHeard_fixed, wakePDie_fixed]

@[simp] theorem pushReg_fixed (q : RegReq) (s : State) : (pushReg q s).fixed = s.fixed := by
  simp only [pushReg, fixed_mk, fixed_ite, ite_self, fixed_foldl, fst_ite, snd_ite, after_next, after_ite, implies_true, fixed_elim, modClk_fixed]

set_option maxRecDepth 4000 in
@[simp] theorem execRegRequestAcknowledged_fixed (t status : Nat) (s : State) : (after (execRegRequestAcknowledged t status s) s).fixed = s.fixed := by
  simp only [execRegRequestAcknowledged, fixed_mk, fixed_ite, ite_self, fixed_foldl, fst_ite, snd_ite, after_next, after_ite, implies_true, fixed_elim, modClk_fixed, toL_fixed]
  repeat' split
  all_goals (first | (with_reducible rfl) | simp only [fixed_mk, fixed_ite, ite_self, fixed_foldl, fst_ite, snd_ite, after_next, after_ite, implies_true, fixed_elim, modClk_fixed, toL_fixed])

set_option maxRecDepth 4000 in
@[simp] theorem execRegRequestTimeout_fixed (t status : Nat) (s : State) : (after (execRegRequestTimeout t status s) s).fixed = s.fixed := by
  unfold execRegRequestTimeout
  repeat' (first | (with_reducible rfl) | (simp only [fixed_mk, fixed_ite, ite_self, fixed_foldl, fst_ite, snd_ite, after_next, after_ite, implies_true, fixed_elim, bump_fixed, modClk_fixed, powerEvent_fixed, reportL_fixed, toL_fixed]; done) | split | simp only [fixed_mk, fixed_ite, ite_self, fixed_foldl, fst_ite, snd_ite, after_next, after_ite, implies_true, fixed_elim, bump_fixed, modClk_fixed, powerEvent_fixed, reportL_fixed, toL_fixed])

set_option maxRecDepth 4000 in
@[simp] theorem railPoll_fixed (status : List Nat) (s : State) : (railPoll status s).fixed = s.fixed := by
  unfold railPoll
  refine fixed_foldl _ (fun s x => ?_) _ _
  repeat' (first | (with_reducible rfl) | (simp only [fixed_mk, fixed_ite, ite_self, fixed_foldl, fst_ite, snd_ite, after_next, after_ite, implies_true, fixed_elim, modClk_fixed, reportL_fixed]; done) | split | simp only [fixed_mk, fixed_ite, ite_self, fixed_foldl, fst_ite, snd_ite, after_next, after_ite, implies_true, fixed_elim, modClk_fixed, reportL_fixed])

@[simp] theorem selectRoot_fixed (rc : Bool) (s : State) : (selectRoot rc s).fixed = s.fixed := by
  simp only [selectRoot, fixed_mk, fixed_ite, ite_self, fixed_foldl, fst_ite, snd_ite, after_next, after_ite, implies_true, fixed_elim, modClk_fixed]

@[simp] theorem setVcore_fixed (n : Nat) (s : State) : (setVcore n s).fixed = s.fixed := by
  simp only [setVcore, fixed_mk, fixed_ite, ite_self, fixed_foldl, fst_ite, snd_ite, after_next, after_ite, implies_true, fixed_elim, modClk_fixed, pushReg_fixed]

set_option maxRecDepth 4000 in
@[simp] theorem writeClkpwr_fixed (off : Nat) (v : Word) (s : State) : (writeClkpwr off v s).1.fixed = s.fixed := by
  simp only [writeClkpwr, fixed_mk, fixed_ite, ite_self, fixed_foldl, fst_ite, snd_ite, after_next, after_ite, implies_true, fixed_elim, modClk_fixed, selectRoot_fixed, setVcore_fixed, writeP_fixed]
  repeat' split
  all_goals (first | (with_reducible rfl) | simp only [fixed_mk, fixed_ite, ite_self, fixed_foldl, fst_ite, snd_ite, after_next, after_ite, implies_true, fixed_elim, modClk_fixed, selectRoot_fixed, setVcore_fixed, writeP_fixed])

@[simp] theorem modStore_fixed (f : StoreSt → StoreSt) (s : State) : (modStore f s).fixed = s.fixed := by
  simp only [modStore, fixed_mk, fixed_ite, ite_self, fixed_foldl, fst_ite, snd_ite, after_next, after_ite, implies_true, fixed_elim]

@[simp] theorem writeStore_fixed (off : Nat) (v : Word) (s : State) : (writeStore off v s).1.fixed = s.fixed := by
  simp only [writeStore, fixed_mk, fixed_ite, ite_self, fixed_foldl, fst_ite, snd_ite, after_next, after_ite, implies_true, fixed_elim, modStore_fixed]

@[simp] theorem readClears_fixed (a : Nat) (s : State) : (readClears a s).fixed = s.fixed := by
  simp only [readClears, fixed_mk, fixed_ite, ite_self, fixed_foldl, fst_ite, snd_ite, after_next, after_ite, implies_true, fixed_elim, readsCan_fixed]

set_option maxRecDepth 4000 in
@[simp] theorem writeReg_fixed (authed judged : Bool) (a : Nat) (v : Word) (s : State) : (writeReg authed judged a v s).1.fixed = s.fixed := by
  simp only [writeReg, fixed_mk, fixed_ite, ite_self, fixed_foldl, fst_ite, snd_ite, after_next, after_ite, implies_true, fixed_elim, writeCan_fixed, writeCell_fixed, writeClkpwr_fixed, writeFault_fixed, writeFio_fixed, writeHost_fixed, writeLight_fixed, writeLoom_fixed, writeNmgw_fixed, writeProt_fixed, writeRange_fixed, writeSpindle_fixed, writeStore_fixed, writeWeft_fixed]
  repeat' split
  all_goals (first | (with_reducible rfl) | simp only [fixed_mk, fixed_ite, ite_self, fixed_foldl, fst_ite, snd_ite, after_next, after_ite, implies_true, fixed_elim, writeCan_fixed, writeCell_fixed, writeClkpwr_fixed, writeFault_fixed, writeFio_fixed, writeHost_fixed, writeLight_fixed, writeLoom_fixed, writeNmgw_fixed, writeProt_fixed, writeRange_fixed, writeSpindle_fixed, writeStore_fixed, writeWeft_fixed])

@[simp] theorem execReadReg_fixed (r : Req) (s : State) : (after (execReadReg r s) s).fixed = s.fixed := by
  simp only [execReadReg, fixed_mk, fixed_ite, ite_self, fixed_foldl, fst_ite, snd_ite, after_next, after_ite, implies_true, fixed_elim, command_fixed, readClears_fixed, infoReadReg]

@[simp] theorem execWriteReg_fixed (r : Req) (s : State) : (after (execWriteReg r s) s).fixed = s.fixed := by
  simp only [execWriteReg, fixed_mk, fixed_ite, ite_self, fixed_foldl, fst_ite, snd_ite, after_next, after_ite, implies_true, fixed_elim, command_fixed, writeReg_fixed, infoWriteReg]

@[simp] theorem modifyReg_fixed (authed : Bool) (a : Nat) (mask value : Word) (s : State) : (modifyReg authed a mask value s).1.fixed = s.fixed := by
  simp only [modifyReg, fixed_mk, fixed_ite, ite_self, fixed_foldl, fst_ite, snd_ite, after_next, after_ite, implies_true, fixed_elim, readClears_fixed, writeReg_fixed]

@[simp] theorem execModifyReg_fixed (r : Req) (s : State) : (after (execModifyReg r s) s).fixed = s.fixed := by
  simp only [execModifyReg, fixed_mk, fixed_ite, ite_self, fixed_foldl, fst_ite, snd_ite, after_next, after_ite, implies_true, fixed_elim, command_fixed, modifyReg_fixed, infoModifyReg]

theorem readBlock_fixed (n a : Nat) (s : State) : (readBlock n a s).2.fixed = s.fixed := by
  induction n generalizing a s with
  | zero => rfl
  | succ n ih => simp only [readBlock, ih, readClears_fixed]
set_option maxRecDepth 4000 in
@[simp] theorem execReadBlock_fixed (r : Req) (s : State) : (after (execReadBlock r s) s).fixed = s.fixed := by
  simp only [execReadBlock, after_next]
  apply command_fixed
  · intro e s
    simp only [infoReadBlock]
    split
    · rfl
    · exact readBlock_fixed _ _ s
  · intro e s
    rfl

@[simp] theorem writeRun_fixed (c a : Nat) (ws : List Word) (s : State) : (writeRun c a ws s).1.fixed = s.fixed := by
  simp only [writeRun, fixed_mk, fixed_ite, ite_self, fixed_foldl, fst_ite, snd_ite, after_next, after_ite, implies_true, fixed_elim, asFio_fixed, fioCfg_fixed, whorlLoad_fixed, writeRoutes_fixed]

theorem writeWords_fixed (n : Nat) (authed judged : Bool) (a : Nat) (ws : List Word) (x : BlockAcc) (s : State) : (writeWords n authed judged a ws x s).1.fixed = s.fixed := by
  induction n generalizing a ws x s with
  | zero => rfl
  | succ n ih =>
    simp only [writeWords]
    split
    · rfl
    · split
      · simp only [ih, writeReg_fixed]
      · simp only [ih, writeRun_fixed]
set_option maxRecDepth 4000 in
@[simp] theorem writeBlock_fixed (authed : Bool) (a : Nat) (ws : List Word) (s : State) : (writeBlock authed a ws s).1.fixed = s.fixed := by
  unfold writeBlock
  split
  · rfl
  · split
    · rfl
    · dsimp only
      split <;> exact writeWords_fixed _ _ _ _ _ _ _

@[simp] theorem execWriteBlock_fixed (r : Req) (s : State) : (after (execWriteBlock r s) s).fixed = s.fixed := by
  simp only [execWriteBlock, fixed_mk, fixed_ite, ite_self, fixed_foldl, fst_ite, snd_ite, after_next, after_ite, implies_true, fixed_elim, command_fixed, writeBlock_fixed, infoWriteBlock]

@[simp] theorem updateEvent_fixed (reason code : Nat) (s : State) : (updateEvent reason code s).fixed = s.fixed := by
  simp only [updateEvent, fixed_mk, fixed_ite, ite_self, fixed_foldl, fst_ite, snd_ite, after_next, after_ite, implies_true, fixed_elim, postEvent_fixed]

@[simp] theorem pushEdit_fixed (e : CfgEdit) (s : State) : (pushEdit e s).fixed = s.fixed := by
  simp only [pushEdit, fixed_mk, fixed_ite, ite_self, fixed_foldl, fst_ite, snd_ite, after_next, after_ite, implies_true, fixed_elim, modStore_fixed]

@[simp] theorem cfgWriteStart_fixed (s : State) : (cfgWriteStart s).fixed = s.fixed := by
  simp only [cfgWriteStart, fixed_mk, fixed_ite, ite_self, fixed_foldl, fst_ite, snd_ite, after_next, after_ite, implies_true, fixed_elim, modStore_fixed]

@[simp] theorem writeOver_fixed (n : Nat) (ok : Bool) (s : State) : (writeOver n ok s).fixed = s.fixed := by
  simp only [writeOver, fixed_mk, fixed_ite, ite_self, fixed_foldl, fst_ite, snd_ite, after_next, after_ite, implies_true, fixed_elim, completeAll_fixed, modStore_fixed]

@[simp] theorem releaseWrites_fixed (s : State) : (releaseWrites s).fixed = s.fixed := by
  simp only [releaseWrites, fixed_mk, fixed_ite, ite_self, fixed_foldl, fst_ite, snd_ite, after_next, after_ite, implies_true, fixed_elim, modStore_fixed, writeOver_fixed]

@[simp] theorem cfgWriteDone_fixed (edits : List CfgEdit) (s : State) : (cfgWriteDone edits s).fixed = s.fixed := by
  simp only [cfgWriteDone, fixed_mk, fixed_ite, ite_self, fixed_foldl, fst_ite, snd_ite, after_next, after_ite, implies_true, fixed_elim, bump_fixed, modStore_fixed, writeOver_fixed]

@[simp] theorem cfgWriteFailed_fixed (s : State) : (cfgWriteFailed s).fixed = s.fixed := by
  simp only [cfgWriteFailed, fixed_mk, fixed_ite, ite_self, fixed_foldl, fst_ite, snd_ite, after_next, after_ite, implies_true, fixed_elim, modStore_fixed, reportL_fixed, updateEvent_fixed, writeOver_fixed]

set_option maxRecDepth 4000 in
@[simp] theorem cfgWrite_fixed (o : Nat) (ws : List Word) (s : State) : (cfgWrite o ws s).1.fixed = s.fixed := by
  simp only [cfgWrite, fixed_mk, fixed_ite, ite_self, fixed_foldl, fst_ite, snd_ite, after_next, after_ite, implies_true, fixed_elim, modStore_fixed, pushEdit_fixed]
  repeat' split
  all_goals (first | (with_reducible rfl) | simp only [fixed_mk, fixed_ite, ite_self, fixed_foldl, fst_ite, snd_ite, after_next, after_ite, implies_true, fixed_elim, modStore_fixed, pushEdit_fixed])

@[simp] theorem execCfgWriteMerge_fixed (r : Req) (s : State) : (after (execCfgWriteMerge r s) s).fixed = s.fixed := by
  simp only [execCfgWriteMerge, fixed_mk, fixed_ite, ite_self, fixed_foldl, fst_ite, snd_ite, after_next, after_ite, implies_true, fixed_elim, cfgWrite_fixed, command_fixed, infoCfgWrite]

@[simp] theorem execCfgWriteStageNew_fixed (r : Req) (s : State) : (after (execCfgWriteStageNew r s) s).fixed = s.fixed := by
  simp only [execCfgWriteStageNew, fixed_mk, fixed_ite, ite_self, fixed_foldl, fst_ite, snd_ite, after_next, after_ite, implies_true, fixed_elim, cfgWrite_fixed, command_fixed, infoCfgWrite]

@[simp] theorem execCfgWriteStageAdd_fixed (r : Req) (s : State) : (after (execCfgWriteStageAdd r s) s).fixed = s.fixed := by
  simp only [execCfgWriteStageAdd, fixed_mk, fixed_ite, ite_self, fixed_foldl, fst_ite, snd_ite, after_next, after_ite, implies_true, fixed_elim, cfgWrite_fixed, command_fixed, infoCfgWrite]

@[simp] theorem execCfgWriteReplace_fixed (r : Req) (s : State) : (after (execCfgWriteReplace r s) s).fixed = s.fixed := by
  simp only [execCfgWriteReplace, fixed_mk, fixed_ite, ite_self, fixed_foldl, fst_ite, snd_ite, after_next, after_ite, implies_true, fixed_elim, cfgWrite_fixed, command_fixed, infoCfgWrite]

@[simp] theorem execCfgWriteLive_fixed (r : Req) (s : State) : (after (execCfgWriteLive r s) s).fixed = s.fixed := by
  simp only [execCfgWriteLive, fixed_mk, fixed_ite, ite_self, fixed_foldl, fst_ite, snd_ite, after_next, after_ite, implies_true, fixed_elim, cfgWrite_fixed, command_fixed, infoCfgWrite]

@[simp] theorem execCfgRead_fixed (r : Req) (s : State) : (after (execCfgRead r s) s).fixed = s.fixed := by
  simp only [execCfgRead, fixed_mk, fixed_ite, ite_self, fixed_foldl, fst_ite, snd_ite, after_next, after_ite, implies_true, fixed_elim, command_fixed, infoCfgRead]

@[simp] theorem gatherDevice_fixed (s : State) : (gatherDevice s).fixed = s.fixed := by
  simp only [gatherDevice, fixed_mk, fixed_ite, ite_self, fixed_foldl, fst_ite, snd_ite, after_next, after_ite, implies_true, fixed_elim, modSkL_fixed, modStore_fixed]

@[simp] theorem settleDevice_fixed (s : State) : (settleDevice s).fixed = s.fixed := by
  simp only [settleDevice, fixed_mk, fixed_ite, ite_self, fixed_foldl, fst_ite, snd_ite, after_next, after_ite, implies_true, fixed_elim, modStore_fixed]

@[simp] theorem saveCounters_fixed (s : State) : (saveCounters s).fixed = s.fixed := by
  simp only [saveCounters, fixed_mk, fixed_ite, ite_self, fixed_foldl, fst_ite, snd_ite, after_next, after_ite, implies_true, fixed_elim, modCan_fixed, modRange_fixed]

@[simp] theorem restoreReg_fixed (a : Nat) (v : Word) (s : State) : (restoreReg a v s).fixed = s.fixed := by
  simp only [restoreReg, fixed_mk, fixed_ite, ite_self, fixed_foldl, fst_ite, snd_ite, after_next, after_ite, implies_true, fixed_elim, writeReg_fixed]

@[simp] theorem restoreRegs_fixed (r : CfgRec) (s : State) : (restoreRegs r s).fixed = s.fixed := by
  simp only [restoreRegs, fixed_mk, fixed_ite, ite_self, fixed_foldl, fst_ite, snd_ite, after_next, after_ite, implies_true, fixed_elim, restoreReg_fixed]

@[simp] theorem restoreChan_fixed (c : Nat) (d : List Word) (s : State) : (restoreChan c d s).fixed = s.fixed := by
  simp only [restoreChan, fixed_mk, fixed_ite, ite_self, fixed_foldl, fst_ite, snd_ite, after_next, after_ite, implies_true, fixed_elim, modNm_fixed, restoreReg_fixed, resumeNm_fixed]

@[simp] theorem restoreCan_fixed (k : Nat) (d : List Word) (s : State) : (restoreCan k d s).fixed = s.fixed := by
  simp only [restoreCan, fixed_mk, fixed_ite, ite_self, fixed_foldl, fst_ite, snd_ite, after_next, after_ite, implies_true, fixed_elim, modCtl_fixed, startCtl_fixed]

@[simp] theorem restoreAuth_fixed (a : Nat) (d : List Word) (s : State) : (restoreAuth a d s).fixed = s.fixed := by
  simp only [restoreAuth, fixed_mk, fixed_ite, ite_self, fixed_foldl, fst_ite, snd_ite, after_next, after_ite, implies_true, fixed_elim, modAuth_fixed]

@[simp] theorem restoreLock_fixed (cold : Bool) (d : List Word) (s : State) : (restoreLock cold d s).fixed = s.fixed := by
  simp only [restoreLock, fixed_mk, fixed_ite, ite_self, fixed_foldl, fst_ite, snd_ite, after_next, after_ite, implies_true, fixed_elim, modRange_fixed]

@[simp] theorem restorePrint_fixed (k : Nat) (d : List Word) (s : State) : (restorePrint k d s).fixed = s.fixed := by
  simp only [restorePrint, fixed_mk, fixed_ite, ite_self, fixed_foldl, fst_ite, snd_ite, after_next, after_ite, implies_true, fixed_elim, modSkL_fixed]

@[simp] theorem restoreClk_fixed (d : List Word) (s : State) : (restoreClk d s).fixed = s.fixed := by
  simp only [restoreClk, fixed_mk, fixed_ite, ite_self, fixed_foldl, fst_ite, snd_ite, after_next, after_ite, implies_true, fixed_elim, restoreReg_fixed]

set_option maxRecDepth 4000 in
@[simp] theorem restoreRec_fixed (cold : Bool) (r : CfgRec) (s : State) : (restoreRec cold r s).fixed = s.fixed := by
  simp only [restoreRec, fixed_mk, fixed_ite, ite_self, fixed_foldl, fst_ite, snd_ite, after_next, after_ite, implies_true, fixed_elim, chainCfg_fixed, ntCfg_fixed, profileSet_fixed, putZoneCfg_fixed, restoreAuth_fixed, restoreCan_fixed, restoreChan_fixed, restoreClk_fixed, restoreLock_fixed, restorePrint_fixed, restoreReg_fixed, restoreRegs_fixed, setReaction_fixed, skeinDefine_fixed, writeRoutes_fixed]
  repeat' split
  all_goals (first | (with_reducible rfl) | simp only [fixed_mk, fixed_ite, ite_self, fixed_foldl, fst_ite, snd_ite, after_next, after_ite, implies_true, fixed_elim, chainCfg_fixed, ntCfg_fixed, profileSet_fixed, putZoneCfg_fixed, restoreAuth_fixed, restoreCan_fixed, restoreChan_fixed, restoreClk_fixed, restoreLock_fixed, restorePrint_fixed, restoreReg_fixed, restoreRegs_fixed, setReaction_fixed, skeinDefine_fixed, writeRoutes_fixed])

@[simp] theorem restoreClasses_fixed (cold : Bool) (classes : List Nat) (s : State) : (restoreClasses cold classes s).fixed = s.fixed := by
  simp only [restoreClasses, fixed_mk, fixed_ite, ite_self, fixed_foldl, fst_ite, snd_ite, after_next, after_ite, implies_true, fixed_elim, restoreRec_fixed]

@[simp] theorem restoreLater_fixed (s : State) : (restoreLater s).fixed = s.fixed := by
  simp only [restoreLater, fixed_mk, fixed_ite, ite_self, fixed_foldl, fst_ite, snd_ite, after_next, after_ite, implies_true, fixed_elim, modStore_fixed, restoreRec_fixed, settleDevice_fixed]

@[simp] theorem restoreAdopted_fixed (s : State) : (restoreAdopted s).fixed = s.fixed := by
  simp only [restoreAdopted, fixed_mk, fixed_ite, ite_self, fixed_foldl, fst_ite, snd_ite, after_next, after_ite, implies_true, fixed_elim, modStore_fixed, restoreClasses_fixed, restoreLater_fixed]

@[simp] theorem modUpd_fixed (f : UpdSt → UpdSt) (s : State) : (modUpd f s).fixed = s.fixed := by
  simp only [modUpd, fixed_mk, fixed_ite, ite_self, fixed_foldl, fst_ite, snd_ite, after_next, after_ite, implies_true, fixed_elim, modStore_fixed]

@[simp] theorem modFw_fixed (b : Bool) (f : FwBank → FwBank) (s : State) : (modFw b f s).fixed = s.fixed := by
  simp only [modFw, fixed_mk, fixed_ite, ite_self, fixed_foldl, fst_ite, snd_ite, after_next, after_ite, implies_true, fixed_elim, modStore_fixed]

@[simp] theorem endUpdate_fixed (code : Nat) (s : State) : (endUpdate code s).fixed = s.fixed := by
  simp only [endUpdate, fixed_mk, fixed_ite, ite_self, fixed_foldl, fst_ite, snd_ite, after_next, after_ite, implies_true, fixed_elim, completeAll_fixed, modFw_fixed, modUpd_fixed, updateEvent_fixed]

@[simp] theorem checkHolder_fixed (s : State) : (checkHolder s).fixed = s.fixed := by
  simp only [checkHolder, fixed_mk, fixed_ite, ite_self, fixed_foldl, fst_ite, snd_ite, after_next, after_ite, implies_true, fixed_elim, endUpdate_fixed]

@[simp] theorem touchUpdate_fixed (e : Entry) (s : State) : (touchUpdate e s).fixed = s.fixed := by
  simp only [touchUpdate, fixed_mk, fixed_ite, ite_self, fixed_foldl, fst_ite, snd_ite, after_next, after_ite, implies_true, fixed_elim, modUpd_fixed]

@[simp] theorem updateBegin_fixed (r : Req) (s : State) : (updateBegin r s).1.fixed = s.fixed := by
  simp only [updateBegin, fixed_mk, fixed_ite, ite_self, fixed_foldl, fst_ite, snd_ite, after_next, after_ite, implies_true, fixed_elim, bump_fixed, checkHolder_fixed, modFw_fixed, modUpd_fixed]

@[simp] theorem execUpdateBegin_fixed (r : Req) (s : State) : (after (execUpdateBegin r s) s).fixed = s.fixed := by
  simp only [execUpdateBegin, fixed_mk, fixed_ite, ite_self, fixed_foldl, fst_ite, snd_ite, after_next, after_ite, implies_true, fixed_elim, command_fixed, touchUpdate_fixed, updateBegin_fixed, infoUpdateBegin]

@[simp] theorem refuseBlock_fixed (st : Status) (s : State) : (refuseBlock st s).1.fixed = s.fixed := by
  simp only [refuseBlock, fixed_mk, fixed_ite, ite_self, fixed_foldl, fst_ite, snd_ite, after_next, after_ite, implies_true, fixed_elim, bump_fixed]

set_option maxRecDepth 4000 in
@[simp] theorem writeImageBlock_fixed (r : Req) (s : State) : (writeImageBlock r s).1.fixed = s.fixed := by
  unfold writeImageBlock
  repeat' (first | (with_reducible rfl) | (simp only [fixed_mk, fixed_ite, ite_self, fixed_foldl, fst_ite, snd_ite, after_next, after_ite, implies_true, fixed_elim, bump_fixed, modFw_fixed, modUpd_fixed, refuseBlock_fixed]; done) | split | simp only [fixed_mk, fixed_ite, ite_self, fixed_foldl, fst_ite, snd_ite, after_next, after_ite, implies_true, fixed_elim, bump_fixed, modFw_fixed, modUpd_fixed, refuseBlock_fixed])

set_option maxRecDepth 4000 in
@[simp] theorem updateBlock_fixed (r : Req) (s : State) : (updateBlock r s).1.fixed = s.fixed := by
  unfold updateBlock
  repeat' (first | (with_reducible rfl) | (simp only [fixed_mk, fixed_ite, ite_self, fixed_foldl, fst_ite, snd_ite, after_next, after_ite, implies_true, fixed_elim, checkHolder_fixed, refuseBlock_fixed, writeImageBlock_fixed]; done) | split | simp only [fixed_mk, fixed_ite, ite_self, fixed_foldl, fst_ite, snd_ite, after_next, after_ite, implies_true, fixed_elim, checkHolder_fixed, refuseBlock_fixed, writeImageBlock_fixed])

@[simp] theorem execUpdateBlock_fixed (r : Req) (s : State) : (after (execUpdateBlock r s) s).fixed = s.fixed := by
  simp only [execUpdateBlock, fixed_mk, fixed_ite, ite_self, fixed_foldl, fst_ite, snd_ite, after_next, after_ite, implies_true, fixed_elim, command_fixed, touchUpdate_fixed, updateBlock_fixed, infoUpdateBlock]

@[simp] theorem banksIdle_fixed (s : State) : (banksIdle s).fixed = s.fixed := by
  simp only [banksIdle, fixed_mk, fixed_ite, ite_self, fixed_foldl, fst_ite, snd_ite, after_next, after_ite, implies_true, fixed_elim, checkHolder_fixed, complete_fixed, settle_fixed, writeImageBlock_fixed]

set_option maxRecDepth 4000 in
@[simp] theorem execCfgBankVerified_fixed (t : Nat) (ok : Bool) (s : State) : (after (execCfgBankVerified t ok s) s).fixed = s.fixed := by
  unfold execCfgBankVerified
  repeat' (first | (with_reducible rfl) | (simp only [fixed_mk, fixed_ite, ite_self, fixed_foldl, fst_ite, snd_ite, after_next, after_ite, implies_true, fixed_elim, banksIdle_fixed, bump_fixed, cfgWriteDone_fixed, cfgWriteFailed_fixed, modStore_fixed, toL_fixed]; done) | split | simp only [fixed_mk, fixed_ite, ite_self, fixed_foldl, fst_ite, snd_ite, after_next, after_ite, implies_true, fixed_elim, banksIdle_fixed, bump_fixed, cfgWriteDone_fixed, cfgWriteFailed_fixed, modStore_fixed, toL_fixed])

@[simp] theorem execKeyBankVerified_fixed (t : Nat) (ok : Bool) (s : State) : (after (execKeyBankVerified t ok s) s).fixed = s.fixed := by
  simp only [execKeyBankVerified, fixed_mk, fixed_ite, ite_self, fixed_foldl, fst_ite, snd_ite, after_next, after_ite, implies_true, fixed_elim, banksIdle_fixed, keyBankVerified_fixed]

set_option maxRecDepth 4000 in
@[simp] theorem updateVerify_fixed (r : Req) (s : State) : (updateVerify r s).1.fixed = s.fixed := by
  simp only [updateVerify, fixed_mk, fixed_ite, ite_self, fixed_foldl, fst_ite, snd_ite, after_next, after_ite, implies_true, fixed_elim, checkHolder_fixed, modUpd_fixed]
  repeat' split
  all_goals (first | (with_reducible rfl) | simp only [fixed_mk, fixed_ite, ite_self, fixed_foldl, fst_ite, snd_ite, after_next, after_ite, implies_true, fixed_elim, checkHolder_fixed, modUpd_fixed])

@[simp] theorem execUpdateVerify_fixed (r : Req) (s : State) : (after (execUpdateVerify r s) s).fixed = s.fixed := by
  simp only [execUpdateVerify, fixed_mk, fixed_ite, ite_self, fixed_foldl, fst_ite, snd_ite, after_next, after_ite, implies_true, fixed_elim, command_fixed, touchUpdate_fixed, updateVerify_fixed, infoUpdateVerify]

set_option maxRecDepth 4000 in
@[simp] theorem verifyDone_fixed (bad : Option Nat) (s : State) : (verifyDone bad s).fixed = s.fixed := by
  simp only [verifyDone, fixed_mk, fixed_ite, ite_self, fixed_foldl, fst_ite, snd_ite, after_next, after_ite, implies_true, fixed_elim, bump_fixed, completeAll_fixed, modFw_fixed, modUpd_fixed, updateEvent_fixed]
  repeat' split
  all_goals (first | (with_reducible rfl) | simp only [fixed_mk, fixed_ite, ite_self, fixed_foldl, fst_ite, snd_ite, after_next, after_ite, implies_true, fixed_elim, bump_fixed, completeAll_fixed, modFw_fixed, modUpd_fixed, updateEvent_fixed])

@[simp] theorem updateCommit_fixed (r : Req) (s : State) : (updateCommit r s).1.fixed = s.fixed := by
  simp only [updateCommit, fixed_mk, fixed_ite, ite_self, fixed_foldl, fst_ite, snd_ite, after_next, after_ite, implies_true, fixed_elim, checkHolder_fixed, modUpd_fixed]

@[simp] theorem execUpdateCommit_fixed (r : Req) (s : State) : (after (execUpdateCommit r s) s).fixed = s.fixed := by
  simp only [execUpdateCommit, fixed_mk, fixed_ite, ite_self, fixed_foldl, fst_ite, snd_ite, after_next, after_ite, implies_true, fixed_elim, command_fixed, touchUpdate_fixed, updateCommit_fixed, infoUpdateCommit]

@[simp] theorem execRecoveryUpdateCommit_fixed (r : Req) (s : State) : (after (execRecoveryUpdateCommit r s) s).fixed = s.fixed := by
  simp only [execRecoveryUpdateCommit, fixed_mk, fixed_ite, ite_self, fixed_foldl, fst_ite, snd_ite, after_next, after_ite, implies_true, fixed_elim, command_fixed, touchUpdate_fixed, updateCommit_fixed, infoUpdateCommit]

@[simp] theorem restartWarm_fixed (s : State) : (restartWarm s).fixed = s.fixed := by
  simp only [restartWarm, fixed_mk, fixed_ite, ite_self, fixed_foldl, fst_ite, snd_ite, after_next, after_ite, implies_true, fixed_elim, alvLow_fixed, modFaults_fixed]

@[simp] theorem revert_fixed (code : Nat) (s : State) : (revert code s).fixed = s.fixed := by
  simp only [revert, fixed_mk, fixed_ite, ite_self, fixed_foldl, fst_ite, snd_ite, after_next, after_ite, implies_true, fixed_elim, modUpd_fixed, restartWarm_fixed]

@[simp] theorem bootTrialDone_fixed (s : State) : (bootTrialDone s).fixed = s.fixed := by
  simp only [bootTrialDone, fixed_mk, fixed_ite, ite_self, fixed_foldl, fst_ite, snd_ite, after_next, after_ite, implies_true, fixed_elim, completeAll_fixed, modStore_fixed, modUpd_fixed, restartWarm_fixed]

@[simp] theorem raiseCounter_fixed (arb : Nat) (s : State) : (raiseCounter arb s).fixed = s.fixed := by
  simp only [raiseCounter, fixed_mk, fixed_ite, ite_self, fixed_foldl, fst_ite, snd_ite, after_next, after_ite, implies_true, fixed_elim]

@[simp] theorem confirmDone_fixed (code : Nat) (st : Status) (s : State) : (confirmDone code st s).fixed = s.fixed := by
  simp only [confirmDone, fixed_mk, fixed_ite, ite_self, fixed_foldl, fst_ite, snd_ite, after_next, after_ite, implies_true, fixed_elim, completeAll_fixed, modUpd_fixed, updateEvent_fixed]

@[simp] theorem bootConfirmDone_fixed (s : State) : (bootConfirmDone s).fixed = s.fixed := by
  simp only [bootConfirmDone, fixed_mk, fixed_ite, ite_self, fixed_foldl, fst_ite, snd_ite, after_next, after_ite, implies_true, fixed_elim, confirmDone_fixed, modStore_fixed, modUpd_fixed, raiseCounter_fixed]

set_option maxRecDepth 4000 in
@[simp] theorem updFailed_fixed (op : UpdOp) (s : State) : (updFailed op s).fixed = s.fixed := by
  simp only [updFailed, fixed_mk, fixed_ite, ite_self, fixed_foldl, fst_ite, snd_ite, after_next, after_ite, implies_true, fixed_elim, completeAll_fixed, modUpd_fixed]
  repeat' split
  all_goals (first | (with_reducible rfl) | simp only [fixed_mk, fixed_ite, ite_self, fixed_foldl, fst_ite, snd_ite, after_next, after_ite, implies_true, fixed_elim, completeAll_fixed, modUpd_fixed])

set_option maxRecDepth 4000 in
@[simp] theorem execUpdateWriteVerified_fixed (t : Nat) (ok : Bool) (bad : Option Nat) (s : State) : (after (execUpdateWriteVerified t ok bad s) s).fixed = s.fixed := by
  simp only [execUpdateWriteVerified, fixed_mk, fixed_ite, ite_self, fixed_foldl, fst_ite, snd_ite, after_next, after_ite, implies_true, fixed_elim, bootConfirmDone_fixed, bootTrialDone_fixed, modStore_fixed, modUpd_fixed, toL_fixed, updFailed_fixed, verifyDone_fixed]
  repeat' split
  all_goals (first | (with_reducible rfl) | simp only [fixed_mk, fixed_ite, ite_self, fixed_foldl, fst_ite, snd_ite, after_next, after_ite, implies_true, fixed_elim, bootConfirmDone_fixed, bootTrialDone_fixed, modStore_fixed, modUpd_fixed, toL_fixed, updFailed_fixed, verifyDone_fixed])

@[simp] theorem handoverStart_fixed (s : State) : (handoverStart s).fixed = s.fixed := by
  simp only [handoverStart, fixed_mk, fixed_ite, ite_self, fixed_foldl, fst_ite, snd_ite, after_next, after_ite, implies_true, fixed_elim, modUpd_fixed]

set_option maxRecDepth 4000 in
@[simp] theorem execHandover_fixed (t : Nat) (s : State) : (after (execHandover t s) s).fixed = s.fixed := by
  unfold execHandover
  repeat' (first | (with_reducible rfl) | (simp only [fixed_mk, fixed_ite, ite_self, fixed_foldl, fst_ite, snd_ite, after_next, after_ite, implies_true, fixed_elim, bump_fixed, completeAll_fixed, modStore_fixed, modUpd_fixed, pushEdit_fixed, releaseWrites_fixed, toL_fixed, updateEvent_fixed]; done) | split | simp only [fixed_mk, fixed_ite, ite_self, fixed_foldl, fst_ite, snd_ite, after_next, after_ite, implies_true, fixed_elim, bump_fixed, completeAll_fixed, modStore_fixed, modUpd_fixed, pushEdit_fixed, releaseWrites_fixed, toL_fixed, updateEvent_fixed])

@[simp] theorem execHandoverFailure_fixed (t : Nat) (s : State) : (after (execHandoverFailure t s) s).fixed = s.fixed := by
  simp only [execHandoverFailure, fixed_mk, fixed_ite, ite_self, fixed_foldl, fst_ite, snd_ite, after_next, after_ite, implies_true, fixed_elim, revert_fixed, toL_fixed]

set_option maxRecDepth 4000 in
@[simp] theorem updateAbort_fixed (r : Req) (s : State) : (updateAbort r s).1.fixed = s.fixed := by
  unfold updateAbort
  repeat' (first | (with_reducible rfl) | (simp only [fixed_mk, fixed_ite, ite_self, fixed_foldl, fst_ite, snd_ite, after_next, after_ite, implies_true, fixed_elim, checkHolder_fixed, endUpdate_fixed, revert_fixed]; done) | split | simp only [fixed_mk, fixed_ite, ite_self, fixed_foldl, fst_ite, snd_ite, after_next, after_ite, implies_true, fixed_elim, checkHolder_fixed, endUpdate_fixed, revert_fixed])

@[simp] theorem execUpdateAbort_fixed (r : Req) (s : State) : (after (execUpdateAbort r s) s).fixed = s.fixed := by
  simp only [execUpdateAbort, fixed_mk, fixed_ite, ite_self, fixed_foldl, fst_ite, snd_ite, after_next, after_ite, implies_true, fixed_elim, command_fixed, touchUpdate_fixed, updateAbort_fixed, infoUpdateAbort]

@[simp] theorem updateConfirm_fixed (s : State) : (updateConfirm s).1.fixed = s.fixed := by
  simp only [updateConfirm, fixed_mk, fixed_ite, ite_self, fixed_foldl, fst_ite, snd_ite, after_next, after_ite, implies_true, fixed_elim, modUpd_fixed]

@[simp] theorem execUpdateConfirm_fixed (r : Req) (s : State) : (after (execUpdateConfirm r s) s).fixed = s.fixed := by
  simp only [execUpdateConfirm, fixed_mk, fixed_ite, ite_self, fixed_foldl, fst_ite, snd_ite, after_next, after_ite, implies_true, fixed_elim, command_fixed, touchUpdate_fixed, updateConfirm_fixed, infoUpdateConfirm]

@[simp] theorem execUpdateInactivity_fixed (s : State) : (after (execUpdateInactivity s) s).fixed = s.fixed := by
  simp only [execUpdateInactivity, fixed_mk, fixed_ite, ite_self, fixed_foldl, fst_ite, snd_ite, after_next, after_ite, implies_true, fixed_elim, endUpdate_fixed, toL_fixed]

@[simp] theorem execTrialExpiry_fixed (s : State) : (after (execTrialExpiry s) s).fixed = s.fixed := by
  simp only [execTrialExpiry, fixed_mk, fixed_ite, ite_self, fixed_foldl, fst_ite, snd_ite, after_next, after_ite, implies_true, fixed_elim, revert_fixed, toL_fixed]

@[simp] theorem counterRaised_fixed (n : Nat) (ok : Bool) (s : State) : (counterRaised n ok s).fixed = s.fixed := by
  simp only [counterRaised, fixed_mk, fixed_ite, ite_self, fixed_foldl, fst_ite, snd_ite, after_next, after_ite, implies_true, fixed_elim, confirmDone_fixed, reportL_fixed]

set_option maxRecDepth 4000 in
@[simp] theorem execOtpProgramDone_fixed (t : Nat) (ok : Bool) (s : State) : (after (execOtpProgramDone t ok s) s).fixed = s.fixed := by
  simp only [execOtpProgramDone, fixed_mk, fixed_ite, ite_self, fixed_foldl, fst_ite, snd_ite, after_next, after_ite, implies_true, fixed_elim, counterRaised_fixed, rootRetired_fixed, toL_fixed]
  repeat' split
  all_goals (first | (with_reducible rfl) | simp only [fixed_mk, fixed_ite, ite_self, fixed_foldl, fst_ite, snd_ite, after_next, after_ite, implies_true, fixed_elim, counterRaised_fixed, rootRetired_fixed, toL_fixed])

@[simp] theorem holdEvent_fixed (opc : Nat) (ws : List Word) (s : State) : (holdEvent opc ws s).fixed = s.fixed := by
  simp only [holdEvent, fixed_mk, fixed_ite, ite_self, fixed_foldl, fst_ite, snd_ite, after_next, after_ite, implies_true, fixed_elim, modSlot_fixed]

@[simp] theorem revertNow_fixed (code : Nat) (s : State) : (revertNow code s).fixed = s.fixed := by
  simp only [revertNow, fixed_mk, fixed_ite, ite_self, fixed_foldl, fst_ite, snd_ite, after_next, after_ite, implies_true, fixed_elim, bump_fixed, modStore_fixed]

@[simp] theorem resetStore_fixed (s : State) : (resetStore s).fixed = s.fixed := by
  simp only [resetStore, fixed_mk, fixed_ite, ite_self, fixed_foldl, fst_ite, snd_ite, after_next, after_ite, implies_true, fixed_elim, modFw_fixed, modStore_fixed, revertNow_fixed]

@[simp] theorem resetHost_fixed (k : LReset) (s : State) : (resetHost k s).fixed = s.fixed := by
  simp only [resetHost, fixed_mk, fixed_ite, ite_self, fixed_foldl, fst_ite, snd_ite, after_next, after_ite, implies_true, fixed_elim]

@[simp] theorem resetFaults_fixed (k : LReset) (s : State) : (resetFaults k s).fixed = s.fixed := by
  simp only [resetFaults, fixed_mk, fixed_ite, ite_self, fixed_foldl, fst_ite, snd_ite, after_next, after_ite, implies_true, fixed_elim]

@[simp] theorem resetKeys_fixed (s : State) : (resetKeys s).fixed = s.fixed := by
  simp only [resetKeys, fixed_mk, fixed_ite, ite_self, fixed_foldl, fst_ite, snd_ite, after_next, after_ite, implies_true, fixed_elim]

@[simp] theorem resetRange_fixed (k : LReset) (s : State) : (resetRange k s).fixed = s.fixed := by
  simp only [resetRange, fixed_mk, fixed_ite, ite_self, fixed_foldl, fst_ite, snd_ite, after_next, after_ite, implies_true, fixed_elim]

@[simp] theorem resetClk_fixed (k : LReset) (s : State) : (resetClk k s).fixed = s.fixed := by
  simp only [resetClk, fixed_mk, fixed_ite, ite_self, fixed_foldl, fst_ite, snd_ite, after_next, after_ite, implies_true, fixed_elim]

@[simp] theorem countRestart_fixed (k : LReset) (s : State) : (countRestart k s).fixed = s.fixed := by
  simp only [countRestart, fixed_mk, fixed_ite, ite_self, fixed_foldl, fst_ite, snd_ite, after_next, after_ite, implies_true, fixed_elim, bump_fixed]

@[simp] theorem resetCounters_fixed (k : LReset) (s : State) : (resetCounters k s).fixed = s.fixed := by
  simp only [resetCounters, fixed_mk, fixed_ite, ite_self, fixed_foldl, fst_ite, snd_ite, after_next, after_ite, implies_true, fixed_elim, countRestart_fixed]

@[simp] theorem lDieReset_fixed (k : LReset) (s : State) : (lDieReset k s).fixed = s.fixed := by
  simp only [lDieReset, fixed_mk, fixed_ite, ite_self, fixed_foldl, fst_ite, snd_ite, after_next, after_ite, implies_true, fixed_elim, resetClk_fixed, resetCounters_fixed, resetFaults_fixed, resetHost_fixed, resetKeys_fixed, resetRange_fixed, resetStore_fixed]

@[simp] theorem pwrStateReq_fixed (e : Entry) (s : State) : (pwrStateReq e s).1.fixed = s.fixed := by
  simp only [pwrStateReq, fixed_mk, fixed_ite, ite_self, fixed_foldl, fst_ite, snd_ite, after_next, after_ite, implies_true, fixed_elim, modClk_fixed, restartWdogs_fixed, stopRun_fixed, wakeHeard_fixed]

@[simp] theorem execPwrStateReq_fixed (r : Req) (s : State) : (after (execPwrStateReq r s) s).fixed = s.fixed := by
  simp only [execPwrStateReq, fixed_mk, fixed_ite, ite_self, fixed_foldl, fst_ite, snd_ite, after_next, after_ite, implies_true, fixed_elim, command_fixed, pwrStateReq_fixed, infoPwrStateReq]

set_option maxRecDepth 4000 in
@[simp] theorem beginPhase_fixed (phase target : Nat) (s : State) : (beginPhase phase target s).fixed = s.fixed := by
  simp only [beginPhase, fixed_mk, fixed_ite, ite_self, fixed_foldl, fst_ite, snd_ite, after_next, after_ite, implies_true, fixed_elim, pushCfg_fixed, saveCounters_fixed]
  repeat' split
  all_goals (first | (with_reducible rfl) | simp only [fixed_mk, fixed_ite, ite_self, fixed_foldl, fst_ite, snd_ite, after_next, after_ite, implies_true, fixed_elim, pushCfg_fixed, saveCounters_fixed])

@[simp] theorem abandon_fixed (ap : Nat) (e : PwrEntry) (s : State) : (abandon ap e s).fixed = s.fixed := by
  simp only [abandon, fixed_mk, fixed_ite, ite_self, fixed_foldl, fst_ite, snd_ite, after_next, after_ite, implies_true, fixed_elim, bump_fixed, completeAll_fixed, modClk_fixed, powerEvent_fixed, pushCfg_fixed]

@[simp] theorem stopSlots_fixed (s : State) : (stopSlots s).fixed = s.fixed := by
  simp only [stopSlots, fixed_mk, fixed_ite, ite_self, fixed_foldl, fst_ite, snd_ite, after_next, after_ite, implies_true, fixed_elim, actStop_fixed]

@[simp] theorem passLast_fixed (e : PwrEntry) (s : State) : (passLast e s).fixed = s.fixed := by
  simp only [passLast, fixed_mk, fixed_ite, ite_self, fixed_foldl, fst_ite, snd_ite, after_next, after_ite, implies_true, fixed_elim, completeAll_fixed, modClk_fixed, stopSlots_fixed]

set_option maxRecDepth 4000 in
@[simp] theorem execAbortPoint_fixed (t : Nat) (s : State) : (after (execAbortPoint t s) s).fixed = s.fixed := by
  unfold execAbortPoint
  repeat' (first | (with_reducible rfl) | (simp only [fixed_mk, fixed_ite, ite_self, fixed_foldl, fst_ite, snd_ite, after_next, after_ite, implies_true, fixed_elim, abandon_fixed, beginPhase_fixed, modClk_fixed, passLast_fixed, toL_fixed]; done) | split | simp only [fixed_mk, fixed_ite, ite_self, fixed_foldl, fst_ite, snd_ite, after_next, after_ite, implies_true, fixed_elim, abandon_fixed, beginPhase_fixed, modClk_fixed, passLast_fixed, toL_fixed])

set_option maxRecDepth 4000 in
@[simp] theorem execEntryPhaseTimeout_fixed (s : State) : (after (execEntryPhaseTimeout s) s).fixed = s.fixed := by
  unfold execEntryPhaseTimeout
  repeat' (first | (with_reducible rfl) | (simp only [fixed_mk, fixed_ite, ite_self, fixed_foldl, fst_ite, snd_ite, after_next, after_ite, implies_true, fixed_elim, abandon_fixed, reportL_fixed, toL_fixed]; done) | split | simp only [fixed_mk, fixed_ite, ite_self, fixed_foldl, fst_ite, snd_ite, after_next, after_ite, implies_true, fixed_elim, abandon_fixed, reportL_fixed, toL_fixed])

@[simp] theorem parkPDie_fixed (s : State) : (parkPDie s).fixed = s.fixed := by
  simp only [parkPDie, fixed_mk, fixed_ite, ite_self, fixed_foldl, fst_ite, snd_ite, after_next, after_ite, implies_true, fixed_elim, accrue_fixed, driveGates_fixed, fioFailSafe_fixed, modP_fixed, stopSlot_fixed]

@[simp] theorem enterPDie_fixed (target : Nat) (s : State) : (enterPDie target s).fixed = s.fixed := by
  simp only [enterPDie, fixed_mk, fixed_ite, ite_self, fixed_foldl, fst_ite, snd_ite, after_next, after_ite, implies_true, fixed_elim, modFioP_fixed, modP_fixed, parkPDie_fixed, syncAllTrx_fixed]

set_option maxRecDepth 4000 in
@[simp] theorem entryRails_fixed (target : Nat) (s : State) : (entryRails target s).fixed = s.fixed := by
  simp only [entryRails, fixed_mk, fixed_ite, ite_self, fixed_foldl, fst_ite, snd_ite, after_next, after_ite, implies_true, fixed_elim, pushReg_fixed]
  repeat' split
  all_goals (first | (with_reducible rfl) | simp only [fixed_mk, fixed_ite, ite_self, fixed_foldl, fst_ite, snd_ite, after_next, after_ite, implies_true, fixed_elim, pushReg_fixed])

@[simp] theorem darken_fixed (target : Nat) (s : State) : (darken target s).fixed = s.fixed := by
  simp only [darken, fixed_mk, fixed_ite, ite_self, fixed_foldl, fst_ite, snd_ite, after_next, after_ite, implies_true, fixed_elim, lDieReset_fixed, modChainSt_fixed, modClk_fixed]

set_option maxRecDepth 4000 in
@[simp] theorem execEntryCommit_fixed (t : Nat) (s : State) : (after (execEntryCommit t s) s).fixed = s.fixed := by
  simp only [execEntryCommit, fixed_mk, fixed_ite, ite_self, fixed_foldl, fst_ite, snd_ite, after_next, after_ite, implies_true, fixed_elim, alvLow_fixed, bump_fixed, darken_fixed, enterPDie_fixed, entryRails_fixed, modChainSt_fixed, modClk_fixed, sendBeats_fixed, stopForClock_fixed, toL_fixed, wakePDie_fixed]
  repeat' split
  all_goals (first | (with_reducible rfl) | simp only [fixed_mk, fixed_ite, ite_self, fixed_foldl, fst_ite, snd_ite, after_next, after_ite, implies_true, fixed_elim, alvLow_fixed, bump_fixed, darken_fixed, enterPDie_fixed, entryRails_fixed, modChainSt_fixed, modClk_fixed, sendBeats_fixed, stopForClock_fixed, toL_fixed, wakePDie_fixed])

@[simp] theorem adoptSkein_fixed (fresh : Bool) (k : Nat) (s : State) : (adoptSkein fresh k s).fixed = s.fixed := by
  simp only [adoptSkein, fixed_mk, fixed_ite, ite_self, fixed_foldl, fst_ite, snd_ite, after_next, after_ite, implies_true, fixed_elim, modSkL_fixed, rolesOfMask_fixed]

@[simp] theorem restartPauses_fixed (s : State) : (restartPauses s).fixed = s.fixed := by
  simp only [restartPauses, fixed_mk, fixed_ite, ite_self, fixed_foldl, fst_ite, snd_ite, after_next, after_ite, implies_true, fixed_elim, modLoom_fixed, modP_fixed]

@[simp] theorem adoptArray_fixed (fresh : Bool) (s : State) : (adoptArray fresh s).fixed = s.fixed := by
  simp only [adoptArray, fixed_mk, fixed_ite, ite_self, fixed_foldl, fst_ite, snd_ite, after_next, after_ite, implies_true, fixed_elim, adoptSkein_fixed, modLoom_fixed, restartPauses_fixed]

set_option maxRecDepth 4000 in
@[simp] theorem settleDefs_fixed (fresh : Bool) (known : List (Nat × SkeinDef)) (s : State) : (settleDefs fresh known s).fixed = s.fixed := by
  simp only [settleDefs, fixed_mk, fixed_ite, ite_self, fixed_foldl, fst_ite, snd_ite, after_next, after_ite, implies_true, fixed_elim, pushCfg_fixed, reportL_fixed]
  repeat' split
  all_goals (first | (with_reducible rfl) | simp only [fixed_mk, fixed_ite, ite_self, fixed_foldl, fst_ite, snd_ite, after_next, after_ite, implies_true, fixed_elim, pushCfg_fixed, reportL_fixed])

@[simp] theorem adoptSlots_fixed (s : State) : (adoptSlots s).fixed = s.fixed := by
  simp only [adoptSlots, fixed_mk, fixed_ite, ite_self, fixed_foldl, fst_ite, snd_ite, after_next, after_ite, implies_true, fixed_elim, modActL_fixed, modActP_fixed, setPhase_fixed, takeActEvent_fixed]

@[simp] theorem adoptPorts_fixed (fresh : Bool) (s : State) : (adoptPorts fresh s).fixed = s.fixed := by
  simp only [adoptPorts, fixed_mk, fixed_ite, ite_self, fixed_foldl, fst_ite, snd_ite, after_next, after_ite, implies_true, fixed_elim, modPortL_fixed]

set_option maxRecDepth 4000 in
@[simp] theorem drainUp_fixed (u : UpFrame) (s : State) : (drainUp u s).fixed = s.fixed := by
  simp only [drainUp, fixed_mk, fixed_ite, ite_self, fixed_foldl, fst_ite, snd_ite, after_next, after_ite, implies_true, fixed_elim, gatherUp_fixed, takeUp_fixed]
  repeat' split
  all_goals (first | (with_reducible rfl) | simp only [fixed_mk, fixed_ite, ite_self, fixed_foldl, fst_ite, snd_ite, after_next, after_ite, implies_true, fixed_elim, gatherUp_fixed, takeUp_fixed])

@[simp] theorem drainAll_fixed (fresh : Bool) (s : State) : (drainAll fresh s).fixed = s.fixed := by
  simp only [drainAll, fixed_mk, fixed_ite, ite_self, fixed_foldl, fst_ite, snd_ite, after_next, after_ite, implies_true, fixed_elim, drainUp_fixed, modP_fixed, modWeft_fixed]

@[simp] theorem adoptP_fixed (s : State) : (adoptP s).fixed = s.fixed := by
  simp only [adoptP, fixed_mk, fixed_ite, ite_self, fixed_foldl, fst_ite, snd_ite, after_next, after_ite, implies_true, fixed_elim, modP_fixed]

@[simp] theorem adoptStatus_fixed (p : PDie) (s : State) : (adoptStatus p s).fixed = s.fixed := by
  simp only [adoptStatus, fixed_mk, fixed_ite, ite_self, fixed_foldl, fst_ite, snd_ite, after_next, after_ite, implies_true, fixed_elim, modWeft_fixed]

@[simp] theorem adoptReports_fixed (p : PDie) (s : State) : (adoptReports p s).fixed = s.fixed := by
  simp only [adoptReports, fixed_mk, fixed_ite, ite_self, fixed_foldl, fst_ite, snd_ite, after_next, after_ite, implies_true, fixed_elim, reportL_fixed]

@[simp] theorem driveAll_fixed (s : State) : (driveAll s).fixed = s.fixed := by
  simp only [driveAll, fixed_mk, fixed_ite, ite_self, fixed_foldl, fst_ite, snd_ite, after_next, after_ite, implies_true, fixed_elim, accrue_fixed, driveGates_fixed, syncAllTrx_fixed]

@[simp] theorem startAdopted_fixed (p : PDie) (s : State) : (startAdopted p s).fixed = s.fixed := by
  simp only [startAdopted, fixed_mk, fixed_ite, ite_self, fixed_foldl, fst_ite, snd_ite, after_next, after_ite, implies_true, fixed_elim, modClk_fixed, pushCfg_fixed, restoreAdopted_fixed, settleDevice_fixed]

@[simp] theorem markPrimaries_fixed (s : State) : (markPrimaries s).fixed = s.fixed := by
  simp only [markPrimaries, fixed_mk, fixed_ite, ite_self, fixed_foldl, fst_ite, snd_ite, after_next, after_ite, implies_true, fixed_elim, markPrimary_fixed]

@[simp] theorem adopt_fixed (s : State) : (adopt s).fixed = s.fixed := by
  simp only [adopt, fixed_mk, fixed_ite, ite_self, fixed_foldl, fst_ite, snd_ite, after_next, after_ite, implies_true, fixed_elim, adoptArray_fixed, adoptFio_fixed, adoptP_fixed, adoptPorts_fixed, adoptReports_fixed, adoptSlots_fixed, adoptStatus_fixed, adoptTrx_fixed, disableAct_fixed, disableAdopted_fixed, disableFio_fixed, disablePorts_fixed, drainAll_fixed, driveAll_fixed, markPrimaries_fixed, modChainSt_fixed, readbackTrx_fixed, seeTamper_fixed, settleDefs_fixed, startAdopted_fixed]

@[simp] theorem execAdoptDone_fixed (m : MarkAt) (s : State) : (after (execAdoptDone m s) s).fixed = s.fixed := by
  simp only [execAdoptDone, fixed_mk, fixed_ite, ite_self, fixed_foldl, fst_ite, snd_ite, after_next, after_ite, implies_true, fixed_elim, adopt_fixed, downFrame_fixed, toL_fixed]

@[simp] theorem startLDie_fixed (k : LReset) (s : State) : (startLDie k s).fixed = s.fixed := by
  simp only [startLDie, fixed_mk, fixed_ite, ite_self, fixed_foldl, fst_ite, snd_ite, after_next, after_ite, implies_true, fixed_elim, lDieReset_fixed, pushReg_fixed]





set_option maxRecDepth 4000 in
@[simp] theorem execL3Warm_fixed (t : Nat) (s : State) : (after (execL3Warm t s) s).fixed = s.fixed := by
  simp only [execL3Warm, fixed_mk, fixed_ite, ite_self, fixed_foldl, fst_ite, snd_ite, after_next, after_ite, implies_true, fixed_elim, startLDie_fixed, toL_fixed]
  repeat' split
  all_goals (first | (with_reducible rfl) | simp only [fixed_mk, fixed_ite, ite_self, fixed_foldl, fst_ite, snd_ite, after_next, after_ite, implies_true, fixed_elim, startLDie_fixed, toL_fixed])

set_option maxRecDepth 4000 in
@[simp] theorem execL3Chip_fixed (t : Nat) (s : State) : (after (execL3Chip t s) s).fixed = s.fixed := by
  simp only [execL3Chip, fixed_mk, fixed_ite, ite_self, fixed_foldl, fst_ite, snd_ite, after_next, after_ite, implies_true, fixed_elim, startLDie_fixed, toL_fixed]
  repeat' split
  all_goals (first | (with_reducible rfl) | simp only [fixed_mk, fixed_ite, ite_self, fixed_foldl, fst_ite, snd_ite, after_next, after_ite, implies_true, fixed_elim, startLDie_fixed, toL_fixed])

@[simp] theorem execTrstn_fixed (t : Nat) (s : State) : (after (execTrstn t s) s).fixed = s.fixed := by
  simp only [execTrstn, fixed_mk, fixed_ite, ite_self, fixed_foldl, fst_ite, snd_ite, after_next, after_ite, implies_true, fixed_elim, toL_fixed]

@[simp] theorem execPDiePowerOn_fixed (t : Nat) (s : State) : (after (execPDiePowerOn t s) s).fixed = s.fixed := by
  simp only [execPDiePowerOn, fixed_mk, fixed_ite, ite_self, fixed_foldl, fst_ite, snd_ite, after_next, after_ite, implies_true, fixed_elim, toP_fixed]

@[simp] theorem execPDiePowerOnRelease_fixed (t : Nat) (s : State) : (after (execPDiePowerOnRelease t s) s).fixed = s.fixed := by
  simp only [execPDiePowerOnRelease, fixed_mk, fixed_ite, ite_self, fixed_foldl, fst_ite, snd_ite, after_next, after_ite, implies_true, fixed_elim, modP_fixed, syncAllTrx_fixed, toP_fixed]

@[simp] theorem execDeepSleepWake_fixed (t : Nat) (s : State) : (after (execDeepSleepWake t s) s).fixed = s.fixed := by
  simp only [execDeepSleepWake, fixed_mk, fixed_ite, ite_self, fixed_foldl, fst_ite, snd_ite, after_next, after_ite, implies_true, fixed_elim, pushReg_fixed, toP_fixed]

@[simp] theorem execRailTimeout_fixed (t rail : Nat) (s : State) : (after (execRailTimeout t rail s) s).fixed = s.fixed := by
  simp only [execRailTimeout, fixed_mk, fixed_ite, ite_self, fixed_foldl, fst_ite, snd_ite, after_next, after_ite, implies_true, fixed_elim, modClk_fixed, toP_fixed]

set_option maxRecDepth 4000 in
@[simp] theorem execRestoreRetry_fixed (t : Nat) (s : State) : (after (execRestoreRetry t s) s).fixed = s.fixed := by
  simp only [execRestoreRetry, fixed_mk, fixed_ite, ite_self, fixed_foldl, fst_ite, snd_ite, after_next, after_ite, implies_true, fixed_elim, pushReg_fixed, toP_fixed]
  repeat' split
  all_goals (first | (with_reducible rfl) | simp only [fixed_mk, fixed_ite, ite_self, fixed_foldl, fst_ite, snd_ite, after_next, after_ite, implies_true, fixed_elim, pushReg_fixed, toP_fixed])

@[simp] theorem bootBank_fixed (b : Bool) (s : State) : (bootBank b s).fixed = s.fixed := by
  simp only [bootBank, fixed_mk, fixed_ite, ite_self, fixed_foldl, fst_ite, snd_ite, after_next, after_ite, implies_true, fixed_elim, modClk_fixed, modStore_fixed, raiseCounter_fixed]

@[simp] theorem bootRecovery_fixed (why : Nat) (s : State) : (bootRecovery why s).fixed = s.fixed := by
  simp only [bootRecovery, fixed_mk, fixed_ite, ite_self, fixed_foldl, fst_ite, snd_ite, after_next, after_ite, implies_true, fixed_elim, modClk_fixed, modStore_fixed]

@[simp] theorem bootCheck_fixed (bad : Nat) (s : State) : (bootCheck bad s).fixed = s.fixed := by
  simp only [bootCheck, fixed_mk, fixed_ite, ite_self, fixed_foldl, fst_ite, snd_ite, after_next, after_ite, implies_true, fixed_elim, bootBank_fixed, bootRecovery_fixed, modClk_fixed, modStore_fixed, reportL_fixed, revertNow_fixed]

@[simp] theorem resumeBuses_fixed (s : State) : (resumeBuses s).fixed = s.fixed := by
  simp only [resumeBuses, fixed_mk, fixed_ite, ite_self, fixed_foldl, fst_ite, snd_ite, after_next, after_ite, implies_true, fixed_elim, resumeNm_fixed, startAllCan_fixed]

set_option maxRecDepth 4000 in
@[simp] theorem enterRun_fixed (s : State) : (enterRun s).fixed = s.fixed := by
  unfold enterRun
  repeat' (first | (with_reducible rfl) | (simp only [fixed_mk, fixed_ite, ite_self, fixed_foldl, fst_ite, snd_ite, after_next, after_ite, implies_true, fixed_elim, adoptTrx_fixed, holdEvent_fixed, keepHeld_fixed, modClk_fixed, modUpd_fixed, reportL_fixed, resumeBuses_fixed]; done) | split | simp only [fixed_mk, fixed_ite, ite_self, fixed_foldl, fst_ite, snd_ite, after_next, after_ite, implies_true, fixed_elim, adoptTrx_fixed, holdEvent_fixed, keepHeld_fixed, modClk_fixed, modUpd_fixed, reportL_fixed, resumeBuses_fixed])

@[simp] theorem leaveSleep_fixed (miss : Nat) (s : State) : (leaveSleep miss s).fixed = s.fixed := by
  simp only [leaveSleep, fixed_mk, fixed_ite, ite_self, fixed_foldl, fst_ite, snd_ite, after_next, after_ite, implies_true, fixed_elim, modClk_fixed, modP_fixed, postEvent_fixed, restartWdogs_fixed, resumeBuses_fixed, resumePins_fixed, startTests_fixed, syncAllTrx_fixed]

@[simp] theorem releaseCores_fixed (miss bad : Nat) (s : State) : (releaseCores miss bad s).fixed = s.fixed := by
  simp only [releaseCores, fixed_mk, fixed_ite, ite_self, fixed_foldl, fst_ite, snd_ite, after_next, after_ite, implies_true, fixed_elim, bootCheck_fixed, modClk_fixed, startTests_fixed]

set_option maxRecDepth 4000 in
@[simp] theorem execRestore_fixed (t miss bad : Nat) (s : State) : (after (execRestore t miss bad s) s).fixed = s.fixed := by
  unfold execRestore
  repeat' (first | (with_reducible rfl) | (simp only [fixed_mk, fixed_ite, ite_self, fixed_foldl, fst_ite, snd_ite, after_next, after_ite, implies_true, fixed_elim, enterRun_fixed, leaveSleep_fixed, releaseCores_fixed, toL_fixed]; done) | split | simp only [fixed_mk, fixed_ite, ite_self, fixed_foldl, fst_ite, snd_ite, after_next, after_ite, implies_true, fixed_elim, enterRun_fixed, leaveSleep_fixed, releaseCores_fixed, toL_fixed])

@[simp] theorem chooseBank_fixed (bad : Nat) (s : State) : (chooseBank bad s).fixed = s.fixed := by
  simp only [chooseBank, fixed_mk, fixed_ite, ite_self, fixed_foldl, fst_ite, snd_ite, after_next, after_ite, implies_true, fixed_elim, modStore_fixed]

set_option maxRecDepth 4000 in
@[simp] theorem reportStore_fixed (s : State) : (reportStore s).fixed = s.fixed := by
  simp only [reportStore, fixed_mk, fixed_ite, ite_self, fixed_foldl, fst_ite, snd_ite, after_next, after_ite, implies_true, fixed_elim, modStore_fixed, reportL_fixed]
  repeat' split
  all_goals (first | (with_reducible rfl) | simp only [fixed_mk, fixed_ite, ite_self, fixed_foldl, fst_ite, snd_ite, after_next, after_ite, implies_true, fixed_elim, modStore_fixed, reportL_fixed])

@[simp] theorem holdNotes_fixed (s : State) : (holdNotes s).fixed = s.fixed := by
  simp only [holdNotes, fixed_mk, fixed_ite, ite_self, fixed_foldl, fst_ite, snd_ite, after_next, after_ite, implies_true, fixed_elim, holdEvent_fixed, modStore_fixed]

@[simp] theorem trainOrWait_fixed (s : State) : (trainOrWait s).fixed = s.fixed := by
  simp only [trainOrWait, fixed_mk, fixed_ite, ite_self, fixed_foldl, fst_ite, snd_ite, after_next, after_ite, implies_true, fixed_elim, modClk_fixed, startTraining_fixed]

@[simp] theorem execFirmwareStarted_fixed (t bad : Nat) (s : State) : (after (execFirmwareStarted t bad s) s).fixed = s.fixed := by
  simp only [execFirmwareStarted, fixed_mk, fixed_ite, ite_self, fixed_foldl, fst_ite, snd_ite, after_next, after_ite, implies_true, fixed_elim, chooseBank_fixed, holdNotes_fixed, reportL_fixed, reportStore_fixed, restoreClasses_fixed, settleDevice_fixed, toL_fixed, trainOrWait_fixed]

@[simp] theorem execRecoveryStart_fixed (t bad : Nat) (s : State) : (after (execRecoveryStart t bad s) s).fixed = s.fixed := by
  simp only [execRecoveryStart, fixed_mk, fixed_ite, ite_self, fixed_foldl, fst_ite, snd_ite, after_next, after_ite, implies_true, fixed_elim, chooseBank_fixed, holdNotes_fixed, reportStore_fixed, restoreClasses_fixed, toL_fixed, trainOrWait_fixed]

@[simp] theorem execChainWaitTimeout_fixed (s : State) : (after (execChainWaitTimeout s) s).fixed = s.fixed := by
  simp only [execChainWaitTimeout, fixed_mk, fixed_ite, ite_self, fixed_foldl, fst_ite, snd_ite, after_next, after_ite, implies_true, fixed_elim, chainWaitOver_fixed, modClk_fixed, toL_fixed]

@[simp] theorem hotPass_fixed (s : State) : (hotPass s).fixed = s.fixed := by
  simp only [hotPass, fixed_mk, fixed_ite, ite_self, fixed_foldl, fst_ite, snd_ite, after_next, after_ite, implies_true, fixed_elim, modLoom_fixed, reportL_fixed]

set_option maxRecDepth 4000 in
@[simp] theorem passDefine_fixed (k : Nat) (s : State) : (passDefine k s).fixed = s.fixed := by
  simp only [passDefine, fixed_mk, fixed_ite, ite_self, fixed_foldl, fst_ite, snd_ite, after_next, after_ite, implies_true, fixed_elim, completeAll_fixed, modSkL_fixed, pushCfg_fixed]
  repeat' split
  all_goals (first | (with_reducible rfl) | simp only [fixed_mk, fixed_ite, ite_self, fixed_foldl, fst_ite, snd_ite, after_next, after_ite, implies_true, fixed_elim, completeAll_fixed, modSkL_fixed, pushCfg_fixed])

@[simp] theorem passUndefined_fixed (s : State) : (passUndefined s).fixed = s.fixed := by
  simp only [passUndefined, fixed_mk, fixed_ite, ite_self, fixed_foldl, fst_ite, snd_ite, after_next, after_ite, implies_true, fixed_elim, completeAll_fixed]

@[simp] theorem loomPass_fixed (s : State) : (loomPass s).fixed = s.fixed := by
  simp only [loomPass, fixed_mk, fixed_ite, ite_self, fixed_foldl, fst_ite, snd_ite, after_next, after_ite, implies_true, fixed_elim, bankOverPass_fixed, bump64_fixed, hotPass_fixed, learnPass_fixed, ledgerFold_fixed, passChain_fixed, passDefine_fixed, passSkein_fixed, passUndefined_fixed, shedPass_fixed, takeChain_fixed]

@[simp] theorem storePass_fixed (s : State) : (storePass s).fixed = s.fixed := by
  simp only [storePass, fixed_mk, fixed_ite, ite_self, fixed_foldl, fst_ite, snd_ite, after_next, after_ite, implies_true, fixed_elim, cfgWriteStart_fixed, checkHolder_fixed, gatherDevice_fixed, handoverStart_fixed, keyWriteStart_fixed]

@[simp] theorem overrunPass_fixed (m : Nat) (s : State) : (overrunPass m s).fixed = s.fixed := by
  simp only [overrunPass, fixed_mk, fixed_ite, ite_self, fixed_foldl, fst_ite, snd_ite, after_next, after_ite, implies_true, fixed_elim, modSpindle_fixed, reportL_fixed]

set_option maxRecDepth 4000 in
@[simp] theorem execManagementTick_fixed (m : Nat) (rails : List Nat) (s : State) : (after (execManagementTick m rails s) s).fixed = s.fixed := by
  unfold execManagementTick
  rw [after_next]
  split
  · rfl
  · dsimp only
    split
    · rw [toL_fixed]
    · rw [restoreLater_fixed, storePass_fixed, railPoll_fixed, deratePass_fixed, loomPass_fixed, overrunPass_fixed, toL_fixed]

set_option maxRecDepth 4000 in
@[simp] theorem execRotationDue_fixed (k : Nat) (s : State) : (after (execRotationDue k s) s).fixed = s.fixed := by
  have hg : ∀ s : State, ((passRotate k s).getD s).fixed = s.fixed := fun s => fixed_getD _ s (passRotate_fixed k s)
  simp only [execRotationDue, fixed_mk, fixed_ite, ite_self, fixed_foldl, fst_ite, snd_ite, after_next, after_ite, implies_true, fixed_elim, toL_fixed, hg]

set_option maxRecDepth 4000 in
@[simp] theorem execShedLift_fixed (s : State) : (after (execShedLift s) s).fixed = s.fixed := by
  simp only [execShedLift, fixed_mk, fixed_ite, ite_self, fixed_foldl, fst_ite, snd_ite, after_next, after_ite, implies_true, fixed_elim, modLoom_fixed, shedGroup_fixed]
  repeat' split
  all_goals (first | (with_reducible rfl) | simp only [fixed_mk, fixed_ite, ite_self, fixed_foldl, fst_ite, snd_ite, after_next, after_ite, implies_true, fixed_elim, modLoom_fixed, shedGroup_fixed])

@[simp] theorem execGiveback_fixed (t j : Nat) (s : State) : (after (execGiveback t j s) s).fixed = s.fixed := by
  simp only [execGiveback, fixed_mk, fixed_ite, ite_self, fixed_foldl, fst_ite, snd_ite, after_next, after_ite, implies_true, fixed_elim, modChain_fixed, toL_fixed]

@[simp] theorem execRoleSwap_fixed (t j : Nat) (s : State) : (after (execRoleSwap t j s) s).fixed = s.fixed := by
  simp only [execRoleSwap, fixed_mk, fixed_ite, ite_self, fixed_foldl, fst_ite, snd_ite, after_next, after_ite, implies_true, fixed_elim, modChain_fixed, toL_fixed]

@[simp] theorem execPing_fixed (r : Req) (s : State) : (after (execPing r s) s).fixed = s.fixed := by
  simp only [execPing, fixed_mk, fixed_ite, ite_self, fixed_foldl, fst_ite, snd_ite, after_next, after_ite, implies_true, fixed_elim, command_fixed, infoPing]

set_option maxRecDepth 4000 in
@[simp] theorem getInfo_fixed (s : State) : (getInfo s).1.fixed = s.fixed := by
  simp only [getInfo, freeWords_fixed, freeWord_fixed]

@[simp] theorem execGetInfo_fixed (r : Req) (s : State) : (after (execGetInfo r s) s).fixed = s.fixed := by
  simp only [execGetInfo, fixed_mk, fixed_ite, ite_self, fixed_foldl, fst_ite, snd_ite, after_next, after_ite, implies_true, fixed_elim, command_fixed, getInfo_fixed, infoGetInfo]

@[simp] theorem subscribe_fixed (r : Req) (s : State) : (subscribe r s).1.fixed = s.fixed := by
  simp only [subscribe, fixed_mk, fixed_ite, ite_self, fixed_foldl, fst_ite, snd_ite, after_next, after_ite, implies_true, fixed_elim, modSlot_fixed]

@[simp] theorem execSubscribe_fixed (r : Req) (s : State) : (after (execSubscribe r s) s).fixed = s.fixed := by
  simp only [execSubscribe, fixed_mk, fixed_ite, ite_self, fixed_foldl, fst_ite, snd_ite, after_next, after_ite, implies_true, fixed_elim, command_fixed, subscribe_fixed, infoSubscribe]

@[simp] theorem execGetTime_fixed (r : Req) (s : State) : (after (execGetTime r s) s).fixed = s.fixed := by
  simp only [execGetTime, fixed_mk, fixed_ite, ite_self, fixed_foldl, fst_ite, snd_ite, after_next, after_ite, implies_true, fixed_elim, command_fixed, infoGetTime]

@[simp] theorem setSession_fixed (n : Nat) (x : Option Session) (e : Entry) (s : State) : (setSession n x e s).fixed = s.fixed := by
  simp only [setSession, fixed_mk, fixed_ite, ite_self, fixed_foldl, fst_ite, snd_ite, after_next, after_ite, implies_true, fixed_elim, modFlight_fixed, modSlot_fixed]

set_option maxRecDepth 4000 in
@[simp] theorem countParent_fixed (p : Nat) (x : Except Status (List Byte × Nat × Nat)) (s : State) : (countParent p x s).fixed = s.fixed := by
  simp only [countParent, fixed_mk, fixed_ite, ite_self, fixed_foldl, fst_ite, snd_ite, after_next, after_ite, implies_true, fixed_elim, bump_fixed, countLoad_fixed]
  repeat' split
  all_goals (first | (with_reducible rfl) | simp only [fixed_mk, fixed_ite, ite_self, fixed_foldl, fst_ite, snd_ite, after_next, after_ite, implies_true, fixed_elim, bump_fixed, countLoad_fixed])

set_option maxRecDepth 4000 in
@[simp] theorem openSession_fixed (e : Entry) (p : Nat) (s : State) : (openSession e p s).1.fixed = s.fixed := by
  simp only [openSession, fixed_mk, fixed_ite, ite_self, fixed_foldl, fst_ite, snd_ite, after_next, after_ite, implies_true, fixed_elim, countParent_fixed, freeBytes_fixed, setSession_fixed]
  repeat' split
  all_goals (first | (with_reducible rfl) | simp only [fixed_mk, fixed_ite, ite_self, fixed_foldl, fst_ite, snd_ite, after_next, after_ite, implies_true, fixed_elim, countParent_fixed, freeBytes_fixed, setSession_fixed])

@[simp] theorem openPlain_fixed (e : Entry) (s : State) : (openPlain e s).1.fixed = s.fixed := by
  simp only [openPlain, fixed_mk, fixed_ite, ite_self, fixed_foldl, fst_ite, snd_ite, after_next, after_ite, implies_true, fixed_elim, freeBytes_fixed, modEntry_fixed, setSession_fixed]

@[simp] theorem execSessionOpen_fixed (r : Req) (s : State) : (after (execSessionOpen r s) s).fixed = s.fixed := by
  simp only [execSessionOpen, fixed_mk, fixed_ite, ite_self, fixed_foldl, fst_ite, snd_ite, after_next, after_ite, implies_true, fixed_elim, command_fixed, openPlain_fixed, openSession_fixed, infoSessionOpen]

@[simp] theorem execSessionClose_fixed (r : Req) (s : State) : (after (execSessionClose r s) s).fixed = s.fixed := by
  simp only [execSessionClose, fixed_mk, fixed_ite, ite_self, fixed_foldl, fst_ite, snd_ite, after_next, after_ite, implies_true, fixed_elim, command_fixed, infoSessionClose]

@[simp] theorem dropEntry_fixed (s : State) : (dropEntry s).fixed = s.fixed := by
  simp only [dropEntry, fixed_mk, fixed_ite, ite_self, fixed_foldl, fst_ite, snd_ite, after_next, after_ite, implies_true, fixed_elim, completeAll_fixed, modClk_fixed]

set_option maxRecDepth 4000 in
@[simp] theorem disableGroup_fixed (g : Nat) (s : State) : (disableGroup g s).fixed = s.fixed := by
  simp only [disableGroup, fixed_mk, fixed_ite, ite_self, fixed_foldl, fst_ite, snd_ite, after_next, after_ite, implies_true, fixed_elim, abortWhere_fixed, disableAct_fixed, disableCan_fixed, disableFio_fixed, disableLight_fixed, disableLoads_fixed, disableRange_fixed, dropEntry_fixed, endUpdate_fixed, liftAll_fixed]
  repeat' split
  all_goals (first | (with_reducible rfl) | simp only [fixed_mk, fixed_ite, ite_self, fixed_foldl, fst_ite, snd_ite, after_next, after_ite, implies_true, fixed_elim, abortWhere_fixed, disableAct_fixed, disableCan_fixed, disableFio_fixed, disableLight_fixed, disableLoads_fixed, disableRange_fixed, dropEntry_fixed, endUpdate_fixed, liftAll_fixed])

set_option maxRecDepth 4000 in
@[simp] theorem enableGroup_fixed (g : Nat) (s : State) : (enableGroup g s).fixed = s.fixed := by
  simp only [enableGroup, fixed_mk, fixed_ite, ite_self, fixed_foldl, fst_ite, snd_ite, after_next, after_ite, implies_true, fixed_elim, enableCan_fixed, enableFio_fixed, enableNm_fixed]
  repeat' split
  all_goals (first | (with_reducible rfl) | simp only [fixed_mk, fixed_ite, ite_self, fixed_foldl, fst_ite, snd_ite, after_next, after_ite, implies_true, fixed_elim, enableCan_fixed, enableFio_fixed, enableNm_fixed])

set_option maxRecDepth 4000 in
@[simp] theorem withdraw_fixed (s : State) (e : Entry) : (withdraw s e).fixed = s.fixed := by
  simp only [withdraw, fixed_mk, fixed_ite, ite_self, fixed_foldl, fst_ite, snd_ite, after_next, after_ite, implies_true, fixed_elim, modPortL_fixed, modSkL_fixed, modWeft_fixed, setPhase_fixed]
  repeat' split
  all_goals (first | (with_reducible rfl) | simp only [fixed_mk, fixed_ite, ite_self, fixed_foldl, fst_ite, snd_ite, after_next, after_ite, implies_true, fixed_elim, modPortL_fixed, modSkL_fixed, modWeft_fixed, setPhase_fixed])

@[simp] theorem abortGroup_fixed (g : Nat) (s : State) : (abortGroup g s).fixed = s.fixed := by
  simp only [abortGroup, fixed_mk, fixed_ite, ite_self, fixed_foldl, fst_ite, snd_ite, after_next, after_ite, implies_true, fixed_elim, abortWhere_fixed, withdraw_fixed]

@[simp] theorem funcEnable_fixed (r : Req) (s : State) : (funcEnable r s).1.fixed = s.fixed := by
  simp only [funcEnable, fixed_mk, fixed_ite, ite_self, fixed_foldl, fst_ite, snd_ite, after_next, after_ite, implies_true, fixed_elim, abortGroup_fixed, disableGroup_fixed, enableGroup_fixed, modHost_fixed]

@[simp] theorem execFuncEnable_fixed (r : Req) (s : State) : (after (execFuncEnable r s) s).fixed = s.fixed := by
  simp only [execFuncEnable, fixed_mk, fixed_ite, ite_self, fixed_foldl, fst_ite, snd_ite, after_next, after_ite, implies_true, fixed_elim, command_fixed, funcEnable_fixed, infoFuncEnable]

@[simp] theorem refuseFrame_fixed (h : Head) (st : Status) (key : Option (BitVec 128)) (s : State) : (refuseFrame h st key s).fixed = s.fixed := by
  simp only [refuseFrame, fixed_mk, fixed_ite, ite_self, fixed_foldl, fst_ite, snd_ite, after_next, after_ite, implies_true, fixed_elim, pushOut_fixed]

@[simp] theorem refuseFour_fixed (h : Head) (st : Status) (key : Option (BitVec 128)) (s : State) : (refuseFour h st key s).fixed = s.fixed := by
  simp only [refuseFour, fixed_mk, fixed_ite, ite_self, fixed_foldl, fst_ite, snd_ite, after_next, after_ite, implies_true, fixed_elim, pushOut_fixed]

@[simp] theorem forward_fixed (h : Head) (l : List Byte) (s : State) : (forward h l s).fixed = s.fixed := by
  simp only [forward, fixed_mk, fixed_ite, ite_self, fixed_foldl, fst_ite, snd_ite, after_next, after_ite, implies_true, fixed_elim, modChainSt_fixed, pushOut_fixed, refuseFour_fixed, refuseFrame_fixed]

@[simp] theorem authFail_fixed (h : Head) (s : State) : (authFail h s).fixed = s.fixed := by
  simp only [authFail, fixed_mk, fixed_ite, ite_self, fixed_foldl, fst_ite, snd_ite, after_next, after_ite, implies_true, fixed_elim, endSession_fixed, modFlight_fixed, modSlot_fixed, refuseFrame_fixed, reportL_fixed]

def OpFixed (o : OpInfo) : Prop := (∀ e s, (o.run e s).1.fixed = s.fixed) ∧ ∀ e s, (o.onAccept e s).fixed = s.fixed
theorem infoPing_fixed : OpFixed infoPing := by
  constructor <;> intro e s <;> simp only [infoPing, fixed_mk, fixed_ite, ite_self, fixed_foldl, fst_ite, snd_ite, after_next, after_ite, implies_true, fixed_elim]
theorem infoGetInfo_fixed : OpFixed infoGetInfo := by
  constructor <;> intro e s <;> simp only [infoGetInfo, fixed_mk, fixed_ite, ite_self, fixed_foldl, fst_ite, snd_ite, after_next, after_ite, implies_true, fixed_elim, getInfo_fixed]
theorem infoSessionOpen_fixed : OpFixed infoSessionOpen := by
  constructor <;> intro e s <;> simp only [infoSessionOpen, fixed_mk, fixed_ite, ite_self, fixed_foldl, fst_ite, snd_ite, after_next, after_ite, implies_true, fixed_elim, openPlain_fixed, openSession_fixed]
theorem infoSessionClose_fixed : OpFixed infoSessionClose := by
  constructor <;> intro e s <;> simp only [infoSessionClose, fixed_mk, fixed_ite, ite_self, fixed_foldl, fst_ite, snd_ite, after_next, after_ite, implies_true, fixed_elim]
theorem infoSubscribe_fixed : OpFixed infoSubscribe := by
  constructor <;> intro e s <;> simp only [infoSubscribe, fixed_mk, fixed_ite, ite_self, fixed_foldl, fst_ite, snd_ite, after_next, after_ite, implies_true, fixed_elim, subscribe_fixed]
theorem infoGetTime_fixed : OpFixed infoGetTime := by
  constructor <;> intro e s <;> simp only [infoGetTime, fixed_mk, fixed_ite, ite_self, fixed_foldl, fst_ite, snd_ite, after_next, after_ite, implies_true, fixed_elim]
theorem infoFuncEnable_fixed : OpFixed infoFuncEnable := by
  constructor <;> intro e s <;> simp only [infoFuncEnable, fixed_mk, fixed_ite, ite_self, fixed_foldl, fst_ite, snd_ite, after_next, after_ite, implies_true, fixed_elim, funcEnable_fixed]
theorem infoReadReg_fixed : OpFixed infoReadReg := by
  constructor <;> intro e s <;> simp only [infoReadReg, fixed_mk, fixed_ite, ite_self, fixed_foldl, fst_ite, snd_ite, after_next, after_ite, implies_true, fixed_elim, readClears_fixed]
theorem infoWriteReg_fixed : OpFixed infoWriteReg := by
  constructor <;> intro e s <;> simp only [infoWriteReg, fixed_mk, fixed_ite, ite_self, fixed_foldl, fst_ite, snd_ite, after_next, after_ite, implies_true, fixed_elim, writeReg_fixed]
theorem infoReadBlock_fixed : OpFixed infoReadBlock := by
  refine ⟨fun e s => ?_, fun e s => rfl⟩
  simp only [infoReadBlock]
  split
  · rfl
  · exact readBlock_fixed _ _ s
theorem infoModifyReg_fixed : OpFixed infoModifyReg := by
  constructor <;> intro e s <;> simp only [infoModifyReg, fixed_mk, fixed_ite, ite_self, fixed_foldl, fst_ite, snd_ite, after_next, after_ite, implies_true, fixed_elim, modifyReg_fixed]
theorem infoWriteBlock_fixed : OpFixed infoWriteBlock := by
  constructor <;> intro e s <;> simp only [infoWriteBlock, fixed_mk, fixed_ite, ite_self, fixed_foldl, fst_ite, snd_ite, after_next, after_ite, implies_true, fixed_elim, writeBlock_fixed]
theorem infoLoadSet_fixed : OpFixed infoLoadSet := by
  constructor <;> intro e s <;> simp only [infoLoadSet, fixed_mk, fixed_ite, ite_self, fixed_foldl, fst_ite, snd_ite, after_next, after_ite, implies_true, fixed_elim, loadSet_fixed]
theorem infoLoadGet_fixed : OpFixed infoLoadGet := by
  constructor <;> intro e s <;> simp only [infoLoadGet, fixed_mk, fixed_ite, ite_self, fixed_foldl, fst_ite, snd_ite, after_next, after_ite, implies_true, fixed_elim]
theorem infoSkeinDefine_fixed : OpFixed infoSkeinDefine := by
  constructor <;> intro e s <;> simp only [infoSkeinDefine, fixed_mk, fixed_ite, ite_self, fixed_foldl, fst_ite, snd_ite, after_next, after_ite, implies_true, fixed_elim, skeinDefine_fixed]
theorem infoBridgeSet_fixed : OpFixed infoBridgeSet := by
  constructor <;> intro e s <;> simp only [infoBridgeSet, fixed_mk, fixed_ite, ite_self, fixed_foldl, fst_ite, snd_ite, after_next, after_ite, implies_true, fixed_elim, bridgeSet_fixed]
theorem infoLoadClearLatch_fixed : OpFixed infoLoadClearLatch := by
  constructor <;> intro e s <;> simp only [infoLoadClearLatch, fixed_mk, fixed_ite, ite_self, fixed_foldl, fst_ite, snd_ite, after_next, after_ite, implies_true, fixed_elim, clearLatch_fixed]
theorem infoLoadSense_fixed : OpFixed infoLoadSense := by
  constructor <;> intro e s <;> simp only [infoLoadSense, fixed_mk, fixed_ite, ite_self, fixed_foldl, fst_ite, snd_ite, after_next, after_ite, implies_true, fixed_elim]
theorem infoFailsafeSet_fixed : OpFixed infoFailsafeSet := by
  constructor <;> intro e s <;> simp only [infoFailsafeSet, fixed_mk, fixed_ite, ite_self, fixed_foldl, fst_ite, snd_ite, after_next, after_ite, implies_true, fixed_elim, failsafeSet_fixed]
theorem infoActProfileSet_fixed : OpFixed infoActProfileSet := by
  constructor <;> intro e s <;> simp only [infoActProfileSet, fixed_mk, fixed_ite, ite_self, fixed_foldl, fst_ite, snd_ite, after_next, after_ite, implies_true, fixed_elim, profileSet_fixed]
theorem infoActFire_fixed : OpFixed infoActFire := by
  constructor <;> intro e s <;> simp only [infoActFire, fixed_mk, fixed_ite, ite_self, fixed_foldl, fst_ite, snd_ite, after_next, after_ite, implies_true, fixed_elim, actFire_fixed]
theorem infoActStop_fixed : OpFixed infoActStop := by
  constructor <;> intro e s <;> simp only [infoActStop, fixed_mk, fixed_ite, ite_self, fixed_foldl, fst_ite, snd_ite, after_next, after_ite, implies_true, fixed_elim, actStop_fixed]
theorem infoActStatus_fixed : OpFixed infoActStatus := by
  constructor <;> intro e s <;> simp only [infoActStatus, fixed_mk, fixed_ite, ite_self, fixed_foldl, fst_ite, snd_ite, after_next, after_ite, implies_true, fixed_elim]
theorem infoDimSet_fixed : OpFixed infoDimSet := by
  constructor <;> intro e s <;> simp only [infoDimSet, fixed_mk, fixed_ite, ite_self, fixed_foldl, fst_ite, snd_ite, after_next, after_ite, implies_true, fixed_elim, dimSet_fixed]
theorem infoMatrixWrite_fixed : OpFixed infoMatrixWrite := by
  constructor <;> intro e s <;> simp only [infoMatrixWrite, fixed_mk, fixed_ite, ite_self, fixed_foldl, fst_ite, snd_ite, after_next, after_ite, implies_true, fixed_elim, matrixWrite_fixed]
theorem infoMatrixSwap_fixed : OpFixed infoMatrixSwap := by
  constructor <;> intro e s <;> simp only [infoMatrixSwap, fixed_mk, fixed_ite, ite_self, fixed_foldl, fst_ite, snd_ite, after_next, after_ite, implies_true, fixed_elim, matrixSwap_fixed]
theorem infoWhorlLoad_fixed : OpFixed infoWhorlLoad := by
  constructor <;> intro e s <;> simp only [infoWhorlLoad, fixed_mk, fixed_ite, ite_self, fixed_foldl, fst_ite, snd_ite, after_next, after_ite, implies_true, fixed_elim, whorlLoad_fixed]
theorem infoWhorlRun_fixed : OpFixed infoWhorlRun := by
  constructor <;> intro e s <;> simp only [infoWhorlRun, fixed_mk, fixed_ite, ite_self, fixed_foldl, fst_ite, snd_ite, after_next, after_ite, implies_true, fixed_elim, whorlRun_fixed]
theorem infoWhorlStop_fixed : OpFixed infoWhorlStop := by
  constructor <;> intro e s <;> simp only [infoWhorlStop, fixed_mk, fixed_ite, ite_self, fixed_foldl, fst_ite, snd_ite, after_next, after_ite, implies_true, fixed_elim, whorlStop_fixed]
theorem infoDerateGet_fixed : OpFixed infoDerateGet := by
  constructor <;> intro e s <;> simp only [infoDerateGet, fixed_mk, fixed_ite, ite_self, fixed_foldl, fst_ite, snd_ite, after_next, after_ite, implies_true, fixed_elim]
theorem opsLow_fixed (o : OpInfo) (h : o ∈ opsLow) : OpFixed o := by
  simp only [opsLow, List.mem_cons, List.not_mem_nil, or_false] at h
  rcases h with rfl | rfl | rfl | rfl | rfl | rfl | rfl | rfl | rfl | rfl | rfl | rfl | rfl | rfl | rfl | rfl | rfl | rfl | rfl | rfl | rfl | rfl | rfl | rfl | rfl | rfl | rfl | rfl | rfl | rfl
  · exact infoPing_fixed
  · exact infoGetInfo_fixed
  · exact infoSessionOpen_fixed
  · exact infoSessionClose_fixed
  · exact infoSubscribe_fixed
  · exact infoGetTime_fixed
  · exact infoFuncEnable_fixed
  · exact infoReadReg_fixed
  · exact infoWriteReg_fixed
  · exact infoReadBlock_fixed
  · exact infoModifyReg_fixed
  · exact infoWriteBlock_fixed
  · exact infoLoadSet_fixed
  · exact infoLoadGet_fixed
  · exact infoSkeinDefine_fixed
  · exact infoBridgeSet_fixed
  · exact infoLoadClearLatch_fixed
  · exact infoLoadSense_fixed
  · exact infoFailsafeSet_fixed
  · exact infoActProfileSet_fixed
  · exact infoActFire_fixed
  · exact infoActStop_fixed
  · exact infoActStatus_fixed
  · exact infoDimSet_fixed
  · exact infoMatrixWrite_fixed
  · exact infoMatrixSwap_fixed
  · exact infoWhorlLoad_fixed
  · exact infoWhorlRun_fixed
  · exact infoWhorlStop_fixed
  · exact infoDerateGet_fixed
theorem infoFioCfg_fixed : OpFixed infoFioCfg := by
  constructor <;> intro e s <;> simp only [infoFioCfg, fixed_mk, fixed_ite, ite_self, fixed_foldl, fst_ite, snd_ite, after_next, after_ite, implies_true, fixed_elim, fioCfg_fixed]
theorem infoFioRead_fixed : OpFixed infoFioRead := by
  constructor <;> intro e s <;> simp only [infoFioRead, fixed_mk, fixed_ite, ite_self, fixed_foldl, fst_ite, snd_ite, after_next, after_ite, implies_true, fixed_elim]
theorem infoFioWrite_fixed : OpFixed infoFioWrite := by
  constructor <;> intro e s <;> simp only [infoFioWrite, fixed_mk, fixed_ite, ite_self, fixed_foldl, fst_ite, snd_ite, after_next, after_ite, implies_true, fixed_elim, fioWrite_fixed]
theorem infoFioCountRead_fixed : OpFixed infoFioCountRead := by
  constructor <;> intro e s <;> simp only [infoFioCountRead, fixed_mk, fixed_ite, ite_self, fixed_foldl, fst_ite, snd_ite, after_next, after_ite, implies_true, fixed_elim, fioCountRead_fixed]
theorem infoCanCfg_fixed : OpFixed infoCanCfg := by
  constructor <;> intro e s <;> simp only [infoCanCfg, fixed_mk, fixed_ite, ite_self, fixed_foldl, fst_ite, snd_ite, after_next, after_ite, implies_true, fixed_elim, canConfigure_fixed]
theorem infoCanTx_fixed : OpFixed infoCanTx := by
  constructor <;> intro e s <;> simp only [infoCanTx, fixed_mk, fixed_ite, ite_self, fixed_foldl, fst_ite, snd_ite, after_next, after_ite, implies_true, fixed_elim, canTx_fixed]
theorem infoCanRxRead_fixed : OpFixed infoCanRxRead := by
  constructor <;> intro e s <;> simp only [infoCanRxRead, fixed_mk, fixed_ite, ite_self, fixed_foldl, fst_ite, snd_ite, after_next, after_ite, implies_true, fixed_elim, canRxRead_fixed]
theorem infoCanFilterSet_fixed : OpFixed infoCanFilterSet := by
  constructor <;> intro e s <;> simp only [infoCanFilterSet, fixed_mk, fixed_ite, ite_self, fixed_foldl, fst_ite, snd_ite, after_next, after_ite, implies_true, fixed_elim, canFilterSet_fixed]
theorem infoNtCfg_fixed : OpFixed infoNtCfg := by
  constructor <;> intro e s <;> simp only [infoNtCfg, fixed_mk, fixed_ite, ite_self, fixed_foldl, fst_ite, snd_ite, after_next, after_ite, implies_true, fixed_elim, ntCfg_fixed]
theorem infoNmSleepReq_fixed : OpFixed infoNmSleepReq := by
  constructor <;> intro e s <;> simp only [infoNmSleepReq, fixed_mk, fixed_ite, ite_self, fixed_foldl, fst_ite, snd_ite, after_next, after_ite, implies_true, fixed_elim, nmSleepReq_fixed]
theorem infoNmStatus_fixed : OpFixed infoNmStatus := by
  constructor <;> intro e s <;> simp only [infoNmStatus, fixed_mk, fixed_ite, ite_self, fixed_foldl, fst_ite, snd_ite, after_next, after_ite, implies_true, fixed_elim, nmStatus_fixed]
theorem infoGwRouteSet_fixed : OpFixed infoGwRouteSet := by
  constructor <;> intro e s <;> simp only [infoGwRouteSet, fixed_mk, fixed_ite, ite_self, fixed_foldl, fst_ite, snd_ite, after_next, after_ite, implies_true, fixed_elim, writeRoutes_fixed]
theorem infoRangeStart_fixed : OpFixed infoRangeStart := by
  constructor <;> intro e s <;> simp only [infoRangeStart, fixed_mk, fixed_ite, ite_self, fixed_foldl, fst_ite, snd_ite, after_next, after_ite, implies_true, fixed_elim, rangeStart_fixed]
theorem infoRangeResult_fixed : OpFixed infoRangeResult := by
  constructor <;> intro e s <;> simp only [infoRangeResult, fixed_mk, fixed_ite, ite_self, fixed_foldl, fst_ite, snd_ite, after_next, after_ite, implies_true, fixed_elim]
theorem infoRangeZoneCfg_fixed : OpFixed infoRangeZoneCfg := by
  constructor <;> intro e s <;> simp only [infoRangeZoneCfg, fixed_mk, fixed_ite, ite_self, fixed_foldl, fst_ite, snd_ite, after_next, after_ite, implies_true, fixed_elim, rangeZoneCfg_fixed]
theorem infoLockoutClear_fixed : OpFixed infoLockoutClear := by
  constructor <;> intro e s <;> simp only [infoLockoutClear, fixed_mk, fixed_ite, ite_self, fixed_foldl, fst_ite, snd_ite, after_next, after_ite, implies_true, fixed_elim, lockoutClear_fixed]
theorem infoImmoCfg_fixed : OpFixed infoImmoCfg := by
  constructor <;> intro e s <;> simp only [infoImmoCfg, fixed_mk, fixed_ite, ite_self, fixed_foldl, fst_ite, snd_ite, after_next, after_ite, implies_true, fixed_elim, immoCfg_fixed]
theorem infoKeyProvision_fixed : OpFixed infoKeyProvision := by
  constructor <;> intro e s <;> simp only [infoKeyProvision, fixed_mk, fixed_ite, ite_self, fixed_foldl, fst_ite, snd_ite, after_next, after_ite, implies_true, fixed_elim, keyProvision_fixed]
theorem infoKeyDerive_fixed : OpFixed infoKeyDerive := by
  constructor <;> intro e s <;> simp only [infoKeyDerive, fixed_mk, fixed_ite, ite_self, fixed_foldl, fst_ite, snd_ite, after_next, after_ite, implies_true, fixed_elim, keyDerive_fixed]
theorem infoKeyInvalidate_fixed : OpFixed infoKeyInvalidate := by
  constructor <;> intro e s <;> simp only [infoKeyInvalidate, fixed_mk, fixed_ite, ite_self, fixed_foldl, fst_ite, snd_ite, after_next, after_ite, implies_true, fixed_elim, keyInvalidate_fixed, rootRetire_fixed]
theorem infoCryptoOp_fixed : OpFixed infoCryptoOp := by
  constructor <;> intro e s <;> simp only [infoCryptoOp, fixed_mk, fixed_ite, ite_self, fixed_foldl, fst_ite, snd_ite, after_next, after_ite, implies_true, fixed_elim, cryptoOp_fixed]
theorem infoKeyInfo_fixed : OpFixed infoKeyInfo := by
  constructor <;> intro e s <;> simp only [infoKeyInfo, fixed_mk, fixed_ite, ite_self, fixed_foldl, fst_ite, snd_ite, after_next, after_ite, implies_true, fixed_elim]
theorem infoZeroise_fixed : OpFixed infoZeroise := by
  constructor <;> intro e s <;> simp only [infoZeroise, fixed_mk, fixed_ite, ite_self, fixed_foldl, fst_ite, snd_ite, after_next, after_ite, implies_true, fixed_elim, zeroise_fixed]
theorem opsMid_fixed (o : OpInfo) (h : o ∈ opsMid) : OpFixed o := by
  simp only [opsMid, List.mem_cons, List.not_mem_nil, or_false] at h
  rcases h with rfl | rfl | rfl | rfl | rfl | rfl | rfl | rfl | rfl | rfl | rfl | rfl | rfl | rfl | rfl | rfl | rfl | rfl | rfl | rfl | rfl | rfl | rfl
  · exact infoFioCfg_fixed
  · exact infoFioRead_fixed
  · exact infoFioWrite_fixed
  · exact infoFioCountRead_fixed
  · exact infoCanCfg_fixed
  · exact infoCanTx_fixed
  · exact infoCanRxRead_fixed
  · exact infoCanFilterSet_fixed
  · exact infoNtCfg_fixed
  · exact infoNmSleepReq_fixed
  · exact infoNmStatus_fixed
  · exact infoGwRouteSet_fixed
  · exact infoRangeStart_fixed
  · exact infoRangeResult_fixed
  · exact infoRangeZoneCfg_fixed
  · exact infoLockoutClear_fixed
  · exact infoImmoCfg_fixed
  · exact infoKeyProvision_fixed
  · exact infoKeyDerive_fixed
  · exact infoKeyInvalidate_fixed
  · exact infoCryptoOp_fixed
  · exact infoKeyInfo_fixed
  · exact infoZeroise_fixed
theorem infoCfgWrite_fixed : OpFixed infoCfgWrite := by
  constructor <;> intro e s <;> simp only [infoCfgWrite, fixed_mk, fixed_ite, ite_self, fixed_foldl, fst_ite, snd_ite, after_next, after_ite, implies_true, fixed_elim, cfgWrite_fixed]
theorem infoCfgRead_fixed : OpFixed infoCfgRead := by
  constructor <;> intro e s <;> simp only [infoCfgRead, fixed_mk, fixed_ite, ite_self, fixed_foldl, fst_ite, snd_ite, after_next, after_ite, implies_true, fixed_elim]
theorem infoUpdateBegin_fixed : OpFixed infoUpdateBegin := by
  constructor <;> intro e s <;> simp only [infoUpdateBegin, fixed_mk, fixed_ite, ite_self, fixed_foldl, fst_ite, snd_ite, after_next, after_ite, implies_true, fixed_elim, touchUpdate_fixed, updateBegin_fixed]
theorem infoUpdateBlock_fixed : OpFixed infoUpdateBlock := by
  constructor <;> intro e s <;> simp only [infoUpdateBlock, fixed_mk, fixed_ite, ite_self, fixed_foldl, fst_ite, snd_ite, after_next, after_ite, implies_true, fixed_elim, touchUpdate_fixed, updateBlock_fixed]
theorem infoUpdateVerify_fixed : OpFixed infoUpdateVerify := by
  constructor <;> intro e s <;> simp only [infoUpdateVerify, fixed_mk, fixed_ite, ite_self, fixed_foldl, fst_ite, snd_ite, after_next, after_ite, implies_true, fixed_elim, touchUpdate_fixed, updateVerify_fixed]
theorem infoUpdateCommit_fixed : OpFixed infoUpdateCommit := by
  constructor <;> intro e s <;> simp only [infoUpdateCommit, fixed_mk, fixed_ite, ite_self, fixed_foldl, fst_ite, snd_ite, after_next, after_ite, implies_true, fixed_elim, touchUpdate_fixed, updateCommit_fixed]
theorem infoUpdateAbort_fixed : OpFixed infoUpdateAbort := by
  constructor <;> intro e s <;> simp only [infoUpdateAbort, fixed_mk, fixed_ite, ite_self, fixed_foldl, fst_ite, snd_ite, after_next, after_ite, implies_true, fixed_elim, touchUpdate_fixed, updateAbort_fixed]
theorem infoUpdateConfirm_fixed : OpFixed infoUpdateConfirm := by
  constructor <;> intro e s <;> simp only [infoUpdateConfirm, fixed_mk, fixed_ite, ite_self, fixed_foldl, fst_ite, snd_ite, after_next, after_ite, implies_true, fixed_elim, touchUpdate_fixed, updateConfirm_fixed]
theorem infoFaultStatus_fixed : OpFixed infoFaultStatus := by
  constructor <;> intro e s <;> simp only [infoFaultStatus, fixed_mk, fixed_ite, ite_self, fixed_foldl, fst_ite, snd_ite, after_next, after_ite, implies_true, fixed_elim]
theorem infoFaultAck_fixed : OpFixed infoFaultAck := by
  constructor <;> intro e s <;> simp only [infoFaultAck, fixed_mk, fixed_ite, ite_self, fixed_foldl, fst_ite, snd_ite, after_next, after_ite, implies_true, fixed_elim, faultAck_fixed]
theorem infoFaultCaptureRead_fixed : OpFixed infoFaultCaptureRead := by
  constructor <;> intro e s <;> simp only [infoFaultCaptureRead, fixed_mk, fixed_ite, ite_self, fixed_foldl, fst_ite, snd_ite, after_next, after_ite, implies_true, fixed_elim]
theorem infoFaultReactionSet_fixed : OpFixed infoFaultReactionSet := by
  constructor <;> intro e s <;> simp only [infoFaultReactionSet, fixed_mk, fixed_ite, ite_self, fixed_foldl, fst_ite, snd_ite, after_next, after_ite, implies_true, fixed_elim, setReaction_fixed]
theorem infoFaultInject_fixed : OpFixed infoFaultInject := by
  constructor <;> intro e s <;> simp only [infoFaultInject, fixed_mk, fixed_ite, ite_self, fixed_foldl, fst_ite, snd_ite, after_next, after_ite, implies_true, fixed_elim, faultInject_fixed]
theorem infoPwrStateReq_fixed : OpFixed infoPwrStateReq := by
  constructor <;> intro e s <;> simp only [infoPwrStateReq, fixed_mk, fixed_ite, ite_self, fixed_foldl, fst_ite, snd_ite, after_next, after_ite, implies_true, fixed_elim, pwrStateReq_fixed]
theorem infoClkStatus_fixed : OpFixed infoClkStatus := by
  constructor <;> intro e s <;> simp only [infoClkStatus, fixed_mk, fixed_ite, ite_self, fixed_foldl, fst_ite, snd_ite, after_next, after_ite, implies_true, fixed_elim]
theorem infoClkGate_fixed : OpFixed infoClkGate := by
  constructor <;> intro e s <;> simp only [infoClkGate, fixed_mk, fixed_ite, ite_self, fixed_foldl, fst_ite, snd_ite, after_next, after_ite, implies_true, fixed_elim, clkGate_fixed]
theorem infoWakeCfg_fixed : OpFixed infoWakeCfg := by
  constructor <;> intro e s <;> simp only [infoWakeCfg, fixed_mk, fixed_ite, ite_self, fixed_foldl, fst_ite, snd_ite, after_next, after_ite, implies_true, fixed_elim, wakeCfg_fixed]
theorem infoSnapTake_fixed : OpFixed infoSnapTake := by
  constructor <;> intro e s <;> simp only [infoSnapTake, fixed_mk, fixed_ite, ite_self, fixed_foldl, fst_ite, snd_ite, after_next, after_ite, implies_true, fixed_elim, snapAccept_fixed, snapTake_fixed]
theorem infoSnapRead_fixed : OpFixed infoSnapRead := by
  constructor <;> intro e s <;> simp only [infoSnapRead, fixed_mk, fixed_ite, ite_self, fixed_foldl, fst_ite, snd_ite, after_next, after_ite, implies_true, fixed_elim, snapRead_fixed]
theorem infoSnapRelease_fixed : OpFixed infoSnapRelease := by
  constructor <;> intro e s <;> simp only [infoSnapRelease, fixed_mk, fixed_ite, ite_self, fixed_foldl, fst_ite, snd_ite, after_next, after_ite, implies_true, fixed_elim, snapRelease_fixed]
theorem infoCounterRead_fixed : OpFixed infoCounterRead := by
  constructor <;> intro e s <;> simp only [infoCounterRead, fixed_mk, fixed_ite, ite_self, fixed_foldl, fst_ite, snd_ite, after_next, after_ite, implies_true, fixed_elim, counterRead_fixed]
theorem infoLoomPlacementGet_fixed : OpFixed infoLoomPlacementGet := by
  constructor <;> intro e s <;> simp only [infoLoomPlacementGet, fixed_mk, fixed_ite, ite_self, fixed_foldl, fst_ite, snd_ite, after_next, after_ite, implies_true, fixed_elim]
theorem infoLoomRotateCfg_fixed : OpFixed infoLoomRotateCfg := by
  constructor <;> intro e s <;> simp only [infoLoomRotateCfg, fixed_mk, fixed_ite, ite_self, fixed_foldl, fst_ite, snd_ite, after_next, after_ite, implies_true, fixed_elim, rotateCfg_fixed]
theorem infoLoomPin_fixed : OpFixed infoLoomPin := by
  constructor <;> intro e s <;> simp only [infoLoomPin, fixed_mk, fixed_ite, ite_self, fixed_foldl, fst_ite, snd_ite, after_next, after_ite, implies_true, fixed_elim, loomPin_fixed]
theorem infoLoomChainCfg_fixed : OpFixed infoLoomChainCfg := by
  constructor <;> intro e s <;> simp only [infoLoomChainCfg, fixed_mk, fixed_ite, ite_self, fixed_foldl, fst_ite, snd_ite, after_next, after_ite, implies_true, fixed_elim, chainCfg_fixed]
theorem infoLoomBudgetGet_fixed : OpFixed infoLoomBudgetGet := by
  constructor <;> intro e s <;> simp only [infoLoomBudgetGet, fixed_mk, fixed_ite, ite_self, fixed_foldl, fst_ite, snd_ite, after_next, after_ite, implies_true, fixed_elim]
theorem opsHigh_fixed (o : OpInfo) (h : o ∈ opsHigh) : OpFixed o := by
  simp only [opsHigh, List.mem_cons, List.not_mem_nil, or_false] at h
  rcases h with rfl | rfl | rfl | rfl | rfl | rfl | rfl | rfl | rfl | rfl | rfl | rfl | rfl | rfl | rfl | rfl | rfl | rfl | rfl | rfl | rfl | rfl | rfl | rfl | rfl | rfl
  · exact infoCfgWrite_fixed
  · exact infoCfgRead_fixed
  · exact infoUpdateBegin_fixed
  · exact infoUpdateBlock_fixed
  · exact infoUpdateVerify_fixed
  · exact infoUpdateCommit_fixed
  · exact infoUpdateAbort_fixed
  · exact infoUpdateConfirm_fixed
  · exact infoFaultStatus_fixed
  · exact infoFaultAck_fixed
  · exact infoFaultCaptureRead_fixed
  · exact infoFaultReactionSet_fixed
  · exact infoFaultInject_fixed
  · exact infoPwrStateReq_fixed
  · exact infoClkStatus_fixed
  · exact infoClkGate_fixed
  · exact infoWakeCfg_fixed
  · exact infoSnapTake_fixed
  · exact infoSnapRead_fixed
  · exact infoSnapRelease_fixed
  · exact infoCounterRead_fixed
  · exact infoLoomPlacementGet_fixed
  · exact infoLoomRotateCfg_fixed
  · exact infoLoomPin_fixed
  · exact infoLoomChainCfg_fixed
  · exact infoLoomBudgetGet_fixed
theorem opInfo_fixed (op : Nat) (o : OpInfo) (h : opInfo op = some o) : OpFixed o := by
  have hm := List.mem_of_find?_eq_some h
  rcases List.mem_append.mp hm with hm | hm
  · rcases List.mem_append.mp hm with hm | hm
    · exact opsLow_fixed o hm
    · exact opsMid_fixed o hm
  · exact opsHigh_fixed o hm
set_option maxRecDepth 4000 in
@[simp] theorem stageFour_fixed (h : Head) (body : List Byte) (s : State) : (stageFour h body s).fixed = s.fixed := by
  unfold stageFour
  dsimp only
  split
  · exact refuseFour_fixed _ _ _ s
  · split
    · exact refuseFour_fixed _ _ _ s
    · rename_i o ho
      simp only [fixed_ite, refuseFour_fixed, submit_fixed o _ s (opInfo_fixed _ o ho).1 (opInfo_fixed _ o ho).2, ite_self]

@[simp] theorem takePlain_fixed (h : Head) (l : List Byte) (trail : Nat) (s : State) : (takePlain h l trail s).fixed = s.fixed := by
  simp only [takePlain, fixed_mk, fixed_ite, ite_self, fixed_foldl, fst_ite, snd_ite, after_next, after_ite, implies_true, fixed_elim, passed3_fixed, refuseFrame_fixed, stageFour_fixed]

set_option maxRecDepth 4000 in
@[simp] theorem takeOwn_fixed (h : Head) (l : List Byte) (s : State) : (takeOwn h l s).fixed = s.fixed := by
  simp only [takeOwn, fixed_mk, fixed_ite, ite_self, fixed_foldl, fst_ite, snd_ite, after_next, after_ite, implies_true, fixed_elim, authFail_fixed, bump_fixed, modSlot_fixed, passed3_fixed, refuseFrame_fixed, stageFour_fixed, takePlain_fixed]
  repeat' split
  all_goals (first | (with_reducible rfl) | simp only [fixed_mk, fixed_ite, ite_self, fixed_foldl, fst_ite, snd_ite, after_next, after_ite, implies_true, fixed_elim, authFail_fixed, bump_fixed, modSlot_fixed, passed3_fixed, refuseFrame_fixed, stageFour_fixed, takePlain_fixed])

@[simp] theorem takeFrame_fixed (p : Port) (peer : Peer) (l : List Byte) (s : State) : (takeFrame p peer l s).fixed = s.fixed := by
  simp only [takeFrame, fixed_mk, fixed_ite, ite_self, fixed_foldl, fst_ite, snd_ite, after_next, after_ite, implies_true, fixed_elim, forward_fixed, takeOwn_fixed]

theorem interpret_fixed (n : Nat) (s : State) : (interpret n s).fixed = s.fixed := by
  induction n generalizing s with
  | zero => rfl
  | succ n ih =>
    simp only [interpret]
    split
    · rfl
    · split
      · rfl
      · simp only [ih, takeFrame_fixed, modHost_fixed]
set_option maxRecDepth 4000 in
@[simp] theorem execEodenRequest_fixed (t : Nat) (port : Port) (peer : Peer) (frame : List Byte) (s : State) : (after (execEodenRequest t port peer frame s) s).fixed = s.fixed := by
  simp only [execEodenRequest, fixed_mk, fixed_ite, ite_self, fixed_foldl, fst_ite, snd_ite, after_next, after_ite, implies_true, fixed_elim, toL_fixed, pushIn_fixed, interpret_fixed]

theorem takeOp_fixed (op : Nat) (e : Entry) (s : State) : ((opInfo op).elim s (fun o => carryOut o e s)).fixed = s.fixed := by
  cases ho : opInfo op with
  | none => rfl
  | some o => exact carryOut_fixed o e s (opInfo_fixed op o ho).1
set_option maxRecDepth 4000 in
@[simp] theorem execRequestDispatch_fixed (t : Nat) (s : State) : (after (execRequestDispatch t s) s).fixed = s.fixed := by
  simp only [execRequestDispatch, after_next]
  split
  · exact toL_fixed t s
  · split
    · exact toL_fixed t s
    · rw [takeOp_fixed, toL_fixed]

set_option maxRecDepth 4000 in
@[simp] theorem execSnapalignExpired_fixed (s : State) : (after (execSnapalignExpired s) s).fixed = s.fixed := by
  simp only [execSnapalignExpired, fixed_mk, fixed_ite, ite_self, fixed_foldl, fst_ite, snd_ite, after_next, after_ite, implies_true, fixed_elim, abortWhere_fixed, toL_fixed]
  repeat' split
  all_goals (first | (with_reducible rfl) | simp only [fixed_mk, fixed_ite, ite_self, fixed_foldl, fst_ite, snd_ite, after_next, after_ite, implies_true, fixed_elim, abortWhere_fixed, toL_fixed])

@[simp] theorem alignOutputs_fixed (t : Nat) (s0 s : State) : (alignOutputs t s0 s).fixed = s.fixed := by
  simp only [alignOutputs, fixed_mk, fixed_ite, ite_self, fixed_foldl, fst_ite, snd_ite, after_next, after_ite, implies_true, fixed_elim, modSkL_fixed, modWeft_fixed]

set_option maxRecDepth 4000 in
@[simp] theorem releaseAligned_fixed (t : Nat) (s : State) : (releaseAligned t s).fixed = s.fixed := by
  unfold releaseAligned
  dsimp only
  rw [alignOutputs_fixed, fixed_foldl _ (fun s e => ?_), modFlight_fixed]
  split
  · exact takeOp_fixed _ _ _
  · rfl

set_option maxRecDepth 4000 in
@[simp] theorem execSnapshotLatch_fixed (s : State) : (after (execSnapshotLatch s) s).fixed = s.fixed := by
  simp only [execSnapshotLatch, fixed_mk, fixed_ite, ite_self, fixed_foldl, fst_ite, snd_ite, after_next, after_ite, implies_true, fixed_elim, latchSet_fixed, modReel_fixed, releaseAligned_fixed, snapshotDone_fixed, toL_fixed]
  repeat' split
  all_goals (first | (with_reducible rfl) | simp only [fixed_mk, fixed_ite, ite_self, fixed_foldl, fst_ite, snd_ite, after_next, after_ite, implies_true, fixed_elim, latchSet_fixed, modReel_fixed, releaseAligned_fixed, snapshotDone_fixed, toL_fixed])

@[simp] theorem regWrite_fixed (a : Nat) (v : Word) (r : Req) (s : State) : (regWrite a v r s).fixed = s.fixed := by
  simp only [regWrite, fixed_mk, fixed_ite, ite_self, fixed_foldl, fst_ite, snd_ite, after_next, after_ite, implies_true, fixed_elim, command_fixed, writeReg_fixed, infoWriteReg]

@[simp] theorem execSkeinCtlWrite_fixed (k : Nat) (v : Word) (r : Req) (s : State) : (after (execSkeinCtlWrite k v r s) s).fixed = s.fixed := by
  simp only [execSkeinCtlWrite, fixed_mk, fixed_ite, ite_self, fixed_foldl, fst_ite, snd_ite, after_next, after_ite, implies_true, fixed_elim, regWrite_fixed]

@[simp] theorem execLoomSkeinRegWrite_fixed (k : Nat) (pin : Bool) (v : Word) (r : Req) (s : State) : (after (execLoomSkeinRegWrite k pin v r s) s).fixed = s.fixed := by
  simp only [execLoomSkeinRegWrite, fixed_mk, fixed_ite, ite_self, fixed_foldl, fst_ite, snd_ite, after_next, after_ite, implies_true, fixed_elim, regWrite_fixed]

@[simp] theorem execFioPinCfgWrite_fixed (i : Nat) (v : Word) (r : Req) (s : State) : (after (execFioPinCfgWrite i v r s) s).fixed = s.fixed := by
  simp only [execFioPinCfgWrite, fixed_mk, fixed_ite, ite_self, fixed_foldl, fst_ite, snd_ite, after_next, after_ite, implies_true, fixed_elim, regWrite_fixed]

@[simp] theorem execFioOutWrite_fixed (n : Nat) (v : Word) (r : Req) (s : State) : (after (execFioOutWrite n v r s) s).fixed = s.fixed := by
  simp only [execFioOutWrite, fixed_mk, fixed_ite, ite_self, fixed_foldl, fst_ite, snd_ite, after_next, after_ite, implies_true, fixed_elim, regWrite_fixed]

@[simp] theorem execWhorlProgramWrite_fixed (i : Nat) (v : Word) (r : Req) (s : State) : (after (execWhorlProgramWrite i v r s) s).fixed = s.fixed := by
  simp only [execWhorlProgramWrite, fixed_mk, fixed_ite, ite_self, fixed_foldl, fst_ite, snd_ite, after_next, after_ite, implies_true, fixed_elim, regWrite_fixed]

@[simp] theorem execRouteEntryWrite_fixed (e j : Nat) (v : Word) (r : Req) (s : State) : (after (execRouteEntryWrite e j v r s) s).fixed = s.fixed := by
  simp only [execRouteEntryWrite, fixed_mk, fixed_ite, ite_self, fixed_foldl, fst_ite, snd_ite, after_next, after_ite, implies_true, fixed_elim, regWrite_fixed]

@[simp] theorem execCanTrigWrite_fixed (i : Nat) (win : Bool) (v : Word) (r : Req) (s : State) : (after (execCanTrigWrite i win v r s) s).fixed = s.fixed := by
  simp only [execCanTrigWrite, fixed_mk, fixed_ite, ite_self, fixed_foldl, fst_ite, snd_ite, after_next, after_ite, implies_true, fixed_elim, regWrite_fixed]

@[simp] theorem execCanAuthWrite_fixed (a j : Nat) (v : Word) (r : Req) (s : State) : (after (execCanAuthWrite a j v r s) s).fixed = s.fixed := by
  simp only [execCanAuthWrite, fixed_mk, fixed_ite, ite_self, fixed_foldl, fst_ite, snd_ite, after_next, after_ite, implies_true, fixed_elim, regWrite_fixed]

@[simp] theorem execRetrain_fixed (v : Word) (r : Req) (s : State) : (after (execRetrain v r s) s).fixed = s.fixed := by
  simp only [execRetrain, fixed_mk, fixed_ite, ite_self, fixed_foldl, fst_ite, snd_ite, after_next, after_ite, implies_true, fixed_elim, regWrite_fixed]

@[simp] theorem execWeftHoldWrite_fixed (hold : Nat) (r : Req) (s : State) : (after (execWeftHoldWrite hold r s) s).fixed = s.fixed := by
  simp only [execWeftHoldWrite, fixed_mk, fixed_ite, ite_self, fixed_foldl, fst_ite, snd_ite, after_next, after_ite, implies_true, fixed_elim, regWrite_fixed]

@[simp] theorem execColiWrite_fixed (p q : Nat) (v : Word) (r : Req) (s : State) : (after (execColiWrite p q v r s) s).fixed = s.fixed := by
  simp only [execColiWrite, fixed_mk, fixed_ite, ite_self, fixed_foldl, fst_ite, snd_ite, after_next, after_ite, implies_true, fixed_elim, regWrite_fixed]

@[simp] theorem execPortFsWrite_fixed (p : Nat) (v : Word) (r : Req) (s : State) : (after (execPortFsWrite p v r s) s).fixed = s.fixed := by
  simp only [execPortFsWrite, fixed_mk, fixed_ite, ite_self, fixed_foldl, fst_ite, snd_ite, after_next, after_ite, implies_true, fixed_elim, regWrite_fixed]

@[simp] theorem execFrameMemoryWrite_fixed (i : Nat) (v : Word) (r : Req) (s : State) : (after (execFrameMemoryWrite i v r s) s).fixed = s.fixed := by
  simp only [execFrameMemoryWrite, fixed_mk, fixed_ite, ite_self, fixed_foldl, fst_ite, snd_ite, after_next, after_ite, implies_true, fixed_elim, regWrite_fixed]

@[simp] theorem execRootSelectWrite_fixed (v : Word) (r : Req) (s : State) : (after (execRootSelectWrite v r s) s).fixed = s.fixed := by
  simp only [execRootSelectWrite, fixed_mk, fixed_ite, ite_self, fixed_foldl, fst_ite, snd_ite, after_next, after_ite, implies_true, fixed_elim, regWrite_fixed]

@[simp] theorem execVcoreSetWrite_fixed (v : Word) (r : Req) (s : State) : (after (execVcoreSetWrite v r s) s).fixed = s.fixed := by
  simp only [execVcoreSetWrite, fixed_mk, fixed_ite, ite_self, fixed_foldl, fst_ite, snd_ite, after_next, after_ite, implies_true, fixed_elim, regWrite_fixed]

@[simp] theorem execFioFaultClear_fixed (r : Req) (s : State) : (after (execFioFaultClear r s) s).fixed = s.fixed := by
  simp only [execFioFaultClear, fixed_mk, fixed_ite, ite_self, fixed_foldl, fst_ite, snd_ite, after_next, after_ite, implies_true, fixed_elim, regWrite_fixed]

@[simp] theorem execExtTempWrite_fixed (v : Word) (r : Req) (s : State) : (after (execExtTempWrite v r s) s).fixed = s.fixed := by
  simp only [execExtTempWrite, fixed_mk, fixed_ite, ite_self, fixed_foldl, fst_ite, snd_ite, after_next, after_ite, implies_true, fixed_elim, regWrite_fixed]

@[simp] theorem execErrcapRead_fixed (k : Nat) (r : Req) (s : State) : (after (execErrcapRead k r s) s).fixed = s.fixed := by
  simp only [execErrcapRead, fixed_mk, fixed_ite, ite_self, fixed_foldl, fst_ite, snd_ite, after_next, after_ite, implies_true, fixed_elim, command_fixed, readClears_fixed, infoReadReg]

@[simp] theorem execGenericRegWrite_fixed (a : Nat) (v : Word) (r : Req) (s : State) : (after (execGenericRegWrite a v r s) s).fixed = s.fixed := by
  simp only [execGenericRegWrite, fixed_mk, fixed_ite, ite_self, fixed_foldl, fst_ite, snd_ite, after_next, after_ite, implies_true, fixed_elim, regWrite_fixed]


/-! ### The two resets that sample the straps -/

/-- L_DIE_POWER_ON keeps the queue and takes the straps as given (R49). -/
@[simp] theorem execLDiePowerOn_fixed (t id : Nat) (split bootsel : Bool) (s : State) :
    (after (execLDiePowerOn t id split bootsel s) s).fixed = (s.pending, id % 4, split, bootsel) := by
  have h : ∀ u : State, u.pending = s.pending → (sampleStraps id split bootsel u).fixed = (s.pending, id % 4, split, bootsel) := by
    intro u hu
    simp [sampleStraps, State.fixed, hu]
  have hp : (startLDie .powerOn (toP t s)).pending = s.pending := by
    exact (congrArg Prod.fst (startLDie_fixed .powerOn (toP t s))).trans rfl
  simp only [execLDiePowerOn, after_next]
  split
  · exact h _ hp
  · split
    · rw [wakePDie_fixed]; exact h _ hp
    · exact h _ hp

/-- RSTN keeps the queue; where it resets, it takes the straps as given (R49). -/
theorem execRstn_fixed (t ns id : Nat) (split bootsel : Bool) (s : State) :
    (after (execRstn t ns id split bootsel s) s).fixed = s.fixed ∨
      (after (execRstn t ns id split bootsel s) s).fixed = (s.pending, id % 4, split, bootsel) := by
  have h : ∀ u : State, u.pending = s.pending → (sampleStraps id split bootsel u).fixed = (s.pending, id % 4, split, bootsel) := by
    intro u hu
    simp [sampleStraps, State.fixed, hu]
  have hp : ∀ u : State, u.fixed = s.fixed → (startLDie .rstn u).pending = s.pending := by
    intro u hu
    have := congrArg Prod.fst ((startLDie_fixed .rstn u).trans hu)
    simpa [State.fixed] using this
  simp only [execRstn, after_next]
  split
  · left; simp
  · by_cases hn : ns < 1000
    · simp only [hn, if_true]
      split
      · right; exact h _ (hp _ (by simp))
      · left; simp
    · simp only [hn, if_false]
      split
      · right; exact h _ (hp _ (by simp))
      · left; simp


end Sys2Proof.Machine
end

