-- ==== Sys2Proof/Laws/State.lean ====
section
/-! SUPPORT. What the updates of the parts of the state change and what they leave: one lemma per field per update. -/

namespace Sys2Proof.Machine

@[simp] theorem modHost_pending (f : HostSt → HostSt) (s : State) : (modHost f s).pending = s.pending := rfl
@[simp] theorem modHost_now (f : HostSt → HostSt) (s : State) : (modHost f s).now = s.now := rfl
@[simp] theorem modHost_pNow (f : HostSt → HostSt) (s : State) : (modHost f s).pNow = s.pNow := rfl
@[simp] theorem modHost_free (f : HostSt → HostSt) (s : State) : (modHost f s).free = s.free := rfl
@[simp] theorem modHost_counters (f : HostSt → HostSt) (s : State) : (modHost f s).counters = s.counters := rfl
@[simp] theorem modHost_ldie (f : HostSt → HostSt) (s : State) : (modHost f s).ldie = s.ldie := rfl
@[simp] theorem modHost_deviceId (f : HostSt → HostSt) (s : State) : (modHost f s).deviceId = s.deviceId := rfl
@[simp] theorem modHost_split (f : HostSt → HostSt) (s : State) : (modHost f s).split = s.split := rfl
@[simp] theorem modHost_bootsel (f : HostSt → HostSt) (s : State) : (modHost f s).bootsel = s.bootsel := rfl
@[simp] theorem modHost_host (f : HostSt → HostSt) (s : State) : (modHost f s).host = f s.host := rfl
@[simp] theorem modHost_loom (f : HostSt → HostSt) (s : State) : (modHost f s).loom = s.loom := rfl
@[simp] theorem modHost_pdie (f : HostSt → HostSt) (s : State) : (modHost f s).pdie = s.pdie := rfl
@[simp] theorem modHost_weft (f : HostSt → HostSt) (s : State) : (modHost f s).weft = s.weft := rfl
@[simp] theorem modHost_act (f : HostSt → HostSt) (s : State) : (modHost f s).act = s.act := rfl
@[simp] theorem modHost_light (f : HostSt → HostSt) (s : State) : (modHost f s).light = s.light := rfl
@[simp] theorem modHost_fio (f : HostSt → HostSt) (s : State) : (modHost f s).fio = s.fio := rfl
@[simp] theorem modHost_can (f : HostSt → HostSt) (s : State) : (modHost f s).can = s.can := rfl
@[simp] theorem modHost_nm (f : HostSt → HostSt) (s : State) : (modHost f s).nm = s.nm := rfl
@[simp] theorem modHost_keys (f : HostSt → HostSt) (s : State) : (modHost f s).keys = s.keys := rfl
@[simp] theorem modHost_otp (f : HostSt → HostSt) (s : State) : (modHost f s).otp = s.otp := rfl
@[simp] theorem modHost_range (f : HostSt → HostSt) (s : State) : (modHost f s).range = s.range := rfl
@[simp] theorem modHost_store (f : HostSt → HostSt) (s : State) : (modHost f s).store = s.store := rfl
@[simp] theorem modHost_spindle (f : HostSt → HostSt) (s : State) : (modHost f s).spindle = s.spindle := rfl
@[simp] theorem modHost_faults (f : HostSt → HostSt) (s : State) : (modHost f s).faults = s.faults := rfl
@[simp] theorem modHost_clk (f : HostSt → HostSt) (s : State) : (modHost f s).clk = s.clk := rfl

@[simp] theorem modLoom_pending (f : LoomSt → LoomSt) (s : State) : (modLoom f s).pending = s.pending := rfl
@[simp] theorem modLoom_now (f : LoomSt → LoomSt) (s : State) : (modLoom f s).now = s.now := rfl
@[simp] theorem modLoom_pNow (f : LoomSt → LoomSt) (s : State) : (modLoom f s).pNow = s.pNow := rfl
@[simp] theorem modLoom_free (f : LoomSt → LoomSt) (s : State) : (modLoom f s).free = s.free := rfl
@[simp] theorem modLoom_counters (f : LoomSt → LoomSt) (s : State) : (modLoom f s).counters = s.counters := rfl
@[simp] theorem modLoom_ldie (f : LoomSt → LoomSt) (s : State) : (modLoom f s).ldie = s.ldie := rfl
@[simp] theorem modLoom_deviceId (f : LoomSt → LoomSt) (s : State) : (modLoom f s).deviceId = s.deviceId := rfl
@[simp] theorem modLoom_split (f : LoomSt → LoomSt) (s : State) : (modLoom f s).split = s.split := rfl
@[simp] theorem modLoom_bootsel (f : LoomSt → LoomSt) (s : State) : (modLoom f s).bootsel = s.bootsel := rfl
@[simp] theorem modLoom_host (f : LoomSt → LoomSt) (s : State) : (modLoom f s).host = s.host := rfl
@[simp] theorem modLoom_loom (f : LoomSt → LoomSt) (s : State) : (modLoom f s).loom = f s.loom := rfl
@[simp] theorem modLoom_pdie (f : LoomSt → LoomSt) (s : State) : (modLoom f s).pdie = s.pdie := rfl
@[simp] theorem modLoom_weft (f : LoomSt → LoomSt) (s : State) : (modLoom f s).weft = s.weft := rfl
@[simp] theorem modLoom_act (f : LoomSt → LoomSt) (s : State) : (modLoom f s).act = s.act := rfl
@[simp] theorem modLoom_light (f : LoomSt → LoomSt) (s : State) : (modLoom f s).light = s.light := rfl
@[simp] theorem modLoom_fio (f : LoomSt → LoomSt) (s : State) : (modLoom f s).fio = s.fio := rfl
@[simp] theorem modLoom_can (f : LoomSt → LoomSt) (s : State) : (modLoom f s).can = s.can := rfl
@[simp] theorem modLoom_nm (f : LoomSt → LoomSt) (s : State) : (modLoom f s).nm = s.nm := rfl
@[simp] theorem modLoom_keys (f : LoomSt → LoomSt) (s : State) : (modLoom f s).keys = s.keys := rfl
@[simp] theorem modLoom_otp (f : LoomSt → LoomSt) (s : State) : (modLoom f s).otp = s.otp := rfl
@[simp] theorem modLoom_range (f : LoomSt → LoomSt) (s : State) : (modLoom f s).range = s.range := rfl
@[simp] theorem modLoom_store (f : LoomSt → LoomSt) (s : State) : (modLoom f s).store = s.store := rfl
@[simp] theorem modLoom_spindle (f : LoomSt → LoomSt) (s : State) : (modLoom f s).spindle = s.spindle := rfl
@[simp] theorem modLoom_faults (f : LoomSt → LoomSt) (s : State) : (modLoom f s).faults = s.faults := rfl
@[simp] theorem modLoom_clk (f : LoomSt → LoomSt) (s : State) : (modLoom f s).clk = s.clk := rfl

@[simp] theorem modP_pending (f : PDie → PDie) (s : State) : (modP f s).pending = s.pending := rfl
@[simp] theorem modP_now (f : PDie → PDie) (s : State) : (modP f s).now = s.now := rfl
@[simp] theorem modP_pNow (f : PDie → PDie) (s : State) : (modP f s).pNow = s.pNow := rfl
@[simp] theorem modP_free (f : PDie → PDie) (s : State) : (modP f s).free = s.free := rfl
@[simp] theorem modP_counters (f : PDie → PDie) (s : State) : (modP f s).counters = s.counters := rfl
@[simp] theorem modP_ldie (f : PDie → PDie) (s : State) : (modP f s).ldie = s.ldie := rfl
@[simp] theorem modP_deviceId (f : PDie → PDie) (s : State) : (modP f s).deviceId = s.deviceId := rfl
@[simp] theorem modP_split (f : PDie → PDie) (s : State) : (modP f s).split = s.split := rfl
@[simp] theorem modP_bootsel (f : PDie → PDie) (s : State) : (modP f s).bootsel = s.bootsel := rfl
@[simp] theorem modP_host (f : PDie → PDie) (s : State) : (modP f s).host = s.host := rfl
@[simp] theorem modP_loom (f : PDie → PDie) (s : State) : (modP f s).loom = s.loom := rfl
@[simp] theorem modP_pdie (f : PDie → PDie) (s : State) : (modP f s).pdie = f s.pdie := rfl
@[simp] theorem modP_weft (f : PDie → PDie) (s : State) : (modP f s).weft = s.weft := rfl
@[simp] theorem modP_act (f : PDie → PDie) (s : State) : (modP f s).act = s.act := rfl
@[simp] theorem modP_light (f : PDie → PDie) (s : State) : (modP f s).light = s.light := rfl
@[simp] theorem modP_fio (f : PDie → PDie) (s : State) : (modP f s).fio = s.fio := rfl
@[simp] theorem modP_can (f : PDie → PDie) (s : State) : (modP f s).can = s.can := rfl
@[simp] theorem modP_nm (f : PDie → PDie) (s : State) : (modP f s).nm = s.nm := rfl
@[simp] theorem modP_keys (f : PDie → PDie) (s : State) : (modP f s).keys = s.keys := rfl
@[simp] theorem modP_otp (f : PDie → PDie) (s : State) : (modP f s).otp = s.otp := rfl
@[simp] theorem modP_range (f : PDie → PDie) (s : State) : (modP f s).range = s.range := rfl
@[simp] theorem modP_store (f : PDie → PDie) (s : State) : (modP f s).store = s.store := rfl
@[simp] theorem modP_spindle (f : PDie → PDie) (s : State) : (modP f s).spindle = s.spindle := rfl
@[simp] theorem modP_faults (f : PDie → PDie) (s : State) : (modP f s).faults = s.faults := rfl
@[simp] theorem modP_clk (f : PDie → PDie) (s : State) : (modP f s).clk = s.clk := rfl

@[simp] theorem modWeft_pending (f : WeftL → WeftL) (s : State) : (modWeft f s).pending = s.pending := rfl
@[simp] theorem modWeft_now (f : WeftL → WeftL) (s : State) : (modWeft f s).now = s.now := rfl
@[simp] theorem modWeft_pNow (f : WeftL → WeftL) (s : State) : (modWeft f s).pNow = s.pNow := rfl
@[simp] theorem modWeft_free (f : WeftL → WeftL) (s : State) : (modWeft f s).free = s.free := rfl
@[simp] theorem modWeft_counters (f : WeftL → WeftL) (s : State) : (modWeft f s).counters = s.counters := rfl
@[simp] theorem modWeft_ldie (f : WeftL → WeftL) (s : State) : (modWeft f s).ldie = s.ldie := rfl
@[simp] theorem modWeft_deviceId (f : WeftL → WeftL) (s : State) : (modWeft f s).deviceId = s.deviceId := rfl
@[simp] theorem modWeft_split (f : WeftL → WeftL) (s : State) : (modWeft f s).split = s.split := rfl
@[simp] theorem modWeft_bootsel (f : WeftL → WeftL) (s : State) : (modWeft f s).bootsel = s.bootsel := rfl
@[simp] theorem modWeft_host (f : WeftL → WeftL) (s : State) : (modWeft f s).host = s.host := rfl
@[simp] theorem modWeft_loom (f : WeftL → WeftL) (s : State) : (modWeft f s).loom = s.loom := rfl
@[simp] theorem modWeft_pdie (f : WeftL → WeftL) (s : State) : (modWeft f s).pdie = s.pdie := rfl
@[simp] theorem modWeft_weft (f : WeftL → WeftL) (s : State) : (modWeft f s).weft = f s.weft := rfl
@[simp] theorem modWeft_act (f : WeftL → WeftL) (s : State) : (modWeft f s).act = s.act := rfl
@[simp] theorem modWeft_light (f : WeftL → WeftL) (s : State) : (modWeft f s).light = s.light := rfl
@[simp] theorem modWeft_fio (f : WeftL → WeftL) (s : State) : (modWeft f s).fio = s.fio := rfl
@[simp] theorem modWeft_can (f : WeftL → WeftL) (s : State) : (modWeft f s).can = s.can := rfl
@[simp] theorem modWeft_nm (f : WeftL → WeftL) (s : State) : (modWeft f s).nm = s.nm := rfl
@[simp] theorem modWeft_keys (f : WeftL → WeftL) (s : State) : (modWeft f s).keys = s.keys := rfl
@[simp] theorem modWeft_otp (f : WeftL → WeftL) (s : State) : (modWeft f s).otp = s.otp := rfl
@[simp] theorem modWeft_range (f : WeftL → WeftL) (s : State) : (modWeft f s).range = s.range := rfl
@[simp] theorem modWeft_store (f : WeftL → WeftL) (s : State) : (modWeft f s).store = s.store := rfl
@[simp] theorem modWeft_spindle (f : WeftL → WeftL) (s : State) : (modWeft f s).spindle = s.spindle := rfl
@[simp] theorem modWeft_faults (f : WeftL → WeftL) (s : State) : (modWeft f s).faults = s.faults := rfl
@[simp] theorem modWeft_clk (f : WeftL → WeftL) (s : State) : (modWeft f s).clk = s.clk := rfl

@[simp] theorem modFaults_pending (f : FaultSt → FaultSt) (s : State) : (modFaults f s).pending = s.pending := rfl
@[simp] theorem modFaults_now (f : FaultSt → FaultSt) (s : State) : (modFaults f s).now = s.now := rfl
@[simp] theorem modFaults_pNow (f : FaultSt → FaultSt) (s : State) : (modFaults f s).pNow = s.pNow := rfl
@[simp] theorem modFaults_free (f : FaultSt → FaultSt) (s : State) : (modFaults f s).free = s.free := rfl
@[simp] theorem modFaults_counters (f : FaultSt → FaultSt) (s : State) : (modFaults f s).counters = s.counters := rfl
@[simp] theorem modFaults_ldie (f : FaultSt → FaultSt) (s : State) : (modFaults f s).ldie = s.ldie := rfl
@[simp] theorem modFaults_deviceId (f : FaultSt → FaultSt) (s : State) : (modFaults f s).deviceId = s.deviceId := rfl
@[simp] theorem modFaults_split (f : FaultSt → FaultSt) (s : State) : (modFaults f s).split = s.split := rfl
@[simp] theorem modFaults_bootsel (f : FaultSt → FaultSt) (s : State) : (modFaults f s).bootsel = s.bootsel := rfl
@[simp] theorem modFaults_host (f : FaultSt → FaultSt) (s : State) : (modFaults f s).host = s.host := rfl
@[simp] theorem modFaults_loom (f : FaultSt → FaultSt) (s : State) : (modFaults f s).loom = s.loom := rfl
@[simp] theorem modFaults_pdie (f : FaultSt → FaultSt) (s : State) : (modFaults f s).pdie = s.pdie := rfl
@[simp] theorem modFaults_weft (f : FaultSt → FaultSt) (s : State) : (modFaults f s).weft = s.weft := rfl
@[simp] theorem modFaults_act (f : FaultSt → FaultSt) (s : State) : (modFaults f s).act = s.act := rfl
@[simp] theorem modFaults_light (f : FaultSt → FaultSt) (s : State) : (modFaults f s).light = s.light := rfl
@[simp] theorem modFaults_fio (f : FaultSt → FaultSt) (s : State) : (modFaults f s).fio = s.fio := rfl
@[simp] theorem modFaults_can (f : FaultSt → FaultSt) (s : State) : (modFaults f s).can = s.can := rfl
@[simp] theorem modFaults_nm (f : FaultSt → FaultSt) (s : State) : (modFaults f s).nm = s.nm := rfl
@[simp] theorem modFaults_keys (f : FaultSt → FaultSt) (s : State) : (modFaults f s).keys = s.keys := rfl
@[simp] theorem modFaults_otp (f : FaultSt → FaultSt) (s : State) : (modFaults f s).otp = s.otp := rfl
@[simp] theorem modFaults_range (f : FaultSt → FaultSt) (s : State) : (modFaults f s).range = s.range := rfl
@[simp] theorem modFaults_store (f : FaultSt → FaultSt) (s : State) : (modFaults f s).store = s.store := rfl
@[simp] theorem modFaults_spindle (f : FaultSt → FaultSt) (s : State) : (modFaults f s).spindle = s.spindle := rfl
@[simp] theorem modFaults_faults (f : FaultSt → FaultSt) (s : State) : (modFaults f s).faults = f s.faults := rfl
@[simp] theorem modFaults_clk (f : FaultSt → FaultSt) (s : State) : (modFaults f s).clk = s.clk := rfl

@[simp] theorem modSpindle_pending (f : Spindle → Spindle) (s : State) : (modSpindle f s).pending = s.pending := rfl
@[simp] theorem modSpindle_now (f : Spindle → Spindle) (s : State) : (modSpindle f s).now = s.now := rfl
@[simp] theorem modSpindle_pNow (f : Spindle → Spindle) (s : State) : (modSpindle f s).pNow = s.pNow := rfl
@[simp] theorem modSpindle_free (f : Spindle → Spindle) (s : State) : (modSpindle f s).free = s.free := rfl
@[simp] theorem modSpindle_counters (f : Spindle → Spindle) (s : State) : (modSpindle f s).counters = s.counters := rfl
@[simp] theorem modSpindle_ldie (f : Spindle → Spindle) (s : State) : (modSpindle f s).ldie = s.ldie := rfl
@[simp] theorem modSpindle_deviceId (f : Spindle → Spindle) (s : State) : (modSpindle f s).deviceId = s.deviceId := rfl
@[simp] theorem modSpindle_split (f : Spindle → Spindle) (s : State) : (modSpindle f s).split = s.split := rfl
@[simp] theorem modSpindle_bootsel (f : Spindle → Spindle) (s : State) : (modSpindle f s).bootsel = s.bootsel := rfl
@[simp] theorem modSpindle_host (f : Spindle → Spindle) (s : State) : (modSpindle f s).host = s.host := rfl
@[simp] theorem modSpindle_loom (f : Spindle → Spindle) (s : State) : (modSpindle f s).loom = s.loom := rfl
@[simp] theorem modSpindle_pdie (f : Spindle → Spindle) (s : State) : (modSpindle f s).pdie = s.pdie := rfl
@[simp] theorem modSpindle_weft (f : Spindle → Spindle) (s : State) : (modSpindle f s).weft = s.weft := rfl
@[simp] theorem modSpindle_act (f : Spindle → Spindle) (s : State) : (modSpindle f s).act = s.act := rfl
@[simp] theorem modSpindle_light (f : Spindle → Spindle) (s : State) : (modSpindle f s).light = s.light := rfl
@[simp] theorem modSpindle_fio (f : Spindle → Spindle) (s : State) : (modSpindle f s).fio = s.fio := rfl
@[simp] theorem modSpindle_can (f : Spindle → Spindle) (s : State) : (modSpindle f s).can = s.can := rfl
@[simp] theorem modSpindle_nm (f : Spindle → Spindle) (s : State) : (modSpindle f s).nm = s.nm := rfl
@[simp] theorem modSpindle_keys (f : Spindle → Spindle) (s : State) : (modSpindle f s).keys = s.keys := rfl
@[simp] theorem modSpindle_otp (f : Spindle → Spindle) (s : State) : (modSpindle f s).otp = s.otp := rfl
@[simp] theorem modSpindle_range (f : Spindle → Spindle) (s : State) : (modSpindle f s).range = s.range := rfl
@[simp] theorem modSpindle_store (f : Spindle → Spindle) (s : State) : (modSpindle f s).store = s.store := rfl
@[simp] theorem modSpindle_spindle (f : Spindle → Spindle) (s : State) : (modSpindle f s).spindle = f s.spindle := rfl
@[simp] theorem modSpindle_faults (f : Spindle → Spindle) (s : State) : (modSpindle f s).faults = s.faults := rfl
@[simp] theorem modSpindle_clk (f : Spindle → Spindle) (s : State) : (modSpindle f s).clk = s.clk := rfl

@[simp] theorem modAct_pending (f : ActSt → ActSt) (s : State) : (modAct f s).pending = s.pending := rfl
@[simp] theorem modAct_now (f : ActSt → ActSt) (s : State) : (modAct f s).now = s.now := rfl
@[simp] theorem modAct_pNow (f : ActSt → ActSt) (s : State) : (modAct f s).pNow = s.pNow := rfl
@[simp] theorem modAct_free (f : ActSt → ActSt) (s : State) : (modAct f s).free = s.free := rfl
@[simp] theorem modAct_counters (f : ActSt → ActSt) (s : State) : (modAct f s).counters = s.counters := rfl
@[simp] theorem modAct_ldie (f : ActSt → ActSt) (s : State) : (modAct f s).ldie = s.ldie := rfl
@[simp] theorem modAct_deviceId (f : ActSt → ActSt) (s : State) : (modAct f s).deviceId = s.deviceId := rfl
@[simp] theorem modAct_split (f : ActSt → ActSt) (s : State) : (modAct f s).split = s.split := rfl
@[simp] theorem modAct_bootsel (f : ActSt → ActSt) (s : State) : (modAct f s).bootsel = s.bootsel := rfl
@[simp] theorem modAct_host (f : ActSt → ActSt) (s : State) : (modAct f s).host = s.host := rfl
@[simp] theorem modAct_loom (f : ActSt → ActSt) (s : State) : (modAct f s).loom = s.loom := rfl
@[simp] theorem modAct_pdie (f : ActSt → ActSt) (s : State) : (modAct f s).pdie = s.pdie := rfl
@[simp] theorem modAct_weft (f : ActSt → ActSt) (s : State) : (modAct f s).weft = s.weft := rfl
@[simp] theorem modAct_act (f : ActSt → ActSt) (s : State) : (modAct f s).act = f s.act := rfl
@[simp] theorem modAct_light (f : ActSt → ActSt) (s : State) : (modAct f s).light = s.light := rfl
@[simp] theorem modAct_fio (f : ActSt → ActSt) (s : State) : (modAct f s).fio = s.fio := rfl
@[simp] theorem modAct_can (f : ActSt → ActSt) (s : State) : (modAct f s).can = s.can := rfl
@[simp] theorem modAct_nm (f : ActSt → ActSt) (s : State) : (modAct f s).nm = s.nm := rfl
@[simp] theorem modAct_keys (f : ActSt → ActSt) (s : State) : (modAct f s).keys = s.keys := rfl
@[simp] theorem modAct_otp (f : ActSt → ActSt) (s : State) : (modAct f s).otp = s.otp := rfl
@[simp] theorem modAct_range (f : ActSt → ActSt) (s : State) : (modAct f s).range = s.range := rfl
@[simp] theorem modAct_store (f : ActSt → ActSt) (s : State) : (modAct f s).store = s.store := rfl
@[simp] theorem modAct_spindle (f : ActSt → ActSt) (s : State) : (modAct f s).spindle = s.spindle := rfl
@[simp] theorem modAct_faults (f : ActSt → ActSt) (s : State) : (modAct f s).faults = s.faults := rfl
@[simp] theorem modAct_clk (f : ActSt → ActSt) (s : State) : (modAct f s).clk = s.clk := rfl

@[simp] theorem modLight_pending (f : LightSt → LightSt) (s : State) : (modLight f s).pending = s.pending := rfl
@[simp] theorem modLight_now (f : LightSt → LightSt) (s : State) : (modLight f s).now = s.now := rfl
@[simp] theorem modLight_pNow (f : LightSt → LightSt) (s : State) : (modLight f s).pNow = s.pNow := rfl
@[simp] theorem modLight_free (f : LightSt → LightSt) (s : State) : (modLight f s).free = s.free := rfl
@[simp] theorem modLight_counters (f : LightSt → LightSt) (s : State) : (modLight f s).counters = s.counters := rfl
@[simp] theorem modLight_ldie (f : LightSt → LightSt) (s : State) : (modLight f s).ldie = s.ldie := rfl
@[simp] theorem modLight_deviceId (f : LightSt → LightSt) (s : State) : (modLight f s).deviceId = s.deviceId := rfl
@[simp] theorem modLight_split (f : LightSt → LightSt) (s : State) : (modLight f s).split = s.split := rfl
@[simp] theorem modLight_bootsel (f : LightSt → LightSt) (s : State) : (modLight f s).bootsel = s.bootsel := rfl
@[simp] theorem modLight_host (f : LightSt → LightSt) (s : State) : (modLight f s).host = s.host := rfl
@[simp] theorem modLight_loom (f : LightSt → LightSt) (s : State) : (modLight f s).loom = s.loom := rfl
@[simp] theorem modLight_pdie (f : LightSt → LightSt) (s : State) : (modLight f s).pdie = s.pdie := rfl
@[simp] theorem modLight_weft (f : LightSt → LightSt) (s : State) : (modLight f s).weft = s.weft := rfl
@[simp] theorem modLight_act (f : LightSt → LightSt) (s : State) : (modLight f s).act = s.act := rfl
@[simp] theorem modLight_light (f : LightSt → LightSt) (s : State) : (modLight f s).light = f s.light := rfl
@[simp] theorem modLight_fio (f : LightSt → LightSt) (s : State) : (modLight f s).fio = s.fio := rfl
@[simp] theorem modLight_can (f : LightSt → LightSt) (s : State) : (modLight f s).can = s.can := rfl
@[simp] theorem modLight_nm (f : LightSt → LightSt) (s : State) : (modLight f s).nm = s.nm := rfl
@[simp] theorem modLight_keys (f : LightSt → LightSt) (s : State) : (modLight f s).keys = s.keys := rfl
@[simp] theorem modLight_otp (f : LightSt → LightSt) (s : State) : (modLight f s).otp = s.otp := rfl
@[simp] theorem modLight_range (f : LightSt → LightSt) (s : State) : (modLight f s).range = s.range := rfl
@[simp] theorem modLight_store (f : LightSt → LightSt) (s : State) : (modLight f s).store = s.store := rfl
@[simp] theorem modLight_spindle (f : LightSt → LightSt) (s : State) : (modLight f s).spindle = s.spindle := rfl
@[simp] theorem modLight_faults (f : LightSt → LightSt) (s : State) : (modLight f s).faults = s.faults := rfl
@[simp] theorem modLight_clk (f : LightSt → LightSt) (s : State) : (modLight f s).clk = s.clk := rfl

@[simp] theorem modFio_pending (f : FioL → FioL) (s : State) : (modFio f s).pending = s.pending := rfl
@[simp] theorem modFio_now (f : FioL → FioL) (s : State) : (modFio f s).now = s.now := rfl
@[simp] theorem modFio_pNow (f : FioL → FioL) (s : State) : (modFio f s).pNow = s.pNow := rfl
@[simp] theorem modFio_free (f : FioL → FioL) (s : State) : (modFio f s).free = s.free := rfl
@[simp] theorem modFio_counters (f : FioL → FioL) (s : State) : (modFio f s).counters = s.counters := rfl
@[simp] theorem modFio_ldie (f : FioL → FioL) (s : State) : (modFio f s).ldie = s.ldie := rfl
@[simp] theorem modFio_deviceId (f : FioL → FioL) (s : State) : (modFio f s).deviceId = s.deviceId := rfl
@[simp] theorem modFio_split (f : FioL → FioL) (s : State) : (modFio f s).split = s.split := rfl
@[simp] theorem modFio_bootsel (f : FioL → FioL) (s : State) : (modFio f s).bootsel = s.bootsel := rfl
@[simp] theorem modFio_host (f : FioL → FioL) (s : State) : (modFio f s).host = s.host := rfl
@[simp] theorem modFio_loom (f : FioL → FioL) (s : State) : (modFio f s).loom = s.loom := rfl
@[simp] theorem modFio_pdie (f : FioL → FioL) (s : State) : (modFio f s).pdie = s.pdie := rfl
@[simp] theorem modFio_weft (f : FioL → FioL) (s : State) : (modFio f s).weft = s.weft := rfl
@[simp] theorem modFio_act (f : FioL → FioL) (s : State) : (modFio f s).act = s.act := rfl
@[simp] theorem modFio_light (f : FioL → FioL) (s : State) : (modFio f s).light = s.light := rfl
@[simp] theorem modFio_fio (f : FioL → FioL) (s : State) : (modFio f s).fio = f s.fio := rfl
@[simp] theorem modFio_can (f : FioL → FioL) (s : State) : (modFio f s).can = s.can := rfl
@[simp] theorem modFio_nm (f : FioL → FioL) (s : State) : (modFio f s).nm = s.nm := rfl
@[simp] theorem modFio_keys (f : FioL → FioL) (s : State) : (modFio f s).keys = s.keys := rfl
@[simp] theorem modFio_otp (f : FioL → FioL) (s : State) : (modFio f s).otp = s.otp := rfl
@[simp] theorem modFio_range (f : FioL → FioL) (s : State) : (modFio f s).range = s.range := rfl
@[simp] theorem modFio_store (f : FioL → FioL) (s : State) : (modFio f s).store = s.store := rfl
@[simp] theorem modFio_spindle (f : FioL → FioL) (s : State) : (modFio f s).spindle = s.spindle := rfl
@[simp] theorem modFio_faults (f : FioL → FioL) (s : State) : (modFio f s).faults = s.faults := rfl
@[simp] theorem modFio_clk (f : FioL → FioL) (s : State) : (modFio f s).clk = s.clk := rfl

@[simp] theorem modCan_pending (f : CanSt → CanSt) (s : State) : (modCan f s).pending = s.pending := rfl
@[simp] theorem modCan_now (f : CanSt → CanSt) (s : State) : (modCan f s).now = s.now := rfl
@[simp] theorem modCan_pNow (f : CanSt → CanSt) (s : State) : (modCan f s).pNow = s.pNow := rfl
@[simp] theorem modCan_free (f : CanSt → CanSt) (s : State) : (modCan f s).free = s.free := rfl
@[simp] theorem modCan_counters (f : CanSt → CanSt) (s : State) : (modCan f s).counters = s.counters := rfl
@[simp] theorem modCan_ldie (f : CanSt → CanSt) (s : State) : (modCan f s).ldie = s.ldie := rfl
@[simp] theorem modCan_deviceId (f : CanSt → CanSt) (s : State) : (modCan f s).deviceId = s.deviceId := rfl
@[simp] theorem modCan_split (f : CanSt → CanSt) (s : State) : (modCan f s).split = s.split := rfl
@[simp] theorem modCan_bootsel (f : CanSt → CanSt) (s : State) : (modCan f s).bootsel = s.bootsel := rfl
@[simp] theorem modCan_host (f : CanSt → CanSt) (s : State) : (modCan f s).host = s.host := rfl
@[simp] theorem modCan_loom (f : CanSt → CanSt) (s : State) : (modCan f s).loom = s.loom := rfl
@[simp] theorem modCan_pdie (f : CanSt → CanSt) (s : State) : (modCan f s).pdie = s.pdie := rfl
@[simp] theorem modCan_weft (f : CanSt → CanSt) (s : State) : (modCan f s).weft = s.weft := rfl
@[simp] theorem modCan_act (f : CanSt → CanSt) (s : State) : (modCan f s).act = s.act := rfl
@[simp] theorem modCan_light (f : CanSt → CanSt) (s : State) : (modCan f s).light = s.light := rfl
@[simp] theorem modCan_fio (f : CanSt → CanSt) (s : State) : (modCan f s).fio = s.fio := rfl
@[simp] theorem modCan_can (f : CanSt → CanSt) (s : State) : (modCan f s).can = f s.can := rfl
@[simp] theorem modCan_nm (f : CanSt → CanSt) (s : State) : (modCan f s).nm = s.nm := rfl
@[simp] theorem modCan_keys (f : CanSt → CanSt) (s : State) : (modCan f s).keys = s.keys := rfl
@[simp] theorem modCan_otp (f : CanSt → CanSt) (s : State) : (modCan f s).otp = s.otp := rfl
@[simp] theorem modCan_range (f : CanSt → CanSt) (s : State) : (modCan f s).range = s.range := rfl
@[simp] theorem modCan_store (f : CanSt → CanSt) (s : State) : (modCan f s).store = s.store := rfl
@[simp] theorem modCan_spindle (f : CanSt → CanSt) (s : State) : (modCan f s).spindle = s.spindle := rfl
@[simp] theorem modCan_faults (f : CanSt → CanSt) (s : State) : (modCan f s).faults = s.faults := rfl
@[simp] theorem modCan_clk (f : CanSt → CanSt) (s : State) : (modCan f s).clk = s.clk := rfl

@[simp] theorem modNm_pending (f : NmSt → NmSt) (s : State) : (modNm f s).pending = s.pending := rfl
@[simp] theorem modNm_now (f : NmSt → NmSt) (s : State) : (modNm f s).now = s.now := rfl
@[simp] theorem modNm_pNow (f : NmSt → NmSt) (s : State) : (modNm f s).pNow = s.pNow := rfl
@[simp] theorem modNm_free (f : NmSt → NmSt) (s : State) : (modNm f s).free = s.free := rfl
@[simp] theorem modNm_counters (f : NmSt → NmSt) (s : State) : (modNm f s).counters = s.counters := rfl
@[simp] theorem modNm_ldie (f : NmSt → NmSt) (s : State) : (modNm f s).ldie = s.ldie := rfl
@[simp] theorem modNm_deviceId (f : NmSt → NmSt) (s : State) : (modNm f s).deviceId = s.deviceId := rfl
@[simp] theorem modNm_split (f : NmSt → NmSt) (s : State) : (modNm f s).split = s.split := rfl
@[simp] theorem modNm_bootsel (f : NmSt → NmSt) (s : State) : (modNm f s).bootsel = s.bootsel := rfl
@[simp] theorem modNm_host (f : NmSt → NmSt) (s : State) : (modNm f s).host = s.host := rfl
@[simp] theorem modNm_loom (f : NmSt → NmSt) (s : State) : (modNm f s).loom = s.loom := rfl
@[simp] theorem modNm_pdie (f : NmSt → NmSt) (s : State) : (modNm f s).pdie = s.pdie := rfl
@[simp] theorem modNm_weft (f : NmSt → NmSt) (s : State) : (modNm f s).weft = s.weft := rfl
@[simp] theorem modNm_act (f : NmSt → NmSt) (s : State) : (modNm f s).act = s.act := rfl
@[simp] theorem modNm_light (f : NmSt → NmSt) (s : State) : (modNm f s).light = s.light := rfl
@[simp] theorem modNm_fio (f : NmSt → NmSt) (s : State) : (modNm f s).fio = s.fio := rfl
@[simp] theorem modNm_can (f : NmSt → NmSt) (s : State) : (modNm f s).can = s.can := rfl
@[simp] theorem modNm_nm (f : NmSt → NmSt) (s : State) : (modNm f s).nm = f s.nm := rfl
@[simp] theorem modNm_keys (f : NmSt → NmSt) (s : State) : (modNm f s).keys = s.keys := rfl
@[simp] theorem modNm_otp (f : NmSt → NmSt) (s : State) : (modNm f s).otp = s.otp := rfl
@[simp] theorem modNm_range (f : NmSt → NmSt) (s : State) : (modNm f s).range = s.range := rfl
@[simp] theorem modNm_store (f : NmSt → NmSt) (s : State) : (modNm f s).store = s.store := rfl
@[simp] theorem modNm_spindle (f : NmSt → NmSt) (s : State) : (modNm f s).spindle = s.spindle := rfl
@[simp] theorem modNm_faults (f : NmSt → NmSt) (s : State) : (modNm f s).faults = s.faults := rfl
@[simp] theorem modNm_clk (f : NmSt → NmSt) (s : State) : (modNm f s).clk = s.clk := rfl

@[simp] theorem modKeys_pending (f : KeySt → KeySt) (s : State) : (modKeys f s).pending = s.pending := rfl
@[simp] theorem modKeys_now (f : KeySt → KeySt) (s : State) : (modKeys f s).now = s.now := rfl
@[simp] theorem modKeys_pNow (f : KeySt → KeySt) (s : State) : (modKeys f s).pNow = s.pNow := rfl
@[simp] theorem modKeys_free (f : KeySt → KeySt) (s : State) : (modKeys f s).free = s.free := rfl
@[simp] theorem modKeys_counters (f : KeySt → KeySt) (s : State) : (modKeys f s).counters = s.counters := rfl
@[simp] theorem modKeys_ldie (f : KeySt → KeySt) (s : State) : (modKeys f s).ldie = s.ldie := rfl
@[simp] theorem modKeys_deviceId (f : KeySt → KeySt) (s : State) : (modKeys f s).deviceId = s.deviceId := rfl
@[simp] theorem modKeys_split (f : KeySt → KeySt) (s : State) : (modKeys f s).split = s.split := rfl
@[simp] theorem modKeys_bootsel (f : KeySt → KeySt) (s : State) : (modKeys f s).bootsel = s.bootsel := rfl
@[simp] theorem modKeys_host (f : KeySt → KeySt) (s : State) : (modKeys f s).host = s.host := rfl
@[simp] theorem modKeys_loom (f : KeySt → KeySt) (s : State) : (modKeys f s).loom = s.loom := rfl
@[simp] theorem modKeys_pdie (f : KeySt → KeySt) (s : State) : (modKeys f s).pdie = s.pdie := rfl
@[simp] theorem modKeys_weft (f : KeySt → KeySt) (s : State) : (modKeys f s).weft = s.weft := rfl
@[simp] theorem modKeys_act (f : KeySt → KeySt) (s : State) : (modKeys f s).act = s.act := rfl
@[simp] theorem modKeys_light (f : KeySt → KeySt) (s : State) : (modKeys f s).light = s.light := rfl
@[simp] theorem modKeys_fio (f : KeySt → KeySt) (s : State) : (modKeys f s).fio = s.fio := rfl
@[simp] theorem modKeys_can (f : KeySt → KeySt) (s : State) : (modKeys f s).can = s.can := rfl
@[simp] theorem modKeys_nm (f : KeySt → KeySt) (s : State) : (modKeys f s).nm = s.nm := rfl
@[simp] theorem modKeys_keys (f : KeySt → KeySt) (s : State) : (modKeys f s).keys = f s.keys := rfl
@[simp] theorem modKeys_otp (f : KeySt → KeySt) (s : State) : (modKeys f s).otp = s.otp := rfl
@[simp] theorem modKeys_range (f : KeySt → KeySt) (s : State) : (modKeys f s).range = s.range := rfl
@[simp] theorem modKeys_store (f : KeySt → KeySt) (s : State) : (modKeys f s).store = s.store := rfl
@[simp] theorem modKeys_spindle (f : KeySt → KeySt) (s : State) : (modKeys f s).spindle = s.spindle := rfl
@[simp] theorem modKeys_faults (f : KeySt → KeySt) (s : State) : (modKeys f s).faults = s.faults := rfl
@[simp] theorem modKeys_clk (f : KeySt → KeySt) (s : State) : (modKeys f s).clk = s.clk := rfl

@[simp] theorem modRange_pending (f : RangeSt → RangeSt) (s : State) : (modRange f s).pending = s.pending := rfl
@[simp] theorem modRange_now (f : RangeSt → RangeSt) (s : State) : (modRange f s).now = s.now := rfl
@[simp] theorem modRange_pNow (f : RangeSt → RangeSt) (s : State) : (modRange f s).pNow = s.pNow := rfl
@[simp] theorem modRange_free (f : RangeSt → RangeSt) (s : State) : (modRange f s).free = s.free := rfl
@[simp] theorem modRange_counters (f : RangeSt → RangeSt) (s : State) : (modRange f s).counters = s.counters := rfl
@[simp] theorem modRange_ldie (f : RangeSt → RangeSt) (s : State) : (modRange f s).ldie = s.ldie := rfl
@[simp] theorem modRange_deviceId (f : RangeSt → RangeSt) (s : State) : (modRange f s).deviceId = s.deviceId := rfl
@[simp] theorem modRange_split (f : RangeSt → RangeSt) (s : State) : (modRange f s).split = s.split := rfl
@[simp] theorem modRange_bootsel (f : RangeSt → RangeSt) (s : State) : (modRange f s).bootsel = s.bootsel := rfl
@[simp] theorem modRange_host (f : RangeSt → RangeSt) (s : State) : (modRange f s).host = s.host := rfl
@[simp] theorem modRange_loom (f : RangeSt → RangeSt) (s : State) : (modRange f s).loom = s.loom := rfl
@[simp] theorem modRange_pdie (f : RangeSt → RangeSt) (s : State) : (modRange f s).pdie = s.pdie := rfl
@[simp] theorem modRange_weft (f : RangeSt → RangeSt) (s : State) : (modRange f s).weft = s.weft := rfl
@[simp] theorem modRange_act (f : RangeSt → RangeSt) (s : State) : (modRange f s).act = s.act := rfl
@[simp] theorem modRange_light (f : RangeSt → RangeSt) (s : State) : (modRange f s).light = s.light := rfl
@[simp] theorem modRange_fio (f : RangeSt → RangeSt) (s : State) : (modRange f s).fio = s.fio := rfl
@[simp] theorem modRange_can (f : RangeSt → RangeSt) (s : State) : (modRange f s).can = s.can := rfl
@[simp] theorem modRange_nm (f : RangeSt → RangeSt) (s : State) : (modRange f s).nm = s.nm := rfl
@[simp] theorem modRange_keys (f : RangeSt → RangeSt) (s : State) : (modRange f s).keys = s.keys := rfl
@[simp] theorem modRange_otp (f : RangeSt → RangeSt) (s : State) : (modRange f s).otp = s.otp := rfl
@[simp] theorem modRange_range (f : RangeSt → RangeSt) (s : State) : (modRange f s).range = f s.range := rfl
@[simp] theorem modRange_store (f : RangeSt → RangeSt) (s : State) : (modRange f s).store = s.store := rfl
@[simp] theorem modRange_spindle (f : RangeSt → RangeSt) (s : State) : (modRange f s).spindle = s.spindle := rfl
@[simp] theorem modRange_faults (f : RangeSt → RangeSt) (s : State) : (modRange f s).faults = s.faults := rfl
@[simp] theorem modRange_clk (f : RangeSt → RangeSt) (s : State) : (modRange f s).clk = s.clk := rfl

@[simp] theorem modStore_pending (f : StoreSt → StoreSt) (s : State) : (modStore f s).pending = s.pending := rfl
@[simp] theorem modStore_now (f : StoreSt → StoreSt) (s : State) : (modStore f s).now = s.now := rfl
@[simp] theorem modStore_pNow (f : StoreSt → StoreSt) (s : State) : (modStore f s).pNow = s.pNow := rfl
@[simp] theorem modStore_free (f : StoreSt → StoreSt) (s : State) : (modStore f s).free = s.free := rfl
@[simp] theorem modStore_counters (f : StoreSt → StoreSt) (s : State) : (modStore f s).counters = s.counters := rfl
@[simp] theorem modStore_ldie (f : StoreSt → StoreSt) (s : State) : (modStore f s).ldie = s.ldie := rfl
@[simp] theorem modStore_deviceId (f : StoreSt → StoreSt) (s : State) : (modStore f s).deviceId = s.deviceId := rfl
@[simp] theorem modStore_split (f : StoreSt → StoreSt) (s : State) : (modStore f s).split = s.split := rfl
@[simp] theorem modStore_bootsel (f : StoreSt → StoreSt) (s : State) : (modStore f s).bootsel = s.bootsel := rfl
@[simp] theorem modStore_host (f : StoreSt → StoreSt) (s : State) : (modStore f s).host = s.host := rfl
@[simp] theorem modStore_loom (f : StoreSt → StoreSt) (s : State) : (modStore f s).loom = s.loom := rfl
@[simp] theorem modStore_pdie (f : StoreSt → StoreSt) (s : State) : (modStore f s).pdie = s.pdie := rfl
@[simp] theorem modStore_weft (f : StoreSt → StoreSt) (s : State) : (modStore f s).weft = s.weft := rfl
@[simp] theorem modStore_act (f : StoreSt → StoreSt) (s : State) : (modStore f s).act = s.act := rfl
@[simp] theorem modStore_light (f : StoreSt → StoreSt) (s : State) : (modStore f s).light = s.light := rfl
@[simp] theorem modStore_fio (f : StoreSt → StoreSt) (s : State) : (modStore f s).fio = s.fio := rfl
@[simp] theorem modStore_can (f : StoreSt → StoreSt) (s : State) : (modStore f s).can = s.can := rfl
@[simp] theorem modStore_nm (f : StoreSt → StoreSt) (s : State) : (modStore f s).nm = s.nm := rfl
@[simp] theorem modStore_keys (f : StoreSt → StoreSt) (s : State) : (modStore f s).keys = s.keys := rfl
@[simp] theorem modStore_otp (f : StoreSt → StoreSt) (s : State) : (modStore f s).otp = s.otp := rfl
@[simp] theorem modStore_range (f : StoreSt → StoreSt) (s : State) : (modStore f s).range = s.range := rfl
@[simp] theorem modStore_store (f : StoreSt → StoreSt) (s : State) : (modStore f s).store = f s.store := rfl
@[simp] theorem modStore_spindle (f : StoreSt → StoreSt) (s : State) : (modStore f s).spindle = s.spindle := rfl
@[simp] theorem modStore_faults (f : StoreSt → StoreSt) (s : State) : (modStore f s).faults = s.faults := rfl
@[simp] theorem modStore_clk (f : StoreSt → StoreSt) (s : State) : (modStore f s).clk = s.clk := rfl

@[simp] theorem modClk_pending (f : ClkSt → ClkSt) (s : State) : (modClk f s).pending = s.pending := rfl
@[simp] theorem modClk_now (f : ClkSt → ClkSt) (s : State) : (modClk f s).now = s.now := rfl
@[simp] theorem modClk_pNow (f : ClkSt → ClkSt) (s : State) : (modClk f s).pNow = s.pNow := rfl
@[simp] theorem modClk_free (f : ClkSt → ClkSt) (s : State) : (modClk f s).free = s.free := rfl
@[simp] theorem modClk_counters (f : ClkSt → ClkSt) (s : State) : (modClk f s).counters = s.counters := rfl
@[simp] theorem modClk_ldie (f : ClkSt → ClkSt) (s : State) : (modClk f s).ldie = s.ldie := rfl
@[simp] theorem modClk_deviceId (f : ClkSt → ClkSt) (s : State) : (modClk f s).deviceId = s.deviceId := rfl
@[simp] theorem modClk_split (f : ClkSt → ClkSt) (s : State) : (modClk f s).split = s.split := rfl
@[simp] theorem modClk_bootsel (f : ClkSt → ClkSt) (s : State) : (modClk f s).bootsel = s.bootsel := rfl
@[simp] theorem modClk_host (f : ClkSt → ClkSt) (s : State) : (modClk f s).host = s.host := rfl
@[simp] theorem modClk_loom (f : ClkSt → ClkSt) (s : State) : (modClk f s).loom = s.loom := rfl
@[simp] theorem modClk_pdie (f : ClkSt → ClkSt) (s : State) : (modClk f s).pdie = s.pdie := rfl
@[simp] theorem modClk_weft (f : ClkSt → ClkSt) (s : State) : (modClk f s).weft = s.weft := rfl
@[simp] theorem modClk_act (f : ClkSt → ClkSt) (s : State) : (modClk f s).act = s.act := rfl
@[simp] theorem modClk_light (f : ClkSt → ClkSt) (s : State) : (modClk f s).light = s.light := rfl
@[simp] theorem modClk_fio (f : ClkSt → ClkSt) (s : State) : (modClk f s).fio = s.fio := rfl
@[simp] theorem modClk_can (f : ClkSt → ClkSt) (s : State) : (modClk f s).can = s.can := rfl
@[simp] theorem modClk_nm (f : ClkSt → ClkSt) (s : State) : (modClk f s).nm = s.nm := rfl
@[simp] theorem modClk_keys (f : ClkSt → ClkSt) (s : State) : (modClk f s).keys = s.keys := rfl
@[simp] theorem modClk_otp (f : ClkSt → ClkSt) (s : State) : (modClk f s).otp = s.otp := rfl
@[simp] theorem modClk_range (f : ClkSt → ClkSt) (s : State) : (modClk f s).range = s.range := rfl
@[simp] theorem modClk_store (f : ClkSt → ClkSt) (s : State) : (modClk f s).store = s.store := rfl
@[simp] theorem modClk_spindle (f : ClkSt → ClkSt) (s : State) : (modClk f s).spindle = s.spindle := rfl
@[simp] theorem modClk_faults (f : ClkSt → ClkSt) (s : State) : (modClk f s).faults = s.faults := rfl
@[simp] theorem modClk_clk (f : ClkSt → ClkSt) (s : State) : (modClk f s).clk = f s.clk := rfl

@[simp] theorem toL_pending (t : Nat) (s : State) : (toL t s).pending = s.pending := rfl
@[simp] theorem toL_now (t : Nat) (s : State) : (toL t s).now = max s.now t := rfl
theorem toL_pNow (t : Nat) (s : State) : (toL t s).pNow =
    s.pNow + ((max s.now t - s.now : Nat) + (slewed s.pdie (max s.now t) - slewed s.pdie s.now)).toNat := rfl
/-- A second move to the same tick changes nothing. -/
@[simp] theorem toL_toL (t : Nat) (s : State) : toL t (toL t s) = toL t s := by simp [toL]
@[simp] theorem toL_free (t : Nat) (s : State) : (toL t s).free = s.free := rfl
@[simp] theorem toL_counters (t : Nat) (s : State) : (toL t s).counters = s.counters := rfl
@[simp] theorem toL_ldie (t : Nat) (s : State) : (toL t s).ldie = s.ldie := rfl
@[simp] theorem toL_deviceId (t : Nat) (s : State) : (toL t s).deviceId = s.deviceId := rfl
@[simp] theorem toL_split (t : Nat) (s : State) : (toL t s).split = s.split := rfl
@[simp] theorem toL_bootsel (t : Nat) (s : State) : (toL t s).bootsel = s.bootsel := rfl
@[simp] theorem toL_host (t : Nat) (s : State) : (toL t s).host = s.host := rfl
@[simp] theorem toL_loom (t : Nat) (s : State) : (toL t s).loom = s.loom := rfl
@[simp] theorem toL_pdie (t : Nat) (s : State) : (toL t s).pdie = s.pdie := rfl
@[simp] theorem toL_weft (t : Nat) (s : State) : (toL t s).weft = s.weft := rfl
@[simp] theorem toL_act (t : Nat) (s : State) : (toL t s).act = s.act := rfl
@[simp] theorem toL_light (t : Nat) (s : State) : (toL t s).light = s.light := rfl
@[simp] theorem toL_fio (t : Nat) (s : State) : (toL t s).fio = s.fio := rfl
@[simp] theorem toL_can (t : Nat) (s : State) : (toL t s).can = s.can := rfl
@[simp] theorem toL_nm (t : Nat) (s : State) : (toL t s).nm = s.nm := rfl
@[simp] theorem toL_keys (t : Nat) (s : State) : (toL t s).keys = s.keys := rfl
@[simp] theorem toL_otp (t : Nat) (s : State) : (toL t s).otp = s.otp := rfl
@[simp] theorem toL_range (t : Nat) (s : State) : (toL t s).range = s.range := rfl
@[simp] theorem toL_store (t : Nat) (s : State) : (toL t s).store = s.store := rfl
@[simp] theorem toL_spindle (t : Nat) (s : State) : (toL t s).spindle = s.spindle := rfl
@[simp] theorem toL_faults (t : Nat) (s : State) : (toL t s).faults = s.faults := rfl
@[simp] theorem toL_clk (t : Nat) (s : State) : (toL t s).clk = s.clk := rfl

@[simp] theorem toP_pending (t : Nat) (s : State) : (toP t s).pending = s.pending := rfl
theorem toP_now (t : Nat) (s : State) : (toP t s).now =
    s.now + ((t - s.pNow : Nat) - (slewed s.pdie (s.now + (t - s.pNow)) - slewed s.pdie s.now)).toNat := rfl
@[simp] theorem toP_pNow (t : Nat) (s : State) : (toP t s).pNow = max s.pNow t := rfl
@[simp] theorem toP_free (t : Nat) (s : State) : (toP t s).free = s.free := rfl
@[simp] theorem toP_counters (t : Nat) (s : State) : (toP t s).counters = s.counters := rfl
@[simp] theorem toP_ldie (t : Nat) (s : State) : (toP t s).ldie = s.ldie := rfl
@[simp] theorem toP_deviceId (t : Nat) (s : State) : (toP t s).deviceId = s.deviceId := rfl
@[simp] theorem toP_split (t : Nat) (s : State) : (toP t s).split = s.split := rfl
@[simp] theorem toP_bootsel (t : Nat) (s : State) : (toP t s).bootsel = s.bootsel := rfl
@[simp] theorem toP_host (t : Nat) (s : State) : (toP t s).host = s.host := rfl
@[simp] theorem toP_loom (t : Nat) (s : State) : (toP t s).loom = s.loom := rfl
@[simp] theorem toP_pdie (t : Nat) (s : State) : (toP t s).pdie = s.pdie := rfl
@[simp] theorem toP_weft (t : Nat) (s : State) : (toP t s).weft = s.weft := rfl
@[simp] theorem toP_act (t : Nat) (s : State) : (toP t s).act = s.act := rfl
@[simp] theorem toP_light (t : Nat) (s : State) : (toP t s).light = s.light := rfl
@[simp] theorem toP_fio (t : Nat) (s : State) : (toP t s).fio = s.fio := rfl
@[simp] theorem toP_can (t : Nat) (s : State) : (toP t s).can = s.can := rfl
@[simp] theorem toP_nm (t : Nat) (s : State) : (toP t s).nm = s.nm := rfl
@[simp] theorem toP_keys (t : Nat) (s : State) : (toP t s).keys = s.keys := rfl
@[simp] theorem toP_otp (t : Nat) (s : State) : (toP t s).otp = s.otp := rfl
@[simp] theorem toP_range (t : Nat) (s : State) : (toP t s).range = s.range := rfl
@[simp] theorem toP_store (t : Nat) (s : State) : (toP t s).store = s.store := rfl
@[simp] theorem toP_spindle (t : Nat) (s : State) : (toP t s).spindle = s.spindle := rfl
@[simp] theorem toP_faults (t : Nat) (s : State) : (toP t s).faults = s.faults := rfl
@[simp] theorem toP_clk (t : Nat) (s : State) : (toP t s).clk = s.clk := rfl

@[simp] theorem bumpBy_pending (i n : Nat) (s : State) : (bumpBy i n s).pending = s.pending := rfl
@[simp] theorem bump_pending (i : Nat) (s : State) : (bump i s).pending = s.pending := rfl
@[simp] theorem bumpBy_now (i n : Nat) (s : State) : (bumpBy i n s).now = s.now := rfl
@[simp] theorem bump_now (i : Nat) (s : State) : (bump i s).now = s.now := rfl
@[simp] theorem bumpBy_pNow (i n : Nat) (s : State) : (bumpBy i n s).pNow = s.pNow := rfl
@[simp] theorem bump_pNow (i : Nat) (s : State) : (bump i s).pNow = s.pNow := rfl
@[simp] theorem bumpBy_free (i n : Nat) (s : State) : (bumpBy i n s).free = s.free := rfl
@[simp] theorem bump_free (i : Nat) (s : State) : (bump i s).free = s.free := rfl
@[simp] theorem bumpBy_counters (i n : Nat) (s : State) : (bumpBy i n s).counters = s.counters.add 32 i n := rfl
@[simp] theorem bump_counters (i : Nat) (s : State) : (bump i s).counters = s.counters.add 32 i 1 := rfl
@[simp] theorem bumpBy_ldie (i n : Nat) (s : State) : (bumpBy i n s).ldie = s.ldie := rfl
@[simp] theorem bump_ldie (i : Nat) (s : State) : (bump i s).ldie = s.ldie := rfl
@[simp] theorem bumpBy_deviceId (i n : Nat) (s : State) : (bumpBy i n s).deviceId = s.deviceId := rfl
@[simp] theorem bump_deviceId (i : Nat) (s : State) : (bump i s).deviceId = s.deviceId := rfl
@[simp] theorem bumpBy_split (i n : Nat) (s : State) : (bumpBy i n s).split = s.split := rfl
@[simp] theorem bump_split (i : Nat) (s : State) : (bump i s).split = s.split := rfl
@[simp] theorem bumpBy_bootsel (i n : Nat) (s : State) : (bumpBy i n s).bootsel = s.bootsel := rfl
@[simp] theorem bump_bootsel (i : Nat) (s : State) : (bump i s).bootsel = s.bootsel := rfl
@[simp] theorem bumpBy_host (i n : Nat) (s : State) : (bumpBy i n s).host = s.host := rfl
@[simp] theorem bump_host (i : Nat) (s : State) : (bump i s).host = s.host := rfl
@[simp] theorem bumpBy_loom (i n : Nat) (s : State) : (bumpBy i n s).loom = s.loom := rfl
@[simp] theorem bump_loom (i : Nat) (s : State) : (bump i s).loom = s.loom := rfl
@[simp] theorem bumpBy_pdie (i n : Nat) (s : State) : (bumpBy i n s).pdie = s.pdie := rfl
@[simp] theorem bump_pdie (i : Nat) (s : State) : (bump i s).pdie = s.pdie := rfl
@[simp] theorem bumpBy_weft (i n : Nat) (s : State) : (bumpBy i n s).weft = s.weft := rfl
@[simp] theorem bump_weft (i : Nat) (s : State) : (bump i s).weft = s.weft := rfl
@[simp] theorem bumpBy_act (i n : Nat) (s : State) : (bumpBy i n s).act = s.act := rfl
@[simp] theorem bump_act (i : Nat) (s : State) : (bump i s).act = s.act := rfl
@[simp] theorem bumpBy_light (i n : Nat) (s : State) : (bumpBy i n s).light = s.light := rfl
@[simp] theorem bump_light (i : Nat) (s : State) : (bump i s).light = s.light := rfl
@[simp] theorem bumpBy_fio (i n : Nat) (s : State) : (bumpBy i n s).fio = s.fio := rfl
@[simp] theorem bump_fio (i : Nat) (s : State) : (bump i s).fio = s.fio := rfl
@[simp] theorem bumpBy_can (i n : Nat) (s : State) : (bumpBy i n s).can = s.can := rfl
@[simp] theorem bump_can (i : Nat) (s : State) : (bump i s).can = s.can := rfl
@[simp] theorem bumpBy_nm (i n : Nat) (s : State) : (bumpBy i n s).nm = s.nm := rfl
@[simp] theorem bump_nm (i : Nat) (s : State) : (bump i s).nm = s.nm := rfl
@[simp] theorem bumpBy_keys (i n : Nat) (s : State) : (bumpBy i n s).keys = s.keys := rfl
@[simp] theorem bump_keys (i : Nat) (s : State) : (bump i s).keys = s.keys := rfl
@[simp] theorem bumpBy_otp (i n : Nat) (s : State) : (bumpBy i n s).otp = s.otp := rfl
@[simp] theorem bump_otp (i : Nat) (s : State) : (bump i s).otp = s.otp := rfl
@[simp] theorem bumpBy_range (i n : Nat) (s : State) : (bumpBy i n s).range = s.range := rfl
@[simp] theorem bump_range (i : Nat) (s : State) : (bump i s).range = s.range := rfl
@[simp] theorem bumpBy_store (i n : Nat) (s : State) : (bumpBy i n s).store = s.store := rfl
@[simp] theorem bump_store (i : Nat) (s : State) : (bump i s).store = s.store := rfl
@[simp] theorem bumpBy_spindle (i n : Nat) (s : State) : (bumpBy i n s).spindle = s.spindle := rfl
@[simp] theorem bump_spindle (i : Nat) (s : State) : (bump i s).spindle = s.spindle := rfl
@[simp] theorem bumpBy_faults (i n : Nat) (s : State) : (bumpBy i n s).faults = s.faults := rfl
@[simp] theorem bump_faults (i : Nat) (s : State) : (bump i s).faults = s.faults := rfl
@[simp] theorem bumpBy_clk (i n : Nat) (s : State) : (bumpBy i n s).clk = s.clk := rfl
@[simp] theorem bump_clk (i : Nat) (s : State) : (bump i s).clk = s.clk := rfl

end Sys2Proof.Machine
end

