-- ==== Sys2Proof/Laws/Interp.lean ====
section
/-! SUPPORT. What the interpreter does with a host command: one lemma per operation. -/

namespace Sys2Proof.Machine

/-- The entry as it is taken carries its request. -/
theorem takenEntry_req (o : OpInfo) (r : Req) (s : State) : (takenEntry o r s).req = r := rfl

/-- While the interpreter takes no requests a host command has no effect but that its tick has come. -/
theorem command_down (o : OpInfo) (r : Req) (s : State) (h : interpreterUp (toL r.t s) = false) :
    command o r s = toL r.t s := by
  simp [command, h]

/-- A request that fails a check of stage 4 has no effect but its answer (R74 to R76). -/
theorem submit_refused (o : OpInfo) (r : Req) (s : State) (st : Status) (h : stage4 o r s = some st) :
    submit o r s = pushOut r.port (answerFrame o.op r (byte5 r false) st (slotKey r.slot s) s) s := by
  simp [submit, h]

/-- The request just admitted is the one that its slot's tag names. -/
theorem entryOf_heldAt (o : OpInfo) (r : Req) (s : State) (h : tagHeld r (arrived r s) = false) :
    entryOf r (heldAt o r s) = some (entryFor o r s) := by
  have hn : List.find? (fun e : Entry => e.req.slot == r.slot && e.req.tag == r.tag) (arrived r s).host.flight = none := by
    simpa [tagHeld] using h
  simp [entryOf, heldAt, modFlight, modHost, List.find?_append, hn, entryFor]

/-- A request that passes stage 4 with its tag free. -/
theorem tagHeld_of_stage4 (o : OpInfo) (r : Req) (s : State) (h : stage4 o r s = none) : tagHeld r s = false := by
  unfold stage4 at h
  split at h
  · cases h
  · split at h
    · cases h
    · split at h
      · cases h
      · split at h
        · cases h
        · rename_i ht
          simpa using ht

/-- The earlier commands are found by the request alone. -/
theorem earlier_congr (a b : Entry) (l : List Entry) (h : a.req = b.req) : earlier a l = earlier b l := by
  induction l with
  | nil => rfl
  | cons x rest ih => simp [earlier, sameCmd, h, ih]

/-- What holds back a command depends on its opcode, its request and its stage. -/
theorem eligible_congr (a b : Entry) (s : State) (h : a.req = b.req) (ho : a.op = b.op) (hs : a.stage = b.stage) :
    eligible a s = eligible b s := by
  have hx : objectsOf a = objectsOf b := by simp only [objectsOf, h, ho]
  have hb : blocks a = blocks b := by funext x; simp only [blocks, sameObject, hx, h, ho]
  simp only [eligible, hs, hb, earlier_congr a b _ h]

/-- What goes before a command depends on its request. -/
theorem goesFirst_congr (a b : Entry) (s : State) (h : a.req = b.req) : goesFirst a s = goesFirst b s := by
  simp only [goesFirst, sameCmd, h]

/-- A ready command whose entry is e once it has been accepted is carried out at once: its operation runs on the state in which it is past
its commit point, and the outcome is brought to it. -/
theorem command_accepted (o : OpInfo) (r : Req) (s : State) (e : Entry) (h : ready o r s = true)
    (he : entryOf r (o.onAccept (entryFor o r s) (heldAt o r s)) = some e) (hq : e.req = r) (ho : e.op = o.op) (hs : e.stage = .waiting) :
    command o r s =
      settle e (o.run { e with stage := .taken } (modEntry e (fun x => { x with stage := .taken })
        (o.onAccept (entryFor o r s) (heldAt o r s)))).2
        (o.run { e with stage := .taken } (modEntry e (fun x => { x with stage := .taken })
          (o.onAccept (entryFor o r s) (heldAt o r s)))).1 := by
  simp only [ready, Bool.and_eq_true, Bool.not_eq_true', Option.isNone_iff_eq_none] at h
  obtain ⟨⟨⟨⟨⟨⟨h1, h2⟩, h3⟩, h4⟩, h5⟩, h6⟩, h7⟩ := h
  have ha : accept o r (arrived r s) = o.onAccept (entryFor o r s) (heldAt o r s) := by
    have hg : groupOff (groupOf o.op) (heldAt o r s) = false := h4
    have hd : modFlight (fun l => l ++ [({ op := o.op, req := r, accepted := (arrived r s).now, key := slotKey r.slot (arrived r s) } : Entry)]) (arrived r s) = heldAt o r s := rfl
    simp only [accept]
    rw [hd, h3]
    simp only [Bool.false_eq_true, if_false, hg, Bool.not_false, if_true]
    rfl
  have hE : eligible e (o.onAccept (entryFor o r s) (heldAt o r s)) = true := by
    rw [← h6]
    exact eligible_congr _ _ _ hq ho hs
  have hF : goesFirst e (o.onAccept (entryFor o r s) (heldAt o r s)) = false := by
    rw [← h7]
    exact goesFirst_congr _ _ _ hq
  simp only [command, h1, if_true]
  show submit o r (arrived r s) = _
  simp only [submit, h2, ha, he, hE, hF, carryOut]
  have hb : barred o e.req (o.onAccept (entryFor o r s) (heldAt o r s)) = none := by rw [hq]; exact h5
  simp only [hb]
  rfl

/-- A ready command is carried out at once: its operation runs on the state in which it is past its commit point, and the
outcome is brought to it. The operation's own acceptance step must leave the commands in flight as they are. -/
theorem command_ready (o : OpInfo) (r : Req) (s : State) (h : ready o r s = true)
    (hk : (o.onAccept (entryFor o r s) (heldAt o r s)).host.flight = (heldAt o r s).host.flight) :
    command o r s =
      settle (entryFor o r s) (o.run (takenEntry o r s) (atRun o r s)).2 (o.run (takenEntry o r s) (atRun o r s)).1 := by
  have hr := h
  simp only [ready, Bool.and_eq_true, Option.isNone_iff_eq_none] at hr
  obtain ⟨⟨⟨⟨⟨⟨-, h2⟩, -⟩, -⟩, -⟩, -⟩, -⟩ := hr
  have ht := entryOf_heldAt o r s (tagHeld_of_stage4 o r _ h2)
  have he : entryOf r (o.onAccept (entryFor o r s) (heldAt o r s)) = some (entryFor o r s) := by
    rw [← ht]
    simp [entryOf, hk]
  exact command_accepted o r s (entryFor o r s) h he rfl rfl rfl

/-- Every host command is carried out as the interpreter's command of its opcode. -/
theorem exec_hostRow (c : Instr) (o : OpInfo) (r : Req) (s : State) (h : hostRow c = some (o, r)) : exec c s = .next (command o r s) := by
  cases c <;> simp only [hostRow, Option.some.injEq, Prod.mk.injEq, reduceCtorEq] at h <;> (obtain ⟨rfl, rfl⟩ := h; rfl)

end Sys2Proof.Machine
end

