-- ==== Sys2Proof/Laws/Keys.lean ====
section
/-! SUPPORT. The rows of CRYPTO_OP: the operation that a row names is the one that its request carries. -/

namespace Sys2Proof.Machine

/-- The lowest four bits of a word with n put there. -/
theorem fld_setFld_low (n : Nat) (w : Word) (h : n < 16) : fld 3 0 (setFld 3 0 n w) = n := by
  have e : fld 3 0 (setFld 3 0 n w) = (setFld 3 0 n w).toNat % 16 := by simp [fld]
  rw [e]
  apply Nat.eq_of_testBit_eq
  intro i
  have hm : ∀ i, i < 32 → (fldMask 3 0).getLsbD i = decide (i < 4) := by decide
  rw [show (16 : Nat) = 2 ^ 4 by rfl, Nat.testBit_mod_two_pow]
  by_cases hi : i < 4
  · have hi' : i < 32 := by omega
    have := hm i hi'
    simp only [hi, decide_true, Bool.true_and, setFld, BitVec.testBit_toNat, BitVec.getLsbD_or, BitVec.getLsbD_and,
      BitVec.getLsbD_not, this, word, BitVec.getLsbD_ofNat, hi', Nat.shiftLeft_zero]
    simp
  · have hn : n.testBit i = false := Nat.testBit_lt_two_pow (Nat.lt_of_lt_of_le h (by
      have : 2 ^ 4 ≤ 2 ^ i := Nat.pow_le_pow_right (by omega) (by omega)
      omega))
    simp [hi, hn]

/-- The operation of the request of a CRYPTO_OP row. -/
theorem withOp_op (n : Nat) (r : Req) (h : n < 16) : (cryptoArgs (withOp n r)).op = n := by
  simp [cryptoArgs, withOp, arg, wordAt, fld_setFld_low n _ h]

/-- A row keeps OBJECT and slot. -/
theorem withOp_obj (n : Nat) (r : Req) : obj (withOp n r) = obj r := rfl

/-- A keyed operation with a key that loads answers its words, and counts the load and the operation (R475, R493). -/
theorem cryptoOp_keyed (r : Req) (s : State) (key : List Byte) (hv : cryptoValid r s = true) (ho : (cryptoArgs r).op < 5)
    (hl : loadCheck (obj r) (cryptoPurpose (cryptoArgs r).op) none s = .ok key) :
    cryptoOp r s = (bump (ctr 0x0D 2) (countLoad (obj r) (.ok key) s), .done (keyedOp key (cryptoArgs r) (cryptoData r))) := by
  unfold cryptoOp
  have h1 : ¬ (5 ≤ (cryptoArgs r).op) := by omega
  simp only [hv, h1, hl]
  rfl

/-- An operation without a key that is done is counted (R493). -/
theorem cryptoOp_keyless (r : Req) (s u : State) (ws : List Word) (hv : cryptoValid r s = true) (ho : 5 ≤ (cryptoArgs r).op)
    (hk : keylessOp r s = (u, .done ws)) : cryptoOp r s = (bump (ctr 0x0D 2) u, .done ws) := by
  unfold cryptoOp
  simp only [hv, ho, hk]
  rfl

end Sys2Proof.Machine
end

