-- ==== Sys2Proof/Laws/Load.lean ====
section
/-! SUPPORT. What the load and placement operations do with operands that they take: one lemma per operation and outcome. -/

namespace Sys2Proof.Machine

/-- LOAD_SET of a skein that no partner drives commands the set-point and waits for it (R143). -/
theorem loadSet_here (k : Nat) (w : Word) (s : State) (ht : loadTakes k w s = true) (hp : passes k s = none)
    (hc : setPointCheck k (wordSp k w s) s = none) (hl : linkLive s = true) (ha : apart k s = false) :
    loadSet k w s = (commandSp k (wordSp k w s) s, .wait (.inForce k) false []) := by
  simp only [loadTakes, Bool.and_eq_true, Bool.not_eq_true', bne_iff_ne] at ht
  obtain ⟨⟨⟨⟨h1, h2⟩, h3⟩, h4⟩, h5⟩ := ht
  simp_all [loadSet, wordSp]

/-- With the Ply link to the partner down the device that drives keeps the DUTY and sends it to its cells (R176). -/
theorem loadSet_apart (k : Nat) (w : Word) (s : State) (ht : loadTakes k w s = true) (hp : passes k s = none)
    (hc : setPointCheck k (wordSp k w s) s = none) (hl : linkLive s = true) (ha : apart k s = true) :
    loadSet k w s = (keepDuty k (wordSp k w s) s, .done []) := by
  simp only [loadTakes, Bool.and_eq_true, Bool.not_eq_true', bne_iff_ne] at ht
  obtain ⟨⟨⟨⟨h1, h2⟩, h3⟩, h4⟩, h5⟩ := ht
  simp_all [loadSet, wordSp]

/-- LOAD_SET of a skein whose partner drives it is passed over the Ply link (R176). -/
theorem loadSet_passed (k j : Nat) (w : Word) (s : State) (ht : loadTakes k w s = true) (hp : passes k s = some j)
    (hu : plyToward (chainE j s).pdev s = true) :
    loadSet k w s =
      (pushMirror { dev := (chainE j s).pdev, skein := (chainE j s).pskein, kind := .command, value := w.toNat } s,
        .wait (.mirror k) false [w]) := by
  simp only [loadTakes, Bool.and_eq_true, Bool.not_eq_true', bne_iff_ne] at ht
  obtain ⟨⟨⟨⟨h1, h2⟩, h3⟩, h4⟩, h5⟩ := ht
  simp_all [loadSet]

/-- Without the Ply link its DUTY is kept (R176). -/
theorem loadSet_kept (k j : Nat) (w : Word) (s : State) (ht : loadTakes k w s = true) (hp : passes k s = some j)
    (hu : plyToward (chainE j s).pdev s = false) (hc : setPointCheck k (wordSp k w s) s = none) :
    loadSet k w s = (keepDuty k (wordSp k w s) s, .done []) := by
  simp only [loadTakes, Bool.and_eq_true, Bool.not_eq_true', bne_iff_ne] at ht
  obtain ⟨⟨⟨⟨h1, h2⟩, h3⟩, h4⟩, h5⟩ := ht
  simp_all [loadSet, wordSp]

/-- LOOM_ROTATE_CFG takes a word with a good interval (R182). -/
theorem rotateCfg_takes (k : Nat) (w : Word) (s : State) (hd : (defL k s).defined = true)
    (hr : fld 13 0 w = 0 ∨ 20 ≤ fld 13 0 w ∧ fld 13 0 w ≤ 12000) :
    rotateCfg k w s = (modSkL k (fun x => { x with loomCfg := w &&& 0x00033FFF }) s, .done []) := by
  have h1 : ¬ (1 ≤ fld 13 0 w ∧ fld 13 0 w ≤ 19) := by omega
  have h2 : ¬ 12000 < fld 13 0 w := by omega
  simp_all [rotateCfg]

/-- LOOM_PIN takes a good word (R183). -/
theorem loomPin_takes (k : Nat) (w : Word) (s : State) (h : pinTakes k w s = true) :
    loomPin k w s = (modSkL k (fun x => { x with pin := w &&& 0x0FFF0FFF, pinFresh := true }) s, .done []) := by
  simp only [pinTakes, Bool.and_eq_true, decide_eq_true_eq, beq_iff_eq, List.all_eq_true] at h
  obtain ⟨⟨⟨⟨⟨⟨h1, h2⟩, h3⟩, h4⟩, h5⟩, h6⟩, h7⟩ := h
  have ha : ((bitList 12 (fld 11 0 w)).any (fun i => roleOf ((defL k s).first + i) s == .outOfService &&
      causePending (viewOf ((defL k s).first + i) s))) = false := by
    rw [List.any_eq_false]
    intro x hx
    have := h7 x hx
    rw [Bool.not_eq_true'] at this
    rw [this]
    decide
  have hb : (!(defL k s).defined || decide (2 ^ (defL k s).count ≤ fld 11 0 w) || decide (2 ^ (defL k s).count ≤ fld 27 16 w) ||
      fld 11 0 w &&& fld 27 16 w != 0 || decide ((defL k s).target < (bitList 12 (fld 11 0 w)).length) ||
      decide ((defL k s).count - popCount 12 (fld 27 16 w) < (defL k s).target)) = false := by
    simp [h1, h4]
    omega
  unfold loomPin
  simp only [hb, ha, Bool.false_eq_true, if_false]

end Sys2Proof.Machine
end

