-- ==== Sys2Proof/Laws/Output.lean ====
section
/-! SUPPORT. A frame put in a port's output changes that output and the count of key loads alone; a slot changed leaves the others. -/

namespace Sys2Proof.Machine

/-- A port's number is one of five. -/
theorem portIx_lt (p : Port) : portIx p < 5 := by cases p <;> decide

/-- The frame stands at the end of its port's output. -/
theorem pushOut_output (p : Port) (f : OutFrame) (s : State) :
    (nth (pushOut p f s).host.ports (portIx p)).output = (nth s.host.ports (portIx p)).output ++ [f] := by
  unfold pushOut
  split <;> simp [modHost, bump, bumpBy, portIx_lt]

/-- The commands in flight stay. -/
@[simp] theorem pushOut_flight (p : Port) (f : OutFrame) (s : State) : (pushOut p f s).host.flight = s.host.flight := by
  unfold pushOut
  split <;> rfl

/-- The slots stay. -/
@[simp] theorem pushOut_slotOf (p : Port) (f : OutFrame) (s : State) (n : Nat) : slotOf n (pushOut p f s) = slotOf n s := by
  unfold pushOut
  split <;> rfl

/-- Nothing besides the host side changes. -/
@[simp] theorem pushOut_besidesHost (p : Port) (f : OutFrame) (s : State) : (pushOut p f s).besidesHost = s.besidesHost := by
  unfold pushOut
  split <;> rfl

/-- The slot changed. -/
theorem slotOf_modSlot (n : Nat) (f : Slot → Slot) (s : State) (h : n < 4) : slotOf n (modSlot n f s) = f (slotOf n s) := by
  simp [slotOf, modSlot, modHost, h]

/-- The other slots stay. -/
theorem slotOf_modSlot_other (n m : Nat) (f : Slot → Slot) (s : State) (h : m ≠ n) : slotOf m (modSlot n f s) = slotOf m s := by
  simp [slotOf, modSlot, modHost, Ne.symm h]

/-- A change of a slot reaches nothing besides the host side. -/
@[simp] theorem modSlot_besidesHost (n : Nat) (f : Slot → Slot) (s : State) : (modSlot n f s).besidesHost = s.besidesHost := rfl

end Sys2Proof.Machine
end

