-- ==== Sys2Proof/Laws/Reel.lean ====
section
/-! SUPPORT. Snapshots: what SNAP_TAKE does at its acceptance and past its commit point. -/

namespace Sys2Proof.Machine

/-- A tick of device time, a 64-bit counter, is read back from its two words (R9). -/
theorem wordsToNat_two (t : Nat) (h : t < 2 ^ 64) : wordsToNat (natToWords 2 t) = t := by
  have h1 : t / 2 ^ 32 < 2 ^ 32 := by
    rw [Nat.div_lt_iff_lt_mul (by decide)]
    omega
  simp only [natToWords, wordsToNat, word, BitVec.toNat_ofNat, Nat.mod_eq_of_lt h1]
  omega

/-- At its acceptance a SNAP_TAKE of a free set holds it for its latch tick (R108). -/
theorem snapAccept_held (e : Entry) (s : State) (h1 : e.accepted + snapLead (e.req.object.getLsbD 8) ≤ latchTick e.accepted e.req)
    (h2 : latchTick e.accepted e.req ≤ e.accepted + 200000000) (h3 : (reelSet (obj e.req % 4) s).held = false) :
    snapAccept e s =
      modEntry e (fun x => { x with data := word 0 :: natToWords 2 (latchTick e.accepted e.req) })
        (modSet (obj e.req % 4) (fun _ =>
          { held := true, pending := true, chain := e.req.object.getLsbD 8, tick := latchTick e.accepted e.req }) s) := by
  have hb : (decide (latchTick e.accepted e.req < e.accepted + snapLead (e.req.object.getLsbD 8)) ||
      decide (e.accepted + 200000000 < latchTick e.accepted e.req)) = false := by
    rw [decide_eq_false (Nat.not_lt.mpr h1), decide_eq_false (Nat.not_lt.mpr h2)]
    rfl
  unfold snapAccept
  simp only [hb, h3, Bool.false_eq_true, if_false]

/-- Past its commit point a SNAP_TAKE that holds its set waits for the latch (R108, R109). -/
theorem snapTake_held (e : Entry) (t : Nat) (s : State) (h0 : e.data = word 0 :: natToWords 2 t) (ht : t < 2 ^ 64)
    (h1 : s.now + snapLead (e.req.object.getLsbD 8) ≤ t) :
    snapTake e s =
      (modSet (obj e.req % 4) (fun x => { x with armed := true })
        (if e.req.object.getLsbD 8 && (plyOf 1 s).state == .up && !(plyOf 1 s).orderErr then
          modChainSt (fun c => { c with sentMark := some (obj e.req % 4, t) }) s else s),
        .wait (.latch (obj e.req % 4) t) (e.accepted + 200000 < t) (natToWords 2 t)) := by
  have h2 : ¬ t < s.now + snapLead (e.req.object.getLsbD 8) := by omega
  have h3 : (wordAt e.data 0).toNat = 0 := by
    rw [h0]
    rfl
  have h4 : wordsToNat (e.data.drop 1) = t := by
    rw [h0]
    exact wordsToNat_two t ht
  unfold snapTake
  simp only [h3, h4, h2, if_false]

/-- The entry of a SNAP_TAKE once it is accepted. -/
theorem entryOf_snapAccept (r : Req) (s : State) (d : List Word) (f : ReelSet → ReelSet) (h : tagHeld r (arrived r s) = false) :
    entryOf r (modEntry (entryFor infoSnapTake r s) (fun x => { x with data := d })
      (modSet (obj r % 4) f (heldAt infoSnapTake r s))) = some { entryFor infoSnapTake r s with data := d } := by
  have hn : List.find? (fun e : Entry => e.req.slot == r.slot && e.req.tag == r.tag) (arrived r s).host.flight = none := by
    simpa [tagHeld] using h
  show List.find? (fun e : Entry => e.req.slot == r.slot && e.req.tag == r.tag)
    (((arrived r s).host.flight ++ [entryFor infoSnapTake r s]).map (fun x => if sameCmd x (entryFor infoSnapTake r s) then { x with data := d } else x)) = _
  rw [List.map_append, List.find?_append]
  have e3 : List.find? (fun e : Entry => e.req.slot == r.slot && e.req.tag == r.tag)
      ((arrived r s).host.flight.map (fun x => if sameCmd x (entryFor infoSnapTake r s) then { x with data := d } else x)) = none := by
    rw [List.find?_eq_none] at hn ⊢
    intro x hx
    obtain ⟨y, hy, rfl⟩ := List.mem_map.mp hx
    have := hn y hy
    split <;> exact this
  rw [e3]
  simp [entryFor, sameCmd]

end Sys2Proof.Machine
end

