-- ==== Sys2Proof/Laws/Regs.lean ====
section
/-! SUPPORT. The register rows: what a WRITE_REG of each of them comes to in its block. -/

namespace Sys2Proof.Machine

/-- The address of a register request is read back as it was written. -/
theorem obj_regReq (a : Nat) (v : Word) (r : Req) (h : a < 2 ^ 32) : obj (regReq a v r) = a := by
  show (BitVec.ofNat 32 a).toNat = a
  rw [BitVec.toNat_ofNat]
  exact Nat.mod_eq_of_lt h

/-- A register row that is taken as it arrives brings the answer of its block to its command. -/
theorem regWrite_ready (a : Nat) (v : Word) (r : Req) (s : State) (ha : a < 2 ^ 32) (h : ready infoWriteReg (regReq a v r) s = true) :
    regWrite a v r s =
      settle (entryFor infoWriteReg (regReq a v r) s)
        (writeReg (entryFor infoWriteReg (regReq a v r) s).authed false a v (atRun infoWriteReg (regReq a v r) s)).2
        (writeReg (entryFor infoWriteReg (regReq a v r) s).authed false a v (atRun infoWriteReg (regReq a v r) s)).1 := by
  show command infoWriteReg (regReq a v r) s = _
  rw [command_ready _ _ _ h rfl]
  have e : infoWriteReg.run (takenEntry infoWriteReg (regReq a v r) s) (atRun infoWriteReg (regReq a v r) s) =
      writeReg (entryFor infoWriteReg (regReq a v r) s).authed false (obj (regReq a v r)) v (atRun infoWriteReg (regReq a v r) s) := rfl
  rw [e, obj_regReq a v r ha]

/-- SKEIN_CTLk. -/
theorem writeReg_skeinCtl (x y : Bool) (k : Nat) (v : Word) (s : State) (h : k < 48) :
    writeReg x y (0x42014 + 0x20 * k) v s = writeSkeinCtl k v s := by
  have h1 : (0x42014 + 0x20 * k) / 0x10000 = 4 := by omega
  have h2 : (0x42014 + 0x20 * k) % 0x10000 = 0x2014 + 0x20 * k := by omega
  have h3 : ¬ (0x2014 + 0x20 * k < 0x1800 ∧ (0x2014 + 0x20 * k) % 0x40 = 0) := by omega
  have h4 : 0x2000 ≤ 0x2014 + 0x20 * k ∧ 0x2014 + 0x20 * k < 0x2600 ∧ (0x2014 + 0x20 * k) % 0x20 = 0x14 := by omega
  have h5 : (0x2014 + 0x20 * k - 0x2000) / 0x20 = k := by omega
  simp only [writeReg, h1, h2, writeCell, h3, h4, h5, if_false]
  simp

/-- LOOM_SKEIN_CFGk. -/
theorem writeReg_loomCfg (x y : Bool) (k : Nat) (v : Word) (s : State) (h : k < 48) :
    writeReg x y (0x31000 + 0x10 * k + 4 * b2n false) v s = asOpcode (rotateCfg k v) s := by
  have h0 : 0x31000 + 0x10 * k + 4 * b2n false = 0x31000 + 0x10 * k := by simp [b2n]
  have h1 : (0x31000 + 0x10 * k) / 0x10000 = 3 := by omega
  have h2 : (0x31000 + 0x10 * k) % 0x10000 = 0x1000 + 0x10 * k := by omega
  have h3 : ¬ 0x1000 + 0x10 * k = 0 ∧ ¬ 0x1000 + 0x10 * k = 8 ∧ ¬ 0x1000 + 0x10 * k = 0x10 := by omega
  have h4 : 0x1000 + 0x10 * k < 0x1300 := by omega
  have h5 : (0x1000 + 0x10 * k - 0x1000) / 0x10 = k := by omega
  have h6 : (0x1000 + 0x10 * k) % 0x10 = 0 := by omega
  rw [h0]
  simp only [writeReg, h1, h2, writeLoom, h3.1, h3.2.1, h3.2.2, h4, h5, h6, if_false]
  simp

/-- LOOM_SKEIN_PINk. -/
theorem writeReg_loomPin (x y : Bool) (k : Nat) (v : Word) (s : State) (h : k < 48) :
    writeReg x y (0x31000 + 0x10 * k + 4 * b2n true) v s = asOpcode (loomPin k v) s := by
  have h0 : 0x31000 + 0x10 * k + 4 * b2n true = 0x31004 + 0x10 * k := by simp [b2n]; omega
  have h1 : (0x31004 + 0x10 * k) / 0x10000 = 3 := by omega
  have h2 : (0x31004 + 0x10 * k) % 0x10000 = 0x1004 + 0x10 * k := by omega
  have h3 : ¬ 0x1004 + 0x10 * k = 0 ∧ ¬ 0x1004 + 0x10 * k = 8 ∧ ¬ 0x1004 + 0x10 * k = 0x10 := by omega
  have h4 : 0x1000 ≤ 0x1004 + 0x10 * k ∧ 0x1004 + 0x10 * k < 0x1300 := by omega
  have h5 : (0x1004 + 0x10 * k - 0x1000) / 0x10 = k := by omega
  have h6 : (0x1004 + 0x10 * k) % 0x10 = 4 := by omega
  rw [h0]
  simp only [writeReg, h1, h2, writeLoom, h3.1, h3.2.1, h3.2.2, h4, h5, h6, if_false]
  simp

/-- FIO_PINi_CFG. -/
theorem writeReg_fioPinCfg (x y : Bool) (i : Nat) (v : Word) (s : State) (h : i < 80) :
    writeReg x y (0x81000 + 4 * i) v s = asFio (fioCfg i [v]) s := by
  have h1 : (0x81000 + 4 * i) / 0x10000 = 8 := by omega
  have h2 : (0x81000 + 4 * i) % 0x10000 = 0x1000 + 4 * i := by omega
  have h4 : 0x1000 ≤ 0x1000 + 4 * i ∧ 0x1000 + 4 * i < 0x1140 := by omega
  have h5 : (0x1000 + 4 * i - 0x1000) / 4 = i := by omega
  simp only [writeReg, h1, h2, writeFio]
  split <;> first | omega | (rw [if_pos h4, h5])

/-- FIO_OUTn. -/
theorem writeReg_fioOut (x y : Bool) (n : Nat) (v : Word) (s : State) (h : n < 3) :
    writeReg x y (0x80020 + 4 * n) v s = asFio (fun s => fioWrite (outWordMask n s) (v.toNat <<< (32 * n)) s) s := by
  match n, h with
  | 0, _ => rfl
  | 1, _ => rfl
  | 2, _ => rfl

/-- A word of the Whorl program memory. -/
theorem writeReg_whorlProgram (x y : Bool) (i : Nat) (v : Word) (s : State) (h : i < 1024) (hg : groupOff 0x04 s = false) :
    writeReg x y (0x74000 + 4 * i) v s = whorlLoad i [v] s := by
  have h1 : (0x74000 + 4 * i) / 0x10000 = 7 := by omega
  have h2 : (0x74000 + 4 * i) % 0x10000 = 0x4000 + 4 * i := by omega
  have h3 : ¬ 0x4000 + 4 * i < 0x200 ∧ ¬ 0x4000 + 4 * i < 0x240 ∧ ¬ 0x4000 + 4 * i = 0x300 ∧ ¬ (0x1000 ≤ 0x4000 + 4 * i ∧ 0x4000 + 4 * i < 0x1300) := by omega
  have h4 : 0x4000 ≤ 0x4000 + 4 * i ∧ 0x4000 + 4 * i < 0x5000 := by omega
  have h5 : (0x4000 + 4 * i - 0x4000) / 4 = i := by omega
  simp only [writeReg, h1, h2, writeLight, h3.1, h3.2.1, h3.2.2.1, h3.2.2.2, h5, if_false, hg]
  rw [if_pos h4]; rfl

/-- A word of the routing table. -/
theorem writeReg_route (x y : Bool) (e j : Nat) (v : Word) (s : State) (h : e < 2048) (hj : j < 4) (hg : groupOff 0x06 s = false) :
    writeReg x y (0xB8000 + 0x10 * e + 4 * j) v s = writeRoutes (4 * e + j) [v] s := by
  have h1 : (0xB8000 + 0x10 * e + 4 * j) / 0x10000 = 0xB := by omega
  have h2 : (0xB8000 + 0x10 * e + 4 * j) % 0x10000 = 0x8000 + 0x10 * e + 4 * j := by omega
  have h3 : ¬ 0x8000 + 0x10 * e + 4 * j < 0xC0 ∧ ¬ (0x1000 ≤ 0x8000 + 0x10 * e + 4 * j ∧ 0x8000 + 0x10 * e + 4 * j < 0x1180) := by omega
  have h4 : 0x8000 ≤ 0x8000 + 0x10 * e + 4 * j ∧ 0x8000 + 0x10 * e + 4 * j < 0x10000 := by omega
  have h5 : (0x8000 + 0x10 * e + 4 * j - 0x8000) / 4 = 4 * e + j := by omega
  simp only [writeReg, h1, h2, writeNmgw, h3.1, h3.2, if_false]
  split <;> first | omega | (rw [if_pos h4, h5, hg]; rfl)

/-- CAN_TRIGi_CFG and CAN_TRIGi_WIN. -/
theorem writeReg_trig (x y : Bool) (i : Nat) (win : Bool) (v : Word) (s : State) (h : i < 16) :
    writeReg x y (0xAC100 + 8 * i + 4 * b2n win) v s = writeTrig i (4 * b2n win) v s := by
  have hw : b2n win ≤ 1 := by cases win <;> decide
  have h1 : (0xAC100 + 8 * i + 4 * b2n win) / 0x10000 = 0xA := by omega
  have h2 : (0xAC100 + 8 * i + 4 * b2n win) % 0x10000 = 0xC100 + 8 * i + 4 * b2n win := by omega
  have h3 : ¬ 0xC100 + 8 * i + 4 * b2n win < 0xC000 ∧ ¬ 0xC100 + 8 * i + 4 * b2n win = 0xC00C := by omega
  have h4 : 0xC100 ≤ 0xC100 + 8 * i + 4 * b2n win ∧ 0xC100 + 8 * i + 4 * b2n win < 0xC180 := by omega
  have h5 : (0xC100 + 8 * i + 4 * b2n win - 0xC100) / 8 = i := by omega
  have h6 : (0xC100 + 8 * i + 4 * b2n win) % 8 = 4 * b2n win := by omega
  have h7 : (0xC100 + 8 * i + 4 * b2n win) % 4 = 0 := by omega
  simp only [writeReg, h1, h2, writeCan, h3.1, h3.2, h5, h6, h7, if_false]
  rw [if_pos h4, if_pos trivial]

/-- A word of an authentication profile. -/
theorem writeReg_auth (x y : Bool) (a j : Nat) (v : Word) (s : State) (h : a < 64) (hj : j < 4) :
    writeReg x y (0xAD000 + 0x10 * a + 4 * j) v s = writeAuth a (4 * j) v x s := by
  have h1 : (0xAD000 + 0x10 * a + 4 * j) / 0x10000 = 0xA := by omega
  have h2 : (0xAD000 + 0x10 * a + 4 * j) % 0x10000 = 0xD000 + 0x10 * a + 4 * j := by omega
  have h3 : ¬ 0xD000 + 0x10 * a + 4 * j < 0xC000 ∧ ¬ 0xD000 + 0x10 * a + 4 * j = 0xC00C ∧ ¬ (0xC100 ≤ 0xD000 + 0x10 * a + 4 * j ∧ 0xD000 + 0x10 * a + 4 * j < 0xC180) := by omega
  have h4 : 0xD000 ≤ 0xD000 + 0x10 * a + 4 * j ∧ 0xD000 + 0x10 * a + 4 * j < 0xD400 := by omega
  have h5 : (0xD000 + 0x10 * a + 4 * j - 0xD000) / 0x10 = a := by omega
  have h6 : (0xD000 + 0x10 * a + 4 * j) % 0x10 = 4 * j := by omega
  simp only [writeReg, h1, h2, writeCan, h3.1, h3.2.1, h3.2.2, h5, h6, if_false]
  rw [if_pos h4]

/-- The blocks SYS, ACT, KEY and REEL hold no register that a write changes (R7). -/
theorem writeReg_readOnly (x y : Bool) (n : Nat) (v : Word) (s : State) (h : n / 0x10000 ∈ [0x00, 0x06, 0x0D, 0x11]) :
    writeReg x y n v s = (s, .done []) := by
  simp only [List.mem_cons, List.not_mem_nil, or_false] at h
  rcases h with h | h | h | h <;> (unfold writeReg; rw [h]; rfl)

/-- HOST_MACm_IP. -/
theorem writeReg_macIp (x y : Bool) (m : Nat) (v : Word) (s : State) (h : m < 2) :
    writeReg x y (0x10204 + 0x40 * m) v s = (modMac m (fun x => { x with ip := v }) s, .done []) := by
  have h1 : (0x10204 + 0x40 * m) / 0x10000 = 1 := by omega
  have h2 : (0x10204 + 0x40 * m) % 0x10000 = 0x204 + 0x40 * m := by omega
  have h3 : ¬ 0x204 + 0x40 * m < 0x10 ∧ ¬ (0x30 ≤ 0x204 + 0x40 * m ∧ 0x204 + 0x40 * m < 0x40) ∧ ¬ 0x204 + 0x40 * m = 0x104 := by omega
  have h4 : 0x200 ≤ 0x204 + 0x40 * m ∧ 0x204 + 0x40 * m < 0x280 := by omega
  have h5 : (0x204 + 0x40 * m - 0x200) / 0x40 = m := by omega
  have h6 : (0x204 + 0x40 * m - 0x200) % 0x40 = 4 := by omega
  simp only [writeReg, h1, h2, writeHost, h3.1, h3.2.1, h3.2.2, h5, h6, if_false]
  rw [if_pos h4]

/-- LOOM_PWR_LIMIT: a value out of its range leaves it as it was (R630). -/
theorem writeReg_pwrLimit (x y : Bool) (v : Word) (s : State) :
    writeReg x y 0x30008 v s =
      (if fld 15 0 v ≤ 1800 then modLoom (fun l => { l with pwrLimit := setFld 15 0 (fld 15 0 v) l.pwrLimit }) s else s, .done []) := by
  show (modLoom (fun l => { l with pwrLimit := writeFields [rwIn 15 0 0 1800] l.pwrLimit v }) s, Ans.done []) = _
  by_cases hv : fld 15 0 v ≤ 1800
  · rw [if_pos hv]; simp [writeFields, writeField, hv]
  · rw [if_neg hv]; simp [writeFields, writeField, hv, modLoom]

/-- CAN_TRIGt_CFG and CAN_TRIGt_WIN: words that R376 takes are kept for the next cycle start. -/
theorem writeTrig_takes (i : Nat) (win : Bool) (v : Word) (s : State) :
    let a := settleTrig i s
    let old := trigWords (nth a.can.trigs i)
    let c := if win then old.1 else v &&& 0xBFEFFFFF
    let w := if win then v &&& 0xFFFF else old.2
    fld 29 27 c ≤ 6 → w ≠ 0 → trigFits a.can.nt.cycleT c = true →
    writeTrig i (4 * b2n win) v s = (modTrig i (fun x => { x with next := some (c, w, a.now) }) a, .done []) := by
  intro a old c w h1 h2 h3
  have h : ¬ (6 < fld 29 27 c ∨ w = 0 ∨ (!trigFits a.can.nt.cycleT c) = true) := by
    rintro (h | h | h)
    · omega
    · exact h2 h
    · rw [h3] at h; exact absurd h (by decide)
  cases win <;> exact if_neg h
/-- LIGHT_PORTp_COLIq, judged on its own. -/
theorem writeReg_coli (x : Bool) (p q : Nat) (v : Word) (s : State) (hp : p < 2) (hq : q < 12) :
    writeReg x false (0x70040 + 0x100 * p + 4 * q) v s =
      if max 2125 (coliSum (coliWanted p s)) < coliSum (put (coliWanted p s) q v) then (s, .fail .budgetExceeded [])
      else writeP (.light (0x40 + 0x100 * p + 4 * q) v) s := by
  have h1 : (0x70040 + 0x100 * p + 4 * q) / 0x10000 = 7 := by omega
  have h2 : (0x70040 + 0x100 * p + 4 * q) % 0x10000 = 0x40 + 0x100 * p + 4 * q := by omega
  have h3 : 0x40 + 0x100 * p + 4 * q < 0x200 := by omega
  have h4 : (0x40 + 0x100 * p + 4 * q) / 0x100 = p := by omega
  have h5 : (0x40 + 0x100 * p + 4 * q) % 0x100 = 0x40 + 4 * q := by omega
  have h6 : ¬ 0x40 + 4 * q = 0 ∧ ¬ 0x40 + 4 * q = 8 ∧ ¬ (0x40 + 4 * q = 0x0C ∨ 0x40 + 4 * q = 0x10 ∨ 0x40 + 4 * q = 0x14 ∨ 0x40 + 4 * q = 0x18 ∨ 0x40 + 4 * q = 0x1C) := by omega
  have h7 : 0x40 ≤ 0x40 + 4 * q ∧ 0x40 + 4 * q < 0x70 := by omega
  have h8 : (0x40 + 4 * q - 0x40) / 4 = q := by omega
  have h9 : 0x100 * p + (0x40 + 4 * q) = 0x40 + 0x100 * p + 4 * q := by omega
  simp only [writeReg, h1, h2, writeLight, h3, h4, h5, if_true, writePort, h6.1, h6.2.1, h6.2.2, h8, h9, if_false]
  rw [if_pos h7]; simp

/-- LIGHT_PORTp_CFG. -/
theorem writeReg_portCfg (x y : Bool) (p : Nat) (v : Word) (s : State) (hp : p < 2) :
    writeReg x y (0x70000 + 0x100 * p) v s = writePortCfg p v s := by
  match p, hp with
  | 0, _ => rfl
  | 1, _ => rfl

/-- A word of the frame memory window. -/
theorem writeReg_frame (x y : Bool) (i p b q : Nat) (v : Word) (s : State) (hi : i < 1536) (hw : windowPixel (0x8000 + 4 * i) = some (p, b, q)) :
    writeReg x y (0x78000 + 4 * i) v s = writeWindow p b q v s := by
  have h1 : (0x78000 + 4 * i) / 0x10000 = 7 := by omega
  have h2 : (0x78000 + 4 * i) % 0x10000 = 0x8000 + 4 * i := by omega
  have h3 : ¬ 0x8000 + 4 * i < 0x200 ∧ ¬ 0x8000 + 4 * i < 0x240 ∧ ¬ 0x8000 + 4 * i = 0x300 ∧
    ¬ (0x1000 ≤ 0x8000 + 4 * i ∧ 0x8000 + 4 * i < 0x1300) ∧ ¬ (0x4000 ≤ 0x8000 + 4 * i ∧ 0x8000 + 4 * i < 0x5000) := by omega
  simp only [writeReg, h1, h2, writeLight, h3.1, h3.2.1, h3.2.2.1, h3.2.2.2.1, h3.2.2.2.2, if_false, hw]

/-- CAN_ERRCAPk read. -/
theorem readReg_errcap (k : Nat) (s : State) (h : k < 12) : readReg (0xA0024 + 0x1000 * k) s = some (canCtl k s).errCap := by
  have h0 : addrOk (0xA0024 + 0x1000 * k) = true := by simp [addrOk]; omega
  have h1 : (0xA0024 + 0x1000 * k) / 0x10000 = 0xA := by omega
  have h2 : (0xA0024 + 0x1000 * k) % 0x10000 = 0x0024 + 0x1000 * k := by omega
  have h3 : 0x0024 + 0x1000 * k < 0xC000 := by omega
  have h4 : (0x0024 + 0x1000 * k) / 0x1000 = k := by omega
  have h5 : (0x0024 + 0x1000 * k) % 0x1000 = 0x24 := by omega
  simp only [readReg, h0, h1, h2]
  simp only [readCan, h3, if_true, readCtl, h4, h5, Bool.not_true, Bool.false_eq_true, if_false]

/-- Reading CAN_ERRCAPk clears it. -/
theorem readClears_errcap (k : Nat) (s : State) (h : k < 12) :
    readClears (0xA0024 + 0x1000 * k) s = modCtl k (fun c => { c with errCap := 0 }) s := by
  have h1 : (0xA0024 + 0x1000 * k) / 0x10000 = 0xA := by omega
  have h2 : (0xA0024 + 0x1000 * k) % 0x10000 = 0x0024 + 0x1000 * k := by omega
  have h4 : (0x0024 + 0x1000 * k) / 0x1000 = k := by omega
  have h5 : 0x0024 + 0x1000 * k < 0xC000 ∧ (0x0024 + 0x1000 * k) % 0x1000 = 0x24 := by omega
  simp only [readClears, h1, h2, readsCan, h4, if_true]
  rw [if_pos h5]

/-! ### WEFT_CTL (R236, R243) -/

/-- RETRAIN beside HOLD leaves the field HOLD. -/
theorem hold_retrain (v : Word) : fld 25 16 (v ||| 1) = fld 25 16 v := by
  simp only [fld, BitVec.toNat_or, Nat.shiftRight_or_distrib]
  simp

/-- HOLD alone reads back. -/
theorem hold_alone (n : Nat) (h : n < 1024) : fld 25 16 (pack [(16, n)]) = n := by
  have h1 : n <<< 16 < 2 ^ 32 := by rw [Nat.shiftLeft_eq]; omega
  have h2 : pack [(16, n)] = BitVec.ofNat 32 (n <<< 16) := by simp [pack, word]
  rw [h2]
  unfold fld
  rw [BitVec.toNat_ofNat, Nat.mod_eq_of_lt h1, Nat.shiftLeft_shiftRight]
  exact Nat.mod_eq_of_lt h

/-- HOLD alone is no RETRAIN. -/
theorem hold_no_retrain (n : Nat) : bit 0 (pack [(16, n)]) = false := by
  simp only [bit, pack, word, BitVec.getLsbD_or, BitVec.getLsbD_ofNat, Nat.testBit_shiftLeft]
  simp

/-! ### Pin sets (R335) -/

/-- Bit j of a set built from a list. -/
theorem testBit_foldl_or (l : List Nat) (a j : Nat) :
    (l.foldl (fun acc i => acc ||| (1 <<< i)) a).testBit j = (a.testBit j || l.contains j) := by
  induction l generalizing a with
  | nil => simp
  | cons x rest ih =>
    rw [List.foldl_cons, ih, Nat.testBit_or, Nat.one_shiftLeft, Nat.testBit_two_pow, List.contains_cons]
    by_cases h : x = j
    · subst h; simp
    · have h' : (j == x) = false := by simpa using fun e => h e.symm
      simp [h, h']

/-- Bit j of a set of indices says whether j is a member. -/
theorem testBit_bitsOf (l : List Nat) (j : Nat) : (bitsOf l).testBit j = l.contains j := by
  simp [bitsOf, testBit_foldl_or]

/-- Bit j of a pin set. -/
theorem testBit_pinsWhere (p : Nat → Bool) (j : Nat) : (pinsWhere p).testBit j = (decide (j < 80) && p j) := by
  rw [pinsWhere, testBit_bitsOf]
  by_cases h : j < 80 <;> cases hp : p j <;> simp [h, hp]

/-- A pin set picked by a stronger condition lies inside. -/
theorem pinsWhere_and (p q : Nat → Bool) (h : ∀ i, p i = true → q i = true) : pinsWhere p &&& pinsWhere q = pinsWhere p := by
  apply Nat.eq_of_testBit_eq
  intro j
  rw [Nat.testBit_and, testBit_pinsWhere, testBit_pinsWhere]
  cases hp : p j
  · simp
  · simp [h j hp]

/-- The set of outputs that FIO_WRITE commands: the masked pins take their values over what is on its way. -/
def fioNext (mask value : Nat) (s : State) : Nat := outputsComing s - (outputsComing s &&& mask) + (value &&& mask)

/-- FIO_OUTn drives pins in OUTPUT alone, so its write passes the check of FIO_WRITE. -/
theorem fioWrite_outWord (n v : Nat) (s : State) (h2 : linkLive s = true) :
    fioWrite (outWordMask n s) v s = ((sendOutputs (fioNext (outWordMask n s) v s) s).2,
      .wait (.echo (sendOutputs (fioNext (outWordMask n s) v s) s).1) false []) := by
  have h : outWordMask n s &&& pinsWhere (fun i => pinMode (pinWanted i s) == 2) = outWordMask n s :=
    pinsWhere_and _ _ (by intro i hi; simp only [Bool.and_eq_true] at hi; exact hi.2)
  simp [fioWrite, h, h2, fioNext]

/-- What FIO_WRITE runs. -/
theorem infoFioWrite_run (e : Entry) (s : State) :
    infoFioWrite.run e s =
      fioWrite (wordsPins (arg e.req 0) (arg e.req 1) (arg e.req 2)) (wordsPins (arg e.req 3) (arg e.req 4) (arg e.req 5)) s := by
  unfold infoFioWrite
  dsimp only

/-- FIO_WRITE of pins in OUTPUT goes to the P-die. -/
theorem fioWrite_takes (mask value : Nat) (s : State) (h1 : mask &&& pinsWhere (fun i => pinMode (pinWanted i s) == 2) = mask)
    (h2 : linkLive s = true) :
    fioWrite mask value s = ((sendOutputs (fioNext mask value s) s).2,
      .wait (.echo (sendOutputs (fioNext mask value s) s).1) false []) := by
  unfold fioWrite
  refine (if_neg (by rw [h1]; simp)).trans ?_
  exact if_neg (by simp [h2])

end Sys2Proof.Machine
end

