-- ==== Sys2Proof/Laws/Time.lean ====
section
/-! SUPPORT. What a move of the clocks leaves as it was: one lemma per observation of the state and clock. -/

namespace Sys2Proof.Machine

@[simp] theorem toL_actSkein (k mode : Nat) (t_ : Nat) (s : State) : actSkein k mode (toL t_ s) = actSkein k mode s := rfl
@[simp] theorem toP_actSkein (k mode : Nat) (t_ : Nat) (s : State) : actSkein k mode (toP t_ s) = actSkein k mode s := rfl
@[simp] theorem toL_profComing (b : Nat) (t_ : Nat) (s : State) : profComing b (toL t_ s) = profComing b s := rfl
@[simp] theorem toP_profComing (b : Nat) (t_ : Nat) (s : State) : profComing b (toP t_ s) = profComing b s := rfl
@[simp] theorem toL_bindValid (a : Nat) (p : ActProfile) (t_ : Nat) (s : State) : bindValid a p (toL t_ s) = bindValid a p s := rfl
@[simp] theorem toP_bindValid (a : Nat) (p : ActProfile) (t_ : Nat) (s : State) : bindValid a p (toP t_ s) = bindValid a p s := rfl
@[simp] theorem toL_bankProfiles (a : Nat) (p : ActProfile) (t_ : Nat) (s : State) : bankProfiles a p (toL t_ s) = bankProfiles a p s := rfl
@[simp] theorem toP_bankProfiles (a : Nat) (p : ActProfile) (t_ : Nat) (s : State) : bankProfiles a p (toP t_ s) = bankProfiles a p s := rfl
@[simp] theorem toL_actCurrentsValid (a : Nat) (p : ActProfile) (t_ : Nat) (s : State) : actCurrentsValid a p (toL t_ s) = actCurrentsValid a p s := rfl
@[simp] theorem toP_actCurrentsValid (a : Nat) (p : ActProfile) (t_ : Nat) (s : State) : actCurrentsValid a p (toP t_ s) = actCurrentsValid a p s := rfl
@[simp] theorem toL_clampValid (a : Nat) (p : ActProfile) (t_ : Nat) (s : State) : clampValid a p (toL t_ s) = clampValid a p s := rfl
@[simp] theorem toP_clampValid (a : Nat) (p : ActProfile) (t_ : Nat) (s : State) : clampValid a p (toP t_ s) = clampValid a p s := rfl
@[simp] theorem toL_fireBarred (k : Nat) (t_ : Nat) (s : State) : fireBarred k (toL t_ s) = fireBarred k s := rfl
@[simp] theorem toP_fireBarred (k : Nat) (t_ : Nat) (s : State) : fireBarred k (toP t_ s) = fireBarred k s := rfl
@[simp] theorem toL_queued (p : ActProfile) (t_ : Nat) (s : State) : queued p (toL t_ s) = queued p s := rfl
@[simp] theorem toP_queued (p : ActProfile) (t_ : Nat) (s : State) : queued p (toP t_ s) = queued p s := rfl
@[simp] theorem toL_adoptedHand (fresh : Bool) (k : Nat) (t_ : Nat) (s : State) : adoptedHand fresh k (toL t_ s) = adoptedHand fresh k s := rfl
@[simp] theorem toP_adoptedHand (fresh : Bool) (k : Nat) (t_ : Nat) (s : State) : adoptedHand fresh k (toP t_ s) = adoptedHand fresh k s := rfl
@[simp] theorem toL_knownDef (fresh : Bool) (k : Nat) (t_ : Nat) (s : State) : knownDef fresh k (toL t_ s) = knownDef fresh k s := rfl
@[simp] theorem toP_knownDef (fresh : Bool) (k : Nat) (t_ : Nat) (s : State) : knownDef fresh k (toP t_ s) = knownDef fresh k s := rfl
@[simp] theorem toL_defAgrees (k : Nat) (d : SkeinDef) (t_ : Nat) (s : State) : defAgrees k d (toL t_ s) = defAgrees k d s := rfl
@[simp] theorem toP_defAgrees (k : Nat) (d : SkeinDef) (t_ : Nat) (s : State) : defAgrees k d (toP t_ s) = defAgrees k d s := rfl
@[simp] theorem toL_heldUp (fresh : Bool) (u : UpFrame) (t_ : Nat) (s : State) : heldUp fresh u (toL t_ s) = heldUp fresh u s := rfl
@[simp] theorem toP_heldUp (fresh : Bool) (u : UpFrame) (t_ : Nat) (s : State) : heldUp fresh u (toP t_ s) = heldUp fresh u s := rfl
@[simp] theorem toL_fsModeP (k : Nat) (t_ : Nat) (s : State) : fsModeP k (toL t_ s) = fsModeP k s := rfl
@[simp] theorem toP_fsModeP (k : Nat) (t_ : Nat) (s : State) : fsModeP k (toP t_ s) = fsModeP k s := rfl
@[simp] theorem toL_canCtl (k : Nat) (t_ : Nat) (s : State) : canCtl k (toL t_ s) = canCtl k s := rfl
@[simp] theorem toP_canCtl (k : Nat) (t_ : Nat) (s : State) : canCtl k (toP t_ s) = canCtl k s := rfl
@[simp] theorem toL_canAuth (a : Nat) (t_ : Nat) (s : State) : canAuth a (toL t_ s) = canAuth a s := rfl
@[simp] theorem toP_canAuth (a : Nat) (t_ : Nat) (s : State) : canAuth a (toP t_ s) = canAuth a s := rfl
@[simp] theorem toL_canClocked (k : Nat) (t_ : Nat) (s : State) : canClocked k (toL t_ s) = canClocked k s := rfl
@[simp] theorem toP_canClocked (k : Nat) (t_ : Nat) (s : State) : canClocked k (toP t_ s) = canClocked k s := rfl
@[simp] theorem toL_authProfileOf (k : Nat) (tx : Bool) (w0 : Word) (t_ : Nat) (s : State) : authProfileOf k tx w0 (toL t_ s) = authProfileOf k tx w0 s := rfl
@[simp] theorem toP_authProfileOf (k : Nat) (tx : Bool) (w0 : Word) (t_ : Nat) (s : State) : authProfileOf k tx w0 (toP t_ s) = authProfileOf k tx w0 s := rfl
@[simp] theorem toL_authLoad (a : Nat) (t_ : Nat) (s : State) : authLoad a (toL t_ s) = authLoad a s := rfl
@[simp] theorem toP_authLoad (a : Nat) (t_ : Nat) (s : State) : authLoad a (toP t_ s) = authLoad a s := rfl
@[simp] theorem toL_headOf (k src : Nat) (t_ : Nat) (s : State) : headOf k src (toL t_ s) = headOf k src s := rfl
@[simp] theorem toP_headOf (k src : Nat) (t_ : Nat) (s : State) : headOf k src (toP t_ s) = headOf k src s := rfl
@[simp] theorem toL_filtersAt (k sof : Nat) (t_ : Nat) (s : State) : filtersAt k sof (toL t_ s) = filtersAt k sof s := rfl
@[simp] theorem toP_filtersAt (k sof : Nat) (t_ : Nat) (s : State) : filtersAt k sof (toP t_ s) = filtersAt k sof s := rfl
@[simp] theorem toL_filterOf (k : Nat) (x : CanRx) (t_ : Nat) (s : State) : filterOf k x (toL t_ s) = filterOf k x s := rfl
@[simp] theorem toP_filterOf (k : Nat) (x : CanRx) (t_ : Nat) (s : State) : filterOf k x (toP t_ s) = filterOf k x s := rfl
@[simp] theorem toL_hears (k : Nat) (t_ : Nat) (s : State) : hears k (toL t_ s) = hears k s := rfl
@[simp] theorem toP_hears (k : Nat) (t_ : Nat) (s : State) : hears k (toP t_ s) = hears k s := rfl
@[simp] theorem toL_drives (k sof : Nat) (t_ : Nat) (s : State) : drives k sof (toL t_ s) = drives k sof s := rfl
@[simp] theorem toP_drives (k sof : Nat) (t_ : Nat) (s : State) : drives k sof (toP t_ s) = drives k sof s := rfl
@[simp] theorem toL_receives (k : Nat) (t_ : Nat) (s : State) : receives k (toL t_ s) = receives k s := rfl
@[simp] theorem toP_receives (k : Nat) (t_ : Nat) (s : State) : receives k (toP t_ s) = receives k s := rfl
@[simp] theorem toL_formatOn (k : Nat) (x : CanRx) (t_ : Nat) (s : State) : formatOn k x (toL t_ s) = formatOn k x s := rfl
@[simp] theorem toP_formatOn (k : Nat) (x : CanRx) (t_ : Nat) (s : State) : formatOn k x (toP t_ s) = formatOn k x s := rfl
@[simp] theorem toL_canTxValid (k : Nat) (r : Req) (extra : Nat) (t_ : Nat) (s : State) : canTxValid k r extra (toL t_ s) = canTxValid k r extra s := rfl
@[simp] theorem toP_canTxValid (k : Nat) (r : Req) (extra : Nat) (t_ : Nat) (s : State) : canTxValid k r extra (toP t_ s) = canTxValid k r extra s := rfl
@[simp] theorem toL_refPrio (k : Nat) (w0 : Word) (rtr : Bool) (data : List Byte) (t_ : Nat) (s : State) : refPrio k w0 rtr data (toL t_ s) = refPrio k w0 rtr data s := rfl
@[simp] theorem toP_refPrio (k : Nat) (w0 : Word) (rtr : Bool) (data : List Byte) (t_ : Nat) (s : State) : refPrio k w0 rtr data (toP t_ s) = refPrio k w0 rtr data s := rfl
@[simp] theorem toL_refStart (k t : Nat) (t_ : Nat) (s : State) : refStart k t (toL t_ s) = refStart k t s := rfl
@[simp] theorem toP_refStart (k t : Nat) (t_ : Nat) (s : State) : refStart k t (toP t_ s) = refStart k t s := rfl
@[simp] theorem toL_offered (k src : Nat) (t_ : Nat) (s : State) : offered k src (toL t_ s) = offered k src s := rfl
@[simp] theorem toP_offered (k src : Nat) (t_ : Nat) (s : State) : offered k src (toP t_ s) = offered k src s := rfl
@[simp] theorem toL_chosen (k src sof : Nat) (t_ : Nat) (s : State) : chosen k src sof (toL t_ s) = chosen k src sof s := rfl
@[simp] theorem toP_chosen (k src sof : Nat) (t_ : Nat) (s : State) : chosen k src sof (toP t_ s) = chosen k src sof s := rfl
@[simp] theorem toL_earliestSof (k src t : Nat) (t_ : Nat) (s : State) : earliestSof k src t (toL t_ s) = earliestSof k src t s := rfl
@[simp] theorem toP_earliestSof (k src t : Nat) (t_ : Nat) (s : State) : earliestSof k src t (toP t_ s) = earliestSof k src t s := rfl
@[simp] theorem toL_attempted (k src t : Nat) (t_ : Nat) (s : State) : attempted k src t (toL t_ s) = attempted k src t s := rfl
@[simp] theorem toP_attempted (k src t : Nat) (t_ : Nat) (s : State) : attempted k src t (toP t_ s) = attempted k src t s := rfl
@[simp] theorem toL_fmtOf (k src : Nat) (t_ : Nat) (s : State) : fmtOf k src (toL t_ s) = fmtOf k src s := rfl
@[simp] theorem toP_fmtOf (k src : Nat) (t_ : Nat) (s : State) : fmtOf k src (toP t_ s) = fmtOf k src s := rfl
@[simp] theorem toL_rxExtra (k : Nat) (x : CanRx) (t_ : Nat) (s : State) : rxExtra k x (toL t_ s) = rxExtra k x s := rfl
@[simp] theorem toP_rxExtra (k : Nat) (x : CanRx) (t_ : Nat) (s : State) : rxExtra k x (toP t_ s) = rxExtra k x s := rfl
@[simp] theorem toL_ringFlags (k : Nat) (w0 : Word) (data : List Byte) (t_ : Nat) (s : State) : ringFlags k w0 data (toL t_ s) = ringFlags k w0 data s := rfl
@[simp] theorem toP_ringFlags (k : Nat) (w0 : Word) (data : List Byte) (t_ : Nat) (s : State) : ringFlags k w0 data (toP t_ s) = ringFlags k w0 data s := rfl
@[simp] theorem toL_cfgWord (k : Nat) (t_ : Nat) (s : State) : cfgWord k (toL t_ s) = cfgWord k s := rfl
@[simp] theorem toP_cfgWord (k : Nat) (t_ : Nat) (s : State) : cfgWord k (toP t_ s) = cfgWord k s := rfl
@[simp] theorem toL_committedWord (k : Nat) (t_ : Nat) (s : State) : committedWord k (toL t_ s) = committedWord k s := rfl
@[simp] theorem toP_committedWord (k : Nat) (t_ : Nat) (s : State) : committedWord k (toP t_ s) = committedWord k s := rfl
@[simp] theorem toL_cellCfg (n : Nat) (t_ : Nat) (s : State) : cellCfg n (toL t_ s) = cellCfg n s := rfl
@[simp] theorem toP_cellCfg (n : Nat) (t_ : Nat) (s : State) : cellCfg n (toP t_ s) = cellCfg n s := rfl
@[simp] theorem toL_onTimeMs (n : Nat) (t_ : Nat) (s : State) : onTimeMs n (toL t_ s) = onTimeMs n s := rfl
@[simp] theorem toP_onTimeMs (n : Nat) (t_ : Nat) (s : State) : onTimeMs n (toP t_ s) = onTimeMs n s := rfl
@[simp] theorem toL_passes (k : Nat) (t_ : Nat) (s : State) : passes k (toL t_ s) = passes k s := rfl
@[simp] theorem toP_passes (k : Nat) (t_ : Nat) (s : State) : passes k (toP t_ s) = passes k s := rfl
@[simp] theorem toL_plyToward (d : Nat) (t_ : Nat) (s : State) : plyToward d (toL t_ s) = plyToward d s := rfl
@[simp] theorem toP_plyToward (d : Nat) (t_ : Nat) (s : State) : plyToward d (toP t_ s) = plyToward d s := rfl
@[simp] theorem toL_apart (k : Nat) (t_ : Nat) (s : State) : apart k (toL t_ s) = apart k s := rfl
@[simp] theorem toP_apart (k : Nat) (t_ : Nat) (s : State) : apart k (toP t_ s) = apart k s := rfl
@[simp] theorem toL_cellsValid (k : Nat) (d : SkeinDef) (t_ : Nat) (s : State) : cellsValid k d (toL t_ s) = cellsValid k d s := rfl
@[simp] theorem toP_cellsValid (k : Nat) (d : SkeinDef) (t_ : Nat) (s : State) : cellsValid k d (toP t_ s) = cellsValid k d s := rfl
@[simp] theorem toL_offForDefine (k : Nat) (t_ : Nat) (s : State) : offForDefine k (toL t_ s) = offForDefine k s := rfl
@[simp] theorem toP_offForDefine (k : Nat) (t_ : Nat) (s : State) : offForDefine k (toP t_ s) = offForDefine k s := rfl
@[simp] theorem toL_followsLoads (k : Nat) (t_ : Nat) (s : State) : followsLoads k (toL t_ s) = followsLoads k s := rfl
@[simp] theorem toP_followsLoads (k : Nat) (t_ : Nat) (s : State) : followsLoads k (toP t_ s) = followsLoads k s := rfl
@[simp] theorem toL_counterCell (i : Nat) (t_ : Nat) (s : State) : counterCell i (toL t_ s) = counterCell i s := rfl
@[simp] theorem toP_counterCell (i : Nat) (t_ : Nat) (s : State) : counterCell i (toP t_ s) = counterCell i s := rfl
@[simp] theorem toL_wakeFits (target : Nat) (w : Word) (t_ : Nat) (s : State) : wakeFits target w (toL t_ s) = wakeFits target w s := rfl
@[simp] theorem toP_wakeFits (target : Nat) (w : Word) (t_ : Nat) (s : State) : wakeFits target w (toP t_ s) = wakeFits target w s := rfl
@[simp] theorem toL_quietFor (target : Nat) (t_ : Nat) (s : State) : quietFor target (toL t_ s) = quietFor target s := rfl
@[simp] theorem toP_quietFor (target : Nat) (t_ : Nat) (s : State) : quietFor target (toP t_ s) = quietFor target s := rfl
@[simp] theorem toL_sessionParent (p : Nat) (t_ : Nat) (s : State) : sessionParent p (toL t_ s) = sessionParent p s := rfl
@[simp] theorem toP_sessionParent (p : Nat) (t_ : Nat) (s : State) : sessionParent p (toP t_ s) = sessionParent p s := rfl
@[simp] theorem toL_linkOnward (q : Nat) (t_ : Nat) (s : State) : linkOnward q (toL t_ s) = linkOnward q s := rfl
@[simp] theorem toP_linkOnward (q : Nat) (t_ : Nat) (s : State) : linkOnward q (toP t_ s) = linkOnward q s := rfl
@[simp] theorem toL_fresh (h : Head) (t_ : Nat) (s : State) : fresh h (toL t_ s) = fresh h s := rfl
@[simp] theorem toP_fresh (h : Head) (t_ : Nat) (s : State) : fresh h (toP t_ s) = fresh h s := rfl
@[simp] theorem toL_nextPort (t_ : Nat) (s : State) : nextPort (toL t_ s) = nextPort s := rfl
@[simp] theorem toP_nextPort (t_ : Nat) (s : State) : nextPort (toP t_ s) = nextPort s := rfl
@[simp] theorem toL_received (t_ : Nat) (s : State) : received (toL t_ s) = received s := rfl
@[simp] theorem toP_received (t_ : Nat) (s : State) : received (toP t_ s) = received s := rfl
@[simp] theorem toL_portUp (p : Port) (t_ : Nat) (s : State) : portUp p (toL t_ s) = portUp p s := rfl
@[simp] theorem toP_portUp (p : Port) (t_ : Nat) (s : State) : portUp p (toP t_ s) = portUp p s := rfl
@[simp] theorem toL_nextCommand (t_ : Nat) (s : State) : nextCommand (toL t_ s) = nextCommand s := rfl
@[simp] theorem toP_nextCommand (t_ : Nat) (s : State) : nextCommand (toP t_ s) = nextCommand s := rfl
@[simp] theorem toL_reactionOf (n : Nat) (t_ : Nat) (s : State) : reactionOf n (toL t_ s) = reactionOf n s := rfl
@[simp] theorem toP_reactionOf (n : Nat) (t_ : Nat) (s : State) : reactionOf n (toP t_ s) = reactionOf n s := rfl
@[simp] theorem toL_clsOf (c : Nat) (t_ : Nat) (s : State) : clsOf c (toL t_ s) = clsOf c s := rfl
@[simp] theorem toP_clsOf (c : Nat) (t_ : Nat) (s : State) : clsOf c (toP t_ s) = clsOf c s := rfl
@[simp] theorem toL_faultPayload (cls reason : Nat) (w0 w2 : Word) (t_ : Nat) (s : State) : faultPayload cls reason w0 w2 (toL t_ s) = faultPayload cls reason w0 w2 s := rfl
@[simp] theorem toP_faultPayload (cls reason : Nat) (w0 w2 : Word) (t_ : Nat) (s : State) : faultPayload cls reason w0 w2 (toP t_ s) = faultPayload cls reason w0 w2 s := rfl
@[simp] theorem toL_portOfFault (src inst : Nat) (t_ : Nat) (s : State) : portOfFault src inst (toL t_ s) = portOfFault src inst s := rfl
@[simp] theorem toP_portOfFault (src inst : Nat) (t_ : Nat) (s : State) : portOfFault src inst (toP t_ s) = portOfFault src inst s := rfl
@[simp] theorem toL_takenOnce (lvl : Nat) (t_ : Nat) (s : State) : takenOnce lvl (toL t_ s) = takenOnce lvl s := rfl
@[simp] theorem toP_takenOnce (lvl : Nat) (t_ : Nat) (s : State) : takenOnce lvl (toP t_ s) = takenOnce lvl s := rfl
@[simp] theorem toL_pinP (i : Nat) (t_ : Nat) (s : State) : pinP i (toL t_ s) = pinP i s := rfl
@[simp] theorem toP_pinP (i : Nat) (t_ : Nat) (s : State) : pinP i (toP t_ s) = pinP i s := rfl
@[simp] theorem toL_countP (c : Nat) (t_ : Nat) (s : State) : countP c (toL t_ s) = countP c s := rfl
@[simp] theorem toP_countP (c : Nat) (t_ : Nat) (s : State) : countP c (toP t_ s) = countP c s := rfl
@[simp] theorem toL_sampling (t_ : Nat) (s : State) : sampling (toL t_ s) = sampling s := rfl
@[simp] theorem toP_sampling (t_ : Nat) (s : State) : sampling (toP t_ s) = sampling s := rfl
@[simp] theorem toL_sinkCurrent (x : PinP) (t_ : Nat) (s : State) : sinkCurrent x (toL t_ s) = sinkCurrent x s := rfl
@[simp] theorem toP_sinkCurrent (x : PinP) (t_ : Nat) (s : State) : sinkCurrent x (toP t_ s) = sinkCurrent x s := rfl
@[simp] theorem toL_countMode (c : Nat) (t_ : Nat) (s : State) : countMode c (toL t_ s) = countMode c s := rfl
@[simp] theorem toP_countMode (c : Nat) (t_ : Nat) (s : State) : countMode c (toP t_ s) = countMode c s := rfl
@[simp] theorem toL_outputComesOn (i : Nat) (t_ : Nat) (s : State) : outputComesOn i (toL t_ s) = outputComesOn i s := rfl
@[simp] theorem toP_outputComesOn (i : Nat) (t_ : Nat) (s : State) : outputComesOn i (toP t_ s) = outputComesOn i s := rfl
@[simp] theorem toL_pinWanted (i : Nat) (t_ : Nat) (s : State) : pinWanted i (toL t_ s) = pinWanted i s := rfl
@[simp] theorem toP_pinWanted (i : Nat) (t_ : Nat) (s : State) : pinWanted i (toP t_ s) = pinWanted i s := rfl
@[simp] theorem toL_edgeSelected (i : Nat) (v : Bool) (t_ : Nat) (s : State) : edgeSelected i v (toL t_ s) = edgeSelected i v s := rfl
@[simp] theorem toP_edgeSelected (i : Nat) (v : Bool) (t_ : Nat) (s : State) : edgeSelected i v (toP t_ s) = edgeSelected i v s := rfl
@[simp] theorem toL_outputsComing (t_ : Nat) (s : State) : outputsComing (toL t_ s) = outputsComing s := rfl
@[simp] theorem toP_outputsComing (t_ : Nat) (s : State) : outputsComing (toP t_ s) = outputsComing s := rfl
@[simp] theorem toL_outputsUnderWay (t_ : Nat) (s : State) : outputsUnderWay (toL t_ s) = outputsUnderWay s := rfl
@[simp] theorem toP_outputsUnderWay (t_ : Nat) (s : State) : outputsUnderWay (toP t_ s) = outputsUnderWay s := rfl
@[simp] theorem toL_outWordMask (j : Nat) (t_ : Nat) (s : State) : outWordMask j (toL t_ s) = outWordMask j s := rfl
@[simp] theorem toP_outWordMask (j : Nat) (t_ : Nat) (s : State) : outWordMask j (toP t_ s) = outWordMask j s := rfl
@[simp] theorem toL_comingWord (pick : CfgItem → Option Word) (w : Word) (t_ : Nat) (s : State) : comingWord pick w (toL t_ s) = comingWord pick w s := rfl
@[simp] theorem toP_comingWord (pick : CfgItem → Option Word) (w : Word) (t_ : Nat) (s : State) : comingWord pick w (toP t_ s) = comingWord pick w s := rfl
@[simp] theorem toL_flashGoes (k : Nat) (t_ : Nat) (s : State) : flashGoes k (toL t_ s) = flashGoes k s := rfl
@[simp] theorem toP_flashGoes (k : Nat) (t_ : Nat) (s : State) : flashGoes k (toP t_ s) = flashGoes k s := rfl
@[simp] theorem toL_silent (t_ : Nat) (s : State) : silent (toL t_ s) = silent s := rfl
@[simp] theorem toP_silent (t_ : Nat) (s : State) : silent (toP t_ s) = silent s := rfl
@[simp] theorem toL_routeWord (e j : Nat) (t_ : Nat) (s : State) : routeWord e j (toL t_ s) = routeWord e j s := rfl
@[simp] theorem toP_routeWord (e j : Nat) (t_ : Nat) (s : State) : routeWord e j (toP t_ s) = routeWord e j s := rfl
@[simp] theorem toL_routeAt (e : Nat) (t_ : Nat) (s : State) : routeAt e (toL t_ s) = routeAt e s := rfl
@[simp] theorem toP_routeAt (e : Nat) (t_ : Nat) (s : State) : routeAt e (toP t_ s) = routeAt e s := rfl
@[simp] theorem toL_autoIso (g : Nat) (t_ : Nat) (s : State) : autoIso g (toL t_ s) = autoIso g s := rfl
@[simp] theorem toP_autoIso (g : Nat) (t_ : Nat) (s : State) : autoIso g (toP t_ s) = autoIso g s := rfl
@[simp] theorem toL_isolated (g : Nat) (t_ : Nat) (s : State) : isolated g (toL t_ s) = isolated g s := rfl
@[simp] theorem toP_isolated (g : Nat) (t_ : Nat) (s : State) : isolated g (toP t_ s) = isolated g s := rfl
@[simp] theorem toL_segStat (t_ : Nat) (s : State) : segStat (toL t_ s) = segStat s := rfl
@[simp] theorem toP_segStat (t_ : Nat) (s : State) : segStat (toP t_ s) = segStat s := rfl
@[simp] theorem toL_ethOn (m : Nat) (t_ : Nat) (s : State) : ethOn m (toL t_ s) = ethOn m s := rfl
@[simp] theorem toP_ethOn (m : Nat) (t_ : Nat) (s : State) : ethOn m (toP t_ s) = ethOn m s := rfl
@[simp] theorem toL_usedEntries (t_ : Nat) (s : State) : usedEntries (toL t_ s) = usedEntries s := rfl
@[simp] theorem toP_usedEntries (t_ : Nat) (s : State) : usedEntries (toP t_ s) = usedEntries s := rfl
@[simp] theorem toL_routeOf (src : Nat) (x : CanRx) (t_ : Nat) (s : State) : routeOf src x (toL t_ s) = routeOf src x s := rfl
@[simp] theorem toP_routeOf (src : Nat) (x : CanRx) (t_ : Nat) (s : State) : routeOf src x (toP t_ s) = routeOf src x s := rfl
@[simp] theorem toL_carries (k : Nat) (x : CanRx) (extra : Nat) (t_ : Nat) (s : State) : carries k x extra (toL t_ s) = carries k x extra s := rfl
@[simp] theorem toP_carries (k : Nat) (x : CanRx) (extra : Nat) (t_ : Nat) (s : State) : carries k x extra (toP t_ s) = carries k x extra s := rfl
@[simp] theorem toL_tagHeld (r : Req) (t_ : Nat) (s : State) : tagHeld r (toL t_ s) = tagHeld r s := rfl
@[simp] theorem toP_tagHeld (r : Req) (t_ : Nat) (s : State) : tagHeld r (toP t_ s) = tagHeld r s := rfl
@[simp] theorem toL_slotKey (n : Nat) (t_ : Nat) (s : State) : slotKey n (toL t_ s) = slotKey n s := rfl
@[simp] theorem toP_slotKey (n : Nat) (t_ : Nat) (s : State) : slotKey n (toP t_ s) = slotKey n s := rfl
@[simp] theorem toL_eligible (e : Entry) (t_ : Nat) (s : State) : eligible e (toL t_ s) = eligible e s := rfl
@[simp] theorem toP_eligible (e : Entry) (t_ : Nat) (s : State) : eligible e (toP t_ s) = eligible e s := rfl
@[simp] theorem toL_unitClosed (u : Nat) (t_ : Nat) (s : State) : unitClosed u (toL t_ s) = unitClosed u s := rfl
@[simp] theorem toP_unitClosed (u : Nat) (t_ : Nat) (s : State) : unitClosed u (toP t_ s) = unitClosed u s := rfl
@[simp] theorem toL_barred (o : OpInfo) (r : Req) (t_ : Nat) (s : State) : barred o r (toL t_ s) = barred o r s := rfl
@[simp] theorem toP_barred (o : OpInfo) (r : Req) (t_ : Nat) (s : State) : barred o r (toP t_ s) = barred o r s := rfl
@[simp] theorem toL_alignPending (t_ : Nat) (s : State) : alignPending (toL t_ s) = alignPending s := rfl
@[simp] theorem toP_alignPending (t_ : Nat) (s : State) : alignPending (toP t_ s) = alignPending s := rfl
@[simp] theorem toL_entryOf (r : Req) (t_ : Nat) (s : State) : entryOf r (toL t_ s) = entryOf r s := rfl
@[simp] theorem toP_entryOf (r : Req) (t_ : Nat) (s : State) : entryOf r (toP t_ s) = entryOf r s := rfl
@[simp] theorem toL_goesFirst (e : Entry) (t_ : Nat) (s : State) : goesFirst e (toL t_ s) = goesFirst e s := rfl
@[simp] theorem toP_goesFirst (e : Entry) (t_ : Nat) (s : State) : goesFirst e (toP t_ s) = goesFirst e s := rfl
@[simp] theorem toL_interpreterUp (t_ : Nat) (s : State) : interpreterUp (toL t_ s) = interpreterUp s := rfl
@[simp] theorem toP_interpreterUp (t_ : Nat) (s : State) : interpreterUp (toP t_ s) = interpreterUp s := rfl
@[simp] theorem toL_keySlot (n : Nat) (t_ : Nat) (s : State) : keySlot n (toL t_ s) = keySlot n s := rfl
@[simp] theorem toP_keySlot (n : Nat) (t_ : Nat) (s : State) : keySlot n (toP t_ s) = keySlot n s := rfl
@[simp] theorem toL_stale (n : Nat) (t_ : Nat) (s : State) : stale n (toL t_ s) = stale n s := rfl
@[simp] theorem toP_stale (n : Nat) (t_ : Nat) (s : State) : stale n (toP t_ s) = stale n s := rfl
@[simp] theorem toL_loadCheck (n purpose : Nat) (gen : Option Nat) (t_ : Nat) (s : State) : loadCheck n purpose gen (toL t_ s) = loadCheck n purpose gen s := rfl
@[simp] theorem toP_loadCheck (n purpose : Nat) (gen : Option Nat) (t_ : Nat) (s : State) : loadCheck n purpose gen (toP t_ s) = loadCheck n purpose gen s := rfl
@[simp] theorem toL_keysUsed (t_ : Nat) (s : State) : keysUsed (toL t_ s) = keysUsed s := rfl
@[simp] theorem toP_keysUsed (t_ : Nat) (s : State) : keysUsed (toP t_ s) = keysUsed s := rfl
@[simp] theorem toL_persistPend (t_ : Nat) (s : State) : persistPend (toL t_ s) = persistPend s := rfl
@[simp] theorem toP_persistPend (t_ : Nat) (s : State) : persistPend (toP t_ s) = persistPend s := rfl
@[simp] theorem toL_keyStat (t_ : Nat) (s : State) : keyStat (toL t_ s) = keyStat s := rfl
@[simp] theorem toP_keyStat (t_ : Nat) (s : State) : keyStat (toP t_ s) = keyStat s := rfl
@[simp] theorem toL_sessionDead (x : Session) (t_ : Nat) (s : State) : sessionDead x (toL t_ s) = sessionDead x s := rfl
@[simp] theorem toP_sessionDead (x : Session) (t_ : Nat) (s : State) : sessionDead x (toP t_ s) = sessionDead x s := rfl
@[simp] theorem toL_nextKeyWrite (t_ : Nat) (s : State) : nextKeyWrite (toL t_ s) = nextKeyWrite s := rfl
@[simp] theorem toP_nextKeyWrite (t_ : Nat) (s : State) : nextKeyWrite (toP t_ s) = nextKeyWrite s := rfl
@[simp] theorem toL_trngRuns (t_ : Nat) (s : State) : trngRuns (toL t_ s) = trngRuns s := rfl
@[simp] theorem toP_trngRuns (t_ : Nat) (s : State) : trngRuns (toP t_ s) = trngRuns s := rfl
@[simp] theorem toL_hasKeys (r : Req) (t_ : Nat) (s : State) : hasKeys r (toL t_ s) = hasKeys r s := rfl
@[simp] theorem toP_hasKeys (r : Req) (t_ : Nat) (s : State) : hasKeys r (toP t_ s) = hasKeys r s := rfl
@[simp] theorem toL_slotInfo (n : Nat) (t_ : Nat) (s : State) : slotInfo n (toL t_ s) = slotInfo n s := rfl
@[simp] theorem toP_slotInfo (n : Nat) (t_ : Nat) (s : State) : slotInfo n (toP t_ s) = slotInfo n s := rfl
@[simp] theorem toL_slotGen (n : Nat) (t_ : Nat) (s : State) : slotGen n (toL t_ s) = slotGen n s := rfl
@[simp] theorem toP_slotGen (n : Nat) (t_ : Nat) (s : State) : slotGen n (toP t_ s) = slotGen n s := rfl
@[simp] theorem toL_rootStat (t_ : Nat) (s : State) : rootStat (toL t_ s) = rootStat s := rfl
@[simp] theorem toP_rootStat (t_ : Nat) (s : State) : rootStat (toP t_ s) = rootStat s := rfl
@[simp] theorem toL_cryptoValid (r : Req) (t_ : Nat) (s : State) : cryptoValid r (toL t_ s) = cryptoValid r s := rfl
@[simp] theorem toP_cryptoValid (r : Req) (t_ : Nat) (s : State) : cryptoValid r (toP t_ s) = cryptoValid r s := rfl
@[simp] theorem toL_portL (p : Nat) (t_ : Nat) (s : State) : portL p (toL t_ s) = portL p s := rfl
@[simp] theorem toP_portL (p : Nat) (t_ : Nat) (s : State) : portL p (toP t_ s) = portL p s := rfl
@[simp] theorem toL_lightSk (k : Nat) (t_ : Nat) (s : State) : lightSk k (toL t_ s) = lightSk k s := rfl
@[simp] theorem toP_lightSk (k : Nat) (t_ : Nat) (s : State) : lightSk k (toP t_ s) = lightSk k s := rfl
@[simp] theorem toL_engine (e : Nat) (t_ : Nat) (s : State) : engine e (toL t_ s) = engine e s := rfl
@[simp] theorem toP_engine (e : Nat) (t_ : Nat) (s : State) : engine e (toP t_ s) = engine e s := rfl
@[simp] theorem toL_portStat (p : Nat) (t_ : Nat) (s : State) : portStat p (toL t_ s) = portStat p s := rfl
@[simp] theorem toP_portStat (p : Nat) (t_ : Nat) (s : State) : portStat p (toP t_ s) = portStat p s := rfl
@[simp] theorem toL_lightStat (k : Nat) (t_ : Nat) (s : State) : lightStat k (toL t_ s) = lightStat k s := rfl
@[simp] theorem toP_lightStat (k : Nat) (t_ : Nat) (s : State) : lightStat k (toP t_ s) = lightStat k s := rfl
@[simp] theorem toL_whorlStat (e : Nat) (t_ : Nat) (s : State) : whorlStat e (toL t_ s) = whorlStat e s := rfl
@[simp] theorem toP_whorlStat (e : Nat) (t_ : Nat) (s : State) : whorlStat e (toP t_ s) = whorlStat e s := rfl
@[simp] theorem toL_lightDuty (k l : Nat) (t_ : Nat) (s : State) : lightDuty k l (toL t_ s) = lightDuty k l s := rfl
@[simp] theorem toP_lightDuty (k l : Nat) (t_ : Nat) (s : State) : lightDuty k l (toP t_ s) = lightDuty k l s := rfl
@[simp] theorem toL_levelSp (k l : Nat) (t_ : Nat) (s : State) : levelSp k l (toL t_ s) = levelSp k l s := rfl
@[simp] theorem toP_levelSp (k l : Nat) (t_ : Nat) (s : State) : levelSp k l (toP t_ s) = levelSp k l s := rfl
@[simp] theorem toL_backOf (p : Nat) (t_ : Nat) (s : State) : backOf p (toL t_ s) = backOf p s := rfl
@[simp] theorem toP_backOf (p : Nat) (t_ : Nat) (s : State) : backOf p (toP t_ s) = backOf p s := rfl
@[simp] theorem toL_comingPixels (p b : Nat) (t_ : Nat) (s : State) : comingPixels p b (toL t_ s) = comingPixels p b s := rfl
@[simp] theorem toP_comingPixels (p b : Nat) (t_ : Nat) (s : State) : comingPixels p b (toP t_ s) = comingPixels p b s := rfl
@[simp] theorem toL_derateTemp (w : Word) (own : Nat) (t_ : Nat) (s : State) : derateTemp w own (toL t_ s) = derateTemp w own s := rfl
@[simp] theorem toP_derateTemp (w : Word) (own : Nat) (t_ : Nat) (s : State) : derateTemp w own (toP t_ s) = derateTemp w own s := rfl
@[simp] theorem toL_skeinTemp (k : Nat) (t_ : Nat) (s : State) : skeinTemp k (toL t_ s) = skeinTemp k s := rfl
@[simp] theorem toP_skeinTemp (k : Nat) (t_ : Nat) (s : State) : skeinTemp k (toP t_ s) = skeinTemp k s := rfl
@[simp] theorem toL_portCfgComing (p : Nat) (t_ : Nat) (s : State) : portCfgComing p (toL t_ s) = portCfgComing p s := rfl
@[simp] theorem toP_portCfgComing (p : Nat) (t_ : Nat) (s : State) : portCfgComing p (toP t_ s) = portCfgComing p s := rfl
@[simp] theorem toL_coliWanted (p : Nat) (t_ : Nat) (s : State) : coliWanted p (toL t_ s) = coliWanted p s := rfl
@[simp] theorem toP_coliWanted (p : Nat) (t_ : Nat) (s : State) : coliWanted p (toP t_ s) = coliWanted p s := rfl
@[simp] theorem toL_coliBlockOk (off : Nat) (ws : List Word) (t_ : Nat) (s : State) : coliBlockOk off ws (toL t_ s) = coliBlockOk off ws s := rfl
@[simp] theorem toP_coliBlockOk (off : Nat) (ws : List Word) (t_ : Nat) (s : State) : coliBlockOk off ws (toP t_ s) = coliBlockOk off ws s := rfl
@[simp] theorem toL_roleOf (n : Nat) (t_ : Nat) (s : State) : roleOf n (toL t_ s) = roleOf n s := rfl
@[simp] theorem toP_roleOf (n : Nat) (t_ : Nat) (s : State) : roleOf n (toP t_ s) = roleOf n s := rfl
@[simp] theorem toL_roleMask (k : Nat) (r : Role) (t_ : Nat) (s : State) : roleMask k r (toL t_ s) = roleMask k r s := rfl
@[simp] theorem toP_roleMask (k : Nat) (r : Role) (t_ : Nat) (s : State) : roleMask k r (toP t_ s) = roleMask k r s := rfl
@[simp] theorem toL_inService (k : Nat) (t_ : Nat) (s : State) : inService k (toL t_ s) = inService k s := rfl
@[simp] theorem toP_inService (k : Nat) (t_ : Nat) (s : State) : inService k (toP t_ s) = inService k s := rfl
@[simp] theorem toL_pinned (k n : Nat) (t_ : Nat) (s : State) : pinned k n (toL t_ s) = pinned k n s := rfl
@[simp] theorem toP_pinned (k n : Nat) (t_ : Nat) (s : State) : pinned k n (toP t_ s) = pinned k n s := rfl
@[simp] theorem toL_excluded (k n : Nat) (t_ : Nat) (s : State) : excluded k n (toL t_ s) = excluded k n s := rfl
@[simp] theorem toP_excluded (k n : Nat) (t_ : Nat) (s : State) : excluded k n (toP t_ s) = excluded k n s := rfl
@[simp] theorem toL_placed (k : Nat) (t_ : Nat) (s : State) : placed k (toL t_ s) = placed k s := rfl
@[simp] theorem toP_placed (k : Nat) (t_ : Nat) (s : State) : placed k (toP t_ s) = placed k s := rfl
@[simp] theorem toL_spareCells (k : Nat) (t_ : Nat) (s : State) : spareCells k (toL t_ s) = spareCells k s := rfl
@[simp] theorem toP_spareCells (k : Nat) (t_ : Nat) (s : State) : spareCells k (toP t_ s) = spareCells k s := rfl
@[simp] theorem toL_inomL (k : Nat) (t_ : Nat) (s : State) : inomL k (toL t_ s) = inomL k s := rfl
@[simp] theorem toP_inomL (k : Nat) (t_ : Nat) (s : State) : inomL k (toP t_ s) = inomL k s := rfl
@[simp] theorem toL_viewOf (n : Nat) (t_ : Nat) (s : State) : viewOf n (toL t_ s) = viewOf n s := rfl
@[simp] theorem toP_viewOf (n : Nat) (t_ : Nat) (s : State) : viewOf n (toP t_ s) = viewOf n s := rfl
@[simp] theorem toL_rankKey (n : Nat) (t_ : Nat) (s : State) : rankKey n (toL t_ s) = rankKey n s := rfl
@[simp] theorem toP_rankKey (n : Nat) (t_ : Nat) (s : State) : rankKey n (toP t_ s) = rankKey n s := rfl
@[simp] theorem toL_headroom (b : Nat) (t_ : Nat) (s : State) : headroom b (toL t_ s) = headroom b s := rfl
@[simp] theorem toL_capOf (k : Nat) (t_ : Nat) (s : State) : capOf k (toL t_ s) = capOf k s := rfl
@[simp] theorem toP_capOf (k : Nat) (t_ : Nat) (s : State) : capOf k (toP t_ s) = capOf k s := rfl
@[simp] theorem toL_pairCap (k : Nat) (t_ : Nat) (s : State) : pairCap k (toL t_ s) = pairCap k s := rfl
@[simp] theorem toP_pairCap (k : Nat) (t_ : Nat) (s : State) : pairCap k (toP t_ s) = pairCap k s := rfl
@[simp] theorem toL_mapWord (k : Nat) (t_ : Nat) (s : State) : mapWord k (toL t_ s) = mapWord k s := rfl
@[simp] theorem toP_mapWord (k : Nat) (t_ : Nat) (s : State) : mapWord k (toP t_ s) = mapWord k s := rfl
@[simp] theorem toL_statWord (k : Nat) (t_ : Nat) (s : State) : statWord k (toL t_ s) = statWord k s := rfl
@[simp] theorem toP_statWord (k : Nat) (t_ : Nat) (s : State) : statWord k (toP t_ s) = statWord k s := rfl
@[simp] theorem toL_loadNo (k : Nat) (t_ : Nat) (s : State) : loadNo k (toL t_ s) = loadNo k s := rfl
@[simp] theorem toP_loadNo (k : Nat) (t_ : Nat) (s : State) : loadNo k (toP t_ s) = loadNo k s := rfl
@[simp] theorem toL_levelOf (k : Nat) (t_ : Nat) (s : State) : levelOf k (toL t_ s) = levelOf k s := rfl
@[simp] theorem toP_levelOf (k : Nat) (t_ : Nat) (s : State) : levelOf k (toP t_ s) = levelOf k s := rfl
@[simp] theorem toL_overCapOf (k : Nat) (t_ : Nat) (s : State) : overCapOf k (toL t_ s) = overCapOf k s := rfl
@[simp] theorem toP_overCapOf (k : Nat) (t_ : Nat) (s : State) : overCapOf k (toP t_ s) = overCapOf k s := rfl
@[simp] theorem toL_hottest (l : List Nat) (t_ : Nat) (s : State) : hottest l (toL t_ s) = hottest l s := rfl
@[simp] theorem toP_hottest (l : List Nat) (t_ : Nat) (s : State) : hottest l (toP t_ s) = hottest l s := rfl
@[simp] theorem toL_pinInForce (k : Nat) (t_ : Nat) (s : State) : pinInForce k (toL t_ s) = pinInForce k s := rfl
@[simp] theorem toP_pinInForce (k : Nat) (t_ : Nat) (s : State) : pinInForce k (toP t_ s) = pinInForce k s := rfl
@[simp] theorem toL_senseView (n : Nat) (t_ : Nat) (s : State) : senseView n (toL t_ s) = senseView n s := rfl
@[simp] theorem toP_senseView (n : Nat) (t_ : Nat) (s : State) : senseView n (toP t_ s) = senseView n s := rfl
@[simp] theorem toL_senseCurrent (n : Nat) (t_ : Nat) (s : State) : senseCurrent n (toL t_ s) = senseCurrent n s := rfl
@[simp] theorem toP_senseCurrent (n : Nat) (t_ : Nat) (s : State) : senseCurrent n (toP t_ s) = senseCurrent n s := rfl
@[simp] theorem toL_conductionLoss (t_ : Nat) (s : State) : conductionLoss (toL t_ s) = conductionLoss s := rfl
@[simp] theorem toP_conductionLoss (t_ : Nat) (s : State) : conductionLoss (toP t_ s) = conductionLoss s := rfl
@[simp] theorem toL_skeinCur (k : Nat) (t_ : Nat) (s : State) : skeinCur k (toL t_ s) = skeinCur k s := rfl
@[simp] theorem toP_skeinCur (k : Nat) (t_ : Nat) (s : State) : skeinCur k (toP t_ s) = skeinCur k s := rfl
@[simp] theorem toL_runsPwm (k : Nat) (t_ : Nat) (s : State) : runsPwm k (toL t_ s) = runsPwm k s := rfl
@[simp] theorem toP_runsPwm (k : Nat) (t_ : Nat) (s : State) : runsPwm k (toP t_ s) = runsPwm k s := rfl
@[simp] theorem toL_switchingLoss (k : Nat) (t_ : Nat) (s : State) : switchingLoss k (toL t_ s) = switchingLoss k s := rfl
@[simp] theorem toL_powerEstimate (t_ : Nat) (s : State) : powerEstimate (toL t_ s) = powerEstimate s := rfl
@[simp] theorem toL_groupSkeins (p : Nat) (t_ : Nat) (s : State) : groupSkeins p (toL t_ s) = groupSkeins p s := rfl
@[simp] theorem toP_groupSkeins (p : Nat) (t_ : Nat) (s : State) : groupSkeins p (toP t_ s) = groupSkeins p s := rfl
@[simp] theorem toL_nextGroup (g : Nat) (t_ : Nat) (s : State) : nextGroup g (toL t_ s) = nextGroup g s := rfl
@[simp] theorem toP_nextGroup (g : Nat) (t_ : Nat) (s : State) : nextGroup g (toP t_ s) = nextGroup g s := rfl
@[simp] theorem toL_chainE (j : Nat) (t_ : Nat) (s : State) : chainE j (toL t_ s) = chainE j s := rfl
@[simp] theorem toP_chainE (j : Nat) (t_ : Nat) (s : State) : chainE j (toP t_ s) = chainE j s := rfl
@[simp] theorem toL_partnerView (e : ChainEntry) (t_ : Nat) (s : State) : partnerView e (toL t_ s) = partnerView e s := rfl
@[simp] theorem toP_partnerView (e : ChainEntry) (t_ : Nat) (s : State) : partnerView e (toP t_ s) = partnerView e s := rfl
@[simp] theorem toL_partnerMatches (e : ChainEntry) (t_ : Nat) (s : State) : partnerMatches e (toL t_ s) = partnerMatches e s := rfl
@[simp] theorem toP_partnerMatches (e : ChainEntry) (t_ : Nat) (s : State) : partnerMatches e (toP t_ s) = partnerMatches e s := rfl
@[simp] theorem toL_swapWorth (e : ChainEntry) (v : ChainView) (t_ : Nat) (s : State) : swapWorth e v (toL t_ s) = swapWorth e v s := rfl
@[simp] theorem toP_swapWorth (e : ChainEntry) (v : ChainView) (t_ : Nat) (s : State) : swapWorth e v (toP t_ s) = swapWorth e v s := rfl
@[simp] theorem toL_otherEntry (j k : Nat) (t_ : Nat) (s : State) : otherEntry j k (toL t_ s) = otherEntry j k s := rfl
@[simp] theorem toP_otherEntry (j k : Nat) (t_ : Nat) (s : State) : otherEntry j k (toP t_ s) = otherEntry j k s := rfl
@[simp] theorem toL_budgetWords (t_ : Nat) (s : State) : budgetWords (toL t_ s) = budgetWords s := rfl
@[simp] theorem toP_budgetWords (t_ : Nat) (s : State) : budgetWords (toP t_ s) = budgetWords s := rfl
@[simp] theorem toL_loomStat (t_ : Nat) (s : State) : loomStat (toL t_ s) = loomStat s := rfl
@[simp] theorem toP_loomStat (t_ : Nat) (s : State) : loomStat (toP t_ s) = loomStat s := rfl
@[simp] theorem toL_passesRun (t_ : Nat) (s : State) : passesRun (toL t_ s) = passesRun s := rfl
@[simp] theorem toP_passesRun (t_ : Nat) (s : State) : passesRun (toP t_ s) = passesRun s := rfl
@[simp] theorem toL_liftNext (t_ : Nat) (s : State) : liftNext (toL t_ s) = liftNext s := rfl
@[simp] theorem toP_liftNext (t_ : Nat) (s : State) : liftNext (toP t_ s) = liftNext s := rfl
@[simp] theorem toL_giveNowSeen (e : ChainEntry) (t_ : Nat) (s : State) : giveNowSeen e (toL t_ s) = giveNowSeen e s := rfl
@[simp] theorem toP_giveNowSeen (e : ChainEntry) (t_ : Nat) (s : State) : giveNowSeen e (toP t_ s) = giveNowSeen e s := rfl
@[simp] theorem toL_portP (p : Nat) (t_ : Nat) (s : State) : portP p (toL t_ s) = portP p s := rfl
@[simp] theorem toP_portP (p : Nat) (t_ : Nat) (s : State) : portP p (toP t_ s) = portP p s := rfl
@[simp] theorem toL_portLit (x : PortP) (t_ : Nat) (s : State) : portLit x (toL t_ s) = portLit x s := rfl
@[simp] theorem toP_portLit (x : PortP) (t_ : Nat) (s : State) : portLit x (toP t_ s) = portLit x s := rfl
@[simp] theorem toL_nmCh (c : Nat) (t_ : Nat) (s : State) : nmCh c (toL t_ s) = nmCh c s := rfl
@[simp] theorem toP_nmCh (c : Nat) (t_ : Nat) (s : State) : nmCh c (toP t_ s) = nmCh c s := rfl
@[simp] theorem toL_nmRuns (c : Nat) (t_ : Nat) (s : State) : nmRuns c (toL t_ s) = nmRuns c s := rfl
@[simp] theorem toP_nmRuns (c : Nat) (t_ : Nat) (s : State) : nmRuns c (toP t_ s) = nmRuns c s := rfl
@[simp] theorem toL_ringFrame (c dest run : Nat) (f : RingFlags) (t_ : Nat) (s : State) : ringFrame c dest run f (toL t_ s) = ringFrame c dest run f s := rfl
@[simp] theorem toP_ringFrame (c dest run : Nat) (f : RingFlags) (t_ : Nat) (s : State) : ringFrame c dest run f (toP t_ s) = ringFrame c dest run f s := rfl
@[simp] theorem toL_nextRun (c incoming : Nat) (t_ : Nat) (s : State) : nextRun c incoming (toL t_ s) = nextRun c incoming s := rfl
@[simp] theorem toP_nextRun (c incoming : Nat) (t_ : Nat) (s : State) : nextRun c incoming (toP t_ s) = nextRun c incoming s := rfl
@[simp] theorem toL_ringOf (c : Nat) (w0 : Word) (rtr : Bool) (data : List Byte) (t_ : Nat) (s : State) : ringOf c w0 rtr data (toL t_ s) = ringOf c w0 rtr data s := rfl
@[simp] theorem toP_ringOf (c : Nat) (w0 : Word) (rtr : Bool) (data : List Byte) (t_ : Nat) (s : State) : ringOf c w0 rtr data (toP t_ s) = ringOf c w0 rtr data s := rfl
@[simp] theorem toL_slotOf (n : Nat) (t_ : Nat) (s : State) : slotOf n (toL t_ s) = slotOf n s := rfl
@[simp] theorem toP_slotOf (n : Nat) (t_ : Nat) (s : State) : slotOf n (toP t_ s) = slotOf n s := rfl
@[simp] theorem toL_skL (k : Nat) (t_ : Nat) (s : State) : skL k (toL t_ s) = skL k s := rfl
@[simp] theorem toP_skL (k : Nat) (t_ : Nat) (s : State) : skL k (toP t_ s) = skL k s := rfl
@[simp] theorem toL_skP (k : Nat) (t_ : Nat) (s : State) : skP k (toL t_ s) = skP k s := rfl
@[simp] theorem toP_skP (k : Nat) (t_ : Nat) (s : State) : skP k (toP t_ s) = skP k s := rfl
@[simp] theorem toL_cellP (n : Nat) (t_ : Nat) (s : State) : cellP n (toL t_ s) = cellP n s := rfl
@[simp] theorem toP_cellP (n : Nat) (t_ : Nat) (s : State) : cellP n (toP t_ s) = cellP n s := rfl
@[simp] theorem toL_linkLive (t_ : Nat) (s : State) : linkLive (toL t_ s) = linkLive s := rfl
@[simp] theorem toP_linkLive (t_ : Nat) (s : State) : linkLive (toP t_ s) = linkLive s := rfl
@[simp] theorem toL_hostUp (t_ : Nat) (s : State) : hostUp (toL t_ s) = hostUp s := rfl
@[simp] theorem toP_hostUp (t_ : Nat) (s : State) : hostUp (toP t_ s) = hostUp s := rfl
@[simp] theorem toL_heldTags (n : Nat) (t_ : Nat) (s : State) : heldTags n (toL t_ s) = heldTags n s := rfl
@[simp] theorem toP_heldTags (n : Nat) (t_ : Nat) (s : State) : heldTags n (toP t_ s) = heldTags n s := rfl
@[simp] theorem toL_freeTags (n : Nat) (t_ : Nat) (s : State) : freeTags n (toL t_ s) = freeTags n s := rfl
@[simp] theorem toP_freeTags (n : Nat) (t_ : Nat) (s : State) : freeTags n (toP t_ s) = freeTags n s := rfl
@[simp] theorem toL_creditOf (n : Nat) (t_ : Nat) (s : State) : creditOf n (toL t_ s) = creditOf n s := rfl
@[simp] theorem toP_creditOf (n : Nat) (t_ : Nat) (s : State) : creditOf n (toP t_ s) = creditOf n s := rfl
@[simp] theorem toL_eventsQueued (n : Nat) (t_ : Nat) (s : State) : eventsQueued n (toL t_ s) = eventsQueued n s := rfl
@[simp] theorem toP_eventsQueued (n : Nat) (t_ : Nat) (s : State) : eventsQueued n (toP t_ s) = eventsQueued n s := rfl
@[simp] theorem toL_selects (n opc : Nat) (t_ : Nat) (s : State) : selects n opc (toL t_ s) = selects n opc s := rfl
@[simp] theorem toP_selects (n opc : Nat) (t_ : Nat) (s : State) : selects n opc (toP t_ s) = selects n opc s := rfl
@[simp] theorem toL_replyPeer (r : Req) (t_ : Nat) (s : State) : replyPeer r (toL t_ s) = replyPeer r s := rfl
@[simp] theorem toP_replyPeer (r : Req) (t_ : Nat) (s : State) : replyPeer r (toP t_ s) = replyPeer r s := rfl
@[simp] theorem toL_liveKey (e : Entry) (t_ : Nat) (s : State) : liveKey e (toL t_ s) = liveKey e s := rfl
@[simp] theorem toP_liveKey (e : Entry) (t_ : Nat) (s : State) : liveKey e (toP t_ s) = liveKey e s := rfl
@[simp] theorem toL_openCommands (n : Nat) (t_ : Nat) (s : State) : openCommands n (toL t_ s) = openCommands n s := rfl
@[simp] theorem toP_openCommands (n : Nat) (t_ : Nat) (s : State) : openCommands n (toP t_ s) = openCommands n s := rfl
@[simp] theorem toL_groupOff (g : Nat) (t_ : Nat) (s : State) : groupOff g (toL t_ s) = groupOff g s := rfl
@[simp] theorem toP_groupOff (g : Nat) (t_ : Nat) (s : State) : groupOff g (toP t_ s) = groupOff g s := rfl
@[simp] theorem toL_portOf (p : Port) (t_ : Nat) (s : State) : portOf p (toL t_ s) = portOf p s := rfl
@[simp] theorem toP_portOf (p : Port) (t_ : Nat) (s : State) : portOf p (toP t_ s) = portOf p s := rfl
@[simp] theorem toL_inputBytes (p : Port) (t_ : Nat) (s : State) : inputBytes p (toL t_ s) = inputBytes p s := rfl
@[simp] theorem toP_inputBytes (p : Port) (t_ : Nat) (s : State) : inputBytes p (toP t_ s) = inputBytes p s := rfl
@[simp] theorem toL_portOpen (u : Nat) (t_ : Nat) (s : State) : portOpen u (toL t_ s) = portOpen u s := rfl
@[simp] theorem toP_portOpen (u : Nat) (t_ : Nat) (s : State) : portOpen u (toP t_ s) = portOpen u s := rfl
@[simp] theorem toL_qspiUp (t_ : Nat) (s : State) : qspiUp (toL t_ s) = qspiUp s := rfl
@[simp] theorem toP_qspiUp (t_ : Nat) (s : State) : qspiUp (toP t_ s) = qspiUp s := rfl
@[simp] theorem toL_rootSteady (t_ : Nat) (s : State) : rootSteady (toL t_ s) = rootSteady s := rfl
@[simp] theorem toP_rootSteady (t_ : Nat) (s : State) : rootSteady (toP t_ s) = rootSteady s := rfl
@[simp] theorem toL_plyRuns (t_ : Nat) (s : State) : plyRuns (toL t_ s) = plyRuns s := rfl
@[simp] theorem toP_plyRuns (t_ : Nat) (s : State) : plyRuns (toP t_ s) = plyRuns s := rfl
@[simp] theorem toL_qspiFree (t_ : Nat) (s : State) : qspiFree (toL t_ s) = qspiFree s := rfl
@[simp] theorem toP_qspiFree (t_ : Nat) (s : State) : qspiFree (toP t_ s) = qspiFree s := rfl
@[simp] theorem toL_nextLen (t_ : Nat) (s : State) : nextLen (toL t_ s) = nextLen s := rfl
@[simp] theorem toP_nextLen (t_ : Nat) (s : State) : nextLen (toP t_ s) = nextLen s := rfl
@[simp] theorem toL_intnLow (t_ : Nat) (s : State) : intnLow (toL t_ s) = intnLow s := rfl
@[simp] theorem toP_intnLow (t_ : Nat) (s : State) : intnLow (toP t_ s) = intnLow s := rfl
@[simp] theorem toL_plyOf (p : Nat) (t_ : Nat) (s : State) : plyOf p (toL t_ s) = plyOf p s := rfl
@[simp] theorem toP_plyOf (p : Nat) (t_ : Nat) (s : State) : plyOf p (toP t_ s) = plyOf p s := rfl
@[simp] theorem toL_macOf (m : Nat) (t_ : Nat) (s : State) : macOf m (toL t_ s) = macOf m s := rfl
@[simp] theorem toP_macOf (m : Nat) (t_ : Nat) (s : State) : macOf m (toP t_ s) = macOf m s := rfl
@[simp] theorem toL_sentTag (p : Port) (t_ : Nat) (s : State) : sentTag p (toL t_ s) = sentTag p s := rfl
@[simp] theorem toP_sentTag (p : Port) (t_ : Nat) (s : State) : sentTag p (toP t_ s) = sentTag p s := rfl
@[simp] theorem toL_macUp (m : Nat) (t_ : Nat) (s : State) : macUp m (toL t_ s) = macUp m s := rfl
@[simp] theorem toP_macUp (m : Nat) (t_ : Nat) (s : State) : macUp m (toP t_ s) = macUp m s := rfl
@[simp] theorem toL_vlanOk (m : Nat) (vlan : Option Nat) (t_ : Nat) (s : State) : vlanOk m vlan (toL t_ s) = vlanOk m vlan s := rfl
@[simp] theorem toP_vlanOk (m : Nat) (vlan : Option Nat) (t_ : Nat) (s : State) : vlanOk m vlan (toP t_ s) = vlanOk m vlan s := rfl
@[simp] theorem toL_gptpOn (m : Nat) (t_ : Nat) (s : State) : gptpOn m (toL t_ s) = gptpOn m s := rfl
@[simp] theorem toP_gptpOn (m : Nat) (t_ : Nat) (s : State) : gptpOn m (toP t_ s) = gptpOn m s := rfl
@[simp] theorem toL_disciplined (t_ : Nat) (s : State) : disciplined (toL t_ s) = disciplined s := rfl
@[simp] theorem toP_disciplined (t_ : Nat) (s : State) : disciplined (toP t_ s) = disciplined s := rfl
@[simp] theorem toL_viewDev (d : Nat) (t_ : Nat) (s : State) : viewDev d (toL t_ s) = viewDev d s := rfl
@[simp] theorem toP_viewDev (d : Nat) (t_ : Nat) (s : State) : viewDev d (toP t_ s) = viewDev d s := rfl
@[simp] theorem toL_presentMask (t_ : Nat) (s : State) : presentMask (toL t_ s) = presentMask s := rfl
@[simp] theorem toP_presentMask (t_ : Nat) (s : State) : presentMask (toP t_ s) = presentMask s := rfl
@[simp] theorem toL_chainStat (t_ : Nat) (s : State) : chainStat (toL t_ s) = chainStat s := rfl
@[simp] theorem toP_chainStat (t_ : Nat) (s : State) : chainStat (toP t_ s) = chainStat s := rfl
@[simp] theorem toL_facing (p : Nat) (t_ : Nat) (s : State) : facing p (toL t_ s) = facing p s := rfl
@[simp] theorem toP_facing (p : Nat) (t_ : Nat) (s : State) : facing p (toP t_ s) = facing p s := rfl
@[simp] theorem toL_toward (d : Nat) (t_ : Nat) (s : State) : toward d (toL t_ s) = toward d s := rfl
@[simp] theorem toP_toward (d : Nat) (t_ : Nat) (s : State) : toward d (toP t_ s) = toward d s := rfl
@[simp] theorem toL_plyLive (p : Nat) (t_ : Nat) (s : State) : plyLive p (toL t_ s) = plyLive p s := rfl
@[simp] theorem toP_plyLive (p : Nat) (t_ : Nat) (s : State) : plyLive p (toP t_ s) = plyLive p s := rfl
@[simp] theorem toL_ownEntries (t_ : Nat) (s : State) : ownEntries (toL t_ s) = ownEntries s := rfl
@[simp] theorem toP_ownEntries (t_ : Nat) (s : State) : ownEntries (toP t_ s) = ownEntries s := rfl
@[simp] theorem toL_plyTrained (p : Nat) (t_ : Nat) (s : State) : plyTrained p (toL t_ s) = plyTrained p s := rfl
@[simp] theorem toP_plyTrained (p : Nat) (t_ : Nat) (s : State) : plyTrained p (toP t_ s) = plyTrained p s := rfl
@[simp] theorem toL_slotStat (n : Nat) (t_ : Nat) (s : State) : slotStat n (toL t_ s) = slotStat n s := rfl
@[simp] theorem toP_slotStat (n : Nat) (t_ : Nat) (s : State) : slotStat n (toP t_ s) = slotStat n s := rfl
@[simp] theorem toL_sscOn (t_ : Nat) (s : State) : sscOn (toL t_ s) = sscOn s := rfl
@[simp] theorem toP_sscOn (t_ : Nat) (s : State) : sscOn (toP t_ s) = sscOn s := rfl
@[simp] theorem toL_clkStat (t_ : Nat) (s : State) : clkStat (toL t_ s) = clkStat s := rfl
@[simp] theorem toP_clkStat (t_ : Nat) (s : State) : clkStat (toP t_ s) = clkStat s := rfl
@[simp] theorem toL_pwrStat (t_ : Nat) (s : State) : pwrStat (toL t_ s) = pwrStat s := rfl
@[simp] theorem toP_pwrStat (t_ : Nat) (s : State) : pwrStat (toP t_ s) = pwrStat s := rfl
@[simp] theorem toL_regStat (t_ : Nat) (s : State) : regStat (toL t_ s) = regStat s := rfl
@[simp] theorem toP_regStat (t_ : Nat) (s : State) : regStat (toP t_ s) = regStat s := rfl
@[simp] theorem toL_powerWords (state reason ap wakes : Nat) (t_ : Nat) (s : State) : powerWords state reason ap wakes (toL t_ s) = powerWords state reason ap wakes s := rfl
@[simp] theorem toP_powerWords (state reason ap wakes : Nat) (t_ : Nat) (s : State) : powerWords state reason ap wakes (toP t_ s) = powerWords state reason ap wakes s := rfl
@[simp] theorem toL_unitIdle (u : Nat) (t_ : Nat) (s : State) : unitIdle u (toL t_ s) = unitIdle u s := rfl
@[simp] theorem toP_unitIdle (u : Nat) (t_ : Nat) (s : State) : unitIdle u (toP t_ s) = unitIdle u s := rfl
@[simp] theorem toL_wakeComing (t_ : Nat) (s : State) : wakeComing (toL t_ s) = wakeComing s := rfl
@[simp] theorem toP_wakeComing (t_ : Nat) (s : State) : wakeComing (toP t_ s) = wakeComing s := rfl
@[simp] theorem toL_wakeRequested (src : Nat) (t_ : Nat) (s : State) : wakeRequested src (toL t_ s) = wakeRequested src s := rfl
@[simp] theorem toP_wakeRequested (src : Nat) (t_ : Nat) (s : State) : wakeRequested src (toP t_ s) = wakeRequested src s := rfl
@[simp] theorem toL_vcoreRequest (t_ : Nat) (s : State) : vcoreRequest (toL t_ s) = vcoreRequest s := rfl
@[simp] theorem toP_vcoreRequest (t_ : Nat) (s : State) : vcoreRequest (toP t_ s) = vcoreRequest s := rfl
@[simp] theorem toL_bankSuspended (b : Nat) (t_ : Nat) (s : State) : bankSuspended b (toL t_ s) = bankSuspended b s := rfl
@[simp] theorem toP_bankSuspended (b : Nat) (t_ : Nat) (s : State) : bankSuspended b (toP t_ s) = bankSuspended b s := rfl
@[simp] theorem toL_banksP (k : Nat) (t_ : Nat) (s : State) : banksP k (toL t_ s) = banksP k s := rfl
@[simp] theorem toP_banksP (k : Nat) (t_ : Nat) (s : State) : banksP k (toP t_ s) = banksP k s := rfl
@[simp] theorem toL_meanSupply (b i : Nat) (t_ : Nat) (s : State) : meanSupply b i (toL t_ s) = meanSupply b i s := rfl
@[simp] theorem toP_meanSupply (b i : Nat) (t_ : Nat) (s : State) : meanSupply b i (toP t_ s) = meanSupply b i s := rfl
@[simp] theorem toL_droopBanks (n : Nat) (t_ : Nat) (s : State) : droopBanks n (toL t_ s) = droopBanks n s := rfl
@[simp] theorem toP_droopBanks (n : Nat) (t_ : Nat) (s : State) : droopBanks n (toP t_ s) = droopBanks n s := rfl
@[simp] theorem toL_retryReady (n : Nat) (t_ : Nat) (s : State) : retryReady n (toL t_ s) = retryReady n s := rfl
@[simp] theorem toP_retryReady (n : Nat) (t_ : Nat) (s : State) : retryReady n (toP t_ s) = retryReady n s := rfl
@[simp] theorem toL_learnOn (k : Nat) (t_ : Nat) (s : State) : learnOn k (toL t_ s) = learnOn k s := rfl
@[simp] theorem toP_learnOn (k : Nat) (t_ : Nat) (s : State) : learnOn k (toP t_ s) = learnOn k s := rfl
@[simp] theorem toL_envelopeGoes (k : Nat) (t_ : Nat) (s : State) : envelopeGoes k (toL t_ s) = envelopeGoes k s := rfl
@[simp] theorem toP_envelopeGoes (k : Nat) (t_ : Nat) (s : State) : envelopeGoes k (toP t_ s) = envelopeGoes k s := rfl
@[simp] theorem toL_gateHolds (k : Nat) (t_ : Nat) (s : State) : gateHolds k (toL t_ s) = gateHolds k s := rfl
@[simp] theorem toP_gateHolds (k : Nat) (t_ : Nat) (s : State) : gateHolds k (toP t_ s) = gateHolds k s := rfl
@[simp] theorem toL_printable (k : Nat) (t_ : Nat) (s : State) : printable k (toL t_ s) = printable k s := rfl
@[simp] theorem toP_printable (k : Nat) (t_ : Nat) (s : State) : printable k (toP t_ s) = printable k s := rfl
@[simp] theorem toL_diagRuns (t_ : Nat) (s : State) : diagRuns (toL t_ s) = diagRuns s := rfl
@[simp] theorem toP_diagRuns (t_ : Nat) (s : State) : diagRuns (toP t_ s) = diagRuns s := rfl
@[simp] theorem toL_anchor (n : Nat) (t_ : Nat) (s : State) : anchor n (toL t_ s) = anchor n s := rfl
@[simp] theorem toP_anchor (n : Nat) (t_ : Nat) (s : State) : anchor n (toP t_ s) = anchor n s := rfl
@[simp] theorem toL_token (t : Nat) (t_ : Nat) (s : State) : token t (toL t_ s) = token t s := rfl
@[simp] theorem toP_token (t : Nat) (t_ : Nat) (s : State) : token t (toP t_ s) = token t s := rfl
@[simp] theorem toL_slotTicks (t_ : Nat) (s : State) : slotTicks (toL t_ s) = slotTicks s := rfl
@[simp] theorem toP_slotTicks (t_ : Nat) (s : State) : slotTicks (toP t_ s) = slotTicks s := rfl
@[simp] theorem toL_lockedOut (t_ : Nat) (s : State) : lockedOut (toL t_ s) = lockedOut s := rfl
@[simp] theorem toP_lockedOut (t_ : Nat) (s : State) : lockedOut (toP t_ s) = lockedOut s := rfl
@[simp] theorem toL_rangeStat (t_ : Nat) (s : State) : rangeStat (toL t_ s) = rangeStat s := rfl
@[simp] theorem toP_rangeStat (t_ : Nat) (s : State) : rangeStat (toP t_ s) = rangeStat s := rfl
@[simp] theorem toL_rangeKey (slot gen : Nat) (t_ : Nat) (s : State) : rangeKey slot gen (toL t_ s) = rangeKey slot gen s := rfl
@[simp] theorem toP_rangeKey (slot gen : Nat) (t_ : Nat) (s : State) : rangeKey slot gen (toP t_ s) = rangeKey slot gen s := rfl
@[simp] theorem toL_tokenKey (t : Nat) (t_ : Nat) (s : State) : tokenKey t (toL t_ s) = tokenKey t s := rfl
@[simp] theorem toP_tokenKey (t : Nat) (t_ : Nat) (s : State) : tokenKey t (toP t_ s) = tokenKey t s := rfl
@[simp] theorem toL_linkKey (n : Nat) (t_ : Nat) (s : State) : linkKey n (toL t_ s) = linkKey n s := rfl
@[simp] theorem toP_linkKey (n : Nat) (t_ : Nat) (s : State) : linkKey n (toP t_ s) = linkKey n s := rfl
@[simp] theorem toL_slotEdge (r : RangeRun) (t_ : Nat) (s : State) : slotEdge r (toL t_ s) = slotEdge r s := rfl
@[simp] theorem toP_slotEdge (r : RangeRun) (t_ : Nat) (s : State) : slotEdge r (toP t_ s) = slotEdge r s := rfl
@[simp] theorem toL_slotResult (n : Nat) (r : RangeRun) (t_ : Nat) (s : State) : slotResult n r (toL t_ s) = slotResult n r s := rfl
@[simp] theorem toP_slotResult (n : Nat) (r : RangeRun) (t_ : Nat) (s : State) : slotResult n r (toP t_ s) = slotResult n r s := rfl
@[simp] theorem toL_winnerOf (l : List ValidAns) (t_ : Nat) (s : State) : winnerOf l (toL t_ s) = winnerOf l s := rfl
@[simp] theorem toP_winnerOf (l : List ValidAns) (t_ : Nat) (s : State) : winnerOf l (toP t_ s) = winnerOf l s := rfl
@[simp] theorem toL_zoneLimit (z n : Nat) (t_ : Nat) (s : State) : zoneLimit z n (toL t_ s) = zoneLimit z n s := rfl
@[simp] theorem toP_zoneLimit (z n : Nat) (t_ : Nat) (s : State) : zoneLimit z n (toP t_ s) = zoneLimit z n s := rfl
@[simp] theorem toL_zoneHolds (l : List ValidAns) (w z : Nat) (t_ : Nat) (s : State) : zoneHolds l w z (toL t_ s) = zoneHolds l w z s := rfl
@[simp] theorem toP_zoneHolds (l : List ValidAns) (w z : Nat) (t_ : Nat) (s : State) : zoneHolds l w z (toP t_ s) = zoneHolds l w z s := rfl
@[simp] theorem toL_releaseDue (immo : Bool) (t_ : Nat) (s : State) : releaseDue immo (toL t_ s) = releaseDue immo s := rfl
@[simp] theorem toP_releaseDue (immo : Bool) (t_ : Nat) (s : State) : releaseDue immo (toP t_ s) = releaseDue immo s := rfl
@[simp] theorem toL_candidateZone (o : Nat) (r : RangeRun) (t_ : Nat) (s : State) : candidateZone o r (toL t_ s) = candidateZone o r s := rfl
@[simp] theorem toP_candidateZone (o : Nat) (r : RangeRun) (t_ : Nat) (s : State) : candidateZone o r (toP t_ s) = candidateZone o r s := rfl
@[simp] theorem toL_rangeStartValid (r : Req) (t_ : Nat) (s : State) : rangeStartValid r (toL t_ s) = rangeStartValid r s := rfl
@[simp] theorem toP_rangeStartValid (r : Req) (t_ : Nat) (s : State) : rangeStartValid r (toP t_ s) = rangeStartValid r s := rfl
@[simp] theorem toL_cfgKey (o : Nat) (ws : List Word) (t_ : Nat) (s : State) : cfgKey o ws (toL t_ s) = cfgKey o ws s := rfl
@[simp] theorem toP_cfgKey (o : Nat) (ws : List Word) (t_ : Nat) (s : State) : cfgKey o ws (toP t_ s) = cfgKey o ws s := rfl
@[simp] theorem toL_immoProfileOk (w : Word) (t_ : Nat) (s : State) : immoProfileOk w (toL t_ s) = immoProfileOk w s := rfl
@[simp] theorem toP_immoProfileOk (w : Word) (t_ : Nat) (s : State) : immoProfileOk w (toP t_ s) = immoProfileOk w s := rfl
@[simp] theorem toL_counterNow (i : Nat) (t_ : Nat) (s : State) : counterNow i (toL t_ s) = counterNow i s := rfl
@[simp] theorem toP_counterNow (i : Nat) (t_ : Nat) (s : State) : counterNow i (toP t_ s) = counterNow i s := rfl
@[simp] theorem toL_counterValue (i : Nat) (t_ : Nat) (s : State) : counterValue i (toL t_ s) = counterValue i s := rfl
@[simp] theorem toP_counterValue (i : Nat) (t_ : Nat) (s : State) : counterValue i (toP t_ s) = counterValue i s := rfl
@[simp] theorem toL_latchCounters (t_ : Nat) (s : State) : latchCounters (toL t_ s) = latchCounters s := rfl
@[simp] theorem toP_latchCounters (t_ : Nat) (s : State) : latchCounters (toP t_ s) = latchCounters s := rfl
@[simp] theorem toL_reelSet (n : Nat) (t_ : Nat) (s : State) : reelSet n (toL t_ s) = reelSet n s := rfl
@[simp] theorem toP_reelSet (n : Nat) (t_ : Nat) (s : State) : reelSet n (toP t_ s) = reelSet n s := rfl
@[simp] theorem toL_snapObj (r : Req) (t_ : Nat) (s : State) : snapObj r (toL t_ s) = snapObj r s := rfl
@[simp] theorem toP_snapObj (r : Req) (t_ : Nat) (s : State) : snapObj r (toP t_ s) = snapObj r s := rfl
@[simp] theorem toL_nextLatch (t_ : Nat) (s : State) : nextLatch (toL t_ s) = nextLatch s := rfl
@[simp] theorem toP_nextLatch (t_ : Nat) (s : State) : nextLatch (toP t_ s) = nextLatch s := rfl
@[simp] theorem toL_setBits (p : ReelSet → Bool) (t_ : Nat) (s : State) : setBits p (toL t_ s) = setBits p s := rfl
@[simp] theorem toP_setBits (p : ReelSet → Bool) (t_ : Nat) (s : State) : setBits p (toP t_ s) = setBits p s := rfl
@[simp] theorem toL_sysBoot (t_ : Nat) (s : State) : sysBoot (toL t_ s) = sysBoot s := rfl
@[simp] theorem toP_sysBoot (t_ : Nat) (s : State) : sysBoot (toP t_ s) = sysBoot s := rfl
@[simp] theorem toL_fwBank (b : Bool) (t_ : Nat) (s : State) : fwBank b (toL t_ s) = fwBank b s := rfl
@[simp] theorem toP_fwBank (b : Bool) (t_ : Nat) (s : State) : fwBank b (toP t_ s) = fwBank b s := rfl
@[simp] theorem toL_bankDesc (b : Bool) (t_ : Nat) (s : State) : bankDesc b (toL t_ s) = bankDesc b s := rfl
@[simp] theorem toP_bankDesc (b : Bool) (t_ : Nat) (s : State) : bankDesc b (toP t_ s) = bankDesc b s := rfl
@[simp] theorem toL_authBank (t_ : Nat) (s : State) : authBank (toL t_ s) = authBank s := rfl
@[simp] theorem toP_authBank (t_ : Nat) (s : State) : authBank (toP t_ s) = authBank s := rfl
@[simp] theorem toL_storeStat (t_ : Nat) (s : State) : storeStat (toL t_ s) = storeStat s := rfl
@[simp] theorem toP_storeStat (t_ : Nat) (s : State) : storeStat (toP t_ s) = storeStat s := rfl
@[simp] theorem toL_updStat (t_ : Nat) (s : State) : updStat (toL t_ s) = updStat s := rfl
@[simp] theorem toP_updStat (t_ : Nat) (s : State) : updStat (toP t_ s) = updStat s := rfl
@[simp] theorem toL_accessOk (write : Bool) (a n : Nat) (slot : Nat) (t_ : Nat) (s : State) : accessOk write a n slot (toL t_ s) = accessOk write a n slot s := rfl
@[simp] theorem toP_accessOk (write : Bool) (a n : Nat) (slot : Nat) (t_ : Nat) (s : State) : accessOk write a n slot (toP t_ s) = accessOk write a n slot s := rfl
@[simp] theorem toL_protSkeinStat (k : Nat) (t_ : Nat) (s : State) : protSkeinStat k (toL t_ s) = protSkeinStat k s := rfl
@[simp] theorem toP_protSkeinStat (k : Nat) (t_ : Nat) (s : State) : protSkeinStat k (toP t_ s) = protSkeinStat k s := rfl
@[simp] theorem toL_cellSense (n : Nat) (t_ : Nat) (s : State) : cellSense n (toL t_ s) = cellSense n s := rfl
@[simp] theorem toP_cellSense (n : Nat) (t_ : Nat) (s : State) : cellSense n (toP t_ s) = cellSense n s := rfl
@[simp] theorem toL_loadSense (k : Nat) (t_ : Nat) (s : State) : loadSense k (toL t_ s) = loadSense k s := rfl
@[simp] theorem toP_loadSense (k : Nat) (t_ : Nat) (s : State) : loadSense k (toP t_ s) = loadSense k s := rfl
@[simp] theorem toL_defL (k : Nat) (t_ : Nat) (s : State) : defL k (toL t_ s) = defL k s := rfl
@[simp] theorem toP_defL (k : Nat) (t_ : Nat) (s : State) : defL k (toP t_ s) = defL k s := rfl
@[simp] theorem toL_defP (k : Nat) (t_ : Nat) (s : State) : defP k (toL t_ s) = defP k s := rfl
@[simp] theorem toP_defP (k : Nat) (t_ : Nat) (s : State) : defP k (toP t_ s) = defP k s := rfl
@[simp] theorem toL_skeinOfCellP (n : Nat) (t_ : Nat) (s : State) : skeinOfCellP n (toL t_ s) = skeinOfCellP n s := rfl
@[simp] theorem toP_skeinOfCellP (n : Nat) (t_ : Nat) (s : State) : skeinOfCellP n (toP t_ s) = skeinOfCellP n s := rfl
@[simp] theorem toL_skeinOfCell (n : Nat) (t_ : Nat) (s : State) : skeinOfCell n (toL t_ s) = skeinOfCell n s := rfl
@[simp] theorem toP_skeinOfCell (n : Nat) (t_ : Nat) (s : State) : skeinOfCell n (toP t_ s) = skeinOfCell n s := rfl
@[simp] theorem toL_pairedL (k : Nat) (t_ : Nat) (s : State) : pairedL k (toL t_ s) = pairedL k s := rfl
@[simp] theorem toP_pairedL (k : Nat) (t_ : Nat) (s : State) : pairedL k (toP t_ s) = pairedL k s := rfl
@[simp] theorem toL_pairedP (k : Nat) (t_ : Nat) (s : State) : pairedP k (toL t_ s) = pairedP k s := rfl
@[simp] theorem toP_pairedP (k : Nat) (t_ : Nat) (s : State) : pairedP k (toP t_ s) = pairedP k s := rfl
@[simp] theorem toL_leaderL (k : Nat) (t_ : Nat) (s : State) : leaderL k (toL t_ s) = leaderL k s := rfl
@[simp] theorem toP_leaderL (k : Nat) (t_ : Nat) (s : State) : leaderL k (toP t_ s) = leaderL k s := rfl
@[simp] theorem toL_leaderP (k : Nat) (t_ : Nat) (s : State) : leaderP k (toL t_ s) = leaderP k s := rfl
@[simp] theorem toP_leaderP (k : Nat) (t_ : Nat) (s : State) : leaderP k (toP t_ s) = leaderP k s := rfl
@[simp] theorem toL_offL (k : Nat) (t_ : Nat) (s : State) : offL k (toL t_ s) = offL k s := rfl
@[simp] theorem toP_offL (k : Nat) (t_ : Nat) (s : State) : offL k (toP t_ s) = offL k s := rfl
@[simp] theorem toL_offP (k : Nat) (t_ : Nat) (s : State) : offP k (toL t_ s) = offP k s := rfl
@[simp] theorem toP_offP (k : Nat) (t_ : Nat) (s : State) : offP k (toP t_ s) = offP k s := rfl
@[simp] theorem toL_outputsOff (t_ : Nat) (s : State) : outputsOff (toL t_ s) = outputsOff s := rfl
@[simp] theorem toP_outputsOff (t_ : Nat) (s : State) : outputsOff (toP t_ s) = outputsOff s := rfl
@[simp] theorem toL_deadOf (k : Nat) (t_ : Nat) (s : State) : deadOf k (toL t_ s) = deadOf k s := rfl
@[simp] theorem toP_deadOf (k : Nat) (t_ : Nat) (s : State) : deadOf k (toP t_ s) = deadOf k s := rfl
@[simp] theorem toL_legState (k : Nat) (t_ : Nat) (s : State) : legState k (toL t_ s) = legState k s := rfl
@[simp] theorem toP_legState (k : Nat) (t_ : Nat) (s : State) : legState k (toP t_ s) = legState k s := rfl
@[simp] theorem toL_actP (a : Nat) (t_ : Nat) (s : State) : actP a (toL t_ s) = actP a s := rfl
@[simp] theorem toP_actP (a : Nat) (t_ : Nat) (s : State) : actP a (toP t_ s) = actP a s := rfl
@[simp] theorem toL_actL (a : Nat) (t_ : Nat) (s : State) : actL a (toL t_ s) = actL a s := rfl
@[simp] theorem toP_actL (a : Nat) (t_ : Nat) (s : State) : actL a (toP t_ s) = actL a s := rfl
@[simp] theorem toL_slotsP (k : Nat) (t_ : Nat) (s : State) : slotsP k (toL t_ s) = slotsP k s := rfl
@[simp] theorem toP_slotsP (k : Nat) (t_ : Nat) (s : State) : slotsP k (toP t_ s) = slotsP k s := rfl
@[simp] theorem toL_slotsL (k : Nat) (t_ : Nat) (s : State) : slotsL k (toL t_ s) = slotsL k s := rfl
@[simp] theorem toP_slotsL (k : Nat) (t_ : Nat) (s : State) : slotsL k (toP t_ s) = slotsL k s := rfl
@[simp] theorem toL_actPeakP (k : Nat) (t_ : Nat) (s : State) : actPeakP k (toL t_ s) = actPeakP k s := rfl
@[simp] theorem toP_actPeakP (k : Nat) (t_ : Nat) (s : State) : actPeakP k (toP t_ s) = actPeakP k s := rfl
@[simp] theorem toL_actPeakL (k : Nat) (t_ : Nat) (s : State) : actPeakL k (toL t_ s) = actPeakL k s := rfl
@[simp] theorem toP_actPeakL (k : Nat) (t_ : Nat) (s : State) : actPeakL k (toP t_ s) = actPeakL k s := rfl
@[simp] theorem toL_conductingCells (k : Nat) (t_ : Nat) (s : State) : conductingCells k (toL t_ s) = conductingCells k s := rfl
@[simp] theorem toP_conductingCells (k : Nat) (t_ : Nat) (s : State) : conductingCells k (toP t_ s) = conductingCells k s := rfl
@[simp] theorem toL_liveCells (k : Nat) (t_ : Nat) (s : State) : liveCells k (toL t_ s) = liveCells k s := rfl
@[simp] theorem toP_liveCells (k : Nat) (t_ : Nat) (s : State) : liveCells k (toP t_ s) = liveCells k s := rfl
@[simp] theorem toL_cellsIn (k : Nat) (r : Role) (t_ : Nat) (s : State) : cellsIn k r (toL t_ s) = cellsIn k r s := rfl
@[simp] theorem toP_cellsIn (k : Nat) (r : Role) (t_ : Nat) (s : State) : cellsIn k r (toP t_ s) = cellsIn k r s := rfl
@[simp] theorem toL_shareCells (k : Nat) (t_ : Nat) (s : State) : shareCells k (toL t_ s) = shareCells k s := rfl
@[simp] theorem toP_shareCells (k : Nat) (t_ : Nat) (s : State) : shareCells k (toP t_ s) = shareCells k s := rfl
@[simp] theorem toL_chainOf (k : Nat) (t_ : Nat) (s : State) : chainOf k (toL t_ s) = chainOf k s := rfl
@[simp] theorem toP_chainOf (k : Nat) (t_ : Nat) (s : State) : chainOf k (toP t_ s) = chainOf k s := rfl
@[simp] theorem toL_armedSecondary (k : Nat) (t_ : Nat) (s : State) : armedSecondary k (toL t_ s) = armedSecondary k s := rfl
@[simp] theorem toP_armedSecondary (k : Nat) (t_ : Nat) (s : State) : armedSecondary k (toP t_ s) = armedSecondary k s := rfl
@[simp] theorem toL_committedIn (k b : Nat) (p : SetPoint) (i : Nat) (t_ : Nat) (s : State) : committedIn k b p i (toL t_ s) = committedIn k b p i s := rfl
@[simp] theorem toP_committedIn (k b : Nat) (p : SetPoint) (i : Nat) (t_ : Nat) (s : State) : committedIn k b p i (toP t_ s) = committedIn k b p i s := rfl
@[simp] theorem toL_committedPkg (k : Nat) (p : SetPoint) (i : Nat) (t_ : Nat) (s : State) : committedPkg k p i (toL t_ s) = committedPkg k p i s := rfl
@[simp] theorem toP_committedPkg (k : Nat) (p : SetPoint) (i : Nat) (t_ : Nat) (s : State) : committedPkg k p i (toP t_ s) = committedPkg k p i s := rfl
@[simp] theorem toL_inrushEndAt (k t : Nat) (t_ : Nat) (s : State) : inrushEndAt k t (toL t_ s) = inrushEndAt k t s := rfl
@[simp] theorem toP_inrushEndAt (k t : Nat) (t_ : Nat) (s : State) : inrushEndAt k t (toP t_ s) = inrushEndAt k t s := rfl
@[simp] theorem toL_turningOn (k : Nat) (t_ : Nat) (s : State) : turningOn k (toL t_ s) = turningOn k s := rfl
@[simp] theorem toP_turningOn (k : Nat) (t_ : Nat) (s : State) : turningOn k (toP t_ s) = turningOn k s := rfl
@[simp] theorem toL_inInrush (k t : Nat) (t_ : Nat) (s : State) : inInrush k t (toL t_ s) = inInrush k t s := rfl
@[simp] theorem toP_inInrush (k t : Nat) (t_ : Nat) (s : State) : inInrush k t (toP t_ s) = inInrush k t s := rfl
@[simp] theorem toL_trialSp (tr : Trial) (k : Nat) (t_ : Nat) (s : State) : trialSp tr k (toL t_ s) = trialSp tr k s := rfl
@[simp] theorem toP_trialSp (tr : Trial) (k : Nat) (t_ : Nat) (s : State) : trialSp tr k (toP t_ s) = trialSp tr k s := rfl
@[simp] theorem toL_bankSum (b : Nat) (tr : Trial) (t_ : Nat) (s : State) : bankSum b tr (toL t_ s) = bankSum b tr s := rfl
@[simp] theorem toP_bankSum (b : Nat) (tr : Trial) (t_ : Nat) (s : State) : bankSum b tr (toP t_ s) = bankSum b tr s := rfl
@[simp] theorem toL_bankPeak (b t : Nat) (own : List Nat) (tr : Trial) (t_ : Nat) (s : State) : bankPeak b t own tr (toL t_ s) = bankPeak b t own tr s := rfl
@[simp] theorem toP_bankPeak (b t : Nat) (own : List Nat) (tr : Trial) (t_ : Nat) (s : State) : bankPeak b t own tr (toP t_ s) = bankPeak b t own tr s := rfl
@[simp] theorem toL_pkgSum (tr : Trial) (t_ : Nat) (s : State) : pkgSum tr (toL t_ s) = pkgSum tr s := rfl
@[simp] theorem toP_pkgSum (tr : Trial) (t_ : Nat) (s : State) : pkgSum tr (toP t_ s) = pkgSum tr s := rfl
@[simp] theorem toL_banksOf (k : Nat) (t_ : Nat) (s : State) : banksOf k (toL t_ s) = banksOf k s := rfl
@[simp] theorem toP_banksOf (k : Nat) (t_ : Nat) (s : State) : banksOf k (toP t_ s) = banksOf k s := rfl
@[simp] theorem toL_siblings (a : Nat) (t_ : Nat) (s : State) : siblings a (toL t_ s) = siblings a s := rfl
@[simp] theorem toP_siblings (a : Nat) (t_ : Nat) (s : State) : siblings a (toP t_ s) = siblings a s := rfl
@[simp] theorem toL_actStat (a : Nat) (t_ : Nat) (s : State) : actStat a (toL t_ s) = actStat a s := rfl
@[simp] theorem toP_actStat (a : Nat) (t_ : Nat) (s : State) : actStat a (toP t_ s) = actStat a s := rfl
@[simp] theorem toL_actMeas (a : Nat) (t_ : Nat) (s : State) : actMeas a (toL t_ s) = actMeas a s := rfl
@[simp] theorem toP_actMeas (a : Nat) (t_ : Nat) (s : State) : actMeas a (toP t_ s) = actMeas a s := rfl
@[simp] theorem toL_claimOf (a : Nat) (t_ : Nat) (s : State) : claimOf a (toL t_ s) = claimOf a s := rfl
@[simp] theorem toP_claimOf (a : Nat) (t_ : Nat) (s : State) : claimOf a (toP t_ s) = claimOf a s := rfl
@[simp] theorem toL_claimsOn (h : Nat) (t_ : Nat) (s : State) : claimsOn h (toL t_ s) = claimsOn h s := rfl
@[simp] theorem toP_claimsOn (h : Nat) (t_ : Nat) (s : State) : claimsOn h (toP t_ s) = claimsOn h s := rfl
@[simp] theorem toL_claimFits (a : Nat) (t_ : Nat) (s : State) : claimFits a (toL t_ s) = claimFits a s := rfl
@[simp] theorem toP_claimFits (a : Nat) (t_ : Nat) (s : State) : claimFits a (toP t_ s) = claimFits a s := rfl
@[simp] theorem toL_lockstep (t_ : Nat) (s : State) : lockstep (toL t_ s) = lockstep s := rfl
@[simp] theorem toP_lockstep (t_ : Nat) (s : State) : lockstep (toP t_ s) = lockstep s := rfl
@[simp] theorem toL_ldieUp (t_ : Nat) (s : State) : ldieUp (toL t_ s) = ldieUp s := rfl
@[simp] theorem toP_ldieUp (t_ : Nat) (s : State) : ldieUp (toP t_ s) = ldieUp s := rfl
@[simp] theorem toL_wdogTicks (t_ : Nat) (s : State) : wdogTicks (toL t_ s) = wdogTicks s := rfl
@[simp] theorem toP_wdogTicks (t_ : Nat) (s : State) : wdogTicks (toP t_ s) = wdogTicks s := rfl
@[simp] theorem toL_hasWdog (c : Nat) (t_ : Nat) (s : State) : hasWdog c (toL t_ s) = hasWdog c s := rfl
@[simp] theorem toP_hasWdog (c : Nat) (t_ : Nat) (s : State) : hasWdog c (toP t_ s) = hasWdog c s := rfl
@[simp] theorem toL_wdogRuns (t_ : Nat) (s : State) : wdogRuns (toL t_ s) = wdogRuns s := rfl
@[simp] theorem toP_wdogRuns (t_ : Nat) (s : State) : wdogRuns (toP t_ s) = wdogRuns s := rfl
@[simp] theorem toL_alvStopOf (t_ : Nat) (s : State) : alvStopOf (toL t_ s) = alvStopOf s := rfl
@[simp] theorem toP_alvStopOf (t_ : Nat) (s : State) : alvStopOf (toP t_ s) = alvStopOf s := rfl
@[simp] theorem toL_canOfFault (src inst : Nat) (t_ : Nat) (s : State) : canOfFault src inst (toL t_ s) = canOfFault src inst s := rfl
@[simp] theorem toP_canOfFault (src inst : Nat) (t_ : Nat) (s : State) : canOfFault src inst (toP t_ s) = canOfFault src inst s := rfl
@[simp] theorem toL_raisable (src : Nat) (t_ : Nat) (s : State) : raisable src (toL t_ s) = raisable src s := rfl
@[simp] theorem toP_raisable (src : Nat) (t_ : Nat) (s : State) : raisable src (toP t_ s) = raisable src s := rfl
@[simp] theorem toL_spindleStat (t_ : Nat) (s : State) : spindleStat (toL t_ s) = spindleStat s := rfl
@[simp] theorem toP_spindleStat (t_ : Nat) (s : State) : spindleStat (toP t_ s) = spindleStat s := rfl
@[simp] theorem toL_faultStat (t_ : Nat) (s : State) : faultStat (toL t_ s) = faultStat s := rfl
@[simp] theorem toP_faultStat (t_ : Nat) (s : State) : faultStat (toP t_ s) = faultStat s := rfl
@[simp] theorem toL_srcWord (n : Nat) (t_ : Nat) (s : State) : srcWord n (toL t_ s) = srcWord n s := rfl
@[simp] theorem toP_srcWord (n : Nat) (t_ : Nat) (s : State) : srcWord n (toP t_ s) = srcWord n s := rfl
@[simp] theorem toL_hwSource (n : Nat) (t_ : Nat) (s : State) : hwSource n (toL t_ s) = hwSource n s := rfl
@[simp] theorem toP_hwSource (n : Nat) (t_ : Nat) (s : State) : hwSource n (toP t_ s) = hwSource n s := rfl
@[simp] theorem toL_bankBoots (b : Bool) (bad : Nat) (t_ : Nat) (s : State) : bankBoots b bad (toL t_ s) = bankBoots b bad s := rfl
@[simp] theorem toP_bankBoots (b : Bool) (bad : Nat) (t_ : Nat) (s : State) : bankBoots b bad (toP t_ s) = bankBoots b bad s := rfl
@[simp] theorem toL_wokeWords (t_ : Nat) (s : State) : wokeWords (toL t_ s) = wokeWords s := rfl
@[simp] theorem toP_wokeWords (t_ : Nat) (s : State) : wokeWords (toP t_ s) = wokeWords s := rfl
@[simp] theorem toL_storedRecs (t_ : Nat) (s : State) : storedRecs (toL t_ s) = storedRecs s := rfl
@[simp] theorem toP_storedRecs (t_ : Nat) (s : State) : storedRecs (toP t_ s) = storedRecs s := rfl
@[simp] theorem toL_workRecs (t_ : Nat) (s : State) : workRecs (toL t_ s) = workRecs s := rfl
@[simp] theorem toP_workRecs (t_ : Nat) (s : State) : workRecs (toP t_ s) = workRecs s := rfl
@[simp] theorem toL_fvWords (a : Nat) (t_ : Nat) (s : State) : fvWords a (toL t_ s) = fvWords a s := rfl
@[simp] theorem toP_fvWords (a : Nat) (t_ : Nat) (s : State) : fvWords a (toP t_ s) = fvWords a s := rfl
@[simp] theorem toL_lockWords (t_ : Nat) (s : State) : lockWords (toL t_ s) = lockWords s := rfl
@[simp] theorem toP_lockWords (t_ : Nat) (s : State) : lockWords (toP t_ s) = lockWords s := rfl
@[simp] theorem toL_zoneWords (o : Nat) (t_ : Nat) (s : State) : zoneWords o (toL t_ s) = zoneWords o s := rfl
@[simp] theorem toP_zoneWords (o : Nat) (t_ : Nat) (s : State) : zoneWords o (toP t_ s) = zoneWords o s := rfl
@[simp] theorem toL_reactWord (n : Nat) (t_ : Nat) (s : State) : reactWord n (toL t_ s) = reactWord n s := rfl
@[simp] theorem toP_reactWord (n : Nat) (t_ : Nat) (s : State) : reactWord n (toP t_ s) = reactWord n s := rfl
@[simp] theorem toL_writeBank (t_ : Nat) (s : State) : writeBank (toL t_ s) = writeBank s := rfl
@[simp] theorem toP_writeBank (t_ : Nat) (s : State) : writeBank (toP t_ s) = writeBank s := rfl
@[simp] theorem toL_nextSeq (t_ : Nat) (s : State) : nextSeq (toL t_ s) = nextSeq s := rfl
@[simp] theorem toP_nextSeq (t_ : Nat) (s : State) : nextSeq (toP t_ s) = nextSeq s := rfl
@[simp] theorem toL_runCfmt (t_ : Nat) (s : State) : runCfmt (toL t_ s) = runCfmt s := rfl
@[simp] theorem toP_runCfmt (t_ : Nat) (s : State) : runCfmt (toP t_ s) = runCfmt s := rfl
@[simp] theorem toL_cfgReadWords (o : Word) (n : Nat) (t_ : Nat) (s : State) : cfgReadWords o n (toL t_ s) = cfgReadWords o n s := rfl
@[simp] theorem toP_cfgReadWords (o : Word) (n : Nat) (t_ : Nat) (s : State) : cfgReadWords o n (toP t_ s) = cfgReadWords o n s := rfl
@[simp] theorem toL_classRecs (c : Nat) (t_ : Nat) (s : State) : classRecs c (toL t_ s) = classRecs c s := rfl
@[simp] theorem toP_classRecs (c : Nat) (t_ : Nat) (s : State) : classRecs c (toP t_ s) = classRecs c s := rfl
@[simp] theorem toL_definesPending (t_ : Nat) (s : State) : definesPending (toL t_ s) = definesPending s := rfl
@[simp] theorem toP_definesPending (t_ : Nat) (s : State) : definesPending (toP t_ s) = definesPending s := rfl
@[simp] theorem toL_trxP (n : Nat) (t_ : Nat) (s : State) : trxP n (toL t_ s) = trxP n s := rfl
@[simp] theorem toP_trxP (n : Nat) (t_ : Nat) (s : State) : trxP n (toP t_ s) = trxP n s := rfl
@[simp] theorem toL_netAsleep (n : Nat) (t_ : Nat) (s : State) : netAsleep n (toL t_ s) = netAsleep n s := rfl
@[simp] theorem toP_netAsleep (n : Nat) (t_ : Nat) (s : State) : netAsleep n (toP t_ s) = netAsleep n s := rfl
@[simp] theorem toL_trxState (n : Nat) (t_ : Nat) (s : State) : trxState n (toL t_ s) = trxState n s := rfl
@[simp] theorem toP_trxState (n : Nat) (t_ : Nat) (s : State) : trxState n (toP t_ s) = trxState n s := rfl
@[simp] theorem toL_otherBank (t_ : Nat) (s : State) : otherBank (toL t_ s) = otherBank s := rfl
@[simp] theorem toP_otherBank (t_ : Nat) (s : State) : otherBank (toP t_ s) = otherBank s := rfl
@[simp] theorem toL_receiving (t_ : Nat) (s : State) : receiving (toL t_ s) = receiving s := rfl
@[simp] theorem toP_receiving (t_ : Nat) (s : State) : receiving (toP t_ s) = receiving s := rfl
@[simp] theorem toL_holds (n : Nat) (t_ : Nat) (s : State) : holds n (toL t_ s) = holds n s := rfl
@[simp] theorem toP_holds (n : Nat) (t_ : Nat) (s : State) : holds n (toP t_ s) = holds n s := rfl
@[simp] theorem toL_descFits (d : ImgDesc) (t_ : Nat) (s : State) : descFits d (toL t_ s) = descFits d s := rfl
@[simp] theorem toP_descFits (d : ImgDesc) (t_ : Nat) (s : State) : descFits d (toP t_ s) = descFits d s := rfl
@[simp] theorem toL_blockRefused (r : Req) (t_ : Nat) (s : State) : blockRefused r (toL t_ s) = blockRefused r s := rfl
@[simp] theorem toP_blockRefused (r : Req) (t_ : Nat) (s : State) : blockRefused r (toP t_ s) = blockRefused r s := rfl
@[simp] theorem toL_bankWrites (t_ : Nat) (s : State) : bankWrites (toL t_ s) = bankWrites s := rfl
@[simp] theorem toP_bankWrites (t_ : Nat) (s : State) : bankWrites (toP t_ s) = bankWrites s := rfl
@[simp] theorem toL_missingBlock (t_ : Nat) (s : State) : missingBlock (toL t_ s) = missingBlock s := rfl
@[simp] theorem toP_missingBlock (t_ : Nat) (s : State) : missingBlock (toP t_ s) = missingBlock s := rfl
@[simp] theorem toL_nvWaiting (t_ : Nat) (s : State) : nvWaiting (toL t_ s) = nvWaiting s := rfl
@[simp] theorem toP_nvWaiting (t_ : Nat) (s : State) : nvWaiting (toP t_ s) = nvWaiting s := rfl
@[simp] theorem toL_obeys (t_ : Nat) (s : State) : obeys (toL t_ s) = obeys s := rfl
@[simp] theorem toP_obeys (t_ : Nat) (s : State) : obeys (toP t_ s) = obeys s := rfl
@[simp] theorem toL_frameTime (t_ : Nat) (s : State) : frameTime (toL t_ s) = frameTime s := rfl
@[simp] theorem toP_frameTime (t_ : Nat) (s : State) : frameTime (toP t_ s) = frameTime s := rfl
@[simp] theorem toL_setPointWaits (t_ : Nat) (s : State) : setPointWaits (toL t_ s) = setPointWaits s := rfl
@[simp] theorem toP_setPointWaits (t_ : Nat) (s : State) : setPointWaits (toP t_ s) = setPointWaits s := rfl
@[simp] theorem toL_configWaits (t_ : Nat) (s : State) : configWaits (toL t_ s) = configWaits s := rfl
@[simp] theorem toP_configWaits (t_ : Nat) (s : State) : configWaits (toP t_ s) = configWaits s := rfl
@[simp] theorem toL_markWaits (t_ : Nat) (s : State) : markWaits (toL t_ s) = markWaits s := rfl
@[simp] theorem toP_markWaits (t_ : Nat) (s : State) : markWaits (toP t_ s) = markWaits s := rfl
@[simp] theorem toL_unacked (t_ : Nat) (s : State) : unacked (toL t_ s) = unacked s := rfl
@[simp] theorem toP_unacked (t_ : Nat) (s : State) : unacked (toP t_ s) = unacked s := rfl
@[simp] theorem toL_cellOutWaits (t_ : Nat) (s : State) : cellOutWaits (toL t_ s) = cellOutWaits s := rfl
@[simp] theorem toP_cellOutWaits (t_ : Nat) (s : State) : cellOutWaits (toP t_ s) = cellOutWaits s := rfl
@[simp] theorem toL_startMarkWaits (t_ : Nat) (s : State) : startMarkWaits (toL t_ s) = startMarkWaits s := rfl
@[simp] theorem toP_startMarkWaits (t_ : Nat) (s : State) : startMarkWaits (toP t_ s) = startMarkWaits s := rfl
@[simp] theorem toL_sentMasks (k : Nat) (t_ : Nat) (s : State) : sentMasks k (toL t_ s) = sentMasks k s := rfl
@[simp] theorem toP_sentMasks (k : Nat) (t_ : Nat) (s : State) : sentMasks k (toP t_ s) = sentMasks k s := rfl
@[simp] theorem toL_leaveRule (k : Nat) (t_ : Nat) (s : State) : leaveRule k (toL t_ s) = leaveRule k s := rfl
@[simp] theorem toP_leaveRule (k : Nat) (t_ : Nat) (s : State) : leaveRule k (toP t_ s) = leaveRule k s := rfl
@[simp] theorem toL_underWay (f : CfgItem → Bool) (t_ : Nat) (s : State) : underWay f (toL t_ s) = underWay f s := rfl
@[simp] theorem toP_underWay (f : CfgItem → Bool) (t_ : Nat) (s : State) : underWay f (toP t_ s) = underWay f s := rfl
@[simp] theorem toL_adoptedContent (slot : Nat) (t_ : Nat) (s : State) : adoptedContent slot (toL t_ s) = adoptedContent slot s := rfl
@[simp] theorem toP_adoptedContent (slot : Nat) (t_ : Nat) (s : State) : adoptedContent slot (toP t_ s) = adoptedContent slot s := rfl
@[simp] theorem toL_fsComing (k : Nat) (t_ : Nat) (s : State) : fsComing k (toL t_ s) = fsComing k s := rfl
@[simp] theorem toP_fsComing (k : Nat) (t_ : Nat) (s : State) : fsComing k (toP t_ s) = fsComing k s := rfl
@[simp] theorem toL_fsPermitted (k mode : Nat) (t_ : Nat) (s : State) : fsPermitted k mode (toL t_ s) = fsPermitted k mode s := rfl
@[simp] theorem toP_fsPermitted (k mode : Nat) (t_ : Nat) (s : State) : fsPermitted k mode (toP t_ s) = fsPermitted k mode s := rfl
@[simp] theorem toL_failsafeOk (k : Nat) (w0 w1 : Word) (t_ : Nat) (s : State) : failsafeOk k w0 w1 (toL t_ s) = failsafeOk k w0 w1 s := rfl
@[simp] theorem toP_failsafeOk (k : Nat) (w0 w1 : Word) (t_ : Nat) (s : State) : failsafeOk k w0 w1 (toP t_ s) = failsafeOk k w0 w1 s := rfl
@[simp] theorem toL_weftStat (t_ : Nat) (s : State) : weftStat (toL t_ s) = weftStat s := rfl
@[simp] theorem toP_weftStat (t_ : Nat) (s : State) : weftStat (toP t_ s) = weftStat s := rfl
@[simp] theorem toL_holdComing (t_ : Nat) (s : State) : holdComing (toL t_ s) = holdComing s := rfl
@[simp] theorem toP_holdComing (t_ : Nat) (s : State) : holdComing (toP t_ s) = holdComing s := rfl
@[simp] theorem toL_fetched (e : Nat) (t_ : Nat) (s : State) : fetched e (toL t_ s) = fetched e s := rfl
@[simp] theorem toP_fetched (e : Nat) (t_ : Nat) (s : State) : fetched e (toP t_ s) = fetched e s := rfl
@[simp] theorem toL_lvOf (e : Nat) (w : Word) (t_ : Nat) (s : State) : lvOf e w (toL t_ s) = lvOf e w s := rfl
@[simp] theorem toP_lvOf (e : Nat) (w : Word) (t_ : Nat) (s : State) : lvOf e w (toP t_ s) = lvOf e w s := rfl
@[simp] theorem toL_instrTick (t e : Nat) (t_ : Nat) (s : State) : instrTick t e (toL t_ s) = instrTick t e s := rfl
@[simp] theorem toP_instrTick (t e : Nat) (t_ : Nat) (s : State) : instrTick t e (toP t_ s) = instrTick t e s := rfl
@[simp] theorem toL_regionOf (r : Nat) (t_ : Nat) (s : State) : regionOf r (toL t_ s) = regionOf r s := rfl
@[simp] theorem toP_regionOf (r : Nat) (t_ : Nat) (s : State) : regionOf r (toP t_ s) = regionOf r s := rfl
@[simp] theorem toL_regionOk (g : Region) (t_ : Nat) (s : State) : regionOk g (toL t_ s) = regionOk g s := rfl
@[simp] theorem toP_regionOk (g : Region) (t_ : Nat) (s : State) : regionOk g (toP t_ s) = regionOk g s := rfl

end Sys2Proof.Machine
end

