-- ==== Sys2Proof/Laws/Weft.lean ====
section
/-! SUPPORT. What a Weft frame is on the wire and what it does: the codec's round trip, and one lemma per direction and
outcome. -/

namespace Sys2Proof.Machine

/-! ### The wire (R228 to R230) -/

/-- The low n bytes of a number are read back as the number they keep. -/
theorem natLE_bytesLE (n v : Nat) : natLE (bytesLE n v) = v % 256 ^ n := by
  induction n generalizing v with
  | zero => simp [bytesLE, natLE, Nat.mod_one]
  | succ n ih =>
    rw [bytesLE, natLE, ih, Nat.pow_succ, Nat.mul_comm (256 ^ n) 256, Nat.mod_mul]
    simp

/-- A byte string has the length it is asked for. -/
@[simp] theorem bytesBE_length (n v : Nat) : (bytesBE n v).length = n := by
  have h : ∀ n v, (bytesLE n v).length = n := by
    intro n
    induction n with
    | zero => intro v; rfl
    | succ n ih => intro v; simp [bytesLE, ih]
  simp [bytesBE, h]

/-- A frame of 8 bytes that the line leaves alone arrives over its two lanes as it was sent (R228). -/
theorem lanes_clean (a b c d e f g h : Byte) :
    fromLanes (laneOf 0 (damaged {} [a, b, c, d, e, f, g, h])) (laneOf 1 (damaged {} [a, b, c, d, e, f, g, h])) =
      [a, b, c, d, e, f, g, h] := by
  simp [damaged, laneOf, fromLanes, bytesBE, bytesLE, List.range_succ]

/-- Every type is read from its own byte 0. -/
@[simp] theorem frameType_byte (ty : FrameType) : frameType ty.byte = some ty := by cases ty <;> decide

/-- An undamaged frame arrives as it was sent: valid, where its type is permitted (R229, R230). -/
theorem readFrame_clean (down odd : Bool) (ty : FrameType) (p : Nat) :
    readFrame down odd {} (frameBytes ty p) = if ty.permitted down odd then some (ty, p % 2 ^ 48) else none := by
  obtain ⟨b1, b2, b3, b4, b5, b6, hb⟩ : ∃ b1 b2 b3 b4 b5 b6, bytesBE 6 p = [b1, b2, b3, b4, b5, b6] := by
    simp [bytesBE, bytesLE]
  have hp : natBE [b1, b2, b3, b4, b5, b6] = p % 2 ^ 48 := by
    have h := natLE_bytesLE 6 p
    rw [show (256 : Nat) ^ 6 = 2 ^ 48 by decide] at h
    rw [← hb, natBE, bytesBE, List.reverse_reverse, h]
  simp only [readFrame, frameBytes, hb, List.cons_append, List.nil_append, lanes_clean]
  simp [hp]

/-! ### Frames down and up -/

/-- A good down frame is taken. -/
theorem downFrame_good (t : Nat) (odd : Bool) (ty : FrameType) (pl p : Nat) (e : LineErr) (f : Nat → State → State) (s : State)
    (h : downOpen s = true) (hr : readFrame true odd e (frameBytes ty pl) = some (ty, p)) :
    downFrame t odd ty pl e f s = f p (gotDown t odd p s) := by
  simp only [downOpen, Bool.and_eq_true, Bool.or_eq_true, Bool.not_eq_true', beq_iff_eq, bne_iff_ne] at h
  obtain ⟨⟨⟨h1, h2⟩, h3⟩, h4⟩ := h
  rcases h1 with h1 | h1 <;> simp [downFrame, sendDown, gotDown, h1, h2, h3, h4, hr]

/-- A spoilt down frame is discarded. -/
theorem downFrame_bad (t : Nat) (odd : Bool) (ty : FrameType) (pl : Nat) (e : LineErr) (f : Nat → State → State) (s : State)
    (h : downOpen s = true) (hr : readFrame true odd e (frameBytes ty pl) = none) :
    downFrame t odd ty pl e f s = discardDown (toL t s) := by
  simp only [downOpen, Bool.and_eq_true, Bool.or_eq_true, Bool.not_eq_true', beq_iff_eq, bne_iff_ne] at h
  obtain ⟨⟨⟨h1, h2⟩, h3⟩, h4⟩ := h
  rcases h1 with h1 | h1 <;> simp [downFrame, sendDown, h1, h2, h3, h4, hr]

/-- A good up frame is taken. -/
theorem upFrame_good (t : Nat) (odd : Bool) (ty : FrameType) (pl p : Nat) (e : LineErr) (f : Nat → State → State) (s : State)
    (h : upOpen s = true) (hr : readFrame false odd e (frameBytes ty pl) = some (ty, p)) :
    upFrame t odd ty pl e f s = f p (gotUp t s) := by
  simp only [upOpen, Bool.and_eq_true, Bool.or_eq_true, Bool.not_eq_true', beq_iff_eq, bne_iff_ne] at h
  obtain ⟨⟨⟨h1, h2⟩, h3⟩, h4⟩ := h
  rcases h1 with h1 | h1 <;> simp [upFrame, gotUp, h1, h2, h3, h4, hr]

/-- A spoilt up frame is discarded. -/
theorem upFrame_bad (t : Nat) (odd : Bool) (ty : FrameType) (pl : Nat) (e : LineErr) (f : Nat → State → State) (s : State)
    (h : upOpen s = true) (hr : readFrame false odd e (frameBytes ty pl) = none) :
    upFrame t odd ty pl e f s = discardUp (toL t s) := by
  simp only [upOpen, Bool.and_eq_true, Bool.or_eq_true, Bool.not_eq_true', beq_iff_eq, bne_iff_ne] at h
  obtain ⟨⟨⟨h1, h2⟩, h3⟩, h4⟩ := h
  rcases h1 with h1 | h1 <;> simp [upFrame, h1, h2, h3, h4, hr]

end Sys2Proof.Machine
end

