-- ==== Sys2Proof/Laws/Whorl.lean ====
section
/-! SUPPORT. What a Whorl engine does with an instruction. -/

namespace Sys2Proof.Machine

/-- An engine that executes carries out the instruction at its PC, where the row is that instruction's and its TGT one that the
instruction has. -/
theorem whorlExec_open (op : Nat → Bool) (act : Nat → Word → State → State) (t e : Nat) (s : State) (h : whorlOpen e s = true)
    (ho : op (wOp (fetched e s)) = true) (hg : tgtOk (fetched e s) = true) :
    whorlExec op act t e s = runaway e (act e (fetched e s) (whorlBegun t e s)) := by
  simp only [whorlOpen, Bool.and_eq_true, decide_eq_true_eq, beq_iff_eq, bne_iff_ne, ne_eq] at h
  obtain ⟨⟨⟨⟨⟨⟨h1, h2⟩, h3⟩, h4⟩, h7⟩, h5⟩, h6⟩ := h
  simp [whorlExec, Nat.not_le.2 h1, h2, h3, h4, h7, Nat.not_lt.2 h5, Nat.not_lt.2 h6, ho, hg, whorlBegun]

/-- A TGT that the instruction does not have stops the engine with BAD_TARGET. -/
theorem whorlExec_target (op : Nat → Bool) (act : Nat → Word → State → State) (t e : Nat) (s : State) (h : whorlOpen e s = true)
    (ho : op (wOp (fetched e s)) = true) (hg : tgtOk (fetched e s) = false) :
    whorlExec op act t e s = runaway e (stopWith e 2 (whorlBegun t e s)) := by
  simp only [whorlOpen, Bool.and_eq_true, decide_eq_true_eq, beq_iff_eq, bne_iff_ne, ne_eq] at h
  obtain ⟨⟨⟨⟨⟨⟨h1, h2⟩, h3⟩, h4⟩, h7⟩, h5⟩, h6⟩ := h
  simp [whorlExec, Nat.not_le.2 h1, h2, h3, h4, h7, Nat.not_lt.2 h5, Nat.not_lt.2 h6, ho, hg, whorlBegun]

end Sys2Proof.Machine
end

