-- ==== Sys2Proof/Machine/Pins.lean ====
section
/-! DEFINITION. The balls: where each lies (R43 to R48), and how each group of them behaves in every condition of power, reset and
link (R39, R53, R54). -/

namespace Sys2Proof.Machine

/-! ### The ball field (R44 to R47) -/

/-- A region of the ball field: rows and columns from its first to its last, filled column by column (R45). -/
structure BallRegion where
  row0 : Nat
  row1 : Nat
  col0 : Nat
  deriving DecidableEq, Repr

/-- The ball of a position in a region, as row and column. -/
def BallRegion.ball (r : BallRegion) (i : Nat) : Nat × Nat :=
  let rows := r.row1 - r.row0 + 1
  (r.row0 + i % rows, r.col0 + i / rows)

/-- The regions of R45 that hold balls of the P-die. -/
def upperBanks : BallRegion := { row0 := 1, row1 := 8, col0 := 1 }
/-- Banks 6 to 11. -/
def lowerBanks : BallRegion := { row0 := 23, row1 := 30, col0 := 1 }
/-- Matrix port 0. -/
def matrix0 : BallRegion := { row0 := 9, row1 := 22, col0 := 1 }
/-- Field and network. -/
def fieldRegion : BallRegion := { row0 := 9, row1 := 22, col0 := 6 }
/-- Matrix port 1. -/
def matrix1 : BallRegion := { row0 := 9, row1 := 22, col0 := 17 }
/-- The L-die's signals. -/
def lSignals : BallRegion := { row0 := 1, row1 := 30, col0 := 24 }

/-- The ball of place i in the block of bank b, 28 balls to a bank (R46). -/
def bankBall (b i : Nat) : Nat × Nat :=
  if b < 6 then upperBanks.ball (28 * b + i) else lowerBanks.ball (28 * (b - 6) + i)

/-- The two balls of OUT pin n (R46). -/
def outBalls (n : Nat) : (Nat × Nat) × (Nat × Nat) := (bankBall (bankOf n) (2 * (n % 8)), bankBall (bankOf n) (2 * (n % 8) + 1))

/-- The VBAT balls of a bank: 7 in banks 0, 1, 6 and 7, else 6 (R46). -/
def vbatCount (b : Nat) : Nat := if b = 0 ∨ b = 1 ∨ b = 6 ∨ b = 7 then 7 else 6
/-- The VBAT balls of bank b. -/
def vbatBalls (b : Nat) : List (Nat × Nat) := (List.range (vbatCount b)).map (fun i => bankBall b (16 + i))
/-- The PGND balls of bank b. -/
def pgndBalls (b : Nat) : List (Nat × Nat) := (List.range (12 - vbatCount b)).map (fun i => bankBall b (16 + vbatCount b + i))

/-- The ball of row r, 0 to 31, of the matrices (R45). -/
def rowBall (r : Nat) : Nat × Nat := if r < 16 then matrix0.ball r else matrix1.ball (r - 16)
/-- The ball of column c, 0 to 95. -/
def colBall (c : Nat) : Nat × Nat := if c < 48 then matrix0.ball (16 + c) else matrix1.ball (16 + c - 48)
/-- The ball of field pin i. -/
def fioBall (i : Nat) : Nat × Nat := fieldRegion.ball i
/-- The balls CANH and CANL of transceiver n. -/
def canBalls (n : Nat) : (Nat × Nat) × (Nat × Nat) := (fieldRegion.ball (80 + 2 * n), fieldRegion.ball (81 + 2 * n))
/-- The ball of WAKE i. -/
def wakeBall (i : Nat) : Nat × Nat := fieldRegion.ball (92 + i)
/-- The ISNS ball. -/
def isnsBall : Nat × Nat := fieldRegion.ball 96
/-- The ball of MSEL i. -/
def mselBall (i : Nat) : Nat × Nat := fieldRegion.ball (97 + i)
/-- The TAMP ball. -/
def tampBall : Nat × Nat := fieldRegion.ball 104
/-- The LSYNC ball. -/
def lsyncBall : Nat × Nat := fieldRegion.ball 105

/-- The moat: no ball lies in columns 22 and 23; the P-die's balls lie left of it, the L-die's right of it (R44). -/
def onPDie (ball : Nat × Nat) : Bool := ball.2 ≤ 21
/-- A position that a ball takes. -/
def populated (ball : Nat × Nat) : Bool := 1 ≤ ball.1 && ball.1 ≤ 30 && 1 ≤ ball.2 && ball.2 ≤ 30 && ball.2 != 22 && ball.2 != 23

/-! ### Conditions (R53) -/

/-- The columns of the table of R53. -/
inductive BallCond where | unpowered | holdover | failSafe | run | sleep | deepSleep | off
  deriving DecidableEq, Repr, Inhabited

/-- The groups of balls: the rows of the table. -/
inductive BallGroup where
  | out | rowCol | fioIn | fioOut | can | wake | isns | msel | tamp | ctx | crxQspi | intn | alv | regulator | ethernet | ply | anchor
  deriving DecidableEq, Repr, Inhabited

/-- What a group of balls does: the entries of the table. -/
inductive BallState where
  /-- off, with no drive but the body diodes -/
  | off
  /-- the last state held; for a matrix its displayed buffer scanned -/
  | held
  /-- the stored fail-safe state, or the port's fail-safe choice -/
  | failSafe
  /-- as Loom, the L-die or the host commands -/
  | commanded
  /-- scanned if the port is enabled -/
  | ifEnabled
  /-- an input: debounced, or polled in the low-power states -/
  | debounced | polled
  /-- high impedance; the inputs without wetting current -/
  | highZ
  /-- the bus recessive, with the transceiver unpowered -/
  | recessive
  /-- a transceiver in standby with selective wake -/
  | standby
  /-- selective wake or sleep, as configured -/
  | asConfigured
  /-- an input that has no effect, is monitored or not, is read, or is ignored -/
  | noEffect | monitored | notMonitored | readable | input | ignored
  /-- ISNS at 0 mA, or the mirror of the cell that MSEL selects -/
  | zero | mirror
  /-- undriven; driven low or high; released to its pull-up -/
  | undriven | low | high | released
  /-- driven by its unit: a CAN controller, the QSPI port, the regulator port, a MAC, a Ply port, an anchor port, ALV's toggling, or
  INTN by the QSPI output queue -/
  | active
  /-- an Ethernet port at rest: SGMII in electrical idle, RGMII outputs and MDC low, MDIO released -/
  | rest
  /-- a Ply pair that is static, or carries heartbeats alone -/
  | static | heartbeat
  /-- an anchor port at rest: CK, DO and ASYNC low, CSN high -/
  | anchorRest
  deriving DecidableEq, Repr, Inhabited

/-- The table of R53. -/
def ballTable : BallGroup → BallCond → BallState
  | .out, .unpowered => .off | .out, .holdover => .held | .out, .failSafe => .failSafe | .out, .run => .commanded
  | .out, .sleep => .commanded | .out, .deepSleep => .off | .out, .off => .off
  | .rowCol, .unpowered => .off | .rowCol, .holdover => .held | .rowCol, .failSafe => .failSafe | .rowCol, .run => .commanded
  | .rowCol, .sleep => .ifEnabled | .rowCol, .deepSleep => .off | .rowCol, .off => .off
  | .fioIn, .unpowered => .highZ | .fioIn, .holdover => .debounced | .fioIn, .failSafe => .debounced | .fioIn, .run => .debounced
  | .fioIn, .sleep => .polled | .fioIn, .deepSleep => .polled | .fioIn, .off => .highZ
  | .fioOut, .unpowered => .off | .fioOut, .holdover => .held | .fioOut, .failSafe => .off | .fioOut, .run => .commanded
  | .fioOut, .sleep => .commanded | .fioOut, .deepSleep => .off | .fioOut, .off => .off
  | .can, .unpowered => .recessive | .can, .holdover => .standby | .can, .failSafe => .standby | .can, .run => .commanded
  | .can, .sleep => .asConfigured | .can, .deepSleep => .asConfigured | .can, .off => .highZ
  | .wake, .unpowered => .noEffect | .wake, .run => .readable | .wake, _ => .monitored
  | .isns, .unpowered => .zero | .isns, .deepSleep => .zero | .isns, .off => .zero | .isns, _ => .mirror
  | .msel, .deepSleep => .ignored | .msel, .off => .ignored | .msel, _ => .input
  | .tamp, .unpowered => .notMonitored | .tamp, .off => .notMonitored | .tamp, _ => .monitored
  | .ctx, .unpowered => .undriven | .ctx, .off => .undriven | .ctx, .run => .active | .ctx, _ => .high
  | .crxQspi, .unpowered => .undriven | .crxQspi, .off => .undriven | .crxQspi, .run => .active | .crxQspi, _ => .highZ
  | .intn, .run => .active | .intn, _ => .released
  | .alv, .unpowered => .undriven | .alv, .off => .undriven | .alv, .run => .active | .alv, _ => .low
  | .regulator, .unpowered => .undriven | .regulator, .off => .undriven | .regulator, .holdover => .released
  | .regulator, .failSafe => .released | .regulator, _ => .active
  | .ethernet, .unpowered => .undriven | .ethernet, .off => .undriven | .ethernet, .run => .active | .ethernet, _ => .rest
  | .ply, .unpowered => .undriven | .ply, .off => .undriven | .ply, .run => .active | .ply, .sleep => .heartbeat | .ply, _ => .static
  | .anchor, .unpowered => .undriven | .anchor, .off => .undriven | .anchor, .run => .active | .anchor, _ => .anchorRest

/-- The condition of the P-die's balls. -/
def condP (s : State) : BallCond :=
  match s.pdie.sup with
  | .reset => .unpowered
  | .asleep => if s.pdie.power = 3 then .off else .deepSleep
  | .failSafe => .failSafe
  | .linked => if s.pdie.power = 0 then .run else .sleep
  | _ => .holdover

/-- VIO is absent: with VBAT away the device has no supply at all (R39), and a restore may wait for VIO (R578). -/
def vioAbsent (s : State) : Bool := s.pdie.sup == .reset || s.clk.railWait == some 1

/-- The condition of the L-die's balls. VIO is away in OFF until the rails return. An L-die that does not run, in reset, before
its firmware or halted, is in the columns of hold-over or fail-safe; one that runs serves its ports with its link silent as well:
the rules of every chapter answer requests then, so the column's 'silent' is read of an L-die that sends nothing (DEDUCED, log entry
95). -/
def condL (s : State) : BallCond :=
  if s.clk.power = 4 && s.ldie == .off then .off
  else if vioAbsent s then .unpowered
  else if s.clk.power = 3 && s.ldie == .off then .deepSleep
  else if !hostUp s then (if s.pdie.sup == .failSafe || s.ldie == .halted then .failSafe else .holdover)
  else if s.clk.power = 2 then .sleep else .run

/-- The groups of the P-die. -/
def BallGroup.onP : BallGroup → Bool
  | .out | .rowCol | .fioIn | .fioOut | .can | .wake | .isns | .msel | .tamp => true
  | _ => false

/-- What a group of balls does at present; after a P-die power-on every output is off until the first set-points or the expiry
(R41, R53). The Ply ports of a device that waits for its chain carry heartbeats already (R603). -/
def ballState (g : BallGroup) (s : State) : BallState :=
  if g == .ply && condL s == .holdover && plyRuns s then .heartbeat
  else if g.onP then (if (g == .out || g == .rowCol || g == .fioOut) && outputsOff s then .off else ballTable g (condP s))
  else ballTable g (condL s)

/-- CTX6 to CTX11: driven high, which is recessive, while VIO is present and no controller drives them; a controller that is
stopped drives recessive too (R39, R53, R369). dominant is what controller k of the ball sends. -/
def ctxLevel (k : Nat) (dominant : Bool) (s : State) : Option Bool :=
  match ballState .ctx s with
  | .undriven => none
  | .active => some (!dominant || (canCtl k s).state == .stopped)
  | _ => some true

/-- TDO: high impedance except while the TAP shifts a bit out (R54). -/
def tdoLevel (shifting : Option Bool) : Option Bool := shifting

/-- The OUT node of cell n carries the pull-up of the off-state check, or in LS mode its pull-down; a cell in no skein never does
(R54, R216). -/
def diagCurrent (n : Nat) (s : State) : Bool :=
  match skeinOfCellP n s with
  | none => false
  | some k => diagCell k s == some n

/-- The switches of cell n: both off in a cell of no skein, in every condition (R54). -/
def outDrive (n : Nat) (s : State) : Drive :=
  if (skeinOfCellP n s).isNone then .off
  else if (cellP n s).hsOn then .high else if (cellP n s).lsOn then .low else .off

end Sys2Proof.Machine
end

