-- ==== Sys2Proof/Tests/Slice0.lean ====
section
/-! SUPPORT. Tests: what WellFormed refuses, single steps whose results the spec gives, and for every obligation with
hypotheses one theorem that shows a concrete state and operands that meet them. Clauses with no witness here: UPDATE_BEGIN,
whose signature would be one under the device's own update key (an open value), and those without hypotheses. -/

open Sys2Proof Sys2Proof.Machine

namespace Sys2Proof.Tests

set_option Elab.async false
set_option maxRecDepth 100000
set_option linter.unusedVariables false

/-! ### States -/

/-- A slot with a session under the transport root. -/
def openSlot : Slot := { port := some .qspi, session := some { parent := 3, rights := 15 }, heldRestart := none }

/-- A running device: firmware up, link LIVE, key store READY, slot 0 with a session on QSPI. -/
def up : State :=
  { State.reset with
    ldie := .running, now := 3000000, pNow := 3000000
    weft := { state := .live, sending := true, lastUp := 3000000, idleAt := 3000000 }
    pdie := { sup := .linked, expiry := none, lastDown := 3000000, idleAt := 3000000, warm := true }
    clk := { step := .run, rootRc := false, locked := true, xtalOk := true }
    keys := { state := .ready }
    host := { slots := #v[openSlot, {}, {}, {}] } }

/-- A request on slot 0 by QSPI. -/
def rq (object : Word) (payload : List Word) : Req :=
  { t := 0, port := .qspi, peer := default, slot := 0, device := 0, tag := 1, ordered := false, noresp := false, snapalign := false
    urgent := false, object := object, seq := 5, payload := payload }

/-- The one-cell lamp skein: HS, static, INOM 2 A, on the cell named. -/
def lamp (n : Nat) : SkeinDef :=
  { cfg := pack [(16, 1), (8, 1), (0, n)], limit := pack [(16, 400), (0, 200)], period := 0x80000000
    timing := pack [(28, 4), (16, 100), (0, 100)], aux := 0 }

/-- Skein k defined on both dies, its cells ACTIVE. -/
def withSkein (k : Nat) (d : SkeinDef) (s : State) : State :=
  let s := modSkP k (fun x => { x with defn := d, mask := 2 ^ d.count - 1 }) (modSkL k (fun x => { x with defn := d }) s)
  modLoom (fun l => { l with
    skeinView := put l.skeinView k (skP k s)
    roles := Vector.ofFn (fun (i : Fin 96) => if d.cells.contains i.val then .active else nth l.roles i.val) }) s

/-- One leg of a bridge pair of the skeins k and j, on one cell. -/
def legOf (n j : Nat) : SkeinDef :=
  { lamp n with cfg := pack [(18, 3), (16, 3), (8, 1), (0, n)], aux := pack [(24, 1), (23, 1), (16, j)] }

/-- Two legs, led by skein 4. -/
def bridged : State := withSkein 5 (legOf 9 4) (withSkein 4 (legOf 8 5) up)

/-- Chain entry j with a state and its partner on device 1. -/
def withEntry (j k st : Nat) (sec : Bool) (s : State) : State :=
  modChain j (fun x => { x with cfg := pack [(24, b2n sec), (16, 3), (8, 1), (0, k)], state := st }) s

/-- Both Ply links up. -/
def chained : State :=
  modHost (fun h => { h with ply := Vector.replicate 2 { state := .up, credit := 4096 }
                             chain := { h.chain with views := upd h.chain.views 1 (fun v => { v with present := true, heard := some 9 }) } })
    { up with deviceId := 0 }

/-- The link to device 1 of the chain's middle device. -/
def middle : State := { chained with deviceId := 2 }

/-- A frame on its way out. -/
def aFrame : OutFrame := default

/-- 802.1AS runs on MAC 0. -/
def timed : State := modGptp (fun g => { g with cfg := 1 }) (modMac 0 (fun m => { m with cfg := 0xA3E80001, link := true, rate := 2 }) up)

/-- A heartbeat of device d on port p. -/
def beat (p d : Nat) (rel : Bool) : Beat :=
  { (default : Beat) with t := 3000001, p := p, dev := d, relayed := rel }

/-- An entry of the group in flight at a stage. -/
def inFlight (op : Nat) (st : Stage) (aw : Await) : Entry := { op := op, req := rq 0 [], stage := st, await := aw }

/-- The running device with one command in flight. -/
def flying (e : Entry) (s : State) : State := modHost (fun h => { h with flight := [e] }) s

/-- The lamp of skein 47 on cell 95, and another on cell 0. -/
def lit : State := withSkein 0 (lamp 0) (withSkein 47 (lamp 95) up)

/-- The link in another state. -/
def link (st : LinkState) (s : State) : State := modWeft (fun w => { w with state := st }) s

/-- One CONFIG item waits in the framer. -/
def config (x : CfgItem) (sent : Option Nat) : State := modWeft (fun w => { w with cfg := [{ id := 7, item := x, sent := sent }] }) up

/-- One up frame waits on the P-die. -/
def upWaits (b : UpBody) (sent : Option Nat) : State := modP (fun p => { p with up := [{ seq := 3, body := b, sent := sent }] }) up

/-- An actuator slot on both dies. -/
def withSlot (a : Nat) (f : ActP → ActP) (g : ActL → ActL) (s : State) : State := modActL a g (modActP a f s)

/-- The lamp of skein 47 is the chopping skein of slot 15, an LS profile on it. -/
def coil : ActProfile := { bind := pack [(16, 1), (0, 47)], cur := pack [(16, 50), (0, 100)], time := pack [(16, 5), (0, 400)]
                           chop := pack [(24, 20), (12, 20), (0, 20)], decay := 0, kink := 0 }

/-- Matrix port 1 lit, with a word of its configuration. -/
def port1 (w : Word) (f : PortP → PortP) : State := modPortP 1 (fun x => f { x with cfg := w, blank := false }) up

/-- The last row's columns begin to sink, the last pixel at full level. -/
def lastRow (x : PortP) : PortP :=
  { x with frame := some (3000000 - 15 * rowSlot x.cfg - rowGap x.cfg, 3000009), fb := Vector.replicate 2 (Table.set [] 767 65535) }

/-- Engine 15 stands before an instruction, or in a state. -/
def whorl (w : Word) (st : EngState) : State :=
  modEngine 15 (fun x => { x with state := st, low := 0, high := 1023, pc := 1023 })
    (modLight (fun l => { l with prog := l.prog.set 1023 w.toNat }) (withSkein 47 { lamp 95 with cfg := (lamp 95).cfg ||| 0x40000 } up))

/-- Controller 11 in a state, with one frame at the head of URGENT. -/
def can (st : CanState) (f : List CanFrame) : State := modCtl 11 (fun c => { c with state := st, urgent := f }) up

/-- Network time on controller 11, its cycle begun at tick 2,000,000. -/
def netTime (role : Nat) (s : State) : State :=
  modNt (fun n => { n with cfg := pack [(16, 3), (4, role), (0, 11)], ref := 0x100, synced := true, base := some 2000000, cycle := 1000000 }) s

/-- Channel 11 of network management in a phase, address 5 of base 0x640. -/
def ring (ph : Nat) (f : NmChan → NmChan) : State :=
  modCh 11 (fun x => f { x with cfg := pack [(8, 0x640), (7, 1), (0, 5)], phase := ph, pres := 0x30 }) (can .active [])

/-- A ring frame of address 4 with flags. -/
def ringData (flags : Nat) : List Byte := [4, 5, BitVec.ofNat 8 flags, 0, 0, 0, 0, 0]

/-- The cores run compared. -/
def compared : State := modSpindle (fun x => { x with lockstep := true, selftestOk := true }) up

/-- A zeroisation after some steps. -/
def zeroing (n : Nat) (fail : Bool) : State := modKeys (fun k => { k with state := .zeroising, zero := some { step := n }, trngFail := fail }) up

/-- The update flow with an operation. -/
def updating (st : Nat) (op : Option UpdOp) : State := modUpd (fun u => { u with state := st, op := op, held := true }) up

/-- The clock unit changed. -/
def clk (f : ClkSt → ClkSt) : State := modClk f up

/-- The device in its start, after a step. -/
def starting (p : StartStep) (f : ClkSt → ClkSt) : State := { clk (fun c => f { c with step := p }) with ldie := .starting }

/-- A power entry to SLEEP in a phase. -/
def entering (e : PwrEntry) : State := clk (fun c => { c with entry := some e })

/-- Key slot n holds a key of a purpose. -/
def withKey (n p : Nat) (s : State) : State :=
  modKeySlot n (fun k => { k with occupied := true, purpose := p, rights := 15, key := List.replicate 16 0x5A }) s

/-- Token 7 and anchor 5 with their keys. -/
def ranging (s : State) : State :=
  modRange (fun x => { x with tok := upd x.tok 7 (fun t => { t with cfg := 0xBF000000 }), anc := upd x.anc 5 (fun a => { a with cfg := 0xBF000000 }) })
    (withKey 63 4 s)

/-- A run of one round. -/
def aRun : RangeRun := { toks := 128, ancs := 32, left := 1, roundT := 20, start := 3000000 }

/-- The run stands. -/
def runs (r : RangeRun) : State := modRange (fun x => { x with run := some r }) (ranging up)

/-- Slot 15 in mode BANK, its peak above what its high-side skein carries. -/
def bankSlot : State :=
  withSlot 15 id (fun x => { x with prof := { coil with bind := pack [(16, 2), (15, 1), (8, 46), (0, 47)], cur := pack [(16, 50), (0, 401)] } })
    (withSkein 46 { lamp 94 with cfg := (lamp 94).cfg ||| 0x80000 } (withSkein 47 { lamp 95 with cfg := (lamp 95).cfg ||| 0x80000 } up))

/-- Profile 63 protects the frames 0x7FF that controller 11 sends, with FV_LEN 1 and MAC_LEN 3. -/
def protectedCan : State :=
  modAuth 63 (fun x => { x with cfg := pack [(16, 63), (12, 1), (8, 3), (5, 1), (4, 1), (0, 11)], id := 0x7FF }) (withKey 63 3 (can .active []))

/-- The words of CAN_CFG: the control word, and 500 ns of nominal bit time. -/
def canWords (ctl : Word) : List Word := [ctl, pack [(25, 1), (18, 1), (10, 98), (0, 1)], 0, 0, 0, 0, 0]

/-- A record of configuration class 1 with no data. -/
def aRecord : List Word := [pack [(16, 0), (0, 1)], 0]

/-- The update flow in a state, its bank holding one block; it began with no end of the session counted. -/
def receivingUpdate (st : Nat) : State := modUpd (fun u => { u with state := st, held := true, slot := 0, idleEnd := 100000000 }) up

/-- KEY_PROVISION of slot 63, purpose 8: a nonce, the ciphertext and its tag under the session's key. -/
def provision : List Word :=
  let w : Word := pack [(16, 8)]
  let ktk := kdf (keyBytes 0) (ascii "EODEN-KTK") (({ } : Session)).nonce 16
  let nonce := List.replicate 12 (0 : Byte)
  let ct := List.replicate 16 (0 : Byte)
  w :: byteWords (nonce ++ ct ++ gcmTag ktk nonce (bytesLE 4 w.toNat ++ bytesLE 4 63) ct)

/-- The state after a command has what p asks. -/
def after (o : Host.Outcome State Fault Refusal) (p : State → Bool) : Bool :=
  match o with
  | .next t => p t
  | _ => false

/-! ### What WellFormed refuses -/

theorem test_wf_slot : (Instr.ping { rq 0 [] with slot := 4 }).wf = false := by decide

theorem test_wf_device : (Instr.ping { rq 0 [] with device := 4 }).wf = false := by decide

theorem test_wf_tag : (Instr.ping { rq 0 [] with tag := 256 }).wf = false := by decide

theorem test_wf_seq : (Instr.ping { rq 0 [] with seq := 2 ^ 32 }).wf = false := by decide

theorem test_wf_payload : (Instr.ping (rq 0 (List.replicate 257 0))).wf = false := by decide +kernel

theorem test_wf_peer_address : (Instr.ping { rq 0 [] with peer := { (default : Peer) with addr := 2 ^ 32 } }).wf = false := by decide

theorem test_wf_peer_port : (Instr.ping { rq 0 [] with peer := { (default : Peer) with udp := 2 ^ 16 } }).wf = false := by decide

theorem test_wf_heartbeat : (Instr.heartbeat (beat 2 1 false)).wf = false ∧ (Instr.heartbeat (beat 1 4 false)).wf = false := by decide

theorem test_wf_cell : (Instr.tripDecision 0 96 0).wf = false := by decide

theorem test_wf_skein : (Instr.skeinCtlWrite 48 0 (rq 0 [])).wf = false := by decide

theorem test_wf_pin : (Instr.fioPinCfgWrite 80 0 (rq 0 [])).wf = false := by decide

theorem test_wf_controller : (Instr.errcapRead 12 (rq 0 [])).wf = false := by decide

theorem test_wf_engine : (Instr.whorlSet 0 16).wf = false := by decide

theorem test_wf_accepts : (Instr.ping (rq 0 [])).wf = true ∧ (Instr.whorlSet 0 15).wf = true := by decide

/-! ### Check values and worked examples of the spec -/

/-- The check value of R69. -/
theorem test_crc_check_value : crc32c (ascii "123456789") = 0xE3069283 := by decide +kernel

/-- The check value of R229. -/
theorem test_crc8_check_value : crc8 (ascii "123456789") = 0xDF := by decide +kernel

/-- The Weft frame of R228 and R230: an IDLE's byte 0, payload bits [47:40] in byte 1, the even bytes on lane 0. -/
theorem test_weft_frame_lanes :
    (laneOf 0 (frameBytes .idle 0x010203040506)).take 3 = [0xBC, 2, 4] ∧ (laneOf 1 (frameBytes .idle 0x010203040506)).take 3 = [1, 3, 5] := by
  decide +kernel

/-- FIPS 197, appendix C.1: the standard that R70 names. -/
theorem test_aes_standard_vector :
    aesEnc ((List.range 16).map (BitVec.ofNat 8)) ((List.range 16).map (fun i => BitVec.ofNat 8 (17 * i))) =
      bytesBE 16 0x69C4E0D86A7B0430D8CDB78070B4C55A := by decide +kernel

/-- FIPS 180-4: the digest of "abc". -/
theorem test_sha256_standard_vector :
    sha256 (ascii "abc") = bytesBE 32 0xBA7816BF8F01CFEA414140DE5DAE2223B00361A396177A9CB410FF61F20015AD := by decide +kernel

/-- The example of chapter 3: READ_BLOCK of REEL_SET1_TICK_LO on slot 1, device 2. -/
theorem test_read_block_header :
    let h := frameHead 0 .plyUp default [0xB7, 0x02, 0x02, 0x01, 0x07, 0x60, 0x04, 0x00, 0x20, 0x00, 0x11, 0x00, 0x05, 0x03, 0x00, 0x00, 2, 0, 0, 0]
    h.op = 0x0102 ∧ h.req.tag = 7 ∧ h.req.slot = 1 ∧ h.req.device = 2 ∧ h.length = 4 ∧ h.req.object = 0x00110020 ∧ h.req.seq = 0x305 ∧
      h.req.ordered = false := by decide

/-- The same example: the first 12 bytes of the answer. -/
theorem test_read_block_answer :
    let f : OutFrame := { (default : OutFrame) with kind := .final, slot := 1, opcode := 0x0102, tag := 7, byte5 := 0x60, credit := 256, payload := [0, 0] }
    f.bytes.take 12 = [0xB8, 0x02, 0x02, 0x01, 0x07, 0x60, 0x08, 0x00, 0, 0, 0x00, 0x01] ∧ f.bytes.length = 28 := by decide +kernel

/-- The example of R344: 400 and 100 ticks. -/
theorem test_can_bit_times : nominalTime 0x50A27C01 = 400 ∧ dataTime 0x5149E000 = 100 := by decide

/-- The window lift of chapter 4. -/
theorem test_skein_cfg_fields :
    let d : SkeinDef := { cfg := 0x000F1440, limit := 0x0AF00320, period := 0x0000270F }
    d.cells = [64, 65, 66, 67] ∧ d.nspare = 1 ∧ d.mode = 3 ∧ d.owner = 3 ∧ d.inom = 800 ∧ d.ipeak = 2800 ∧ d.pre = 1 ∧ d.steps = 10000 := by
  decide

/-- The indicator of chapter 9: S, the frame period and the code sum. -/
theorem test_matrix_times :
    rowSlot 0x10340301 = 17408 ∧ framePeriod 0x10340301 = 69632 ∧ coliSum (Vector.replicate 12 0x15151515) = 1008 := by decide +kernel

/-- The hazard lamps of chapter 7: a period of 134,000,000 ticks, the first 66,000,000 of them on. -/
theorem test_flash_period :
    flashOn 33 34 65999999 = true ∧ flashOn 33 34 66000000 = false ∧ flashOn 33 34 133999999 = false ∧ flashOn 33 34 134000000 = true := by
  decide

/-- The example of R580: 0.900 V is 0x0E66 at the reset exponent −12. -/
theorem test_vout_value : voutValue 900 (-12) = 0x0E66 ∧ (vcoreRequest State.reset).kind = .vout 0x0E66 := by decide +kernel

/-- The example of R201: 16 %. -/
theorem test_drift : driftOf [2400] [2880] = 16 := by decide

/-- The low beam of R200, its window begun i intervals ago with the point e of the envelope. -/
def lowBeam (i e : Nat) : State :=
  let d : SkeinDef := { cfg := pack [(16, 1), (12, 1), (8, 4), (0, 8)], limit := pack [(16, 3000), (0, 410)], period := 0x80000000
                        timing := pack [(28, 4), (16, 500), (0, 100)] }
  let s := { up with pNow := 20000000 }
  let s := modSkP 5 (fun x => { x with defn := d, mask := 7, env := List.replicate 64 e, windowStart := 20000000 - 156250 * i, inrushEnd := some 30000000 }) s
  let s := [8, 9, 10].foldl (fun s n => modCell n (fun c => { c with hsOn := true }) s) s
  modP (fun p => { p with banks := upd p.banks 1 (fun b => { b with vbat := 14400 })
                          prot := { p.prot with trip := put p.prot.trip 5 8, learn := put p.prot.learn 5 (pack [(23, 135), (8, 4)]) } }) s

/-- The example of R200: 16.0 A, 4.5 A and 4.0 A per cell. -/
theorem test_envelope_thresholds :
    envThreshold 8 5 (lowBeam 1 3000) = 1600 ∧ envThreshold 8 5 (lowBeam 32 800) = 450 ∧ envThreshold 8 5 (lowBeam 63 450) = 400 := by
  decide +kernel

/-! ### One step -/

/-- LDI LV0, 0xFFF0 and JMP 0x042, the words of the indicator's program. -/
theorem test_whorl_ldi : after (exec (.whorlLdi 0 15) (whorl 0x2000FFF0 .running)) (fun t => nth (engine 15 t).lv 0 == 0xFFF0) = true := by
  decide +kernel

theorem test_whorl_jmp : after (exec (.whorlJmp 0 15) (whorl 0x50000042 .running)) (fun t => (engine 15 t).pc == 0x42) = true := by
  decide +kernel

/-- PING with a valid request is answered on the port by which it came (R95). -/
theorem test_ping_answers :
    after (exec (.ping (rq 0 [])) up) (fun t => ((nth t.host.ports 0).output.map (fun f => (f.opcode, f.status))) == [(0, 0)]) = true := by
  decide +kernel

/-- A command of a closed group ends with ABORTED_DISABLED and answers (R85). -/
theorem test_step_takes_the_front :
    after (step { up with pending := [.trstn 0, .ping (rq 0 [])] }) (fun t => t.pending == [.ping (rq 0 [])]) = true := by decide +kernel

/-- The RSTN filter: 99 ns has no effect, 1,000 ns resets the L-die and samples its straps. -/
theorem test_rstn_filter :
    after (exec (.rstn 0 99 2 true false) up) (fun t => t.ldie == .running) = true ∧
    after (exec (.rstn 0 1000 2 true false) up) (fun t => t.ldie != .running && t.deviceId == 2 && t.split) = true := by decide +kernel

/-! ### Hypotheses that can be met -/

theorem witness_InterpreterCommandsComplete :
    (let r : Req := rq 0 []
     let s : State := up
     ready infoPing r s = true) ∧
    (let r : Req := rq 0 []
     let s : State := up
     ready infoGetInfo r s = true) ∧
    (let r : Req := rq 0 []
     let s : State := up
     ready infoGetTime r s = true) ∧
    (let r : Req := rq 0 [0xFFFFFFFF]
     let s : State := up
     ready infoSubscribe r s = true) ∧
    (let r : Req := rq 0 []
     let s : State := up
     ready infoSessionClose r s = true) ∧
    (let r : Req := rq 0xFFFFFFFF [1, 2, 3, 4]
     let s : State := up
     ready infoSessionOpen r s = true ∧ r.object = 0xFFFFFFFF ∧ s.keys.trngFail = false) ∧
    (let r : Req := rq 64 [1, 2, 3, 4]
     let s : State := up
     let key : List Byte := transportKey
     let rights : Nat := 1
     let gen : Nat := 0
     ready infoSessionOpen r s = true ∧ obj r ≤ 64) ∧
    (let r : Req := rq 2 [1]
     let s : State := modHost (fun h => { h with disabled := 4 }) up
     let g := fld 7 0 r.object
     let a := atRun infoFuncEnable r s
     ready infoFuncEnable r s = true ∧ bit 0 (arg r 0) = true ∧ groupOff g a = true) ∧
    (let r : Req := rq 2 [0]
     let s : State := up
     let g := fld 7 0 r.object
     let a := atRun infoFuncEnable r s
     ready infoFuncEnable r s = true ∧ bit 0 (arg r 0) = false ∧ groupOff g a = false) ∧
    (let r : Req := rq 2 [1]
     let s : State := up
     let g := fld 7 0 r.object
     let a := atRun infoFuncEnable r s
     ready infoFuncEnable r s = true ∧ bit 0 (arg r 0) = !groupOff g a) := by
  refine ⟨?_, ?_, ?_, ?_, ?_, ?_, ?_, ?_, ?_, ?_⟩ <;> decide +kernel

theorem witness_InterpreterCommandsComplete_loads :
    (let r : Req := rq 64 [1, 2, 3, 4]
     let s : State := up
     let key : List Byte := transportKey
     let rights : Nat := 1
     let gen : Nat := 0
     sessionParent (obj r) (atRun infoSessionOpen r s) = .ok (key, rights, gen)) := rfl

theorem witness_RegisterCommandsAndLoadRowsComplete :
    (let r : Req := rq 0 []
     let s : State := up
     ready infoReadReg r s = true) ∧
    (let r : Req := rq 0x10020 [0xFFFFFFFF]
     let s : State := up
     ready infoWriteReg r s = true) ∧
    (let r : Req := rq 0xE000C [0xFF]
     let s : State := up
     ready infoWriteReg r s = true ∧ obj r = 0xE000C) ∧
    (let r : Req := rq 0xE000C [0xFF, 1]
     let s : State := up
     ready infoModifyReg r s = true) ∧
    (let r : Req := rq 0x10000 [4]
     let s : State := up
     ready infoReadBlock r s = true ∧ blockOk (obj r) (arg r 0).toNat = true) ∧
    (let r : Req := rq 0x30000 [3]
     let s : State := up
     let w := writeWords r.payload.length (entryFor infoWriteBlock r s).authed true (obj r) r.payload {} (atRun infoWriteBlock r s)
     ready infoWriteBlock r s = true ∧ blockOk (obj r) r.payload.length = true ∧ ((obj r / 0x10000 = 7 → coliBlockOk (obj r % 0x10000)
     r.payload (atRun infoWriteBlock r s) = true)) ∧ w.2.bad = none) ∧
    (let k : Nat := 47
     let v : Word := 1
     let r : Req := rq 0 []
     let s : State := withSkein 47 (lamp 95) up
     let r' := regReq (0x42014 + 0x20 * k) v r
     let a := atRun infoWriteReg r' s
     k < 48 ∧ ready infoWriteReg r' s = true ∧ loadTakes k v a = true ∧ (defL k a).owner = 0 ∧ groupOff 0x02 a = false ∧ passes k a = none ∧
     setPointCheck k (wordSp k v a) a = none ∧ linkLive a = true ∧ apart k a = false) ∧
    (let k : Nat := 47
     let v : Word := 12000
     let r : Req := rq 0 []
     let s : State := withSkein 47 (lamp 95) up
     let r' := regReq (0x31000 + 0x10 * k) v r
     let a := atRun infoWriteReg r' s
     k < 48 ∧ ready infoWriteReg r' s = true ∧ (defL k a).defined = true ∧ groupOff 0x0D a = false ∧ ((fld 13 0 v = 0 ∨ 20 ≤ fld 13 0 v ∧
     fld 13 0 v ≤ 12000))) ∧
    (let k : Nat := 47
     let v : Word := 1
     let r : Req := rq 0 []
     let s : State := withSkein 47 (lamp 95) up
     let r' := regReq (0x31004 + 0x10 * k) v r
     let a := atRun infoWriteReg r' s
     k < 48 ∧ ready infoWriteReg r' s = true ∧ pinTakes k v a = true ∧ groupOff 0x0D a = false) ∧
    (let v : Word := 0x640000
     let r : Req := rq 0 []
     let s : State := up
     let r' := regReq 0x90000 (v ||| 1) r
     let a := atRun infoWriteReg r' s
     ready infoWriteReg r' s = true ∧ (word (fld 25 16 v) = holdComing a ∨ 1000 < fld 25 16 v)) ∧
    (let hold : Nat := 1000
     let r : Req := rq 0 []
     let s : State := up
     let r' := regReq 0x90000 (pack [(16, hold)]) r
     let a := atRun infoWriteReg r' s
     ready infoWriteReg r' s = true ∧ hold ≤ 1000 ∧ word hold ≠ holdComing a ∧ linkLive a = true) := by
  refine ⟨?_, ?_, ?_, ?_, ?_, ?_, ?_, ?_, ?_, ?_, ?_⟩ <;> decide +kernel

theorem witness_LoadCommandsComplete :
    (let r : Req := rq 47 [1]
     let s : State := withSkein 47 (lamp 95) up
     let a := atRun infoLoadSet r s
     let k := skeinOf r
     let w := arg r 0
     ready infoLoadSet r s = true ∧ loadTakes k w a = true ∧ passes k a = none ∧ setPointCheck k (wordSp k w a) a = none ∧ linkLive a = true
     ∧ apart k a = false) ∧
    (let r : Req := rq 47 [1]
     let s : State := withEntry 15 47 3 true (withSkein 47 (lamp 95) up)
     let a := atRun infoLoadSet r s
     let k := skeinOf r
     let w := arg r 0
     ready infoLoadSet r s = true ∧ loadTakes k w a = true ∧ passes k a = none ∧ setPointCheck k (wordSp k w a) a = none ∧ linkLive a = true
     ∧ apart k a = true) ∧
    (let r : Req := rq 47 [1]
     let s : State := withEntry 15 47 2 true (withSkein 47 (lamp 95) chained)
     let a := atRun infoLoadSet r s
     let k := skeinOf r
     let w := arg r 0
     let j := 15
     ready infoLoadSet r s = true ∧ loadTakes k w a = true ∧ passes k a = some j ∧ plyToward (chainE j a).pdev a = true) ∧
    (let r : Req := rq 47 [1]
     let s : State := withEntry 15 47 2 true (withSkein 47 (lamp 95) up)
     let a := atRun infoLoadSet r s
     let k := skeinOf r
     let w := arg r 0
     let j := 15
     ready infoLoadSet r s = true ∧ loadTakes k w a = true ∧ passes k a = some j ∧ plyToward (chainE j a).pdev a = false ∧ setPointCheck k
     (wordSp k w a) a = none) ∧
    (let r : Req := rq 47 []
     let s : State := withSkein 47 (lamp 95) up
     let a := atRun infoLoadGet r s
     let k := skeinOf r
     ready infoLoadGet r s = true ∧ (defL k a).defined = true) ∧
    (let r : Req := rq 4 [4, 1]
     let s : State := bridged
     let a := atRun infoBridgeSet r s
     let k := skeinOf r
     let p : SetPoint :=
       { duty := fld 16 0 (arg r 1), hiz := (skL k a).sp.hiz, bstate := fld 2 0 (arg r 0), decay := bit 8 (arg r 0) }
     ready infoBridgeSet r s = true ∧ pairedL k a = true ∧ leaderL k a = k ∧ p.bstate ≤ 4 ∧ dutyOk (defL k a) p.duty = true ∧ setPointCheck
     k p a = none ∧ linkLive a = true) ∧
    (let r : Req := rq 47 [0, 0, 0, 0, 0]
     let s : State := withSkein 47 (lamp 95) up
     let a := atRun infoSkeinDefine r s
     let k := skeinOf r
     let d := defOf r
     ready infoSkeinDefine r s = true ∧ offForDefine k a = true ∧ linkLive a = true ∧ d.count = 0 ∧ (defL k a).defined = true) ∧
    (let r : Req := rq 47 [0, 0, 0, 0, 0]
     let s : State := up
     let a := atRun infoSkeinDefine r s
     let k := skeinOf r
     let d := defOf r
     ready infoSkeinDefine r s = true ∧ offForDefine k a = true ∧ linkLive a = true ∧ d.count = 0 ∧ (defL k a).defined = false) ∧
    (let r : Req := rq 47 [(lamp 95).cfg, (lamp 95).limit, (lamp 95).period, (lamp 95).timing, 0]
     let s : State := up
     let a := atRun infoSkeinDefine r s
     let k := skeinOf r
     let d := defOf r
     ready infoSkeinDefine r s = true ∧ offForDefine k a = true ∧ linkLive a = true ∧ d.count ≠ 0 ∧ cellsValid k d a = true ∧ modeValid d =
     true ∧ timingValid d = true ∧ currentValid d = true) := by
  refine ⟨?_, ?_, ?_, ?_, ?_, ?_, ?_, ?_, ?_⟩ <;> decide +kernel

theorem witness_LoomCommandsComplete :
    (let r : Req := rq 47 []
     let s : State := withSkein 47 (lamp 95) up
     let a := atRun infoLoomPlacementGet r s
     let k := skeinOf r
     ready infoLoomPlacementGet r s = true ∧ (defL k a).defined = true) ∧
    (let r : Req := rq 47 [12000]
     let s : State := withSkein 47 (lamp 95) up
     let a := atRun infoLoomRotateCfg r s
     let k := skeinOf r
     let ri := fld 13 0 (arg r 0)
     ready infoLoomRotateCfg r s = true ∧ (defL k a).defined = true ∧ ((ri = 0 ∨ 20 ≤ ri ∧ ri ≤ 12000))) ∧
    (let r : Req := rq 47 [1]
     let s : State := withSkein 47 (lamp 95) up
     let a := atRun infoLoomPin r s
     let k := skeinOf r
     ready infoLoomPin r s = true ∧ pinTakes k (arg r 0) a = true) ∧
    (let r : Req := rq 15 [pack [(25, 1), (0, 47)], 20]
     let s : State := withEntry 15 47 2 true (withSkein 47 (lamp 95) up)
     let a := atRun infoLoomChainCfg r s
     let j := obj r
     let w := arg r 0
     ready infoLoomChainCfg r s = true ∧ bit 25 w = true ∧ (chainE j a).state ≠ 0 ∧ (chainE j a).state ≠ 3) ∧
    (let r : Req := rq 15 [pack [(8, 1), (0, 47)], 20]
     let s : State := withSkein 47 (lamp 95) chained
     let a := atRun infoLoomChainCfg r s
     let j := obj r
     let w := arg r 0
     let k := fld 5 0 w
     let pdev := fld 9 8 w
     ready infoLoomChainCfg r s = true ∧ bit 25 w = false ∧ bit 26 w = false ∧ (chainE j a).state = 0 ∧ pdev ≠ a.deviceId ∧ (nth
     a.host.chain.views pdev).present = true ∧ k < 48 ∧ (defL k a).defined = true ∧ (defL k a).mode = 1 ∧ (defL k a).owner = 0 ∧ (defL k
     a).leg = false ∧ otherEntry j k a = false ∧ offL k a = true) ∧
    (let r : Req := rq 0 []
     let s : State := up
     ready infoLoomBudgetGet r s = true) := by
  refine ⟨?_, ?_, ?_, ?_, ?_, ?_⟩ <;> decide +kernel

theorem witness_InterpreterAndQspiEventsComplete :
    (let t : Nat := 0
     let port : Port := .qspi
     let frame : List Byte := [0xB7]
     let s : State := up
     interpreterUp (toL t s) = true ∧ portUp port (toL t s) = true ∧ frame ≠ []) ∧
    (let t : Nat := 0
     let frame : List Byte := []
     let s : State := up
     interpreterUp (toL t s) = true ∧ frame = []) ∧
    (let t : Nat := 0
     let e : Entry := inFlight 0 .waiting .none
     let o : OpInfo := infoPing
     let s : State := flying (inFlight 0 .waiting .none) up
     interpreterUp (toL t s) = true ∧ nextCommand (toL t s) = some e) ∧
    (let f : OutFrame := aFrame
     let rest : List OutFrame := []
     let s : State := modHost (fun h => { h with shifting := [aFrame] }) up
     hostUp s = true ∧ s.host.shifting = f :: rest) ∧
    (let port : Port := .mac1
     let f : OutFrame := aFrame
     let rest : List OutFrame := []
     let s : State := modPort (ixPort 2) (fun b => { b with output := [aFrame] }) up
     hostUp s = true ∧ (port = .mac0 ∨ port = .mac1) ∧ (portOf port s).output = f :: rest) ∧
    (let p : Nat := 1
     let f : OutFrame := aFrame
     let rest : List OutFrame := []
     let s : State := modPort (ixPort 4) (fun b => { b with output := [aFrame] }) chained
     hostUp s = true ∧ p < 2 ∧ (portOf (ixPort (3 + p)) s).output = f :: rest ∧ (plyOf p s).state = .up ∧ f.bytes.length ≤ (plyOf p
     s).credit) ∧
    (let e : Entry := inFlight 0x200 .aligned .none
     let s : State := flying (inFlight 0x200 .aligned .none) up
     s.host.flight.find? (fun x => x.stage == .aligned) = some e) ∧
    (let n : Nat := 3
     let t : Nat := 7
     let s : State := modSet 3 (fun x => { x with held := true, pending := true, armed := true, tick := 7 }) up
     nextLatch s = some (n, t, none)) ∧
    (let n : Nat := 3
     let t : Nat := 7
     let st : Nat := 0x300
     let s : State := modReel (fun r => { r with refused := [{ set := 3, tick := 7, status := 0x300 }] }) up
     nextLatch s = some (n, t, some st)) ∧
    (let t : Nat := 0
     let len : Nat := 20
     let data : List Byte := List.replicate 20 0
     let s : State := up
     let u := toL t s
     qspiUp s = true ∧ 20 ≤ len ∧ len ≤ 1052 ∧ len ≤ qspiFree u ∧ len ≤ data.length) ∧
    (let t : Nat := 0
     let len : Nat := 1053
     let s : State := up
     let u := toL t s
     qspiUp s = true ∧ ((len < 20 ∨ 1052 < len ∨ qspiFree u < len))) ∧
    (let t : Nat := 0
     let len : Nat := 20
     let data : List Byte := List.replicate 19 0
     let s : State := up
     let u := toL t s
     qspiUp s = true ∧ 20 ≤ len ∧ len ≤ 1052 ∧ len ≤ qspiFree u ∧ data.length < len) ∧
    (let s : State := up
     qspiUp s = true) ∧
    (let t : Nat := 0
     let s : State := up
     let u := toL t s
     qspiUp s = true ∧ (portOf .qspi u).output = []) ∧
    (let t : Nat := 0
     let s : State := modPort (ixPort 0) (fun b => { b with output := [aFrame] }) up
     let u := toL t s
     let f := aFrame
     let rest := []
     qspiUp s = true ∧ (portOf .qspi u).output = f :: rest) := by
  refine ⟨?_, ?_, ?_, ?_, ?_, ?_, ?_, ?_, ?_, ?_, ?_, ?_, ?_, ?_, ?_⟩ <;> decide +kernel

theorem witness_InterpreterAndQspiEventsComplete_loads :
    (let t : Nat := 0
     let e : Entry := inFlight 0 .waiting .none
     let o : OpInfo := infoPing
     let s : State := flying (inFlight 0 .waiting .none) up
     opInfo e.op = some o) := rfl

theorem witness_PortAndPlyEventsComplete :
    (let t : Nat := 0
     let m : Nat := 0
     let dst : Nat := 0
     let dport : Nat := 0xA3E8
     let vlan : Option Nat := none
     let data : List Byte := List.replicate 20 0
     let s : State := modMac 0 (fun m => { m with cfg := 0xA3E80001, link := true, rate := 2 }) up
     let u := toL t s
     hostUp s = true ∧ macUp m s = true ∧ dst = (macOf m s).ip.toNat ∧ dport = fld 31 16 (macOf m s).cfg ∧ vlanOk m vlan s = true ∧
     inputBytes (ixPort (1 + m)) u + data.length ≤ 32768) ∧
    (let t : Nat := 0
     let m : Nat := 0
     let dst : Nat := 0
     let dport : Nat := 0xA3E8
     let vlan : Option Nat := none
     let data : List Byte := [0]
     let s : State := modPort .mac0 (fun b => { b with input := [(default, List.replicate 32768 0)] }) (modMac 0 (fun m => { m with cfg := 0xA3E80001, link := true, rate := 2 }) up)
     let u := toL t s
     hostUp s = true ∧ macUp m s = true ∧ dst = (macOf m s).ip.toNat ∧ dport = fld 31 16 (macOf m s).cfg ∧ vlanOk m vlan s = true ∧ 32768 <
     inputBytes (ixPort (1 + m)) u + data.length) ∧
    (let m : Nat := 0
     let asked : Nat := 0
     let s : State := modMac 0 (fun m => { m with cfg := 0xA3E80001, link := true, rate := 2 }) up
     hostUp s = true ∧ macUp m s = true ∧ asked % 2 ^ 32 = (macOf m s).ip.toNat ∧ vlanOk m (askedTag asked) s = true) ∧
    (let m : Nat := 0
     let s : State := timed
     gptpOn m s = true ∧ s.host.gptp.lastSync = none) ∧
    (let t : Nat := 9
     let t0 : Nat := 8
     let m : Nat := 0
     let s : State := modGptp (fun g => { g with lastSync := some 8 }) timed
     gptpOn m s = true ∧ s.host.gptp.lastSync = some t0 ∧ t0 < t) ∧
    (let s : State := modGptp (fun g => { g with synced := true }) timed
     hostUp s = true ∧ s.host.gptp.synced = true) ∧
    (let m : Nat := 0
     let s : State := timed
     gptpOn m s = true) ∧
    (let m : Nat := 0
     let s : State := timed
     gptpOn m s = true) ∧
    (let p : Nat := 1
     let s : State := up
     plyRuns s = true ∧ p < 2 ∧ (plyOf p s).state ≠ .up) ∧
    (let p : Nat := 1
     let s : State := chained
     plyRuns s = true ∧ p < 2 ∧ (plyOf p s).state ≠ .down) ∧
    (let ty : Nat := 255
     let body : List Byte := List.replicate 1060 0
     ty < 256 ∧ body.length ≤ 1060) ∧
    (let p : Nat := 1
     let crc : List Byte := [0]
     let packet : List Byte := [0]
     let s : State := chained
     plyLive p s = true ∧ hostUp s = true ∧ readPly (packet ++ crc) = none) ∧
    (let p : Nat := 1
     let crc : List Byte := (plyBytes 1 [0xB8]).drop 5
     let packet : List Byte := (plyBytes 1 [0xB8]).take 5
     let s : State := chained
     let frame := [(0xB8 : Byte)]
     plyLive p s = true ∧ hostUp s = true ∧ readPly (packet ++ crc) = some (1, frame) ∧ frame.headD 0 = 0xB8#8) ∧
    (let p : Nat := 1
     let crc : List Byte := []
     let packet : List Byte := plyBytes 1 [0xB7]
     let s : State := chained
     let frame := [(0xB7 : Byte)]
     plyLive p s = true ∧ hostUp s = true ∧ readPly (packet ++ crc) = some (1, frame) ∧ frame.headD 0 ≠ 0xB8#8) ∧
    (let p : Nat := 1
     let s : State := chained
     plyLive p s = true) ∧
    (let p : Nat := 1
     let set : Nat := 3
     let s : State := middle
     plyLive p s = true ∧ set < 4 ∧ s.deviceId ≠ 0) ∧
    (let d : Nat := 1
     let h : Nat := 9
     let s : State := chained
     (viewDev d s).heard = some h ∧ plyRuns s = true ∧ (viewDev d s).present = true ∧ (viewDev d s).parked = false) := by
  refine ⟨?_, ?_, ?_, ?_, ?_, ?_, ?_, ?_, ?_, ?_, ?_, ?_, ?_, ?_, ?_, ?_, ?_⟩ <;> decide +kernel

theorem witness_HeartbeatAndMirrorComplete :
    (let h : Beat := beat 1 2 false
     let s : State := modPly 1 (fun x => { x with orderErr := true }) chained
     plyLive h.p s = true ∧ h.dev ≠ s.deviceId ∧ h.dev < 4 ∧ h.relayed = false ∧ h.dev ≠ facing h.p s ∧ (plyOf h.p s).orderErr = true) ∧
    (let h : Beat := beat 1 2 false
     let s : State := chained
     plyLive h.p s = true ∧ h.dev ≠ s.deviceId ∧ h.dev < 4 ∧ h.relayed = false ∧ h.dev ≠ facing h.p s ∧ (plyOf h.p s).orderErr = false) ∧
    (let h : Beat := beat 1 3 true
     let s : State := middle
     plyLive h.p s = true ∧ h.dev ≠ s.deviceId ∧ h.dev < 4 ∧ h.relayed = true) ∧
    (let h : Beat := beat 1 1 false
     let s : State := chained
     plyLive h.p s = true ∧ h.dev ≠ s.deviceId ∧ h.dev < 4 ∧ h.relayed = false ∧ h.dev = facing h.p s) ∧
    (let s : State := up
     plyRuns s = true) ∧
    (let dev : Nat := 1
     let k : Nat := 47
     let j : Nat := 15
     let s : State := withEntry 15 47 3 false chained
     hostUp s = true ∧ chainOf k s = some j ∧ (chainE j s).pdev = dev ∧ 2 ≤ (chainE j s).state ∧ plyToward dev s = true) ∧
    (let s : State := chained
     hostUp s = true) := by
  refine ⟨?_, ?_, ?_, ?_, ?_, ?_, ?_⟩ <;> decide +kernel

theorem witness_LinkStateEventsComplete :
    (let t : Nat := 0
     let s : State := link .training up
     let u := toL t s
     let v := settleTime (declareSilence (min u.pNow (u.pdie.lastDown + 2000)) u)
     s.weft.state = .training ∧ s.pdie.sup ≠ .reset ∧ s.pdie.sup ≠ .asleep ∧ ldieUp (toL t s) = true ∧ s.clk.step ≠ .started ∧ v.clk.step ≠
     .started) ∧
    (let t0 : Nat := 3000000
     let s : State := modWeft (fun w => { w with trainStart := some 3000000 }) (link .training up)
     s.weft.trainStart = some t0 ∧ s.weft.state = .training) ∧
    (let t : Nat := 3000001
     let s : State := modWeft (fun w => { w with retryAt := some 3000001 }) (link .down up)
     s.weft.retryAt = some t ∧ s.weft.state = .down ∧ ldieUp s = true) ∧
    (let m : MarkAt := {}
     let p : Nat := markPayload 0 5 0
     let s : State := link .adopt up
     upOpen s = true ∧ s.weft.state = .adopt ∧ idleDueUp (toL m.t s) = false ∧ cellOutWaits (toL m.t s) = false ∧ readFrame false true
     m.line (frameBytes .mark (markPayload 0 5 0)) = some (.mark, p) ∧ pfld 41 38 p = 5) ∧
    (let t : Nat := 3002000
     let s : State := up
     let u := toP t s
     s.pdie.power = 0 ∧ s.pdie.silentAt = none ∧ (s.pdie.sup = .linked ∨ s.pdie.sup = .failSafe) ∧ u.pdie.lastDown + 2000 ≤ u.pNow) ∧
    (let t : Nat := 3002000
     let s : State := up
     s.weft.state = .live ∧ s.weft.lastUp + 2000 ≤ (toL t s).now ∧ ldieUp (toL t s) = true) ∧
    (let e : Nat := 3000001
     let s : State := modP (fun p => { p with sup := .cold, expiry := some 3000001 }) up
     s.pdie.expiry = some e ∧ (s.pdie.sup = .cold ∨ s.pdie.sup = .holdover ∨ s.pdie.sup = .woken)) ∧
    (let t : Nat := 0
     let p : Nat := configPayload up.weft.ack 0x3FE 0
     let e : LineErr := {}
     let c : CfgOut := { id := 7, item := .fsForce }
     let s : State := config .fsForce none
     s.weft.cfg.find? (fun c => c.item == .fsForce) = some c ∧ s.weft.state = .live ∧ s.pdie.sup ≠ .reset ∧ s.pdie.sup ≠ .asleep ∧
     (s.faults.halted = true ∨ (setPointWaits (toL t s) = false ∧ idleDueDown (toL t s) = false)) ∧ readFrame true true e (frameBytes
     .config (configPayload s.weft.ack 0x3FE 0)) = some (.config, p)) ∧
    (let m : MarkAt := {}
     let p : Nat := markPayload up.weft.ack 4 0
     let s : State := modWeft (fun w => { w with adopting := true, readSeen := allSlots, refSeen := allSlots }) (link .adopt up)
     downOpen s = true ∧ s.weft.state = .adopt ∧ s.weft.adopting = true ∧ s.weft.readSeen = allSlots ∧ s.weft.refSeen = allSlots ∧
     idleDueDown (toL m.t s) = false ∧ ldieUp (toL m.t s) = true ∧ s.clk.step ≠ .started ∧ readFrame true true m.line (frameBytes .mark
     (markPayload s.weft.ack 4 0)) = some (.mark, p) ∧ pfld 41 38 p = 4) := by
  refine ⟨?_, ?_, ?_, ?_, ?_, ?_, ?_, ?_, ?_⟩ <;> decide +kernel

theorem witness_WeftFrameEventsComplete :
    (let down : Bool := true
     let odd : Bool := true
     let ty : FrameType := .idle
     ty.permitted down odd = true) ∧
    (let t : Nat := 0
     let slot : Nat := 196
     let p : Nat := slotPayload 196 (refreshContent 196 up)
     let e : LineErr := {}
     let s : State := up
     let v := gotDown t false p (noteRefresh slot (toL t s))
     downOpen s = true ∧ s.weft.state = .live ∧ readFrame true false e (frameBytes .refresh (slotPayload slot (refreshContent slot (toL t
     s)))) = some (.refresh, p) ∧ obeys v = true) ∧
    (let t : Nat := 0
     let k : Nat := 47
     let p : Nat := setpointPayload up.weft.ack 47 (skL 47 lit).sp (capOf 47 lit)
     let e : LineErr := {}
     let s : State := modSkL 47 (fun x => { x with send := true }) lit
     downOpen s = true ∧ s.weft.state = .live ∧ (skL k s).send = true ∧ idleDueDown (toL t s) = false ∧ readFrame true true e (frameBytes
     .setpoint (setpointPayload s.weft.ack k (skL k s).sp (pairCap k (toL t s)))) = some (.setpoint, p)) ∧
    (let t : Nat := 0
     let p : Nat := configPayload up.weft.ack 7 0
     let e : LineErr := {}
     let c : CfgOut := { id := 7, item := .hold 1000 }
     let s : State := config (.hold 1000) none
     let u := toL t s
     let v := gotDown t true p (configDown c (modCfgOut c.id (fun x => { x with sent := some u.now }) u))
     downOpen s = true ∧ s.weft.state = .live ∧ s.weft.cfg.find? (fun c => c.sent.isNone && c.item != .fsForce && mayGo s.weft.cfg c) = some
     c ∧ setPointWaits u = false ∧ idleDueDown u = false ∧ readFrame true true e (frameBytes .config (c.payload s.weft.ack)) = some
     (.config, p) ∧ pfld 41 32 p = c.word.1 ∧ pfld 31 0 p = c.word.2 ∧ obeys v = true) ∧
    (let c : CfgOut := { id := 7, item := .hold 1000, sent := some 5 }
     let s : State := config (.hold 1000) (some 5)
     s.weft.cfg.find? (fun c => c.sent.isSome) = some c) ∧
    (let t : Nat := 0
     let p : Nat := markPayload up.weft.ack 2 0
     let e : LineErr := {}
     let s : State := up
     let v := gotDown t true p (toL t s)
     downOpen s = true ∧ markMay (toL t s) = true ∧ readFrame true true e (frameBytes .mark (markPayload s.weft.ack 2 0)) = some (.mark, p)
     ∧ pfld 41 38 p = 2 ∧ obeys v = true) ∧
    (let m : MarkAt := {}
     let n : Nat := 95
     let p : Nat := markPayload up.weft.ack 3 95
     let s : State := modLoom (fun l => { l with releases := [95] }) up
     let v := gotDown m.t true p (toL m.t s)
     downOpen s = true ∧ s.weft.state = .live ∧ s.loom.releases.contains n = true ∧ markMay (toL m.t s) = true ∧ readFrame true true m.line
     (frameBytes .mark (markPayload s.weft.ack 3 n)) = some (.mark, p) ∧ pfld 41 38 p = 3 ∧ obeys v = true) ∧
    (let t : Nat := 0
     let p : Nat := idlePayload up.weft.ack 3000000
     let e : LineErr := {}
     let s : State := up
     let u := toL t s
     downOpen s = true ∧ (idleDueDown u = true ∨ (setPointWaits u = false ∧ configWaits u = false ∧ markWaits u = false)) ∧ readFrame true
     true e (frameBytes .idle (idlePayload s.weft.ack u.now)) = some (.idle, p)) ∧
    (let t : Nat := 0
     let slot : Nat := 198
     let e : LineErr := { flip := 1 }
     let s : State := up
     downOpen s = true ∧ s.weft.state = .live ∧ readFrame true false e (frameBytes .refresh (slotPayload slot (refreshContent slot (toL t
     s)))) = none) ∧
    (let t : Nat := 0
     let slot : Nat := 198
     let p : Nat := slotPayload 198 0
     let e : LineErr := {}
     let s : State := up
     upOpen s = true ∧ s.weft.state = .live ∧ cellOutWaits (toL t s) = false ∧ readFrame false false e (frameBytes .readback (slotPayload
     slot 0)) = some (.readback, p)) ∧
    (let t : Nat := 0
     let bank : Nat := 11
     let mask : Nat := 128
     let cause : Nat := 1
     let tick : Nat := 5
     let p : Nat := cellOutPayload 3 11 128 1 5
     let e : LineErr := {}
     let u : UpFrame := { seq := 3, body := .cellOut 11 128 1 5 }
     let s : State := upWaits (.cellOut 11 128 1 5) none
     let v := bump (ctr 0x09 6) (markSent u.seq (toL t s))
     s.pdie.up.find? (fun u => u.sent.isNone && u.isCellOut) = some u ∧ u.body = .cellOut bank mask cause tick ∧ (s.weft.state = .live ∨
     s.weft.state = .adopt) ∧ upOpen v = true ∧ readFrame false false e (frameBytes .cellOut (cellOutPayload u.seq bank mask cause tick)) =
     some (.cellOut, p)) ∧
    (let t : Nat := 0
     let p : Nat := eventPayload 3 1 0
     let e : LineErr := {}
     let u : UpFrame := { seq := 3, body := .echo 1 }
     let s : State := upWaits (.echo 1) none
     let v := markSent u.seq (toL t s)
     s.pdie.up.find? (fun u => u.sent.isNone && !u.isCellOut) = some u ∧ u.isCellOut = false ∧ s.weft.state = .live ∧ cellOutWaits (toL t s)
     = false ∧ unacked (toL t s) < 32 ∧ idleDueUp (toL t s) = false ∧ upOpen v = true ∧ readFrame false true e (frameBytes .event
     (eventPayload u.seq u.body.kind 0)) = some (.event, p)) ∧
    (let t : Nat := 0
     let p : Nat := idlePayload 0 3000000
     let e : LineErr := {}
     let s : State := up
     let u := toL t s
     upOpen u = true ∧ cellOutWaits u = false ∧ (idleDueUp u = true ∨ (eventWaits u = false ∧ startMarkWaits u = false)) ∧ readFrame false
     true e (frameBytes .idle (idlePayload 0 u.pNow)) = some (.idle, p)) ∧
    (let t : Nat := 0
     let u : UpFrame := { seq := 3, body := .echo 1, sent := some 2999920 }
     let s : State := upWaits (.echo 1) (some 2999920)
     resendDue (toL t s) = some u ∧ s.weft.state = .live ∧ (u.isCellOut = true ∨ (cellOutWaits (toL t s) = false ∧ idleDueUp (toL t s) =
     false))) ∧
    (let t : Nat := 0
     let slot : Nat := 198
     let e : LineErr := { flip := 1 }
     let s : State := up
     upOpen s = true ∧ cellOutWaits (toL t s) = false ∧ readFrame false false e (frameBytes .readback (slotPayload slot 0)) = none) ∧
    (let w : Nat := 47
     let c : FsCopy := {}
     let s : State := modP (fun p => { p with fs := upd p.fs 47 (fun x => { x with writing := some {} }) }) up
     s.pdie.sup ≠ .reset ∧ w < 48 ∧ (nth s.pdie.fs w).writing = some c) ∧
    (let v : Nat := 1000
     let s : State := modP (fun p => { p with fsHoldNew := some 1000 }) up
     s.pdie.sup ≠ .reset ∧ s.pdie.fsHoldNew = some v) ∧
    (let p : Nat := 1
     let v : Bool := true
     let s : State := modP (fun p => { p with fsPortNew := put p.fsPortNew 1 (some true) }) up
     s.pdie.sup ≠ .reset ∧ p < 2 ∧ nth s.pdie.fsPortNew p = some v) := by
  refine ⟨?_, ?_, ?_, ?_, ?_, ?_, ?_, ?_, ?_, ?_, ?_, ?_, ?_, ?_, ?_, ?_, ?_, ?_⟩ <;> decide +kernel

theorem witness_TripAndInterlockEventsComplete :
    (let t : Nat := 0
     let n : Nat := 95
     let current : Nat := 65535
     let k : Nat := 47
     let s : State := modSkP 47 (fun x => { x with sp := { x.sp with duty := 1 } }) lit
     let u := presentCell n (toP t s)
     skeinOfCellP n u = some k ∧ threshold n k (cellP n u).lsOn u < current ∧ ((cellP n u).hsOn = true ∨ (cellP n u).lsOn = true)) ∧
    (let t : Nat := 0
     let n : Nat := 95
     let k : Nat := 47
     let s : State := modCell 95 (fun c => { c with hsOn := true }) lit
     let u := presentCell n (toP t s)
     skeinOfCellP n u = some k) ∧
    (let n : Nat := 95
     let s : State := lit
     n < 96 ∧ (cellP n s).thermal = false) ∧
    (let n : Nat := 95
     n < 96) ∧
    (let t : Nat := 0
     let n : Nat := 95
     let s : State := up
     let u := cellGoesOut n 7 (fun c => { c with gateStuck := true }) (toP t s)
     n < 96 ∧ (cellP n s).gateStuck = false ∧ skeinOfCellP n u = none) ∧
    (let t : Nat := 0
     let n : Nat := 95
     let s : State := lit
     let u := cellGoesOut n 7 (fun c => { c with gateStuck := true }) (toP t s)
     let k := 47
     n < 96 ∧ (cellP n s).gateStuck = false ∧ skeinOfCellP n u = some k) ∧
    (let n : Nat := 95
     let s : State := lit
     n < 96 ∧ (cellP n s).pumpLow = false) ∧
    (let k : Nat := 47
     let e : Nat := 3000040
     let d : Drive := .high
     let s : State := modSkP 47 (fun x => { x with change := some (.high, some 3000040) }) lit
     (skP k s).change = some (d, some e)) ∧
    (let k : Nat := 47
     let e : Nat := 3000040
     let s : State := modSkP 47 (fun x => { x with brakeEnd := some 3000040 }) lit
     (skP k s).brakeEnd = some e) ∧
    (let k : Nat := 47
     let h : HandP := { outgoing := 1, since := 3000000 }
     let s : State := modSkP 47 (fun x => { x with hand := some { outgoing := 1, since := 3000000 } }) lit
     (skP k s).hand = some h ∧ (slotsP k s).any (fun a => (actP a s).prof.chopper == k && ((actP a s).phase == 2 || (actP a s).phase == 3))
     = false) := by
  refine ⟨?_, ?_, ?_, ?_, ?_, ?_, ?_, ?_, ?_, ?_⟩ <;> decide +kernel

theorem witness_RetryEventsComplete :
    (let t : Nat := 0
     let n : Nat := 95
     let k : Nat := 47
     let s : State := modCell 95 (fun c => { c with thermal := true }) lit
     let u := leavePause n (modCell n (fun c => { c with thermal := false }) (presentCell n (toP t s)))
     skeinOfCellP n u = some k) ∧
    (let t : Nat := 0
     let n : Nat := 95
     let k : Nat := 47
     let s : State := modCell 95 (fun c => { c with pumpLow := true }) lit
     let u := modCell n (fun c => { c with pumpLow := false }) (presentCell n (toP t s))
     skeinOfCellP n u = some k) ∧
    (let n : Nat := 95
     let e : Nat := 3000001
     let s : State := modCell 95 (fun c => { c with ladder := .pausing, pauseEnd := some 3000001 }) lit
     (cellP n s).pauseEnd = some e ∧ silent s = false) ∧
    (let n : Nat := 95
     let p : Nat × Nat := (95, 4)
     let s : State := modLoom (fun l => { l with pauses := [(95, 4)] }) lit
     s.loom.pauses.find? (fun p => p.1 == n) = some p) ∧
    (let t : Nat := 0
     let n : Nat := 95
     let k : Nat := 47
     let s : State := modCell 95 (fun c => { c with cleanTicks := 200000000 }) lit
     let u := accrue k (toP t s)
     skeinOfCellP n (toP t s) = some k ∧ (cellP n u).ladder = .ready ∧ fld 15 8 u.pdie.prot.ladder * 20000000 ≤ (cellP n u).cleanTicks) ∧
    (let b : Nat := 11
     let s : State := up
     b < 12 ∧ bit 2 s.pdie.prot.ctl = true ∧ (nth s.pdie.banks b).droop = false) ∧
    (let b : Nat := 11
     let s : State := modP (fun p => { p with banks := upd p.banks 11 (fun x => { x with droop := true }) }) up
     (nth s.pdie.banks b).droop = true) ∧
    (let b : Nat := 11
     let e : Nat := 3000001
     let s : State := modP (fun p => { p with banks := upd p.banks 11 (fun x => { x with suspended := some 3000001 }) }) up
     (nth s.pdie.banks b).suspended = some e) ∧
    (let k : Nat := 47
     let t0 : Nat := 2999600
     let s : State := modSkL 47 (fun x => { x with reports := [{ cell := 95, cause := 1, tick := 2999600 }] }) lit
     ((skL k s).reports.map (fun r => r.tick)).min? = some t0 ∧ linkLive s = true) ∧
    (let k : Nat := 47
     let e : Nat := 3000001
     let s : State := modSkP 47 (fun x => { x with retryEnd := some 3000001 }) lit
     (skP k s).retryEnd = some e) := by
  refine ⟨?_, ?_, ?_, ?_, ?_, ?_, ?_, ?_, ?_, ?_⟩ <;> decide +kernel

theorem witness_SenseAndManagementEventsComplete :
    (let t : Nat := 3200000
     let k : Nat := 47
     let s : State := modP (fun p => { p with prot := { p.prot with diag := put p.prot.diag 47 1 } }) lit
     let u := toP t s
     let x := skP k s
     x.defn.defined = true ∧ x.defn.leg = false ∧ (x.defn.mode = 1 ∨ x.defn.mode = 2) ∧ bit 0 (nth s.pdie.prot.diag k) = true ∧ offP k s =
     true ∧ x.offSince + 200000 ≤ u.pNow ∧ (s.pdie.sup = .linked ∨ s.pdie.sup = .holdover ∨ s.pdie.sup = .failSafe)) ∧
    (let n : Nat := 95
     let s : State := up
     n < 96 ∧ skeinOfCellP n s = none ∧ (cellP n s).hsOn = false ∧ (cellP n s).lsOn = false) ∧
    (let t : Nat := 0
     let n : Nat := 95
     let k : Nat := 47
     let s : State := lit
     let u := changeSkP k id (toP t s)
     n < 96 ∧ skeinOfCellP n s = some k ∧ (cellP n u).hsOn = false ∧ (cellP n u).lsOn = false) ∧
    (let s : State := up
     s.pdie.power ≠ 3 ∧ s.pdie.sup ≠ .reset) ∧
    (let t : Nat := 30000000
     let k : Nat := 47
     let currents : List (Option Nat) := List.replicate 64 (some 100)
     let supplies : List Nat := List.replicate 64 13000
     let clean : Bool := true
     let s : State := modSkP 47 (fun x => { x with print := some true, windowStart := 2000000 }) lit
     let u := toP t s
     (skP k s).print = some clean ∧ (defP k s).defined = true ∧ currents.length = 64 ∧ supplies.length = 64 ∧ (skP k s).printStart + (defP
     (leaderP k s) s).inrushTicks ≤ u.pNow) ∧
    (let k : Nat := 47
     let e : Nat := 3000001
     let s : State := modSkP 47 (fun x => { x with inrushEnd := some 3000001 }) lit
     (skP k s).inrushEnd = some e) ∧
    (let m : Nat := 3
     let s : State := up
     s.now ≤ m * mgmtTicks ∧ ldieUp s = true ∧ s.spindle.lastPass ≠ some m) ∧
    (let k : Nat := 47
     let s : State := lit
     passesRun s = true ∧ linkLive s = true ∧ (defL k s).defined = true ∧ groupOff 0x0D s = false ∧ (skL k s).hand = none) ∧
    (let s : State := modSkL 47 (fun x => { x with shed := true, loomCfg := pack [(16, 1)] }) (modLoom (fun l => { l with coolPasses := 200, shedGroup := 1 }) (withSkein 47 { lamp 95 with period := pack [(16, 99), (0, 999)] } up))
     let p := 1
     200 ≤ s.loom.coolPasses ∧ passesRun s = true ∧ linkLive s = true ∧ liftNext s = some p) ∧
    (let s : State := modLoom (fun l => { l with coolPasses := 200 }) lit
     200 ≤ s.loom.coolPasses ∧ passesRun s = true ∧ linkLive s = true ∧ liftNext s = none) ∧
    (let j : Nat := 15
     let s : State := modChain 15 (fun x => { x with give := 20, count := some 20 }) (withEntry 15 47 3 true (withSkein 47 (lamp 95) chained))
     passesRun s = true ∧ linkLive s = true ∧ (chainE j s).state = 3 ∧ (chainE j s).secondary = true ∧ (chainE j s).giving = 0 ∧ groupOff
     0x0D s = false ∧ giveCounted (chainE j s) = true) ∧
    (let t : Nat := 0
     let j : Nat := 15
     let s : State := modChain 15 (fun x => { x with give := 20, count := some 19, giveNow := true }) (withEntry 15 47 3 true (withSkein 47 (lamp 95) chained))
     passesRun s = true ∧ linkLive s = true ∧ (chainE j s).state = 3 ∧ (chainE j s).secondary = true ∧ (chainE j s).giving = 0 ∧ groupOff
     0x0D s = false ∧ giveCounted (chainE j s) = false ∧ giveNowSeen (chainE j s) (toL t s) = true) ∧
    (let j : Nat := 15
     let s : State := modChain 15 (fun x => { x with give := 0x10000, hotPasses := 20 }) (withEntry 15 47 2 false (withSkein 47 (lamp 95) chained))
     passesRun s = true ∧ linkLive s = true ∧ (chainE j s).state = 2 ∧ (chainE j s).secondary = false ∧ bit 16 (chainE j s).give = true ∧
     (chainE j s).swapping = 0 ∧ 20 ≤ (chainE j s).hotPasses ∧ groupOff 0x0D s = false ∧ (chainE j s).lastSwap = none) := by
  refine ⟨?_, ?_, ?_, ?_, ?_, ?_, ?_, ?_, ?_, ?_, ?_, ?_, ?_⟩ <;> decide +kernel

theorem witness_ActuatorEventsComplete :
    (let a : Nat := 15
     let s : State := withSlot 15 (fun x => { x with prof := coil, phase := 2 }) (fun x => x) (withSkein 47 { lamp 95 with cfg := (lamp 95).cfg ||| 0x80000 } up)
     (actP a s).phase = 2) ∧
    (let a : Nat := 15
     let e : Nat := 3000001
     let s : State := withSlot 15 (fun x => { x with prof := coil, phase := 3 }) (fun x => { x with prof := coil, phase := 3, holdEnd := some 3000001 }) (withSkein 47 { lamp 95 with cfg := (lamp 95).cfg ||| 0x80000 } up)
     (actL a s).holdEnd = some e ∧ linkLive s = true ∧ (actL a s).phase = 3) ∧
    (let a : Nat := 15
     let s : State := withSlot 15 (fun x => { x with prof := coil, phase := 4 }) (fun x => x) (withSkein 47 { lamp 95 with cfg := (lamp 95).cfg ||| 0x80000 } up)
     (actP a s).phase = 4) ∧
    (let a : Nat := 15
     let e : Nat := 3000001
     let s : State := withSlot 15 (fun x => { x with prof := coil, phase := 3, offEnd := some 3000001 }) (fun x => x) (withSkein 47 { lamp 95 with cfg := (lamp 95).cfg ||| 0x80000 } up)
     (actP a s).offEnd = some e) ∧
    (let t : Nat := 0
     let a : Nat := 15
     let sample : Nat := 100
     let s : State := withSlot 15 (fun x => { x with prof := coil, phase := 2, on := true, rise := true }) (fun x => x) (withSkein 47 { lamp 95 with cfg := (lamp 95).cfg ||| 0x80000 } up)
     let u := toP t s
     let x := actP a u
     let p := x.prof
     (x.phase = 2 ∨ x.phase = 3) ∧ x.on = true ∧ (if x.phase = 2 then p.iPeak else p.iHold) ≤ sample ∧ (x.rise = true ∨ x.ivStart + 250 ≤
     u.pNow)) ∧
    (let c : Nat := 4
     let s : State := modCls 4 (fun x => { x with active := true }) up
     ldieUp s = true ∧ c < 5 ∧ (clsOf c s).active = true) ∧
    (let m : Nat := 4
     let s : State := modLight (fun l => { l with extEnd := some 4 }) up
     s.light.extEnd = some m ∧ hostUp s = true) ∧
    (let k : Nat := 11
     let m : Nat := 4
     let s : State := modCtl 11 (fun x => { x with cfgEnd := some 4 }) up
     (canCtl k s).cfgEnd = some m ∧ hostUp s = true) ∧
    (let s : State := modUpd (fun u => { u with state := 1, held := true }) up
     s.store.upd.held = true ∧ receiving s = true ∧ hostUp s = true) ∧
    (let s : State := modStore (fun x => { x with trialT := 1, boot := { x.boot with trial := true }, upd := { x.upd with state := 4 } }) up
     s.store.upd.state = 4 ∧ s.store.boot.trial = true ∧ s.store.trialT ≠ 0 ∧ s.ldie = .running) ∧
    (let t : Nat := 4
     let s : State := modRange (fun x => { x with lockEnd := some 4 }) up
     s.range.lockEnd = some t ∧ ldieUp s = true) := by
  refine ⟨?_, ?_, ?_, ?_, ?_, ?_, ?_, ?_, ?_, ?_, ?_⟩ <;> decide +kernel

theorem witness_LightEventsComplete :
    (let k : Nat := 47
     let f : Fade := { l0 := 0, l1 := 65535, start := 3000000, dur := 400000, last := 3000000 }
     let s : State := modLightSk 47 (fun x => { x with fade := some ({ l0 := 0, l1 := 65535, start := 3000000, dur := 400000, last := 3000000 }) }) lit
     let t := max (s.now / 200000) (f.last / 200000 + 1) * 200000
     (lightSk k s).fade = some f ∧ linkLive s = true ∧ s.clk.power ≠ 2 ∧ t < f.start + f.dur) ∧
    (let k : Nat := 47
     let f : Fade := { l0 := 0, l1 := 65535, start := 3000000, dur := 20000, last := 3000000 }
     let s : State := modLightSk 47 (fun x => { x with fade := some ({ l0 := 0, l1 := 65535, start := 3000000, dur := 20000, last := 3000000 }) }) lit
     (lightSk k s).fade = some f ∧ linkLive s = true ∧ s.clk.power ≠ 2) ∧
    (let p : Nat := 1
     let s : State := port1 0x00F40001 id
     let x := portP p s
     p < 2 ∧ portLit (portP p s) s = true ∧ onDeviceTime x = true ∧ (x.sync ≠ 1 ∨ x.held = false)) ∧
    (let p : Nat := 1
     let s : State := port1 0x04F40001 (fun x => { x with held := true })
     let x := portP p s
     p < 2 ∧ portLit (portP p s) s = true ∧ (onDeviceTime x = false ∨ x.sync = 1) ∧ x.held = true) ∧
    (let p : Nat := 1
     let e : Nat := 3000001
     let s : State := port1 0x00F40001 (fun x => { x with copyEnd := some 3000001 })
     (portP p s).copyEnd = some e) ∧
    (let p : Nat := 1
     let s : State := port1 0x04F40001 id
     p < 2 ∧ (portP p s).sync = 1 ∧ (portP p s).lsyncLost = false ∧ portLit (portP p s) s = true) ∧
    (let t : Nat := 0
     let p : Nat := 1
     let r : Nat := 15
     let s : State := port1 0x00F40001 lastRow
     let u := toP t s
     let x := portP p u
     p < 2 ∧ r < 16 ∧ portLit x u = true ∧ rowOn x u.pNow = some r) ∧
    (let t : Nat := 0
     let p : Nat := 1
     let c : Nat := 47
     let s : State := port1 0x00F40001 id
     let u := toP t s
     p < 2 ∧ c < 48 ∧ portLit (portP p u) u = true ∧ (portP p u).colOpen.testBit c = false) ∧
    (let t : Nat := 0
     let p : Nat := 1
     let c : Nat := 47
     let s : State := port1 0x00F40001 lastRow
     let u := toP t s
     let x := portP p u
     p < 2 ∧ c < 48 ∧ portLit x u = true ∧ (sinking x u.pNow).contains c = true) := by
  refine ⟨?_, ?_, ?_, ?_, ?_, ?_, ?_, ?_, ?_⟩ <;> decide +kernel

theorem witness_WhorlInstructionsComplete :
    (let e : Nat := 15
     let s : State := whorl (pack [(27, 1), (20, 47), (16, 0), (0, 65535)]) .running
     let w := fetched e s
     whorlOpen e s = true ∧ fld 31 27 w = 0x01) ∧
    (let e : Nat := 15
     let s : State := whorl (pack [(27, 2), (20, 47), (16, 7), (0, 0)]) .running
     let w := fetched e s
     whorlOpen e s = true ∧ fld 31 27 w = 0x02) ∧
    (let e : Nat := 15
     let s : State := whorl (pack [(27, 3), (20, 47), (16, 7), (0, 65535)]) .running
     let w := fetched e s
     whorlOpen e s = true ∧ fld 31 27 w = 0x03 ∧ fld 26 20 w < 0x30) ∧
    (let e : Nat := 15
     let s : State := whorl (pack [(27, 3), (20, 48), (16, 7), (0, 65535)]) .running
     let w := fetched e s
     whorlOpen e s = true ∧ fld 31 27 w = 0x03 ∧ 0x30 ≤ fld 26 20 w) ∧
    (let e : Nat := 15
     let s : State := whorl (pack [(27, 4), (20, 0), (16, 7), (0, 65535)]) .running
     let w := fetched e s
     whorlOpen e s = true ∧ fld 31 27 w = 0x04 ∧ fld 26 20 w = 0) ∧
    (let e : Nat := 15
     let s : State := whorl (pack [(27, 5), (20, 0), (16, 7), (0, 65535)]) .running
     let w := fetched e s
     whorlOpen e s = true ∧ fld 31 27 w = 0x05 ∧ fld 26 20 w = 0) ∧
    (let e : Nat := 15
     let s : State := whorl (pack [(27, 6), (20, 0), (16, 15), (0, 65535)]) .running
     let w := fetched e s
     whorlOpen e s = true ∧ fld 31 27 w = 0x06 ∧ fld 26 20 w = 0) ∧
    (let e : Nat := 15
     let s : State := whorl (pack [(27, 7), (20, 0), (16, 7), (0, 0)]) .running
     let w := fetched e s
     whorlOpen e s = true ∧ fld 31 27 w = 0x07 ∧ fld 26 20 w = 0) ∧
    (let e : Nat := 15
     let s : State := whorl (pack [(27, 8), (20, 0), (16, 0), (0, 1)]) .running
     let w := fetched e s
     whorlOpen e s = true ∧ fld 31 27 w = 0x08 ∧ fld 26 20 w = 0 ∧ fld 19 0 w ≠ 0) ∧
    (let e : Nat := 15
     let s : State := whorl (pack [(27, 8), (20, 0), (16, 0), (0, 0)]) .running
     let w := fetched e s
     whorlOpen e s = true ∧ fld 31 27 w = 0x08 ∧ fld 26 20 w = 0 ∧ fld 19 0 w = 0) ∧
    (let e : Nat := 15
     let s : State := whorl (pack [(27, 4), (20, 1), (16, 0), (0, 0)]) .running
     let w := fetched e s
     whorlOpen e s = true ∧ fld 26 20 w ≠ 0 ∧ fld 31 27 w = 0x04) ∧
    (let e : Nat := 15
     let s : State := whorl (pack [(27, 5), (20, 1), (16, 0), (0, 0)]) .running
     let w := fetched e s
     whorlOpen e s = true ∧ fld 26 20 w ≠ 0 ∧ fld 31 27 w = 0x05) ∧
    (let e : Nat := 15
     let s : State := whorl (pack [(27, 6), (20, 1), (16, 0), (0, 0)]) .running
     let w := fetched e s
     whorlOpen e s = true ∧ fld 26 20 w ≠ 0 ∧ fld 31 27 w = 0x06) ∧
    (let e : Nat := 15
     let s : State := whorl (pack [(27, 7), (20, 1), (16, 0), (0, 0)]) .running
     let w := fetched e s
     whorlOpen e s = true ∧ fld 26 20 w ≠ 0 ∧ fld 31 27 w = 0x07) ∧
    (let e : Nat := 15
     let s : State := whorl (pack [(27, 8), (20, 1), (16, 0), (0, 0)]) .running
     let w := fetched e s
     whorlOpen e s = true ∧ fld 26 20 w ≠ 0 ∧ fld 31 27 w = 0x08) ∧
    (let e : Nat := 15
     let s : State := whorl (pack [(27, 0), (20, 0), (16, 0), (0, 0)]) .running
     let w := fetched e s
     whorlOpen e s = true ∧ fld 31 27 w = 0x00 ∧ fld 26 20 w = 0) ∧
    (let e : Nat := 15
     let s : State := whorl (pack [(27, 9), (20, 0), (16, 7), (0, 1023)]) .running
     let w := fetched e s
     whorlOpen e s = true ∧ fld 31 27 w = 0x09 ∧ fld 26 20 w = 0) ∧
    (let e : Nat := 15
     let s : State := whorl (pack [(27, 10), (20, 0), (16, 0), (0, 1023)]) .running
     let w := fetched e s
     whorlOpen e s = true ∧ fld 31 27 w = 0x0A ∧ fld 26 20 w = 0) ∧
    (let e : Nat := 15
     let s : State := whorl (pack [(27, 11), (20, 0), (16, 0), (0, 47)]) .running
     let w := fetched e s
     whorlOpen e s = true ∧ fld 31 27 w = 0x0B ∧ fld 26 20 w = 0 ∧ fld 5 0 w ≤ 47) ∧
    (let e : Nat := 15
     let s : State := whorl (pack [(27, 11), (20, 0), (16, 0), (0, 48)]) .running
     let w := fetched e s
     whorlOpen e s = true ∧ fld 31 27 w = 0x0B ∧ fld 26 20 w = 0 ∧ 47 < fld 5 0 w) ∧
    (let e : Nat := 15
     let s : State := whorl (pack [(27, 12), (20, 63), (16, 0), (0, 0)]) .running
     let w := fetched e s
     whorlOpen e s = true ∧ fld 31 27 w = 0x0C ∧ (fld 26 20 w < 0x40 ∨ 0x50 ≤ fld 26 20 w)) ∧
    (let e : Nat := 15
     let s : State := whorl (pack [(27, 12), (20, 79), (16, 0), (0, 0)]) .running
     let w := fetched e s
     whorlOpen e s = true ∧ fld 31 27 w = 0x0C ∧ 0x40 ≤ fld 26 20 w ∧ fld 26 20 w < 0x50) ∧
    (let e : Nat := 15
     let s : State := whorl (pack [(27, 13), (20, 0), (16, 0), (0, 0)]) .running
     let w := fetched e s
     whorlOpen e s = true ∧ fld 31 27 w = 0x0D ∧ fld 26 20 w = 0) ∧
    (let e : Nat := 15
     let s : State := whorl (pack [(27, 14), (20, 0), (16, 0), (0, 0)]) .running
     let w := fetched e s
     whorlOpen e s = true ∧ fld 31 27 w = 0x0E ∧ fld 26 20 w = 0) ∧
    (let e : Nat := 15
     let s : State := whorl (pack [(27, 31), (20, 0), (16, 0), (0, 0)]) .running
     let w := fetched e s
     whorlOpen e s = true ∧ 0x0F ≤ fld 31 27 w) ∧
    (let e : Nat := 15
     let s : State := whorl (pack [(27, 0), (20, 127), (16, 0), (0, 0)]) .running
     let w := fetched e s
     whorlOpen e s = true ∧ fld 26 20 w ≠ 0 ∧ fld 31 27 w = 0x00) ∧
    (let e : Nat := 15
     let s : State := whorl (pack [(27, 9), (20, 127), (16, 0), (0, 0)]) .running
     let w := fetched e s
     whorlOpen e s = true ∧ fld 26 20 w ≠ 0 ∧ fld 31 27 w = 0x09) ∧
    (let e : Nat := 15
     let s : State := whorl (pack [(27, 10), (20, 127), (16, 0), (0, 0)]) .running
     let w := fetched e s
     whorlOpen e s = true ∧ fld 26 20 w ≠ 0 ∧ fld 31 27 w = 0x0A) ∧
    (let e : Nat := 15
     let s : State := whorl (pack [(27, 11), (20, 127), (16, 0), (0, 0)]) .running
     let w := fetched e s
     whorlOpen e s = true ∧ fld 26 20 w ≠ 0 ∧ fld 31 27 w = 0x0B) ∧
    (let e : Nat := 15
     let s : State := whorl (pack [(27, 13), (20, 127), (16, 0), (0, 0)]) .running
     let w := fetched e s
     whorlOpen e s = true ∧ fld 26 20 w ≠ 0 ∧ fld 31 27 w = 0x0D) ∧
    (let e : Nat := 15
     let s : State := whorl (pack [(27, 14), (20, 127), (16, 0), (0, 0)]) .running
     let w := fetched e s
     whorlOpen e s = true ∧ fld 26 20 w ≠ 0 ∧ fld 31 27 w = 0x0E) ∧
    (let e : Nat := 15
     let s : State := whorl 0 .waiting
     e < 16 ∧ (engine e s).state = .waiting ∧ (engine e s).swapOf = none ∧ linkLive s = true ∧ hostUp s = true ∧ s.clk.power ≠ 2) := by
  refine ⟨?_, ?_, ?_, ?_, ?_, ?_, ?_, ?_, ?_, ?_, ?_, ?_, ?_, ?_, ?_, ?_, ?_, ?_, ?_, ?_, ?_, ?_, ?_, ?_, ?_, ?_, ?_, ?_, ?_, ?_, ?_, ?_⟩ <;> decide +kernel

theorem witness_FieldPinEventsAndCommandsComplete :
    (let s : State := modPinP 79 (fun x => { x with cfg := 1 }) up
     sampling s = true) ∧
    (let r : Nat := 3000000
     let s : State := modFio (fun f => { f with raised := some 3000000, gather := { f.gather with first := some 3000001 } }) up
     s.fio.raised = some r ∧ s.fio.gather.first ≠ none ∧ hostUp s = true) ∧
    (let i : Nat := 79
     let e : Nat := 3000001
     let s : State := modPinP 79 (fun x => { x with boostEnd := some 3000001 }) up
     (pinP i s).boostEnd = some e) ∧
    (let i : Nat := 79
     let s : State := modPinP 79 (fun x => { x with cfg := 2, out := true }) up
     pinMode (pinP i s).cfg = 2 ∧ (pinP i s).out = true ∧ (pinP i s).latch = false) ∧
    (let i : Nat := 79
     let s : State := modPinP 79 (fun x => { x with cfg := 0x31 }) up
     pinMode (pinP i s).cfg = 1 ∧ pinTset (pinP i s).cfg = 3 ∧ sampling s = true) ∧
    (let s : State := modP (fun p => { p with power := 1 }) up
     s.pdie.power = 1) ∧
    (let s : State := modP (fun p => { p with power := 2 }) up
     s.pdie.power = 2) ∧
    (let r : Req := rq 79 [1, 0x00010001]
     let s : State := up
     let a := atRun infoFioCfg r s
     let ws := r.payload.drop 1
     ready infoFioCfg r s = true ∧ (arg r 0).toNat + 1 = r.payload.length ∧ obj r + ws.length ≤ 80 ∧ ws.all pinCfgOk = true ∧ ((List.range
     80).filter (fun i => pinWet10 (if obj r ≤ i ∧ i < obj r + ws.length then wordAt ws (i - obj r) else pinWanted i a))).length ≤ 16 ∧
     linkLive a = true) ∧
    (let r : Req := rq 0 []
     let s : State := up
     ready infoFioRead r s = true) ∧
    (let r : Req := rq 0 [0, 0, 0x8000, 0, 0, 0x8000]
     let s : State := modFio (fun f => { f with pins := put f.pins 79 0x00010002 }) up
     let a := atRun infoFioWrite r s
     let mask := wordsPins (arg r 0) (arg r 1) (arg r 2)
     ready infoFioWrite r s = true ∧ mask &&& pinsWhere (fun i => pinMode (pinWanted i a) == 2) = mask ∧ linkLive a = true) ∧
    (let r : Req := rq 7 [0]
     let s : State := modFio (fun f => { f with counts := upd f.counts 7 (fun x => { x with cfg := 1 }) }) up
     let a := atRun infoFioCountRead r s
     let x := nth a.fio.counts (obj r)
     ready infoFioCountRead r s = true ∧ fld 1 0 x.cfg ≠ 0 ∧ onlyBits 1 (arg r 0) = true ∧ bit 0 (arg r 0) = false) ∧
    (let r : Req := rq 7 [1]
     let s : State := modFio (fun f => { f with counts := upd f.counts 7 (fun x => { x with cfg := 1 }) }) up
     let a := atRun infoFioCountRead r s
     let x := nth a.fio.counts (obj r)
     ready infoFioCountRead r s = true ∧ fld 1 0 x.cfg ≠ 0 ∧ onlyBits 1 (arg r 0) = true ∧ bit 0 (arg r 0) = true ∧ linkLive a = true) := by
  refine ⟨?_, ?_, ?_, ?_, ?_, ?_, ?_, ?_, ?_, ?_, ?_, ?_⟩ <;> decide +kernel

theorem witness_CanEventsComplete :
    (let t : Nat := 0
     let k : Nat := 11
     let x : CanRx := { sof := 0, w0 := 0x7FF, rtr := false, brs := false, esi := false, af := 0, xl := 0, data := [1] }
     let s : State := can .active []
     let u := frameTaken t k x s
     canOpen k x s = true ∧ ringOf k x.w0 x.rtr x.data u = none ∧ refPrio k x.w0 x.rtr x.data u = none) ∧
    (let t : Nat := 0
     let sof : Nat := 0
     let k : Nat := 11
     let src : Nat := 0
     let meas : Nat := 0
     let f : CanFrame := { w0 := 0x7FF }
     let s : State := can .active [{ w0 := 0x7FF }]
     let a := settleTrigs (toL t s)
     let u := modHead k src (fun _ => none) (frameEnded k t (txGood k (frameFmt f.w0) meas (sofSeen k sof a)))
     let v := if f.conf then canEvent sof k 2 f.handle (natToWords 2 sof) u else u
     (canCtl k s).tail = none ∧ src < 2 ∧ offered k src a = some f ∧ (canCtl k a).state = .active ∧ chosen k src sof a = true ∧ drives k sof
     a = true ∧ ringOf k f.w0 f.rtr f.data v = none) ∧
    (let t : Nat := 0
     let sof : Nat := 0
     let k : Nat := 11
     let src : Nat := 0
     let meas : Nat := 0
     let f : CanFrame := { w0 := 0x645, data := [5, 4, 0, 0, 0, 0, 0, 0] }
     let s : State := modCtl 11 (fun c => { c with urgent := [{ w0 := 0x645, data := [5, 4, 0, 0, 0, 0, 0, 0] }] }) (ring 1 id)
     let a := settleTrigs (toL t s)
     let u := modHead k src (fun _ => none) (frameEnded k t (txGood k (frameFmt f.w0) meas (sofSeen k sof a)))
     let v := if f.conf then canEvent sof k 2 f.handle (natToWords 2 sof) u else u
     let m := ((5, 4, {}, 0) : Nat × Nat × RingFlags × Nat)
     (canCtl k s).tail = none ∧ src < 2 ∧ offered k src a = some f ∧ (canCtl k a).state = .active ∧ chosen k src sof a = true ∧ drives k sof
     a = true ∧ ringOf k f.w0 f.rtr f.data v = some m) ∧
    (let t : Nat := 0
     let sof : Nat := 5
     let k : Nat := 11
     let i : Nat := 15
     let meas : Nat := 0
     let f : CanFrame := { w0 := 0x7FF }
     let s : State := modTrig 15 (fun x => { x with buf := some { w0 := 0x7FF }, due := some 5 }) (netTime 2 (can .active []))
     let a := settleTrigs (toL t s)
     let u := bump (ctr 0x0A 0x102) (modTrig i (fun x => { x with due := none })
       (frameEnded k t (txGood k (frameFmt f.w0) meas (sofSeen k sof a))))
     (canCtl k s).tail = none ∧ offered k (2 + i) a = some f ∧ (canCtl k a).state = .active ∧ chosen k (2 + i) sof a = true ∧ drives k sof a
     = true ∧ f.conf = false ∧ ringOf k f.w0 f.rtr f.data u = none) ∧
    (let t : Nat := 0
     let k : Nat := 11
     let src : Nat := 0
     let s : State := can .active [{ w0 := 0x7FF }]
     let a := settleTrigs (toL t s)
     (canCtl k s).tail = none ∧ src ≠ 19 ∧ attempted k src t a = true) ∧
    (let t : Nat := 0
     let k : Nat := 11
     let s : State := can .active []
     let a := settleTrigs (toL t s)
     (canCtl k s).tail = none ∧ (canCtl k a).state = .active) ∧
    (let t : Nat := 0
     let k : Nat := 11
     let src : Nat := 0
     let s : State := can .active [{ w0 := 0x7FF }]
     let a := settleTrigs (toL t s)
     (canCtl k s).tail = none ∧ attempted k src t a = true) ∧
    (let k : Nat := 11
     let e : Nat := 3000001
     let s : State := modCtl 11 (fun c => { c with boffEnd := some 3000001 }) (can .busOff [])
     (canCtl k s).boffEnd = some e ∧ (canCtl k s).state = .busOff) ∧
    (let k : Nat := 11
     let s : State := can .recovering []
     (canCtl k s).state = .recovering) ∧
    (let k : Nat := 11
     let s : State := can .integrating []
     (canCtl k s).state = .integrating) ∧
    (let k : Nat := 11
     let s : State := can .restricted []
     (canCtl k s).state = .restricted) ∧
    (let k : Nat := 11
     let s : State := can .active []
     (canCtl k s).tail = none ∧ (canCtl k s).state = .active) ∧
    (let k : Nat := 11
     let s : State := can .monitor []
     (canCtl k s).tail = none ∧ (canCtl k s).state = .monitor) := by
  refine ⟨?_, ?_, ?_, ?_, ?_, ?_, ?_, ?_, ?_, ?_, ?_, ?_, ?_⟩ <;> decide +kernel

theorem witness_NetworkTimeEventsComplete :
    (let t : Nat := 4000200
     let i : Nat := 15
     let s : State := modTrig 15 (fun x => { x with cfg := pack [(31, 1), (0, 1)], buf := some {} }) (netTime 2 (can .active []))
     let u := settleTrig i (toL t s)
     let n := u.can.nt
     let start := n.startAt t
     let x := nth u.can.trigs i
     i < 16 ∧ hostUp s = true ∧ groupOff 0x06 s = false ∧ bit 31 x.cfg = true ∧ x.buf ≠ none ∧ (n.synced = true ∨ n.sending = true) ∧ n.base
     ≠ none ∧ t = n.pointAt t (fld 19 0 x.cfg * 200) ∧ n.countAt t % 2 ^ fld 29 27 x.cfg = fld 26 21 x.cfg % 2 ^ fld 29 27 x.cfg ∧ x.fired ≠
     some start) ∧
    (let i : Nat := 15
     let d : Nat := 3000001
     let s : State := modTrig 15 (fun x => { x with due := some 3000001 }) up
     let u := settleTrigs (toL (d + fld 15 0 (nth s.can.trigs i).win * 200) s)
     (nth s.can.trigs i).due = some d ∧ hostUp s = true ∧ (nth u.can.trigs i).due ≠ none) ∧
    (let t : Nat := 0
     let sof : Nat := 3000000
     let k : Nat := 11
     let p : Nat := 7
     let q : Nat := 7
     let w0 : Word := 0x107
     let data : List Byte := [1]
     let s : State := netTime 1 (can .active [])
     let u := frameTaken t k (plainFrame sof w0 data) s
     refPrio k w0 false data s = some q ∧ canOpen k (plainFrame sof w0 data) s = true ∧ ringOf k w0 false data u = none ∧ refPrio k w0 false
     data u = some p ∧ groupOff 0x06 u = false) ∧
    (let t : Nat := 4000000
     let sof : Nat := 4000000
     let s : State := modNt (fun n => { n with sending := true, base := some 3000000 }) (netTime 2 (can .active []))
     let n := s.can.nt
     let k := n.ctrl
     (canCtl k s).tail = none ∧ hostUp s = true ∧ groupOff 0x06 s = false ∧ (canCtl k s).state = .active ∧ refStart k sof s = some t ∧ t ≤
     sof ∧ drives k sof s = true) ∧
    (let b : Nat := 2000000
     let s : State := netTime 1 (can .active [])
     s.can.nt.base = some b ∧ hostUp s = true ∧ s.can.nt.sending = false ∧ s.can.nt.synced = true ∧ s.can.nt.role ≠ 0) := by
  refine ⟨?_, ?_, ?_, ?_, ?_⟩ <;> decide +kernel

theorem witness_TransceiverAndGatewayEventsComplete :
    (let t : Nat := 0
     let n : Nat := 5
     let a : Nat := 1800
     let b : Nat := 1800
     let c : Nat := 1800
     let s : State := modTrx 5 (fun x => { x with tstate := 3, cfg := 0xF820 }) up
     let p := phaseCounts a (toP t s)
     let q := phaseCounts b p.2
     let r := phaseCounts c q.2
     n < 6 ∧ (trxP n s).tstate = 3 ∧ p.1 = true ∧ q.1 = true ∧ r.1 = true ∧ a + b + c ≤ fld 15 12 (trxP n r.2).cfg * 1000000) ∧
    (let n : Nat := 5
     let head : FrameHead := { errs := 31 }
     let s : State := modTrx 5 (fun x => { x with tstate := 3, cfg := 0xF822 }) up
     n < 6 ∧ (trxP n s).tstate = 3 ∧ selective (trxP n s) = true ∧ s.pdie.sup ≠ .cold ∧ (trxP n s).fec + head.errs < 32) ∧
    (let n : Nat := 5
     let head : FrameHead := { errs := 32 }
     let s : State := modTrx 5 (fun x => { x with tstate := 3, cfg := 0xF822 }) up
     n < 6 ∧ (trxP n s).tstate = 3 ∧ selective (trxP n s) = true ∧ s.pdie.sup ≠ .cold ∧ 32 ≤ (trxP n s).fec + head.errs) ∧
    (let n : Nat := 5
     let s : State := modTrx 5 (fun x => { x with tstate := 3, cfg := 0xF822 }) up
     n < 6 ∧ (trxP n s).tstate = 3 ∧ selective (trxP n s) = true ∧ s.pdie.sup ≠ .cold) ∧
    (let n : Nat := 5
     let s : State := modTrx 5 (fun x => { x with tstate := 1 }) up
     n < 6 ∧ (trxP n s).tstate = 1) ∧
    (let n : Nat := 5
     let s : State := modTrx 5 (fun x => { x with tstate := 1 }) up
     n < 6 ∧ (trxP n s).tstate ≠ 0 ∧ (trxP n s).thermal = false) ∧
    (let n : Nat := 5
     let s : State := modTrx 5 (fun x => { x with tstate := 1, thermal := true }) up
     n < 6 ∧ (trxP n s).tstate ≠ 0 ∧ (trxP n s).thermal = true) ∧
    (let c : Nat := 5
     let s : State := modTrx 5 (fun x => { x with tstate := 1, wake := true }) up
     c < 6 ∧ (trxP c s).wake = true ∧ (trxP c s).told = false ∧ linkLive s = true ∧ hostUp s = true ∧ groupOff 0x06 s = false) ∧
    (let m : Nat := 1
     let peer : Nat := 7
     let s : State := modGw (fun g => { g with ctl := 7, dst := put g.dst 1 7 }) (modMac 1 (fun m => { m with link := true }) up)
     m < 2 ∧ hostUp s = true ∧ ethOn m s = true ∧ (nth s.host.macs m).link = true ∧ peer = (nth s.nm.gw.dst m).toNat) ∧
    (let m : Nat := 1
     let s : State := modGw (fun g => { g with fill := put g.fill 1 { words := [1] } }) up
     m < 2 ∧ hostUp s = true ∧ (nth s.nm.gw.fill m).words ≠ []) ∧
    (let g : Nat := 13
     let s : State := up
     g < 14 ∧ hostUp s = true) ∧
    (let m : Nat := 1
     let up : Bool := true
     let s : State := modMac 1 (fun m => { m with cfg := 1 }) Tests.up
     m < 2 ∧ hostUp s = true ∧ bit 0 (macOf m s).cfg = true ∧ up = true ∧ rootSteady s = true ∧ portOpen (12 + m) s = true) ∧
    (let m : Nat := 1
     let s : State := modMac 1 (fun m => { m with cfg := 1 }) up
     m < 2 ∧ hostUp s = true ∧ bit 0 (macOf m s).cfg = true) := by
  refine ⟨?_, ?_, ?_, ?_, ?_, ?_, ?_, ?_, ?_, ?_, ?_, ?_, ?_⟩ <;> decide +kernel

theorem witness_RingEventsComplete :
    (let t : Nat := 0
     let sof : Nat := 3000000
     let k : Nat := 11
     let w0 : Word := 0x644
     let data : List Byte := ringData 1
     let f : RingFlags := ({ ready := true } : RingFlags)
     let m : Nat × Nat × RingFlags × Nat := ((4, 5, { ready := true }, 0) : Nat × Nat × RingFlags × Nat)
     let s : State := ring 1 id
     let u := frameTaken t k (plainFrame sof w0 data) s
     ringFlags k w0 data s = some f ∧ canOpen k (plainFrame sof w0 data) s = true ∧ ringOf k w0 false data u = some m ∧ refPrio k w0 false
     data (ringReceived k sof m u) = none ∧ f.commit = false ∧ f.wake = false) ∧
    (let t : Nat := 0
     let sof : Nat := 3000000
     let k : Nat := 11
     let w0 : Word := 0x644
     let data : List Byte := ringData 2
     let f : RingFlags := ({ commit := true } : RingFlags)
     let m : Nat × Nat × RingFlags × Nat := ((4, 5, { commit := true }, 0) : Nat × Nat × RingFlags × Nat)
     let s : State := ring 1 id
     let u := frameTaken t k (plainFrame sof w0 data) s
     ringFlags k w0 data s = some f ∧ canOpen k (plainFrame sof w0 data) s = true ∧ ringOf k w0 false data u = some m ∧ refPrio k w0 false
     data (ringReceived k sof m u) = none ∧ f.commit = true) ∧
    (let t : Nat := 0
     let sof : Nat := 3000000
     let k : Nat := 11
     let w0 : Word := 0x644
     let data : List Byte := ringData 4
     let f : RingFlags := ({ wake := true } : RingFlags)
     let m : Nat × Nat × RingFlags × Nat := ((4, 5, { wake := true }, 0) : Nat × Nat × RingFlags × Nat)
     let s : State := ring 1 id
     let u := frameTaken t k (plainFrame sof w0 data) s
     ringFlags k w0 data s = some f ∧ canOpen k (plainFrame sof w0 data) s = true ∧ ringOf k w0 false data u = some m ∧ refPrio k w0 false
     data (ringReceived k sof m u) = none ∧ f.wake = true) ∧
    (let c : Nat := 11
     let e : Nat := 3000001
     let s : State := ring 1 (fun x => { x with token := some 3000001 })
     (nmCh c s).token = some e ∧ nmRuns c s = true ∧ ((nmCh c s).phase = 1 ∨ ((nmCh c s).phase = 2 ∧ (nmCh c s).claim = true)) ∧ ¬ ((nmCh c
     s).claim = true ∧ (bitList 64 (nmCh c s).pres).head? ≠ some (nmCh c s).addr)) ∧
    (let c : Nat := 11
     let e : Nat := 3000001
     let s : State := ring 1 (fun x => { x with token := some 3000001, claim := true })
     (nmCh c s).token = some e ∧ nmRuns c s = true ∧ ((nmCh c s).phase = 1 ∨ ((nmCh c s).phase = 2 ∧ (nmCh c s).claim = true)) ∧ (nmCh c
     s).claim = true ∧ (bitList 64 (nmCh c s).pres).head? ≠ some (nmCh c s).addr) ∧
    (let c : Nat := 11
     let a : Nat := 63
     let e : Nat := 3000001
     let s : State := ring 1 (fun x => { x with succ := some 63, sentEnd := some 3000001 })
     (nmCh c s).succ = some a ∧ (nmCh c s).sentEnd = some e ∧ nmRuns c s = true ∧ (nmCh c s).phase = 1) ∧
    (let c : Nat := 11
     let a : Nat := 63
     let s : State := ring 1 (fun x => { x with heard := x.heard.set 63 9 })
     (nmCh c s).heard.get a ≠ 0 ∧ hostUp s = true) ∧
    (let c : Nat := 11
     let s : State := ring 1 id
     nmRuns c s = true ∧ (nmCh c s).phase = 1 ∧ (nmCh c s).alone = false ∧ (nmCh c s).reformed = false) ∧
    (let c : Nat := 11
     let e : Nat := 3000001
     let s : State := ring 1 (fun x => { x with restart := some 3000001 })
     (nmCh c s).restart = some e ∧ nmRuns c s = true) ∧
    (let t : Nat := 3000000
     let c : Nat := 11
     let s : State := modCtl 11 (fun c => { c with alone := true }) (ring 1 id)
     nmRuns c s = true ∧ ((canCtl c s).alone = true ∨ (nmCh c s).heardAny + 4 * (nmCh c s).tmax ≤ t)) ∧
    (let c : Nat := 11
     let s : State := ring 2 id
     (nmCh c s).phase = 2 ∧ nmRuns c s = true ∧ (nmCh c s).wakePend = false) ∧
    (let c : Nat := 11
     let s : State := ring 2 (fun x => { x with wakePend := true })
     (nmCh c s).phase = 2 ∧ (nmCh c s).wakePend = true ∧ nmRuns c s = true) := by
  refine ⟨?_, ?_, ?_, ?_, ?_, ?_, ?_, ?_, ?_, ?_, ?_, ?_⟩ <;> decide +kernel

theorem witness_CoreAndCollectorEventsComplete :
    (let t : Nat := 0
     let c : Nat := 0
     let v : Nat := 0x5A
     let s : State := up
     let u := toL t s
     let w := nth u.spindle.wdog c
     hasWdog c s = true ∧ wdogRuns s = true ∧ s.spindle.frozen = false ∧ w.last = none ∧ v = (if w.expectA5 then 0xA5 else 0x5A)) ∧
    (let t : Nat := 0
     let c : Nat := 1
     let v : Nat := 0xA5
     let s : State := { up with split := true }
     let u := toL t s
     let w := nth u.spindle.wdog c
     hasWdog c s = true ∧ wdogRuns s = true ∧ s.spindle.frozen = false ∧ v ≠ (if w.expectA5 then 0xA5 else 0x5A)) ∧
    (let s : State := compared
     ldieUp s = true ∧ lockstep s = true) ∧
    (let s : State := compared
     ldieUp s = true ∧ lockstep s = true ∧ s.clk.power < 2) ∧
    (let c : Nat := 0
     let t : Nat := 9
     let s : State := modWdog 0 (fun w => { w with last := some 9 }) up
     (nth s.spindle.wdog c).last = some t ∧ hasWdog c s = true ∧ wdogRuns s = true ∧ (nth s.spindle.wdog c).expired = false) ∧
    (let s : State := up
     ldieUp s = true) ∧
    (let t : Nat := 0
     let src : Nat := 0x40
     let s : State := up
     let u := s.faults.inject.foldl injected (modFaults (fun f => { f with inject := [] }) (toL t s))
     ldieUp s = true ∧ (u.split = false ∨ src < 0x040 ∨ 0x042 < src)) ∧
    (let t : Nat := 0
     let src : Nat := 0x42
     let s : State := { up with split := true }
     let u := s.faults.inject.foldl injected (modFaults (fun f => { f with inject := [] }) (toL t s))
     ldieUp s = true ∧ u.split = true ∧ 0x040 ≤ src ∧ src ≤ 0x042) ∧
    (let s : State := up
     s.ldie ≠ .off) := by
  refine ⟨?_, ?_, ?_, ?_, ?_, ?_, ?_, ?_, ?_⟩ <;> decide +kernel

theorem witness_KeyEventsComplete :
    (let z : Zeroise := { step := 0 }
     let s : State := zeroing 0 false
     s.keys.zero = some z ∧ z.step = 0) ∧
    (let z : Zeroise := { step := 1 }
     let s : State := zeroing 1 false
     s.keys.zero = some z ∧ z.step = 1 ∧ s.keys.trngFail = false) ∧
    (let z : Zeroise := { step := 1 }
     let s : State := zeroing 1 true
     s.keys.zero = some z ∧ z.step = 1 ∧ s.keys.trngFail = true) ∧
    (let z : Zeroise := { step := 2 }
     let s : State := zeroing 2 false
     s.keys.zero = some z ∧ 2 ≤ z.step) ∧
    (let s : State := modKeys (fun k => { k with state := .locked }) up
     s.keys.state = .locked ∧ linkLive s = true ∧ hostUp s = true) ∧
    (let table : Vector KeySlot 64 := Vector.replicate 64 {}
     let s : State := modKeys (fun k => { k with writing := some (Vector.replicate 64 {}), tries := 0 }) up
     s.keys.writing = some table) ∧
    (let table : Vector KeySlot 64 := Vector.replicate 64 {}
     let s : State := modKeys (fun k => { k with writing := some (Vector.replicate 64 {}), tries := 1 }) up
     s.keys.writing = some table ∧ s.keys.tries < 2) ∧
    (let table : Vector KeySlot 64 := Vector.replicate 64 {}
     let s : State := modKeys (fun k => { k with writing := some (Vector.replicate 64 {}), tries := 2 }) up
     s.keys.writing = some table ∧ 2 ≤ s.keys.tries) ∧
    (let s : State := up
     s.keys.trngFail = false ∧ s.ldie ≠ .off ∧ s.ldie ≠ .halted) ∧
    (let s : State := zeroing 1 true
     s.ldie ≠ .off ∧ s.ldie ≠ .halted ∧ s.keys.nonceHeld = none) ∧
    (let s : State := modKeys (fun k => { k with nonceHeld := some 2 }) (zeroing 1 true)
     let code := 2
     s.ldie ≠ .off ∧ s.ldie ≠ .halted ∧ s.keys.nonceHeld = some code) ∧
    (let rest : List Nat := []
     let s : State := { up with otp := { pend := [0] } }
     s.otp.pend = 0 :: rest) ∧
    (let n : Nat := 31
     let rest : List Nat := []
     let s : State := { up with otp := { pend := [32] } }
     s.otp.pend = (n + 1) :: rest) := by
  refine ⟨?_, ?_, ?_, ?_, ?_, ?_, ?_, ?_, ?_, ?_, ?_, ?_, ?_⟩ <;> decide +kernel

theorem witness_StoreEventsComplete :
    (let edits : List CfgEdit := []
     let s : State := modStore (fun x => { x with writing := some [], tries := 0 }) up
     s.store.writing = some edits) ∧
    (let edits : List CfgEdit := []
     let s : State := modStore (fun x => { x with writing := some [], tries := 1 }) up
     s.store.writing = some edits ∧ s.store.tries < 2) ∧
    (let edits : List CfgEdit := []
     let s : State := modStore (fun x => { x with writing := some [], tries := 2 }) up
     s.store.writing = some edits ∧ 2 ≤ s.store.tries) ∧
    (let s : State := updating 1 (some .verify)
     hostUp s = true ∧ s.store.upd.op = some .verify) ∧
    (let s : State := updating 3 (some .fallbackCopy)
     hostUp s = true ∧ s.store.upd.op = some .fallbackCopy) ∧
    (let s : State := updating 3 (some .bootTrial)
     hostUp s = true ∧ s.store.upd.op = some .bootTrial) ∧
    (let s : State := updating 4 (some .bootConfirm)
     hostUp s = true ∧ s.store.upd.op = some .bootConfirm) ∧
    (let s : State := updating 3 (some .bootTrial)
     let op := UpdOp.bootTrial
     hostUp s = true ∧ s.store.upd.op = some op ∧ op ≠ .verify) ∧
    (let b : Nat := 3000000
     let s : State := modUpd (fun u => { u with handover := some 3000000 }) (updating 3 none)
     s.store.upd.handover = some b ∧ s.ldie = .running) ∧
    (let b : Nat := 3000000
     let s : State := modUpd (fun u => { u with handover := some 3000000 }) (updating 3 none)
     s.store.upd.handover = some b ∧ s.ldie = .running) := by
  refine ⟨?_, ?_, ?_, ?_, ?_, ?_, ?_, ?_, ?_, ?_⟩ <;> decide +kernel

theorem witness_ClockEventsAndPowerCommandsComplete :
    (let s : State := clk (fun c => { c with switch := some (false, true) })
     s.clk.switch = some (false, true)) ∧
    (let s : State := starting .released (fun c => { c with xtalOk := false })
     s.clk.switch = none ∧ s.ldie = .starting ∧ s.clk.step = .released ∧ s.clk.pref = false ∧ s.clk.xtalOk = false ∧ s.clk.xtalAbsent =
     false ∧ s.clk.xtalBad = false) ∧
    (let s : State := up
     ldieUp s = true ∧ s.clk.coast = false) ∧
    (let s : State := clk (fun c => { c with coast := true, ctl := 2 })
     s.clk.coast = true ∧ bit 1 s.clk.ctl = true ∧ s.clk.switch = none ∧ ldieUp s = true) ∧
    (let rc : Bool := true
     let s : State := clk (fun c => { c with switch := some (true, false) })
     s.clk.switch = some (rc, false) ∧ ldieUp s = true) ∧
    (let s : State := up
     ldieUp s = true ∧ s.clk.coast = false ∧ s.clk.locked = true) ∧
    (let t : Nat := 0
     let n : Nat := 16
     let s : State := clk (fun c => { c with gatePend := 0x10000 })
     n < 17 ∧ s.clk.gatePend.testBit n = true ∧ unitIdle n (toL t s) = true ∧ ldieUp s = true) ∧
    (let r : Req := rq 1 [0]
     let s : State := up
     let a := atRun infoPwrStateReq r s
     let target := obj r
     ready infoPwrStateReq r s = true ∧ wakeFits target (arg r 0) a = true ∧ target < 2) ∧
    (let r : Req := rq 4 [1]
     let s : State := up
     let a := atRun infoPwrStateReq r s
     let target := obj r
     ready infoPwrStateReq r s = true ∧ wakeFits target (arg r 0) a = true ∧ 2 ≤ target ∧ a.clk.entry = none ∧ ((a.store.upd.state = 0 ∨ 4 ≤
     a.store.upd.state)) ∧ ((bit 0 (arg r 0) = true ∨ quietFor target a = true))) ∧
    (let r : Req := rq 0 []
     let s : State := up
     ready infoClkStatus r s = true) ∧
    (let r : Req := rq 0 [0x13FFF, 0x8000]
     let s : State := up
     let close := arg r 0
     let opn := arg r 1
     ready infoClkGate r s = true ∧ close &&& opn = 0 ∧ onlyBits 0x1FFFF close = true ∧ onlyBits 0x1FFFF opn = true ∧ ((∀ n, portUnit r.port
     = some n → bit n close = false))) ∧
    (let r : Req := rq 0 [0x3FFF, 0xFF, 86400]
     let s : State := up
     let a := atRun infoWakeCfg r s
     ready infoWakeCfg r s = true ∧ onlyBits 0x3FFF (arg r 0) = true ∧ onlyBits 0xF00FF (arg r 1) = true ∧ (arg r 2).toNat ≤ 86400 ∧
     linkLive a = true) := by
  refine ⟨?_, ?_, ?_, ?_, ?_, ?_, ?_, ?_, ?_, ?_, ?_, ?_⟩ <;> decide +kernel

theorem witness_PowerEntryAndRailEventsComplete :
    (let t : Nat := 0
     let e : PwrEntry := { target := 2, phase := 1, since := 3000000, latched := 1 }
     let s : State := entering { target := 2, phase := 1, since := 3000000, latched := 1 }
     let u := toL t s
     s.clk.entry = some e ∧ e.phase < 5 ∧ u.now ≤ e.since + phaseLimit e.phase ∧ phaseDone e u = true ∧ e.latched ≠ 0) ∧
    (let t : Nat := 0
     let e : PwrEntry := { target := 2, phase := 4, since := 3000000 }
     let s : State := entering { target := 2, phase := 4, since := 3000000 }
     let u := toL t s
     s.clk.entry = some e ∧ e.phase < 5 ∧ u.now ≤ e.since + phaseLimit e.phase ∧ phaseDone e u = true ∧ e.latched = 0 ∧ e.phase = 4) ∧
    (let t : Nat := 0
     let e : PwrEntry := { target := 3, phase := 1, since := 3000000 }
     let s : State := entering { target := 3, phase := 1, since := 3000000 }
     let u := toL t s
     s.clk.entry = some e ∧ e.phase < 5 ∧ u.now ≤ e.since + phaseLimit e.phase ∧ phaseDone e u = true ∧ e.latched = 0 ∧ e.phase ≠ 4) ∧
    (let e : PwrEntry := { target := 2, phase := 4 }
     let s : State := entering { target := 2, phase := 4 }
     s.clk.entry = some e ∧ e.phase < 5) ∧
    (let e : PwrEntry := { target := 2, phase := 5 }
     let s : State := entering { target := 2, phase := 5 }
     s.clk.entry = some e ∧ 5 ≤ e.phase ∧ e.target = 2 ∧ e.latched = 0 ∧ s.host.flight.any (fun x => x.op == 0x0B00 && x.req.slot == e.slot
     && x.req.tag == e.tag) = false) ∧
    (let t : Nat := 0
     let src : Nat := 3
     let up : Bool := true
     let s : State := clk (fun c => { c with wakeEn := 8, wakeEdge := 0x40, entry := some { target := 4 } })
     let u := if src < 4 then modClk (fun c => { c with wakeLevel := setPin c.wakeLevel src up }) (toP t s) else toP t s
     let e := ({ target := 4 } : PwrEntry)
     src < 14 ∧ bit src s.clk.wakeEn = true ∧ ((src < 4 → (s.clk.wakeEdge >>> (2 * src)) % 4 = 3 ∨ (s.clk.wakeEdge >>> (2 * src)) % 4 = (if
     up then 1 else 2))) ∧ wakeRequested src u = true ∧ s.clk.entry = some e ∧ (wakeActs e.target).testBit src = true ∧ s.clk.power < 2) ∧
    (let t : Nat := 0
     let src : Nat := 3
     let up : Bool := false
     let s : State := clk (fun c => { c with wakeEn := 8, wakeEdge := 0x80, power := 4 })
     let u := if src < 4 then modClk (fun c => { c with wakeLevel := setPin c.wakeLevel src up }) (toP t s) else toP t s
     src < 14 ∧ bit src s.clk.wakeEn = true ∧ ((src < 4 → (s.clk.wakeEdge >>> (2 * src)) % 4 = 3 ∨ (s.clk.wakeEdge >>> (2 * src)) % 4 = (if
     up then 1 else 2))) ∧ wakeRequested src u = true ∧ s.clk.entry = none ∧ 2 ≤ s.clk.power ∧ (wakeActs s.clk.power).testBit src = true ∧
     s.clk.waking = false) ∧
    (let status : Nat := 0
     let q : RegReq := { rail := 2, kind := .on }
     let rest : List RegReq := []
     let s : State := clk (fun c => { c with reqs := [{ rail := 2, kind := .on }] })
     s.clk.reqs = q :: rest ∧ regMet q.kind status = true) ∧
    (let q : RegReq := { rail := 2, kind := .on, tries := 1 }
     let rest : List RegReq := []
     let s : State := clk (fun c => { c with reqs := [{ rail := 2, kind := .on, tries := 1 }] })
     s.clk.reqs = q :: rest ∧ q.tries < 2) ∧
    (let q : RegReq := { rail := 2, kind := .on, tries := 2 }
     let rest : List RegReq := []
     let s : State := clk (fun c => { c with reqs := [{ rail := 2, kind := .on, tries := 2 }] })
     s.clk.reqs = q :: rest ∧ 2 ≤ q.tries) ∧
    (let s : State := { clk (fun c => { c with power := 3, waking := true }) with ldie := .off }
     s.ldie = .off ∧ s.clk.power = 3 ∧ s.clk.waking = true ∧ s.clk.railWait = none) ∧
    (let s : State := starting .released id
     s.ldie = .starting ∧ s.clk.step = .released) ∧
    (let r : Nat := 2
     let s : State := { clk (fun c => { c with railWait := some 2 }) with ldie := .off }
     s.clk.railWait = some r ∧ s.ldie = .off) := by
  refine ⟨?_, ?_, ?_, ?_, ?_, ?_, ?_, ?_, ?_, ?_, ?_, ?_, ?_⟩ <;> decide +kernel

theorem witness_ResetsAndStartsComplete :
    (let s : State := up
     s.clk.power ≠ 4) ∧
    (let s : State := clk (fun c => { c with power := 4 })
     s.clk.power = 4) ∧
    (let ns : Nat := 99
     let s : State := up
     s.ldie ≠ .off ∧ ns < 100) ∧
    (let ns : Nat := 1000
     let s : State := up
     s.ldie ≠ .off ∧ 1000 ≤ ns) ∧
    (let p : PendingL3 := { chip := true, w0 := 0, w2 := 0, cls := 0 }
     let s : State := { up with faults := { up.faults with pendingL3 := some { chip := true, w0 := 0, w2 := 0, cls := 0 } } }
     s.faults.pendingL3 = some p ∧ p.chip = true) ∧
    (let p : PendingL3 := { chip := false, w0 := 0, w2 := 0, cls := 0 }
     let s : State := { up with faults := { up.faults with pendingL3 := some { chip := false, w0 := 0, w2 := 0, cls := 0 } } }
     s.faults.pendingL3 = some p ∧ p.chip = false ∧ s.store.upd.recovery = false) ∧
    (let s : State := modP (fun p => { p with sup := .reset }) up
     s.pdie.sup = .reset) ∧
    (let s : State := starting .released id
     s.ldie = .starting ∧ s.clk.step = .released) ∧
    (let s : State := starting .started id
     s.ldie = .starting ∧ s.clk.step = .started ∧ linkLive s = true) ∧
    (let s : State := clk (fun c => { c with power := 2, waking := true })
     s.ldie ≠ .starting ∧ s.clk.power = 2 ∧ s.clk.waking = true ∧ ldieUp s = true) ∧
    (let s : State := starting .checked id
     s.ldie = .starting ∧ s.clk.step = .checked ∧ s.clk.recovery = 0) ∧
    (let s : State := starting .checked (fun c => { c with recovery := 1 })
     s.ldie = .starting ∧ s.clk.step = .checked ∧ s.clk.recovery ≠ 0) ∧
    (let s : State := starting .chainWait id
     s.clk.step = .chainWait ∧ s.ldie = .starting) := by
  refine ⟨?_, ?_, ?_, ?_, ?_, ?_, ?_, ?_, ?_, ?_, ?_, ?_, ?_⟩ <;> decide +kernel

theorem witness_RangingEventsAndCommandsComplete :
    (let r : RangeRun := aRun
     let s : State := runs aRun
     s.range.run = some r ∧ r.slot = none ∧ s.ldie = .running ∧ r.busy = false) ∧
    (let r : RangeRun := { aRun with busy := true }
     let s : State := runs { aRun with busy := true }
     s.range.run = some r ∧ r.slot = none ∧ s.ldie = .running ∧ r.busy = true ∧ linkLive s = true) ∧
    (let r : RangeRun := { aRun with slot := some 5 }
     let n : Nat := 5
     let s : State := runs { aRun with slot := some 5 }
     s.range.run = some r ∧ r.slot = some n ∧ r.read = false) ∧
    (let r : RangeRun := { aRun with slot := some 5, read := true }
     let n : Nat := 5
     let s : State := runs { aRun with slot := some 5, read := true }
     s.range.run = some r ∧ r.slot = some n ∧ r.read = true) ∧
    (let r : Req := rq 0x80 [0x20, 0xFFFF]
     let s : State := ranging up
     let a := atRun infoRangeStart r s
     let toks := fld 7 0 r.object
     let ancs := fld 5 0 (arg r 0)
     let rounds := fld 15 8 (arg r 0)
     ready infoRangeStart r s = true ∧ rangeStartValid r a = true ∧ lockedOut a = false ∧ a.keys.state = .ready ∧ linkLive a = true ∧
     (bitList 8 toks).any (fun t => loads (tokenKey t a)) = true ∧ (bitList 6 ancs).all (fun n => loads (linkKey n a)) = true ∧ rounds = 0) ∧
    (let r : Req := rq 0x80 [0xFF20, 20]
     let s : State := ranging up
     let a := atRun infoRangeStart r s
     let toks := fld 7 0 r.object
     let ancs := fld 5 0 (arg r 0)
     let rounds := fld 15 8 (arg r 0)
     ready infoRangeStart r s = true ∧ rangeStartValid r a = true ∧ lockedOut a = false ∧ a.keys.state = .ready ∧ linkLive a = true ∧
     (bitList 8 toks).any (fun t => loads (tokenKey t a)) = true ∧ (bitList 6 ancs).all (fun n => loads (linkKey n a)) = true ∧ rounds ≠ 0 ∧
     a.range.run = none) ∧
    (let r : Req := rq 0 []
     let s : State := up
     ready infoRangeResult r s = true) ∧
    (let r : Req := rq 7 [0xFFFF, 0x8006FFFF]
     let s : State := up
     let a := atRun infoRangeZoneCfg r s
     let o := obj r
     ready infoRangeZoneCfg r s = true ∧ zoneCfgValid o r.payload = true ∧ a.range.run = none ∧ cfgKey o r.payload a = none ∧ (o < 0x100 ∨
     (0x200 ≤ o ∧ o < 0x300))) ∧
    (let r : Req := rq 0x300 [0x01400900, 0x203C0040, 0x001E000F]
     let s : State := up
     let a := atRun infoRangeZoneCfg r s
     let o := obj r
     ready infoRangeZoneCfg r s = true ∧ zoneCfgValid o r.payload = true ∧ a.range.run = none ∧ cfgKey o r.payload a = none ∧ (¬ (o < 0x100
     ∨ (0x200 ≤ o ∧ o < 0x300)))) ∧
    (let r : Req := rq 0 [1]
     let s : State := up
     ready infoLockoutClear r s = true ∧ onlyBits 1 (arg r 0) = true) ∧
    (let r : Req := rq 0 [0x7FFFFFFF]
     let s : State := up
     let a := atRun infoImmoCfg r s
     let w := arg r 0 &&& 0x80FF3F00
     ready infoImmoCfg r s = true ∧ ((bit 31 w = true → immoProfileOk w a = true)) ∧ a.range.run = none) := by
  refine ⟨?_, ?_, ?_, ?_, ?_, ?_, ?_, ?_, ?_, ?_, ?_⟩ <;> decide +kernel

theorem witness_FieldRegisterRowsComplete :
    (let i : Nat := 79
     let v : Word := 0x9C400001
     let r : Req := rq 0 []
     let s : State := up
     let r' := regReq (0x81000 + 4 * i) v r
     let a := atRun infoWriteReg r' s
     i < 80 ∧ ready infoWriteReg r' s = true ∧ groupOff 0x05 a = false ∧ pinCfgOk v = true ∧ ((List.range 80).filter (fun j => pinWet10 (if
     i ≤ j ∧ j < i + 1 then v else pinWanted j a))).length ≤ 16 ∧ linkLive a = true) ∧
    (let n : Nat := 2
     let v : Word := 0xFFFF
     let r : Req := rq 0 []
     let s : State := up
     let r' := regReq (0x80020 + 4 * n) v r
     let a := atRun infoWriteReg r' s
     n < 3 ∧ ready infoWriteReg r' s = true ∧ groupOff 0x05 a = false ∧ linkLive a = true) ∧
    (let r : Req := rq 0 []
     let s : State := up
     let r' := regReq 0x80004 1 r
     let a := atRun infoWriteReg r' s
     ready infoWriteReg r' s = true ∧ linkLive a = true) ∧
    (let i : Nat := 1023
     let v : Word := 0
     let r : Req := rq 0 []
     let s : State := up
     let r' := regReq (0x74000 + 4 * i) v r
     let a := atRun infoWriteReg r' s
     i < 1024 ∧ ready infoWriteReg r' s = true ∧ groupOff 0x04 a = false ∧ (a.light.engines.toList.any (fun x => (x.state == .running ||
     x.state == .waiting) && x.low < i + 1 && i ≤ x.high)) = false) ∧
    (let p : Nat := 1
     let c : Nat := 11
     let v : Word := 1
     let r : Req := rq 0 []
     let s : State := up
     let r' := regReq (0x70040 + 0x100 * p + 4 * c) v r
     let a := atRun infoWriteReg r' s
     p < 2 ∧ c < 12 ∧ ready infoWriteReg r' s = true ∧ coliSum (put (coliWanted p a) c v) ≤ max 2125 (coliSum (coliWanted p a)) ∧ linkLive a
     = true) ∧
    (let p : Nat := 1
     let v : Word := (portL 1 up).cfg ^^^ 0x40000000
     let r : Req := rq 0 []
     let s : State := up
     let r' := regReq (0x70000 + 0x100 * p) v r
     let a := atRun infoWriteReg r' s
     let old := portCfgComing p a
     let new := writeFields [rw 30 30, rw 29 29, rw 28 28, rwIn 27 26 0 1, rw 23 20, rwIn 19 16 0 8, rw 15 8, rw 0 0] old v
     p < 2 ∧ ready infoWriteReg r' s = true ∧ old &&& portPBits = new &&& portPBits ∧ bit 30 old ≠ bit 30 new ∧ linkLive a = true) ∧
    (let i : Nat := 1535
     let p : Nat := 1
     let b : Nat := 1
     let n : Nat := 766
     let v : Word := 0xFFFFFFFF
     let r : Req := rq 0 []
     let s : State := up
     let r' := regReq (0x78000 + 4 * i) v r
     let a := atRun infoWriteReg r' s
     i < 1536 ∧ windowPixel (0x8000 + 4 * i) = some (p, b, n) ∧ ready infoWriteReg r' s = true ∧ linkLive a = true) ∧
    (let v : Word := 0x7FFF
     let r : Req := rq 0 []
     let s : State := up
     let r' := regReq 0x70300 v r
     ready infoWriteReg r' s = true) := by
  refine ⟨?_, ?_, ?_, ?_, ?_, ?_, ?_, ?_⟩ <;> decide +kernel

theorem witness_NetworkRegisterRowsComplete :
    (let e : Nat := 2047
     let j : Nat := 3
     let v : Word := 0x7FFFFFFF
     let r : Req := rq 0 []
     let s : State := up
     let r' := regReq (0xB8000 + 0x10 * e + 4 * j) v r
     let a := atRun infoWriteReg r' s
     let u := modGw (fun x => { x with routes := x.routes.set (4 * e + j) v.toNat }) a
     e < 2048 ∧ j < 4 ∧ ready infoWriteReg r' s = true ∧ groupOff 0x06 a = false ∧ routeOk (routeAt e u) = true) ∧
    (let i : Nat := 15
     let win : Bool := true
     let v : Word := 0xFFFF
     let r : Req := rq 0 []
     let s : State := netTime 2 up
     let r' := regReq (0xAC100 + 8 * i + 4 * b2n win) v r
     let a := settleTrig i (atRun infoWriteReg r' s)
     let old := trigWords (nth a.can.trigs i)
     let c := if win then old.1 else v &&& 0xBFEFFFFF
     let w := if win then v &&& 0xFFFF else old.2
     i < 16 ∧ ready infoWriteReg r' s = true ∧ fld 29 27 c ≤ 6 ∧ w ≠ 0 ∧ trigFits a.can.nt.cycleT c = true) ∧
    (let n : Nat := 63
     let j : Nat := 0
     let v : Word := 0
     let r : Req := rq 0 []
     let s : State := up
     let r' := regReq (0xAD000 + 0x10 * n + 4 * j) v r
     let a := atRun infoWriteReg r' s
     let new := writeFields [rw 22 22, rw 21 16, rwIn 14 12 1 4, rwIn 11 8 3 8, rw 5 5, rw 4 4, rwIn 3 0 0 11] (canAuth n a).cfg v
     n < 64 ∧ j < 4 ∧ ready infoWriteReg r' s = true ∧ (entryFor infoWriteReg r' s).authed = true ∧ j = 0 ∧ bit 4 new = false) ∧
    (let n : Nat := 63
     let j : Nat := 0
     let v : Word := pack [(16, 63), (12, 4), (8, 8), (4, 1), (0, 11)]
     let r : Req := rq 0 []
     let s : State := withKey 63 3 up
     let r' := regReq (0xAD000 + 0x10 * n + 4 * j) v r
     let a := atRun infoWriteReg r' s
     let new := writeFields [rw 22 22, rw 21 16, rwIn 14 12 1 4, rwIn 11 8 3 8, rw 5 5, rw 4 4, rwIn 3 0 0 11] (canAuth n a).cfg v
     let slot := keySlot (fld 21 16 new) a
     n < 64 ∧ j < 4 ∧ ready infoWriteReg r' s = true ∧ (entryFor infoWriteReg r' s).authed = true ∧ j = 0 ∧ bit 4 new = true ∧ a.keys.state
     = .ready ∧ slot.occupied = true ∧ slot.purpose = 3) ∧
    (let n : Nat := 63
     let j : Nat := 1
     let v : Word := 0
     let r : Req := rq 0 []
     let s : State := up
     let r' := regReq (0xAD000 + 0x10 * n + 4 * j) v r
     n < 64 ∧ j < 4 ∧ ready infoWriteReg r' s = true ∧ (entryFor infoWriteReg r' s).authed = true ∧ j = 1) ∧
    (let n : Nat := 63
     let j : Nat := 3
     let v : Word := 0
     let r : Req := rq 0 []
     let s : State := up
     let r' := regReq (0xAD000 + 0x10 * n + 4 * j) v r
     n < 64 ∧ j < 4 ∧ ready infoWriteReg r' s = true ∧ (entryFor infoWriteReg r' s).authed = true ∧ 2 ≤ j) ∧
    (let v : Word := 1
     let r : Req := rq 0 []
     let s : State := up
     let r' := regReq 0x100008 v r
     ready infoWriteReg r' s = true) ∧
    (let v : Word := 18
     let r : Req := rq 0 []
     let s : State := up
     let r' := regReq 0x100204 v r
     ready infoWriteReg r' s = true ∧ fld 4 0 v ≤ 18) ∧
    (let k : Nat := 11
     let r : Req := rq 0 []
     let s : State := up
     let r' : Req := { r with object := word (0xA0024 + 0x1000 * k), payload := [] }
     k < 12 ∧ ready infoReadReg r' s = true) ∧
    (let n : Nat := 0x10000
     let v : Word := 1
     let r : Req := rq 0 []
     let s : State := up
     let r' := regReq n v r
     n < 2 ^ 32 ∧ ready infoWriteReg r' s = true) ∧
    (let n : Nat := 0x110048
     let v : Word := 1
     let r : Req := rq 0 []
     let s : State := up
     let r' := regReq n v r
     n < 2 ^ 32 ∧ n / 0x10000 ∈ [0x00, 0x06, 0x0D, 0x11] ∧ ready infoWriteReg r' s = true) ∧
    (let v : Word := 0xFF
     let r : Req := rq 0 []
     let s : State := up
     let r' := regReq 0xE000C v r
     ready infoWriteReg r' s = true) ∧
    (let m : Nat := 1
     let v : Word := 0xFFFFFFFF
     let r : Req := rq 0 []
     let s : State := up
     let r' := regReq (0x10204 + 0x40 * m) v r
     m < 2 ∧ ready infoWriteReg r' s = true) ∧
    (let v : Word := 1800
     let r : Req := rq 0 []
     let s : State := up
     let r' := regReq 0x30008 v r
     ready infoWriteReg r' s = true) := by
  refine ⟨?_, ?_, ?_, ?_, ?_, ?_, ?_, ?_, ?_, ?_, ?_, ?_, ?_, ?_⟩ <;> decide +kernel

theorem witness_ActuatorSenseAndFailsafeCommandsComplete :
    (let r : Req := rq 15 [0, 0, 0, 0, 0, 0]
     let s : State := up
     let x := atRun infoActProfileSet r s
     let a := obj r
     let p := profileOf r
     ready infoActProfileSet r s = true ∧ (actL a x).phase = 0 ∧ linkLive x = true ∧ p.kind = 0) ∧
    (let r : Req := rq 15 [coil.bind, coil.cur, coil.time, coil.chop, 0x10000, 0]
     let s : State := withSkein 47 { lamp 95 with cfg := (lamp 95).cfg ||| 0x80000 } up
     let x := atRun infoActProfileSet r s
     let a := obj r
     let p := profileOf r
     ready infoActProfileSet r s = true ∧ (actL a x).phase = 0 ∧ linkLive x = true ∧ p.kind ≠ 0 ∧ bindValid a p x = true ∧ fieldsValid p =
     true ∧ actCurrentsValid a p x = true ∧ clampValid a p x = true) ∧
    (let r : Req := rq 15 []
     let s : State := withSlot 15 (fun x => { x with prof := coil, phase := 3 }) (fun x => { x with prof := coil, phase := 3 }) (withSkein 47 { lamp 95 with cfg := (lamp 95).cfg ||| 0x80000 } up)
     let x := atRun infoActFire r s
     let a := obj r
     let p := (actL a x).prof
     ready infoActFire r s = true ∧ p.kind ≠ 0 ∧ linkLive x = true ∧ p.skeins.any (fun k => fireBarred k x) = false ∧ (actL a x).phase = 3) ∧
    (let r : Req := rq 15 []
     let s : State := withSlot 15 (fun x => { x with prof := coil, phase := 0 }) (fun x => { x with prof := coil, phase := 0 }) (withSkein 47 { lamp 95 with cfg := (lamp 95).cfg ||| 0x80000 } up)
     let x := atRun infoActFire r s
     let a := obj r
     let p := (actL a x).prof
     let u := modActL a (fun y => { y with aborted := false, deferred := false }) x
     ready infoActFire r s = true ∧ p.kind ≠ 0 ∧ linkLive x = true ∧ p.skeins.any (fun k => fireBarred k x) = false ∧ (actL a x).phase = 0 ∧
     fireBudget p x = none ∧ claimFits a u = true ∧ queued p u = false) ∧
    (let r : Req := rq 15 []
     let s : State := bankSlot
     let x := atRun infoActFire r s
     let a := obj r
     let p := (actL a x).prof
     let u := modActL a (fun y => { y with aborted := false, deferred := false }) x
     ready infoActFire r s = true ∧ p.kind ≠ 0 ∧ linkLive x = true ∧ p.skeins.any (fun k => fireBarred k x) = false ∧ (actL a x).phase = 0 ∧
     fireBudget p x = none ∧ (claimFits a u = false ∨ queued p u = true)) ∧
    (let r : Req := rq 15 []
     let s : State := withSlot 15 (fun x => { x with prof := coil, phase := 1 }) (fun x => { x with prof := coil, phase := 1 }) (withSkein 47 { lamp 95 with cfg := (lamp 95).cfg ||| 0x80000 } up)
     let x := atRun infoActStop r s
     let a := obj r
     ready infoActStop r s = true ∧ (actL a x).prof.kind ≠ 0 ∧ (actL a x).phase = 1) ∧
    (let r : Req := rq 15 []
     let s : State := withSlot 15 (fun x => { x with prof := coil, phase := 3 }) (fun x => { x with prof := coil, phase := 3 }) (withSkein 47 { lamp 95 with cfg := (lamp 95).cfg ||| 0x80000 } up)
     let x := atRun infoActStop r s
     let a := obj r
     ready infoActStop r s = true ∧ (actL a x).prof.kind ≠ 0 ∧ ((actL a x).phase = 2 ∨ (actL a x).phase = 3) ∧ linkLive x = true ∧ linkLive
     (setPhase a 4 x) = true) ∧
    (let r : Req := rq 15 []
     let s : State := withSlot 15 (fun x => { x with prof := coil, phase := 4 }) (fun x => { x with prof := coil, phase := 4 }) (withSkein 47 { lamp 95 with cfg := (lamp 95).cfg ||| 0x80000 } up)
     let x := atRun infoActStop r s
     let a := obj r
     ready infoActStop r s = true ∧ (actL a x).prof.kind ≠ 0 ∧ ((actL a x).phase = 0 ∨ 4 ≤ (actL a x).phase)) ∧
    (let r : Req := rq 15 []
     let s : State := withSlot 15 (fun x => { x with prof := coil, phase := 0 }) (fun x => { x with prof := coil, phase := 0 }) (withSkein 47 { lamp 95 with cfg := (lamp 95).cfg ||| 0x80000 } up)
     let x := atRun infoActStatus r s
     let a := obj r
     ready infoActStatus r s = true ∧ (actL a x).prof.kind ≠ 0) ∧
    (let r : Req := rq 47 [6]
     let s : State := withSkein 47 (lamp 95) up
     let a := atRun infoLoadClearLatch r s
     let k := skeinOf r
     let w := arg r 0
     let more := fld 2 1 w
     let c : CfgOut := { item := .clearLatch 47 3 }
     ready infoLoadClearLatch r s = true ∧ (defL k a).defined = true ∧ onlyBits 7 w = true ∧ c.item = .clearLatch k more ∧ c.refused = false) ∧
    (let r : Req := rq 47 [6]
     let s : State := withSkein 47 (lamp 95) up
     let a := atRun infoLoadClearLatch r s
     let k := skeinOf r
     let w := arg r 0
     ready infoLoadClearLatch r s = true ∧ (defL k a).defined = true ∧ onlyBits 7 w = true ∧ bit 0 w = false) ∧
    (let r : Req := rq 47 [1]
     let s : State := withSkein 47 (lamp 95) up
     let a := atRun infoLoadClearLatch r s
     let k := skeinOf r
     let w := arg r 0
     ready infoLoadClearLatch r s = true ∧ (defL k a).defined = true ∧ onlyBits 7 w = true ∧ bit 0 w = true ∧ (defL k a).cells.any (fun n =>
     (viewOf n a).gateStuck) = false ∧ linkLive a = true) ∧
    (let r : Req := rq 47 []
     let s : State := withSkein 47 (lamp 95) up
     let a := atRun infoLoadSense r s
     let k := skeinOf r
     let d := defL k a
     ready infoLoadSense r s = true ∧ d.defined = true ∧ linkLive a = true) ∧
    (let r : Req := rq 47 [0, 0]
     let s : State := withSkein 47 (lamp 95) up
     let a := atRun infoFailsafeSet r s
     let k := skeinOf r
     ready infoFailsafeSet r s = true ∧ failsafeOk k (arg r 0) (arg r 1) a = true ∧ linkLive a = true) := by
  refine ⟨?_, ?_, ?_, ?_, ?_, ?_, ?_, ?_, ?_, ?_, ?_, ?_, ?_, ?_⟩ <;> decide +kernel

theorem witness_LightCommandsComplete :
    (let r : Req := rq 47 [0xFFFF, 0]
     let s : State := withSkein 47 { lamp 95 with cfg := (lamp 95).cfg ||| 0x40000, period := pack [(16, 99), (0, 999)] } up
     let a := atRun infoDimSet r s
     let k := skeinOf r
     let l := fld 15 0 (arg r 0)
     ready infoDimSet r s = true ∧ (defL k a).defined = true ∧ (defL k a).owner = 1 ∧ (defL k a).static = false ∧ onlyBits 0xFFFF (arg r 0)
     = true ∧ onlyBits 0xFFFF (arg r 1) = true ∧ bit 1 (lightSk k a).cfg = false ∧ setPointCheck k (levelSp k l a) a = none ∧ linkLive a =
     true) ∧
    (let r : Req := rq 1 [pack [(16, 1), (0, 767)], 0xFFFF]
     let s : State := up
     let a := atRun infoMatrixWrite r s
     let p := obj r
     let first := fld 9 0 (arg r 0)
     let count := fld 25 16 (arg r 0)
     let px := r.payload.drop 1
     ready infoMatrixWrite r s = true ∧ 1 ≤ count ∧ count ≤ 510 ∧ first + count ≤ 768 ∧ px.length = ceilDiv count 2 ∧ bit 28 (portL p a).cfg
     = false ∧ linkLive a = true) ∧
    (let r : Req := rq 1 [0]
     let s : State := up
     let a := atRun infoMatrixSwap r s
     let p := obj r
     ready infoMatrixSwap r s = true ∧ bit 28 (portL p a).cfg = false ∧ linkLive a = true) ∧
    (let r : Req := rq 1023 [0]
     let s : State := up
     let a := atRun infoWhorlLoad r s
     let stop := obj r + r.payload.length
     ready infoWhorlLoad r s = true ∧ stop ≤ 1024 ∧ (a.light.engines.toList.any (fun x => (x.state == .running || x.state == .waiting) &&
     x.low < stop && obj r ≤ x.high)) = false) ∧
    (let r : Req := rq 15 [1023, pack [(16, 1023), (0, 0)]]
     let s : State := up
     let a := atRun infoWhorlRun r s
     let start := fld 9 0 (arg r 0)
     let low := fld 9 0 (arg r 1)
     let high := fld 25 16 (arg r 1)
     ready infoWhorlRun r s = true ∧ low ≤ start ∧ start ≤ high ∧ (engine (obj r) a).state ≠ .running ∧ (engine (obj r) a).state ≠ .waiting) ∧
    (let r : Req := rq 15 []
     let s : State := up
     ready infoWhorlStop r s = true) ∧
    (let r : Req := rq 47 []
     let s : State := withSkein 47 { lamp 95 with cfg := (lamp 95).cfg ||| 0x40000 } up
     let a := atRun infoDerateGet r s
     let k := obj r % 48
     ready infoDerateGet r s = true ∧ obj r < 192 ∧ (defL k a).defined = true ∧ (defL k a).owner = 1) ∧
    (let r : Req := rq 257 []
     let s : State := up
     ready infoDerateGet r s = true ∧ 192 ≤ obj r) := by
  refine ⟨?_, ?_, ?_, ?_, ?_, ?_, ?_, ?_⟩ <;> decide +kernel

theorem witness_CanCommandsComplete :
    (let r : Req := rq 11 (canWords 1)
     let s : State := modCtl 11 (fun c => { c with state := .busOff }) up
     let a := atRun infoCanCfg r s
     let k := obj r
     let old := canCtl k a
     let n := canCfgOf r
     let c : CanCfg := { n with ctl := n.ctl &&& 0x0001FFF7, tdc := n.tdc &&& 0xFF7F0000 }
     ready infoCanCfg r s = true ∧ canCfgOk k n = true ∧ old.state = .busOff ∧ c.mode = 1) ∧
    (let r : Req := rq 11 (canWords 1)
     let s : State := modCtl 11 (fun c => { c with cfg := canCfgOf (rq 11 (canWords 1)) }) up
     let a := atRun infoCanCfg r s
     let k := obj r
     let old := canCtl k a
     let n := canCfgOf r
     let c : CanCfg := { n with ctl := n.ctl &&& 0x0001FFF7, tdc := n.tdc &&& 0xFF7F0000 }
     ready infoCanCfg r s = true ∧ canCfgOk k n = true ∧ ¬ (old.state = .busOff ∧ c.mode = 1) ∧ lasting c = lasting old.cfg) ∧
    (let r : Req := rq 11 (canWords 0)
     let s : State := modCtl 11 (fun c => { c with cfg := { c.cfg with ctl := 1 } }) (can .active [])
     let a := atRun infoCanCfg r s
     let k := obj r
     let old := canCtl k a
     let n := canCfgOf r
     let c : CanCfg := { n with ctl := n.ctl &&& 0x0001FFF7, tdc := n.tdc &&& 0xFF7F0000 }
     ready infoCanCfg r s = true ∧ canCfgOk k n = true ∧ ¬ (old.state = .busOff ∧ c.mode = 1) ∧ lasting c ≠ lasting old.cfg ∧ c.mode = 0) ∧
    (let r : Req := rq 11 (canWords 1)
     let s : State := up
     let a := atRun infoCanCfg r s
     let k := obj r
     let old := canCtl k a
     let n := canCfgOf r
     let c : CanCfg := { n with ctl := n.ctl &&& 0x0001FFF7, tdc := n.tdc &&& 0xFF7F0000 }
     ready infoCanCfg r s = true ∧ canCfgOk k n = true ∧ ¬ (old.state = .busOff ∧ c.mode = 1) ∧ lasting c ≠ lasting old.cfg ∧ c.mode ≠ 0) ∧
    (let r : Req := rq 11 [0x7FF, 4, 0, 0, 1]
     let s : State := protectedCan
     let a := atRun infoCanTx r s
     let k := obj r
     let w1 := arg r 1
     let c := canCtl k a
     let f := txFrame r
     let prof := if bit 11 w1 then none else authProfileOf k true (arg r 0) a
     let extra := (prof.map (fun n => (canAuth n a).extra)).getD 0
     let slots := frameSlots { f with data := f.data ++ List.replicate extra 0 }
     let n := 63
     let key := List.replicate 16 (0x5A : Byte)
     ready infoCanTx r s = true ∧ ((bit 21 w1 = true ∨ c.state = .active ∨ c.state = .integrating)) ∧ (nth a.nm.chans k).phase ≠ 2 ∧
     canTxValid k r extra a = true ∧ ((bit 21 w1 = true ∨ (if bit 14 w1 then slotsUsed c.urgent + slots ≤ 16 else slotsUsed c.normal + slots
     ≤ 64))) ∧ prof = some n ∧ bit 21 w1 = false) ∧
    (let r : Req := rq 11 [0x7FF, 8, 0, 0, 1, 2]
     let s : State := can .active []
     let a := atRun infoCanTx r s
     let k := obj r
     let w1 := arg r 1
     let c := canCtl k a
     let f := txFrame r
     let prof := if bit 11 w1 then none else authProfileOf k true (arg r 0) a
     let extra := (prof.map (fun n => (canAuth n a).extra)).getD 0
     let slots := frameSlots { f with data := f.data ++ List.replicate extra 0 }
     ready infoCanTx r s = true ∧ ((bit 21 w1 = true ∨ c.state = .active ∨ c.state = .integrating)) ∧ (nth a.nm.chans k).phase ≠ 2 ∧
     canTxValid k r extra a = true ∧ ((bit 21 w1 = true ∨ (if bit 14 w1 then slotsUsed c.urgent + slots ≤ 16 else slotsUsed c.normal + slots
     ≤ 64))) ∧ prof = none ∧ bit 21 w1 = false) ∧
    (let r : Req := rq 11 [0x7FF, pack [(21, 1), (16, 15), (0, 8)], 0, 0, 1, 2]
     let s : State := netTime 2 (can .active [])
     let a := atRun infoCanTx r s
     let k := obj r
     let w1 := arg r 1
     let c := canCtl k a
     let f := txFrame r
     let prof := if bit 11 w1 then none else authProfileOf k true (arg r 0) a
     let extra := (prof.map (fun n => (canAuth n a).extra)).getD 0
     let slots := frameSlots { f with data := f.data ++ List.replicate extra 0 }
     ready infoCanTx r s = true ∧ ((bit 21 w1 = true ∨ c.state = .active ∨ c.state = .integrating)) ∧ (nth a.nm.chans k).phase ≠ 2 ∧
     canTxValid k r extra a = true ∧ ((bit 21 w1 = true ∨ (if bit 14 w1 then slotsUsed c.urgent + slots ≤ 16 else slotsUsed c.normal + slots
     ≤ 64))) ∧ prof = none ∧ bit 21 w1 = true) ∧
    (let r : Req := rq 0xB1F [0]
     let s : State := up
     ready infoCanRxRead r s = true) ∧
    (let r : Req := rq 0xB3F [1, 0x3FFFFFFF, 0x1FFFFFFF, 0]
     let s : State := can .active []
     let a := atRun infoCanFilterSet r s
     let k := fld 11 8 r.object
     let j := fld 5 0 r.object
     let n := (arg r 0).toNat
     ready infoCanFilterSet r s = true ∧ 1 ≤ n ∧ n ≤ 64 ∧ j + n ≤ 64 ∧ ((List.range n).map (filterArg r)).all (filterOk k) = true ∧ (canCtl
     k a).onBus = true) ∧
    (let r : Req := rq 0xB3F [1, 0x3FFFFFFF, 0x1FFFFFFF, 0]
     let s : State := up
     let a := atRun infoCanFilterSet r s
     let k := fld 11 8 r.object
     let j := fld 5 0 r.object
     let n := (arg r 0).toNat
     ready infoCanFilterSet r s = true ∧ 1 ≤ n ∧ n ≤ 64 ∧ j + n ≤ 64 ∧ ((List.range n).map (filterArg r)).all (filterOk k) = true ∧ (canCtl
     k a).onBus = false) := by
  refine ⟨?_, ?_, ?_, ?_, ?_, ?_, ?_, ?_, ?_, ?_⟩ <;> decide +kernel

theorem witness_CanCommandsComplete_loads :
    (let r : Req := rq 11 [0x7FF, 4, 0, 0, 1]
     let s : State := protectedCan
     let a := atRun infoCanTx r s
     let k := obj r
     let w1 := arg r 1
     let c := canCtl k a
     let f := txFrame r
     let prof := if bit 11 w1 then none else authProfileOf k true (arg r 0) a
     let extra := (prof.map (fun n => (canAuth n a).extra)).getD 0
     let slots := frameSlots { f with data := f.data ++ List.replicate extra 0 }
     let n := 63
     let key := List.replicate 16 (0x5A : Byte)
     authLoad n a = .ok key) := rfl

theorem witness_NetworkCommandsComplete :
    (let r : Req := rq 0 [pack [(16, 7), (0, 11)], 0x7FFFFFFF, 200000000]
     let s : State := up
     let a := atRun infoNtCfg r s
     let cfg := arg r 0 &&& 0x000711FF
     let cyc := (arg r 2).toNat
     ready infoNtCfg r s = true ∧ fld 3 0 cfg ≤ 11 ∧ 1 ≤ fld 18 16 cfg ∧ 20000 ≤ cyc ∧ cyc ≤ 200000000 ∧ a.can.trigs.toList.all (fun t =>
     trigFits cyc t.cfg && trigFits cyc ((t.next.map (fun x => x.1)).getD t.cfg)) = true) ∧
    (let r : Req := rq 11 [1]
     let s : State := ring 3 id
     let a := atRun infoNmSleepReq r s
     let c := obj r
     let u := modCh c (fun x => { x with need := false }) a
     ready infoNmSleepReq r s = true ∧ (nmCh c a).en = true ∧ onlyBits 1 (arg r 0) = true ∧ bit 0 (arg r 0) = true ∧ (nmCh c u).phase = 3) ∧
    (let r : Req := rq 11 [1]
     let s : State := ring 1 id
     let a := atRun infoNmSleepReq r s
     let c := obj r
     let u := modCh c (fun x => { x with need := false }) a
     ready infoNmSleepReq r s = true ∧ (nmCh c a).en = true ∧ onlyBits 1 (arg r 0) = true ∧ bit 0 (arg r 0) = true ∧ (nmCh c u).phase ≠ 3) ∧
    (let r : Req := rq 11 [0]
     let s : State := ring 1 id
     let a := atRun infoNmSleepReq r s
     let c := obj r
     let v := nmComplete c 1 2 (modCh c (fun x => { x with need := true }) a)
     let w := if (nmCh c a).need && (nmCh c v).phase != 3 then v else wakeNm c 4 v
     ready infoNmSleepReq r s = true ∧ (nmCh c a).en = true ∧ onlyBits 1 (arg r 0) = true ∧ bit 0 (arg r 0) = false ∧ (nmCh c w).phase = 1) ∧
    (let r : Req := rq 11 [0]
     let s : State := ring 2 id
     let a := atRun infoNmSleepReq r s
     let c := obj r
     let v := nmComplete c 1 2 (modCh c (fun x => { x with need := true }) a)
     let w := if (nmCh c a).need && (nmCh c v).phase != 3 then v else wakeNm c 4 v
     ready infoNmSleepReq r s = true ∧ (nmCh c a).en = true ∧ onlyBits 1 (arg r 0) = true ∧ bit 0 (arg r 0) = false ∧ (nmCh c w).phase ≠ 1) ∧
    (let r : Req := rq 11 []
     let s : State := up
     ready infoNmStatus r s = true) ∧
    (let r : Req := rq 2047 [1, 0, 0, 0, 0]
     let s : State := up
     let a := atRun infoGwRouteSet r s
     let n := (arg r 0).toNat
     let u := modGw (fun x =>
       { x with routes := (List.range (4 * n)).foldl (fun t j => t.set (4 * obj r + j) (arg r (1 + j)).toNat) x.routes }) a
     ready infoGwRouteSet r s = true ∧ r.payload.length = 1 + 4 * n ∧ obj r + n ≤ 2048 ∧ ((∀ i, i < n → routeOk (routeAt (obj r + i) u) =
     true))) := by
  refine ⟨?_, ?_, ?_, ?_, ?_, ?_, ?_⟩ <;> decide +kernel

theorem witness_KeyCommandsComplete :
    (let r : Req := rq 63 provision
     let s : State := up
     let a := atRun infoKeyProvision r s
     let w := arg r 0
     let n := obj r
     let b := (wordsToBytes r.payload).drop 4
     let size := if bit 23 w then 32 else 16
     let ct := (b.drop 12).take size
     let ses := (slotOf r.slot a).session.getD {}
     let ktk := kdf (keyBytes ses.key) (ascii "EODEN-KTK") ses.nonce 16
     ready infoKeyProvision r s = true ∧ fieldsFit (fld 19 16 w) (fld 11 8 w) (bit 23 w) = true ∧ r.payload.length = (if bit 23 w then 16
     else 12) ∧ onlyBits 0x008F0F00 w = true ∧ hasKeys r a = true ∧ a.weft.tamper = false ∧ a.keys.state = .ready ∧ (keySlot n a).occupied =
     false ∧ (keySlot n a).gen ≠ 0xFFFF ∧ gcmTag ktk (b.take 12) (bytesLE 4 w.toNat ++ bytesLE 4 n) ct = (b.drop (12 + size)).take 16) ∧
    (let r : Req := rq 62 [pack [(16, 8), (0, 63)], pack [(8, 64), (0, 32)], 0, 0, 0, 0, 0, 0, 0, 0, 0, 0, 0, 0, 0, 0, 0, 0, 0, 0, 0, 0, 0, 0, 0, 0]
     let s : State := withKey 62 1 up
     let a := atRun infoKeyDerive r s
     let w := arg r 0
     let p := obj r
     let c := fld 5 0 w
     let ll := fld 5 0 (arg r 1)
     let cl := fld 14 8 (arg r 1)
     let par := keySlot p a
     let old := keySlot c a
     ready infoKeyDerive r s = true ∧ p ≠ c ∧ fieldsFit (fld 19 16 w) (fld 27 24 w) (bit 23 w) = true ∧ 1 ≤ ll ∧ ll ≤ 32 ∧ cl ≤ 64 ∧ 4 *
     r.payload.length = 8 + padded ll + padded cl ∧ onlyBits 0x0F8F003F w = true ∧ par.depth ≤ 3 ∧ hasKeys r a = true ∧ a.weft.tamper =
     false ∧ a.keys.state = .ready ∧ par.occupied = true ∧ par.purpose = 1 ∧ stale p a = false ∧ ((old.occupied = false ∨ stale c a = true))
     ∧ old.gen ≠ 0xFFFF) ∧
    (let r : Req := rq 63 [1]
     let s : State := up
     let a := atRun infoKeyInvalidate r s
     let n := obj r
     ready infoKeyInvalidate r s = true ∧ obj r < 64 ∧ onlyBits 1 (arg r 0) = true ∧ hasKeys r a = true ∧ a.keys.state = .ready ∧ (keySlot n
     a).occupied = false) ∧
    (let r : Req := rq 63 [0]
     let s : State := withKey 63 8 up
     let a := atRun infoKeyInvalidate r s
     let n := obj r
     ready infoKeyInvalidate r s = true ∧ obj r < 64 ∧ onlyBits 1 (arg r 0) = true ∧ hasKeys r a = true ∧ a.keys.state = .ready ∧ (keySlot n
     a).occupied = true) ∧
    (let r : Req := rq 0 [0x52455449]
     let s : State := up
     let r' : Req := { r with object := 0x40 }
     let a := atRun infoKeyInvalidate r' s
     ready infoKeyInvalidate r' s = true ∧ arg r 0 = 0x52455449 ∧ hasKeys r' a = true) ∧
    (let r : Req := rq 64 []
     let s : State := up
     let n := obj r
     ready infoKeyInfo r s = true ∧ n = 64) ∧
    (let r : Req := rq 63 []
     let s : State := up
     let n := obj r
     ready infoKeyInfo r s = true ∧ n < 64) ∧
    (let r : Req := rq 0 [0x5A45524F]
     let s : State := up
     let a := atRun infoZeroise r s
     ready infoZeroise r s = true ∧ arg r 0 = 0x5A45524F ∧ hasKeys r a = true ∧ a.keys.state = .ready) := by
  refine ⟨?_, ?_, ?_, ?_, ?_, ?_, ?_, ?_⟩ <;> decide +kernel

theorem witness_CryptoCommandsComplete :
    (let r : Req := rq 63 [0x01, 16, 0, 0, 0, 0]
     let s : State := withKey 63 5 up
     let key : List Byte := List.replicate 16 0x5A
     let r' := withOp 1 r
     let a := atRun infoCryptoOp r' s
     ready infoCryptoOp r' s = true ∧ cryptoValid r' a = true) ∧
    (let r : Req := rq 63 [0x02, 16, 0, 0, 0, 0]
     let s : State := withKey 63 6 up
     let key : List Byte := List.replicate 16 0x5A
     let r' := withOp 2 r
     let a := atRun infoCryptoOp r' s
     ready infoCryptoOp r' s = true ∧ cryptoValid r' a = true) ∧
    (let r : Req := rq 63 [0x03, 16, 0, 0, 0, 0]
     let s : State := withKey 63 7 up
     let key : List Byte := List.replicate 16 0x5A
     let r' := withOp 3 r
     let a := atRun infoCryptoOp r' s
     ready infoCryptoOp r' s = true ∧ cryptoValid r' a = true) ∧
    (let r : Req := rq 63 [0x00100004, 16, 0, 0, 0, 0, 0, 0, 0, 0]
     let s : State := withKey 63 8 up
     let key : List Byte := List.replicate 16 0x5A
     let r' := withOp 4 r
     let a := atRun infoCryptoOp r' s
     ready infoCryptoOp r' s = true ∧ cryptoValid r' a = true) ∧
    (let r : Req := rq 0 [0x005, 3, 0x00636261]
     let s : State := up
     let r' := withOp 5 r
     let a := atRun infoCryptoOp r' s
     ready infoCryptoOp r' s = true ∧ cryptoValid r' a = true) ∧
    (let r : Req := rq 0 (6 :: List.replicate 41 0)
     let s : State := up
     let r' := withOp 6 r
     let a := atRun infoCryptoOp r' s
     ready infoCryptoOp r' s = true ∧ cryptoValid r' a = true) ∧
    (let r : Req := rq 0 [7, 256]
     let s : State := up
     let r' := withOp 7 r
     let a := atRun infoCryptoOp r' s
     ready infoCryptoOp r' s = true ∧ cryptoValid r' a = true ∧ a.keys.trngFail = false) := by
  refine ⟨?_, ?_, ?_, ?_, ?_, ?_, ?_⟩ <;> decide +kernel

theorem witness_CryptoCommandsComplete_loads :
    (let r : Req := rq 63 [0x01, 16, 0, 0, 0, 0]
     let s : State := withKey 63 5 up
     let key : List Byte := List.replicate 16 0x5A
     let r' := withOp 1 r
     let a := atRun infoCryptoOp r' s
     loadCheck (obj r) 5 none a = .ok key) ∧
    (let r : Req := rq 63 [0x02, 16, 0, 0, 0, 0]
     let s : State := withKey 63 6 up
     let key : List Byte := List.replicate 16 0x5A
     let r' := withOp 2 r
     let a := atRun infoCryptoOp r' s
     loadCheck (obj r) 6 none a = .ok key) ∧
    (let r : Req := rq 63 [0x03, 16, 0, 0, 0, 0]
     let s : State := withKey 63 7 up
     let key : List Byte := List.replicate 16 0x5A
     let r' := withOp 3 r
     let a := atRun infoCryptoOp r' s
     loadCheck (obj r) 7 none a = .ok key) ∧
    (let r : Req := rq 63 [0x00100004, 16, 0, 0, 0, 0, 0, 0, 0, 0]
     let s : State := withKey 63 8 up
     let key : List Byte := List.replicate 16 0x5A
     let r' := withOp 4 r
     let a := atRun infoCryptoOp r' s
     loadCheck (obj r) 8 none a = .ok key) := ⟨rfl, rfl, rfl, rfl⟩

theorem witness_ConfigCommandsComplete :
    (let r : Req := rq 0 aRecord
     let l : List CfgRec := [{ cls := 1, inst := 0, data := [] }]
     let s : State := up
     let stage := fun (base : List CfgRec) (l : List CfgRec) => l.foldl mergeRec base
     let r' : Req := { r with object := 0 }
     let a := atRun infoCfgWrite r' s
     ready infoCfgWrite r' s = true) ∧
    (let r : Req := rq 0 aRecord
     let l : List CfgRec := [{ cls := 1, inst := 0, data := [] }]
     let s : State := up
     let stage := fun (base : List CfgRec) (l : List CfgRec) => l.foldl mergeRec base
     let r' : Req := { r with object := 1 }
     ready infoCfgWrite r' s = true) ∧
    (let r : Req := rq 0 aRecord
     let l : List CfgRec := [{ cls := 1, inst := 0, data := [] }]
     let s : State := modStore (fun x => { x with staged := true }) up
     let stage := fun (base : List CfgRec) (l : List CfgRec) => l.foldl mergeRec base
     let r' : Req := { r with object := 2 }
     let a := atRun infoCfgWrite r' s
     ready infoCfgWrite r' s = true) ∧
    (let r : Req := rq 0 aRecord
     let l : List CfgRec := [{ cls := 1, inst := 0, data := [] }]
     let s : State := modStore (fun x => { x with staged := true }) up
     let stage := fun (base : List CfgRec) (l : List CfgRec) => l.foldl mergeRec base
     let r' : Req := { r with object := 3 }
     let a := atRun infoCfgWrite r' s
     ready infoCfgWrite r' s = true) ∧
    (let r : Req := rq 0 [0x7FFE]
     let s : State := up
     let r' : Req := { r with object := 4 }
     let a := atRun infoCfgWrite r' s
     let m := (arg r 0).toNat
     let e : CfgEdit := { clear := m, recs := ((List.range 15).map (fun c => if m.testBit c then liveRecs c a else [])).flatten }
     ready infoCfgWrite r' s = true ∧ r.payload.length = 1 ∧ m &&& 0x7FFE = m ∧ m ≠ 0 ∧ bankBytes (e.apply (workRecs a)) ≤ 131072) ∧
    (let r : Req := rq 0xFFFFFFFF [5]
     let s : State := up
     let a := atRun infoCfgRead r s
     ready infoCfgRead r s = true ∧ a.store.writing = none) ∧
    (let r : Req := rq 1 [0]
     let s : State := modStore (fun x => { x with writing := some [] }) up
     let a := atRun infoCfgRead r s
     ready infoCfgRead r s = true ∧ a.store.writing.isSome = true) := by
  refine ⟨?_, ?_, ?_, ?_, ?_, ?_, ?_⟩ <;> decide +kernel

theorem witness_ConfigCommandsComplete_loads :
    (let r : Req := rq 0 aRecord
     let l : List CfgRec := [{ cls := 1, inst := 0, data := [] }]
     let s : State := up
     let stage := fun (base : List CfgRec) (l : List CfgRec) => l.foldl mergeRec base
     let r' : Req := { r with object := 0 }
     let a := atRun infoCfgWrite r' s
     cfgChecks (parseRecs r.payload.length r.payload) (fun l => bankBytes (stage (workRecs a) l)) true = .ok l) ∧
    (let r : Req := rq 0 aRecord
     let l : List CfgRec := [{ cls := 1, inst := 0, data := [] }]
     let s : State := up
     let stage := fun (base : List CfgRec) (l : List CfgRec) => l.foldl mergeRec base
     let r' : Req := { r with object := 1 }
     cfgChecks (parseRecs r.payload.length r.payload) (fun l => bankBytes (stage [] l)) true = .ok l) ∧
    (let r : Req := rq 0 aRecord
     let l : List CfgRec := [{ cls := 1, inst := 0, data := [] }]
     let s : State := modStore (fun x => { x with staged := true }) up
     let stage := fun (base : List CfgRec) (l : List CfgRec) => l.foldl mergeRec base
     let r' : Req := { r with object := 2 }
     let a := atRun infoCfgWrite r' s
     cfgChecks (parseRecs r.payload.length r.payload) (fun l => bankBytes (stage a.store.staging l)) true = .ok l) ∧
    (let r : Req := rq 0 aRecord
     let l : List CfgRec := [{ cls := 1, inst := 0, data := [] }]
     let s : State := modStore (fun x => { x with staged := true }) up
     let stage := fun (base : List CfgRec) (l : List CfgRec) => l.foldl mergeRec base
     let r' : Req := { r with object := 3 }
     let a := atRun infoCfgWrite r' s
     cfgChecks (parseRecs r.payload.length r.payload) (fun l => bankBytes (stage a.store.staging l)) a.store.staged = .ok l) := ⟨rfl, rfl, rfl, rfl⟩

theorem witness_UpdateCommandsComplete :
    (let r : Req := rq 0 (crc32c (List.replicate 512 0) :: List.replicate 128 0)
     let s : State := modStore (fun x => { x with writing := some [] }) (modFw true (fun f => { f with desc := some { nblk := 1, len := 512, srecNew := 0, srecMin := 0, cfmtNew := 0, cfmtMin := 0 } }) (receivingUpdate 1))
     let a := atRun infoUpdateBlock r s
     let b := checkHolder a
     let ws := args r 1 128
     ready infoUpdateBlock r s = true ∧ b.store.upd.state = 1 ∧ holds r.slot b = true ∧ obj r < (bankDesc (otherBank b) b).nblk ∧ crc32c
     (wordsToBytes ws) = arg r 0 ∧ bankWrites b = true) ∧
    (let r : Req := rq 0 (crc32c (List.replicate 512 0) :: List.replicate 128 0)
     let s : State := modFw true (fun f => { f with desc := some { nblk := 1, len := 512, srecNew := 0, srecMin := 0, cfmtNew := 0, cfmtMin := 0 } }) (receivingUpdate 1)
     let a := atRun infoUpdateBlock r s
     let b := checkHolder a
     let ws := args r 1 128
     ready infoUpdateBlock r s = true ∧ b.store.upd.state = 1 ∧ holds r.slot b = true ∧ obj r < (bankDesc (otherBank b) b).nblk ∧ crc32c
     (wordsToBytes ws) = arg r 0 ∧ bankWrites b = false) ∧
    (let r : Req := rq 0 []
     let s : State := receivingUpdate 1
     let a := checkHolder (atRun infoUpdateVerify r s)
     ready infoUpdateVerify r s = true ∧ a.store.upd.state = 1 ∧ holds r.slot a = true ∧ missingBlock a = none) ∧
    (let r : Req := rq 0 []
     let s : State := receivingUpdate 2
     let a := checkHolder (atRun infoUpdateCommit r s)
     ready infoUpdateCommit r s = true ∧ a.store.upd.state = 2 ∧ holds r.slot a = true) ∧
    (let r : Req := rq 0 []
     let s : State := { receivingUpdate 2 with ldie := .recovery }
     let a := checkHolder (atRun infoUpdateCommit r s)
     ready infoUpdateCommit r s = true ∧ a.store.upd.state = 2 ∧ holds r.slot a = true ∧ s.ldie = .recovery) ∧
    (let r : Req := rq 0 []
     let s : State := up
     let a := checkHolder (atRun infoUpdateAbort r s)
     ready infoUpdateAbort r s = true ∧ a.store.upd.state = 0) ∧
    (let r : Req := rq 0 []
     let s : State := receivingUpdate 2
     let a := checkHolder (atRun infoUpdateAbort r s)
     ready infoUpdateAbort r s = true ∧ (a.store.upd.state = 1 ∨ a.store.upd.state = 2) ∧ holds r.slot a = true) ∧
    (let r : Req := rq 0 []
     let s : State := modStore (fun x => { x with boot := { x.boot with trial := true } }) (receivingUpdate 4)
     let a := checkHolder (atRun infoUpdateAbort r s)
     ready infoUpdateAbort r s = true ∧ a.store.upd.state = 4 ∧ a.store.boot.trial = true) ∧
    (let r : Req := rq 0 []
     let s : State := modStore (fun x => { x with boot := { x.boot with trial := true } }) (receivingUpdate 4)
     let a := atRun infoUpdateConfirm r s
     ready infoUpdateConfirm r s = true ∧ a.store.upd.state = 4 ∧ a.store.boot.trial = true ∧ a.store.upd.op = none) := by
  refine ⟨?_, ?_, ?_, ?_, ?_, ?_, ?_, ?_, ?_⟩ <;> decide +kernel

theorem witness_FaultAndSnapshotCommandsComplete :
    (let r : Req := rq 0 []
     let s : State := up
     ready infoFaultStatus r s = true) ∧
    (let r : Req := rq 0 [0x11F1F]
     let s : State := up
     ready infoFaultAck r s = true ∧ onlyBits 0x11F1F (arg r 0) = true) ∧
    (let r : Req := rq 4 []
     let s : State := up
     ready infoFaultCaptureRead r s = true) ∧
    (let r : Req := rq 0x003 [0x14]
     let s : State := up
     ready infoFaultReactionSet r s = true ∧ reactionOk (obj r) (arg r 0) = true) ∧
    (let r : Req := rq 0x003 [0xFF]
     let s : State := modFaults (fun f => { f with ctl := 1 }) up
     let a := atRun infoFaultInject r s
     let w := arg r 0
     ready infoFaultInject r s = true ∧ bit 0 a.faults.ctl = true ∧ (srcInfo (obj r)).isSome = true ∧ bit 8 w = false) ∧
    (let r : Req := rq 0x003 [0x100]
     let s : State := modFaults (fun f => { f with ctl := 1 }) up
     let a := atRun infoFaultInject r s
     let w := arg r 0
     ready infoFaultInject r s = true ∧ bit 0 a.faults.ctl = true ∧ (srcInfo (obj r)).isSome = true ∧ bit 8 w = true ∧ obj r = 0x003) ∧
    (let r : Req := rq 0x040 [0x100]
     let s : State := modFaults (fun f => { f with ctl := 1 }) up
     let a := atRun infoFaultInject r s
     let w := arg r 0
     ready infoFaultInject r s = true ∧ bit 0 a.faults.ctl = true ∧ (srcInfo (obj r)).isSome = true ∧ bit 8 w = true ∧ obj r = 0x040 ∧
     a.split = false) ∧
    (let r : Req := rq 3 []
     let s : State := up
     let n := obj r % 4
     let chain := r.object.getLsbD 8
     let t0 := (arrived r s).now
     let t := latchTick t0 r
     ready infoSnapTake r s = true ∧ t < 2 ^ 64 ∧ t0 + snapLead chain ≤ t ∧ t ≤ t0 + 200000000 ∧ (reelSet n (heldAt infoSnapTake r s)).held
     = false) ∧
    (let r : Req := rq 3 [0x100000, 1]
     let s : State := modSet 3 (fun x => { x with held := true }) up
     let a := atRun infoSnapRead r s
     let x := reelSet (obj r) a
     ready infoSnapRead r s = true ∧ x.held = true ∧ countArgs r = true ∧ setPending x a = false ∧ x.pending = false) ∧
    (let r : Req := rq 3 [0x100000, 1]
     let s : State := modSet 3 (fun x => { x with held := true, pending := true, tick := 7 }) up
     let a := atRun infoSnapRead r s
     let x := reelSet (obj r) a
     ready infoSnapRead r s = true ∧ x.held = true ∧ countArgs r = true ∧ setPending x a = false ∧ x.pending = true) ∧
    (let r : Req := rq 3 []
     let s : State := modSet 3 (fun x => { x with held := true }) up
     let a := atRun infoSnapRelease r s
     ready infoSnapRelease r s = true ∧ setPending (reelSet (obj r) a) a = false) ∧
    (let r : Req := rq 0 [0x100000, 256]
     let s : State := up
     ready infoCounterRead r s = true ∧ countArgs r = true) := by
  refine ⟨?_, ?_, ?_, ?_, ?_, ?_, ?_, ?_, ?_, ?_, ?_, ?_⟩ <;> decide +kernel

/-! ### The statements about every command -/

/-- Slot 0 of QSPI with no session. -/
def closed : State := modHost (fun h => { h with slots := #v[{ port := some .qspi }, {}, {}, {}] }) up

/-- A command of slot 0 in flight, waiting for the next latch. -/
def anAligned : Entry := { inFlight 0x0503 .aligned .none with req := { rq 0 [] with tag := 9 } }

theorem witness_StepRunsFrontCommand : State.reset.pending = [] := rfl

theorem witness_StrapsHoldBetweenResets : samples (.trstn 0) = false ∧ ∃ t, exec (.trstn 0) up = .next t := ⟨rfl, _, rfl⟩

theorem witness_EveryStepKeepsInvariant : State.reset.Inv ∧ ∃ t, step State.reset = .next t :=
  ⟨⟨by decide, by simp [State.reset]⟩, _, rfl⟩

theorem witness_KeysChangeOnlyByKeySteps : keyStep (.trstn 0) = false ∧ ∃ t, exec (.trstn 0) up = .next t := ⟨rfl, _, rfl⟩

theorem witness_QueriesChangeHostSideOnly :
    (portStep (.qspiStatus 0) = true ∧ ∃ t, exec (.qspiStatus 0) up = .next t) ∧
    (queryOrSession (.ping (rq 0 [])) = true ∧ hostRow (.ping (rq 0 [])) = some (infoPing, rq 0 []) ∧
      (∃ t, exec (.ping (rq 0 [])) up = .next t) ∧ 3 ≠ (rq 0 []).slot) :=
  ⟨⟨rfl, _, rfl⟩, rfl, rfl, ⟨_, rfl⟩, by decide⟩

theorem witness_PDieStepsStayOnPDie : pdieStep (.gateStuck 0 95) = true ∧ ∃ t, exec (.gateStuck 0 95) up = .next t := ⟨rfl, _, rfl⟩

theorem witness_LoadCommandsStayInPlanner :
    loomStep (.loadSet (rq 47 [1])) = true ∧ (∃ t, exec (.loadSet (rq 47 [1])) up = .next t) ∧ 46 ≠ skeinOf (rq 47 [1]) ∧
      ∃ t, exec .shedLift up = .next t :=
  ⟨rfl, ⟨_, rfl⟩, by decide, _, rfl⟩

theorem witness_StoreStepsStayInStores :
    storeStep (.zeroise (rq 0 [])) = true ∧ ∃ t, exec (.zeroise (rq 0 [])) up = .next t := ⟨rfl, _, rfl⟩

theorem witness_CanStepsStayInCan : canStep (.nmStatus (rq 11 [])) = true ∧ ∃ t, exec (.nmStatus (rq 11 [])) up = .next t :=
  ⟨rfl, _, rfl⟩

theorem witness_ReportingStepsStayInReports : reportStep .extTempStale = true ∧ ∃ t, exec .extTempStale up = .next t := ⟨rfl, _, rfl⟩

theorem witness_LDieResetsLeavePDie :
    (∃ t, exec (.rstn 0 1000 0 false false) up = .next t) ∧ (∃ t, exec (.l3Warm 0) up = .next t) ∧ (∃ t, exec (.l3Chip 0) up = .next t) :=
  ⟨⟨_, rfl⟩, ⟨_, rfl⟩, _, rfl⟩

theorem witness_StageFourRefusalOnlyAnswers :
    (∀ r : Req, hostRow (.fioRead r) = some (infoFioRead, r) ∧ hostRow (.ping r) = some (infoPing, r)) ∧
    interpreterUp (toL 0 up) = true ∧ interpreterUp (toL 0 closed) = true ∧
    (infoPing.snap = false ∧ ({ rq 0 [] with snapalign := true } : Req).snapalign = true) ∧
    (infoFioRead.len (4 * (rq 0 [1]).payload.length) && infoFioRead.fits (rq 0 [1])) = false ∧
    (let r : Req := { rq 0 [] with port := .mac0 }; formatOk infoFioRead r = true ∧ permitted infoFioRead r (arrived r up) = false) ∧
    (let s := flying (inFlight 0x0503 .waiting .none) up
     formatOk infoFioRead (rq 0 []) = true ∧ permitted infoFioRead (rq 0 []) (arrived (rq 0 []) s) = true ∧
       tagHeld (rq 0 []) (arrived (rq 0 []) s) = true) ∧
    (formatOk infoFioRead (rq 1 []) = true ∧ permitted infoFioRead (rq 1 []) (arrived (rq 1 []) up) = true ∧
      tagHeld (rq 1 []) (arrived (rq 1 []) up) = false ∧ infoFioRead.obj (rq 1 []) (arrived (rq 1 []) up) = false) ∧
    3 ≠ (rq 0 []).slot :=
  ⟨fun _ => ⟨rfl, rfl⟩, by decide +kernel⟩

theorem witness_UnauthenticatedSlotsRefused :
    (∀ r : Req, hostRow (.zeroise r) = some (infoZeroise, r) ∧ hostRow (.readReg r) = some (infoReadReg, r)) ∧
    interpreterUp (toL 0 closed) = true ∧
    (let r := rq 0 [0]; (slotOf r.slot (arrived r closed)).session = none ∧ formatOk infoZeroise r = true ∧ infoZeroise.op = 0x0805) ∧
    (let r := rq 0xD0000 []; (slotOf r.slot (arrived r closed)).session = none ∧ formatOk infoReadReg r = true ∧
      0x0100 ≤ infoReadReg.op ∧ infoReadReg.op ≤ 0x0104 ∧ obj r / 0x10000 = 0xD) ∧
    (let s := modHost (fun h => { h with slots := #v[{ port := some .qspi, cfg := 3 }, {}, {}, {}] }) up
     let r := rq 0x10000 []
     (slotOf r.slot (arrived r s)).session = none ∧ formatOk infoReadReg r = true ∧ bit 1 (slotOf r.slot (arrived r s)).cfg = true ∧
       infoReadReg.op ≠ 0x0000 ∧ infoReadReg.op ≠ 0x0002) ∧
    (slotOf (rq 0 []).slot closed).session = none :=
  ⟨fun _ => ⟨rfl, rfl⟩, by decide +kernel⟩

theorem witness_DisabledGroupAborts :
    (∀ r : Req, hostRow (.fioRead r) = some (infoFioRead, r)) ∧
    (let s := modHost (fun h => { h with disabled := 0x20 }) up
     interpreterUp (toL 0 s) = true ∧ stage4 infoFioRead (rq 0 []) (arrived (rq 0 []) s) = none ∧
       groupOff (groupOf infoFioRead.op) (arrived (rq 0 []) s) = true) :=
  ⟨fun _ => rfl, by decide +kernel⟩

theorem witness_HeldCommandsWait :
    (∀ r : Req, hostRow (.actStop r) = some (infoActStop, r)) ∧
    (let s := modClk (fun c => { c with paused := true }) up
     let r := rq 15 []
     interpreterUp (toL 0 s) = true ∧ stage4 infoActStop r (arrived r s) = none ∧
       groupOff (groupOf infoActStop.op) (arrived r s) = false ∧ r.snapalign = false ∧
       eligible (entryFor infoActStop r s) (acceptedAt infoActStop r s) = false) ∧
    (let r : Req := { rq 15 [] with snapalign := true }
     stage4 infoActStop r (arrived r up) = none ∧ groupOff (groupOf infoActStop.op) (arrived r up) = false ∧
       groupOff 0x0C (arrived r up) = false ∧ alignPending (arrived r up) < 64) ∧
    (let r : Req := { rq 15 [] with snapalign := true }
     let s := modHost (fun h => { h with flight := List.replicate 64 anAligned }) up
     stage4 infoActStop r (arrived r s) = none ∧ groupOff (groupOf infoActStop.op) (arrived r s) = false ∧
       groupOff 0x0C (arrived r s) = false ∧ 64 ≤ alignPending (arrived r s)) ∧
    (let r : Req := { rq 15 [] with snapalign := true }
     let s := modHost (fun h => { h with disabled := 0x1000 }) up
     stage4 infoActStop r (arrived r s) = none ∧ groupOff (groupOf infoActStop.op) (arrived r s) = false ∧
       groupOff 0x0C (arrived r s) = true) :=
  ⟨fun _ => rfl, by decide +kernel⟩

theorem witness_StatusQueriesAnswerRegisters :
    ready infoLoomBudgetGet (rq 0 []) up = true ∧ ready infoFioRead (rq 0 []) up = true ∧ ready infoFaultStatus (rq 0 []) up = true ∧
    (ready infoFaultCaptureRead (rq 4 []) up = true ∧ (clsOf (obj (rq 4 [])) (atRun infoFaultCaptureRead (rq 4 []) up)).cap.valid = false) ∧
    (let s := modCls 4 (fun c => { c with cap := { valid := true, w0 := 1, w1 := 2, w2 := 3, tick := 4, later := 5 } }) up
     ready infoFaultCaptureRead (rq 4 []) s = true ∧ (clsOf 4 (atRun infoFaultCaptureRead (rq 4 []) s)).cap.valid = true) ∧
    ready infoClkStatus (rq 0 []) up = true ∧
    (let r := rq 5 []; interpreterUp (toL r.t up) = true ∧ formatOk infoFioRead r = true ∧
      permitted infoFioRead r (arrived r up) = true ∧ tagHeld r (arrived r up) = false ∧ r.object ≠ 0 ∧
      formatOk infoFaultCaptureRead r = true ∧ permitted infoFaultCaptureRead r (arrived r up) = true ∧ 4 < obj r) := by
  decide +kernel

theorem witness_ProtectedRegistersNeedSession :
    interpreterUp (toL 0 closed) = true ∧
    (let r := rq 0xF0020 [0]; (slotOf r.slot (arrived r closed)).session = none ∧ formatOk infoWriteReg r = true ∧ obj r = 0xF0020) ∧
    (let r := rq 0xF001C [0, 0]
     (slotOf r.slot (arrived r closed)).session = none ∧ formatOk infoWriteBlock r = true ∧ 1 < r.payload.length ∧ obj r + 4 * 1 = 0xF0020) ∧
    (let r := rq 0xF0244 [0xFFFFFFFF]; ready infoWriteReg r up = true ∧ obj r = 0xF0200 + 4 * 17) := by decide +kernel

/-- A header of slot 3, of an opcode. -/
def head (op : Nat) : Head := { magic := 0xE0, version := 1, op := op, b5 := 0, length := 0, req := { rq 0 [] with slot := 3, seq := 7 } }

/-- Slot 3 with a session or without, after some failures, its last sequence number 7. -/
def slot3 (x : Option Session) (n : Nat) : State :=
  modHost (fun h => { h with slots := #v[openSlot, {}, {}, { port := some .qspi, session := x, authFails := n, lastSeq := 7 }] }) up

/-- The CRC of nothing and a tag. -/
def signed (tag : List Byte) : List Byte := [0, 0, 0, 0] ++ tag

/-- The first 8 bytes of the CMAC of the four zero bytes under the zero key. -/
def goodTag : List Byte := (cmac (keyBytes 0) [0, 0, 0, 0]).take 8

theorem witness_AuthFailuresEndSession :
    (let l := signed (List.replicate 8 0)
     (slotOf (head 0).req.slot (slot3 (some {}) 6)).session = some {} ∧ crcAt (l.length - 12) l = true ∧
       ((cmac (keyBytes ({} : Session).key) (l.take (l.length - 8))).take 8 != l.drop (l.length - 8)) = true ∧
       (slotOf 3 (slot3 (some {}) 6)).authFails < 7 ∧ 7 ≤ (slotOf 3 (slot3 (some {}) 7)).authFails) ∧
    (let l := signed goodTag
     crcAt (l.length - 12) l = true ∧ ((cmac (keyBytes ({} : Session).key) (l.take (l.length - 8))).take 8 != l.drop (l.length - 8)) = false ∧
       fresh (head 0) (slot3 (some {}) 6) = false) := by decide +kernel

theorem witness_ReplayedRequestsRefused :
    ((head 0).req.slot < 4 ∧ (head 0).req.seq ≤ (slotOf (head 0).req.slot (slot3 (some {}) 0)).lastSeq) ∧
    (let l := signed goodTag
     (slotOf 3 (slot3 (some {}) 0)).session = some {} ∧ crcAt (l.length - 12) l = true ∧
       (cmac (keyBytes ({} : Session).key) (l.take (l.length - 8))).take 8 = l.drop (l.length - 8)) ∧
    ((slotOf 3 (slot3 none 0)).session = none ∧ (slotOf 3 (slot3 none 0)).ended = false ∧ crcAt 0 [0, 0, 0, 0] = true ∧ (head 0).op ≠ 2) ∧
    ((slotOf (head 2).req.slot (slot3 none 0)).session = none ∧ (head 2).op = 2) := by decide +kernel

theorem witness_ReportsCaptureAndEscalate :
    (srcInfo 0x020 = some (1, (srcInfo 0x020).elim 0 (fun x => x.2)) ∧ up.faults.first.get 0x020 = 0) ∧
    (let s := fun (n : Nat) => modFaults (fun f => { f with first := f.first.set 0x020 n }) up
     (s 2999601).faults.first.get 0x020 ≠ 0 ∧ (s 2999601).now + 1 - (s 2999601).faults.first.get 0x020 ≤ 400 ∧
       400 < (s 2999600).now + 1 - (s 2999600).faults.first.get 0x020) ∧
    (clsOf 1 up).cap.valid = false ∧
    (clsOf 1 (modCls 1 (fun c => { c with cap := { valid := true, w0 := 1, w1 := 2, w2 := 3, tick := 4, later := 65535 } }) up)).cap.valid = true ∧
    0 ≠ 1 := by decide +kernel

end Sys2Proof.Tests
end

/-! ## Eoden protocol: authentication of slots (R89 to R94) -/

namespace Sys2Proof.Machine

/-! ### What the operations of stage 3 leave of a slot -/

@[simp] theorem bump_slotOf (i n : Nat) (s : State) : slotOf n (bump i s) = slotOf n s := rfl
@[simp] theorem bump_besidesHost (i : Nat) (s : State) : (bump i s).besidesHost = s.besidesHost := rfl
@[simp] theorem modSlot_ports (n : Nat) (f : Slot → Slot) (s : State) : (modSlot n f s).host.ports = s.host.ports := rfl
@[simp] theorem modSlot_flight (n : Nat) (f : Slot → Slot) (s : State) : (modSlot n f s).host.flight = s.host.flight := rfl
@[simp] theorem modFlight_slotOf (n : Nat) (f : List Entry → List Entry) (s : State) :
    slotOf n (modFlight f s) = slotOf n s := rfl

/-- A change that keeps a part of the slot keeps that part of every slot. -/
theorem slotOf_modSlot_keeps {α : Type} (g : Slot → α) (n m : Nat) (f : Slot → Slot) (s : State) (hf : ∀ sl, g (f sl) = g sl) :
    g (slotOf m (modSlot n f s)) = g (slotOf m s) := by
  simp only [slotOf, modSlot, modHost_host, nth_upd]
  split
  · exact hf _
  · rfl

/-- What stage 3 keeps of a slot: the last accepted SEQ (R89) and the count of CMACs in a row that failed (R93). -/
def Slot.stage3 (sl : Slot) : Nat × Nat := (sl.lastSeq, sl.authFails)

/-- An event for a slot leaves the stage 3 counts of every slot alone. -/
@[simp] theorem sendEvent_stage3 (n m opc t : Nat) (payload : List Word) (s : State) :
    (slotOf m (sendEvent n opc t payload s)).stage3 = (slotOf m s).stage3 := by
  simp only [sendEvent]
  split
  · rfl
  · rw [slotOf_modSlot_keeps Slot.stage3, pushOut_slotOf]
    exact fun _ => rfl

/-- So does an event that is queued or dropped (R106). -/
@[simp] theorem queueEvent_stage3 (n m opc t : Nat) (payload : List Word) (s : State) :
    (slotOf m (queueEvent n opc t payload s)).stage3 = (slotOf m s).stage3 := by
  simp only [queueEvent]
  split
  · exact sendEvent_stage3 n m opc t payload s
  · rw [slotOf_modSlot_keeps Slot.stage3]
    exact fun _ => rfl

/-- So do the events that a start holds for the binding (R87, R579). -/
theorem queueEvents_stage3 (n m : Nat) (l : List (Nat × Nat × List Word)) (s : State) :
    (slotOf m (l.foldl (fun s x => queueEvent n x.1 x.2.1 x.2.2 s) s)).stage3 = (slotOf m s).stage3 := by
  induction l generalizing s with
  | nil => rfl
  | cons x rest ih => rw [List.foldl_cons, ih, queueEvent_stage3]

/-- The held events of a binding leave the stage 3 counts alone. -/
@[simp] theorem sendHeld_stage3 (n m : Nat) (s : State) : (slotOf m (sendHeld n s)).stage3 = (slotOf m s).stage3 := by
  simp only [sendHeld]
  rw [slotOf_modSlot_keeps Slot.stage3, queueEvents_stage3]
  · cases (slotOf n s).heldRestart <;> cases (slotOf n s).heldFault <;> simp
  · exact fun _ => rfl

/-- A request that passes stage 3 as its slot's counts show it (R77, R93): what passed3 does before it binds the slot. -/
def counted3 (r : Req) (s : State) : State :=
  modSlot r.slot (fun sl => { sl with lastSeq := r.seq, authFails := 0 })
    (if (slotOf r.slot s).session.isSome then bump (ctr 0x0D 0) s else s)

theorem passed3_eq (r : Req) (s : State) :
    passed3 r s = if (slotOf r.slot (counted3 r s)).port.isSome then counted3 r s
      else sendHeld r.slot (modSlot r.slot (fun sl => { sl with port := some r.port, peer := r.peer }) (counted3 r s)) := rfl

/-- Past stage 3 the request's SEQ is the last accepted one, and no CMAC in a row has failed (R77, R93). -/
theorem passed3_stage3 (r : Req) (s : State) (hr : r.slot < 4) : (slotOf r.slot (passed3 r s)).stage3 = (r.seq, 0) := by
  have counted : (slotOf r.slot (counted3 r s)).stage3 = (r.seq, 0) := by
    rw [counted3, slotOf_modSlot _ _ _ hr, Slot.stage3]
  rw [passed3_eq]
  split
  · exact counted
  · rw [sendHeld_stage3, slotOf_modSlot_keeps Slot.stage3, counted]
    exact fun _ => rfl

theorem passed3_lastSeq (r : Req) (s : State) (hr : r.slot < 4) : (slotOf r.slot (passed3 r s)).lastSeq = r.seq :=
  congrArg Prod.fst (passed3_stage3 r s hr)

theorem passed3_authFails (r : Req) (s : State) (hr : r.slot < 4) : (slotOf r.slot (passed3 r s)).authFails = 0 :=
  congrArg Prod.snd (passed3_stage3 r s hr)

/-- Session and binding have ended (R93, R95). -/
theorem endSession_slotOf (n : Nat) (s : State) (hn : n < 4) :
    (slotOf n (endSession n s)).session = none ∧ (slotOf n (endSession n s)).port = none := by
  simp [endSession, slotOf_modSlot _ _ _ hn]

/-! ### Answers to frames that fail a stage (R76) -/

@[simp] theorem refuseFrame_slotOf (h : Head) (st : Status) (key : Option (BitVec 128)) (s : State) (n : Nat) :
    slotOf n (refuseFrame h st key s) = slotOf n s := pushOut_slotOf _ _ s n
@[simp] theorem refuseFrame_flight (h : Head) (st : Status) (key : Option (BitVec 128)) (s : State) :
    (refuseFrame h st key s).host.flight = s.host.flight := pushOut_flight _ _ s
@[simp] theorem refuseFrame_besidesHost (h : Head) (st : Status) (key : Option (BitVec 128)) (s : State) :
    (refuseFrame h st key s).besidesHost = s.besidesHost := pushOut_besidesHost _ _ s
theorem refuseFrame_output (h : Head) (st : Status) (key : Option (BitVec 128)) (s : State) :
    (nth (refuseFrame h st key s).host.ports (portIx h.req.port)).output =
      (nth s.host.ports (portIx h.req.port)).output ++ [answerFrame h.op h.req h.b5 st key s] := pushOut_output _ _ s

@[simp] theorem answerFrame_bump (i op : Nat) (r : Req) (b5 : Nat) (st : Status) (key : Option (BitVec 128)) (s : State) :
    answerFrame op r b5 st key (bump i s) = answerFrame op r b5 st key s := rfl

/-- An answer does not show the AUTH_FAILS count of a slot. -/
@[simp] theorem answerFrame_authFails (g : Nat → Nat) (n op : Nat) (r : Req) (b5 : Nat) (st : Status) (key : Option (BitVec 128))
    (s : State) :
    answerFrame op r b5 st key (modSlot n (fun sl => { sl with authFails := g sl.authFails }) s) = answerFrame op r b5 st key s := by
  have binding := slotOf_modSlot_keeps (fun sl => (sl.port, sl.peer)) n r.slot
    (fun sl => { sl with authFails := g sl.authFails }) s (fun _ => rfl)
  obtain ⟨hport, hpeer⟩ := Prod.mk.inj binding
  simp only [answerFrame, replyPeer, hport, hpeer]
  rfl

/-! ### Stage 3 on a frame (R89 to R93) -/

/-- The frame's CMAC, its last 8 bytes, does not verify under the session's key (R70). -/
def badMac (x : Session) (l : List Byte) : Bool :=
  (cmac (keyBytes x.key) (l.take (l.length - 8))).take 8 != l.drop (l.length - 8)

/-- The state after an AUTH_FAIL answer, its failure counted: what authFail does before it looks for an eighth one (R93). -/
def cmacFailed (h : Head) (s : State) : State :=
  refuseFrame h .authFail none (modSlot h.req.slot (fun sl => { sl with authFails := sl.authFails + 1 }) s)

/-- The slot after an AUTH_FAIL answer. -/
theorem cmacFailed_slotOf (h : Head) (s : State) (hn : h.req.slot < 4) :
    slotOf h.req.slot (cmacFailed h s) =
      { slotOf h.req.slot s with authFails := (slotOf h.req.slot s).authFails + 1 } := by
  rw [cmacFailed, refuseFrame_slotOf, slotOf_modSlot _ _ _ hn]

/-- The commands in flight stay. -/
theorem cmacFailed_flight (h : Head) (s : State) : (cmacFailed h s).host.flight = s.host.flight := by
  rw [cmacFailed, refuseFrame_flight, modSlot_flight]

/-- The answer has no CMAC. -/
theorem cmacFailed_output (h : Head) (s : State) :
    (nth (cmacFailed h s).host.ports (portIx h.req.port)).output =
      (nth s.host.ports (portIx h.req.port)).output ++ [answerFrame h.op h.req h.b5 .authFail none s] := by
  rw [cmacFailed, refuseFrame_output, modSlot_ports, answerFrame_authFails (· + 1)]

/-- The first seven failures in a row only answer and count. -/
theorem authFail_few (h : Head) (s : State) (hn : h.req.slot < 4) (hf : (slotOf h.req.slot s).authFails < 7) :
    authFail h s = cmacFailed h s := by
  have few : (slotOf h.req.slot (cmacFailed h s)).authFails < 8 := by
    rw [cmacFailed_slotOf h s hn]
    exact Nat.succ_lt_succ hf
  exact if_pos few

/-- The eighth reports HOST_AUTH and ends session and binding; the commands in flight lose the key (log entry 14). -/
theorem authFail_eighth (h : Head) (s : State) (hn : h.req.slot < 4) (hf : 7 ≤ (slotOf h.req.slot s).authFails) :
    authFail h s = modFlight (fun l => l.map (fun e => if e.req.slot == h.req.slot then { e with key := none } else e))
      (endSession h.req.slot (reportL 0x020 h.req.slot (cmacFailed h s))) := by
  have eighth : ¬ (slotOf h.req.slot (cmacFailed h s)).authFails < 8 := by
    rw [cmacFailed_slotOf h s hn]
    exact Nat.not_lt.mpr (Nat.succ_le_succ hf)
  exact if_neg eighth

/-- On an authenticated slot a request whose CMAC does not verify goes no further. -/
theorem takeOwn_badMac (h : Head) (l : List Byte) (s : State) (x : Session) (hs : (slotOf h.req.slot s).session = some x)
    (hc : crcAt (l.length - 12) l = true) (hb : badMac x l = true) : takeOwn h l s = authFail h (bump (ctr 0x0D 0) s) := by
  rw [badMac] at hb
  simp [takeOwn, hs, hc, hb]

/-- On an authenticated slot a request whose CMAC verifies and whose SEQ is not fresh is a replay, and ends the row of failures. -/
theorem takeOwn_replay_signed (h : Head) (l : List Byte) (s : State) (x : Session) (hs : (slotOf h.req.slot s).session = some x)
    (hc : crcAt (l.length - 12) l = true) (hb : badMac x l = false) (hf : fresh h s = false) :
    takeOwn h l s = refuseFrame h .replay (some x.key)
      (bump (ctr 0x0D 0) (modSlot h.req.slot (fun sl => { sl with authFails := 0 }) s)) := by
  rw [badMac] at hb
  simp [takeOwn, hs, hc, hb, hf]

/-- On a slot that has no session, and whose last one the key store has not ended (log entry 52), a request whose SEQ is not fresh is a
replay. -/
theorem takeOwn_replay_plain (h : Head) (l : List Byte) (s : State) (hs : (slotOf h.req.slot s).session = none)
    (he : (slotOf h.req.slot s).ended = false) (hc : crcAt (l.length - 4) l = true) (hf : fresh h s = false) :
    takeOwn h l s = refuseFrame h .replay none s := by
  simp [takeOwn, takePlain, hs, he, hc, hf]

/-- On a slot without a session a SESSION_OPEN passes stage 3 with any SEQ (R91). -/
theorem takeOwn_sessionOpen (h : Head) (l : List Byte) (s : State) (hs : (slotOf h.req.slot s).session = none) (ho : h.op = 0x0002)
    (hc : crcAt (l.length - 4) l = true) :
    takeOwn h l s = stageFour h ((l.take (l.length - 4)).drop 16) (passed3 h.req s) := by
  simp [takeOwn, takePlain, fresh, hs, ho, hc]

/-- A SEQ that is not above the last accepted one is not fresh, but in a SESSION_OPEN on a slot without a session (R89, R91). -/
theorem fresh_eq_false (h : Head) (s : State) (hq : h.req.seq ≤ (slotOf h.req.slot s).lastSeq)
    (hx : (slotOf h.req.slot s).session.isSome = true ∨ h.op ≠ 0x0002) : fresh h s = false := by
  have old : decide ((slotOf h.req.slot s).lastSeq < h.req.seq) = false := decide_eq_false (Nat.not_lt.mpr hq)
  rcases hx with hx | hx
  · simp [fresh, old, Option.isNone_eq_false_iff.mpr hx]
  · simp [fresh, old, hx]

/-! ### Permission to issue an opcode (R94) -/

/-- A host row's opcode stands in the opcode index under its number. -/
theorem opInfo_hostRow (c : Instr) (o : OpInfo) (r : Req) (h : hostRow c = some (o, r)) : opInfo o.op = some o := by
  cases c <;> simp only [hostRow, Option.some.injEq, Prod.mk.injEq, reduceCtorEq] at h <;> (obtain ⟨rfl, rfl⟩ := h; rfl)

/-- The opcodes marked A in the opcode index (R97). -/
def markedA : List Nat :=
  [0x0006, 0x0702, 0x0703, 0x0704, 0x0800, 0x0801, 0x0802, 0x0803, 0x0804, 0x0805, 0x0900, 0x0902, 0x0903, 0x0904, 0x0905,
    0x0906, 0x0907, 0x0A03, 0x0A04]

/-- An opcode marked A asks for a session. -/
theorem auth_of_markedA (o : OpInfo) (hi : opInfo o.op = some o) (h : o.op ∈ markedA) : o.auth = true := by
  have all : ∀ op ∈ markedA, (opInfo op).all OpInfo.auth = true := by decide
  have := all o.op h
  rwa [hi] at this

/-- Without a session no access to the KEY block is permitted. -/
theorem accessOk_keyBlock (write : Bool) (a n slot : Nat) (s : State) (ha : a / 0x10000 = 0xD) (hs : (slotOf slot s).session = none) :
    accessOk write a n slot s = false := by
  simp [accessOk, ha, hs]

/-- The register opcodes are not permitted on the KEY block without a session. -/
theorem perm_keyBlock (o : OpInfo) (r : Req) (s : State) (hi : opInfo o.op = some o) (hlo : 0x0100 ≤ o.op) (hhi : o.op ≤ 0x0104)
    (ha : obj r / 0x10000 = 0xD) (hs : (slotOf r.slot s).session = none) : o.perm r s = false := by
  have key := fun write n => accessOk_keyBlock write (obj r) n r.slot s ha hs
  generalize o.op = op at hi hlo hhi
  have five : op = 0x0100 ∨ op = 0x0101 ∨ op = 0x0102 ∨ op = 0x0103 ∨ op = 0x0104 := by omega
  rcases five with rfl | rfl | rfl | rfl | rfl
  · cases (show infoReadReg = o from Option.some.inj hi)
    exact key false 1
  · cases (show infoWriteReg = o from Option.some.inj hi)
    exact key true 1
  · cases (show infoReadBlock = o from Option.some.inj hi)
    exact key false 1
  · cases (show infoModifyReg = o from Option.some.inj hi)
    exact key true 1
  · cases (show infoWriteBlock = o from Option.some.inj hi)
    exact key true r.payload.length

/-- Without a session, AUTH_REQ permits PING and SESSION_OPEN alone. -/
theorem permitted_authReq (o : OpInfo) (r : Req) (s : State) (hs : (slotOf r.slot s).session = none)
    (hb : bit 1 (slotOf r.slot s).cfg = true) (h0 : o.op ≠ 0x0000) (h2 : o.op ≠ 0x0002) : permitted o r s = false := by
  simp [permitted, hs, hb, h0, h2]

/-- Without a session no opcode marked A is permitted. -/
theorem permitted_auth (o : OpInfo) (r : Req) (s : State) (hs : (slotOf r.slot s).session = none) (ha : o.auth = true) :
    permitted o r s = false := by
  simp [permitted, hs, ha]

/-- What the opcode's own condition forbids is not permitted. -/
theorem permitted_perm (o : OpInfo) (r : Req) (s : State) (hp : o.perm r s = false) : permitted o r s = false := by
  simp [permitted, hp]

/-- An opcode with no condition of its own that is open to every session state asks for an enabled slot bound to the port alone. -/
theorem permitted_open (o : OpInfo) (r : Req) (s : State) (hs : (slotOf r.slot s).session = none) (ho : o = infoPing ∨ o = infoSessionOpen) :
    permitted o r s = (bit 0 (slotOf r.slot s).cfg && (slotOf r.slot s).port == some r.port) := by
  rcases ho with rfl | rfl <;> simp [permitted, hs, infoPing, infoSessionOpen]

/-- A well formed request that is not permitted fails stage 4 there (R74). -/
theorem stage4_notPermitted (o : OpInfo) (r : Req) (s : State) (hf : formatOk o r = true) (hp : permitted o r s = false) :
    stage4 o r s = some .notPermitted := by
  simp only [formatOk, Bool.and_eq_true] at hf
  obtain ⟨⟨hsnap, hlen⟩, hfits⟩ := hf
  have snap : (r.snapalign && !o.snap) = false := by
    rw [← Bool.not_eq_true', Bool.not_and, Bool.not_not]
    exact hsnap
  simp [stage4, snap, hlen, hfits, hp]

/-- A request that arrives and fails stage 4 is answered with the status, and that is all. -/
theorem command_refused (o : OpInfo) (r : Req) (s : State) (st : Status) (hu : interpreterUp (toL r.t s) = true)
    (h : stage4 o r (arrived r s) = some st) : command o r s = refusedWith o r s st := by
  simp only [command, hu, if_true]
  exact submit_refused o r (arrived r s) st h

/-! ### The obligations -/

/-- Settles O53: each of the three conditions makes check 4 of stage 4 fail. -/
theorem unauthenticatedSlotsRefused : Obligations.UnauthenticatedSlotsRefused := by
  unfold Obligations.UnauthenticatedSlotsRefused
  refine ⟨fun c o r s hc hu hs hf hcase => ?_, fun o r s ho hs => permitted_open o r s hs ho⟩
  have hi := opInfo_hostRow c o r hc
  have refused : permitted o r (arrived r s) = false := by
    rcases hcase with ⟨hb, h0, h2⟩ | hA | ⟨hlo, hhi, ha⟩
    · exact permitted_authReq o r _ hs hb h0 h2
    · exact permitted_auth o r _ hs (auth_of_markedA o hi hA)
    · exact permitted_perm o r _ (perm_keyBlock o r _ hi hlo hhi ha hs)
  rw [exec_hostRow c o r s hc, command_refused o r s _ hu (stage4_notPermitted o r _ hf refused)]

/-- Settles O58: the state u after the answer is cmacFailed, which authFail keeps up to the seventh failure and then ends. -/
theorem authFailuresEndSession : Obligations.AuthFailuresEndSession := by
  unfold Obligations.AuthFailuresEndSession
  refine ⟨fun h l s x => ?_, passed3_authFails, 0, rfl⟩
  intro n bad hn hs hc
  refine ⟨fun hb => ?_, fun hb hf => ?_⟩
  · let u := cmacFailed h (bump (ctr 0x0D 0) s)
    have hu : slotOf n u = { slotOf n s with authFails := (slotOf n s).authFails + 1 } := cmacFailed_slotOf h _ hn
    have taken : takeOwn h l s = authFail h (bump (ctr 0x0D 0) s) := takeOwn_badMac h l s x hs hc hb
    refine ⟨u, ?_, by rw [hu], ?_, fun few => ?_, fun many => ?_⟩
    · exact cmacFailed_output h (bump (ctr 0x0D 0) s)
    · rw [cmacFailed_flight, bump_host]
    · rw [taken, authFail_few h (bump (ctr 0x0D 0) s) hn few, hu]
      exact ⟨rfl, rfl, hs, rfl⟩
    · rw [taken, authFail_eighth h (bump (ctr 0x0D 0) s) hn many]
      simp only [modFlight_slotOf]
      exact ⟨rfl, endSession_slotOf n _ hn⟩
  · rw [takeOwn_replay_signed h l s x hs hc hb hf, refuseFrame_slotOf, bump_slotOf, slotOf_modSlot _ _ _ hn]

/-- Settles O59: the answer REPLAY is all, but for the row of CMAC failures that a CMAC that verifies ends. -/
theorem replayedRequestsRefused : Obligations.ReplayedRequestsRefused := by
  unfold Obligations.ReplayedRequestsRefused
  refine ⟨fun h l s => ?_, takeOwn_sessionOpen, passed3_lastSeq⟩
  intro n t hn hq hcase
  rcases hcase with ⟨x, hs, hc, hmac⟩ | ⟨hs, he, hc, ho⟩
  · have stale : fresh h s = false := fresh_eq_false h s hq (.inl (by rw [hs]; rfl))
    have ht : t = _ := takeOwn_replay_signed h l s x hs hc (by rw [badMac, hmac]; exact bne_self_eq_false _) stale
    have hkey : slotKey n s = some x.key := by rw [slotKey, hs]; rfl
    rw [ht, hkey]
    refine ⟨?_, by simp, ?_, by simp, fun m hm => ?_⟩
    · rw [refuseFrame_output, answerFrame_bump, answerFrame_authFails (fun _ => 0)]
      rfl
    · rw [refuseFrame_slotOf, bump_slotOf, slotOf_modSlot _ _ _ hn]
    · rw [refuseFrame_slotOf, bump_slotOf, slotOf_modSlot_other _ _ _ _ hm]
  · have ht : t = _ := takeOwn_replay_plain h l s hs he hc (fresh_eq_false h s hq (.inr ho))
    have hkey : slotKey n s = none := by rw [slotKey, hs]; rfl
    rw [ht, hkey]
    exact ⟨refuseFrame_output _ _ _ _, refuseFrame_flight _ _ _ _, by rw [refuseFrame_slotOf],
      refuseFrame_besidesHost _ _ _ _, fun m _ => refuseFrame_slotOf _ _ _ _ _⟩

end Sys2Proof.Machine

/-! ## Status queries (R185, R334, R460, R462, R586) -/

namespace Sys2Proof.Machine

/-! ### Lists of words -/

/-- An array lists its entries in order. -/
theorem toList_eq_map_nth {α : Type} {n : Nat} [Inhabited α] (v : Vector α n) : v.toList = (List.range n).map (nth v) := by
  apply List.ext_getElem
  · simp
  · intro i hi _
    have hn : i < n := by simpa using hi
    simp [nth, hn]

/-- A payload lists its words in order. -/
theorem map_wordAt_range (l : List Word) : (List.range l.length).map (wordAt l) = l := by
  apply List.ext_getElem
  · simp
  · intro i _ hi
    simp [wordAt, hi]

/-! ### The FAULT and CELL registers that the queries read (R149, R466) -/

/-- CELL_BANKb_LOAD. -/
theorem readReg_bankLoad (b : Nat) (s : State) (hb : b < 12) :
    readReg (0x43004 + 0x10 * b) s = some (loadWord (bankSum b [] s)) := by
  have aligned : addrOk (0x43004 + 0x10 * b) = true := by
    simp only [addrOk, Bool.and_eq_true, beq_iff_eq, decide_eq_true_eq]
    omega
  have block : (0x43004 + 0x10 * b) / 0x10000 = 4 := by omega
  have offset : (0x43004 + 0x10 * b) % 0x10000 = 0x3004 + 0x10 * b := by omega
  have notCell : ¬ 0x3004 + 0x10 * b < 0x1800 := by omega
  have notSkein : ¬ (0x2000 ≤ 0x3004 + 0x10 * b ∧ 0x3004 + 0x10 * b < 0x2600) := by omega
  have bank : 0x3000 ≤ 0x3004 + 0x10 * b ∧ 0x3004 + 0x10 * b < 0x30C0 := by omega
  have index : (0x3004 + 0x10 * b - 0x3000) / 0x10 = b := by omega
  have word4 : (0x3004 + 0x10 * b) % 0x10 = 4 := by omega
  simp only [readReg, aligned, block, offset, Bool.not_true, Bool.false_eq_true, if_false]
  simp only [readCell, notCell, notSkein, if_false]
  rw [if_pos bank, index, word4]
  rfl

/-- A register of the FAULT block. -/
theorem readReg_fault (off : Nat) (s : State) (hoff : off < 0x10000) (h4 : off % 4 = 0) :
    readReg (0xF0000 + off) s = readFault off s := by
  have aligned : addrOk (0xF0000 + off) = true := by
    simp only [addrOk, Bool.and_eq_true, beq_iff_eq, decide_eq_true_eq]
    omega
  have block : (0xF0000 + off) / 0x10000 = 0xF := by omega
  have offset : (0xF0000 + off) % 0x10000 = off := by omega
  simp only [readReg, aligned, block, offset, Bool.not_true, Bool.false_eq_true, if_false]

/-- FAULT_CLASSc_STAT. -/
theorem readReg_classStat (c : Nat) (s : State) (hc : c < 5) : readReg (0xF0030 + 4 * c) s = some (clsStat (clsOf c s)) := by
  rw [show 0xF0030 + 4 * c = 0xF0000 + (0x30 + 4 * c) by omega, readReg_fault _ s (by omega) (by omega)]
  have past : ¬ 0x30 + 4 * c = 0 ∧ ¬ 0x30 + 4 * c = 4 ∧ ¬ (0x10 ≤ 0x30 + 4 * c ∧ 0x30 + 4 * c < 0x24) := by omega
  have here : 0x30 ≤ 0x30 + 4 * c ∧ 0x30 + 4 * c < 0x44 := by omega
  have index : (0x30 + 4 * c - 0x30) / 4 = c := by omega
  obtain ⟨h0, h1, h2⟩ := past
  rw [readFault, if_neg h0, if_neg h1, if_neg h2, if_pos here, index]

/-- Word w of the capture record of class c. -/
theorem readReg_capture (c w : Nat) (s : State) (hc : c < 5) (hw : w < 6) :
    readReg (0xF0100 + 0x20 * c + 4 * w) s = some (wordAt (capWords (clsOf c s).cap) w) := by
  rw [show 0xF0100 + 0x20 * c + 4 * w = 0xF0000 + (0x100 + 0x20 * c + 4 * w) by omega, readReg_fault _ s (by omega) (by omega)]
  have past : ¬ 0x100 + 0x20 * c + 4 * w = 0 ∧ ¬ 0x100 + 0x20 * c + 4 * w = 4 ∧
      ¬ (0x10 ≤ 0x100 + 0x20 * c + 4 * w ∧ 0x100 + 0x20 * c + 4 * w < 0x24) ∧
      ¬ (0x30 ≤ 0x100 + 0x20 * c + 4 * w ∧ 0x100 + 0x20 * c + 4 * w < 0x44) := by omega
  have here : 0x100 ≤ 0x100 + 0x20 * c + 4 * w ∧ 0x100 + 0x20 * c + 4 * w < 0x1A0 ∧
      (0x100 + 0x20 * c + 4 * w) % 0x20 < 0x18 := by omega
  have record : (0x100 + 0x20 * c + 4 * w - 0x100) / 0x20 = c := by omega
  have index : (0x100 + 0x20 * c + 4 * w) % 0x20 / 4 = w := by omega
  obtain ⟨h0, h1, h2, h3⟩ := past
  rw [readFault, if_neg h0, if_neg h1, if_neg h2, if_neg h3, if_pos here, record, index]

/-- Word b of the sticky bits. -/
theorem readReg_sticky (b : Nat) (s : State) (hb : b < 18) : readReg (0xF0200 + 4 * b) s = some (nth s.faults.sticky b) := by
  rw [show 0xF0200 + 4 * b = 0xF0000 + (0x200 + 4 * b) by omega, readReg_fault _ s (by omega) (by omega)]
  have past : ¬ 0x200 + 4 * b = 0 ∧ ¬ 0x200 + 4 * b = 4 ∧ ¬ (0x10 ≤ 0x200 + 4 * b ∧ 0x200 + 4 * b < 0x24) ∧
      ¬ (0x30 ≤ 0x200 + 4 * b ∧ 0x200 + 4 * b < 0x44) ∧
      ¬ (0x100 ≤ 0x200 + 4 * b ∧ 0x200 + 4 * b < 0x1A0 ∧ (0x200 + 4 * b) % 0x20 < 0x18) := by omega
  have here : 0x200 ≤ 0x200 + 4 * b ∧ 0x200 + 4 * b < 0x248 := by omega
  have index : (0x200 + 4 * b - 0x200) / 4 = b := by omega
  obtain ⟨h0, h1, h2, h3, h4⟩ := past
  rw [readFault, if_neg h0, if_neg h1, if_neg h2, if_neg h3, if_neg h4, if_pos here, index]

/-! ### The words of each query are its registers -/

/-- Words that a range of registers holds. -/
theorem map_readReg_range (addr : Nat → Nat) (val : Nat → Word) (n : Nat) (s : State)
    (h : ∀ i < n, readReg (addr i) s = some (val i)) :
    (List.range n).map (fun i => (readReg (addr i) s).getD 0) = (List.range n).map val :=
  List.map_congr_left fun i hi => by rw [h i (List.mem_range.mp hi), Option.getD_some]

/-- LOOM_BUDGET_GET: the loads of the banks and of the package, and LOOM_PWR_EST (R185). -/
theorem budgetWords_eq_readReg (s : State) :
    budgetWords s = (List.range 12).map (fun b => (readReg (0x43004 + 0x10 * b) s).getD 0) ++
      [(readReg 0x43104 s).getD 0, (readReg 0x3000C s).getD 0] := by
  rw [map_readReg_range _ (fun b => loadWord (bankSum b [] s)) 12 s fun b hb => readReg_bankLoad b s hb]
  rfl

/-- FIO_READ: FIO_IN0 to FIO_IN2, FIO_OUT0 to FIO_OUT2, and the low word of the time of the last update of the inputs (R334). -/
theorem fioWords_eq_readReg (s : State) :
    pinWords s.fio.ins ++ pinWords s.fio.outs ++ [word s.fio.updated] =
      [0x80010, 0x80014, 0x80018, 0x80020, 0x80024, 0x80028].map (fun x => (readReg x s).getD 0) ++ [word s.fio.updated] := rfl

/-- CLK_STATUS (R586). -/
theorem clkWords_eq_readReg (s : State) :
    [clkStat s, word s.clk.gate, pwrStat s, word s.clk.wakeSrc, regStat s] =
      [0x100004, 0x100010, 0x100100, 0x100108, 0x100208].map (fun x => (readReg x s).getD 0) := rfl

/-- The six words of a valid capture record. -/
theorem capWords_eq_readReg (c : Nat) (s : State) (hc : c < 5) (hv : (clsOf c s).cap.valid = true) :
    capWords (clsOf c s).cap = (List.range 6).map (fun w => (readReg (0xF0100 + 0x20 * c + 4 * w) s).getD 0) := by
  rw [map_readReg_range _ (wordAt (capWords (clsOf c s).cap)) 6 s fun w hw => readReg_capture c w s hc hw]
  have six : (capWords (clsOf c s).cap).length = 6 := by simp [capWords, hv, natToWords]
  rw [← six, map_wordAt_range]

/-- A capture record that is not VALID reads zero (R454). -/
theorem capWords_invalid (c : Capture) (hv : c.valid = false) : capWords c = [0, 0, 0, 0, 0, 0] := by
  rw [capWords, hv]
  rfl

/-- FAULT_STATUS: FAULT_STAT, the status words of the classes and the sticky bits (R460). -/
theorem faultWords_eq_readReg (s : State) :
    faultStat s :: (List.range 5).map (fun c => clsStat (clsOf c s)) ++ s.faults.sticky.toList =
      (readReg 0xF0004 s).getD 0 :: (List.range 5).map (fun c => (readReg (0xF0030 + 4 * c) s).getD 0) ++
        (List.range 18).map (fun b => (readReg (0xF0200 + 4 * b) s).getD 0) := by
  rw [map_readReg_range _ (fun c => clsStat (clsOf c s)) 5 s fun c hc => readReg_classStat c s hc,
    map_readReg_range _ (nth s.faults.sticky) 18 s fun b hb => readReg_sticky b s hb, toList_eq_map_nth]
  rfl

/-! ### Requests for a query -/

/-- A check that precedes others lets a request pass where it does not refuse and the others let it pass. -/
theorem refusal_eq_none_iff (c : Bool) (st : Status) (rest : Option Status) :
    (if c then some st else rest) = none ↔ c = false ∧ rest = none := by
  cases c with
  | false => exact ⟨fun h => ⟨rfl, h⟩, fun h => h.2⟩
  | true => exact ⟨nofun, nofun⟩

/-- What a request that passes stage 4 meets (R74). -/
theorem stage4_eq_none_iff (o : OpInfo) (r : Req) (s : State) :
    stage4 o r s = none ↔ formatOk o r = true ∧ permitted o r s = true ∧ tagHeld r s = false ∧ o.obj r s = true := by
  simp only [stage4, refusal_eq_none_iff]
  simp only [formatOk, Bool.and_eq_false_iff, Bool.or_eq_false_iff, Bool.not_eq_false', Bool.and_eq_true, Bool.or_eq_true,
    Bool.not_eq_true', and_assoc, and_true]

/-- A request that is in order but for its OBJECT fails stage 4 there (R74). -/
theorem stage4_badObject (o : OpInfo) (r : Req) (s : State) (hf : formatOk o r = true) (hp : permitted o r s = true)
    (ht : tagHeld r s = false) (ho : o.obj r s = false) : stage4 o r s = some .badObject := by
  simp only [formatOk, Bool.and_eq_true] at hf
  obtain ⟨⟨snap, len⟩, fits⟩ := hf
  have snapOk : (r.snapalign && !o.snap) = false := by
    rw [← Bool.not_eq_true', Bool.not_and, Bool.not_not]
    exact snap
  simp only [stage4, snapOk, len, fits, hp, ht, ho, Bool.not_true, Bool.not_false, Bool.or_self, Bool.false_eq_true, if_false, if_true]

/-- A request that is in order but for its OBJECT is answered with BAD_OBJECT. -/
theorem exec_badObject (c : Instr) (o : OpInfo) (r : Req) (s : State) (hc : hostRow c = some (o, r))
    (hu : interpreterUp (toL r.t s) = true) (hf : formatOk o r = true) (hp : permitted o r (arrived r s) = true)
    (ht : tagHeld r (arrived r s) = false) (ho : o.obj r (arrived r s) = false) : exec c s = .next (refusedWith o r s .badObject) := by
  rw [exec_hostRow c o r s hc, command_refused o r s _ hu (stage4_badObject o r _ hf hp ht ho)]

/-- A request that is carried out at once meets its opcode's LENGTH and OBJECT. -/
theorem ready_len_obj (o : OpInfo) (r : Req) (s : State) (h : ready o r s = true) :
    o.len (4 * r.payload.length) = true ∧ o.obj r (arrived r s) = true := by
  simp only [ready, Bool.and_eq_true, Option.isNone_iff_eq_none] at h
  obtain ⟨⟨⟨⟨⟨⟨-, passed⟩, -⟩, -⟩, -⟩, -⟩, -⟩ := h
  obtain ⟨format, -, -, object⟩ := (stage4_eq_none_iff o r _).mp passed
  simp only [formatOk, Bool.and_eq_true] at format
  obtain ⟨⟨-, len⟩, -⟩ := format
  exact ⟨len, object⟩

/-- LENGTH 0 is an empty payload. -/
theorem payload_nil_of_lenIs (r : Req) (h : lenIs 0 (4 * r.payload.length) = true) : r.payload = [] := by
  have length0 : 4 * r.payload.length = 4 * 0 := beq_iff_eq.mp h
  exact List.eq_nil_of_length_eq_zero (by omega)

/-- OBJECT 0. -/
theorem objZero_iff (r : Req) (s : State) : objZero r s = true ↔ r.object = 0 := beq_iff_eq

/-- An opcode that has no effect at its acceptance and none as it runs, but answers words of the state. -/
def OpInfo.IsQuery (o : OpInfo) (words : Req → State → List Word) : Prop :=
  o.onAccept = (fun _ s => s) ∧ o.run = (fun e s => (s, .done (words e.req s)))

/-- A query that is carried out at once completes with its words and changes nothing but that. -/
theorem exec_query (c : Instr) (o : OpInfo) (words : Req → State → List Word) (r : Req) (s : State) (hc : hostRow c = some (o, r))
    (hq : o.IsQuery words) (h : ready o r s = true) :
    exec c s = .next (doneWith o r s (words r (atRun o r s)) (atRun o r s)) := by
  obtain ⟨onAccept, run⟩ := hq
  rw [exec_hostRow c o r s hc, command_ready o r s h (by rw [onAccept]), run]
  rfl

/-- A query of the device as a whole, which has OBJECT 0 and LENGTH 0. -/
theorem exec_deviceQuery (c : Instr) (o : OpInfo) (words : State → List Word) (r : Req) (s : State) (hc : hostRow c = some (o, r))
    (hq : o.IsQuery fun _ => words) (hlen : o.len = lenIs 0) (hobj : o.obj = objZero) (h : ready o r s = true) :
    r.object = 0 ∧ r.payload = [] ∧ exec c s = .next (doneWith o r s (words (atRun o r s)) (atRun o r s)) := by
  obtain ⟨len, object⟩ := ready_len_obj o r s h
  rw [hlen] at len
  rw [hobj, objZero_iff] at object
  exact ⟨object, payload_nil_of_lenIs r len, exec_query c o (fun _ => words) r s hc hq h⟩

/-- FAULT_CAPTURE_READ answers the capture record of its class. -/
theorem exec_faultCaptureRead (r : Req) (s : State) (h : ready infoFaultCaptureRead r s = true) :
    obj r ≤ 4 ∧ r.payload = [] ∧
      exec (.faultCaptureRead r) s = .next (doneWith infoFaultCaptureRead r s
        (capWords (clsOf (obj r) (atRun infoFaultCaptureRead r s)).cap) (atRun infoFaultCaptureRead r s)) := by
  obtain ⟨len, object⟩ := ready_len_obj _ r s h
  exact ⟨of_decide_eq_true object, payload_nil_of_lenIs r len,
    exec_query _ _ (fun r s => capWords (clsOf (obj r) s).cap) r s rfl ⟨rfl, rfl⟩ h⟩

/-- Settles O56: each opcode is a query, its words are the registers of its rule, and check 6 of stage 4 takes no other OBJECT. -/
theorem statusQueriesAnswerRegisters : Obligations.StatusQueriesAnswerRegisters := by
  unfold Obligations.StatusQueriesAnswerRegisters
  refine ⟨fun r s h => ?_, fun r s h => ?_, fun r s h => ?_, fun r s h => ?_, fun r s h => ?_,
    fun c o r s query hu hf hp ht hr => ?_, fun r s hu hf hp ht hr => ?_⟩
  · have answered := exec_deviceQuery (.loomBudgetGet r) infoLoomBudgetGet _ r s rfl ⟨rfl, rfl⟩ rfl rfl h
    rwa [budgetWords_eq_readReg] at answered
  · have answered := exec_deviceQuery (.fioRead r) infoFioRead _ r s rfl ⟨rfl, rfl⟩ rfl rfl h
    rwa [fioWords_eq_readReg] at answered
  · have answered := exec_deviceQuery (.faultStatus r) infoFaultStatus _ r s rfl ⟨rfl, rfl⟩ rfl rfl h
    rwa [faultWords_eq_readReg] at answered
  · obtain ⟨object, payload, answered⟩ := exec_faultCaptureRead r s h
    refine ⟨object, payload, fun invalid => ?_, fun valid => ?_⟩
    · rw [answered, capWords_invalid _ invalid]
    · rw [answered, capWords_eq_readReg _ _ (Nat.lt_succ_of_le object) valid]
  · have answered := exec_deviceQuery (.clkStatus r) infoClkStatus _ r s rfl ⟨rfl, rfl⟩ rfl rfl h
    rwa [clkWords_eq_readReg] at answered
  · have notZero : objZero r (arrived r s) = false := beq_eq_false_iff_ne.mpr hr
    rcases query with ⟨rfl, rfl⟩ | ⟨rfl, rfl⟩ | ⟨rfl, rfl⟩ | ⟨rfl, rfl⟩ <;>
      exact exec_badObject _ _ r s rfl hu hf hp ht notZero
  · exact exec_badObject _ _ r s rfl hu hf hp ht (decide_eq_false (Nat.not_le.mpr hr))

end Sys2Proof.Machine

/-! ## Registers whose writes need a session (R465) -/

namespace Sys2Proof.Machine

/-! ### Writes to SPINDLE_WDOG_CFG, FAULT_CTL and FAULT_CLASSc_CFG -/

/-- The addresses of SPINDLE_WDOG_CFG, FAULT_CTL and FAULT_CLASS0_CFG to FAULT_CLASS4_CFG (R466). -/
def protectedRegs : List Nat := [0x20004, 0xF0000, 0xF0010, 0xF0014, 0xF0018, 0xF001C, 0xF0020]

theorem authReg_protectedRegs : ∀ a ∈ protectedRegs, authReg a = true := by decide

/-- Without a session no write is permitted that has a register that needs one among its n words. -/
theorem accessOk_authReg (a n i slot : Nat) (s : State) (hi : i < n) (ha : authReg (a + 4 * i) = true)
    (hs : (slotOf slot s).session = none) : accessOk true a n slot s = false := by
  have needed : (List.range n).any (fun i => authReg (a + 4 * i)) = true :=
    List.any_eq_true.mpr ⟨i, List.mem_range.mpr hi, ha⟩
  simp [accessOk, needed, hs]

/-- A request for n words written from its OBJECT on, from a slot without a session, fails with NOT_PERMITTED where one of the words is a
register that needs one. -/
theorem exec_authReg_refused (c : Instr) (o : OpInfo) (n i : Nat) (r : Req) (s : State) (hc : hostRow c = some (o, r))
    (hperm : ∀ t, o.perm r t = accessOk true (obj r) n r.slot t) (hi : i < n) (ha : authReg (obj r + 4 * i) = true)
    (hu : interpreterUp (toL r.t s) = true) (hs : (slotOf r.slot (arrived r s)).session = none) (hf : formatOk o r = true) :
    exec c s = .next (refusedWith o r s .notPermitted) := by
  have refused : permitted o r (arrived r s) = false :=
    permitted_perm o r _ ((hperm _).trans (accessOk_authReg (obj r) n i r.slot _ hi ha hs))
  rw [exec_hostRow c o r s hc, command_refused o r s _ hu (stage4_notPermitted o r _ hf refused)]

/-! ### Sticky bits -/

/-- A write to a word of the sticky bits clears those that it writes 1 to, in an authenticated session or not. -/
theorem writeReg_sticky (authed judged : Bool) (b : Nat) (v : Word) (s : State) (hb : b < 18) :
    writeReg authed judged (0xF0200 + 4 * b) v s =
      (modFaults (fun f => { f with sticky := upd f.sticky b (fun w => w &&& ~~~ v) }) s, .done []) := by
  have block : (0xF0200 + 4 * b) / 0x10000 = 0xF := by omega
  have offset : (0xF0200 + 4 * b) % 0x10000 = 0x200 + 4 * b := by omega
  have past : ¬ 0x200 + 4 * b = 0 ∧ ¬ 0x200 + 4 * b = 4 ∧ ¬ (0x10 ≤ 0x200 + 4 * b ∧ 0x200 + 4 * b < 0x24) := by omega
  have here : 0x200 ≤ 0x200 + 4 * b ∧ 0x200 + 4 * b < 0x248 := by omega
  have index : (0x200 + 4 * b - 0x200) / 4 = b := by omega
  obtain ⟨notCtl, notStat, notCfg⟩ := past
  simp only [writeReg, block, offset]
  rw [writeFault, if_neg notCtl, if_neg notStat, if_neg notCfg, if_pos here, index]

/-- A WRITE_REG that is carried out at once brings the answer of its register to its command. -/
theorem exec_writeReg (r : Req) (s : State) (h : ready infoWriteReg r s = true) :
    exec (.writeReg r) s = .next (settle (entryFor infoWriteReg r s)
      (writeReg (takenEntry infoWriteReg r s).authed false (obj r) (arg r 0) (atRun infoWriteReg r s)).2
      (writeReg (takenEntry infoWriteReg r s).authed false (obj r) (arg r 0) (atRun infoWriteReg r s)).1) := by
  rw [exec_hostRow (.writeReg r) infoWriteReg r s rfl, command_ready _ _ _ h rfl]
  rfl

/-- Settles O57: check 4 of stage 4 looks at each word that the three opcodes write, and a write to the sticky bits asks for no session. -/
theorem protectedRegistersNeedSession : Obligations.ProtectedRegistersNeedSession := by
  unfold Obligations.ProtectedRegistersNeedSession
  refine ⟨fun c o r s i row hu hs hf ha => ?_, fun r s b h hb hobj => ?_⟩
  · have auth := authReg_protectedRegs _ ha
    rcases row with ⟨rfl, rfl, rfl⟩ | ⟨rfl, rfl, rfl⟩ | ⟨rfl, rfl, hi⟩
    · exact exec_authReg_refused _ _ 1 0 r s rfl (fun _ => rfl) Nat.one_pos auth hu hs hf
    · exact exec_authReg_refused _ _ 1 0 r s rfl (fun _ => rfl) Nat.one_pos auth hu hs hf
    · exact exec_authReg_refused _ _ r.payload.length i r s rfl (fun _ => rfl) hi auth hu hs hf
  · intro a
    rw [exec_writeReg r s h, hobj, writeReg_sticky _ _ b _ _ hb]
    rfl

end Sys2Proof.Machine

/-! ## The queue and the straps (R36, R49) -/

namespace Sys2Proof.Machine

/-- Settles O41: at reset DEVICE_ID is 0 and the queue is empty. -/
theorem invariantAtReset : Obligations.InvariantAtReset := by
  unfold Obligations.InvariantAtReset State.Inv
  exact ⟨Nat.zero_lt_succ 3, fun c waiting => absurd waiting List.not_mem_nil⟩

/-- Settles O39. -/
theorem stepRunsFrontCommand : Obligations.StepRunsFrontCommand := by
  unfold Obligations.StepRunsFrontCommand
  refine ⟨fun c rest s => rfl, fun s empty => ?_⟩
  rw [step, empty]

/-- A command that does not sample the straps leaves the queue and the straps as they are. -/
theorem exec_fixed (c : Instr) (s : State) (h : samples c = false) : (after (exec c s) s).fixed = s.fixed := by
  cases c
  case lDiePowerOn => cases h
  case rstn => cases h
  all_goals simp [exec]

/-- Every command leaves the queue and the straps as they are, or samples the straps, which give a device ID of 0 to 3 (R36, R49). -/
theorem exec_fixed_or_sampled (c : Instr) (s : State) :
    (after (exec c s) s).fixed = s.fixed ∨
      ∃ id split bootsel, (after (exec c s) s).fixed = (s.pending, id % 4, split, bootsel) := by
  cases c
  case lDiePowerOn t id split bootsel => exact .inr ⟨id, split, bootsel, execLDiePowerOn_fixed t id split bootsel s⟩
  case rstn t ns id split bootsel =>
    exact (execRstn_fixed t ns id split bootsel s).imp_right fun sampled => ⟨id, split, bootsel, sampled⟩
  all_goals exact .inl (exec_fixed _ s rfl)

/-- No command changes the queue. -/
theorem exec_pending (c : Instr) (s t : State) (ran : exec c s = .next t) : t.pending = s.pending := by
  have result := exec_fixed_or_sampled c s
  rw [ran] at result
  rcases result with same | ⟨id, split, bootsel, sampled⟩
  · exact congrArg Prod.fst same
  · exact congrArg Prod.fst sampled

/-- A command leaves a device ID of 0 to 3. -/
theorem exec_deviceId_lt (c : Instr) (s t : State) (before : s.deviceId < 4) (ran : exec c s = .next t) : t.deviceId < 4 := by
  have result := exec_fixed_or_sampled c s
  rw [ran] at result
  rcases result with same | ⟨id, split, bootsel, sampled⟩
  · have kept : t.deviceId = s.deviceId := congrArg (fun x => x.2.1) same
    rwa [kept]
  · have taken : t.deviceId = id % 4 := congrArg (fun x => x.2.1) sampled
    rw [taken]
    exact Nat.mod_lt id (by decide)

/-- Settles O43: the frame of each command, and the straps that the two resets sample. -/
theorem strapsHoldBetweenResets : Obligations.StrapsHoldBetweenResets := by
  unfold Obligations.StrapsHoldBetweenResets
  refine ⟨fun c s t h ran => ?_, exec_pending⟩
  have same := exec_fixed c s h
  rwa [ran] at same

/-- Settles O42: a step takes a command off the queue, and the command puts none into it. -/
theorem everyStepKeepsInvariant : Obligations.EveryStepKeepsInvariant := by
  unfold Obligations.EveryStepKeepsInvariant Kept State.Inv
  rintro s t ⟨id, waiting⟩ stepped
  rw [step] at stepped
  split at stepped
  case h_1 =>
    cases stepped
    exact ⟨id, waiting⟩
  case h_2 c rest queue =>
    refine ⟨exec_deviceId_lt c { s with pending := rest } t id stepped, ?_⟩
    rw [exec_pending c _ t stepped]
    exact fun d hd => waiting d (queue ▸ List.mem_cons_of_mem c hd)

end Sys2Proof.Machine

/-! ## What each operation changes of the state

A frame lemma per operation: the parts of the state, besides counters, the clocks and the count of free values, that it can change. -/

namespace Sys2Proof.Machine

/-- The parts of the state that an operation may change: a field each, but for the three straps, which are one. -/
inductive Piece where
  | ldie | straps | host | loom | pdie | weft | act | light | fio | can | nm | keys | otp | range | store | spindle | faults | clk
  deriving DecidableEq

/-- The state besides the parts of parts, the counters, the clocks and the count of free values. -/
def State.besides (parts : List Piece) (s : State) : State :=
  { pending := s.pending
    ldie := if .ldie ∈ parts then .off else s.ldie
    deviceId := if .straps ∈ parts then 0 else s.deviceId
    split := if .straps ∈ parts then false else s.split
    bootsel := if .straps ∈ parts then false else s.bootsel
    host := if .host ∈ parts then {} else s.host
    loom := if .loom ∈ parts then {} else s.loom
    pdie := if .pdie ∈ parts then {} else s.pdie
    weft := if .weft ∈ parts then {} else s.weft
    act := if .act ∈ parts then {} else s.act
    light := if .light ∈ parts then {} else s.light
    fio := if .fio ∈ parts then {} else s.fio
    can := if .can ∈ parts then {} else s.can
    nm := if .nm ∈ parts then {} else s.nm
    keys := if .keys ∈ parts then {} else s.keys
    otp := if .otp ∈ parts then {} else s.otp
    range := if .range ∈ parts then {} else s.range
    store := if .store ∈ parts then {} else s.store
    spindle := if .spindle ∈ parts then {} else s.spindle
    faults := if .faults ∈ parts then {} else s.faults
    clk := if .clk ∈ parts then {} else s.clk }

/-! ### Regions

The sets of parts that the statements speak of: each contains those it is built on. -/

/-- The host side. -/
def hostSide : List Piece := [.host]
/-- The P-die. -/
def pSide : List Piece := [.pdie]
/-- The host side and the Loom planner. -/
def planner : List Piece := [.host, .loom]
/-- The host side and the fault collector. -/
def collector : List Piece := [.host, .faults]
/-- The host side, the configuration and firmware stores, the ranging unit and the fault collector. -/
def stores : List Piece := [.host, .faults, .store, .range]
/-- The stores, with the key store and the OTP. -/
def vault : List Piece := [.host, .faults, .store, .range, .keys, .otp]
/-- What a report reaches, the lighting and the cores. -/
def reports : List Piece := [.host, .faults, .light, .spindle, .weft, .ldie]
/-- What a report reaches, and the Loom planner. -/
def shedding : List Piece := [.host, .faults, .light, .spindle, .weft, .ldie, .loom]
/-- The L-die but the key store, the OTP and the straps. -/
def lOpen : List Piece := [.ldie, .host, .loom, .weft, .act, .light, .fio, .can, .nm, .range, .store, .spindle, .faults, .clk]
/-- Both dies but the key store, the OTP and the straps. -/
def openSide : List Piece := .pdie :: lOpen
/-- The L-die. -/
def lSide : List Piece := .keys :: .otp :: .straps :: lOpen

section
variable {parts : List Piece}

theorem hostSide_of_planner (hm : planner ⊆ parts) : hostSide ⊆ parts := List.Subset.trans (by decide) hm
theorem hostSide_of_collector (hm : collector ⊆ parts) : hostSide ⊆ parts := List.Subset.trans (by decide) hm
theorem hostSide_of_stores (hm : stores ⊆ parts) : hostSide ⊆ parts := List.Subset.trans (by decide) hm
theorem collector_of_stores (hm : stores ⊆ parts) : collector ⊆ parts := List.Subset.trans (by decide) hm
theorem hostSide_of_vault (hm : vault ⊆ parts) : hostSide ⊆ parts := List.Subset.trans (by decide) hm
theorem stores_of_vault (hm : vault ⊆ parts) : stores ⊆ parts := List.Subset.trans (by decide) hm
theorem hostSide_of_reports (hm : reports ⊆ parts) : hostSide ⊆ parts := List.Subset.trans (by decide) hm
theorem collector_of_reports (hm : reports ⊆ parts) : collector ⊆ parts := List.Subset.trans (by decide) hm
theorem hostSide_of_shedding (hm : shedding ⊆ parts) : hostSide ⊆ parts := List.Subset.trans (by decide) hm
theorem planner_of_shedding (hm : shedding ⊆ parts) : planner ⊆ parts := List.Subset.trans (by decide) hm
theorem reports_of_shedding (hm : shedding ⊆ parts) : reports ⊆ parts := List.Subset.trans (by decide) hm
theorem hostSide_of_lOpen (hm : lOpen ⊆ parts) : hostSide ⊆ parts := List.Subset.trans (by decide) hm
theorem planner_of_lOpen (hm : lOpen ⊆ parts) : planner ⊆ parts := List.Subset.trans (by decide) hm
theorem collector_of_lOpen (hm : lOpen ⊆ parts) : collector ⊆ parts := List.Subset.trans (by decide) hm
theorem stores_of_lOpen (hm : lOpen ⊆ parts) : stores ⊆ parts := List.Subset.trans (by decide) hm
theorem reports_of_lOpen (hm : lOpen ⊆ parts) : reports ⊆ parts := List.Subset.trans (by decide) hm
theorem shedding_of_lOpen (hm : lOpen ⊆ parts) : shedding ⊆ parts := List.Subset.trans (by decide) hm
theorem hostSide_of_openSide (hm : openSide ⊆ parts) : hostSide ⊆ parts := List.Subset.trans (by decide) hm
theorem pSide_of_openSide (hm : openSide ⊆ parts) : pSide ⊆ parts := List.Subset.trans (by decide) hm
theorem planner_of_openSide (hm : openSide ⊆ parts) : planner ⊆ parts := List.Subset.trans (by decide) hm
theorem collector_of_openSide (hm : openSide ⊆ parts) : collector ⊆ parts := List.Subset.trans (by decide) hm
theorem stores_of_openSide (hm : openSide ⊆ parts) : stores ⊆ parts := List.Subset.trans (by decide) hm
theorem reports_of_openSide (hm : openSide ⊆ parts) : reports ⊆ parts := List.Subset.trans (by decide) hm
theorem shedding_of_openSide (hm : openSide ⊆ parts) : shedding ⊆ parts := List.Subset.trans (by decide) hm
theorem lOpen_of_openSide (hm : openSide ⊆ parts) : lOpen ⊆ parts := List.Subset.trans (by decide) hm
theorem hostSide_of_lSide (hm : lSide ⊆ parts) : hostSide ⊆ parts := List.Subset.trans (by decide) hm
theorem collector_of_lSide (hm : lSide ⊆ parts) : collector ⊆ parts := List.Subset.trans (by decide) hm
theorem stores_of_lSide (hm : lSide ⊆ parts) : stores ⊆ parts := List.Subset.trans (by decide) hm
theorem vault_of_lSide (hm : lSide ⊆ parts) : vault ⊆ parts := List.Subset.trans (by decide) hm
theorem lOpen_of_lSide (hm : lSide ⊆ parts) : lOpen ⊆ parts := List.Subset.trans (by decide) hm

/-! ### Choices, folds and updates of one part -/

theorem besides_ite (c : Prop) [Decidable c] (a b : State) :
    (if c then a else b).besides parts = if c then a.besides parts else b.besides parts := by split <;> rfl

theorem besides_elim {α : Type} (o : Option α) (a : State) (f : α → State) (h : ∀ x, (f x).besides parts = a.besides parts) :
    (o.elim a f).besides parts = a.besides parts := by
  cases o with
  | none => rfl
  | some x => exact h x

theorem besides_foldl {α : Type} (f : State → α → State) (h : ∀ s x, (f s x).besides parts = s.besides parts) (l : List α)
    (s : State) :
    (l.foldl f s).besides parts = s.besides parts := by
  induction l generalizing s with
  | nil => rfl
  | cons x l ih => exact (ih _).trans (h _ _)

/-- The counters, the clocks and the count of free values are no part. -/
theorem besides_uncounted (s : State) (pNow now free : Nat) (counters : Table) :
    State.besides parts { s with pNow, now, free, counters } = s.besides parts := rfl

theorem besides_ldie (s : State) (now : Nat) (x : LDie) (hp : .ldie ∈ parts) :
    State.besides parts { s with now, ldie := x } = s.besides parts := by
  simp only [State.besides, hp, if_true]

theorem besides_otp (s : State) (x : Otp) (hp : .otp ∈ parts) : State.besides parts { s with otp := x } = s.besides parts := by
  simp only [State.besides, hp, if_true]

theorem clk_eq_modClk (s : State) (x : ClkSt) : { s with clk := x } = modClk (fun _ => x) s := rfl
theorem range_clk_eq_modClk (s : State) (now : Nat) (r : RangeSt) (x : ClkSt) :
    { s with now, range := r, clk := x } = modClk (fun _ => x) (modRange (fun _ => r) { s with now }) := rfl
theorem light_eq_modLight (s : State) (x : LightSt) : { s with light := x } = modLight (fun _ => x) s := rfl

/-- A fold that carries a value along with the state. -/
theorem besides_foldl_snd {α β : Type} (f : β × State → α → β × State)
    (h : ∀ x a,
      (f x a).2.besides parts = x.2.besides parts) (l : List α) (x : β × State) : (l.foldl f x).2.besides parts = x.2.besides parts := by
  induction l generalizing x with
  | nil => rfl
  | cons a l ih => exact (ih _).trans (h _ _)

theorem besides_foldl_fst {α β : Type} (f : State × β → α → State × β)
    (h : ∀ x a,
      (f x a).1.besides parts = x.1.besides parts) (l : List α) (x : State × β) : (l.foldl f x).1.besides parts = x.1.besides parts := by
  induction l generalizing x with
  | nil => rfl
  | cons a l ih => exact (ih _).trans (h _ _)

theorem besides_getD (o : Option State) (a : State) (h : ∀ t, o = some t → t.besides parts = a.besides parts) :
    (o.getD a).besides parts = a.besides parts := by
  cases o with
  | none => rfl
  | some t => exact h t rfl

end

/-- An opcode whose operation and acceptance change no part but those of `parts`. -/
structure OpInfo.Keeps (parts : List Piece) (o : OpInfo) : Prop where
  run : ∀ e s, (o.run e s).1.besides parts = s.besides parts
  onAccept : ∀ e s, (o.onAccept e s).besides parts = s.besides parts

/-! ### Operations that change no part -/

section
variable {parts : List Piece}

theorem toL_besides (t : Nat) (s : State) : (toL t s).besides parts = s.besides parts := rfl

theorem toP_besides (t : Nat) (s : State) : (toP t s).besides parts = s.besides parts := rfl

theorem bumpBy_besides (i n : Nat) (s : State) : (bumpBy i n s).besides parts = s.besides parts := rfl

theorem bump_besides (i : Nat) (s : State) : (bump i s).besides parts = s.besides parts := by
  simp only [bump, bumpBy_besides]

theorem bump64_besides (i : Nat) (s : State) : (bump64 i s).besides parts = s.besides parts := by
  simp only [bump64, bump_besides, besides_ite, ite_self]

theorem freeWord_besides (s : State) : (freeWord s).2.besides parts = s.besides parts := rfl

theorem freeWords_besides (n : Nat) (s : State) : (freeWords n s).2.besides parts = s.besides parts := by
  induction n generalizing s with
  | zero => rfl
  | succ n ih => simp only [freeWords, ih, freeWord_besides]

theorem freeBytes_besides (n : Nat) (s : State) : (freeBytes n s).2.besides parts = s.besides parts := rfl

theorem takeL1_besides (s : State) : (takeL1 s).besides parts = s.besides parts := by
  simp only [takeL1, bump_besides]

theorem freeMeans_besides (n : Nat) (s : State) : (freeMeans n s).2.besides parts = s.besides parts := rfl

theorem countRefused_besides (ks : List Nat) (s : State) : (countRefused ks s).besides parts = s.besides parts := by
  simp only [countRefused, bump_besides, besides_foldl, implies_true]

theorem refuse_besides (k : Nat) (st : Status) (p : List Word) (s : State) : (refuse k st p s).1.besides parts = s.besides parts := by
  simp only [refuse, countRefused_besides, besides_ite, ite_self]

theorem infoLoadGet_keeps : infoLoadGet.Keeps parts := ⟨fun _ _ => by simp only [infoLoadGet, ite_self, fst_ite], fun _ _ => rfl⟩

theorem infoLoomPlacementGet_keeps :
    infoLoomPlacementGet.Keeps parts := ⟨fun _ _ => by simp only [infoLoomPlacementGet, ite_self, fst_ite], fun _ _ => rfl⟩

theorem infoLoomBudgetGet_keeps : infoLoomBudgetGet.Keeps parts := ⟨fun _ _ => by simp only [infoLoomBudgetGet], fun _ _ => rfl⟩

theorem asOpcode_besides (f : State → State × Ans) (s : State) (hf : ∀ s, (f s).1.besides parts = s.besides parts) :
    (asOpcode f s).1.besides parts = s.besides parts := by
  simp only [asOpcode, besides_ite, ite_self, fst_ite, hf]

theorem infoActStatus_keeps : infoActStatus.Keeps parts := ⟨fun _ _ => by simp only [infoActStatus, ite_self, fst_ite], fun _ _ => rfl⟩

theorem infoLoadSense_keeps : infoLoadSense.Keeps parts := ⟨fun _ _ => by simp only [infoLoadSense, ite_self, fst_ite], fun _ _ => rfl⟩

theorem infoDerateGet_keeps : infoDerateGet.Keeps parts := ⟨fun _ _ => by simp only [infoDerateGet, ite_self, fst_ite], fun _ _ => rfl⟩

theorem syncTime_besides (p : Nat) (s : State) : (syncTime p s).2.besides parts = s.besides parts := by
  simp only [syncTime, freeWord_besides, besides_ite, ite_self, snd_ite]

theorem infoFioRead_keeps : infoFioRead.Keeps parts := ⟨fun _ _ => by simp only [infoFioRead], fun _ _ => rfl⟩

theorem asFio_besides (f : State → State × Ans) (s : State) (hf : ∀ s, (f s).1.besides parts = s.besides parts) :
    (asFio f s).1.besides parts = s.besides parts := by
  simp only [asFio, besides_ite, ite_self, fst_ite, hf]

theorem countLoad_besides (n : Nat) (r : Except Status (List Byte)) (s : State) : (countLoad n r s).besides parts = s.besides parts := by
  unfold countLoad
  split <;> simp only [bump_besides]

theorem infoKeyInfo_keeps : infoKeyInfo.Keeps parts := ⟨fun _ _ => by simp only [infoKeyInfo, ite_self, fst_ite], fun _ _ => rfl⟩

theorem phaseCounts_besides (ns : Nat) (s : State) : (phaseCounts ns s).2.besides parts = s.besides parts := by
  simp only [phaseCounts, freeWord_besides, besides_ite, ite_self, snd_ite]

theorem rxMuted_besides (k : Nat) (data : Bool) (s : State) : (rxMuted k data s).2.besides parts = s.besides parts := by
  simp only [rxMuted, freeWord_besides, besides_ite, ite_self, snd_ite]

theorem gwSent_besides (g : Nat) (s : State) : (gwSent g s).besides parts = s.besides parts := by
  simp only [gwSent, bump_besides]

theorem plyPacket_besides (p : Nat) (s : State) : (plyPacket p s).besides parts = s.besides parts := by
  simp only [plyPacket, bump_besides]

theorem infoFaultStatus_keeps : infoFaultStatus.Keeps parts := ⟨fun _ _ => by simp only [infoFaultStatus], fun _ _ => rfl⟩

theorem infoFaultCaptureRead_keeps : infoFaultCaptureRead.Keeps parts := ⟨fun _ _ => by simp only [infoFaultCaptureRead], fun _ _ => rfl⟩

theorem namedTokens_besides (toks rctr : Nat) (s : State) : (namedTokens toks rctr s).2.besides parts = s.besides parts := by
  unfold namedTokens
  rw [besides_foldl_snd]
  intro x a
  dsimp only
  split <;> simp only [countLoad_besides]

theorem infoRangeResult_keeps : infoRangeResult.Keeps parts := ⟨fun _ _ => by simp only [infoRangeResult], fun _ _ => rfl⟩

theorem snapRead_besides (r : Req) (s : State) : (snapRead r s).1.besides parts = s.besides parts := by
  simp only [snapRead, freeWords_besides, besides_ite, ite_self, fst_ite]

theorem infoSnapRead_keeps : infoSnapRead.Keeps parts := ⟨fun _ _ => by simp only [infoSnapRead, snapRead_besides], fun _ _ => rfl⟩

theorem counterRead_besides (r : Req) (s : State) : (counterRead r s).1.besides parts = s.besides parts := by
  simp only [counterRead, ite_self, fst_ite]

theorem infoCounterRead_keeps :
    infoCounterRead.Keeps parts := ⟨fun _ _ => by simp only [infoCounterRead, counterRead_besides], fun _ _ => rfl⟩

theorem infoClkStatus_keeps : infoClkStatus.Keeps parts := ⟨fun _ _ => by simp only [infoClkStatus], fun _ _ => rfl⟩

theorem infoCfgRead_keeps : infoCfgRead.Keeps parts := ⟨fun _ _ => by simp only [infoCfgRead, ite_self, fst_ite], fun _ _ => rfl⟩

theorem refuseBlock_besides (st : Status) (s : State) : (refuseBlock st s).1.besides parts = s.besides parts := by
  simp only [refuseBlock, bump_besides, besides_ite, ite_self]

theorem countRestart_besides (k : LReset) (s : State) : (countRestart k s).besides parts = s.besides parts := by
  simp only [countRestart, bump_besides, besides_ite, ite_self]

theorem resetCounters_besides (k : LReset) (s : State) : (resetCounters k s).besides parts = s.besides parts := by
  simp only [resetCounters, countRestart_besides, besides_uncounted]

@[simp] theorem execTrstn_besides (t : Nat) (s : State) : (after (execTrstn t s) s).besides parts = s.besides parts := by
  simp only [execTrstn, toL_besides, after_next]

theorem infoPing_keeps : infoPing.Keeps parts := ⟨fun _ _ => by simp only [infoPing], fun _ _ => rfl⟩

theorem getInfo_besides (s : State) : (getInfo s).1.besides parts = s.besides parts := by
  simp only [getInfo, freeWord_besides, freeWords_besides]

theorem infoGetInfo_keeps : infoGetInfo.Keeps parts := ⟨fun _ _ => by simp only [infoGetInfo, getInfo_besides], fun _ _ => rfl⟩

theorem infoGetTime_keeps : infoGetTime.Keeps parts := ⟨fun _ _ => by simp only [infoGetTime], fun _ _ => rfl⟩

theorem countParent_besides (p : Nat) (x : Except Status (List Byte × Nat × Nat)) (s : State) :
    (countParent p x s).besides parts = s.besides parts := by
  unfold countParent
  split <;> simp only [bump_besides, countLoad_besides, besides_ite, ite_self]

theorem infoSessionClose_keeps : infoSessionClose.Keeps parts := ⟨fun _ _ => by simp only [infoSessionClose], fun _ _ => rfl⟩

end

/-! ### Operations within the host side -/

section
variable {parts : List Piece} (hm : hostSide ⊆ parts)
include hm

theorem modHost_besides (f : HostSt → HostSt) (s : State) : (modHost f s).besides parts = s.besides parts := by
  have part : Piece.host ∈ parts := hm (by decide)
  simp only [modHost, State.besides, part, if_true]

theorem modSlot_besides (n : Nat) (f : Slot → Slot) (s : State) : (modSlot n f s).besides parts = s.besides parts := by
  simp only [modSlot, modHost_besides, hm]

theorem pushOut_besides (p : Port) (f : OutFrame) (s : State) : (pushOut p f s).besides parts = s.besides parts := by
  simp only [pushOut, bump_besides, modHost_besides, besides_ite, ite_self, hm]

theorem sendEvent_besides (n opc t : Nat) (payload : List Word) (s : State) :
    (sendEvent n opc t payload s).besides parts = s.besides parts := by
  simp only [sendEvent]
  split <;> simp only [pushOut_besides, modSlot_besides, hm]

theorem queueEvent_besides (n opc t : Nat) (payload : List Word) (s : State) :
    (queueEvent n opc t payload s).besides parts = s.besides parts := by
  simp only [queueEvent, sendEvent_besides, modSlot_besides, besides_ite, ite_self, hm]

theorem postEventAt_besides (t opc : Nat) (payload : List Word) (s : State) :
    (postEventAt t opc payload s).besides parts = s.besides parts := by
  simp only [postEventAt, queueEvent_besides, besides_ite, ite_self, besides_foldl, implies_true, hm]

theorem postEvent_besides (opc : Nat) (payload : List Word) (s : State) : (postEvent opc payload s).besides parts = s.besides parts := by
  simp only [postEvent, postEventAt_besides, hm]

theorem overflowEvent_besides (n : Nat) (s : State) : (overflowEvent n s).besides parts = s.besides parts := by
  simp only [overflowEvent, sendEvent_besides, modSlot_besides, besides_ite, ite_self, hm]

theorem sendHeld_besides (n : Nat) (s : State) : (sendHeld n s).besides parts = s.besides parts := by
  simp only [sendHeld, queueEvent_besides, modSlot_besides, besides_foldl, implies_true, hm]
  repeat' split
  all_goals simp only [queueEvent_besides, hm]

theorem modFlight_besides (f : List Entry → List Entry) (s : State) : (modFlight f s).besides parts = s.besides parts := by
  simp only [modFlight, modHost_besides, hm]

theorem modEntry_besides (e : Entry) (f : Entry → Entry) (s : State) : (modEntry e f s).besides parts = s.besides parts := by
  simp only [modEntry, modFlight_besides, hm]

theorem endSession_besides (n : Nat) (s : State) : (endSession n s).besides parts = s.besides parts := by
  simp only [endSession, modSlot_besides, hm]

theorem completeAt_besides (t : Nat) (e : Entry) (st : Status) (payload : List Word) (s : State) :
    (completeAt t e st payload s).besides parts = s.besides parts := by
  simp only [completeAt, pushOut_besides, modFlight_besides, modEntry_besides, besides_ite, ite_self, hm]

theorem closeSlot_besides (n : Nat) (s : State) : (closeSlot n s).besides parts = s.besides parts := by
  simp only [closeSlot, completeAt_besides, endSession_besides, besides_ite, ite_self, besides_foldl, implies_true, hm]

theorem complete_besides (e : Entry) (st : Status) (payload : List Word) (s : State) :
    (complete e st payload s).besides parts = s.besides parts := by
  simp only [complete, completeAt_besides, closeSlot_besides, hm]

theorem giveQueued_besides (e : Entry) (s : State) : (giveQueued e s).besides parts = s.besides parts := by
  simp only [giveQueued, pushOut_besides, modEntry_besides, besides_ite, ite_self, hm]

theorem awaited_besides (a : Await) (st : Status) (f : Entry → List Word) (s : State) (e : Entry) :
    (awaited a st f s e).besides parts = s.besides parts := by
  unfold awaited
  split <;> simp only [complete_besides, modEntry_besides, besides_ite, ite_self, hm]

theorem completeAll_besides (a : Await) (st : Status) (f : Entry → List Word) (s : State) :
    (completeAll a st f s).besides parts = s.besides parts := by
  simp only [completeAll, awaited_besides, besides_foldl, implies_true, hm]

theorem abortWhere_besides (p : Entry → Bool) (st : Status) (s : State) : (abortWhere p st s).besides parts = s.besides parts := by
  simp only [abortWhere, complete_besides, besides_foldl, implies_true, hm]

theorem portReset_besides (p : Port) (s : State) : (portReset p s).besides parts = s.besides parts := by
  unfold portReset
  split <;> simp only [modHost_besides, modFlight_besides, overflowEvent_besides, besides_foldl, implies_true, hm]

theorem faultEvent_besides (cls : Nat) (w0 w2 : Word) (s : State) : (faultEvent cls w0 w2 s).besides parts = s.besides parts := by
  simp only [faultEvent, postEvent_besides, hm]

theorem passed3_besides (r : Req) (s : State) : (passed3 r s).besides parts = s.besides parts := by
  simp only [passed3, bump_besides, sendHeld_besides, modSlot_besides, besides_ite, ite_self, hm]

theorem settle_besides (e : Entry) (a : Ans) (s : State) : (settle e a s).besides parts = s.besides parts := by
  simp only [settle]
  repeat' split
  all_goals simp only [giveQueued_besides, complete_besides, closeSlot_besides, modEntry_besides, hm]

theorem carryOut_besides (o : OpInfo) (e : Entry) (s : State) (hr : ∀ e s, (o.run e s).1.besides parts = s.besides parts) :
    (carryOut o e s).besides parts = s.besides parts := by
  unfold carryOut
  split <;> simp only [settle_besides, complete_besides, modEntry_besides, hm, hr]

theorem accept_besides (o : OpInfo) (r : Req) (s : State) (ha : ∀ e s, (o.onAccept e s).besides parts = s.besides parts) :
    (accept o r s).besides parts = s.besides parts := by
  simp only [accept, giveQueued_besides, modFlight_besides, complete_besides, modEntry_besides, besides_ite, ite_self, hm, ha]

theorem submit_besides (o : OpInfo) (r : Req) (s : State) (hr : ∀ e s, (o.run e s).1.besides parts = s.besides parts)
    (ha : ∀ e s, (o.onAccept e s).besides parts = s.besides parts) : (submit o r s).besides parts = s.besides parts := by
  simp only [submit]
  repeat' split
  all_goals simp only [accept_besides, pushOut_besides, carryOut_besides, implies_true, hm, hr, ha]

theorem command_besides (o : OpInfo) (r : Req) (s : State) (ho : o.Keeps parts) :
    (command o r s).besides parts = s.besides parts := by
  simp only [command, besides_ite, ite_self, submit_besides, passed3_besides, toL_besides, ho.run, ho.onAccept, implies_true, hm]

theorem actEvent_besides (t a reason : Nat) (s : State) : (actEvent t a reason s).besides parts = s.besides parts := by
  simp only [actEvent, postEventAt_besides, hm]

theorem loadStatus_besides (k reason : Nat) (s : State) : (loadStatus k reason s).besides parts = s.besides parts := by
  simp only [loadStatus, postEvent_besides, hm]

@[simp] theorem execLoadGet_besides (r : Req) (s : State) : (after (execLoadGet r s) s).besides parts = s.besides parts := 
  command_besides hm infoLoadGet _ s infoLoadGet_keeps

@[simp] theorem execLoomPlacementGet_besides (r : Req) (s : State) :
    (after (execLoomPlacementGet r s) s).besides parts = s.besides parts := 
  command_besides hm infoLoomPlacementGet _ s infoLoomPlacementGet_keeps

@[simp] theorem execLoomBudgetGet_besides (r : Req) (s : State) : (after (execLoomBudgetGet r s) s).besides parts = s.besides parts := 
  command_besides hm infoLoomBudgetGet _ s infoLoomBudgetGet_keeps

@[simp] theorem execActStatus_besides (r : Req) (s : State) : (after (execActStatus r s) s).besides parts = s.besides parts := 
  command_besides hm infoActStatus _ s infoActStatus_keeps

@[simp] theorem execLoadSense_besides (r : Req) (s : State) : (after (execLoadSense r s) s).besides parts = s.besides parts := 
  command_besides hm infoLoadSense _ s infoLoadSense_keeps

theorem lightEvent_besides (t obj reason code : Nat) (stat : Word) (s : State) :
    (lightEvent t obj reason code stat s).besides parts = s.besides parts := by
  simp only [lightEvent, postEventAt_besides, hm]

theorem dimStarted_besides (k : Nat) (s : State) : (dimStarted k s).besides parts = s.besides parts := by
  simp only [dimStarted, modFlight_besides, besides_ite, ite_self, hm]

@[simp] theorem execDerateGet_besides (r : Req) (s : State) : (after (execDerateGet r s) s).besides parts = s.besides parts := 
  command_besides hm infoDerateGet _ s infoDerateGet_keeps

@[simp] theorem execFioRead_besides (r : Req) (s : State) : (after (execFioRead r s) s).besides parts = s.besides parts := 
  command_besides hm infoFioRead _ s infoFioRead_keeps

theorem keyEvent_besides (slot reason code : Nat) (s : State) : (keyEvent slot reason code s).besides parts = s.besides parts := by
  simp only [keyEvent, postEvent_besides, hm]

theorem endByKey_besides (n : Nat) (keep : Option (Nat × Nat)) (s : State) : (endByKey n keep s).besides parts = s.besides parts := by
  simp only [endByKey, modFlight_besides, modSlot_besides, hm]

theorem endDeadSessions_besides (keep : Option (Nat × Nat)) (s : State) : (endDeadSessions keep s).besides parts = s.besides parts := by
  unfold endDeadSessions
  refine besides_foldl _ (fun s x => ?_) _ _
  repeat' split
  all_goals simp only [endByKey_besides, hm]

theorem zeroStep1_besides (z : Zeroise) (s : State) : (zeroStep1 z s).besides parts = s.besides parts := by
  simp only [zeroStep1, modSlot_besides, endByKey_besides, besides_ite, ite_self, besides_foldl, implies_true, hm]

@[simp] theorem execKeyInfo_besides (r : Req) (s : State) : (after (execKeyInfo r s) s).besides parts = s.besides parts := 
  command_besides hm infoKeyInfo _ s infoKeyInfo_keeps

theorem shaOp_besides (n step : Nat) (data : List Byte) (s : State) : (shaOp n step data s).1.besides parts = s.besides parts := by
  unfold shaOp
  split <;> simp only [modSlot_besides, hm]

theorem keylessOp_besides (r : Req) (s : State) : (keylessOp r s).1.besides parts = s.besides parts := by
  simp only [keylessOp]
  split <;> simp only [freeBytes_besides, shaOp_besides, besides_ite, ite_self, fst_ite, hm]

theorem cryptoOp_besides (r : Req) (s : State) : (cryptoOp r s).1.besides parts = s.besides parts := by
  simp only [cryptoOp, besides_ite, fst_ite]
  repeat' split
  all_goals simp only [bump_besides, countLoad_besides, keylessOp_besides, hm]

theorem infoCryptoOp_keeps : infoCryptoOp.Keeps parts := ⟨fun _ _ => by simp only [infoCryptoOp, cryptoOp_besides, hm], fun _ _ => rfl⟩

@[simp] theorem execEncrypt_besides (r : Req) (s : State) : (after (execEncrypt r s) s).besides parts = s.besides parts := 
  command_besides hm infoCryptoOp _ s (infoCryptoOp_keeps hm)

@[simp] theorem execDecrypt_besides (r : Req) (s : State) : (after (execDecrypt r s) s).besides parts = s.besides parts := 
  command_besides hm infoCryptoOp _ s (infoCryptoOp_keeps hm)

@[simp] theorem execMacGen_besides (r : Req) (s : State) : (after (execMacGen r s) s).besides parts = s.besides parts := 
  command_besides hm infoCryptoOp _ s (infoCryptoOp_keeps hm)

@[simp] theorem execMacVer_besides (r : Req) (s : State) : (after (execMacVer r s) s).besides parts = s.besides parts := 
  command_besides hm infoCryptoOp _ s (infoCryptoOp_keeps hm)

@[simp] theorem execSha256_besides (r : Req) (s : State) : (after (execSha256 r s) s).besides parts = s.besides parts := 
  command_besides hm infoCryptoOp _ s (infoCryptoOp_keeps hm)

@[simp] theorem execEcdsaVerify_besides (r : Req) (s : State) : (after (execEcdsaVerify r s) s).besides parts = s.besides parts := 
  command_besides hm infoCryptoOp _ s (infoCryptoOp_keeps hm)

@[simp] theorem execRandom_besides (r : Req) (s : State) : (after (execRandom r s) s).besides parts = s.besides parts := 
  command_besides hm infoCryptoOp _ s (infoCryptoOp_keeps hm)

theorem canEvent_besides (t k kind handle : Nat) (ws : List Word) (s : State) :
    (canEvent t k kind handle ws s).besides parts = s.besides parts := by
  simp only [canEvent, postEventAt_besides, besides_ite, ite_self, hm]

theorem stateEvent_besides (k : Nat) (s : State) : (stateEvent k s).besides parts = s.besides parts := by
  simp only [stateEvent, canEvent_besides, hm]

theorem txFail_besides (k reason : Nat) (f : CanFrame) (s : State) : (txFail k reason f s).besides parts = s.besides parts := by
  simp only [txFail, postEvent_besides, hm]

theorem filtersIn_besides (k : Nat) (l : List (Nat × Vector CanFilter 64)) (s : State) :
    (filtersIn k l s).besides parts = s.besides parts := by
  simp only [filtersIn, completeAll_besides, besides_foldl, implies_true, hm]

theorem nmEvent_besides (c reason code : Nat) (s : State) : (nmEvent c reason code s).besides parts = s.besides parts := by
  simp only [nmEvent, postEvent_besides, hm]

theorem nmComplete_besides (c rel code : Nat) (s : State) : (nmComplete c rel code s).besides parts = s.besides parts := by
  simp only [nmComplete, completeAll_besides, hm]

theorem isoEvent_besides (g : Nat) (on : Bool) (s : State) : (isoEvent g on s).besides parts = s.besides parts := by
  simp only [isoEvent, postEvent_besides, hm]

theorem modPort_besides (p : Port) (f : PortBuf → PortBuf) (s : State) : (modPort p f s).besides parts = s.besides parts := by
  simp only [modPort, modHost_besides, hm]

theorem pushIn_besides (p : Port) (peer : Peer) (frame : List Byte) (s : State) :
    (pushIn p peer frame s).besides parts = s.besides parts := by
  simp only [pushIn, modPort_besides, hm]

@[simp] theorem execQspiStatus_besides (t : Nat) (s : State) : (after (execQspiStatus t s) s).besides parts = s.besides parts := by
  simp only [execQspiStatus, modHost_besides, toL_besides, besides_ite, ite_self, after_next, hm]

@[simp] theorem execQspiFetch_besides (t : Nat) (s : State) : (after (execQspiFetch t s) s).besides parts = s.besides parts := by
  simp only [execQspiFetch, besides_ite, after_next]
  repeat' split
  all_goals simp only [modPort_besides, modHost_besides, toL_besides, hm]

theorem departed_besides (f : OutFrame) (s : State) : (departed f s).besides parts = s.besides parts := by
  unfold departed
  split <;> simp only [modFlight_besides, overflowEvent_besides, hm]

theorem modPly_besides (p : Nat) (f : Ply → Ply) (s : State) : (modPly p f s).besides parts = s.besides parts := by
  simp only [modPly, modHost_besides, hm]

theorem modMac_besides (m : Nat) (f : Mac → Mac) (s : State) : (modMac m f s).besides parts = s.besides parts := by
  simp only [modMac, modHost_besides, hm]

@[simp] theorem execResponseSent_besides (t : Nat) (port : Port) (s : State) :
    (after (execResponseSent t port s) s).besides parts = s.besides parts := by
  simp only [execResponseSent, besides_ite, after_next]
  repeat' split
  all_goals simp only [modPort_besides, bump_besides, modHost_besides, departed_besides, modPly_besides, toL_besides, hm]

@[simp] theorem execUdpDatagramRx_besides (t m : Nat) (peer : Peer) (dst dport : Nat) (vlan : Option Nat) (plain : Bool) (data : List Byte)
    (s : State) : (after (execUdpDatagramRx t m peer dst dport vlan plain data s) s).besides parts = s.besides parts := by
  simp only [execUdpDatagramRx, pushIn_besides, bump_besides, modMac_besides, toL_besides, besides_ite, ite_self, after_next, hm]

theorem answerMac_besides (t m asked fromAddr : Nat) (s : State) : (answerMac t m asked fromAddr s).besides parts = s.besides parts := by
  simp only [answerMac, modMac_besides, toL_besides, besides_ite, ite_self, hm]

@[simp] theorem execArpRequest_besides (t m asked fromAddr : Nat) (s : State) :
    (after (execArpRequest t m asked fromAddr s) s).besides parts = s.besides parts := by
  simp only [execArpRequest, answerMac_besides, after_next, hm]

@[simp] theorem execIcmpEcho_besides (t m asked fromAddr : Nat) (s : State) :
    (after (execIcmpEcho t m asked fromAddr s) s).besides parts = s.besides parts := by
  simp only [execIcmpEcho, answerMac_besides, after_next, hm]

theorem modGptp_besides (f : Gptp → Gptp) (s : State) : (modGptp f s).besides parts = s.besides parts := by
  simp only [modGptp, modHost_besides, hm]

@[simp] theorem execGptpSync_besides (t m ns : Nat) (s : State) : (after (execGptpSync t m ns s) s).besides parts = s.besides parts := by
  simp only [execGptpSync, modGptp_besides, toL_besides, besides_ite, ite_self, after_next, hm]

@[simp] theorem execPdelayRequest_besides (t m : Nat) (measured : Option Nat) (s : State) :
    (after (execPdelayRequest t m measured s) s).besides parts = s.besides parts := by
  simp only [execPdelayRequest, besides_ite, after_next]
  repeat' split
  all_goals simp only [modGptp_besides, modMac_besides, toL_besides, hm]

@[simp] theorem execAnnounce_besides (t m gm : Nat) (s : State) : (after (execAnnounce t m gm s) s).besides parts = s.besides parts := by
  simp only [execAnnounce, modGptp_besides, toL_besides, besides_ite, ite_self, after_next, hm]

theorem modChainSt_besides (f : Chain → Chain) (s : State) : (modChainSt f s).besides parts = s.besides parts := by
  simp only [modChainSt, modHost_besides, hm]

theorem modView_besides (d : Nat) (f : DevView → DevView) (s : State) : (modView d f s).besides parts = s.besides parts := by
  simp only [modView, modChainSt_besides, hm]

theorem chainEvent_besides (d reason : Nat) (s : State) : (chainEvent d reason s).besides parts = s.besides parts := by
  simp only [chainEvent, postEvent_besides, hm]

theorem setAligned_besides (v : Bool) (s : State) : (setAligned v s).besides parts = s.besides parts := by
  simp only [setAligned, modChainSt_besides, chainEvent_besides, besides_ite, ite_self, hm]

@[simp] theorem execPlyTraining_besides (t p latency : Nat) (s : State) :
    (after (execPlyTraining t p latency s) s).besides parts = s.besides parts := by
  simp only [execPlyTraining, chainEvent_besides, modPly_besides, toL_besides, besides_ite, ite_self, after_next, hm]

theorem routeBack_besides (p : Nat) (frame : List Byte) (s : State) : (routeBack p frame s).besides parts = s.besides parts := by
  simp only [routeBack]
  split <;> simp only [bump_besides, pushOut_besides, besides_ite, ite_self, hm]

@[simp] theorem execPlyEodenPacket_besides (t p : Nat) (crc packet : List Byte) (s : State) :
    (after (execPlyEodenPacket t p crc packet s) s).besides parts = s.besides parts := by
  simp only [execPlyEodenPacket, besides_ite, after_next]
  repeat' split
  all_goals simp only [pushIn_besides, bump_besides, plyPacket_besides, routeBack_besides, toL_besides, hm]

@[simp] theorem execCredit_besides (t p n : Nat) (s : State) : (after (execCredit t p n s) s).besides parts = s.besides parts := by
  simp only [execCredit, plyPacket_besides, modPly_besides, toL_besides, besides_ite, ite_self, after_next, hm]

theorem takeLatency_besides (h : Beat) (s : State) : (takeLatency h s).besides parts = s.besides parts := by
  simp only [takeLatency, modPly_besides, besides_ite, ite_self, hm]

theorem takeAlign_besides (h : Beat) (s : State) : (takeAlign h s).besides parts = s.besides parts := by
  simp only [takeAlign, setAligned_besides, modChainSt_besides, besides_ite, ite_self, hm]

theorem sendBeats_besides (s : State) : (sendBeats s).besides parts = s.besides parts := by
  simp only [sendBeats, modChainSt_besides, hm]

@[simp] theorem execHeartbeatSend_besides (s : State) : (after (execHeartbeatSend s) s).besides parts = s.besides parts := by
  simp only [execHeartbeatSend, modChainSt_besides, sendBeats_besides, toL_besides, besides_ite, ite_self, after_next, hm]

theorem modReel_besides (f : Reel → Reel) (s : State) : (modReel f s).besides parts = s.besides parts := by
  simp only [modReel, modHost_besides, hm]

theorem takeMark_besides (set tick : Nat) (s : State) : (takeMark set tick s).besides parts = s.besides parts := by
  simp only [takeMark, modReel_besides, besides_ite, ite_self, hm]

@[simp] theorem execPlyMark_besides (t p set tick : Nat) (s : State) :
    (after (execPlyMark t p set tick s) s).besides parts = s.besides parts := by
  simp only [execPlyMark, plyPacket_besides, takeMark_besides, modChainSt_besides, toL_besides, besides_ite, ite_self, after_next, hm]

theorem writeTimeCfg_besides (v : Word) (s : State) : (writeTimeCfg v s).besides parts = s.besides parts := by
  simp only [writeTimeCfg, modGptp_besides, hm]

theorem abortUnit_besides (ops : List Nat) (n : Nat) (s : State) : (abortUnit ops n s).besides parts = s.besides parts := by
  simp only [abortUnit, abortWhere_besides, hm]

theorem abortOps_besides (ops : List Nat) (s : State) : (abortOps ops s).besides parts = s.besides parts := by
  simp only [abortOps, abortWhere_besides, hm]

theorem abortCan_besides (k : Nat) (s : State) : (abortCan k s).besides parts = s.besides parts := by
  simp only [abortCan, abortUnit_besides, abortWhere_besides, hm]

@[simp] theorem execFaultStatus_besides (r : Req) (s : State) : (after (execFaultStatus r s) s).besides parts = s.besides parts := 
  command_besides hm infoFaultStatus _ s infoFaultStatus_keeps

@[simp] theorem execFaultCaptureRead_besides (r : Req) (s : State) :
    (after (execFaultCaptureRead r s) s).besides parts = s.besides parts := 
  command_besides hm infoFaultCaptureRead _ s infoFaultCaptureRead_keeps

theorem rangeEvent_besides (reason code : Nat) (s : State) : (rangeEvent reason code s).besides parts = s.besides parts := by
  simp only [rangeEvent, postEvent_besides, hm]

@[simp] theorem execRangeResult_besides (r : Req) (s : State) : (after (execRangeResult r s) s).besides parts = s.besides parts := 
  command_besides hm infoRangeResult _ s infoRangeResult_keeps

theorem modSet_besides (n : Nat) (f : ReelSet → ReelSet) (s : State) : (modSet n f s).besides parts = s.besides parts := by
  simp only [modSet, modReel_besides, hm]

theorem snapAccept_besides (e : Entry) (s : State) : (snapAccept e s).besides parts = s.besides parts := by
  simp only [snapAccept, modSet_besides, modEntry_besides, besides_ite, ite_self, hm]

theorem releaseSet_besides (n : Nat) (s : State) : (releaseSet n s).besides parts = s.besides parts := by
  simp only [releaseSet, modSet_besides, hm]

theorem snapTake_besides (e : Entry) (s : State) : (snapTake e s).1.besides parts = s.besides parts := by
  unfold snapTake
  split <;> simp only [releaseSet_besides, modChainSt_besides, modSet_besides, besides_ite, ite_self, fst_ite, hm]

theorem infoSnapTake_keeps :
    infoSnapTake.Keeps parts := ⟨fun _ _ => by simp only [infoSnapTake, snapTake_besides, hm], fun _ _ => by simp only [infoSnapTake,
      snapAccept_besides, hm]⟩

@[simp] theorem execSnapTake_besides (r : Req) (s : State) : (after (execSnapTake r s) s).besides parts = s.besides parts := 
  command_besides hm infoSnapTake _ s (infoSnapTake_keeps hm)

@[simp] theorem execSnapRead_besides (r : Req) (s : State) : (after (execSnapRead r s) s).besides parts = s.besides parts := 
  command_besides hm infoSnapRead _ s infoSnapRead_keeps

theorem snapRelease_besides (n : Nat) (s : State) : (snapRelease n s).1.besides parts = s.besides parts := by
  simp only [snapRelease, releaseSet_besides, besides_ite, ite_self, fst_ite, hm]

theorem infoSnapRelease_keeps :
    infoSnapRelease.Keeps parts := ⟨fun _ _ => by simp only [infoSnapRelease, snapRelease_besides, hm], fun _ _ => rfl⟩

@[simp] theorem execSnapRelease_besides (r : Req) (s : State) : (after (execSnapRelease r s) s).besides parts = s.besides parts := 
  command_besides hm infoSnapRelease _ s (infoSnapRelease_keeps hm)

@[simp] theorem execCounterRead_besides (r : Req) (s : State) : (after (execCounterRead r s) s).besides parts = s.besides parts := 
  command_besides hm infoCounterRead _ s infoCounterRead_keeps

theorem powerEvent_besides (reason ap wakes : Nat) (s : State) : (powerEvent reason ap wakes s).besides parts = s.besides parts := by
  simp only [powerEvent, postEvent_besides, hm]

@[simp] theorem execClkStatus_besides (r : Req) (s : State) : (after (execClkStatus r s) s).besides parts = s.besides parts := 
  command_besides hm infoClkStatus _ s infoClkStatus_keeps

theorem updateEvent_besides (reason code : Nat) (s : State) : (updateEvent reason code s).besides parts = s.besides parts := by
  simp only [updateEvent, postEvent_besides, hm]

@[simp] theorem execCfgRead_besides (r : Req) (s : State) : (after (execCfgRead r s) s).besides parts = s.besides parts := 
  command_besides hm infoCfgRead _ s infoCfgRead_keeps

theorem holdEvent_besides (opc : Nat) (ws : List Word) (s : State) : (holdEvent opc ws s).besides parts = s.besides parts := by
  simp only [holdEvent, modSlot_besides, besides_foldl, implies_true, hm]

theorem resetHost_besides (k : LReset) (s : State) : (resetHost k s).besides parts = s.besides parts := by
  have part : Piece.host ∈ parts := hm (by decide)
  simp only [resetHost, State.besides, part, if_true]

@[simp] theorem execPing_besides (r : Req) (s : State) : (after (execPing r s) s).besides parts = s.besides parts := 
  command_besides hm infoPing _ s infoPing_keeps

@[simp] theorem execGetInfo_besides (r : Req) (s : State) : (after (execGetInfo r s) s).besides parts = s.besides parts := 
  command_besides hm infoGetInfo _ s infoGetInfo_keeps

theorem subscribe_besides (r : Req) (s : State) : (subscribe r s).1.besides parts = s.besides parts := by
  simp only [subscribe, modSlot_besides, hm]

theorem infoSubscribe_keeps : infoSubscribe.Keeps parts := ⟨fun _ _ => by simp only [infoSubscribe, subscribe_besides, hm], fun _ _ => rfl⟩

@[simp] theorem execSubscribe_besides (r : Req) (s : State) : (after (execSubscribe r s) s).besides parts = s.besides parts := 
  command_besides hm infoSubscribe _ s (infoSubscribe_keeps hm)

@[simp] theorem execGetTime_besides (r : Req) (s : State) : (after (execGetTime r s) s).besides parts = s.besides parts := 
  command_besides hm infoGetTime _ s infoGetTime_keeps

theorem setSession_besides (n : Nat) (x : Option Session) (e : Entry) (s : State) :
    (setSession n x e s).besides parts = s.besides parts := by
  simp only [setSession, modFlight_besides, modSlot_besides, hm]

theorem openSession_besides (e : Entry) (p : Nat) (s : State) : (openSession e p s).1.besides parts = s.besides parts := by
  simp only [openSession]
  split <;> simp only [freeBytes_besides, countParent_besides, setSession_besides, hm]

theorem openPlain_besides (e : Entry) (s : State) : (openPlain e s).1.besides parts = s.besides parts := by
  simp only [openPlain, freeBytes_besides, setSession_besides, modEntry_besides, besides_ite, ite_self, fst_ite, hm]

theorem infoSessionOpen_keeps :
    infoSessionOpen.Keeps parts := ⟨fun _ _ => by simp only [infoSessionOpen, openSession_besides, openPlain_besides, besides_ite,
      ite_self, fst_ite, hm], fun _ _ => rfl⟩

@[simp] theorem execSessionOpen_besides (r : Req) (s : State) : (after (execSessionOpen r s) s).besides parts = s.besides parts := 
  command_besides hm infoSessionOpen _ s (infoSessionOpen_keeps hm)

@[simp] theorem execSessionClose_besides (r : Req) (s : State) : (after (execSessionClose r s) s).besides parts = s.besides parts := 
  command_besides hm infoSessionClose _ s infoSessionClose_keeps

@[simp] theorem execSnapalignExpired_besides (s : State) : (after (execSnapalignExpired s) s).besides parts = s.besides parts := by
  unfold execSnapalignExpired
  split <;> simp only [abortWhere_besides, toL_besides, after_next, hm]

end

/-! ### Operations within the P-die -/

section
variable {parts : List Piece} (hm : pSide ⊆ parts)
include hm

theorem modP_besides (f : PDie → PDie) (s : State) : (modP f s).besides parts = s.besides parts := by
  have part : Piece.pdie ∈ parts := hm (by decide)
  simp only [modP, State.besides, part, if_true]

theorem modSkP_besides (k : Nat) (f : SkeinP → SkeinP) (s : State) : (modSkP k f s).besides parts = s.besides parts := by
  simp only [modSkP, modP_besides, hm]

theorem modCell_besides (n : Nat) (f : CellP → CellP) (s : State) : (modCell n f s).besides parts = s.besides parts := by
  simp only [modCell, modP_besides, hm]

theorem driveGates_besides (k : Nat) (s : State) : (driveGates k s).besides parts = s.besides parts := by
  simp only [driveGates, modSkP_besides, modCell_besides, besides_foldl, implies_true, hm]

theorem accrue_besides (k : Nat) (s : State) : (accrue k s).besides parts = s.besides parts := by
  simp only [accrue, modSkP_besides, modCell_besides, besides_ite, ite_self, besides_foldl, implies_true, hm]

theorem changeSkP_besides (k : Nat) (f : State → State) (s : State) (hf : ∀ s, (f s).besides parts = s.besides parts) :
    (changeSkP k f s).besides parts = s.besides parts := by
  simp only [changeSkP, driveGates_besides, accrue_besides, hm, hf]

theorem spoilPrint_besides (k : Nat) (s : State) : (spoilPrint k s).besides parts = s.besides parts := by
  simp only [spoilPrint, modSkP_besides, hm]

theorem presentCell_besides (n : Nat) (s : State) :
    (presentCell n s).besides parts = s.besides parts := besides_elim _ _ _ fun k => changeSkP_besides hm k id s fun _ => rfl

theorem pushUp_besides (b : UpBody) (s : State) : (pushUp b s).besides parts = s.besides parts := by
  simp only [pushUp, modP_besides, hm]

theorem reportP_besides (src inst detail : Nat) (s : State) : (reportP src inst detail s).besides parts = s.besides parts := by
  simp only [reportP, pushUp_besides, hm]

theorem pushCellOut_besides (n cause : Nat) (s : State) : (pushCellOut n cause s).besides parts = s.besides parts := by
  simp only [pushCellOut, pushUp_besides, modP_besides, besides_ite, ite_self, hm]

theorem cellGoesOut_besides (n cause : Nat) (mark : CellP → CellP) (s : State) :
    (cellGoesOut n cause mark s).besides parts = s.besides parts := by
  simp only [cellGoesOut, spoilPrint_besides, bump_besides, driveGates_besides, accrue_besides, pushCellOut_besides, reportP_besides,
    modCell_besides, besides_ite, ite_self, implies_true, besides_elim, hm]

theorem makeReady_besides (n : Nat) (s : State) : (makeReady n s).besides parts = s.besides parts := by
  simp only [makeReady, modCell_besides, hm]

theorem retrySkein_besides (k : Nat) (s : State) : (retrySkein k s).besides parts = s.besides parts := by
  simp only [retrySkein, modSkP_besides, bump_besides, driveGates_besides, accrue_besides, makeReady_besides, besides_ite, ite_self,
    besides_foldl, implies_true, hm]

theorem leavePause_besides (n : Nat) (s : State) : (leavePause n s).besides parts = s.besides parts := by
  simp only [leavePause, besides_ite]
  repeat' split
  all_goals simp only [retrySkein_besides, makeReady_besides, hm]

theorem pauseOver_besides (n : Nat) (s : State) : (pauseOver n s).besides parts = s.besides parts := by
  simp only [pauseOver, leavePause_besides, modCell_besides, hm]

theorem clearLatchP_besides (k : Nat) (s : State) : (clearLatchP k s).besides parts = s.besides parts := by
  simp only [clearLatchP, modSkP_besides, driveGates_besides, accrue_besides, modCell_besides, besides_ite, ite_self, besides_foldl,
    implies_true, hm]

theorem openPrint_besides (k : Nat) (s : State) : (openPrint k s).besides parts = s.besides parts := by
  simp only [openPrint, modSkP_besides, hm]

theorem dropPrint_besides (k : Nat) (s : State) : (dropPrint k s).besides parts = s.besides parts := by
  simp only [dropPrint, modSkP_besides, hm]

theorem takeEnvelope_besides (k : Nat) (s : State) : (takeEnvelope k s).besides parts = s.besides parts := by
  simp only [takeEnvelope, modSkP_besides, hm]

@[simp] theorem execTripDecision_besides (t n current : Nat) (s : State) :
    (after (execTripDecision t n current s) s).besides parts = s.besides parts := by
  simp only [execTripDecision, after_next]
  split <;> simp only [presentCell_besides, cellGoesOut_besides, bump_besides, toP_besides, besides_ite, ite_self, hm]

@[simp] theorem execLimitTimeout_besides (t n : Nat) (others : List Nat) (s : State) :
    (after (execLimitTimeout t n others s) s).besides parts = s.besides parts := by
  simp only [execLimitTimeout, after_next]
  split <;> simp only [presentCell_besides, cellGoesOut_besides, bump_besides, toP_besides, besides_foldl, implies_true, hm]

@[simp] theorem execThermalShutdown_besides (t n : Nat) (s : State) :
    (after (execThermalShutdown t n s) s).besides parts = s.besides parts := by
  simp only [execThermalShutdown, cellGoesOut_besides, bump_besides, toP_besides, besides_ite, ite_self, after_next, hm]

@[simp] theorem execThermalRelease_besides (t n : Nat) (s : State) :
    (after (execThermalRelease t n s) s).besides parts = s.besides parts := by
  simp only [execThermalRelease, presentCell_besides, driveGates_besides, leavePause_besides, toP_besides, modCell_besides, implies_true,
    besides_elim, after_next, hm]

@[simp] theorem execClampPulseEnd_besides (t n energy : Nat) (s : State) :
    (after (execClampPulseEnd t n energy s) s).besides parts = s.besides parts := by
  simp only [execClampPulseEnd, cellGoesOut_besides, bump_besides, toP_besides, modCell_besides, besides_ite, ite_self, after_next, hm]

@[simp] theorem execGateStuck_besides (t n : Nat) (s : State) : (after (execGateStuck t n s) s).besides parts = s.besides parts := by
  simp only [execGateStuck, after_next, besides_ite, toP_besides]
  split
  · rfl
  · rw [besides_elim _ _ _ fun k => changeSkP_besides hm k _ _ fun s => modSkP_besides hm k _ s, cellGoesOut_besides hm, toP_besides]

@[simp] theorem execPumpLow_besides (t n : Nat) (s : State) : (after (execPumpLow t n s) s).besides parts = s.besides parts := by
  simp only [execPumpLow, cellGoesOut_besides, toP_besides, besides_ite, ite_self, after_next, hm]

@[simp] theorem execPumpRecovered_besides (t n : Nat) (s : State) :
    (after (execPumpRecovered t n s) s).besides parts = s.besides parts := by
  simp only [execPumpRecovered, presentCell_besides, driveGates_besides, toP_besides, modCell_besides, implies_true, besides_elim,
    after_next, hm]

@[simp] theorem execLadderPauseEnd_besides (n : Nat) (s : State) : (after (execLadderPauseEnd n s) s).besides parts = s.besides parts := by
  unfold execLadderPauseEnd
  split <;> simp only [toP_besides, pauseOver_besides, besides_ite, ite_self, after_next, hm]

@[simp] theorem execCleanRun_besides (t n : Nat) (s : State) : (after (execCleanRun t n s) s).besides parts = s.besides parts := by
  simp only [execCleanRun, after_next, besides_ite, modCell_besides, hm, ite_self]
  exact (besides_elim _ _ _ fun k => accrue_besides hm k _).trans (toP_besides t s)

@[simp] theorem execDroopSet_besides (t b : Nat) (s : State) : (after (execDroopSet t b s) s).besides parts = s.besides parts := by
  simp only [execDroopSet, spoilPrint_besides, bump_besides, toP_besides, modP_besides, reportP_besides, besides_ite, ite_self,
    besides_foldl, implies_true, after_next, hm]

@[simp] theorem execDroopClear_besides (t b : Nat) (s : State) : (after (execDroopClear t b s) s).besides parts = s.besides parts := by
  simp only [execDroopClear, toP_besides, modP_besides, besides_ite, ite_self, after_next, hm]

@[simp] theorem execDroopSuspensionEnd_besides (b : Nat) (s : State) :
    (after (execDroopSuspensionEnd b s) s).besides parts = s.besides parts := by
  unfold execDroopSuspensionEnd
  split <;> simp only [leavePause_besides, toP_besides, modP_besides, besides_foldl, implies_true, after_next, hm]

@[simp] theorem execOffStateDiagFilter_besides (t k : Nat) (opn stb : Bool) (s : State) :
    (after (execOffStateDiagFilter t k opn stb s) s).besides parts = s.besides parts := by
  simp only [execOffStateDiagFilter, modSkP_besides, toP_besides, reportP_besides, besides_ite, ite_self, after_next, hm]

@[simp] theorem execSenseBad_besides (t n : Nat) (bad : Bool) (s : State) :
    (after (execSenseBad t n bad s) s).besides parts = s.besides parts := by
  simp only [execSenseBad, spoilPrint_besides, presentCell_besides, toP_besides, reportP_besides, modCell_besides, besides_ite, ite_self,
    implies_true, besides_elim, after_next, hm]

@[simp] theorem execSenseSelfTestDone_besides (t : Nat) (s : State) :
    (after (execSenseSelfTestDone t s) s).besides parts = s.besides parts := by
  simp only [execSenseSelfTestDone, toP_besides, modP_besides, after_next, hm]

@[simp] theorem execMselChange_besides (t code : Nat) (s : State) :
    (after (execMselChange t code s) s).besides parts = s.besides parts := by
  simp only [execMselChange, toP_besides, modP_besides, after_next, hm]

@[simp] theorem execTamperFlag_besides (t : Nat) (s : State) : (after (execTamperFlag t s) s).besides parts = s.besides parts := by
  simp only [execTamperFlag, toP_besides, modP_besides, besides_ite, ite_self, after_next, hm]

@[simp] theorem execFingerprintRecord_besides (t k : Nat) (currents : List (Option Nat)) (supplies : List Nat) (s : State) :
    (after (execFingerprintRecord t k currents supplies s) s).besides parts = s.besides parts := by
  simp only [execFingerprintRecord, after_next]
  split <;> simp only [modSkP_besides, pushUp_besides, toP_besides, besides_ite, ite_self, hm]

@[simp] theorem execInrushEnd_besides (k : Nat) (s : State) : (after (execInrushEnd k s) s).besides parts = s.besides parts := by
  unfold execInrushEnd
  split <;> simp only [modSkP_besides, toP_besides, after_next, hm]

@[simp] theorem execRetryWindowEnd_besides (k : Nat) (s : State) : (after (execRetryWindowEnd k s) s).besides parts = s.besides parts := by
  unfold execRetryWindowEnd
  split <;> simp only [modSkP_besides, toP_besides, after_next, hm]

theorem modActP_besides (a : Nat) (f : ActP → ActP) (s : State) : (modActP a f s).besides parts = s.besides parts := by
  simp only [modActP, modP_besides, hm]

theorem leaveNow_besides (k : Nat) (s : State) : (leaveNow k s).besides parts = s.besides parts := by
  simp only [leaveNow, modSkP_besides, hm]

theorem followSlots_besides (k : Nat) (s : State) : (followSlots k s).besides parts = s.besides parts := by
  simp only [followSlots, modSkP_besides, bump_besides, leaveNow_besides, driveGates_besides, takeEnvelope_besides, accrue_besides,
    openPrint_besides, besides_ite, ite_self, hm]

theorem followSlot_besides (a : Nat) (s : State) : (followSlot a s).besides parts = s.besides parts := by
  simp only [followSlot, followSlots_besides, besides_foldl, implies_true, hm]

theorem reportActAt_besides (a reason tick : Nat) (s : State) : (reportActAt a reason tick s).besides parts = s.besides parts := by
  simp only [reportActAt, pushUp_besides, hm]

theorem reportAct_besides (a reason : Nat) (s : State) : (reportAct a reason s).besides parts = s.besides parts := by
  simp only [reportAct, reportActAt_besides, hm]

theorem setKink_besides (a first at' : Nat) (s : State) : (setKink a first at' s).besides parts = s.besides parts := by
  simp only [setKink, reportActAt_besides, modActP_besides, hm]

theorem detectRise_besides (a : Nat) (means : List Nat) (s : State) : (detectRise a means s).besides parts = s.besides parts := by
  simp only [detectRise, besides_ite]
  repeat' split
  all_goals simp only [setKink_besides, hm]

theorem chooseDecay_besides (a code : Nat) (s : State) : (chooseDecay a code s).2.besides parts = s.besides parts := by
  simp only [chooseDecay, reportAct_besides, modActP_besides, reportP_besides, besides_ite, ite_self, snd_ite, hm]

theorem startPeak_besides (a : Nat) (s : State) : (startPeak a s).besides parts = s.besides parts := by
  simp only [startPeak, followSlot_besides, reportAct_besides, modActP_besides, besides_foldl, implies_true, hm]

theorem endRise_besides (a : Nat) (s : State) : (endRise a s).besides parts = s.besides parts := by
  simp only [endRise, freeMeans_besides, detectRise_besides, besides_ite, ite_self, hm]

theorem startRelease_besides (a : Nat) (s : State) : (startRelease a s).besides parts = s.besides parts := by
  simp only [startRelease, followSlot_besides, chooseDecay_besides, endRise_besides, reportAct_besides, modActP_besides, besides_ite,
    ite_self, besides_foldl, implies_true, fst_ite, snd_ite, hm]

theorem stopSlot_besides (a : Nat) (s : State) : (stopSlot a s).besides parts = s.besides parts := by
  simp only [stopSlot, followSlot_besides, modActP_besides, hm]

theorem abortSlotP_besides (a : Nat) (s : State) : (abortSlotP a s).besides parts = s.besides parts := by
  simp only [abortSlotP, stopSlot_besides, endRise_besides, reportAct_besides, besides_ite, ite_self, hm]

theorem takePhase_besides (a phase : Nat) (s : State) : (takePhase a phase s).besides parts = s.besides parts := by
  unfold takePhase
  split <;> simp only [abortSlotP_besides, startRelease_besides, startPeak_besides, besides_ite, ite_self, hm]

theorem slotsFailSafe_besides (mode : Nat → Nat) (s : State) : (slotsFailSafe mode s).besides parts = s.besides parts := by
  simp only [slotsFailSafe, startRelease_besides, modActP_besides, besides_ite, ite_self, besides_foldl, implies_true, hm]

theorem accrueBoth_besides (k : Nat) (s : State) : (accrueBoth k s).besides parts = s.besides parts := by
  simp only [accrueBoth, accrue_besides, besides_ite, ite_self, hm]

theorem driveBoth_besides (k : Nat) (s : State) : (driveBoth k s).besides parts = s.besides parts := by
  simp only [driveBoth, driveGates_besides, besides_ite, ite_self, hm]

theorem printBridge_besides (l : Nat) (n : Option Nat) (s : State) : (printBridge l n s).besides parts = s.besides parts := by
  unfold printBridge
  split <;> simp only [dropPrint_besides, openPrint_besides, hm]

theorem startBridge_besides (l : Nat) (s : State) : (startBridge l s).besides parts = s.besides parts := by
  simp only [startBridge, modSkP_besides, driveBoth_besides, printBridge_besides, besides_ite, ite_self, hm]

theorem handChanged_besides (k : Nat) (s : State) : (handChanged k s).besides parts = s.besides parts := by
  simp only [handChanged, modSkP_besides, hm]

theorem settleBridgeN_besides (n l : Nat) (s : State) : (settleBridgeN n l s).besides parts = s.besides parts := by
  induction n generalizing s with
  | zero => rfl
  | succ n ih =>
    unfold settleBridgeN
    split
    · rfl
    · dsimp only
      repeat' split
      all_goals simp only [ih, startBridge_besides, handChanged_besides, modSkP_besides, driveGates_besides, hm]

theorem settleBridge_besides (l : Nat) (s : State) : (settleBridge l s).besides parts = s.besides parts := by
  simp only [settleBridge, settleBridgeN_besides, hm]

theorem turnOn_besides (k : Nat) (s : State) : (turnOn k s).besides parts = s.besides parts := by
  simp only [turnOn, modSkP_besides, bump_besides, takeEnvelope_besides, openPrint_besides, besides_ite, ite_self, hm]

theorem leaveOff_besides (k : Nat) (s : State) : (leaveOff k s).besides parts = s.besides parts := by
  simp only [leaveOff, leaveNow_besides, besides_ite, ite_self, hm]

theorem applySetPoint_besides (k : Nat) (p : SetPoint) (cap : Nat) (s : State) :
    (applySetPoint k p cap s).besides parts = s.besides parts := by
  simp only [applySetPoint, spoilPrint_besides, settleBridge_besides, modSkP_besides, driveBoth_besides, turnOn_besides,
    startBridge_besides, handChanged_besides, accrueBoth_besides, leaveOff_besides, besides_ite, ite_self, hm]

theorem applyMask_besides (k mask outgoing rule : Nat) (s : State) :
    (applyMask k mask outgoing rule s).besides parts = s.besides parts := by
  simp only [applyMask, modSkP_besides, changeSkP_besides, implies_true, hm]

theorem setSlew_besides (k v : Nat) (s : State) : (setSlew k v s).besides parts = s.besides parts := by
  simp only [setSlew, modCell_besides, besides_foldl, implies_true, hm]

theorem applyDefine_besides (k : Nat) (d : SkeinDef) (mask : Nat) (s : State) :
    (applyDefine k d mask s).besides parts = s.besides parts := by
  simp only [applyDefine, setSlew_besides, modSkP_besides, accrue_besides, modCell_besides, besides_foldl, implies_true, hm]

theorem applyFsSkein_besides (cold : Bool) (k : Nat) (s : State) : (applyFsSkein cold k s).besides parts = s.besides parts := by
  simp only [applyFsSkein, modSkP_besides, driveBoth_besides, applySetPoint_besides, besides_ite, ite_self, hm]

theorem portsFailSafe_besides (cold : Bool) (s : State) : (portsFailSafe cold s).besides parts = s.besides parts := by
  simp only [portsFailSafe, modP_besides, besides_foldl, implies_true, hm]

theorem applyFailSafe_besides (cold : Bool) (s : State) : (applyFailSafe cold s).besides parts = s.besides parts := by
  simp only [applyFailSafe, bump_besides, portsFailSafe_besides, modP_besides, slotsFailSafe_besides, applyFsSkein_besides, besides_foldl,
    implies_true, hm]

@[simp] theorem execGateOffReported_besides (t k : Nat) (s : State) :
    (after (execGateOffReported t k s) s).besides parts = s.besides parts := by
  simp only [execGateOffReported, settleBridge_besides, modSkP_besides, driveGates_besides, toP_besides, accrue_besides, modCell_besides,
    besides_foldl, implies_true, after_next, hm]

@[simp] theorem execDeadtimeEnd_besides (k : Nat) (s : State) : (after (execDeadtimeEnd k s) s).besides parts = s.besides parts := by
  unfold execDeadtimeEnd
  split <;> simp only [settleBridge_besides, driveBoth_besides, toP_besides, accrueBoth_besides, after_next, hm]

@[simp] theorem execBrakePhaseEnd_besides (k : Nat) (s : State) : (after (execBrakePhaseEnd k s) s).besides parts = s.besides parts := by
  unfold execBrakePhaseEnd
  split <;> simp only [settleBridge_besides, modSkP_besides, startBridge_besides, toP_besides, accrueBoth_besides, after_next, hm]

theorem detectCycle_besides (a tOn tOff : Nat) (s : State) : (detectCycle a tOn tOff s).besides parts = s.besides parts := by
  simp only [detectCycle, setKink_besides, modActP_besides, besides_ite, ite_self, hm]

@[simp] theorem execChopOffEnd_besides (a : Nat) (s : State) : (after (execChopOffEnd a s) s).besides parts = s.besides parts := by
  unfold execChopOffEnd
  split <;> simp only [followSlot_besides, toP_besides, modActP_besides, after_next, hm]

@[simp] theorem execPeakEnd_besides (a : Nat) (means : List Nat) (s : State) :
    (after (execPeakEnd a means s) s).besides parts = s.besides parts := by
  simp only [execPeakEnd, followSlot_besides, toP_besides, reportAct_besides, detectRise_besides, modActP_besides, reportP_besides,
    besides_ite, ite_self, after_next, hm]

@[simp] theorem execReleaseEnd_besides (a : Nat) (s : State) : (after (execReleaseEnd a s) s).besides parts = s.besides parts := by
  simp only [execReleaseEnd, stopSlot_besides, toP_besides, reportAct_besides, besides_ite, ite_self, after_next, hm]

theorem modPortP_besides (p : Nat) (f : PortP → PortP) (s : State) : (modPortP p f s).besides parts = s.besides parts := by
  simp only [modPortP, modP_besides, hm]

theorem swapNow_besides (p : Nat) (copy : Bool) (s : State) : (swapNow p copy s).besides parts = s.besides parts := by
  simp only [swapNow, bump_besides, pushUp_besides, modPortP_besides, hm]

theorem startFrame_besides (p : Nat) (s : State) : (startFrame p s).besides parts = s.besides parts := by
  simp only [startFrame]
  split <;> simp only [bump64_besides, modPortP_besides, swapNow_besides, hm]

@[simp] theorem execFrameStart_besides (p : Nat) (s : State) : (after (execFrameStart p s) s).besides parts = s.besides parts := by
  simp only [execFrameStart, toP_besides, startFrame_besides, besides_ite, ite_self, after_next, hm]

theorem lsyncEdge_besides (p : Nat) (s : State) : (lsyncEdge p s).besides parts = s.besides parts := by
  simp only [lsyncEdge, bump_besides, modPortP_besides, startFrame_besides, besides_ite, ite_self, hm]

@[simp] theorem execLsyncEdge_besides (t : Nat) (s : State) : (after (execLsyncEdge t s) s).besides parts = s.besides parts := by
  simp only [execLsyncEdge, toP_besides, lsyncEdge_besides, after_next, hm]

@[simp] theorem execLsyncLoss_besides (p : Nat) (s : State) : (after (execLsyncLoss p s) s).besides parts = s.besides parts := by
  simp only [execLsyncLoss, pushUp_besides, modPortP_besides, toP_besides, besides_ite, ite_self, after_next, hm]

@[simp] theorem execSwapCopyDone_besides (p : Nat) (s : State) : (after (execSwapCopyDone p s) s).besides parts = s.besides parts := by
  unfold execSwapCopyDone
  split <;> simp only [pushUp_besides, modPortP_besides, toP_besides, after_next, hm]

@[simp] theorem execRowOvercurrent_besides (t p r : Nat) (s : State) :
    (after (execRowOvercurrent t p r s) s).besides parts = s.besides parts := by
  simp only [execRowOvercurrent, bump_besides, pushUp_besides, modPortP_besides, toP_besides, reportP_besides, besides_ite, ite_self,
    after_next, hm]

@[simp] theorem execColumnOpen_besides (t p c : Nat) (s : State) : (after (execColumnOpen t p c s) s).besides parts = s.besides parts := by
  simp only [execColumnOpen, pushUp_besides, modPortP_besides, toP_besides, reportP_besides, besides_ite, ite_self, after_next, hm]

@[simp] theorem execColumnShort_besides (t p c : Nat) (s : State) :
    (after (execColumnShort t p c s) s).besides parts = s.besides parts := by
  simp only [execColumnShort, pushUp_besides, modPortP_besides, toP_besides, reportP_besides, besides_ite, ite_self, after_next, hm]

theorem takePortCfg_besides (p : Nat) (v : Word) (s : State) : (takePortCfg p v s).besides parts = s.besides parts := by
  simp only [takePortCfg]
  split <;> simp only [modPortP_besides, swapNow_besides, besides_ite, ite_self, hm]

theorem takeLight_besides (off : Nat) (v : Word) (s : State) : (takeLight off v s).besides parts = s.besides parts := by
  simp only [takeLight, modPortP_besides, takePortCfg_besides, besides_ite, ite_self, hm]

theorem takePixel_besides (p b i v : Nat) (s : State) : (takePixel p b i v s).besides parts = s.besides parts := by
  simp only [takePixel, modPortP_besides, toP_besides, hm]

theorem takeSwap_besides (p : Nat) (copy : Bool) (s : State) : (takeSwap p copy s).besides parts = s.besides parts := by
  simp only [takeSwap, modPortP_besides, swapNow_besides, besides_ite, ite_self, hm]

theorem modFioP_besides (f : FioP → FioP) (s : State) : (modFioP f s).besides parts = s.besides parts := by
  simp only [modFioP, modP_besides, hm]

theorem modPinP_besides (i : Nat) (f : PinP → PinP) (s : State) : (modPinP i f s).besides parts = s.besides parts := by
  simp only [modPinP, modFioP_besides, hm]

theorem modCountP_besides (c : Nat) (f : CountP → CountP) (s : State) : (modCountP c f s).besides parts = s.besides parts := by
  simp only [modCountP, modFioP_besides, hm]

theorem takePinCfg_besides (i : Nat) (w : Word) (s : State) : (takePinCfg i w s).besides parts = s.besides parts := by
  simp only [takePinCfg, modPinP_besides, hm]

theorem takeCountCfg_besides (c : Nat) (w : Word) (s : State) : (takeCountCfg c w s).besides parts = s.besides parts := by
  simp only [takeCountCfg, modCountP_besides, hm]

theorem countTrig_besides (kind c : Nat) (s : State) : (countTrig kind c s).besides parts = s.besides parts := by
  simp only [countTrig, modFioP_besides, pushUp_besides, hm]

theorem countEdge_besides (c : Nat) (d : Int) (s : State) : (countEdge c d s).besides parts = s.besides parts := by
  simp only [countEdge, countTrig_besides, modCountP_besides, besides_ite, ite_self, hm]

theorem quadEdge_besides (c : Nat) (aMoved bMoved : Bool) (s : State) : (quadEdge c aMoved bMoved s).besides parts = s.besides parts := by
  simp only [quadEdge, countTrig_besides, countEdge_besides, besides_ite, ite_self, hm]

theorem countMoved_besides (moved : List Nat) (s : State) : (countMoved moved s).besides parts = s.besides parts := by
  unfold countMoved
  refine besides_foldl _ (fun s x => ?_) _ _
  repeat' split
  all_goals simp only [quadEdge_besides, countEdge_besides, besides_ite, ite_self, hm]

theorem debounced_besides (i : Nat) (s : State) : (debounced i s).besides parts = s.besides parts := by
  simp only [debounced, bump_besides, pushUp_besides, modP_besides, modPinP_besides, besides_ite, ite_self, hm]

theorem restartDebounce_besides (s : State) : (restartDebounce s).besides parts = s.besides parts := by
  simp only [restartDebounce, modFioP_besides, hm]

@[simp] theorem execDebouncedChange_besides (t : Nat) (pins : List Nat) (s : State) :
    (after (execDebouncedChange t pins s) s).besides parts = s.besides parts := by
  simp only [execDebouncedChange, countMoved_besides, debounced_besides, toP_besides, besides_ite, ite_self, besides_foldl, implies_true,
    after_next, hm]

@[simp] theorem execWettingBoostEnd_besides (i : Nat) (s : State) :
    (after (execWettingBoostEnd i s) s).besides parts = s.besides parts := by
  unfold execWettingBoostEnd
  split <;> simp only [toP_besides, modPinP_besides, after_next, hm]

theorem setFioFault_besides (s : State) : (setFioFault s).besides parts = s.besides parts := by
  simp only [setFioFault, modFioP_besides, pushUp_besides, reportP_besides, besides_ite, ite_self, hm]

theorem latchOutput_besides (i : Nat) (s : State) : (latchOutput i s).besides parts = s.besides parts := by
  simp only [latchOutput, bump_besides, setFioFault_besides, modPinP_besides, besides_ite, ite_self, hm]

@[simp] theorem execOutputTrip_besides (t i : Nat) (s : State) : (after (execOutputTrip t i s) s).besides parts = s.besides parts := by
  simp only [execOutputTrip, latchOutput_besides, toP_besides, after_next, hm]

@[simp] theorem execOutputThermal_besides (t i : Nat) (s : State) :
    (after (execOutputThermal t i s) s).besides parts = s.besides parts := by
  simp only [execOutputThermal, latchOutput_besides, toP_besides, after_next, hm]

@[simp] theorem execHallOvercurrent_besides (t i : Nat) (s : State) :
    (after (execHallOvercurrent t i s) s).besides parts = s.besides parts := by
  simp only [execHallOvercurrent, setFioFault_besides, toP_besides, modPinP_besides, besides_ite, ite_self, after_next, hm]

theorem pollPin_besides (i : Nat) (v : Bool) (s : State) : (pollPin i v s).besides parts = s.besides parts := by
  simp only [pollPin, modFioP_besides, modP_besides, modPinP_besides, besides_ite, ite_self, hm]

@[simp] theorem execPoll_besides (states : Nat) (s : State) : (after (execPoll states s) s).besides parts = s.besides parts := by
  simp only [execPoll, modFioP_besides, toP_besides, pollPin_besides, besides_ite, ite_self, besides_foldl, implies_true, after_next, hm]

theorem takeOutputs_besides (mask value : Nat) (s : State) : (takeOutputs mask value s).besides parts = s.besides parts := by
  simp only [takeOutputs, modPinP_besides, besides_ite, ite_self, besides_foldl, implies_true, hm]

theorem takeFioWord_besides (j : Nat) (v : Word) (s : State) : (takeFioWord j v s).besides parts = s.besides parts := by
  simp only [takeFioWord, modFioP_besides, hm]

theorem takeFioCommit_besides (s : State) : (takeFioCommit s).besides parts = s.besides parts := by
  simp only [takeFioCommit, takeOutputs_besides, hm]

theorem clearFioFault_besides (s : State) : (clearFioFault s).besides parts = s.besides parts := by
  simp only [clearFioFault, modFioP_besides, hm]

theorem takeFio_besides (off : Nat) (v : Word) (s : State) : (takeFio off v s).besides parts = s.besides parts := by
  simp only [takeFio, modFioP_besides, modCountP_besides, clearFioFault_besides, takeCountCfg_besides, takePinCfg_besides, besides_ite,
    ite_self, hm]

theorem takeFioClear_besides (c : Nat) (s : State) : (takeFioClear c s).besides parts = s.besides parts := by
  simp only [takeFioClear, modCountP_besides, pushUp_besides, hm]

theorem fioFailSafe_besides (s : State) : (fioFailSafe s).besides parts = s.besides parts := by
  simp only [fioFailSafe, modFioP_besides, hm]

theorem modTrx_besides (n : Nat) (f : Trx → Trx) (s : State) : (modTrx n f s).besides parts = s.besides parts := by
  simp only [modTrx, modP_besides, hm]

theorem syncTrx_besides (n : Nat) (s : State) : (syncTrx n s).besides parts = s.besides parts := by
  simp only [syncTrx, modTrx_besides, hm]

theorem syncAllTrx_besides (s : State) : (syncAllTrx s).besides parts = s.besides parts := by
  simp only [syncAllTrx, syncTrx_besides, besides_foldl, implies_true, hm]

theorem wakeTrx_besides (n cause : Nat) (s : State) : (wakeTrx n cause s).besides parts = s.besides parts := by
  simp only [wakeTrx, bump_besides, pushUp_besides, modTrx_besides, modP_besides, syncTrx_besides, besides_ite, ite_self, hm]

@[simp] theorem execWakeUpPattern_besides (t n a b c : Nat) (s : State) :
    (after (execWakeUpPattern t n a b c s) s).besides parts = s.besides parts := by
  simp only [execWakeUpPattern, wakeTrx_besides, toP_besides, phaseCounts_besides, besides_ite, ite_self, after_next, hm]

@[simp] theorem execWakeUpFrame_besides (t n : Nat) (head : FrameHead) (dlc : Nat) (data : List Byte) (s : State) :
    (after (execWakeUpFrame t n head dlc data s) s).besides parts = s.besides parts := by
  simp only [execWakeUpFrame, wakeTrx_besides, modTrx_besides, toP_besides, besides_ite, ite_self, after_next, hm]

@[simp] theorem execFecWake_besides (t n : Nat) (s : State) : (after (execFecWake t n s) s).besides parts = s.besides parts := by
  simp only [execFecWake, wakeTrx_besides, modTrx_besides, toP_besides, besides_ite, ite_self, after_next, hm]

@[simp] theorem execTxdDomTimeout_besides (t n : Nat) (s : State) :
    (after (execTxdDomTimeout t n s) s).besides parts = s.besides parts := by
  simp only [execTxdDomTimeout, pushUp_besides, modTrx_besides, toP_besides, reportP_besides, besides_ite, ite_self, after_next, hm]

@[simp] theorem execTrxThermal_besides (t n : Nat) (on : Bool) (s : State) :
    (after (execTrxThermal t n on s) s).besides parts = s.besides parts := by
  simp only [execTrxThermal, pushUp_besides, modTrx_besides, toP_besides, reportP_besides, besides_ite, ite_self, after_next, hm]

theorem takeTrx_besides (off : Nat) (v : Word) (s : State) : (takeTrx off v s).besides parts = s.besides parts := by
  simp only [takeTrx, modTrx_besides, syncTrx_besides, reportP_besides, besides_ite, ite_self, hm]

theorem setPTime_besides (t : Nat) (s : State) : (setPTime t s).besides parts = s.besides parts := by
  simp only [setPTime, modFioP_besides, accrue_besides, modP_besides, besides_foldl, implies_true, besides_uncounted, hm]

theorem freezePauses_besides (s : State) : (freezePauses s).besides parts = s.besides parts := by
  simp only [freezePauses, modP_besides, hm]

theorem enterFailSafe_besides (cold : Bool) (s : State) : (enterFailSafe cold s).besides parts = s.besides parts := by
  simp only [enterFailSafe, applyFailSafe_besides, fioFailSafe_besides, hm]

theorem declareSilence_besides (t : Nat) (s : State) : (declareSilence t s).besides parts = s.besides parts := by
  simp only [declareSilence, bump_besides, freezePauses_besides, modP_besides, enterFailSafe_besides, syncAllTrx_besides, besides_ite,
    ite_self, hm]

@[simp] theorem execHoldoverExpiry_besides (s : State) : (after (execHoldoverExpiry s) s).besides parts = s.besides parts := by
  unfold execHoldoverExpiry
  split <;> simp only [toP_besides, modP_besides, enterFailSafe_besides, besides_ite, ite_self, after_next, hm]

theorem discardDown_besides (s : State) : (discardDown s).besides parts = s.besides parts := by
  simp only [discardDown, bump_besides, modP_besides, reportP_besides, besides_ite, ite_self, hm]

theorem takeAck_besides (ack : Nat) (s : State) : (takeAck ack s).besides parts = s.besides parts := by
  simp only [takeAck, modP_besides, hm]

theorem sendDown_besides (t : Nat) (odd : Bool) (ty : FrameType) (payload : Nat) (e : LineErr) (f : Nat → State → State) (s : State)
    (hf : ∀ p s, (f p s).besides parts = s.besides parts) : (sendDown t odd ty payload e f s).besides parts = s.besides parts := by
  unfold sendDown
  split <;> simp only [discardDown_besides, modP_besides, takeAck_besides, toL_besides, besides_ite, ite_self, hm, hf]

theorem downFrame_besides (t : Nat) (odd : Bool) (ty : FrameType) (payload : Nat) (e : LineErr) (f : Nat → State → State) (s : State)
    (hf : ∀ p s, (f p s).besides parts = s.besides parts) : (downFrame t odd ty payload e f s).besides parts = s.besides parts := by
  simp only [downFrame, sendDown_besides, toL_besides, besides_ite, ite_self, implies_true, hm, hf]

theorem takeCellSlot_besides (n v : Nat) (s : State) : (takeCellSlot n v s).besides parts = s.besides parts := by
  simp only [takeCellSlot, modCell_besides, besides_ite, ite_self, hm]

theorem takePinSlot_besides (j v : Nat) (s : State) : (takePinSlot j v s).besides parts = s.besides parts := by
  simp only [takePinSlot, takeOutputs_besides, hm]

theorem takePortSlot_besides (p v : Nat) (s : State) : (takePortSlot p v s).besides parts = s.besides parts := by
  simp only [takePortSlot, modPortP_besides, takePortCfg_besides, besides_ite, ite_self, hm]

theorem startFsWrite_besides (k : Nat) (c : FsCopy) (command : Bool) (s : State) :
    (startFsWrite k c command s).besides parts = s.besides parts := by
  simp only [startFsWrite, modP_besides, hm]

theorem takeProt_besides (off : Nat) (v : Word) (s : State) : (takeProt off v s).besides parts = s.besides parts := by
  simp only [takeProt, spoilPrint_besides, modP_besides, besides_ite, ite_self, besides_foldl, implies_true, hm]

theorem applyCfg_besides (i : CfgItem) (s : State) : (applyCfg i s).besides parts = s.besides parts := by
  simp only [applyCfg]
  repeat' split
  all_goals simp only [takeFioWord_besides, takeFioCommit_besides, takeSwap_besides, setSlew_besides, takeTrx_besides, modSkP_besides,
    takeProt_besides, applyDefine_besides, changeSkP_besides, takePhase_besides, clearLatchP_besides, modPortP_besides, takePixel_besides,
    modP_besides, takeFio_besides, takeFioClear_besides, takeLight_besides, applyFsSkein_besides, startFsWrite_besides, modActP_besides,
    enterFailSafe_besides, modCell_besides, implies_true, hm]

theorem markSent_besides (seq : Nat) (s : State) : (markSent seq s).besides parts = s.besides parts := by
  simp only [markSent, modP_besides, hm]

theorem slewP_besides (s : State) : (slewP s).besides parts = s.besides parts := by
  simp only [slewP, modP_besides, hm]

@[simp] theorem execFsMemoryVerified_besides (t w : Nat) (ok : Bool) (s : State) :
    (after (execFsMemoryVerified t w ok s) s).besides parts = s.besides parts := by
  simp only [execFsMemoryVerified, toP_besides, besides_ite, after_next]
  repeat' split
  all_goals simp only [pushUp_besides, toP_besides, modP_besides, hm]

theorem wakePDie_besides (s : State) : (wakePDie s).besides parts = s.besides parts := by
  simp only [wakePDie, modP_besides, restartDebounce_besides, hm]

@[simp] theorem execPDiePowerOn_besides (t : Nat) (s : State) : (after (execPDiePowerOn t s) s).besides parts = s.besides parts := by
  have part : Piece.pdie ∈ parts := hm (by decide)
  simp only [execPDiePowerOn, after_next, State.besides, part, if_true, toP]

@[simp] theorem execPDiePowerOnRelease_besides (t : Nat) (s : State) :
    (after (execPDiePowerOnRelease t s) s).besides parts = s.besides parts := by
  simp only [execPDiePowerOnRelease, toP_besides, modP_besides, syncAllTrx_besides, besides_ite, ite_self, after_next, hm]

end

/-! ### Operations within the host side and the planner -/

section
variable {parts : List Piece} (hm : planner ⊆ parts)
include hm

theorem modLoom_besides (f : LoomSt → LoomSt) (s : State) : (modLoom f s).besides parts = s.besides parts := by
  have part : Piece.loom ∈ parts := hm (by decide)
  simp only [modLoom, State.besides, part, if_true]

theorem modSkL_besides (k : Nat) (f : SkeinL → SkeinL) (s : State) : (modSkL k f s).besides parts = s.besides parts := by
  simp only [modSkL, modLoom_besides, hm]

@[simp] theorem execLadderMgmtPauseEnd_besides (n : Nat) (s : State) :
    (after (execLadderMgmtPauseEnd n s) s).besides parts = s.besides parts := by
  unfold execLadderMgmtPauseEnd
  split <;> simp only [modLoom_besides, toL_besides, after_next, hm]

theorem setRole_besides (n : Nat) (r : Role) (s : State) : (setRole n r s).besides parts = s.besides parts := by
  simp only [setRole, modLoom_besides, hm]

theorem recap_besides (k : Nat) (f : SkeinL → SkeinL) (s : State) : (recap k f s).besides parts = s.besides parts := by
  simp only [recap, loadStatus_besides, modSkL_besides, besides_ite, ite_self, hm, hostSide_of_planner hm]

theorem activeChanged_besides (k : Nat) (s : State) : (activeChanged k s).besides parts = s.besides parts := by
  simp only [activeChanged, modSkL_besides, hm]

theorem join_besides (k n : Nat) (s : State) : (join k n s).besides parts = s.besides parts := by
  simp only [join, modSkL_besides, hm]

theorem joined_besides (k : Nat) (s : State) : (joined k s).besides parts = s.besides parts := by
  simp only [joined, activeChanged_besides, modSkL_besides, setRole_besides, besides_ite, ite_self, besides_foldl, implies_true, hm]

theorem startHandover_besides (k incoming : Nat) (outgoing : Option Nat) (s : State) :
    (startHandover k incoming outgoing s).besides parts = s.besides parts := by
  unfold startHandover
  split <;> simp only [modSkL_besides, join_besides, hm]

theorem endHandover_besides (k : Nat) (s : State) : (endHandover k s).besides parts = s.besides parts := by
  unfold endHandover
  split <;> simp only [bump_besides, activeChanged_besides, modSkL_besides, setRole_besides, besides_ite, ite_self, implies_true,
    besides_elim, hm]

theorem settleHand_besides (k : Nat) (p : SkeinP) (s : State) : (settleHand k p s).besides parts = s.besides parts := by
  unfold settleHand
  split <;> simp only [endHandover_besides, besides_ite, ite_self, hm]

theorem failOver_besides (k n : Nat) (s : State) : (failOver k n s).besides parts = s.besides parts := by
  unfold failOver
  split <;> simp only [bump_besides, loadStatus_besides, join_besides, hm, hostSide_of_planner hm]

theorem cellFault_besides (k n : Nat) (s : State) : (cellFault k n s).besides parts = s.besides parts := by
  simp only [cellFault]
  split <;> simp only [bump_besides, activeChanged_besides, modSkL_besides, setRole_besides, failOver_besides, besides_ite, ite_self, hm]

theorem passRotate_besides (k : Nat) (s t : State) (ht : passRotate k s = some t) : t.besides parts = s.besides parts := by
  unfold passRotate at ht
  split at ht
  · cases ht
  · split at ht
    · cases ht
      exact startHandover_besides hm _ _ _ s
    · cases ht

theorem liftAll_besides (s : State) : (liftAll s).besides parts = s.besides parts := by
  simp only [liftAll, recap_besides, modLoom_besides, besides_foldl, implies_true, hm]

theorem modChain_besides (j : Nat) (f : ChainEntry → ChainEntry) (s : State) : (modChain j f s).besides parts = s.besides parts := by
  simp only [modChain, modLoom_besides, hm]

theorem standUp_besides (k : Nat) (s : State) : (standUp k s).besides parts = s.besides parts := by
  simp only [standUp, join_besides, besides_foldl, implies_true, hm]

theorem commandSp_besides (k : Nat) (p : SetPoint) (s : State) : (commandSp k p s).besides parts = s.besides parts := by
  simp only [commandSp, modSkL_besides, hm]

theorem pushMirror_besides (m : MirrorMsg) (s : State) : (pushMirror m s).besides parts = s.besides parts := by
  simp only [pushMirror, modLoom_besides, hm]

theorem keepDuty_besides (k : Nat) (p : SetPoint) (s : State) : (keepDuty k p s).besides parts = s.besides parts := by
  simp only [keepDuty, modSkL_besides, hm]

theorem loadSet_besides (k : Nat) (w : Word) (s : State) : (loadSet k w s).1.besides parts = s.besides parts := by
  simp only [loadSet, besides_ite, fst_ite]
  repeat' split
  all_goals simp only [keepDuty_besides, pushMirror_besides, commandSp_besides, refuse_besides, hm]

theorem infoLoadSet_keeps : infoLoadSet.Keeps parts := ⟨fun _ _ => by simp only [infoLoadSet, loadSet_besides, hm], fun _ _ => rfl⟩

@[simp] theorem execLoadSet_besides (r : Req) (s : State) : (after (execLoadSet r s) s).besides parts = s.besides parts := 
  command_besides (hostSide_of_planner hm) infoLoadSet _ s (infoLoadSet_keeps hm)

theorem skeinDefine_besides (k : Nat) (d : SkeinDef) (s : State) : (skeinDefine k d s).1.besides parts = s.besides parts := by
  simp only [skeinDefine, modSkL_besides, countRefused_besides, besides_ite, ite_self, fst_ite, hm]

theorem infoSkeinDefine_keeps :
    infoSkeinDefine.Keeps parts := ⟨fun _ _ => by simp only [infoSkeinDefine, skeinDefine_besides, hm], fun _ _ => rfl⟩

@[simp] theorem execSkeinDefine_besides (r : Req) (s : State) : (after (execSkeinDefine r s) s).besides parts = s.besides parts := 
  command_besides (hostSide_of_planner hm) infoSkeinDefine _ s (infoSkeinDefine_keeps hm)

theorem bridgeSet_besides (k : Nat) (w0 w1 : Word) (s : State) : (bridgeSet k w0 w1 s).1.besides parts = s.besides parts := by
  simp only [bridgeSet, besides_ite, fst_ite]
  repeat' split
  all_goals simp only [commandSp_besides, refuse_besides, hm]

theorem infoBridgeSet_keeps : infoBridgeSet.Keeps parts := ⟨fun _ _ => by simp only [infoBridgeSet, bridgeSet_besides, hm], fun _ _ => rfl⟩

@[simp] theorem execBridgeSet_besides (r : Req) (s : State) : (after (execBridgeSet r s) s).besides parts = s.besides parts := 
  command_besides (hostSide_of_planner hm) infoBridgeSet _ s (infoBridgeSet_keeps hm)

theorem writeSkeinCtl_besides (k : Nat) (v : Word) (s : State) : (writeSkeinCtl k v s).1.besides parts = s.besides parts := by
  simp only [writeSkeinCtl, loadSet_besides, besides_ite, ite_self, fst_ite, hm]

theorem rotateCfg_besides (k : Nat) (w : Word) (s : State) : (rotateCfg k w s).1.besides parts = s.besides parts := by
  simp only [rotateCfg, modSkL_besides, besides_ite, ite_self, fst_ite, hm]

theorem infoLoomRotateCfg_keeps :
    infoLoomRotateCfg.Keeps parts := ⟨fun _ _ => by simp only [infoLoomRotateCfg, rotateCfg_besides, hm], fun _ _ => rfl⟩

@[simp] theorem execLoomRotateCfg_besides (r : Req) (s : State) : (after (execLoomRotateCfg r s) s).besides parts = s.besides parts := 
  command_besides (hostSide_of_planner hm) infoLoomRotateCfg _ s (infoLoomRotateCfg_keeps hm)

theorem loomPin_besides (k : Nat) (w : Word) (s : State) : (loomPin k w s).1.besides parts = s.besides parts := by
  simp only [loomPin, modSkL_besides, besides_ite, ite_self, fst_ite, hm]

theorem infoLoomPin_keeps : infoLoomPin.Keeps parts := ⟨fun _ _ => by simp only [infoLoomPin, loomPin_besides, hm], fun _ _ => rfl⟩

@[simp] theorem execLoomPin_besides (r : Req) (s : State) : (after (execLoomPin r s) s).besides parts = s.besides parts := 
  command_besides (hostSide_of_planner hm) infoLoomPin _ s (infoLoomPin_keeps hm)

theorem chainCfg_besides (j : Nat) (w g : Word) (s : State) : (chainCfg j w g s).1.besides parts = s.besides parts := by
  simp only [chainCfg, modChain_besides, besides_ite, ite_self, fst_ite, hm]

theorem infoLoomChainCfg_keeps :
    infoLoomChainCfg.Keeps parts := ⟨fun _ _ => by simp only [infoLoomChainCfg, chainCfg_besides, hm], fun _ _ => rfl⟩

@[simp] theorem execLoomChainCfg_besides (r : Req) (s : State) : (after (execLoomChainCfg r s) s).besides parts = s.besides parts := 
  command_besides (hostSide_of_planner hm) infoLoomChainCfg _ s (infoLoomChainCfg_keeps hm)

theorem writeLoom_besides (off : Nat) (v : Word) (s : State) : (writeLoom off v s).1.besides parts = s.besides parts := by
  simp only [writeLoom, modLoom_besides, besides_ite, fst_ite, hm]
  repeat' split
  all_goals simp only [asOpcode_besides, rotateCfg_besides, loomPin_besides, implies_true, hm]

theorem mirrorIn_besides (j value effect : Nat) (s : State) : (mirrorIn j value effect s).besides parts = s.besides parts := by
  simp only [mirrorIn, modSkL_besides, besides_ite, ite_self, hm]

theorem mirrorCommand_besides (j value : Nat) (s : State) : (mirrorCommand j value s).besides parts = s.besides parts := by
  simp only [mirrorCommand]
  split <;> simp only [modSkL_besides, pushMirror_besides, loadSet_besides, hm]

@[simp] theorem execMirror_besides (t dev k kind value effect status : Nat) (s : State) :
    (after (execMirror t dev k kind value effect status s) s).besides parts = s.besides parts := by
  simp only [execMirror, after_next]
  repeat' split
  all_goals simp only [mirrorCommand_besides, bump_besides, completeAll_besides, mirrorIn_besides, toL_besides, hm, hostSide_of_planner hm]

@[simp] theorem execMirrorSend_besides (t : Nat) (s : State) : (after (execMirrorSend t s) s).besides parts = s.besides parts := by
  simp only [execMirrorSend, modLoom_besides, toL_besides, besides_ite, ite_self, after_next, hm]

theorem mirrorFallback_besides (k : Nat) (s : State) : (mirrorFallback k s).besides parts = s.besides parts := by
  unfold mirrorFallback
  refine besides_foldl _ (fun s e => ?_) _ _
  dsimp only
  split <;> simp only [keepDuty_besides, complete_besides, refuse_besides, awaited_besides, hm, hostSide_of_planner hm]

theorem writeDuty_besides (k : Nat) (s : State) : (writeDuty k s).besides parts = s.besides parts := by
  simp only [writeDuty, modSkL_besides, besides_ite, ite_self, hm]

theorem fallbackFor_besides (gone : Nat → Bool) (s : State) : (fallbackFor gone s).besides parts = s.besides parts := by
  simp only [fallbackFor, mirrorFallback_besides, besides_ite, ite_self, besides_foldl, implies_true, hm]

@[simp] theorem execPlyRetrain_besides (t p : Nat) (s : State) : (after (execPlyRetrain t p s) s).besides parts = s.besides parts := by
  simp only [execPlyRetrain, fallbackFor_besides, modPly_besides, toL_besides, besides_ite, ite_self, after_next, hm,
    hostSide_of_planner hm]

theorem failPassed_besides (k : Nat) (s : State) : (failPassed k s).besides parts = s.besides parts := by
  unfold failPassed
  split <;> simp only [modSkL_besides, pushMirror_besides, hm]

theorem handsOff_besides (k : Nat) (s : State) : (handsOff k s).besides parts = s.besides parts := by
  simp only [handsOff, settleHand_besides, besides_ite, ite_self, hm]

theorem wentDown_besides (k : Nat) (s : State) : (wentDown k s).besides parts = s.besides parts := by
  simp only [wentDown, modSkL_besides, modFlight_besides, hm, hostSide_of_planner hm]

theorem alignedTo_besides (k : Nat) (s : State) : (alignedTo k s).besides parts = s.besides parts := by
  unfold alignedTo
  split <;> simp only [modSkL_besides, toP_besides, hm]

theorem noteRefresh_besides (slot : Nat) (s : State) : (noteRefresh slot s).besides parts = s.besides parts := by
  simp only [noteRefresh, wentDown_besides, besides_ite, ite_self, hm]

theorem configDown_besides (c : CfgOut) (s : State) : (configDown c s).besides parts = s.besides parts := by
  unfold configDown
  split <;> simp only [modSkL_besides, modFlight_besides, hm, hostSide_of_planner hm]

theorem rolesOfMask_besides (k : Nat) (d : SkeinDef) (mask : Nat) (s : State) :
    (rolesOfMask k d mask s).besides parts = s.besides parts := by
  simp only [rolesOfMask, setRole_besides, besides_foldl, implies_true, hm]

theorem takeCellOut_besides (n cause tick : Nat) (s : State) : (takeCellOut n cause tick s).besides parts = s.besides parts := by
  simp only [takeCellOut]
  split <;> simp only [modSkL_besides, modLoom_besides, besides_ite, ite_self, hm]

theorem restorePrint_besides (k : Nat) (d : List Word) (s : State) : (restorePrint k d s).besides parts = s.besides parts := by
  simp only [restorePrint, modSkL_besides, besides_ite, ite_self, hm]

@[simp] theorem execRotationDue_besides (k : Nat) (s : State) : (after (execRotationDue k s) s).besides parts = s.besides parts := by
  have rotated : ∀ s : State, ((passRotate k s).getD s).besides parts = s.besides parts := fun s =>
    besides_getD _ s (passRotate_besides hm k s)
  simp only [execRotationDue, after_next, besides_ite, toL_besides, rotated, ite_self]

@[simp] theorem execGiveback_besides (t j : Nat) (s : State) : (after (execGiveback t j s) s).besides parts = s.besides parts := by
  simp only [execGiveback, modChain_besides, toL_besides, besides_ite, ite_self, after_next, hm]

@[simp] theorem execRoleSwap_besides (t j : Nat) (s : State) : (after (execRoleSwap t j s) s).besides parts = s.besides parts := by
  simp only [execRoleSwap, modChain_besides, toL_besides, besides_ite, ite_self, after_next, hm]

end

/-! ### Operations within the host side and the fault collector -/

section
variable {parts : List Piece} (hm : collector ⊆ parts)
include hm

theorem modFaults_besides (f : FaultSt → FaultSt) (s : State) : (modFaults f s).besides parts = s.besides parts := by
  have part : Piece.faults ∈ parts := hm (by decide)
  simp only [modFaults, State.besides, part, if_true]

theorem modCls_besides (c : Nat) (f : FaultClass → FaultClass) (s : State) : (modCls c f s).besides parts = s.besides parts := by
  simp only [modCls, modFaults_besides, hm]

theorem alvLow_besides (why : Nat) (s : State) : (alvLow why s).besides parts = s.besides parts := by
  simp only [alvLow, modFaults_besides, hm]

theorem blockReset_besides (src inst : Nat) (s t : State) (ht : blockReset src inst s = some t) : t.besides parts = s.besides parts := by
  unfold blockReset at ht
  split at ht
  case h_1 =>
    cases ht
    exact besides_elim _ _ _ (fun p => portReset_besides (hostSide_of_collector hm) p s)
  case h_6 => cases ht
  all_goals
    cases ht
    exact modFaults_besides hm _ s

theorem takeL3_besides (chip : Bool) (cls : Nat) (w0 w2 : Word) (s : State) :
    (takeL3 chip cls w0 w2 s).besides parts = s.besides parts := by
  simp only [takeL3, alvLow_besides, modFaults_besides, hm]

@[simp] theorem execAlvToggle_besides (s : State) : (after (execAlvToggle s) s).besides parts = s.besides parts := by
  simp only [execAlvToggle, modFaults_besides, toL_besides, besides_ite, ite_self, after_next, hm]

@[simp] theorem execQuietPeriodEnd_besides (c : Nat) (s : State) : (after (execQuietPeriodEnd c s) s).besides parts = s.besides parts := by
  simp only [execQuietPeriodEnd, postEvent_besides, modCls_besides, toL_besides, besides_ite, ite_self, after_next, hm,
    hostSide_of_collector hm]

theorem writeClassCfg_besides (c : Nat) (v : Word) (s : State) : (writeClassCfg c v s).besides parts = s.besides parts := by
  simp only [writeClassCfg, modCls_besides, hm]

theorem writeFault_besides (off : Nat) (v : Word) (s : State) : (writeFault off v s).1.besides parts = s.besides parts := by
  simp only [writeFault, writeClassCfg_besides, modFaults_besides, besides_ite, ite_self, fst_ite, hm]

theorem faultAck_besides (r : Req) (s : State) : (faultAck r s).1.besides parts = s.besides parts := by
  simp only [faultAck, modFaults_besides, modCls_besides, besides_ite, ite_self, besides_foldl, implies_true, fst_ite, hm]

theorem infoFaultAck_keeps : infoFaultAck.Keeps parts := ⟨fun _ _ => by simp only [infoFaultAck, faultAck_besides, hm], fun _ _ => rfl⟩

@[simp] theorem execFaultAck_besides (r : Req) (s : State) : (after (execFaultAck r s) s).besides parts = s.besides parts := 
  command_besides (hostSide_of_collector hm) infoFaultAck _ s (infoFaultAck_keeps hm)

theorem setReaction_besides (n : Nat) (w : Word) (s : State) : (setReaction n w s).besides parts = s.besides parts := by
  simp only [setReaction, modFaults_besides, hm]

theorem infoFaultReactionSet_keeps :
    infoFaultReactionSet.Keeps parts := ⟨fun _ _ => by simp only [infoFaultReactionSet, setReaction_besides, besides_ite, ite_self,
      fst_ite, hm], fun _ _ => rfl⟩

@[simp] theorem execFaultReactionSet_besides (r : Req) (s : State) :
    (after (execFaultReactionSet r s) s).besides parts = s.besides parts := 
  command_besides (hostSide_of_collector hm) infoFaultReactionSet _ s (infoFaultReactionSet_keeps hm)

theorem restartWarm_besides (s : State) : (restartWarm s).besides parts = s.besides parts := by
  simp only [restartWarm, alvLow_besides, modFaults_besides, hm]

theorem resetFaults_besides (k : LReset) (s : State) : (resetFaults k s).besides parts = s.besides parts := by
  have part : Piece.faults ∈ parts := hm (by decide)
  simp only [resetFaults, State.besides, part, if_true]

end

/-! ### Operations within the host side, the stores, the ranging unit and the collector -/

section
variable {parts : List Piece} (hm : stores ⊆ parts)
include hm

theorem modRange_besides (f : RangeSt → RangeSt) (s : State) : (modRange f s).besides parts = s.besides parts := by
  have part : Piece.range ∈ parts := hm (by decide)
  simp only [modRange, State.besides, part, if_true]

theorem modStore_besides (f : StoreSt → StoreSt) (s : State) : (modStore f s).besides parts = s.besides parts := by
  have part : Piece.store ∈ parts := hm (by decide)
  simp only [modStore, State.besides, part, if_true]

theorem modAnchor_besides (n : Nat) (f : Anchor → Anchor) (s : State) : (modAnchor n f s).besides parts = s.besides parts := by
  simp only [modAnchor, modRange_besides, hm]

theorem modToken_besides (t : Nat) (f : Token → Token) (s : State) : (modToken t f s).besides parts = s.besides parts := by
  simp only [modToken, modRange_besides, hm]

theorem modRun_besides (f : RangeRun → RangeRun) (s : State) : (modRun f s).besides parts = s.besides parts := by
  simp only [modRun, modRange_besides, hm]

theorem endRun_besides (code : Nat) (s : State) : (endRun code s).besides parts = s.besides parts := by
  unfold endRun
  split <;> simp only [rangeEvent_besides, modRange_besides, completeAll_besides, hm, hostSide_of_stores hm]

theorem stopRun_besides (code : Nat) (s : State) : (stopRun code s).besides parts = s.besides parts := by
  unfold stopRun
  split <;> simp only [modRun_besides, endRun_besides, besides_ite, ite_self, hm]

theorem beginSlot_besides (s : State) : (beginSlot s).besides parts = s.besides parts := by
  simp only [beginSlot]
  repeat' split
  all_goals simp only [modRun_besides, countLoad_besides, modAnchor_besides, toL_besides, hm]

theorem beginRound_besides (r : RangeRun) (s : State) : (beginRound r s).besides parts = s.besides parts := by
  simp only [beginRound, namedTokens_besides, modRun_besides, modRange_besides, completeAll_besides, endRun_besides, beginSlot_besides,
    toL_besides, besides_ite, ite_self, hm, hostSide_of_stores hm]

@[simp] theorem execAnchorSlotStart_besides (s : State) : (after (execAnchorSlotStart s) s).besides parts = s.besides parts := by
  unfold execAnchorSlotStart
  split <;> simp only [beginRound_besides, beginSlot_besides, besides_ite, ite_self, after_next, hm]

theorem giveZone_besides (z : Nat) (s : State) : (giveZone z s).besides parts = s.besides parts := by
  simp only [giveZone, rangeEvent_besides, modRange_besides, besides_ite, ite_self, hm, hostSide_of_stores hm]

theorem roundFigures_besides (l : List ValidAns) (w : Nat) (s : State) : (roundFigures l w s).besides parts = s.besides parts := by
  simp only [roundFigures, modToken_besides, modAnchor_besides, besides_foldl, implies_true, hm]

theorem endLockout_besides (s : State) : (endLockout s).besides parts = s.besides parts := by
  simp only [endLockout, rangeEvent_besides, modRange_besides, hm, hostSide_of_stores hm]

@[simp] theorem execLockoutEnd_besides (s : State) : (after (execLockoutEnd s) s).besides parts = s.besides parts := by
  unfold execLockoutEnd
  split <;> simp only [endLockout_besides, toL_besides, besides_ite, ite_self, after_next, hm]

theorem rangeStart_besides (r : Req) (s : State) : (rangeStart r s).1.besides parts = s.besides parts := by
  simp only [rangeStart, modRange_besides, stopRun_besides, besides_ite, ite_self, fst_ite, hm]

theorem infoRangeStart_keeps :
    infoRangeStart.Keeps parts := ⟨fun _ _ => by simp only [infoRangeStart, rangeStart_besides, hm], fun _ _ => rfl⟩

@[simp] theorem execRangeStart_besides (r : Req) (s : State) : (after (execRangeStart r s) s).besides parts = s.besides parts := 
  command_besides (hostSide_of_stores hm) infoRangeStart _ s (infoRangeStart_keeps hm)

theorem putZoneCfg_besides (o : Nat) (ws : List Word) (s : State) : (putZoneCfg o ws s).besides parts = s.besides parts := by
  simp only [putZoneCfg, modToken_besides, modRange_besides, modAnchor_besides, besides_ite, ite_self, hm]

theorem lockoutClear_besides (r : Req) (s : State) : (lockoutClear r s).1.besides parts = s.besides parts := by
  simp only [lockoutClear, modRange_besides, endLockout_besides, besides_ite, ite_self, fst_ite, hm]

theorem infoLockoutClear_keeps :
    infoLockoutClear.Keeps parts := ⟨fun _ _ => by simp only [infoLockoutClear, lockoutClear_besides, hm], fun _ _ => rfl⟩

@[simp] theorem execLockoutClear_besides (r : Req) (s : State) : (after (execLockoutClear r s) s).besides parts = s.besides parts := 
  command_besides (hostSide_of_stores hm) infoLockoutClear _ s (infoLockoutClear_keeps hm)

theorem immoCfg_besides (r : Req) (s : State) : (immoCfg r s).1.besides parts = s.besides parts := by
  simp only [immoCfg, modRange_besides, besides_ite, ite_self, fst_ite, hm]

theorem infoImmoCfg_keeps : infoImmoCfg.Keeps parts := ⟨fun _ _ => by simp only [infoImmoCfg, immoCfg_besides, hm], fun _ _ => rfl⟩

@[simp] theorem execImmoCfg_besides (r : Req) (s : State) : (after (execImmoCfg r s) s).besides parts = s.besides parts := 
  command_besides (hostSide_of_stores hm) infoImmoCfg _ s (infoImmoCfg_keeps hm)

theorem disableRange_besides (s : State) : (disableRange s).besides parts = s.besides parts := by
  simp only [disableRange, stopRun_besides, hm]

theorem writeRange_besides (off : Nat) (v : Word) (s : State) : (writeRange off v s).1.besides parts = s.besides parts := by
  simp only [writeRange, modRange_besides, modAnchor_besides, besides_ite, ite_self, fst_ite, hm]

theorem writeStore_besides (off : Nat) (v : Word) (s : State) : (writeStore off v s).1.besides parts = s.besides parts := by
  simp only [writeStore, modStore_besides, besides_ite, ite_self, fst_ite, hm]

theorem pushEdit_besides (e : CfgEdit) (s : State) : (pushEdit e s).besides parts = s.besides parts := by
  simp only [pushEdit, modStore_besides, hm]

theorem writeOver_besides (n : Nat) (ok : Bool) (s : State) : (writeOver n ok s).besides parts = s.besides parts := by
  simp only [writeOver, modStore_besides, completeAll_besides, besides_ite, ite_self, hm, hostSide_of_stores hm]

theorem releaseWrites_besides (s : State) : (releaseWrites s).besides parts = s.besides parts := by
  simp only [releaseWrites, modStore_besides, writeOver_besides, besides_foldl, implies_true, hm]

theorem cfgWriteDone_besides (edits : List CfgEdit) (s : State) : (cfgWriteDone edits s).besides parts = s.besides parts := by
  simp only [cfgWriteDone, bump_besides, modStore_besides, writeOver_besides, hm]

theorem cfgWrite_besides (o : Nat) (ws : List Word) (s : State) : (cfgWrite o ws s).1.besides parts = s.besides parts := by
  simp only [cfgWrite]
  repeat' split
  all_goals simp only [pushEdit_besides, modStore_besides, hm]

theorem infoCfgWrite_keeps : infoCfgWrite.Keeps parts := ⟨fun _ _ => by simp only [infoCfgWrite, cfgWrite_besides, hm], fun _ _ => rfl⟩

@[simp] theorem execCfgWriteMerge_besides (r : Req) (s : State) : (after (execCfgWriteMerge r s) s).besides parts = s.besides parts := 
  command_besides (hostSide_of_stores hm) infoCfgWrite _ s (infoCfgWrite_keeps hm)

@[simp] theorem execCfgWriteStageNew_besides (r : Req) (s : State) :
    (after (execCfgWriteStageNew r s) s).besides parts = s.besides parts := 
  command_besides (hostSide_of_stores hm) infoCfgWrite _ s (infoCfgWrite_keeps hm)

@[simp] theorem execCfgWriteStageAdd_besides (r : Req) (s : State) :
    (after (execCfgWriteStageAdd r s) s).besides parts = s.besides parts := 
  command_besides (hostSide_of_stores hm) infoCfgWrite _ s (infoCfgWrite_keeps hm)

@[simp] theorem execCfgWriteReplace_besides (r : Req) (s : State) : (after (execCfgWriteReplace r s) s).besides parts = s.besides parts := 
  command_besides (hostSide_of_stores hm) infoCfgWrite _ s (infoCfgWrite_keeps hm)

@[simp] theorem execCfgWriteLive_besides (r : Req) (s : State) : (after (execCfgWriteLive r s) s).besides parts = s.besides parts := 
  command_besides (hostSide_of_stores hm) infoCfgWrite _ s (infoCfgWrite_keeps hm)

theorem settleDevice_besides (s : State) : (settleDevice s).besides parts = s.besides parts := by
  simp only [settleDevice, modStore_besides, hm]

theorem restoreLock_besides (cold : Bool) (d : List Word) (s : State) : (restoreLock cold d s).besides parts = s.besides parts := by
  simp only [restoreLock, modRange_besides, besides_ite, ite_self, hm]

theorem modUpd_besides (f : UpdSt → UpdSt) (s : State) : (modUpd f s).besides parts = s.besides parts := by
  simp only [modUpd, modStore_besides, hm]

theorem modFw_besides (b : Bool) (f : FwBank → FwBank) (s : State) : (modFw b f s).besides parts = s.besides parts := by
  simp only [modFw, modStore_besides, hm]

theorem endUpdate_besides (code : Nat) (s : State) : (endUpdate code s).besides parts = s.besides parts := by
  simp only [endUpdate, modUpd_besides, updateEvent_besides, completeAll_besides, modFw_besides, hm, hostSide_of_stores hm]

theorem checkHolder_besides (s : State) : (checkHolder s).besides parts = s.besides parts := by
  simp only [checkHolder, endUpdate_besides, besides_ite, ite_self, hm]

theorem touchUpdate_besides (e : Entry) (s : State) : (touchUpdate e s).besides parts = s.besides parts := by
  simp only [touchUpdate, modUpd_besides, besides_ite, ite_self, hm]

theorem updateBegin_besides (r : Req) (s : State) : (updateBegin r s).1.besides parts = s.besides parts := by
  simp only [updateBegin, bump_besides, modUpd_besides, checkHolder_besides, modFw_besides, besides_ite, ite_self, fst_ite, hm]

theorem infoUpdateBegin_keeps :
    infoUpdateBegin.Keeps parts := ⟨fun _ _ => by simp only [infoUpdateBegin, updateBegin_besides, hm],
      fun _ _ => by simp only [infoUpdateBegin, touchUpdate_besides, hm]⟩

@[simp] theorem execUpdateBegin_besides (r : Req) (s : State) : (after (execUpdateBegin r s) s).besides parts = s.besides parts := 
  command_besides (hostSide_of_stores hm) infoUpdateBegin _ s (infoUpdateBegin_keeps hm)

theorem writeImageBlock_besides (r : Req) (s : State) : (writeImageBlock r s).1.besides parts = s.besides parts := by
  unfold writeImageBlock
  split <;> simp only [bump_besides, modUpd_besides, refuseBlock_besides, modFw_besides, besides_ite, ite_self, fst_ite, besides_uncounted,
    hm]

theorem updateBlock_besides (r : Req) (s : State) : (updateBlock r s).1.besides parts = s.besides parts := by
  simp only [updateBlock]
  split <;> simp only [checkHolder_besides, refuseBlock_besides, writeImageBlock_besides, besides_ite, ite_self, fst_ite, hm]

theorem infoUpdateBlock_keeps :
    infoUpdateBlock.Keeps parts := ⟨fun _ _ => by simp only [infoUpdateBlock, updateBlock_besides, hm],
      fun _ _ => by simp only [infoUpdateBlock, touchUpdate_besides, hm]⟩

@[simp] theorem execUpdateBlock_besides (r : Req) (s : State) : (after (execUpdateBlock r s) s).besides parts = s.besides parts := 
  command_besides (hostSide_of_stores hm) infoUpdateBlock _ s (infoUpdateBlock_keeps hm)

theorem banksIdle_besides (s : State) : (banksIdle s).besides parts = s.besides parts := by
  simp only [banksIdle, settle_besides, checkHolder_besides, complete_besides, writeImageBlock_besides, besides_ite, ite_self,
    besides_foldl, implies_true, hm, hostSide_of_stores hm]

theorem updateVerify_besides (r : Req) (s : State) : (updateVerify r s).1.besides parts = s.besides parts := by
  simp only [updateVerify, checkHolder_besides, besides_ite, fst_ite, hm]
  repeat' split
  all_goals simp only [modUpd_besides, checkHolder_besides, hm]

theorem infoUpdateVerify_keeps :
    infoUpdateVerify.Keeps parts := ⟨fun _ _ => by simp only [infoUpdateVerify, updateVerify_besides, hm],
      fun _ _ => by simp only [infoUpdateVerify, touchUpdate_besides, hm]⟩

@[simp] theorem execUpdateVerify_besides (r : Req) (s : State) : (after (execUpdateVerify r s) s).besides parts = s.besides parts := 
  command_besides (hostSide_of_stores hm) infoUpdateVerify _ s (infoUpdateVerify_keeps hm)

theorem verifyDone_besides (bad : Option Nat) (s : State) : (verifyDone bad s).besides parts = s.besides parts := by
  simp only [verifyDone]
  split <;> simp only [bump_besides, modUpd_besides, updateEvent_besides, completeAll_besides, modFw_besides, besides_ite, ite_self, hm,
    hostSide_of_stores hm]

theorem updateCommit_besides (r : Req) (s : State) : (updateCommit r s).1.besides parts = s.besides parts := by
  simp only [updateCommit, modUpd_besides, checkHolder_besides, besides_ite, ite_self, fst_ite, hm]

theorem infoUpdateCommit_keeps :
    infoUpdateCommit.Keeps parts := ⟨fun _ _ => by simp only [infoUpdateCommit, updateCommit_besides, hm],
      fun _ _ => by simp only [infoUpdateCommit, touchUpdate_besides, hm]⟩

@[simp] theorem execUpdateCommit_besides (r : Req) (s : State) : (after (execUpdateCommit r s) s).besides parts = s.besides parts := 
  command_besides (hostSide_of_stores hm) infoUpdateCommit _ s (infoUpdateCommit_keeps hm)

@[simp] theorem execRecoveryUpdateCommit_besides (r : Req) (s : State) :
    (after (execRecoveryUpdateCommit r s) s).besides parts = s.besides parts := by
  simp only [execRecoveryUpdateCommit, after_next, besides_ite, ite_self, command_besides, infoUpdateCommit_keeps, hostSide_of_stores hm,
    hm]

theorem revert_besides (code : Nat) (s : State) : (revert code s).besides parts = s.besides parts := by
  simp only [revert, modUpd_besides, restartWarm_besides, besides_ite, ite_self, hm, collector_of_stores hm]

theorem bootTrialDone_besides (s : State) : (bootTrialDone s).besides parts = s.besides parts := by
  simp only [bootTrialDone, modUpd_besides, modStore_besides, completeAll_besides, restartWarm_besides, besides_ite, ite_self, hm,
    hostSide_of_stores hm, collector_of_stores hm]

theorem confirmDone_besides (code : Nat) (st : Status) (s : State) : (confirmDone code st s).besides parts = s.besides parts := by
  simp only [confirmDone, modUpd_besides, updateEvent_besides, completeAll_besides, hm, hostSide_of_stores hm]

theorem updFailed_besides (op : UpdOp) (s : State) : (updFailed op s).besides parts = s.besides parts := by
  unfold updFailed
  split <;> simp only [modUpd_besides, completeAll_besides, hm, hostSide_of_stores hm]

@[simp] theorem execHandoverFailure_besides (t : Nat) (s : State) :
    (after (execHandoverFailure t s) s).besides parts = s.besides parts := by
  simp only [execHandoverFailure, revert_besides, toL_besides, besides_ite, ite_self, after_next, hm]

theorem updateAbort_besides (r : Req) (s : State) : (updateAbort r s).1.besides parts = s.besides parts := by
  simp only [updateAbort]
  split <;> simp only [revert_besides, checkHolder_besides, endUpdate_besides, besides_ite, ite_self, fst_ite, hm]

theorem infoUpdateAbort_keeps :
    infoUpdateAbort.Keeps parts := ⟨fun _ _ => by simp only [infoUpdateAbort, updateAbort_besides, hm],
      fun _ _ => by simp only [infoUpdateAbort, touchUpdate_besides, hm]⟩

@[simp] theorem execUpdateAbort_besides (r : Req) (s : State) : (after (execUpdateAbort r s) s).besides parts = s.besides parts := 
  command_besides (hostSide_of_stores hm) infoUpdateAbort _ s (infoUpdateAbort_keeps hm)

theorem updateConfirm_besides (s : State) : (updateConfirm s).1.besides parts = s.besides parts := by
  simp only [updateConfirm, modUpd_besides, besides_ite, ite_self, fst_ite, hm]

theorem infoUpdateConfirm_keeps :
    infoUpdateConfirm.Keeps parts := ⟨fun _ _ => by simp only [infoUpdateConfirm, updateConfirm_besides, hm],
      fun _ _ => by simp only [infoUpdateConfirm, touchUpdate_besides, hm]⟩

@[simp] theorem execUpdateConfirm_besides (r : Req) (s : State) : (after (execUpdateConfirm r s) s).besides parts = s.besides parts := 
  command_besides (hostSide_of_stores hm) infoUpdateConfirm _ s (infoUpdateConfirm_keeps hm)

@[simp] theorem execUpdateInactivity_besides (s : State) : (after (execUpdateInactivity s) s).besides parts = s.besides parts := by
  simp only [execUpdateInactivity, endUpdate_besides, toL_besides, besides_ite, ite_self, after_next, hm]

@[simp] theorem execTrialExpiry_besides (s : State) : (after (execTrialExpiry s) s).besides parts = s.besides parts := by
  simp only [execTrialExpiry, revert_besides, toL_besides, besides_ite, ite_self, after_next, hm]

theorem revertNow_besides (code : Nat) (s : State) : (revertNow code s).besides parts = s.besides parts := by
  simp only [revertNow, bump_besides, modStore_besides, hm]

theorem resetStore_besides (s : State) : (resetStore s).besides parts = s.besides parts := by
  simp only [resetStore, modStore_besides, modFw_besides, revertNow_besides, besides_ite, ite_self, hm]

theorem resetRange_besides (k : LReset) (s : State) : (resetRange k s).besides parts = s.besides parts := by
  have part : Piece.range ∈ parts := hm (by decide)
  simp only [resetRange, State.besides, part, if_true]

theorem chooseBank_besides (bad : Nat) (s : State) : (chooseBank bad s).besides parts = s.besides parts := by
  simp only [chooseBank, modStore_besides, hm]

theorem holdNotes_besides (s : State) : (holdNotes s).besides parts = s.besides parts := by
  simp only [holdNotes, modStore_besides, holdEvent_besides, besides_foldl, implies_true, hm, hostSide_of_stores hm]

end

/-! ### Operations within the stores, the key store and the OTP -/

section
variable {parts : List Piece} (hm : vault ⊆ parts)
include hm

theorem modKeys_besides (f : KeySt → KeySt) (s : State) : (modKeys f s).besides parts = s.besides parts := by
  have part : Piece.keys ∈ parts := hm (by decide)
  simp only [modKeys, State.besides, part, if_true]

theorem modKeySlot_besides (n : Nat) (f : KeySlot → KeySlot) (s : State) : (modKeySlot n f s).besides parts = s.besides parts := by
  simp only [modKeySlot, modKeys_besides, hm]

theorem storeChange_besides (reason slot : Nat) (s : State) : (storeChange reason slot s).besides parts = s.besides parts := by
  simp only [storeChange, modKeys_besides, hm]

theorem keyWriteDone_besides (v : Vector KeySlot 64) (s : State) : (keyWriteDone v s).besides parts = s.besides parts := by
  simp only [keyWriteDone, keyEvent_besides, bump_besides, modKeys_besides, completeAll_besides, besides_foldl, implies_true, hm,
    hostSide_of_vault hm]

theorem keyWriteFailed_besides (s : State) : (keyWriteFailed s).besides parts = s.besides parts := by
  simp only [keyWriteFailed, keyEvent_besides, modKeys_besides, completeAll_besides, endDeadSessions_besides, hm, hostSide_of_vault hm]

theorem keyBankVerified_besides (t : Nat) (ok : Bool) (s : State) : (keyBankVerified t ok s).besides parts = s.besides parts := by
  unfold keyBankVerified
  split <;> simp only [keyWriteFailed_besides, modKeys_besides, keyWriteDone_besides, toL_besides, besides_ite, ite_self, hm]

theorem startZeroise_besides (code : Nat) (host : Option (Nat × Nat)) (s : State) :
    (startZeroise code host s).besides parts = s.besides parts := by
  simp only [startZeroise, modKeys_besides, completeAll_besides, hm, hostSide_of_vault hm]

theorem zeroStep2_besides (s : State) : (zeroStep2 s).besides parts = s.besides parts := by
  simp only [zeroStep2, modKeys_besides, freeBytes_besides, hm]

theorem zeroStep3_besides (s : State) : (zeroStep3 s).besides parts = s.besides parts := by
  simp only [zeroStep3, modKeys_besides, hm]

theorem zeroEnd_besides (code : Nat) (s : State) : (zeroEnd code s).besides parts = s.besides parts := by
  simp only [zeroEnd, keyEvent_besides, modKeys_besides, besides_ite, ite_self, hm, hostSide_of_vault hm]

@[simp] theorem execZeroisationStepDone_besides (t : Nat) (s : State) :
    (after (execZeroisationStepDone t s) s).besides parts = s.besides parts := by
  unfold execZeroisationStepDone
  split <;> simp only [modKeys_besides, zeroEnd_besides, zeroStep1_besides, completeAll_besides, zeroStep2_besides, zeroStep3_besides,
    toL_besides, besides_ite, ite_self, after_next, hm, hostSide_of_vault hm]

@[simp] theorem execTrngHealthPass_besides (t : Nat) (s : State) : (after (execTrngHealthPass t s) s).besides parts = s.besides parts := by
  simp only [execTrngHealthPass, after_next]
  split <;> simp only [keyEvent_besides, modKeys_besides, zeroEnd_besides, zeroStep2_besides, toL_besides, besides_ite, ite_self, hm,
    hostSide_of_vault hm]

theorem keyProvision_besides (r : Req) (s : State) : (keyProvision r s).1.besides parts = s.besides parts := by
  simp only [keyProvision, bump_besides, modKeySlot_besides, storeChange_besides, besides_ite, ite_self, fst_ite, hm]

theorem infoKeyProvision_keeps :
    infoKeyProvision.Keeps parts := ⟨fun _ _ => by simp only [infoKeyProvision, keyProvision_besides, hm], fun _ _ => rfl⟩

@[simp] theorem execKeyProvision_besides (r : Req) (s : State) : (after (execKeyProvision r s) s).besides parts = s.besides parts := 
  command_besides (hostSide_of_vault hm) infoKeyProvision _ s (infoKeyProvision_keeps hm)

theorem keyDerive_besides (r : Req) (s : State) : (keyDerive r s).1.besides parts = s.besides parts := by
  simp only [keyDerive, bump_besides, modKeySlot_besides, endDeadSessions_besides, countLoad_besides, storeChange_besides, besides_ite,
    ite_self, fst_ite, hm, hostSide_of_vault hm]

theorem infoKeyDerive_keeps : infoKeyDerive.Keeps parts := ⟨fun _ _ => by simp only [infoKeyDerive, keyDerive_besides, hm], fun _ _ => rfl⟩

@[simp] theorem execKeyDerive_besides (r : Req) (s : State) : (after (execKeyDerive r s) s).besides parts = s.besides parts := 
  command_besides (hostSide_of_vault hm) infoKeyDerive _ s (infoKeyDerive_keeps hm)

theorem keyInvalidate_besides (e : Entry) (s : State) : (keyInvalidate e s).1.besides parts = s.besides parts := by
  simp only [keyInvalidate, modKeySlot_besides, endDeadSessions_besides, storeChange_besides, besides_ite, ite_self, besides_foldl,
    implies_true, fst_ite, hm, hostSide_of_vault hm]

theorem rootRetire_besides (r : Req) (s : State) : (rootRetire r s).1.besides parts = s.besides parts := by
  simp only [rootRetire, fst_ite, besides_ite, besides_otp, ite_self, hm (show Piece.otp ∈ vault by decide)]

theorem infoKeyInvalidate_keeps :
    infoKeyInvalidate.Keeps parts := ⟨fun _ _ => by simp only [infoKeyInvalidate, keyInvalidate_besides, rootRetire_besides, besides_ite,
      ite_self, fst_ite, hm], fun _ _ => rfl⟩

@[simp] theorem execKeyInvalidate_besides (r : Req) (s : State) : (after (execKeyInvalidate r s) s).besides parts = s.besides parts := 
  command_besides (hostSide_of_vault hm) infoKeyInvalidate _ s (infoKeyInvalidate_keeps hm)

@[simp] theorem execTransportRootRetire_besides (r : Req) (s : State) :
    (after (execTransportRootRetire r s) s).besides parts = s.besides parts := 
  command_besides (hostSide_of_vault hm) infoKeyInvalidate _ s (infoKeyInvalidate_keeps hm)

theorem zeroise_besides (r : Req) (s : State) : (zeroise r s).1.besides parts = s.besides parts := by
  simp only [zeroise, startZeroise_besides, besides_ite, ite_self, fst_ite, hm]

theorem infoZeroise_keeps : infoZeroise.Keeps parts := ⟨fun _ _ => by simp only [infoZeroise, zeroise_besides, hm], fun _ _ => rfl⟩

@[simp] theorem execZeroise_besides (r : Req) (s : State) : (after (execZeroise r s) s).besides parts = s.besides parts := 
  command_besides (hostSide_of_vault hm) infoZeroise _ s (infoZeroise_keeps hm)

@[simp] theorem execKeyBankVerified_besides (t : Nat) (ok : Bool) (s : State) :
    (after (execKeyBankVerified t ok s) s).besides parts = s.besides parts := by
  simp only [execKeyBankVerified, banksIdle_besides, keyBankVerified_besides, after_next, hm, stores_of_vault hm]

theorem raiseCounter_besides (arb : Nat) (s : State) : (raiseCounter arb s).besides parts = s.besides parts := by
  simp only [raiseCounter, besides_ite, besides_otp, ite_self, hm (show Piece.otp ∈ vault by decide)]

theorem bootConfirmDone_besides (s : State) : (bootConfirmDone s).besides parts = s.besides parts := by
  simp only [bootConfirmDone, modUpd_besides, raiseCounter_besides, modStore_besides, confirmDone_besides, besides_ite, ite_self, hm,
    stores_of_vault hm]

@[simp] theorem execUpdateWriteVerified_besides (t : Nat) (ok : Bool) (bad : Option Nat) (s : State) :
    (after (execUpdateWriteVerified t ok bad s) s).besides parts = s.besides parts := by
  simp only [execUpdateWriteVerified, after_next]
  repeat' split
  all_goals simp only [modUpd_besides, bootTrialDone_besides, modStore_besides, verifyDone_besides, bootConfirmDone_besides,
    updFailed_besides, toL_besides, hm, stores_of_vault hm]

theorem resetKeys_besides (s : State) : (resetKeys s).besides parts = s.besides parts := by
  simp only [resetKeys, State.besides, hm (show Piece.keys ∈ vault by decide), hm (show Piece.otp ∈ vault by decide), if_true]

end

/-! ### Operations within what a report reaches -/

section
variable {parts : List Piece} (hm : reports ⊆ parts)
include hm

theorem modWeft_besides (f : WeftL → WeftL) (s : State) : (modWeft f s).besides parts = s.besides parts := by
  have part : Piece.weft ∈ parts := hm (by decide)
  simp only [modWeft, State.besides, part, if_true]

theorem modSpindle_besides (f : Spindle → Spindle) (s : State) : (modSpindle f s).besides parts = s.besides parts := by
  have part : Piece.spindle ∈ parts := hm (by decide)
  simp only [modSpindle, State.besides, part, if_true]

theorem modLight_besides (f : LightSt → LightSt) (s : State) : (modLight f s).besides parts = s.besides parts := by
  have part : Piece.light ∈ parts := hm (by decide)
  simp only [modLight, State.besides, part, if_true]

theorem takeL4_besides (s : State) : (takeL4 s).besides parts = s.besides parts := by
  simp only [takeL4, alvLow_besides, modFaults_besides, modWeft_besides, besides_ldie, hm, collector_of_reports hm,
    hm (show Piece.ldie ∈ reports by decide)]

theorem react_besides (lvl : Nat) (chip : Bool) (cls : Nat) (fresh : Bool) (w0 w2 : Word) (r : Report) (s : State) :
    (react lvl chip cls fresh w0 w2 r s).besides parts = s.besides parts := by
  unfold react
  split
  · split <;> simp only [faultEvent_besides, hostSide_of_reports hm]
  · simp only [faultEvent_besides, takeL1_besides, hostSide_of_reports hm]
  · split
    · rename_i t ht
      simp only [faultEvent_besides, besides_ite, ite_self, hostSide_of_reports hm, blockReset_besides (collector_of_reports hm) _ _ _ _ ht]
    · simp only [faultEvent_besides, takeL1_besides, hostSide_of_reports hm]
  · simp only [takeL3_besides, besides_ite, ite_self, collector_of_reports hm]
  · simp only [takeL4_besides, hm]

theorem newFault_besides (r : Report) (cls : Nat) (fresh : Bool) (s : State) :
    (newFault r cls fresh s).besides parts = s.besides parts := by
  simp only [newFault, bump_besides, react_besides, modCls_besides, besides_ite, ite_self, hm, collector_of_reports hm]

theorem report_besides (r : Report) (s : State) : (report r s).besides parts = s.besides parts := by
  unfold report
  split <;> simp only [bump_besides, newFault_besides, modFaults_besides, besides_ite, ite_self, hm, collector_of_reports hm]

theorem reportL_besides (src inst : Nat) (s : State) : (reportL src inst s).besides parts = s.besides parts := by
  simp only [reportL, report_besides, hm]

theorem pushCfg_besides (i : CfgItem) (s : State) : (pushCfg i s).2.besides parts = s.besides parts := by
  simp only [pushCfg, modWeft_besides, hm]

theorem pushCfg'_besides (i : CfgItem) (s : State) : (pushCfg' i s).besides parts = s.besides parts := by
  simp only [pushCfg', pushCfg_besides, hm]

theorem writeP_besides (i : CfgItem) (s : State) : (writeP i s).1.besides parts = s.besides parts := by
  simp only [writeP, pushCfg_besides, besides_ite, ite_self, fst_ite, hm]

theorem profileSet_besides (a : Nat) (p : ActProfile) (s : State) : (profileSet a p s).1.besides parts = s.besides parts := by
  simp only [profileSet, countRefused_besides, writeP_besides, besides_ite, ite_self, fst_ite, hm]

theorem infoActProfileSet_keeps :
    infoActProfileSet.Keeps parts := ⟨fun _ _ => by simp only [infoActProfileSet, profileSet_besides, hm], fun _ _ => rfl⟩

@[simp] theorem execActProfileSet_besides (r : Req) (s : State) : (after (execActProfileSet r s) s).besides parts = s.besides parts := 
  command_besides (hostSide_of_reports hm) infoActProfileSet _ s (infoActProfileSet_keeps hm)

theorem modPortL_besides (p : Nat) (f : PortL → PortL) (s : State) : (modPortL p f s).besides parts = s.besides parts := by
  simp only [modPortL, modLight_besides, hm]

theorem modLightSk_besides (k : Nat) (f : LightSkein → LightSkein) (s : State) : (modLightSk k f s).besides parts = s.besides parts := by
  simp only [modLightSk, modLight_besides, hm]

theorem modEngine_besides (e : Nat) (f : Engine → Engine) (s : State) : (modEngine e f s).besides parts = s.besides parts := by
  simp only [modEngine, modLight_besides, hm]

theorem writePixel_besides (p b i v : Nat) (s : State) : (writePixel p b i v s).besides parts = s.besides parts := by
  simp only [writePixel, modPortL_besides, pushCfg_besides, besides_ite, ite_self, hm]

theorem writePixels_besides (p b : Nat) (l : List (Nat × Nat)) (s : State) : (writePixels p b l s).besides parts = s.besides parts := by
  simp only [writePixels, writePixel_besides, besides_foldl, implies_true, hm]

theorem matrixWrite_besides (p : Nat) (ws : List Word) (s : State) : (matrixWrite p ws s).1.besides parts = s.besides parts := by
  simp only [matrixWrite, writePixels_besides, besides_ite, ite_self, fst_ite, hm]

theorem infoMatrixWrite_keeps :
    infoMatrixWrite.Keeps parts := ⟨fun _ _ => by simp only [infoMatrixWrite, matrixWrite_besides, hm], fun _ _ => rfl⟩

@[simp] theorem execMatrixWrite_besides (r : Req) (s : State) : (after (execMatrixWrite r s) s).besides parts = s.besides parts := 
  command_besides (hostSide_of_reports hm) infoMatrixWrite _ s (infoMatrixWrite_keeps hm)

theorem swapPort_besides (p : Nat) (copy : Bool) (s : State) : (swapPort p copy s).besides parts = s.besides parts := by
  simp only [swapPort, modPortL_besides, pushCfg'_besides, besides_ite, ite_self, hm]

theorem pixelEchoed_besides (p id : Nat) (s : State) : (pixelEchoed p id s).besides parts = s.besides parts := by
  simp only [pixelEchoed]
  split <;> simp only [modPortL_besides, pushCfg'_besides, besides_ite, ite_self, hm]

theorem swapBegunL_besides (p : Nat) (s : State) : (swapBegunL p s).besides parts = s.besides parts := by
  simp only [swapBegunL, modPortL_besides, hm]

theorem swapDoneL_besides (p : Nat) (s : State) : (swapDoneL p s).besides parts = s.besides parts := by
  simp only [swapDoneL, modPortL_besides, completeAll_besides, modEngine_besides, besides_ite, ite_self, besides_foldl, implies_true, hm,
    hostSide_of_reports hm]

theorem matrixSwap_besides (p : Nat) (w : Word) (s : State) : (matrixSwap p w s).1.besides parts = s.besides parts := by
  simp only [matrixSwap, swapPort_besides, besides_ite, ite_self, fst_ite, hm]

theorem infoMatrixSwap_keeps :
    infoMatrixSwap.Keeps parts := ⟨fun _ _ => by simp only [infoMatrixSwap, matrixSwap_besides, hm], fun _ _ => rfl⟩

@[simp] theorem execMatrixSwap_besides (r : Req) (s : State) : (after (execMatrixSwap r s) s).besides parts = s.besides parts := 
  command_besides (hostSide_of_reports hm) infoMatrixSwap _ s (infoMatrixSwap_keeps hm)

@[simp] theorem execExtTempStale_besides (s : State) : (after (execExtTempStale s) s).besides parts = s.besides parts := by
  unfold execExtTempStale
  split <;> simp only [modLight_besides, toL_besides, besides_ite, ite_self, after_next, hm]

theorem writePortCfg_besides (p : Nat) (v : Word) (s : State) : (writePortCfg p v s).1.besides parts = s.besides parts := by
  simp only [writePortCfg, modWeft_besides, modPortL_besides, pushCfg_besides, besides_ite, ite_self, fst_ite, snd_ite, hm]

theorem writeWindow_besides (p b i : Nat) (v : Word) (s : State) : (writeWindow p b i v s).1.besides parts = s.besides parts := by
  simp only [writeWindow, writePixels_besides, besides_ite, ite_self, fst_ite, hm]

theorem writePort_besides (p o : Nat) (v : Word) (judged : Bool) (s : State) :
    (writePort p o v judged s).1.besides parts = s.besides parts := by
  simp only [writePort, modPortL_besides, writeP_besides, writePortCfg_besides, besides_ite, ite_self, fst_ite, hm]

theorem whorlLoad_besides (a : Nat) (ws : List Word) (s : State) : (whorlLoad a ws s).1.besides parts = s.besides parts := by
  simp only [whorlLoad, modLight_besides, besides_ite, ite_self, fst_ite, hm]

theorem writeLight_besides (off : Nat) (v : Word) (judged : Bool) (s : State) :
    (writeLight off v judged s).1.besides parts = s.besides parts := by
  simp only [writeLight, modLight_besides, whorlLoad_besides, writePort_besides, besides_ite, ite_self, fst_ite, hm]
  repeat' split
  all_goals simp only [writeWindow_besides, modLightSk_besides, hm]

theorem stopEngines_besides (s : State) : (stopEngines s).besides parts = s.besides parts := by
  simp only [stopEngines, modLight_besides, completeAll_besides, modEngine_besides, besides_foldl, implies_true, hm, hostSide_of_reports hm]

theorem disablePorts_besides (s : State) : (disablePorts s).besides parts = s.besides parts := by
  simp only [disablePorts, pushCfg'_besides, besides_foldl, implies_true, hm]

theorem takeLightEvent_besides (p kind idx tick : Nat) (s : State) :
    (takeLightEvent p kind idx tick s).besides parts = s.besides parts := by
  unfold takeLightEvent
  split <;> simp only [swapDoneL_besides, modPortL_besides, lightEvent_besides, swapBegunL_besides, hm, hostSide_of_reports hm]

theorem portEchoed_besides (off : Nat) (v : Word) (s : State) : (portEchoed off v s).besides parts = s.besides parts := by
  simp only [portEchoed, modPortL_besides, besides_ite, ite_self, hm]

theorem releaseClaims_besides (e : Nat) (s : State) : (releaseClaims e s).besides parts = s.besides parts := by
  simp only [releaseClaims, modLight_besides, hm]

theorem stopWith_besides (e reason : Nat) (s : State) : (stopWith e reason s).besides parts = s.besides parts := by
  simp only [stopWith, reportL_besides, lightEvent_besides, releaseClaims_besides, modEngine_besides, hm, hostSide_of_reports hm]

theorem begins_besides (e : Nat) (s : State) : (begins e s).besides parts = s.besides parts := by
  simp only [begins, bump_besides, completeAll_besides, modEngine_besides, hm, hostSide_of_reports hm]

theorem runaway_besides (e : Nat) (s : State) : (runaway e s).besides parts = s.besides parts := by
  simp only [runaway, stopWith_besides, besides_ite, ite_self, hm]

theorem whorlExec_besides (op : Nat → Bool) (act : Nat → Word → State → State) (t e : Nat) (s : State)
    (hf : ∀ e w s, (act e w s).besides parts = s.besides parts) : (whorlExec op act t e s).besides parts = s.besides parts := by
  simp only [whorlExec, stopWith_besides, completeAll_besides, begins_besides, runaway_besides, toL_besides, besides_ite, ite_self, hm,
    hostSide_of_reports hm, hf]

theorem onSkein_besides (e k : Nat) (f : State → State) (s : State) (hf : ∀ s, (f s).besides parts = s.besides parts) :
    (onSkein e k f s).besides parts = s.besides parts := by
  simp only [onSkein]
  split <;> simp only [stopWith_besides, modLightSk_besides, hm, hf]

theorem onPort_besides (e p : Nat) (f : State → State) (s : State) (hf : ∀ s, (f s).besides parts = s.besides parts) :
    (onPort e p f s).besides parts = s.besides parts := by
  unfold onPort
  split <;> simp only [modPortL_besides, stopWith_besides, hm, hf]

theorem onRegion_besides (e r : Nat) (f : Region → State → State) (s : State) (hf : ∀ g s, (f g s).besides parts = s.besides parts) :
    (onRegion e r f s).besides parts = s.besides parts := by
  simp only [onRegion, stopWith_besides, onPort_besides, besides_ite, ite_self, implies_true, hm, hf]

theorem overBudget_besides (e k : Nat) (s : State) : (overBudget e k s).besides parts = s.besides parts := by
  simp only [overBudget, reportL_besides, modLightSk_besides, modEngine_besides, besides_ite, ite_self, hm]

@[simp] theorem execWhorlEnd_besides (t e : Nat) (s : State) : (after (execWhorlEnd t e s) s).besides parts = s.besides parts := by
  simp only [execWhorlEnd, lightEvent_besides, releaseClaims_besides, modEngine_besides, whorlExec_besides, implies_true, after_next, hm,
    hostSide_of_reports hm]

theorem setLv_besides (e : Nat) (w : Word) (v : Nat) (s : State) : (setLv e w v s).besides parts = s.besides parts := by
  simp only [setLv, modEngine_besides, hm]

@[simp] theorem execWhorlLdi_besides (t e : Nat) (s : State) : (after (execWhorlLdi t e s) s).besides parts = s.besides parts := by
  simp only [execWhorlLdi, setLv_besides, whorlExec_besides, implies_true, after_next, hm]

@[simp] theorem execWhorlAddi_besides (t e : Nat) (s : State) : (after (execWhorlAddi t e s) s).besides parts = s.besides parts := by
  simp only [execWhorlAddi, setLv_besides, whorlExec_besides, implies_true, after_next, hm]

theorem waitFor_besides (e T : Nat) (s : State) : (waitFor e T s).besides parts = s.besides parts := by
  simp only [waitFor, bump_besides, modEngine_besides, besides_ite, ite_self, hm]

@[simp] theorem execWhorlWait_besides (t e : Nat) (s : State) : (after (execWhorlWait t e s) s).besides parts = s.besides parts := by
  simp only [execWhorlWait, waitFor_besides, whorlExec_besides, implies_true, after_next, hm]

@[simp] theorem execWhorlWaitr_besides (t e : Nat) (s : State) : (after (execWhorlWaitr t e s) s).besides parts = s.besides parts := by
  simp only [execWhorlWaitr, waitFor_besides, whorlExec_besides, implies_true, after_next, hm]

@[simp] theorem execWhorlSync_besides (t e : Nat) (s : State) : (after (execWhorlSync t e s) s).besides parts = s.besides parts := by
  simp only [execWhorlSync, syncTime_besides, waitFor_besides, whorlExec_besides, implies_true, after_next, hm]

@[simp] theorem execWhorlWaitExpiry_besides (e : Nat) (s : State) :
    (after (execWhorlWaitExpiry e s) s).besides parts = s.besides parts := by
  simp only [execWhorlWaitExpiry, modEngine_besides, toL_besides, besides_ite, ite_self, after_next, hm]

@[simp] theorem execWhorlLoop_besides (t e : Nat) (s : State) : (after (execWhorlLoop t e s) s).besides parts = s.besides parts := by
  simp only [execWhorlLoop, modEngine_besides, setLv_besides, whorlExec_besides, besides_ite, ite_self, implies_true, after_next, hm]

@[simp] theorem execWhorlJmp_besides (t e : Nat) (s : State) : (after (execWhorlJmp t e s) s).besides parts = s.besides parts := by
  simp only [execWhorlJmp, modEngine_besides, whorlExec_besides, implies_true, after_next, hm]

@[simp] theorem execWhorlPix_besides (t e : Nat) (s : State) : (after (execWhorlPix t e s) s).besides parts = s.besides parts := by
  rw [execWhorlPix, after_next]
  refine whorlExec_besides hm _ _ _ _ _ fun e w s => ?_
  simp only [stopWith_besides, writePixel_besides, onPort_besides, besides_ite, ite_self, implies_true, hm]

theorem shiftRegion_besides (dir v : Nat) (g : Region) (s : State) : (shiftRegion dir v g s).besides parts = s.besides parts := by
  simp only [shiftRegion, writePixels_besides, hm]

@[simp] theorem execWhorlShift_besides (t e : Nat) (s : State) : (after (execWhorlShift t e s) s).besides parts = s.besides parts := by
  rw [execWhorlShift, after_next]
  refine whorlExec_besides hm _ _ _ _ _ fun e w s => ?_
  simp only [onRegion_besides, stopWith_besides, shiftRegion_besides, besides_ite, ite_self, implies_true, hm]

@[simp] theorem execWhorlSwap_besides (t e : Nat) (s : State) : (after (execWhorlSwap t e s) s).besides parts = s.besides parts := by
  rw [execWhorlSwap, after_next]
  refine whorlExec_besides hm _ _ _ _ _ fun e w s => ?_
  simp only [swapPort_besides, modEngine_besides, onPort_besides, implies_true, hm]

@[simp] theorem execWhorlEvt_besides (t e : Nat) (s : State) : (after (execWhorlEvt t e s) s).besides parts = s.besides parts := by
  simp only [execWhorlEvt, lightEvent_besides, whorlExec_besides, implies_true, after_next, hm, hostSide_of_reports hm]

@[simp] theorem execWhorlBadInstr_besides (t e : Nat) (s : State) :
    (after (execWhorlBadInstr t e s) s).besides parts = s.besides parts := by
  simp only [execWhorlBadInstr, stopWith_besides, whorlExec_besides, implies_true, after_next, hm]

theorem infoWhorlLoad_keeps : infoWhorlLoad.Keeps parts := ⟨fun _ _ => by simp only [infoWhorlLoad, whorlLoad_besides, hm], fun _ _ => rfl⟩

@[simp] theorem execWhorlLoad_besides (r : Req) (s : State) : (after (execWhorlLoad r s) s).besides parts = s.besides parts := 
  command_besides (hostSide_of_reports hm) infoWhorlLoad _ s (infoWhorlLoad_keeps hm)

theorem whorlRun_besides (e : Nat) (w0 w1 : Word) (s : State) : (whorlRun e w0 w1 s).1.besides parts = s.besides parts := by
  simp only [whorlRun, modEngine_besides, besides_ite, ite_self, fst_ite, hm]

theorem infoWhorlRun_keeps : infoWhorlRun.Keeps parts := ⟨fun _ _ => by simp only [infoWhorlRun, whorlRun_besides, hm], fun _ _ => rfl⟩

@[simp] theorem execWhorlRun_besides (r : Req) (s : State) : (after (execWhorlRun r s) s).besides parts = s.besides parts := 
  command_besides (hostSide_of_reports hm) infoWhorlRun _ s (infoWhorlRun_keeps hm)

theorem whorlStop_besides (e : Nat) (s : State) : (whorlStop e s).besides parts = s.besides parts := by
  simp only [whorlStop, completeAll_besides, releaseClaims_besides, modEngine_besides, hm, hostSide_of_reports hm]

theorem infoWhorlStop_keeps : infoWhorlStop.Keeps parts := ⟨fun _ _ => by simp only [infoWhorlStop, whorlStop_besides, hm], fun _ _ => rfl⟩

@[simp] theorem execWhorlStop_besides (r : Req) (s : State) : (after (execWhorlStop r s) s).besides parts = s.besides parts := 
  command_besides (hostSide_of_reports hm) infoWhorlStop _ s (infoWhorlStop_keeps hm)

theorem sendOutputs_besides (set : Nat) (s : State) : (sendOutputs set s).2.besides parts = s.besides parts := by
  simp only [sendOutputs, pushCfg'_besides, pushCfg_besides, besides_foldl, implies_true, hm]

theorem fioCfg_besides (first : Nat) (ws : List Word) (s : State) : (fioCfg first ws s).1.besides parts = s.besides parts := by
  unfold fioCfg
  dsimp only
  repeat' split
  all_goals first | rfl | skip
  refine besides_foldl_snd (β := List Await) _ (fun x i => ?_) _ _
  exact pushCfg_besides hm _ x.2

theorem infoFioCfg_keeps :
    infoFioCfg.Keeps parts := ⟨fun _ _ => by simp only [infoFioCfg, fioCfg_besides, besides_ite, ite_self, fst_ite, hm], fun _ _ => rfl⟩

@[simp] theorem execFioCfg_besides (r : Req) (s : State) : (after (execFioCfg r s) s).besides parts = s.besides parts := 
  command_besides (hostSide_of_reports hm) infoFioCfg _ s (infoFioCfg_keeps hm)

theorem fioWrite_besides (mask value : Nat) (s : State) : (fioWrite mask value s).1.besides parts = s.besides parts := by
  simp only [fioWrite, sendOutputs_besides, besides_ite, ite_self, fst_ite, hm]

theorem infoFioWrite_keeps : infoFioWrite.Keeps parts := ⟨fun _ _ => by simp only [infoFioWrite, fioWrite_besides, hm], fun _ _ => rfl⟩

@[simp] theorem execFioWrite_besides (r : Req) (s : State) : (after (execFioWrite r s) s).besides parts = s.besides parts := 
  command_besides (hostSide_of_reports hm) infoFioWrite _ s (infoFioWrite_keeps hm)

theorem fioCountRead_besides (c : Nat) (w : Word) (s : State) : (fioCountRead c w s).1.besides parts = s.besides parts := by
  simp only [fioCountRead, pushCfg'_besides, besides_ite, ite_self, fst_ite, hm]

theorem infoFioCountRead_keeps :
    infoFioCountRead.Keeps parts := ⟨fun _ _ => by simp only [infoFioCountRead, fioCountRead_besides, hm], fun _ _ => rfl⟩

@[simp] theorem execFioCountRead_besides (r : Req) (s : State) : (after (execFioCountRead r s) s).besides parts = s.besides parts := 
  command_besides (hostSide_of_reports hm) infoFioCountRead _ s (infoFioCountRead_keeps hm)

theorem writeCountCfg_besides (c : Nat) (v : Word) (s : State) : (writeCountCfg c v s).1.besides parts = s.besides parts := by
  simp only [writeCountCfg, writeP_besides, besides_ite, ite_self, fst_ite, hm]

theorem passiveEdge_besides (k : Nat) (before s : State) : (passiveEdge k before s).besides parts = s.besides parts := by
  simp only [passiveEdge, reportL_besides, besides_ite, ite_self, hm]

theorem writeTrxReg_besides (n o : Nat) (v : Word) (s : State) : (writeTrxReg n o v s).1.besides parts = s.besides parts := by
  unfold writeTrxReg
  split <;> simp only [writeP_besides, besides_ite, ite_self, fst_ite, hm]

theorem qspiDiscard_besides (f : HostSt → HostSt) (s : State) : (qspiDiscard f s).besides parts = s.besides parts := by
  simp only [qspiDiscard, bump_besides, modHost_besides, reportL_besides, besides_ite, ite_self, hm, hostSide_of_reports hm]

@[simp] theorem execQspiSend_besides (t len : Nat) (data : List Byte) (s : State) :
    (after (execQspiSend t len data s) s).besides parts = s.besides parts := by
  simp only [execQspiSend, qspiDiscard_besides, pushIn_besides, bump_besides, toL_besides, besides_ite, ite_self, after_next, hm,
    hostSide_of_reports hm]

@[simp] theorem execGptpSyncLoss_besides (t : Nat) (s : State) : (after (execGptpSyncLoss t s) s).besides parts = s.besides parts := by
  simp only [execGptpSyncLoss, reportL_besides, modGptp_besides, toL_besides, besides_ite, ite_self, after_next, hm, hostSide_of_reports hm]

theorem startTraining_besides (s : State) : (startTraining s).besides parts = s.besides parts := by
  simp only [startTraining, modWeft_besides, hm]

theorem freeze_besides (s : State) : (freeze s).besides parts = s.besides parts := by
  simp only [freeze, modSpindle_besides, hm]

@[simp] theorem execLockstepMismatch_besides (t : Nat) (s : State) :
    (after (execLockstepMismatch t s) s).besides parts = s.besides parts := by
  simp only [execLockstepMismatch, reportL_besides, freeze_besides, modSpindle_besides, toL_besides, besides_ite, ite_self, after_next, hm]

@[simp] theorem execDelayCopyError_besides (t : Nat) (s : State) : (after (execDelayCopyError t s) s).besides parts = s.besides parts := by
  simp only [execDelayCopyError, reportL_besides, freeze_besides, modSpindle_besides, toL_besides, besides_ite, ite_self, after_next, hm]

theorem selfTest_besides (miss : Nat) (s : State) : (selfTest miss s).besides parts = s.besides parts := by
  simp only [selfTest, bump64_besides, modSpindle_besides, hm]

@[simp] theorem execCheckerSelfTest_besides (miss : Nat) (s : State) :
    (after (execCheckerSelfTest miss s) s).besides parts = s.besides parts := by
  simp only [execCheckerSelfTest, reportL_besides, selfTest_besides, modSpindle_besides, toL_besides, besides_ite, ite_self, after_next, hm]

@[simp] theorem execMemoryError_besides (t kind addr access master core : Nat) (s : State) :
    (after (execMemoryError t kind addr access master core s) s).besides parts = s.besides parts := by
  simp only [execMemoryError, besides_ite, after_next]
  repeat' split
  all_goals simp only [bump_besides, report_besides, modSpindle_besides, toL_besides, hm]

theorem modWdog_besides (c : Nat) (f : Wdog → Wdog) (s : State) : (modWdog c f s).besides parts = s.besides parts := by
  simp only [modWdog, modSpindle_besides, hm]

theorem kick_besides (c v : Nat) (s : State) : (kick c v s).besides parts = s.besides parts := by
  simp only [kick, reportL_besides, modWdog_besides, besides_ite, ite_self, hm]

@[simp] theorem execWdogKick_besides (t c v : Nat) (s : State) : (after (execWdogKick t c v s) s).besides parts = s.besides parts := by
  simp only [execWdogKick, kick_besides, toL_besides, besides_ite, ite_self, after_next, hm]

@[simp] theorem execWatchdogExpiry_besides (c : Nat) (s : State) : (after (execWatchdogExpiry c s) s).besides parts = s.besides parts := by
  unfold execWatchdogExpiry
  split <;> simp only [reportL_besides, modWdog_besides, toL_besides, besides_ite, ite_self, after_next, hm]

theorem restartWdogs_besides (s : State) : (restartWdogs s).besides parts = s.besides parts := by
  simp only [restartWdogs, modWdog_besides, besides_foldl, implies_true, hm]

theorem stopFades_besides (s : State) : (stopFades s).besides parts = s.besides parts := by
  simp only [stopFades, modLightSk_besides, besides_foldl, implies_true, hm]

theorem injected_besides (s : State) (x : Nat × Nat) : (injected s x).besides parts = s.besides parts := by
  simp only [injected, report_besides, besides_ite, ite_self, hm]

theorem writeSpindle_besides (off : Nat) (v : Word) (s : State) : (writeSpindle off v s).1.besides parts = s.besides parts := by
  unfold writeSpindle
  split <;> simp only [modSpindle_besides, hm]

theorem faultInject_besides (r : Req) (s : State) : (faultInject r s).1.besides parts = s.besides parts := by
  simp only [faultInject, modSpindle_besides, modFaults_besides, besides_ite, ite_self, fst_ite, hm, collector_of_reports hm]

theorem infoFaultInject_keeps :
    infoFaultInject.Keeps parts := ⟨fun _ _ => by simp only [infoFaultInject, faultInject_besides, hm], fun _ _ => rfl⟩

@[simp] theorem execFaultInject_besides (r : Req) (s : State) : (after (execFaultInject r s) s).besides parts = s.besides parts := 
  command_besides (hostSide_of_reports hm) infoFaultInject _ s (infoFaultInject_keeps hm)

theorem nvStarts_besides (w : Nat) (s : State) : (nvStarts w s).besides parts = s.besides parts := by
  simp only [nvStarts, modWeft_besides, hm]

@[simp] theorem execTrainingTimeout_besides (s : State) : (after (execTrainingTimeout s) s).besides parts = s.besides parts := by
  unfold execTrainingTimeout
  split <;> simp only [modWeft_besides, reportL_besides, toL_besides, besides_ite, ite_self, after_next, hm]

@[simp] theorem execTrainingRetry_besides (s : State) : (after (execTrainingRetry s) s).besides parts = s.besides parts := by
  unfold execTrainingRetry
  split <;> simp only [startTraining_besides, toL_besides, besides_ite, ite_self, after_next, hm]

theorem reportCrc_besides (m : Nat) (r : Report) (s : State) : (reportCrc m r s).besides parts = s.besides parts := by
  simp only [reportCrc, modWeft_besides, report_besides, besides_ite, ite_self, hm]

theorem discardUp_besides (s : State) : (discardUp s).besides parts = s.besides parts := by
  simp only [discardUp, modWeft_besides, bump_besides, reportCrc_besides, besides_ite, ite_self, hm]

theorem upFrame_besides (t : Nat) (odd : Bool) (ty : FrameType) (payload : Nat) (e : LineErr) (f : Nat → State → State) (s : State)
    (hf : ∀ p s, (f p s).besides parts = s.besides parts) : (upFrame t odd ty payload e f s).besides parts = s.besides parts := by
  unfold upFrame
  split <;> simp only [modWeft_besides, discardUp_besides, toL_besides, besides_ite, ite_self, hm, hf]

@[simp] theorem execAdoptionReadbackStart_besides (m : MarkAt) (s : State) :
    (after (execAdoptionReadbackStart m s) s).besides parts = s.besides parts := by
  simp only [execAdoptionReadbackStart, modWeft_besides, upFrame_besides, toL_besides, besides_ite, ite_self, implies_true, after_next, hm]

theorem modCfgOut_besides (id : Nat) (f : CfgOut → CfgOut) (s : State) : (modCfgOut id f s).besides parts = s.besides parts := by
  simp only [modCfgOut, modWeft_besides, hm]

@[simp] theorem execConfigEchoTimeout_besides (s : State) : (after (execConfigEchoTimeout s) s).besides parts = s.besides parts := by
  unfold execConfigEchoTimeout
  split <;> simp only [modCfgOut_besides, toL_besides, after_next, hm]

theorem fsWritten_besides (w : Nat) (ok : Bool) (s : State) : (fsWritten w ok s).besides parts = s.besides parts := by
  simp only [fsWritten, modWeft_besides, bump_besides, hm]

theorem viewFs_besides (k : Nat) (s : State) : (viewFs k s).besides parts = s.besides parts := by
  simp only [viewFs, modWeft_besides, hm]

theorem markUp_besides (c : MarkCode) (content : Nat) (s : State) : (markUp c content s).besides parts = s.besides parts := by
  simp only [markUp, upFrame_besides, implies_true, hm]

theorem failsafeSet_besides (k : Nat) (w0 w1 : Word) (s : State) : (failsafeSet k w0 w1 s).1.besides parts = s.besides parts := by
  simp only [failsafeSet, pushCfg'_besides, nvStarts_besides, besides_ite, ite_self, fst_ite, hm]

theorem infoFailsafeSet_keeps :
    infoFailsafeSet.Keeps parts := ⟨fun _ _ => by simp only [infoFailsafeSet, failsafeSet_besides, hm], fun _ _ => rfl⟩

@[simp] theorem execFailsafeSet_besides (r : Req) (s : State) : (after (execFailsafeSet r s) s).besides parts = s.besides parts := 
  command_besides (hostSide_of_reports hm) infoFailsafeSet _ s (infoFailsafeSet_keeps hm)

theorem writeHold_besides (ms : Nat) (s : State) : (writeHold ms s).1.besides parts = s.besides parts := by
  simp only [writeHold, pushCfg_besides, nvStarts_besides, besides_ite, ite_self, fst_ite, hm]

theorem wakeCfg_besides (r : Req) (s : State) : (wakeCfg r s).1.besides parts = s.besides parts := by
  simp only [wakeCfg, writeP_besides, besides_ite, ite_self, fst_ite, hm]

theorem infoWakeCfg_keeps : infoWakeCfg.Keeps parts := ⟨fun _ _ => by simp only [infoWakeCfg, wakeCfg_besides, hm], fun _ _ => rfl⟩

@[simp] theorem execWakeCfg_besides (r : Req) (s : State) : (after (execWakeCfg r s) s).besides parts = s.besides parts := 
  command_besides (hostSide_of_reports hm) infoWakeCfg _ s (infoWakeCfg_keeps hm)

end

/-! ### Operations within what a report reaches, and the planner -/

section
variable {parts : List Piece} (hm : shedding ⊆ parts)
include hm

theorem syncEnvelope_besides (k : Nat) (s : State) : (syncEnvelope k s).besides parts = s.besides parts := by
  simp only [syncEnvelope, pushCfg'_besides, modSkL_besides, besides_ite, ite_self, planner_of_shedding hm, reports_of_shedding hm]

theorem relearn_besides (k : Nat) (s : State) : (relearn k s).besides parts = s.besides parts := by
  simp only [relearn, syncEnvelope_besides, modSkL_besides, hm, planner_of_shedding hm]

theorem clearLearn_besides (k more : Nat) (s : State) : (clearLearn k more s).besides parts = s.besides parts := by
  simp only [clearLearn, modSkL_besides, relearn_besides, besides_ite, ite_self, hm, planner_of_shedding hm]

theorem shedSkein_besides (k : Nat) (on : Bool) (s : State) : (shedSkein k on s).besides parts = s.besides parts := by
  simp only [shedSkein, recap_besides, reportL_besides, besides_ite, ite_self, planner_of_shedding hm, reports_of_shedding hm]

theorem shedGroup_besides (p : Nat) (on : Bool) (s : State) : (shedGroup p on s).besides parts = s.besides parts := by
  simp only [shedGroup, shedSkein_besides, besides_foldl, implies_true, hm]

theorem takeover_besides (j : Nat) (s : State) : (takeover j s).besides parts = s.besides parts := by
  simp only [takeover, bump_besides, reportL_besides, loadStatus_besides, modSkL_besides, modChain_besides, standUp_besides, besides_ite,
    ite_self, hostSide_of_shedding hm, planner_of_shedding hm, reports_of_shedding hm]

theorem takeoverAll_besides (dev : Nat) (s : State) : (takeoverAll dev s).besides parts = s.besides parts := by
  simp only [takeoverAll, takeover_besides, modChain_besides, besides_ite, ite_self, besides_foldl, implies_true, hm,
    planner_of_shedding hm]

theorem disableFs_besides (k : Nat) (s : State) : (disableFs k s).besides parts = s.besides parts := by
  simp only [disableFs, modWeft_besides, modSkL_besides, besides_ite, ite_self, planner_of_shedding hm, reports_of_shedding hm]

theorem disableState_besides (k : Nat) (s : State) : (disableState k s).besides parts = s.besides parts := by
  simp only [disableState]
  split <;> simp only [modSkL_besides, disableFs_besides, hm, planner_of_shedding hm]

theorem disableSkein_besides (k : Nat) (s : State) : (disableSkein k s).besides parts = s.besides parts := by
  simp only [disableSkein, modSkL_besides, disableState_besides, hm, planner_of_shedding hm]

theorem disableLoads_besides (s : State) : (disableLoads s).besides parts = s.besides parts := by
  simp only [disableLoads, modSkL_besides, disableSkein_besides, besides_ite, ite_self, besides_foldl, implies_true, hm,
    planner_of_shedding hm]

theorem writeCell_besides (off : Nat) (v : Word) (s : State) : (writeCell off v s).1.besides parts = s.besides parts := by
  simp only [writeCell, writeSkeinCtl_besides, writeP_besides, modLoom_besides, besides_ite, ite_self, fst_ite, planner_of_shedding hm,
    reports_of_shedding hm]

theorem clearLatch_besides (k : Nat) (w : Word) (s : State) : (clearLatch k w s).1.besides parts = s.besides parts := by
  simp only [clearLatch, writeP_besides, clearLearn_besides, besides_ite, ite_self, fst_ite, hm, reports_of_shedding hm]

theorem infoLoadClearLatch_keeps :
    infoLoadClearLatch.Keeps parts := ⟨fun _ _ => by simp only [infoLoadClearLatch, clearLatch_besides, hm], fun _ _ => rfl⟩

@[simp] theorem execLoadClearLatch_besides (r : Req) (s : State) : (after (execLoadClearLatch r s) s).besides parts = s.besides parts := 
  command_besides (hostSide_of_shedding hm) infoLoadClearLatch _ s (infoLoadClearLatch_keeps hm)

theorem writeProt_besides (off : Nat) (v : Word) (s : State) : (writeProt off v s).1.besides parts = s.besides parts := by
  unfold writeProt
  split <;> simp only [writeP_besides, modLoom_besides, besides_ite, ite_self, fst_ite, planner_of_shedding hm, reports_of_shedding hm]

theorem setLevelNow_besides (k l : Nat) (s : State) : (setLevelNow k l s).besides parts = s.besides parts := by
  simp only [setLevelNow, modSkL_besides, modLightSk_besides, writeDuty_besides, planner_of_shedding hm, reports_of_shedding hm]

theorem startFade_besides (k l d : Nat) (s : State) : (startFade k l d s).besides parts = s.besides parts := by
  simp only [startFade, modSkL_besides, modLightSk_besides, planner_of_shedding hm, reports_of_shedding hm]

theorem goLevel_besides (k l d : Nat) (s : State) : (goLevel k l d s).besides parts = s.besides parts := by
  simp only [goLevel, setLevelNow_besides, startFade_besides, besides_ite, ite_self, hm]

@[simp] theorem execFadeStep_besides (k : Nat) (s : State) : (after (execFadeStep k s) s).besides parts = s.besides parts := by
  unfold execFadeStep
  split <;> simp only [modLightSk_besides, dimStarted_besides, writeDuty_besides, toL_besides, besides_ite, ite_self, after_next,
    hostSide_of_shedding hm, planner_of_shedding hm, reports_of_shedding hm]

@[simp] theorem execFadeEnd_besides (k : Nat) (s : State) : (after (execFadeEnd k s) s).besides parts = s.besides parts := by
  unfold execFadeEnd
  split <;> simp only [modLightSk_besides, lightEvent_besides, completeAll_besides, dimStarted_besides, writeDuty_besides, toL_besides,
    besides_ite, ite_self, after_next, hostSide_of_shedding hm, planner_of_shedding hm, reports_of_shedding hm]

theorem dimSet_besides (k : Nat) (w0 w1 : Word) (s : State) : (dimSet k w0 w1 s).1.besides parts = s.besides parts := by
  simp only [dimSet, besides_ite, fst_ite]
  repeat' split
  all_goals simp only [completeAll_besides, goLevel_besides, refuse_besides, hm, hostSide_of_shedding hm]

theorem infoDimSet_keeps : infoDimSet.Keeps parts := ⟨fun _ _ => by simp only [infoDimSet, dimSet_besides, hm], fun _ _ => rfl⟩

@[simp] theorem execDimSet_besides (r : Req) (s : State) : (after (execDimSet r s) s).besides parts = s.besides parts := 
  command_besides (hostSide_of_shedding hm) infoDimSet _ s (infoDimSet_keeps hm)

theorem disableLight_besides (s : State) : (disableLight s).besides parts = s.besides parts := by
  simp only [disableLight, modSkL_besides, modLightSk_besides, disableSkein_besides, disablePorts_besides, stopEngines_besides,
    besides_ite, ite_self, besides_foldl, implies_true, hm, planner_of_shedding hm, reports_of_shedding hm]

theorem cutFade_besides (k l : Nat) (s : State) : (cutFade k l s).besides parts = s.besides parts := by
  simp only [cutFade, setLevelNow_besides, completeAll_besides, dimStarted_besides, hm, hostSide_of_shedding hm]

theorem whorlLevel_besides (e k l d : Nat) (s : State) : (whorlLevel e k l d s).besides parts = s.besides parts := by
  simp only [whorlLevel, overBudget_besides, goLevel_besides, cutFade_besides, besides_ite, ite_self, hm, reports_of_shedding hm]

theorem setTarget_besides (e tgt l : Nat) (s : State) : (setTarget e tgt l s).besides parts = s.besides parts := by
  simp only [setTarget, onRegion_besides, stopWith_besides, writePixels_besides, onSkein_besides, whorlLevel_besides, besides_ite,
    ite_self, implies_true, hm, reports_of_shedding hm]

@[simp] theorem execWhorlSet_besides (t e : Nat) (s : State) : (after (execWhorlSet t e s) s).besides parts = s.besides parts := by
  simp only [execWhorlSet, whorlExec_besides, setTarget_besides, implies_true, after_next, hm, reports_of_shedding hm]

@[simp] theorem execWhorlSetr_besides (t e : Nat) (s : State) : (after (execWhorlSetr t e s) s).besides parts = s.besides parts := by
  simp only [execWhorlSetr, whorlExec_besides, setTarget_besides, implies_true, after_next, hm, reports_of_shedding hm]

@[simp] theorem execWhorlFade_besides (t e : Nat) (s : State) : (after (execWhorlFade t e s) s).besides parts = s.besides parts := by
  rw [execWhorlFade, after_next]
  refine whorlExec_besides (reports_of_shedding hm) _ _ _ _ _ fun e w s => ?_
  simp only [stopWith_besides, onSkein_besides, whorlLevel_besides, besides_ite, ite_self, implies_true, hm, reports_of_shedding hm]

theorem declareLost_besides (d : Nat) (s : State) : (declareLost d s).besides parts = s.besides parts := by
  simp only [declareLost, modView_besides, setAligned_besides, bump_besides, reportL_besides, fallbackFor_besides, takeoverAll_besides,
    modChainSt_besides, chainEvent_besides, modPly_besides, besides_ite, ite_self, hm, hostSide_of_shedding hm, planner_of_shedding hm,
    reports_of_shedding hm]

@[simp] theorem execPlyLoss_besides (d : Nat) (s : State) : (after (execPlyLoss d s) s).besides parts = s.besides parts := by
  simp only [execPlyLoss, after_next]
  split <;> simp only [declareLost_besides, toL_besides, besides_ite, ite_self, hm]

theorem takeView_besides (h : Beat) (s : State) : (takeView h s).besides parts = s.besides parts := by
  simp only [takeView, modView_besides, chainEvent_besides, declareLost_besides, modPly_besides, besides_ite, ite_self, hm,
    hostSide_of_shedding hm]

theorem defineDone_besides (id k : Nat) (d : SkeinDef) (mask : Nat) (s : State) :
    (defineDone id k d mask s).besides parts = s.besides parts := by
  simp only [defineDone, modSkL_besides, completeAll_besides, nvStarts_besides, modLoom_besides, setRole_besides, rolesOfMask_besides,
    besides_ite, ite_self, besides_foldl, implies_true, hostSide_of_shedding hm, planner_of_shedding hm, reports_of_shedding hm]

@[simp] theorem execShedLift_besides (s : State) : (after (execShedLift s) s).besides parts = s.besides parts := by
  simp only [execShedLift, besides_ite, after_next]
  repeat' split
  all_goals simp only [shedGroup_besides, modLoom_besides, hm, planner_of_shedding hm]

end

/-! ### Operations within the L-die that keep the keys, the OTP and the straps -/

section
variable {parts : List Piece} (hm : lOpen ⊆ parts)
include hm

theorem modAct_besides (f : ActSt → ActSt) (s : State) : (modAct f s).besides parts = s.besides parts := by
  have part : Piece.act ∈ parts := hm (by decide)
  simp only [modAct, State.besides, part, if_true]

theorem modFio_besides (f : FioL → FioL) (s : State) : (modFio f s).besides parts = s.besides parts := by
  have part : Piece.fio ∈ parts := hm (by decide)
  simp only [modFio, State.besides, part, if_true]

theorem modCan_besides (f : CanSt → CanSt) (s : State) : (modCan f s).besides parts = s.besides parts := by
  have part : Piece.can ∈ parts := hm (by decide)
  simp only [modCan, State.besides, part, if_true]

theorem modNm_besides (f : NmSt → NmSt) (s : State) : (modNm f s).besides parts = s.besides parts := by
  have part : Piece.nm ∈ parts := hm (by decide)
  simp only [modNm, State.besides, part, if_true]

theorem modClk_besides (f : ClkSt → ClkSt) (s : State) : (modClk f s).besides parts = s.besides parts := by
  have part : Piece.clk ∈ parts := hm (by decide)
  simp only [modClk, State.besides, part, if_true]

theorem wakeHeard_besides (src : Nat) (s : State) : (wakeHeard src s).besides parts = s.besides parts := by
  simp only [wakeHeard, clk_eq_modClk, besides_ite, modClk_besides hm, ite_self]

theorem modActL_besides (a : Nat) (f : ActL → ActL) (s : State) : (modActL a f s).besides parts = s.besides parts := by
  simp only [modActL, modAct_besides, hm]

theorem setPhase_besides (a phase : Nat) (s : State) : (setPhase a phase s).besides parts = s.besides parts := by
  simp only [setPhase, modActL_besides, modSkL_besides, besides_foldl, implies_true, hm, planner_of_lOpen hm]

theorem decidePeak_besides (a : Nat) (s : State) : (decidePeak a s).2.besides parts = s.besides parts := by
  simp only [decidePeak, pushCfg_besides, setPhase_besides, hm, reports_of_lOpen hm]

theorem startHead_besides (h : Nat) (s : State) : (startHead h s).besides parts = s.besides parts := by
  unfold startHead
  split <;> simp only [modAct_besides, decidePeak_besides, besides_ite, ite_self, hm]

theorem claimFell_besides (a : Nat) (s : State) : (claimFell a s).besides parts = s.besides parts := by
  simp only [claimFell, startHead_besides, besides_ite, ite_self, besides_foldl, implies_true, hm]

theorem abortSlot_besides (a : Nat) (s : State) : (abortSlot a s).besides parts = s.besides parts := by
  simp only [abortSlot, bump_besides, reportL_besides, modActL_besides, pushCfg'_besides, actEvent_besides, claimFell_besides,
    modAct_besides, setPhase_besides, besides_ite, ite_self, hm, hostSide_of_lOpen hm, reports_of_lOpen hm]

theorem abortSlotsOf_besides (k : Nat) (s : State) : (abortSlotsOf k s).besides parts = s.besides parts := by
  simp only [abortSlotsOf, abortSlot_besides, besides_foldl, implies_true, hm]

theorem dropDeferred_besides (s : State) : (dropDeferred s).besides parts = s.besides parts := by
  simp only [dropDeferred, abortSlot_besides, modAct_besides, besides_foldl, implies_true, hm]

theorem disableAct_besides (s : State) : (disableAct s).besides parts = s.besides parts := by
  unfold disableAct
  split
  · exact dropDeferred_besides hm s
  · rw [besides_foldl _ (fun s a => ?_), dropDeferred_besides hm]
    split
    · simp only [bump_besides, modActL_besides, pushCfg'_besides, actEvent_besides, setPhase_besides, hm, hostSide_of_lOpen hm,
      reports_of_lOpen hm]
    · simp only [bump_besides, modActL_besides, pushCfg'_besides, actEvent_besides, setPhase_besides, hm, hostSide_of_lOpen hm,
      reports_of_lOpen hm]
    · rfl

theorem takeActEvent_besides (a reason phase : Nat) (f : ActFlags) (tick : Nat) (s : State) :
    (takeActEvent a reason phase f tick s).besides parts = s.besides parts := by
  unfold takeActEvent
  split <;> simp only [bump_besides, modActL_besides, actEvent_besides, claimFell_besides, setPhase_besides, besides_ite, ite_self, hm,
    hostSide_of_lOpen hm]

theorem setLevel_besides (k : Nat) (s : State) : (setLevel k s).besides parts = s.besides parts := by
  simp only [setLevel, reportL_besides, loadStatus_besides, modSkL_besides, abortSlotsOf_besides, besides_ite, ite_self, hm,
    hostSide_of_lOpen hm, planner_of_lOpen hm, reports_of_lOpen hm]

theorem setLevelFast_besides (k : Nat) (s : State) : (setLevelFast k s).besides parts = s.besides parts := by
  simp only [setLevelFast, setLevel_besides, besides_ite, ite_self, hm]

theorem classify_besides (k : Nat) (s : State) : (classify k s).besides parts = s.besides parts := by
  simp only [classify, bump_besides, modSkL_besides, setLevelFast_besides, cellFault_besides, abortSlotsOf_besides, besides_ite, ite_self,
    besides_foldl, implies_true, hm, planner_of_lOpen hm]

@[simp] theorem execClassificationClose_besides (k : Nat) (s : State) :
    (after (execClassificationClose k s) s).besides parts = s.besides parts := by
  unfold execClassificationClose
  split <;> simp only [classify_besides, toL_besides, besides_ite, ite_self, after_next, hm]

theorem actFire_besides (a : Nat) (s : State) : (actFire a s).1.besides parts = s.besides parts := by
  simp only [actFire, modActL_besides, besides_ite, fst_ite, hm]
  repeat' split
  all_goals simp only [bump_besides, modActL_besides, actEvent_besides, modAct_besides, countRefused_besides, setPhase_besides,
    decidePeak_besides, hm, hostSide_of_lOpen hm]

theorem infoActFire_keeps : infoActFire.Keeps parts := ⟨fun _ _ => by simp only [infoActFire, actFire_besides, hm], fun _ _ => rfl⟩

@[simp] theorem execActFire_besides (r : Req) (s : State) : (after (execActFire r s) s).besides parts = s.besides parts := 
  command_besides (hostSide_of_lOpen hm) infoActFire _ s (infoActFire_keeps hm)

theorem actStop_besides (a : Nat) (s : State) : (actStop a s).1.besides parts = s.besides parts := by
  simp only [actStop, besides_ite, fst_ite]
  repeat' split
  all_goals simp only [claimFell_besides, modAct_besides, writeP_besides, setPhase_besides, hm, reports_of_lOpen hm]

theorem infoActStop_keeps : infoActStop.Keeps parts := ⟨fun _ _ => by simp only [infoActStop, actStop_besides, hm], fun _ _ => rfl⟩

@[simp] theorem execActStop_besides (r : Req) (s : State) : (after (execActStop r s) s).besides parts = s.besides parts := 
  command_besides (hostSide_of_lOpen hm) infoActStop _ s (infoActStop_keeps hm)

@[simp] theorem execHoldEnd_besides (a : Nat) (s : State) : (after (execHoldEnd a s) s).besides parts = s.besides parts := by
  unfold execHoldEnd
  split <;> simp only [pushCfg'_besides, setPhase_besides, toL_besides, besides_ite, ite_self, after_next, hm, reports_of_lOpen hm]

theorem raiseFio_besides (s : State) : (raiseFio s).besides parts = s.besides parts := by
  simp only [raiseFio, postEventAt_besides, modFio_besides, hm, hostSide_of_lOpen hm]

theorem gatherFio_besides (t : Nat) (f : FioGather → FioGather) (s : State) : (gatherFio t f s).besides parts = s.besides parts := by
  simp only [gatherFio, modFio_besides, besides_ite, ite_self, hm]

theorem fioTrigger_besides (t : Nat) (f : FioGather → FioGather) (s : State) : (fioTrigger t f s).besides parts = s.besides parts := by
  simp only [fioTrigger, gatherFio_besides, raiseFio_besides, besides_ite, ite_self, hm]

theorem noteChange_besides (i : Nat) (s : State) : (noteChange i s).besides parts = s.besides parts := by
  simp only [noteChange, modFio_besides, hm]

theorem takeFioEvent_besides (i : Nat) (v : Bool) (tick : Nat) (s : State) : (takeFioEvent i v tick s).besides parts = s.besides parts := by
  simp only [takeFioEvent, modFio_besides, noteChange_besides, fioTrigger_besides, wakeHeard_besides, besides_ite, ite_self, hm]

theorem takePolls_besides (set states tick : Nat) (s : State) : (takePolls set states tick s).besides parts = s.besides parts := by
  simp only [takePolls, modFio_besides, fioTrigger_besides, hm]

theorem takeFioTrig_besides (kind c tick : Nat) (s : State) : (takeFioTrig kind c tick s).besides parts = s.besides parts := by
  unfold takeFioTrig
  split <;> simp only [modFio_besides, fioTrigger_besides, hm]

@[simp] theorem execFioEventGapEnd_besides (s : State) : (after (execFioEventGapEnd s) s).besides parts = s.besides parts := by
  unfold execFioEventGapEnd
  split <;> simp only [raiseFio_besides, toL_besides, besides_ite, ite_self, after_next, hm]

theorem takeFioCleared_besides (c count period last tick : Nat) (s : State) :
    (takeFioCleared c count period last tick s).besides parts = s.besides parts := by
  simp only [takeFioCleared, modFio_besides, completeAll_besides, hm, hostSide_of_lOpen hm]

theorem fioEchoed_besides (off : Nat) (v : Word) (s : State) : (fioEchoed off v s).besides parts = s.besides parts := by
  simp only [fioEchoed, modFio_besides, besides_ite, ite_self, hm]

theorem outputsEchoed_besides (set : Nat) (s : State) : (outputsEchoed set s).besides parts = s.besides parts := by
  simp only [outputsEchoed, modFio_besides, hm]

theorem disableFio_besides (s : State) : (disableFio s).besides parts = s.besides parts := by
  simp only [disableFio, modFio_besides, sendOutputs_besides, besides_ite, ite_self, hm, reports_of_lOpen hm]

theorem enableFio_besides (s : State) : (enableFio s).besides parts = s.besides parts := by
  simp only [enableFio, fioTrigger_besides, hm]

theorem writeFio_besides (off : Nat) (v : Word) (s : State) : (writeFio off v s).1.besides parts = s.besides parts := by
  simp only [writeFio]
  repeat' split
  all_goals simp only [asFio_besides, modFio_besides, writeCountCfg_besides, fioWrite_besides, writeP_besides, fioCfg_besides,
    implies_true, hm, reports_of_lOpen hm]

theorem modCtl_besides (k : Nat) (f : CanCtl → CanCtl) (s : State) : (modCtl k f s).besides parts = s.besides parts := by
  simp only [modCtl, modCan_besides, hm]

theorem modAuth_besides (a : Nat) (f : CanAuth → CanAuth) (s : State) : (modAuth a f s).besides parts = s.besides parts := by
  simp only [modAuth, modCan_besides, hm]

theorem dropFrames_besides (k reason : Nat) (p : CanFrame → Bool) (s : State) :
    (dropFrames k reason p s).besides parts = s.besides parts := by
  simp only [dropFrames, txFail_besides, modCtl_besides, besides_foldl, implies_true, hm, hostSide_of_lOpen hm]

theorem onFrame_besides (k sof : Nat) (ok : State → Bool) (act : State → State) (s : State)
    (hf : ∀ s, (act s).besides parts = s.besides parts) : (onFrame k sof ok act s).besides parts = s.besides parts := by
  unfold onFrame
  split <;> simp only [modCtl_besides, besides_ite, ite_self, hm, hf]

theorem cfgDone_besides (k : Nat) (st : Status) (s : State) : (cfgDone k st s).besides parts = s.besides parts := by
  simp only [cfgDone, completeAll_besides, modCtl_besides, hm, hostSide_of_lOpen hm]

theorem setAlone_besides (k : Nat) (s : State) : (setAlone k s).besides parts = s.besides parts := by
  simp only [setAlone, stateEvent_besides, reportL_besides, modCtl_besides, besides_ite, ite_self, hm, hostSide_of_lOpen hm,
    reports_of_lOpen hm]

theorem ackClear_besides (k : Nat) (s : State) : (ackClear k s).besides parts = s.besides parts := by
  simp only [ackClear, stateEvent_besides, modCtl_besides, besides_ite, ite_self, hm, hostSide_of_lOpen hm]

theorem busOff_besides (k : Nat) (s : State) : (busOff k s).besides parts = s.besides parts := by
  simp only [busOff, bump_besides, reportL_besides, dropFrames_besides, modCtl_besides, besides_ite, ite_self, hm, reports_of_lOpen hm]

@[simp] theorem execIntegrationTimeout_besides (k : Nat) (s : State) :
    (after (execIntegrationTimeout k s) s).besides parts = s.besides parts := by
  unfold execIntegrationTimeout
  split <;> simp only [cfgDone_besides, toL_besides, besides_ite, ite_self, after_next, hm]

@[simp] theorem execBoffDelayEnd_besides (k : Nat) (s : State) : (after (execBoffDelayEnd k s) s).besides parts = s.besides parts := by
  simp only [execBoffDelayEnd, after_next]
  split <;> simp only [modCtl_besides, toL_besides, besides_ite, ite_self, hm]

@[simp] theorem execRestrictedError_besides (t k lec : Nat) (data : Bool) (s : State) :
    (after (execRestrictedError t k lec data s) s).besides parts = s.besides parts := by
  simp only [execRestrictedError, bump_besides, modCtl_besides, toL_besides, besides_ite, ite_self, after_next, hm]

theorem rxBad_besides (t k lec n : Nat) (data : Bool) (s : State) : (rxBad t k lec n data s).besides parts = s.besides parts := by
  simp only [rxBad, passiveEdge_besides, bump_besides, modCtl_besides, hm, reports_of_lOpen hm]

@[simp] theorem execCanRxError_besides (t k lec : Nat) (data eight : Bool) (s : State) :
    (after (execCanRxError t k lec data eight s) s).besides parts = s.besides parts := by
  simp only [execCanRxError, onFrame_besides, rxBad_besides, rxMuted_besides, toL_besides, implies_true, after_next, hm]

theorem authSend_besides (a : Nat) (key : List Byte) (w0 : Word) (data : List Byte) (s : State) :
    (authSend a key w0 data s).2.besides parts = s.besides parts := by
  simp only [authSend, modAuth_besides, hm]

theorem authCheck_besides (a : Nat) (w0 : Word) (data : List Byte) (s : State) :
    (authCheck a w0 data s).2.besides parts = s.besides parts := by
  simp only [authCheck]
  split <;> simp only [countLoad_besides, modAuth_besides, besides_ite, ite_self, snd_ite, hm]

theorem authFailed_besides (k a : Nat) (s : State) : (authFailed k a s).besides parts = s.besides parts := by
  simp only [authFailed, bump_besides, reportL_besides, modAuth_besides, besides_ite, ite_self, hm, reports_of_lOpen hm]

theorem modHead_besides (k src : Nat) (f : CanFrame → Option CanFrame) (s : State) :
    (modHead k src f s).besides parts = s.besides parts := by
  simp only [modHead, modCtl_besides, hm]

theorem enqueue_besides (k : Nat) (urgent : Bool) (f : CanFrame) (s : State) : (enqueue k urgent f s).besides parts = s.besides parts := by
  simp only [enqueue, modCtl_besides, hm]

theorem measureTdc_besides (k fmt meas : Nat) (s : State) : (measureTdc k fmt meas s).besides parts = s.besides parts := by
  simp only [measureTdc, reportL_besides, modCtl_besides, besides_ite, ite_self, hm, reports_of_lOpen hm]

theorem measureFree_besides (k fmt : Nat) (s : State) : (measureFree k fmt s).besides parts = s.besides parts := by
  simp only [measureFree, freeWord_besides, measureTdc_besides, besides_ite, ite_self, hm]

theorem txGood_besides (k fmt meas : Nat) (s : State) : (txGood k fmt meas s).besides parts = s.besides parts := by
  simp only [txGood, ackClear_besides, bump_besides, measureTdc_besides, modCtl_besides, hm]

theorem txBad_besides (k fmt lec : Nat) (data quiet : Bool) (s : State) :
    (txBad k fmt lec data quiet s).besides parts = s.besides parts := by
  simp only [txBad, passiveEdge_besides, bump_besides, modCtl_besides, hm, reports_of_lOpen hm]

theorem afterBad_besides (k lec : Nat) (s : State) : (afterBad k lec s).besides parts = s.besides parts := by
  simp only [afterBad, ackClear_besides, setAlone_besides, busOff_besides, besides_ite, ite_self, hm]

theorem headFailed_besides (k src lec : Nat) (s : State) : (headFailed k src lec s).besides parts = s.besides parts := by
  unfold headFailed
  split <;> simp only [setAlone_besides, modHead_besides, txFail_besides, besides_ite, ite_self, hm, hostSide_of_lOpen hm]

theorem toBuffer_besides (k b : Nat) (overwrite : Bool) (record : Bool → List Word) (s : State) :
    (toBuffer k b overwrite record s).besides parts = s.besides parts := by
  simp only [toBuffer, bump_besides, modCtl_besides, besides_ite, ite_self, hm]

theorem fifoDropped_besides (k : Nat) (s : State) : (fifoDropped k s).besides parts = s.besides parts := by
  simp only [fifoDropped, bump_besides, reportL_besides, modCtl_besides, besides_ite, ite_self, hm, reports_of_lOpen hm]

theorem toFifo_besides (k : Nat) (record : List Word) (s : State) : (toFifo k record s).besides parts = s.besides parts := by
  simp only [toFifo, canEvent_besides, fifoDropped_besides, modCtl_besides, besides_ite, ite_self, hm, hostSide_of_lOpen hm]

theorem deliver_besides (k j : Nat) (x : CanRx) (authOk authBad : Bool) (s : State) :
    (deliver k j x authOk authBad s).besides parts = s.besides parts := by
  simp only [deliver]
  split <;> simp only [canEvent_besides, toBuffer_besides, toFifo_besides, hm, hostSide_of_lOpen hm]

theorem rxGood_besides (k : Nat) (s : State) : (rxGood k s).besides parts = s.besides parts := by
  simp only [rxGood, ackClear_besides, bump_besides, freeWord_besides, modCtl_besides, besides_ite, ite_self, hm]

theorem canReceive_besides (k : Nat) (x : CanRx) (s : State) : (canReceive k x s).1.besides parts = s.besides parts := by
  simp only [canReceive, bump_besides, rxGood_besides, besides_ite, fst_ite, hm]
  repeat' split
  all_goals simp only [authFailed_besides, authCheck_besides, deliver_besides, rxGood_besides, hm]

theorem modNt_besides (f : CanNt → CanNt) (s : State) : (modNt f s).besides parts = s.besides parts := by
  simp only [modNt, modCan_besides, hm]

theorem modTrig_besides (i : Nat) (f : CanTrig → CanTrig) (s : State) : (modTrig i f s).besides parts = s.besides parts := by
  simp only [modTrig, modCan_besides, hm]

theorem cycleStart_besides (t : Nat) (s : State) : (cycleStart t s).besides parts = s.besides parts := by
  simp only [cycleStart, modCan_besides, hm]

theorem settleTrig_besides (i : Nat) (s : State) : (settleTrig i s).besides parts = s.besides parts := by
  simp only [settleTrig, modTrig_besides, hm]

theorem settleTrigs_besides (s : State) : (settleTrigs s).besides parts = s.besides parts := by
  simp only [settleTrigs, cycleStart_besides, hm]

theorem placeFrame_besides (k : Nat) (r : Req) (f : CanFrame) (s : State) : (placeFrame k r f s).1.besides parts = s.besides parts := by
  simp only [placeFrame, modTrig_besides, enqueue_besides, settleTrig_besides, modCtl_besides, besides_ite, ite_self, fst_ite, hm]

theorem canTx_besides (k : Nat) (r : Req) (s : State) : (canTx k r s).1.besides parts = s.besides parts := by
  simp only [canTx, besides_ite, fst_ite]
  repeat' split
  all_goals simp only [authSend_besides, placeFrame_besides, countLoad_besides, hm]

theorem infoCanTx_keeps : infoCanTx.Keeps parts := ⟨fun _ _ => by simp only [infoCanTx, canTx_besides, hm], fun _ _ => rfl⟩

@[simp] theorem execCanTx_besides (r : Req) (s : State) : (after (execCanTx r s) s).besides parts = s.besides parts := 
  command_besides (hostSide_of_lOpen hm) infoCanTx _ s (infoCanTx_keeps hm)

theorem canRxRead_besides (r : Req) (s : State) : (canRxRead r s).1.besides parts = s.besides parts := by
  simp only [canRxRead, modCtl_besides, besides_ite, ite_self, fst_ite, hm]

theorem infoCanRxRead_keeps : infoCanRxRead.Keeps parts := ⟨fun _ _ => by simp only [infoCanRxRead, canRxRead_besides, hm], fun _ _ => rfl⟩

@[simp] theorem execCanRxRead_besides (r : Req) (s : State) : (after (execCanRxRead r s) s).besides parts = s.besides parts := 
  command_besides (hostSide_of_lOpen hm) infoCanRxRead _ s (infoCanRxRead_keeps hm)

theorem canFilterSet_besides (r : Req) (s : State) : (canFilterSet r s).1.besides parts = s.besides parts := by
  simp only [canFilterSet, modCtl_besides, besides_ite, ite_self, fst_ite, hm]

theorem sofSeen_besides (k sof : Nat) (s : State) : (sofSeen k sof s).besides parts = s.besides parts := by
  simp only [sofSeen, filtersIn_besides, modCtl_besides, hm, hostSide_of_lOpen hm]

theorem infoCanFilterSet_keeps :
    infoCanFilterSet.Keeps parts := ⟨fun _ _ => by simp only [infoCanFilterSet, canFilterSet_besides, hm], fun _ _ => rfl⟩

@[simp] theorem execCanFilterSet_besides (r : Req) (s : State) : (after (execCanFilterSet r s) s).besides parts = s.besides parts := 
  command_besides (hostSide_of_lOpen hm) infoCanFilterSet _ s (infoCanFilterSet_keeps hm)

theorem writeAuth_besides (a o : Nat) (v : Word) (authed : Bool) (s : State) :
    (writeAuth a o v authed s).1.besides parts = s.besides parts := by
  simp only [writeAuth, modAuth_besides, besides_ite, ite_self, fst_ite, hm]

theorem dropTriggers_besides (reason : Nat) (s : State) : (dropTriggers reason s).besides parts = s.besides parts := by
  unfold dropTriggers
  refine besides_foldl _ (fun s x => ?_) _ _
  repeat' split
  all_goals simp only [modCan_besides, txFail_besides, hm, hostSide_of_lOpen hm]

theorem disableCan_besides (s : State) : (disableCan s).besides parts = s.besides parts := by
  simp only [disableCan, settleTrigs_besides, dropFrames_besides, filtersIn_besides, modCan_besides, dropTriggers_besides, modCtl_besides,
    besides_foldl, implies_true, hm, hostSide_of_lOpen hm]

theorem modCh_besides (c : Nat) (f : NmChan → NmChan) (s : State) : (modCh c f s).besides parts = s.besides parts := by
  simp only [modCh, modNm_besides, hm]

theorem setPhaseNm_besides (c ph : Nat) (s : State) : (setPhaseNm c ph s).besides parts = s.besides parts := by
  simp only [setPhaseNm, nmEvent_besides, modCh_besides, besides_ite, ite_self, hm, hostSide_of_lOpen hm]

theorem sendRing_besides (c dest run : Nat) (f : RingFlags) (s : State) : (sendRing c dest run f s).besides parts = s.besides parts := by
  simp only [sendRing, enqueue_besides, modCtl_besides, besides_ite, ite_self, hm]

theorem setPres_besides (c pres : Nat) (s : State) : (setPres c pres s).besides parts = s.besides parts := by
  simp only [setPres, nmEvent_besides, modCh_besides, besides_ite, ite_self, hm, hostSide_of_lOpen hm]

theorem dropPres_besides (c a : Nat) (s : State) : (dropPres c a s).besides parts = s.besides parts := by
  simp only [dropPres, setPres_besides, besides_ite, ite_self, hm]

theorem declareAlone_besides (c : Nat) (s : State) : (declareAlone c s).besides parts = s.besides parts := by
  simp only [declareAlone, nmEvent_besides, setPres_besides, modCh_besides, besides_ite, ite_self, hm, hostSide_of_lOpen hm]

theorem reformRing_besides (c a : Nat) (s : State) : (reformRing c a s).besides parts = s.besides parts := by
  simp only [reformRing, setPres_besides, modCh_besides, hm]

theorem enterCommit_besides (c tC : Nat) (s : State) : (enterCommit c tC s).besides parts = s.besides parts := by
  simp only [enterCommit, bump_besides, setPhaseNm_besides, modCh_besides, besides_ite, ite_self, hm]

theorem backAwake_besides (c : Nat) (s : State) : (backAwake c s).besides parts = s.besides parts := by
  simp only [backAwake, nmComplete_besides, setPhaseNm_besides, modCh_besides, besides_ite, ite_self, hm, hostSide_of_lOpen hm]

theorem sendWake_besides (c : Nat) (s : State) : (sendWake c s).besides parts = s.besides parts := by
  simp only [sendWake, sendRing_besides, hm]

@[simp] theorem execWakeQuietGap_besides (t c : Nat) (s : State) : (after (execWakeQuietGap t c s) s).besides parts = s.besides parts := by
  simp only [execWakeQuietGap, sendWake_besides, toL_besides, besides_ite, ite_self, after_next, hm]

theorem passToken_besides (c : Nat) (ready : Bool) (run : Nat) (s : State) : (passToken c ready run s).besides parts = s.besides parts := by
  simp only [passToken, sendRing_besides, modCh_besides, besides_ite, ite_self, hm]

@[simp] theorem execTokenSend_besides (c : Nat) (s : State) : (after (execTokenSend c s) s).besides parts = s.besides parts := by
  simp only [execTokenSend, after_next]
  split <;> simp only [passToken_besides, modCh_besides, toL_besides, besides_ite, ite_self, hm]

@[simp] theorem execSuccessorTimeout_besides (c : Nat) (s : State) :
    (after (execSuccessorTimeout c s) s).besides parts = s.besides parts := by
  simp only [execSuccessorTimeout, after_next]
  split <;> simp only [bump_besides, passToken_besides, dropPres_besides, toL_besides, besides_ite, ite_self, hm]

@[simp] theorem execPresenceTimeout_besides (c a : Nat) (s : State) :
    (after (execPresenceTimeout c a s) s).besides parts = s.besides parts := by
  simp only [execPresenceTimeout, dropPres_besides, modCh_besides, toL_besides, besides_ite, ite_self, after_next, hm]

@[simp] theorem execReformSend_besides (c : Nat) (s : State) : (after (execReformSend c s) s).besides parts = s.besides parts := by
  simp only [execReformSend, sendRing_besides, modCh_besides, toL_besides, besides_ite, ite_self, after_next, hm]

@[simp] theorem execRingRestartFrame_besides (c : Nat) (s : State) :
    (after (execRingRestartFrame c s) s).besides parts = s.besides parts := by
  simp only [execRingRestartFrame, after_next]
  split <;> simp only [sendRing_besides, modCh_besides, toL_besides, besides_ite, ite_self, hm]

@[simp] theorem execAloneDeclare_besides (t c : Nat) (s : State) : (after (execAloneDeclare t c s) s).besides parts = s.besides parts := by
  simp only [execAloneDeclare, declareAlone_besides, toL_besides, besides_ite, ite_self, after_next, hm]

theorem ringReceived_besides (c sof : Nat) (m : Nat × Nat × RingFlags × Nat) (s : State) :
    (ringReceived c sof m s).besides parts = s.besides parts := by
  simp only [ringReceived, reformRing_besides, nmEvent_besides, backAwake_besides, enterCommit_besides, setPres_besides, modCh_besides,
    besides_ite, ite_self, hm, hostSide_of_lOpen hm]

theorem ringSent_besides (c sof : Nat) (m : Nat × Nat × RingFlags × Nat) (s : State) :
    (ringSent c sof m s).besides parts = s.besides parts := by
  simp only [ringSent, bump_besides, reformRing_besides, backAwake_besides, enterCommit_besides, modCh_besides, besides_ite, ite_self, hm]

theorem reformIfDue_besides (c : Nat) (s : State) : (reformIfDue c s).besides parts = s.besides parts := by
  simp only [reformIfDue, sendRing_besides, modCh_besides, besides_ite, ite_self, hm]

theorem takeTrxEvent_besides (n code : Nat) (s : State) : (takeTrxEvent n code s).besides parts = s.besides parts := by
  simp only [takeTrxEvent, nmEvent_besides, modNm_besides, wakeHeard_besides, besides_ite, ite_self, hm, hostSide_of_lOpen hm]

theorem nmStatus_besides (c : Nat) (s : State) : (nmStatus c s).1.besides parts = s.besides parts := by
  simp only [nmStatus, pushCfg'_besides, modNm_besides, besides_ite, ite_self, hm, reports_of_lOpen hm]

theorem infoNmStatus_keeps : infoNmStatus.Keeps parts := ⟨fun _ _ => by simp only [infoNmStatus, nmStatus_besides, hm], fun _ _ => rfl⟩

@[simp] theorem execNmStatus_besides (r : Req) (s : State) : (after (execNmStatus r s) s).besides parts = s.besides parts := 
  command_besides (hostSide_of_lOpen hm) infoNmStatus _ s (infoNmStatus_keeps hm)

theorem modGw_besides (f : GwSt → GwSt) (s : State) : (modGw f s).besides parts = s.besides parts := by
  simp only [modGw, modNm_besides, hm]

theorem raiseIso_besides (g : Nat) (s : State) : (raiseIso g s).besides parts = s.besides parts := by
  simp only [raiseIso, reportL_besides, modGw_besides, isoEvent_besides, besides_ite, ite_self, hm, hostSide_of_lOpen hm,
    reports_of_lOpen hm]

@[simp] theorem execSegmentIsolation_besides (t g : Nat) (s : State) :
    (after (execSegmentIsolation t g s) s).besides parts = s.besides parts := by
  simp only [execSegmentIsolation, raiseIso_besides, toL_besides, besides_ite, ite_self, after_next, hm]

theorem setIso_besides (v : Word) (s : State) : (setIso v s).besides parts = s.besides parts := by
  simp only [setIso, modGw_besides, isoEvent_besides, besides_ite, ite_self, besides_foldl, implies_true, hm, hostSide_of_lOpen hm]

theorem gwDrop_besides (g : Nat) (s : State) : (gwDrop g s).besides parts = s.besides parts := by
  simp only [gwDrop, bump_besides, reportL_besides, modGw_besides, besides_ite, ite_self, hm, reports_of_lOpen hm]

theorem toCan_besides (k : Nat) (x : CanRx) (s : State) : (toCan k x s).1.besides parts = s.besides parts := by
  simp only [toCan, gwDrop_besides, besides_ite, fst_ite, hm]
  repeat' split
  all_goals simp only [authSend_besides, enqueue_besides, countLoad_besides, gwDrop_besides, gwSent_besides, hm]

theorem sendDatagram_besides (m : Nat) (s : State) : (sendDatagram m s).besides parts = s.besides parts := by
  simp only [sendDatagram, modGw_besides, besides_ite, ite_self, hm]

theorem toEth_besides (m : Nat) (record : List Word) (s : State) : (toEth m record s).besides parts = s.besides parts := by
  simp only [toEth, sendDatagram_besides, modGw_besides, gwSent_besides, besides_ite, ite_self, hm]

@[simp] theorem execGwDatagramSend_besides (t m : Nat) (s : State) :
    (after (execGwDatagramSend t m s) s).besides parts = s.besides parts := by
  simp only [execGwDatagramSend, sendDatagram_besides, toL_besides, besides_ite, ite_self, after_next, hm]

theorem writeRoutes_besides (i : Nat) (ws : List Word) (s : State) : (writeRoutes i ws s).1.besides parts = s.besides parts := by
  simp only [writeRoutes, modGw_besides, besides_ite, ite_self, fst_ite, hm]

theorem infoGwRouteSet_keeps :
    infoGwRouteSet.Keeps parts := ⟨fun _ _ => by simp only [infoGwRouteSet, writeRoutes_besides, hm], fun _ _ => rfl⟩

@[simp] theorem execGwRouteSet_besides (r : Req) (s : State) : (after (execGwRouteSet r s) s).besides parts = s.besides parts := 
  command_besides (hostSide_of_lOpen hm) infoGwRouteSet _ s (infoGwRouteSet_keeps hm)

theorem writeNmCfg_besides (c : Nat) (v : Word) (s : State) : (writeNmCfg c v s).besides parts = s.besides parts := by
  simp only [writeNmCfg, setPhaseNm_besides, modCh_besides, besides_ite, ite_self, hm]

theorem writeNmgw_besides (off : Nat) (v : Word) (s : State) : (writeNmgw off v s).1.besides parts = s.besides parts := by
  simp only [writeNmgw, writeTrxReg_besides, besides_ite, fst_ite, reports_of_lOpen hm]
  repeat' split
  all_goals simp only [writeRoutes_besides, writeNmCfg_besides, modGw_besides, setIso_besides, modCh_besides, hm]

theorem trxEchoed_besides (off : Nat) (s : State) : (trxEchoed off s).besides parts = s.besides parts := by
  simp only [trxEchoed, modNm_besides, hm]

theorem emptyGw_besides (s : State) : (emptyGw s).besides parts = s.besides parts := by
  simp only [emptyGw, modGw_besides, hm]

theorem refReceived_besides (p sof : Nat) (data : List Byte) (s : State) : (refReceived p sof data s).besides parts = s.besides parts := by
  simp only [refReceived, bump_besides, modNt_besides, cycleStart_besides, besides_ite, ite_self, hm]

theorem refFailed_besides (t : Nat) (s : State) : (refFailed t s).besides parts = s.besides parts := by
  simp only [refFailed, modNt_besides, hm]

@[simp] theorem execNtLoss_besides (s : State) : (after (execNtLoss s) s).besides parts = s.besides parts := by
  simp only [execNtLoss, after_next]
  split <;> simp only [canEvent_besides, reportL_besides, modNt_besides, toL_besides, besides_ite, ite_self, hm, hostSide_of_lOpen hm,
    reports_of_lOpen hm]

theorem ntCfg_besides (cfg ref cycle : Word) (s : State) : (ntCfg cfg ref cycle s).1.besides parts = s.besides parts := by
  simp only [ntCfg, modNt_besides, besides_ite, ite_self, fst_ite, hm]

theorem infoNtCfg_keeps : infoNtCfg.Keeps parts := ⟨fun _ _ => by simp only [infoNtCfg, ntCfg_besides, hm], fun _ _ => rfl⟩

@[simp] theorem execNtCfg_besides (r : Req) (s : State) : (after (execNtCfg r s) s).besides parts = s.besides parts := 
  command_besides (hostSide_of_lOpen hm) infoNtCfg _ s (infoNtCfg_keeps hm)

@[simp] theorem execTriggerFire_besides (t i : Nat) (s : State) : (after (execTriggerFire t i s) s).besides parts = s.besides parts := by
  simp only [execTriggerFire, modTrig_besides, settleTrig_besides, toL_besides, besides_ite, ite_self, after_next, hm]

theorem missTrig_besides (i : Nat) (s : State) : (missTrig i s).besides parts = s.besides parts := by
  simp only [missTrig, bump_besides, modTrig_besides, hm]

@[simp] theorem execTriggerMiss_besides (i : Nat) (s : State) : (after (execTriggerMiss i s) s).besides parts = s.besides parts := by
  simp only [execTriggerMiss, after_next]
  split <;> simp only [missTrig_besides, settleTrigs_besides, toL_besides, besides_ite, ite_self, hm]

theorem attemptFailed_besides (k src lec t : Nat) (s : State) : (attemptFailed k src lec t s).besides parts = s.besides parts := by
  simp only [attemptFailed, missTrig_besides, refFailed_besides, headFailed_besides, besides_ite, ite_self, hm]

theorem loneCommit_besides (k src t : Nat) (f : Option CanFrame) (s : State) :
    (loneCommit k src t f s).besides parts = s.besides parts := by
  unfold loneCommit
  split <;> simp only [freeWord_besides, enterCommit_besides, besides_ite, ite_self, hm]

@[simp] theorem execRecoveryDone_besides (t k : Nat) (s : State) : (after (execRecoveryDone t k s) s).besides parts = s.besides parts := by
  simp only [execRecoveryDone, cfgDone_besides, reformIfDue_besides, modCtl_besides, toL_besides, besides_ite, ite_self, after_next, hm]

theorem readsCan_besides (off : Nat) (s : State) : (readsCan off s).besides parts = s.besides parts := by
  simp only [readsCan, modCtl_besides, besides_ite, ite_self, hm]

theorem writeTrig_besides (i o : Nat) (v : Word) (s : State) : (writeTrig i o v s).1.besides parts = s.besides parts := by
  simp only [writeTrig, modTrig_besides, settleTrig_besides, besides_ite, ite_self, fst_ite, hm]

theorem writeCan_besides (authed : Bool) (off : Nat) (v : Word) (s : State) :
    (writeCan authed off v s).1.besides parts = s.besides parts := by
  simp only [writeCan, writeTrig_besides, modNt_besides, writeAuth_besides, besides_ite, ite_self, fst_ite, hm]
  repeat' split
  all_goals simp only [modCtl_besides, hm]

@[simp] theorem execMacLinkChange_besides (t m : Nat) (up fast : Bool) (s : State) :
    (after (execMacLinkChange t m up fast s) s).besides parts = s.besides parts := by
  simp only [execMacLinkChange, raiseIso_besides, modMac_besides, toL_besides, besides_ite, ite_self, after_next, hm, hostSide_of_lOpen hm]

theorem chainWaitOver_besides (s : State) : (chainWaitOver s).besides parts = s.besides parts := by
  simp only [chainWaitOver, clk_eq_modClk, modClk_besides, startTraining_besides, besides_ite, ite_self, hm, reports_of_lOpen hm]

@[simp] theorem execHeartbeat_besides (h : Beat) (s : State) : (after (execHeartbeat h s) s).besides parts = s.besides parts := by
  simp only [execHeartbeat, chainWaitOver_besides, reportL_besides, takeAlign_besides, plyPacket_besides, modChainSt_besides,
    chainEvent_besides, takeView_besides, modPly_besides, takeLatency_besides, toL_besides, besides_ite, ite_self, after_next, hm,
    hostSide_of_lOpen hm, reports_of_lOpen hm, shedding_of_lOpen hm]

theorem writeMacCfg_besides (m : Nat) (v : Word) (s : State) : (writeMacCfg m v s).besides parts = s.besides parts := by
  simp only [writeMacCfg, raiseIso_besides, modMac_besides, besides_ite, ite_self, hm, hostSide_of_lOpen hm]

theorem writeHost_besides (off : Nat) (v : Word) (s : State) : (writeHost off v s).1.besides parts = s.besides parts := by
  simp only [writeHost, modHost_besides, modSlot_besides, besides_ite, fst_ite, hostSide_of_lOpen hm]
  repeat' split
  all_goals simp only [writeMacCfg_besides, modGptp_besides, writeTimeCfg_besides, modMac_besides, modPly_besides, hm, hostSide_of_lOpen hm]

theorem linkError_besides (n : Nat) (s : State) : (linkError n s).besides parts = s.besides parts := by
  simp only [linkError, bump_besides, reportL_besides, rangeEvent_besides, modAnchor_besides, hostSide_of_lOpen hm, stores_of_lOpen hm,
    reports_of_lOpen hm]

@[simp] theorem execReportRead_besides (good : Bool) (pre : Option Nat) (answers : List TokAnswer) (s : State) :
    (after (execReportRead good pre answers s) s).besides parts = s.besides parts := by
  simp only [execReportRead, after_next]
  repeat' split
  all_goals simp only [modRun_besides, countLoad_besides, linkError_besides, toL_besides, hm, stores_of_lOpen hm]

theorem beginLockout_besides (s : State) : (beginLockout s).besides parts = s.besides parts := by
  simp only [beginLockout, bump_besides, reportL_besides, rangeEvent_besides, modRange_besides, hostSide_of_lOpen hm, stores_of_lOpen hm,
    reports_of_lOpen hm]

theorem releaseFailed_besides (code : Nat) (s : State) : (releaseFailed code s).2.besides parts = s.besides parts := by
  simp only [releaseFailed, reportL_besides, modRange_besides, stores_of_lOpen hm, reports_of_lOpen hm]

theorem release_besides (w : Nat) (l : List ValidAns) (s : State) : (release w l s).2.besides parts = s.besides parts := by
  simp only [release]
  split <;> simp only [authSend_besides, bump_besides, modRange_besides, enqueue_besides, countLoad_besides, releaseFailed_besides,
    besides_ite, ite_self, snd_ite, hm, stores_of_lOpen hm]

theorem applyOutcome_besides (o : Nat) (r : RangeRun) (s : State) : (applyOutcome o r s).besides parts = s.besides parts := by
  unfold applyOutcome
  split <;> simp only [reportL_besides, roundFigures_besides, modRange_besides, stores_of_lOpen hm, reports_of_lOpen hm]

theorem endRound_besides (r : RangeRun) (s : State) : (endRound r s).besides parts = s.besides parts := by
  unfold endRound
  split <;> simp only [bump_besides, modRun_besides, rangeEvent_besides, modRange_besides, applyOutcome_besides, endRun_besides,
    giveZone_besides, beginLockout_besides, release_besides, besides_ite, ite_self, hm, hostSide_of_lOpen hm, stores_of_lOpen hm]

@[simp] theorem execSlotResult_besides (s : State) : (after (execSlotResult s) s).besides parts = s.besides parts := by
  simp only [execSlotResult, after_next]
  repeat' split
  all_goals simp only [bump_besides, modRange_besides, endRound_besides, modAnchor_besides, toL_besides, besides_foldl, implies_true, hm,
    stores_of_lOpen hm]

theorem rangeZoneCfg_besides (r : Req) (s : State) : (rangeZoneCfg r s).1.besides parts = s.besides parts := by
  simp only [rangeZoneCfg, besides_ite, fst_ite]
  repeat' split
  all_goals simp only [putZoneCfg_besides, freeWord_besides, linkError_besides, besides_foldl, implies_true, hm, stores_of_lOpen hm]

theorem infoRangeZoneCfg_keeps :
    infoRangeZoneCfg.Keeps parts := ⟨fun _ _ => by simp only [infoRangeZoneCfg, rangeZoneCfg_besides, hm], fun _ _ => rfl⟩

@[simp] theorem execRangeZoneCfg_besides (r : Req) (s : State) : (after (execRangeZoneCfg r s) s).besides parts = s.besides parts := 
  command_besides (hostSide_of_lOpen hm) infoRangeZoneCfg _ s (infoRangeZoneCfg_keeps hm)

theorem setLTime_besides (t : Nat) (s : State) : (setLTime t s).besides parts = s.besides parts := by
  simp only [setLTime]
  rw [range_clk_eq_modClk]
  simp only [modClk_besides, modRange_besides, stores_of_lOpen hm, modWeft_besides, modHost_besides, modSpindle_besides, modFaults_besides,
    besides_uncounted, hm, hostSide_of_lOpen hm, collector_of_lOpen hm, reports_of_lOpen hm]

theorem linkDown_besides (s : State) : (linkDown s).besides parts = s.besides parts := by
  simp only [linkDown, light_eq_modLight, modLight_besides, failPassed_besides, modWeft_besides, abortWhere_besides, modLoom_besides,
    dropDeferred_besides, besides_foldl, implies_true, hm, hostSide_of_lOpen hm, planner_of_lOpen hm, reports_of_lOpen hm]

theorem dropLink_besides (s : State) : (dropLink s).besides parts = s.besides parts := by
  simp only [dropLink, modWeft_besides, linkDown_besides, besides_ite, ite_self, hm, reports_of_lOpen hm]

theorem takeWakeCfg_besides (en : Word) (edge timer : Nat) (s : State) : (takeWakeCfg en edge timer s).besides parts = s.besides parts := by
  have part : Piece.clk ∈ parts := hm (by decide)
  simp only [takeWakeCfg, State.besides, part, if_true]

theorem echoed_besides (c : CfgOut) (s : State) : (echoed c s).besides parts = s.besides parts := by
  unfold echoed
  split <;> simp only [modWeft_besides, portEchoed_besides, modPortL_besides, modActL_besides, trxEchoed_besides, defineDone_besides,
    modSkL_besides, pixelEchoed_besides, outputsEchoed_besides, clearLearn_besides, fioEchoed_besides, modLoom_besides,
    takeWakeCfg_besides, besides_ite, ite_self, besides_foldl, implies_true, hm, planner_of_lOpen hm, reports_of_lOpen hm,
    shedding_of_lOpen hm]

theorem takeEcho_besides (id : Nat) (s : State) : (takeEcho id s).besides parts = s.besides parts := by
  unfold takeEcho
  split <;> simp only [modWeft_besides, completeAll_besides, echoed_besides, hm, hostSide_of_lOpen hm, reports_of_lOpen hm]

theorem takeUp_besides (lvl : Nat) (b : UpBody) (s : State) : (takeUp lvl b s).besides parts = s.besides parts := by
  unfold takeUp
  split <;> simp only [takeTrxEvent_besides, takeFioEvent_besides, bump_besides, report_besides, takePolls_besides, takeActEvent_besides,
    takeCellOut_besides, takeEcho_besides, takeFioCleared_besides, modSkL_besides, takeFioTrig_besides, fsWritten_besides,
    completeAll_besides, reportCrc_besides, takeLightEvent_besides, modLoom_besides, viewFs_besides, besides_ite, ite_self, besides_foldl,
    implies_true, hm, hostSide_of_lOpen hm, planner_of_lOpen hm, reports_of_lOpen hm]

theorem receiveUp_besides (seq : Nat) (b : UpBody) (s : State) : (receiveUp seq b s).besides parts = s.besides parts := by
  simp only [receiveUp, modWeft_besides, takeUp_besides, besides_ite, ite_self, hm, reports_of_lOpen hm]

theorem sendUp_besides (t : Nat) (u : UpFrame) (e : LineErr) (s : State) : (sendUp t u e s).besides parts = s.besides parts := by
  unfold sendUp
  split <;> simp only [receiveUp_besides, upFrame_besides, implies_true, hm, reports_of_lOpen hm]

theorem macLinkDown_besides (m : Nat) (s : State) : (macLinkDown m s).besides parts = s.besides parts := by
  simp only [macLinkDown, raiseIso_besides, modMac_besides, besides_ite, ite_self, hm, hostSide_of_lOpen hm]

@[simp] theorem execXiMeasurement_besides (t outcome : Nat) (s : State) :
    (after (execXiMeasurement t outcome s) s).besides parts = s.besides parts := by
  simp only [execXiMeasurement, after_next]
  split <;> simp only [reportL_besides, modClk_besides, toL_besides, besides_ite, ite_self, hm, reports_of_lOpen hm]

@[simp] theorem execAutoRcSwitch_besides (s : State) : (after (execAutoRcSwitch s) s).besides parts = s.besides parts := by
  simp only [execAutoRcSwitch, modClk_besides, toL_besides, besides_ite, ite_self, after_next, hm]

@[simp] theorem execPllLockLoss_besides (t : Nat) (s : State) : (after (execPllLockLoss t s) s).besides parts = s.besides parts := by
  simp only [execPllLockLoss, reportL_besides, modClk_besides, toL_besides, besides_ite, ite_self, after_next, hm, reports_of_lOpen hm]

theorem pushReg_besides (q : RegReq) (s : State) : (pushReg q s).besides parts = s.besides parts := by
  simp only [pushReg, modClk_besides, hm]

@[simp] theorem execRegRequestAcknowledged_besides (t status : Nat) (s : State) :
    (after (execRegRequestAcknowledged t status s) s).besides parts = s.besides parts := by
  simp only [execRegRequestAcknowledged, after_next]
  split <;> simp only [modClk_besides, toL_besides, besides_ite, ite_self, hm]

@[simp] theorem execRegRequestTimeout_besides (t status : Nat) (s : State) :
    (after (execRegRequestTimeout t status s) s).besides parts = s.besides parts := by
  simp only [execRegRequestTimeout, after_next]
  split <;> simp only [bump_besides, reportL_besides, modClk_besides, powerEvent_besides, toL_besides, besides_ite, ite_self, hm,
    hostSide_of_lOpen hm, reports_of_lOpen hm]

theorem selectRoot_besides (rc : Bool) (s : State) : (selectRoot rc s).besides parts = s.besides parts := by
  simp only [selectRoot, modClk_besides, besides_ite, ite_self, hm]

theorem setVcore_besides (n : Nat) (s : State) : (setVcore n s).besides parts = s.besides parts := by
  simp only [setVcore, pushReg_besides, modClk_besides, besides_ite, ite_self, hm]

theorem writeClkpwr_besides (off : Nat) (v : Word) (s : State) : (writeClkpwr off v s).1.besides parts = s.besides parts := by
  unfold writeClkpwr
  split <;> simp only [setVcore_besides, selectRoot_besides, writeP_besides, modClk_besides, besides_ite, ite_self, fst_ite, hm,
    reports_of_lOpen hm]

theorem readClears_besides (a : Nat) (s : State) : (readClears a s).besides parts = s.besides parts := by
  simp only [readClears, readsCan_besides, besides_ite, ite_self, hm]

theorem infoReadReg_keeps : infoReadReg.Keeps parts := ⟨fun _ _ => by simp only [infoReadReg, readClears_besides, hm], fun _ _ => rfl⟩

@[simp] theorem execReadReg_besides (r : Req) (s : State) : (after (execReadReg r s) s).besides parts = s.besides parts := 
  command_besides (hostSide_of_lOpen hm) infoReadReg _ s (infoReadReg_keeps hm)

theorem readBlock_besides (n a : Nat) (s : State) : (readBlock n a s).2.besides parts = s.besides parts := by
  induction n generalizing a s with
  | zero => rfl
  | succ n ih => simp only [readBlock, ih, readClears_besides, hm]

theorem infoReadBlock_keeps :
    infoReadBlock.Keeps parts := ⟨fun _ _ => by simp only [infoReadBlock, readBlock_besides, besides_ite, ite_self, fst_ite, hm],
      fun _ _ => rfl⟩

@[simp] theorem execReadBlock_besides (r : Req) (s : State) : (after (execReadBlock r s) s).besides parts = s.besides parts := 
  command_besides (hostSide_of_lOpen hm) infoReadBlock _ s (infoReadBlock_keeps hm)

theorem writeRun_besides (c a : Nat) (ws : List Word) (s : State) : (writeRun c a ws s).1.besides parts = s.besides parts := by
  simp only [writeRun, writeRoutes_besides, asFio_besides, whorlLoad_besides, fioCfg_besides, besides_ite, ite_self, implies_true, fst_ite,
    hm, reports_of_lOpen hm]

theorem cfgWriteFailed_besides (s : State) : (cfgWriteFailed s).besides parts = s.besides parts := by
  simp only [cfgWriteFailed, reportL_besides, modStore_besides, updateEvent_besides, writeOver_besides, hostSide_of_lOpen hm,
    stores_of_lOpen hm, reports_of_lOpen hm]

theorem saveCounters_besides (s : State) : (saveCounters s).besides parts = s.besides parts := by
  simp only [saveCounters, modCan_besides, modRange_besides, hm, stores_of_lOpen hm]

theorem restoreAuth_besides (a : Nat) (d : List Word) (s : State) : (restoreAuth a d s).besides parts = s.besides parts := by
  simp only [restoreAuth, modAuth_besides, hm]

@[simp] theorem execCfgBankVerified_besides (t : Nat) (ok : Bool) (s : State) :
    (after (execCfgBankVerified t ok s) s).besides parts = s.besides parts := by
  unfold execCfgBankVerified
  split <;> simp only [cfgWriteFailed_besides, bump_besides, modStore_besides, cfgWriteDone_besides, banksIdle_besides, toL_besides,
    besides_ite, ite_self, after_next, hm, stores_of_lOpen hm]

@[simp] theorem execHandover_besides (t : Nat) (s : State) : (after (execHandover t s) s).besides parts = s.besides parts := by
  unfold execHandover
  rw [after_next]
  split
  · rfl
  · dsimp only
    repeat' split
    all_goals simp only [clk_eq_modClk, modClk_besides, bump_besides, modUpd_besides, pushEdit_besides, modStore_besides,
      updateEvent_besides, completeAll_besides, releaseWrites_besides, toL_besides, hm, hostSide_of_lOpen hm, stores_of_lOpen hm]

theorem resetClk_besides (k : LReset) (s : State) : (resetClk k s).besides parts = s.besides parts := by
  have part : Piece.clk ∈ parts := hm (by decide)
  simp only [resetClk, State.besides, part, if_true]

theorem pwrStateReq_besides (e : Entry) (s : State) : (pwrStateReq e s).1.besides parts = s.besides parts := by
  simp only [pwrStateReq, restartWdogs_besides, stopRun_besides, modClk_besides, besides_ite, ite_self, fst_ite, hm, stores_of_lOpen hm,
    reports_of_lOpen hm]

theorem infoPwrStateReq_keeps :
    infoPwrStateReq.Keeps parts := ⟨fun _ _ => by simp only [infoPwrStateReq, pwrStateReq_besides, hm], fun _ _ => rfl⟩

@[simp] theorem execPwrStateReq_besides (r : Req) (s : State) : (after (execPwrStateReq r s) s).besides parts = s.besides parts := 
  command_besides (hostSide_of_lOpen hm) infoPwrStateReq _ s (infoPwrStateReq_keeps hm)

theorem beginPhase_besides (phase target : Nat) (s : State) : (beginPhase phase target s).besides parts = s.besides parts := by
  unfold beginPhase
  split <;> simp only [saveCounters_besides, pushCfg_besides, hm, reports_of_lOpen hm]

theorem abandon_besides (ap : Nat) (e : PwrEntry) (s : State) : (abandon ap e s).besides parts = s.besides parts := by
  simp only [abandon, bump_besides, pushCfg_besides, completeAll_besides, modClk_besides, powerEvent_besides, besides_ite, ite_self, hm,
    hostSide_of_lOpen hm, reports_of_lOpen hm]

theorem stopSlots_besides (s : State) : (stopSlots s).besides parts = s.besides parts := by
  simp only [stopSlots, actStop_besides, besides_ite, ite_self, besides_foldl, implies_true, hm]

theorem passLast_besides (e : PwrEntry) (s : State) : (passLast e s).besides parts = s.besides parts := by
  simp only [passLast, completeAll_besides, modClk_besides, stopSlots_besides, besides_ite, ite_self, hm, hostSide_of_lOpen hm]

@[simp] theorem execAbortPoint_besides (t : Nat) (s : State) : (after (execAbortPoint t s) s).besides parts = s.besides parts := by
  simp only [execAbortPoint, after_next]
  split <;> simp only [beginPhase_besides, passLast_besides, abandon_besides, modClk_besides, toL_besides, besides_ite, ite_self, hm]

@[simp] theorem execEntryPhaseTimeout_besides (s : State) : (after (execEntryPhaseTimeout s) s).besides parts = s.besides parts := by
  unfold execEntryPhaseTimeout
  split <;> simp only [reportL_besides, abandon_besides, toL_besides, besides_ite, ite_self, after_next, hm, reports_of_lOpen hm]

@[simp] theorem execDeepSleepWake_besides (t : Nat) (s : State) : (after (execDeepSleepWake t s) s).besides parts = s.besides parts := by
  simp only [execDeepSleepWake, after_next, besides_ite, pushReg_besides, besides_ldie, toP_besides, ite_self, hm,
    hm (show Piece.ldie ∈ lOpen by decide)]

@[simp] theorem execRailTimeout_besides (t rail : Nat) (s : State) :
    (after (execRailTimeout t rail s) s).besides parts = s.besides parts := by
  simp only [execRailTimeout, after_next, besides_ite, modClk_besides, besides_ldie, toP_besides, ite_self, hm,
    hm (show Piece.ldie ∈ lOpen by decide)]

@[simp] theorem execRestoreRetry_besides (t : Nat) (s : State) : (after (execRestoreRetry t s) s).besides parts = s.besides parts := by
  simp only [execRestoreRetry, after_next]
  split <;> simp only [besides_ite, pushReg_besides, besides_ldie, toP_besides, ite_self, hm, hm (show Piece.ldie ∈ lOpen by decide)]

theorem reportStore_besides (s : State) : (reportStore s).besides parts = s.besides parts := by
  simp only [reportStore]
  split <;> simp only [reportL_besides, modStore_besides, besides_ite, ite_self, stores_of_lOpen hm, reports_of_lOpen hm]

theorem trainOrWait_besides (s : State) : (trainOrWait s).besides parts = s.besides parts := by
  simp only [trainOrWait, modClk_besides, startTraining_besides, besides_ite, ite_self, hm, reports_of_lOpen hm]

@[simp] theorem execChainWaitTimeout_besides (s : State) : (after (execChainWaitTimeout s) s).besides parts = s.besides parts := by
  simp only [execChainWaitTimeout, chainWaitOver_besides, modClk_besides, toL_besides, besides_ite, ite_self, after_next, hm]

theorem dropEntry_besides (s : State) : (dropEntry s).besides parts = s.besides parts := by
  simp only [dropEntry, completeAll_besides, modClk_besides, besides_ite, ite_self, hm, hostSide_of_lOpen hm]

theorem disableGroup_besides (g : Nat) (s : State) : (disableGroup g s).besides parts = s.besides parts := by
  unfold disableGroup
  repeat' split
  all_goals simp only [disableCan_besides, disableLoads_besides, disableAct_besides, disableRange_besides, endUpdate_besides,
    disableFio_besides, abortWhere_besides, liftAll_besides, dropEntry_besides, disableLight_besides, hm, hostSide_of_lOpen hm,
    planner_of_lOpen hm, stores_of_lOpen hm, shedding_of_lOpen hm]

theorem withdraw_besides (s : State) (e : Entry) : (withdraw s e).besides parts = s.besides parts := by
  simp only [withdraw, besides_ite]
  repeat' split
  all_goals simp only [modWeft_besides, modPortL_besides, modSkL_besides, setPhase_besides, hm, planner_of_lOpen hm, reports_of_lOpen hm]

theorem abortGroup_besides (g : Nat) (s : State) : (abortGroup g s).besides parts = s.besides parts := by
  simp only [abortGroup, abortWhere_besides, withdraw_besides, besides_foldl, implies_true, hm, hostSide_of_lOpen hm]

@[simp] theorem execErrcapRead_besides (k : Nat) (r : Req) (s : State) :
    (after (execErrcapRead k r s) s).besides parts = s.besides parts := by
  simp only [execErrcapRead, after_next, besides_ite, ite_self, command_besides, infoReadReg_keeps, hostSide_of_lOpen hm, hm]

end

/-! ### Operations that keep the keys, the OTP and the straps -/

section
variable {parts : List Piece} (hm : openSide ⊆ parts)
include hm

@[simp] theorem execHandoverLeave_besides (k : Nat) (s : State) : (after (execHandoverLeave k s) s).besides parts = s.besides parts := by
  unfold execHandoverLeave
  split <;> simp only [changeSkP_besides, leaveNow_besides, toP_besides, endHandover_besides, besides_ite, ite_self, implies_true,
    after_next, pSide_of_openSide hm, planner_of_openSide hm]

theorem chopLeave_besides (a : Nat) (s : State) : (chopLeave a s).besides parts = s.besides parts := by
  simp only [chopLeave]
  split <;> simp only [changeSkP_besides, leaveNow_besides, endHandover_besides, besides_ite, ite_self, implies_true, pSide_of_openSide hm,
    planner_of_openSide hm]

@[simp] theorem execChopThreshold_besides (t a sample : Nat) (means : List Nat) (s : State) :
    (after (execChopThreshold t a sample means s) s).besides parts = s.besides parts := by
  simp only [execChopThreshold, followSlot_besides, chooseDecay_besides, toP_besides, chopLeave_besides, detectCycle_besides,
    detectRise_besides, modActP_besides, besides_ite, ite_self, fst_ite, snd_ite, after_next, hm, pSide_of_openSide hm]

theorem startCtl_besides (k : Nat) (s : State) : (startCtl k s).besides parts = s.besides parts := by
  simp only [startCtl, filtersIn_besides, modTrx_besides, syncTrx_besides, modCtl_besides, hostSide_of_openSide hm, pSide_of_openSide hm,
    lOpen_of_openSide hm]

theorem stopCtl_besides (k : Nat) (s : State) : (stopCtl k s).besides parts = s.besides parts := by
  simp only [stopCtl, filtersIn_besides, modTrx_besides, syncTrx_besides, modCtl_besides, hostSide_of_openSide hm, pSide_of_openSide hm,
    lOpen_of_openSide hm]

theorem integrationDone_besides (k : Nat) (s : State) : (integrationDone k s).besides parts = s.besides parts := by
  simp only [integrationDone, cfgDone_besides, syncTrx_besides, modCtl_besides, besides_ite, ite_self, pSide_of_openSide hm,
    lOpen_of_openSide hm]

theorem canConfigure_besides (k : Nat) (n : CanCfg) (e : Entry) (s : State) : (canConfigure k n e s).1.besides parts = s.besides parts := by
  simp only [canConfigure, stopCtl_besides, dropFrames_besides, giveQueued_besides, startCtl_besides, modCtl_besides, besides_ite,
    ite_self, fst_ite, hm, hostSide_of_openSide hm, lOpen_of_openSide hm]

theorem infoCanCfg_keeps : infoCanCfg.Keeps parts := ⟨fun _ _ => by simp only [infoCanCfg, canConfigure_besides, hm], fun _ _ => rfl⟩

@[simp] theorem execCanCfg_besides (r : Req) (s : State) : (after (execCanCfg r s) s).besides parts = s.besides parts := 
  command_besides (hostSide_of_openSide hm) infoCanCfg _ s (infoCanCfg_keeps hm)

theorem enableCan_besides (s : State) : (enableCan s).besides parts = s.besides parts := by
  simp only [enableCan, stateEvent_besides, modCan_besides, startCtl_besides, besides_foldl, implies_true, hm, hostSide_of_openSide hm,
    lOpen_of_openSide hm]

theorem resetCtl_besides (k : Nat) (s : State) : (resetCtl k s).besides parts = s.besides parts := by
  simp only [resetCtl, dropFrames_besides, startCtl_besides, hm, lOpen_of_openSide hm]

theorem wakeNm_besides (c code : Nat) (s : State) : (wakeNm c code s).besides parts = s.besides parts := by
  simp only [wakeNm]
  split <;> simp only [nmEvent_besides, startCtl_besides, backAwake_besides, sendWake_besides, syncTrx_besides, modCh_besides, hm,
    hostSide_of_openSide hm, pSide_of_openSide hm, lOpen_of_openSide hm]

@[simp] theorem execSilenceTick_besides (c : Nat) (s : State) : (after (execSilenceTick c s) s).besides parts = s.besides parts := by
  simp only [execSilenceTick, stopCtl_besides, dropFrames_besides, nmComplete_besides, setPhaseNm_besides, syncTrx_besides, toL_besides,
    besides_ite, ite_self, after_next, hm, hostSide_of_openSide hm, pSide_of_openSide hm, lOpen_of_openSide hm]

@[simp] theorem execNmWake_besides (t c : Nat) (s : State) : (after (execNmWake t c s) s).besides parts = s.besides parts := by
  simp only [execNmWake, modTrx_besides, modNm_besides, syncTrx_besides, wakeNm_besides, toL_besides, besides_ite, ite_self, after_next,
    hm, pSide_of_openSide hm, lOpen_of_openSide hm]

theorem resumeNm_besides (c : Nat) (s : State) : (resumeNm c s).besides parts = s.besides parts := by
  simp only [resumeNm, stopCtl_besides, nmComplete_besides, reformIfDue_besides, setPhaseNm_besides, syncTrx_besides, modCh_besides,
    besides_ite, ite_self, hm, hostSide_of_openSide hm, pSide_of_openSide hm, lOpen_of_openSide hm]

theorem nmSleepReq_besides (c : Nat) (release : Bool) (s : State) : (nmSleepReq c release s).1.besides parts = s.besides parts := by
  simp only [nmSleepReq, nmComplete_besides, modCh_besides, wakeNm_besides, besides_ite, ite_self, fst_ite, hm, hostSide_of_openSide hm,
    lOpen_of_openSide hm]

theorem infoNmSleepReq_keeps :
    infoNmSleepReq.Keeps parts := ⟨fun _ _ => by simp only [infoNmSleepReq, nmSleepReq_besides, besides_ite, ite_self, fst_ite, hm],
      fun _ _ => rfl⟩

@[simp] theorem execNmSleepReq_besides (r : Req) (s : State) : (after (execNmSleepReq r s) s).besides parts = s.besides parts := 
  command_besides (hostSide_of_openSide hm) infoNmSleepReq _ s (infoNmSleepReq_keeps hm)

theorem toSegment_besides (src g : Nat) (wakes : Bool) (x : CanRx) (s : State) :
    (toSegment src g wakes x s).1.besides parts = s.besides parts := by
  simp only [toSegment, toCan_besides, toEth_besides, gwDrop_besides, wakeNm_besides, besides_ite, ite_self, fst_ite, hm,
    lOpen_of_openSide hm]

theorem gwOffer_besides (src extra : Nat) (x : CanRx) (s : State) : (gwOffer src extra x s).besides parts = s.besides parts := by
  unfold gwOffer
  split
  · rfl
  split
  · rfl
  dsimp only
  split
  · exact besides_foldl _ (fun s g => gwDrop_besides (lOpen_of_openSide hm) g s) _ s
  · have offered : ∀ (e : Nat) (y : CanRx) (l : List Nat), (l.foldl (fun (a : State × Bool) g =>
        ((toSegment src g (bit 24 (routeAt e s).dest) y a.1).1, a.2 || (toSegment src g (bit 24 (routeAt e s).dest) y a.1).2))
        (s, false)).1.besides parts = s.besides parts := fun e y l =>
      besides_foldl_fst (fun (a : State × Bool) g => ((toSegment src g (bit 24 (routeAt e s).dest) y a.1).1,
        a.2 || (toSegment src g (bit 24 (routeAt e s).dest) y a.1).2)) (fun x g => toSegment_besides hm src g _ y x.1) l (s, false)
    split
    · rw [modGw_besides (lOpen_of_openSide hm), bump_besides, offered]
    · rw [offered]

@[simp] theorem execGwDatagramRx_besides (t m peer : Nat) (data : List Byte) (s : State) :
    (after (execGwDatagramRx t m peer data s) s).besides parts = s.besides parts := by
  simp only [execGwDatagramRx, gwOffer_besides, toL_besides, besides_ite, ite_self, besides_foldl, implies_true, after_next, hm]

theorem enableNm_besides (s : State) : (enableNm s).besides parts = s.besides parts := by
  simp only [enableNm, resumeNm_besides, besides_foldl, implies_true, hm]

theorem frameEnded_besides (k t : Nat) (s : State) : (frameEnded k t s).besides parts = s.besides parts := by
  simp only [frameEnded, modTrx_besides, modCtl_besides, pSide_of_openSide hm, lOpen_of_openSide hm]

@[simp] theorem execReferenceSend_besides (t sof : Nat) (s : State) :
    (after (execReferenceSend t sof s) s).besides parts = s.besides parts := by
  simp only [execReferenceSend, onFrame_besides, txGood_besides, bump_besides, freeWord_besides, frameEnded_besides, sofSeen_besides,
    measureFree_besides, modNt_besides, cycleStart_besides, toL_besides, implies_true, after_next, hm, lOpen_of_openSide hm]

theorem txSent_besides (t sof k src meas : Nat) (f : CanFrame) (s : State) :
    (txSent t sof k src meas f s).besides parts = s.besides parts := by
  unfold txSent
  dsimp only
  repeat' split
  all_goals simp only [canEvent_besides, txGood_besides, bump_besides, modTrig_besides, ringSent_besides, modHead_besides,
    frameEnded_besides, sofSeen_besides, hm, hostSide_of_openSide hm, lOpen_of_openSide hm]

@[simp] theorem execCanTxSuccess_besides (t sof k src meas : Nat) (s : State) :
    (after (execCanTxSuccess t sof k src meas s) s).besides parts = s.besides parts := by
  unfold execCanTxSuccess
  rw [after_next]
  refine onFrame_besides (lOpen_of_openSide hm) _ _ _ _ _ (fun s => ?_)
  dsimp only
  split <;> simp only [settleTrigs_besides, txSent_besides, toL_besides, hm, lOpen_of_openSide hm]

@[simp] theorem execCanTxError_besides (t k src lec : Nat) (data quiet : Bool) (s : State) :
    (after (execCanTxError t k src lec data quiet s) s).besides parts = s.besides parts := by
  simp only [execCanTxError, passiveEdge_besides, onFrame_besides, settleTrigs_besides, attemptFailed_besides, busOff_besides,
    frameEnded_besides, loneCommit_besides, txBad_besides, afterBad_besides, measureFree_besides, modCtl_besides, toL_besides, besides_ite,
    ite_self, implies_true, after_next, hm, reports_of_openSide hm, lOpen_of_openSide hm]

@[simp] theorem execArbitrationLoss_besides (t k src : Nat) (s : State) :
    (after (execArbitrationLoss t k src s) s).besides parts = s.besides parts := by
  simp only [execArbitrationLoss, ackClear_besides, onFrame_besides, missTrig_besides, settleTrigs_besides, bump_besides, modHead_besides,
    frameEnded_besides, loneCommit_besides, toL_besides, besides_ite, ite_self, implies_true, after_next, hm, lOpen_of_openSide hm]

@[simp] theorem execIntegrationDone_besides (t k : Nat) (s : State) :
    (after (execIntegrationDone t k s) s).besides parts = s.besides parts := by
  simp only [execIntegrationDone, integrationDone_besides, reformIfDue_besides, toL_besides, after_next, hm, lOpen_of_openSide hm]

theorem frameTaken_besides (t k : Nat) (x : CanRx) (s : State) : (frameTaken t k x s).besides parts = s.besides parts := by
  simp only [frameTaken, canReceive_besides, frameEnded_besides, sofSeen_besides, gwOffer_besides, toL_besides, besides_ite, ite_self, hm,
    lOpen_of_openSide hm]

theorem frameServed_besides (t k : Nat) (x : CanRx) (s : State) : (frameServed t k x s).besides parts = s.besides parts := by
  simp only [frameServed]
  repeat' split
  all_goals simp only [frameTaken_besides, refReceived_besides, ringReceived_besides, hm, lOpen_of_openSide hm]

theorem frameValid_besides (t k : Nat) (x : CanRx) (s : State) : (frameValid t k x s).besides parts = s.besides parts := by
  simp only [frameValid, onFrame_besides, rxBad_besides, frameServed_besides, toL_besides, besides_ite, ite_self, implies_true, hm,
    lOpen_of_openSide hm]

@[simp] theorem execCanFrameValid_besides (t sof k : Nat) (w0 : Word) (rtr brs esi : Bool) (af xl : Word) (data : List Byte) (s : State) :
    (after (execCanFrameValid t sof k w0 rtr brs esi af xl data s) s).besides parts = s.besides parts := by
  simp only [execCanFrameValid, frameValid_besides, after_next, hm]

@[simp] theorem execReferenceMessage_besides (t sof k : Nat) (w0 : Word) (data : List Byte) (s : State) :
    (after (execReferenceMessage t sof k w0 data s) s).besides parts = s.besides parts := by
  simp only [execReferenceMessage, frameValid_besides, besides_ite, ite_self, after_next, hm]

@[simp] theorem execRingFrameRx_besides (t sof k : Nat) (w0 : Word) (data : List Byte) (s : State) :
    (after (execRingFrameRx t sof k w0 data s) s).besides parts = s.besides parts := by
  unfold execRingFrameRx
  split <;> simp only [frameValid_besides, besides_ite, ite_self, after_next, hm]

@[simp] theorem execCommitRx_besides (t sof k : Nat) (w0 : Word) (data : List Byte) (s : State) :
    (after (execCommitRx t sof k w0 data s) s).besides parts = s.besides parts := by
  unfold execCommitRx
  split <;> simp only [frameValid_besides, besides_ite, ite_self, after_next, hm]

@[simp] theorem execWakeFrameRx_besides (t sof k : Nat) (w0 : Word) (data : List Byte) (s : State) :
    (after (execWakeFrameRx t sof k w0 data s) s).besides parts = s.besides parts := by
  unfold execWakeFrameRx
  split <;> simp only [frameValid_besides, besides_ite, ite_self, after_next, hm]

theorem doReset_besides (s : State) (x : Nat × Nat) : (doReset s x).besides parts = s.besides parts := by
  unfold doReset
  split <;> simp only [stopFades_besides, actStop_besides, abortUnit_besides, emptyGw_besides, abortCan_besides, abortOps_besides,
    resetCtl_besides, whorlStop_besides, besides_ite, ite_self, hm, hostSide_of_openSide hm, reports_of_openSide hm, lOpen_of_openSide hm]

theorem runResets_besides (s : State) : (runResets s).besides parts = s.besides parts := by
  simp only [runResets, doReset_besides, modFaults_besides, besides_foldl, implies_true, hm, collector_of_openSide hm]

@[simp] theorem execFaultReport_besides (t src inst detail addr access master : Nat) (s : State) :
    (after (execFaultReport t src inst detail addr access master s) s).besides parts = s.besides parts := by
  simp only [execFaultReport, report_besides, runResets_besides, injected_besides, modFaults_besides, toL_besides, besides_ite, ite_self,
    besides_foldl, implies_true, after_next, hm, collector_of_openSide hm, reports_of_openSide hm]

theorem settleTime_besides (s : State) : (settleTime s).besides parts = s.besides parts := by
  simp only [settleTime, setPTime_besides, modP_besides, setLTime_besides, besides_ite, pSide_of_openSide hm, lOpen_of_openSide hm]
  repeat' split
  all_goals simp only [modP_besides, setLTime_besides, pSide_of_openSide hm, lOpen_of_openSide hm]

@[simp] theorem execLinkSilence_besides (t : Nat) (s : State) : (after (execLinkSilence t s) s).besides parts = s.besides parts := by
  simp only [execLinkSilence, declareSilence_besides, toP_besides, dropLink_besides, syncAllTrx_besides, besides_ite, ite_self, after_next,
    pSide_of_openSide hm, lOpen_of_openSide hm]

@[simp] theorem execUpLoss_besides (t : Nat) (s : State) : (after (execUpLoss t s) s).besides parts = s.besides parts := by
  simp only [execUpLoss, reportL_besides, dropLink_besides, syncAllTrx_besides, toL_besides, besides_ite, ite_self, after_next,
    pSide_of_openSide hm, reports_of_openSide hm, lOpen_of_openSide hm]

@[simp] theorem execWeftTraining_besides (t latency : Nat) (s : State) :
    (after (execWeftTraining t latency s) s).besides parts = s.besides parts := by
  simp only [execWeftTraining, clk_eq_modClk, modClk_besides, lOpen_of_openSide hm, modWeft_besides, declareSilence_besides, bump_besides,
    settleTime_besides, modP_besides, toL_besides, besides_ite, ite_self, after_next, hm, pSide_of_openSide hm, reports_of_openSide hm]

theorem takeSetPoint_besides (k : Nat) (p : SetPoint) (cap : Nat) (s : State) :
    (takeSetPoint k p cap s).besides parts = s.besides parts := by
  simp only [takeSetPoint, applySetPoint_besides, handsOff_besides, besides_ite, ite_self, pSide_of_openSide hm, planner_of_openSide hm]

@[simp] theorem execSetpoint_besides (t k : Nat) (e : LineErr) (s : State) :
    (after (execSetpoint t k e s) s).besides parts = s.besides parts := by
  simp only [execSetpoint, takeSetPoint_besides, modSkL_besides, wentDown_besides, alignedTo_besides, downFrame_besides, toL_besides,
    besides_ite, ite_self, implies_true, after_next, hm, pSide_of_openSide hm, planner_of_openSide hm]

theorem takeSkeinSlot_besides (k n : Nat) (s : State) : (takeSkeinSlot k n s).besides parts = s.besides parts := by
  simp only [takeSkeinSlot, takeSetPoint_besides, alignedTo_besides, besides_ite, ite_self, hm, planner_of_openSide hm]

theorem takeMaskSlot_besides (k n : Nat) (s : State) : (takeMaskSlot k n s).besides parts = s.besides parts := by
  simp only [takeMaskSlot, settleHand_besides, applyMask_besides, joined_besides, besides_ite, ite_self, pSide_of_openSide hm,
    planner_of_openSide hm]

theorem takeRefresh_besides (slot n : Nat) (s : State) : (takeRefresh slot n s).besides parts = s.besides parts := by
  simp only [takeRefresh, takeSkeinSlot_besides, takePinSlot_besides, takeCellSlot_besides, takeMaskSlot_besides, takePortSlot_besides,
    besides_ite, ite_self, hm, pSide_of_openSide hm]

@[simp] theorem execRefresh_besides (t slot : Nat) (e : LineErr) (s : State) :
    (after (execRefresh t slot e s) s).besides parts = s.besides parts := by
  simp only [execRefresh, modWeft_besides, takeRefresh_besides, downFrame_besides, noteRefresh_besides, toL_besides, besides_ite, ite_self,
    implies_true, after_next, hm, pSide_of_openSide hm, planner_of_openSide hm, reports_of_openSide hm]

theorem arriveCfg_besides (c : CfgOut) (s : State) : (arriveCfg c s).besides parts = s.besides parts := by
  simp only [arriveCfg, pushUp_besides, applyCfg_besides, toP_besides, modCfgOut_besides, besides_ite, ite_self, pSide_of_openSide hm,
    reports_of_openSide hm]

@[simp] theorem execConfig_besides (t : Nat) (e : LineErr) (s : State) : (after (execConfig t e s) s).besides parts = s.besides parts := by
  simp only [execConfig, after_next]
  split <;> simp only [configDown_besides, arriveCfg_besides, downFrame_besides, modCfgOut_besides, toL_besides, besides_ite, ite_self,
    implies_true, hm, pSide_of_openSide hm, planner_of_openSide hm, reports_of_openSide hm]

@[simp] theorem execFsForce_besides (t : Nat) (e : LineErr) (s : State) :
    (after (execFsForce t e s) s).besides parts = s.besides parts := by
  simp only [execFsForce, after_next]
  split <;> simp only [modWeft_besides, sendDown_besides, enterFailSafe_besides, toL_besides, besides_ite, ite_self, implies_true,
    pSide_of_openSide hm, reports_of_openSide hm]

@[simp] theorem execCellOut_besides (t : Nat) (e : LineErr) (s : State) :
    (after (execCellOut t e s) s).besides parts = s.besides parts := by
  simp only [execCellOut, after_next]
  split <;> simp only [bump_besides, sendUp_besides, markSent_besides, toL_besides, besides_ite, ite_self, pSide_of_openSide hm,
    lOpen_of_openSide hm]

@[simp] theorem execEventFrame_besides (t : Nat) (e : LineErr) (s : State) :
    (after (execEventFrame t e s) s).besides parts = s.besides parts := by
  simp only [execEventFrame, after_next]
  split <;> simp only [sendUp_besides, markSent_besides, toL_besides, besides_ite, ite_self, pSide_of_openSide hm, lOpen_of_openSide hm]

@[simp] theorem execUnackedResend_besides (t : Nat) (e : LineErr) (s : State) :
    (after (execUnackedResend t e s) s).besides parts = s.besides parts := by
  simp only [execUnackedResend, after_next]
  split <;> simp only [bump_besides, sendUp_besides, markSent_besides, toL_besides, besides_ite, ite_self, pSide_of_openSide hm,
    lOpen_of_openSide hm]

@[simp] theorem execIdleFrame_besides (t : Nat) (up : Bool) (e : LineErr) (s : State) :
    (after (execIdleFrame t up e s) s).besides parts = s.besides parts := by
  simp only [execIdleFrame, modWeft_besides, upFrame_besides, modP_besides, downFrame_besides, toL_besides, besides_ite, ite_self,
    implies_true, after_next, pSide_of_openSide hm, reports_of_openSide hm]

@[simp] theorem execTimeExchange_besides (t : Nat) (e : LineErr) (s : State) :
    (after (execTimeExchange t e s) s).besides parts = s.besides parts := by
  simp only [execTimeExchange, markUp_besides, slewP_besides, downFrame_besides, toL_besides, besides_ite, ite_self, implies_true,
    after_next, pSide_of_openSide hm, reports_of_openSide hm]

@[simp] theorem execLadderRelease_besides (m : MarkAt) (n : Nat) (s : State) :
    (after (execLadderRelease m n s) s).besides parts = s.besides parts := by
  simp only [execLadderRelease, modLoom_besides, pauseOver_besides, downFrame_besides, toL_besides, besides_ite, ite_self, implies_true,
    after_next, pSide_of_openSide hm, planner_of_openSide hm]

theorem retrain_besides (s : State) : (retrain s).besides parts = s.besides parts := by
  simp only [retrain, linkDown_besides, startTraining_besides, syncAllTrx_besides, besides_ite, ite_self, pSide_of_openSide hm,
    reports_of_openSide hm, lOpen_of_openSide hm]

theorem writeWeft_besides (off : Nat) (v : Word) (s : State) : (writeWeft off v s).1.besides parts = s.besides parts := by
  simp only [writeWeft, modWeft_besides, writeHold_besides, retrain_besides, besides_ite, ite_self, fst_ite, hm, reports_of_openSide hm]

theorem stopForClock_besides (k : Nat) (s : State) : (stopForClock k s).besides parts = s.besides parts := by
  simp only [stopForClock, stateEvent_besides, stopCtl_besides, dropFrames_besides, besides_ite, ite_self, hm, hostSide_of_openSide hm,
    lOpen_of_openSide hm]

theorem stopForRoot_besides (s : State) : (stopForRoot s).besides parts = s.besides parts := by
  simp only [stopForRoot, macLinkDown_besides, stopForClock_besides, besides_foldl, implies_true, hm, lOpen_of_openSide hm]

theorem resumeForRoot_besides (s : State) : (resumeForRoot s).besides parts = s.besides parts := by
  simp only [resumeForRoot, startCtl_besides, besides_ite, ite_self, besides_foldl, implies_true, hm]

@[simp] theorem execRootFailure_besides (t : Nat) (s : State) : (after (execRootFailure t s) s).besides parts = s.besides parts := by
  simp only [execRootFailure, setAligned_besides, bump_besides, reportL_besides, fallbackFor_besides, modClk_besides, stopForRoot_besides,
    powerEvent_besides, modPly_besides, toL_besides, besides_ite, ite_self, besides_foldl, implies_true, after_next, hm,
    hostSide_of_openSide hm, planner_of_openSide hm, reports_of_openSide hm, lOpen_of_openSide hm]

@[simp] theorem execRootSwitchLock_besides (t : Nat) (forced : Bool) (s : State) :
    (after (execRootSwitchLock t forced s) s).besides parts = s.besides parts := by
  simp only [execRootSwitchLock, after_next]
  split <;> simp only [setAligned_besides, bump_besides, reportL_besides, resumeForRoot_besides, modClk_besides, stopForRoot_besides,
    powerEvent_besides, toL_besides, besides_ite, ite_self, hm, hostSide_of_openSide hm, reports_of_openSide hm, lOpen_of_openSide hm]

theorem closeUnit_besides (u : Nat) (s : State) : (closeUnit u s).besides parts = s.besides parts := by
  simp only [closeUnit, macLinkDown_besides, stopForClock_besides, besides_ite, ite_self, hm, lOpen_of_openSide hm]

@[simp] theorem execUnitGateClosed_besides (t u : Nat) (s : State) :
    (after (execUnitGateClosed t u s) s).besides parts = s.besides parts := by
  simp only [execUnitGateClosed, modClk_besides, closeUnit_besides, toL_besides, besides_ite, ite_self, after_next, hm,
    lOpen_of_openSide hm]

theorem clkGate_besides (r : Req) (s : State) : (clkGate r s).1.besides parts = s.besides parts := by
  simp only [clkGate, startCtl_besides, modClk_besides, besides_ite, ite_self, besides_foldl, implies_true, fst_ite, hm,
    lOpen_of_openSide hm]

theorem infoClkGate_keeps : infoClkGate.Keeps parts := ⟨fun _ _ => by simp only [infoClkGate, clkGate_besides, hm], fun _ _ => rfl⟩

@[simp] theorem execClkGate_besides (r : Req) (s : State) : (after (execClkGate r s) s).besides parts = s.besides parts := 
  command_besides (hostSide_of_openSide hm) infoClkGate _ s (infoClkGate_keeps hm)

@[simp] theorem execWakeLatch_besides (t src : Nat) (up : Bool) (s : State) :
    (after (execWakeLatch t src up s) s).besides parts = s.besides parts := by
  simp only [execWakeLatch, toP_besides, modClk_besides, modP_besides, wakePDie_besides, besides_ite, ite_self, after_next,
    pSide_of_openSide hm, lOpen_of_openSide hm]

theorem writeReg_besides (authed judged : Bool) (a : Nat) (v : Word) (s : State) :
    (writeReg authed judged a v s).1.besides parts = s.besides parts := by
  unfold writeReg
  split <;> simp only [writeNmgw_besides, writeClkpwr_besides, writeStore_besides, writeLoom_besides, writeWeft_besides, writeProt_besides,
    writeHost_besides, writeLight_besides, writeFault_besides, writeFio_besides, writeCell_besides, writeSpindle_besides,
    writeRange_besides, writeCan_besides, hm, planner_of_openSide hm, collector_of_openSide hm, stores_of_openSide hm,
    reports_of_openSide hm, shedding_of_openSide hm, lOpen_of_openSide hm]

theorem infoWriteReg_keeps : infoWriteReg.Keeps parts := ⟨fun _ _ => by simp only [infoWriteReg, writeReg_besides, hm], fun _ _ => rfl⟩

@[simp] theorem execWriteReg_besides (r : Req) (s : State) : (after (execWriteReg r s) s).besides parts = s.besides parts := 
  command_besides (hostSide_of_openSide hm) infoWriteReg _ s (infoWriteReg_keeps hm)

theorem modifyReg_besides (authed : Bool) (a : Nat) (mask value : Word) (s : State) :
    (modifyReg authed a mask value s).1.besides parts = s.besides parts := by
  simp only [modifyReg, writeReg_besides, readClears_besides, hm, lOpen_of_openSide hm]

theorem infoModifyReg_keeps : infoModifyReg.Keeps parts := ⟨fun _ _ => by simp only [infoModifyReg, modifyReg_besides, hm], fun _ _ => rfl⟩

@[simp] theorem execModifyReg_besides (r : Req) (s : State) : (after (execModifyReg r s) s).besides parts = s.besides parts := 
  command_besides (hostSide_of_openSide hm) infoModifyReg _ s (infoModifyReg_keeps hm)

theorem writeWords_besides (n : Nat) (authed judged : Bool) (a : Nat) (ws : List Word) (x : BlockAcc) (s : State) :
    (writeWords n authed judged a ws x s).1.besides parts = s.besides parts := by
  induction n generalizing a ws x s with
  | zero => rfl
  | succ n ih =>
    simp only [writeWords]
    split
    · rfl
    · split <;> simp only [ih, writeRun_besides, writeReg_besides, hm, lOpen_of_openSide hm]

theorem writeBlock_besides (authed : Bool) (a : Nat) (ws : List Word) (s : State) :
    (writeBlock authed a ws s).1.besides parts = s.besides parts := by
  simp only [writeBlock, besides_ite, fst_ite]
  repeat' split
  all_goals simp only [writeWords_besides, hm]

theorem infoWriteBlock_keeps :
    infoWriteBlock.Keeps parts := ⟨fun _ _ => by simp only [infoWriteBlock, writeBlock_besides, hm], fun _ _ => rfl⟩

@[simp] theorem execWriteBlock_besides (r : Req) (s : State) : (after (execWriteBlock r s) s).besides parts = s.besides parts := 
  command_besides (hostSide_of_openSide hm) infoWriteBlock _ s (infoWriteBlock_keeps hm)

theorem restoreReg_besides (a : Nat) (v : Word) (s : State) : (restoreReg a v s).besides parts = s.besides parts := by
  simp only [restoreReg, writeReg_besides, besides_ite, ite_self, hm]

theorem restoreRegs_besides (r : CfgRec) (s : State) : (restoreRegs r s).besides parts = s.besides parts := by
  simp only [restoreRegs, restoreReg_besides, besides_foldl, implies_true, hm]

theorem restoreChan_besides (c : Nat) (d : List Word) (s : State) : (restoreChan c d s).besides parts = s.besides parts := by
  simp only [restoreChan, restoreReg_besides, resumeNm_besides, modNm_besides, besides_ite, ite_self, hm, lOpen_of_openSide hm]

theorem restoreCan_besides (k : Nat) (d : List Word) (s : State) : (restoreCan k d s).besides parts = s.besides parts := by
  simp only [restoreCan, startCtl_besides, modCtl_besides, besides_ite, ite_self, hm, lOpen_of_openSide hm]

theorem restoreClk_besides (d : List Word) (s : State) : (restoreClk d s).besides parts = s.besides parts := by
  simp only [restoreClk, clk_eq_modClk, modClk_besides, lOpen_of_openSide hm, restoreReg_besides, besides_foldl, implies_true, hm]

theorem restoreRec_besides (cold : Bool) (r : CfgRec) (s : State) : (restoreRec cold r s).besides parts = s.besides parts := by
  unfold restoreRec
  dsimp only
  repeat' split
  all_goals simp only [light_eq_modLight, modLight_besides, writeRoutes_besides, ntCfg_besides, putZoneCfg_besides, profileSet_besides,
    skeinDefine_besides, restoreLock_besides, restoreChan_besides, restoreClk_besides, restoreReg_besides, chainCfg_besides,
    restorePrint_besides, restoreRegs_besides, restoreCan_besides, setReaction_besides, restoreAuth_besides, besides_foldl, implies_true,
    hm, planner_of_openSide hm, collector_of_openSide hm, stores_of_openSide hm, reports_of_openSide hm, lOpen_of_openSide hm]

theorem restoreClasses_besides (cold : Bool) (classes : List Nat) (s : State) :
    (restoreClasses cold classes s).besides parts = s.besides parts := by
  unfold restoreClasses
  refine besides_foldl _ (fun s x => ?_) _ _
  simp only [restoreRec_besides, besides_foldl, implies_true, hm]

@[simp] theorem execFirmwareStarted_besides (t bad : Nat) (s : State) :
    (after (execFirmwareStarted t bad s) s).besides parts = s.besides parts := by
  simp only [execFirmwareStarted, settleDevice_besides, reportL_besides, reportStore_besides, restoreClasses_besides, chooseBank_besides,
    holdNotes_besides, trainOrWait_besides, toL_besides, besides_ite, ite_self, after_next, hm, stores_of_openSide hm,
    reports_of_openSide hm, lOpen_of_openSide hm]

@[simp] theorem execRecoveryStart_besides (t bad : Nat) (s : State) :
    (after (execRecoveryStart t bad s) s).besides parts = s.besides parts := by
  simp only [execRecoveryStart, reportStore_besides, restoreClasses_besides, chooseBank_besides, holdNotes_besides, trainOrWait_besides,
    toL_besides, besides_ite, ite_self, after_next, hm, stores_of_openSide hm, lOpen_of_openSide hm]

theorem enableGroup_besides (g : Nat) (s : State) : (enableGroup g s).besides parts = s.besides parts := by
  unfold enableGroup
  split <;> simp only [enableFio_besides, enableNm_besides, enableCan_besides, hm, lOpen_of_openSide hm]

theorem funcEnable_besides (r : Req) (s : State) : (funcEnable r s).1.besides parts = s.besides parts := by
  simp only [funcEnable, disableGroup_besides, modHost_besides, enableGroup_besides, abortGroup_besides, besides_ite, ite_self, fst_ite,
    hm, hostSide_of_openSide hm, lOpen_of_openSide hm]

theorem infoFuncEnable_keeps :
    infoFuncEnable.Keeps parts := ⟨fun _ _ => by simp only [infoFuncEnable, funcEnable_besides, hm], fun _ _ => rfl⟩

@[simp] theorem execFuncEnable_besides (r : Req) (s : State) : (after (execFuncEnable r s) s).besides parts = s.besides parts := 
  command_besides (hostSide_of_openSide hm) infoFuncEnable _ s (infoFuncEnable_keeps hm)

theorem regWrite_besides (a : Nat) (v : Word) (r : Req) (s : State) :
    (regWrite a v r s).besides parts = s.besides parts := command_besides (hostSide_of_openSide hm) infoWriteReg _ s (infoWriteReg_keeps hm)

@[simp] theorem execSkeinCtlWrite_besides (k : Nat) (v : Word) (r : Req) (s : State) :
    (after (execSkeinCtlWrite k v r s) s).besides parts = s.besides parts := by
  simp only [execSkeinCtlWrite, regWrite_besides, besides_ite, ite_self, after_next, hm]

@[simp] theorem execLoomSkeinRegWrite_besides (k : Nat) (pin : Bool) (v : Word) (r : Req) (s : State) :
    (after (execLoomSkeinRegWrite k pin v r s) s).besides parts = s.besides parts := by
  simp only [execLoomSkeinRegWrite, regWrite_besides, besides_ite, ite_self, after_next, hm]

@[simp] theorem execFioPinCfgWrite_besides (i : Nat) (v : Word) (r : Req) (s : State) :
    (after (execFioPinCfgWrite i v r s) s).besides parts = s.besides parts := by
  simp only [execFioPinCfgWrite, regWrite_besides, besides_ite, ite_self, after_next, hm]

@[simp] theorem execFioOutWrite_besides (n : Nat) (v : Word) (r : Req) (s : State) :
    (after (execFioOutWrite n v r s) s).besides parts = s.besides parts := by
  simp only [execFioOutWrite, regWrite_besides, besides_ite, ite_self, after_next, hm]

@[simp] theorem execWhorlProgramWrite_besides (i : Nat) (v : Word) (r : Req) (s : State) :
    (after (execWhorlProgramWrite i v r s) s).besides parts = s.besides parts := by
  simp only [execWhorlProgramWrite, regWrite_besides, besides_ite, ite_self, after_next, hm]

@[simp] theorem execRouteEntryWrite_besides (e j : Nat) (v : Word) (r : Req) (s : State) :
    (after (execRouteEntryWrite e j v r s) s).besides parts = s.besides parts := by
  simp only [execRouteEntryWrite, regWrite_besides, besides_ite, ite_self, after_next, hm]

@[simp] theorem execCanTrigWrite_besides (i : Nat) (win : Bool) (v : Word) (r : Req) (s : State) :
    (after (execCanTrigWrite i win v r s) s).besides parts = s.besides parts := by
  simp only [execCanTrigWrite, regWrite_besides, besides_ite, ite_self, after_next, hm]

@[simp] theorem execCanAuthWrite_besides (a j : Nat) (v : Word) (r : Req) (s : State) :
    (after (execCanAuthWrite a j v r s) s).besides parts = s.besides parts := by
  simp only [execCanAuthWrite, regWrite_besides, besides_ite, ite_self, after_next, hm]

@[simp] theorem execRetrain_besides (v : Word) (r : Req) (s : State) : (after (execRetrain v r s) s).besides parts = s.besides parts := by
  simp only [execRetrain, regWrite_besides, after_next, hm]

@[simp] theorem execWeftHoldWrite_besides (hold : Nat) (r : Req) (s : State) :
    (after (execWeftHoldWrite hold r s) s).besides parts = s.besides parts := by
  simp only [execWeftHoldWrite, regWrite_besides, after_next, hm]

@[simp] theorem execColiWrite_besides (p q : Nat) (v : Word) (r : Req) (s : State) :
    (after (execColiWrite p q v r s) s).besides parts = s.besides parts := by
  simp only [execColiWrite, regWrite_besides, besides_ite, ite_self, after_next, hm]

@[simp] theorem execPortFsWrite_besides (p : Nat) (v : Word) (r : Req) (s : State) :
    (after (execPortFsWrite p v r s) s).besides parts = s.besides parts := by
  simp only [execPortFsWrite, regWrite_besides, besides_ite, ite_self, after_next, hm]

@[simp] theorem execFrameMemoryWrite_besides (i : Nat) (v : Word) (r : Req) (s : State) :
    (after (execFrameMemoryWrite i v r s) s).besides parts = s.besides parts := by
  simp only [execFrameMemoryWrite, regWrite_besides, besides_ite, ite_self, after_next, hm]

@[simp] theorem execRootSelectWrite_besides (v : Word) (r : Req) (s : State) :
    (after (execRootSelectWrite v r s) s).besides parts = s.besides parts := by
  simp only [execRootSelectWrite, regWrite_besides, after_next, hm]

@[simp] theorem execVcoreSetWrite_besides (v : Word) (r : Req) (s : State) :
    (after (execVcoreSetWrite v r s) s).besides parts = s.besides parts := by
  simp only [execVcoreSetWrite, regWrite_besides, after_next, hm]

@[simp] theorem execFioFaultClear_besides (r : Req) (s : State) : (after (execFioFaultClear r s) s).besides parts = s.besides parts := by
  simp only [execFioFaultClear, regWrite_besides, after_next, hm]

@[simp] theorem execExtTempWrite_besides (v : Word) (r : Req) (s : State) :
    (after (execExtTempWrite v r s) s).besides parts = s.besides parts := by
  simp only [execExtTempWrite, regWrite_besides, after_next, hm]

@[simp] theorem execGenericRegWrite_besides (a : Nat) (v : Word) (r : Req) (s : State) :
    (after (execGenericRegWrite a v r s) s).besides parts = s.besides parts := by
  simp only [execGenericRegWrite, regWrite_besides, after_next, hm]

end

/-! ### Operations within the L-die: its resets -/

section
variable {parts : List Piece} (hm : lSide ⊆ parts)
include hm

theorem lDieReset_besides (k : LReset) (s : State) : (lDieReset k s).besides parts = s.besides parts := by
  have reset : (resetCounters k (resetClk k (resetFaults k (resetRange k (resetKeys (resetStore (resetHost k s))))))).besides parts =
      s.besides parts := by
    simp only [resetHost_besides, resetCounters_besides, resetStore_besides, resetRange_besides, resetClk_besides, resetFaults_besides,
      resetKeys_besides, hostSide_of_lSide hm, collector_of_lSide hm, stores_of_lSide hm, vault_of_lSide hm, lOpen_of_lSide hm]
  rw [← reset]
  have part : ∀ p ∈ lSide, p ∈ parts := fun p hp => hm hp
  simp only [lDieReset, State.besides, part _ (show Piece.ldie ∈ lSide by decide), part _ (show Piece.loom ∈ lSide by decide),
    part _ (show Piece.weft ∈ lSide by decide), part _ (show Piece.act ∈ lSide by decide),
    part _ (show Piece.light ∈ lSide by decide),
    part _ (show Piece.fio ∈ lSide by decide), part _ (show Piece.can ∈ lSide by decide), part _ (show Piece.nm ∈ lSide by decide),
    part _ (show Piece.spindle ∈ lSide by decide), if_true]

theorem sampleStraps_besides (id : Nat) (split bootsel : Bool) (s : State) :
    (sampleStraps id split bootsel s).besides parts = s.besides parts := by
  simp only [sampleStraps, State.besides, hm (show Piece.straps ∈ lSide by decide), if_true]

theorem startLDie_besides (k : LReset) (s : State) : (startLDie k s).besides parts = s.besides parts := by
  simp only [startLDie, pushReg_besides, lDieReset_besides, hm, lOpen_of_lSide hm]

@[simp] theorem execRstn_besides (t ns id : Nat) (split bootsel : Bool) (s : State) :
    (after (execRstn t ns id split bootsel s) s).besides parts = s.besides parts := by
  simp only [execRstn, after_next, besides_ite, snd_ite, sampleStraps_besides, startLDie_besides, freeWord_besides, toL_besides, ite_self,
    hm]

@[simp] theorem execL3Warm_besides (t : Nat) (s : State) : (after (execL3Warm t s) s).besides parts = s.besides parts := by
  simp only [execL3Warm, after_next]
  split <;> simp only [startLDie_besides, toL_besides, besides_ite, ite_self, hm]

@[simp] theorem execL3Chip_besides (t : Nat) (s : State) : (after (execL3Chip t s) s).besides parts = s.besides parts := by
  simp only [execL3Chip, after_next]
  split <;> simp only [startLDie_besides, toL_besides, besides_ite, ite_self, hm]

end

end Sys2Proof.Machine

/-! ## What a command leaves unchanged -/

namespace Sys2Proof.Machine

/-- The state that a command answers. -/
theorem after_eq {o : Host.Outcome State Fault Refusal} {s t : State} (ran : o = .next t) : after o s = t := by
  rw [ran, after_next]

/-- Queries, session commands, snapshots and cryptography, and the steps of the host ports, stay within the host side. -/
theorem exec_besides_hostSide (c : Instr) (s : State) (hc : (queryOrSession c || portStep c) = true) :
    (after (exec c s) s).besides hostSide = s.besides hostSide := by
  cases c <;> simp only [queryOrSession, portStep, Bool.or_self, Bool.false_eq_true] at hc
  all_goals simp (disch := decide) [exec]

/-- What the P-die does for itself stays within the P-die. -/
theorem exec_besides_pSide (c : Instr) (s : State) (hc : pdieStep c = true) : (after (exec c s) s).besides pSide = s.besides pSide := by
  cases c <;> simp only [pdieStep, Bool.false_eq_true] at hc
  all_goals simp (disch := decide) [exec]

/-- The commands and steps of the planner stay within the host side and the planner. -/
theorem exec_besides_planner (c : Instr) (s : State) (hc : loomStep c = true) :
    (after (exec c s) s).besides planner = s.besides planner := by
  cases c <;> simp only [loomStep, Bool.false_eq_true] at hc
  all_goals simp (disch := decide) [exec]

/-- The commands and steps of the stores stay within them. -/
theorem exec_besides_vault (c : Instr) (s : State) (hc : storeStep c = true) : (after (exec c s) s).besides vault = s.besides vault := by
  cases c <;> simp only [storeStep, Bool.false_eq_true] at hc
  all_goals simp (disch := decide) [exec]

/-- The reporting steps stay within what a report reaches. -/
theorem exec_besides_reports (c : Instr) (s : State) (hc : reportStep c = true) :
    (after (exec c s) s).besides reports = s.besides reports := by
  cases c <;> simp only [reportStep, Bool.false_eq_true] at hc
  all_goals simp (disch := decide) [exec]

/-- A command that is none of the key steps keeps the keys and the OTP. -/
theorem exec_besides_openSide (c : Instr) (s : State) (hc : keyStep c = false) :
    (after (exec c s) s).besides openSide = s.besides openSide := by
  cases c <;> simp only [keyStep, Bool.true_eq_false] at hc
  all_goals simp (disch := decide) [exec]

/-- Settles O44: a command outside the list stays within the parts that hold neither the keys nor the OTP. -/
theorem keysChangeOnlyByKeySteps : Obligations.KeysChangeOnlyByKeySteps := by
  unfold Obligations.KeysChangeOnlyByKeySteps
  intro c s t hc ran
  have same := exec_besides_openSide c s hc
  rw [after_eq ran] at same
  exact ⟨(congrArg State.keys same :), (congrArg State.otp same :)⟩

/-- Settles O46. -/
theorem pDieStepsStayOnPDie : Obligations.PDieStepsStayOnPDie := by
  unfold Obligations.PDieStepsStayOnPDie
  intro c s t hc ran
  have same := exec_besides_pSide c s hc
  rwa [after_eq ran] at same

/-- Settles O48. -/
theorem storeStepsStayInStores : Obligations.StoreStepsStayInStores := by
  unfold Obligations.StoreStepsStayInStores
  intro c s t hc ran
  have same := exec_besides_vault c s hc
  rwa [after_eq ran] at same

/-- Settles O50. -/
theorem reportingStepsStayInReports : Obligations.ReportingStepsStayInReports := by
  unfold Obligations.ReportingStepsStayInReports
  intro c s t hc ran
  have same := exec_besides_reports c s hc
  rwa [after_eq ran] at same

/-- Settles O51: the three resets stay within the L-die. -/
theorem lDieResetsLeavePDie : Obligations.LDieResetsLeavePDie := by
  unfold Obligations.LDieResetsLeavePDie
  intro c s t hc ran
  have same : (after (exec c s) s).besides lSide = s.besides lSide := by
    rcases hc with ⟨t0, ns, id, split, bootsel, rfl⟩ | ⟨t0, rfl⟩ | ⟨t0, rfl⟩
    · exact execRstn_besides (List.Subset.refl _) t0 ns id split bootsel s
    · exact execL3Warm_besides (List.Subset.refl _) t0 s
    · exact execL3Chip_besides (List.Subset.refl _) t0 s
  rw [after_eq ran] at same
  exact (congrArg State.pdie same :)

end Sys2Proof.Machine

/-! ## Acceptance of a request (R74 to R87, R112) -/

namespace Sys2Proof.Machine

/-! ### Commands that are not dispatched -/

/-- Every entry in flight that names the command e has been answered, or waits for a latch. -/
def Parked (e : Entry) (s : State) : Prop :=
  ∀ x ∈ s.host.flight, sameCmd x e = true → x.stage = .answered ∨ x.stage = .aligned

theorem modEntry_flight (e : Entry) (f : Entry → Entry) (s : State) :
    (modEntry e f s).host.flight = s.host.flight.map (fun x => if sameCmd x e then f x else x) := rfl

/-- A stage given to the entries of a command parks it. -/
theorem parked_modEntry (e : Entry) (f : Entry → Entry) (s : State)
    (hf : ∀ x, (f x).req = x.req ∧ ((f x).stage = .answered ∨ (f x).stage = .aligned)) : Parked e (modEntry e f s) := by
  intro x hx same
  rw [modEntry_flight] at hx
  obtain ⟨y, -, rfl⟩ := List.mem_map.mp hx
  cases named : sameCmd y e with
  | true => exact (hf y).2
  | false => simp [named] at same

theorem completeAt_flight (t : Nat) (e : Entry) (st : Status) (payload : List Word) (s : State) :
    (completeAt t e st payload s).host.flight =
      if e.req.noresp && st == .done then s.host.flight.filter (fun x => !sameCmd x e)
      else s.host.flight.map (fun x => if sameCmd x e then { x with stage := .answered, await := .none } else x) := by
  unfold completeAt
  split
  · rfl
  · rw [pushOut_flight]
    rfl

/-- Another command's completion leaves a parked command parked. -/
theorem Parked.completeAt {e : Entry} {s : State} (h : Parked e s) (t : Nat) (d : Entry) (st : Status) (payload : List Word) :
    Parked e (completeAt t d st payload s) := by
  intro x hx same
  rw [completeAt_flight] at hx
  split at hx
  · exact h x (List.mem_filter.mp hx).1 same
  · obtain ⟨y, hy, rfl⟩ := List.mem_map.mp hx
    cases named : sameCmd y d with
    | true => exact .inl rfl
    | false =>
      simp only [named, Bool.false_eq_true, if_false] at same ⊢
      exact h y hy same

/-- A command that completes is parked. -/
theorem parked_completeAt (t : Nat) (e : Entry) (st : Status) (payload : List Word) (s : State) :
    Parked e (completeAt t e st payload s) := by
  intro x hx same
  rw [completeAt_flight] at hx
  split at hx
  · have other := (List.mem_filter.mp hx).2
    rw [same] at other
    cases other
  · obtain ⟨y, -, rfl⟩ := List.mem_map.mp hx
    cases named : sameCmd y e with
    | true => exact .inl rfl
    | false => simp [named] at same

theorem endSession_flight (n : Nat) (s : State) : (endSession n s).host.flight = s.host.flight := rfl

theorem Parked.closeSlot {e : Entry} {s : State} (h : Parked e s) (n : Nat) : Parked e (closeSlot n s) := by
  unfold Machine.closeSlot
  dsimp only
  split
  · have all : ∀ (l : List Entry) (s : State), Parked e s →
        Parked e (l.foldl (fun s d => Machine.completeAt s.now d .done [] s) s) := by
      intro l
      induction l with
      | nil => exact fun _ h => h
      | cons d l ih => exact fun s h => ih _ (h.completeAt s.now d .done [])
    exact all _ s h
  · exact h

theorem parked_complete (e : Entry) (st : Status) (payload : List Word) (s : State) : Parked e (complete e st payload s) :=
  (parked_completeAt s.now e st payload s).closeSlot _

/-- A parked command is not dispatched. -/
theorem not_eligible_of_parked {e x : Entry} {r : Req} {s : State} (h : Parked e s) (he : e.req = r) (hx : entryOf r s = some x) :
    eligible x s = false := by
  have found := List.find?_some hx
  have member := List.mem_of_find?_eq_some hx
  have same : sameCmd x e = true := by rwa [sameCmd, he]
  rcases h x member same with stage | stage <;> simp [eligible, stage]

/-- A request that passes stage 4 and is parked at its acceptance goes no further. -/
theorem submit_parked (o : OpInfo) (r : Req) (s : State) (e : Entry) (he : e.req = r) (h4 : stage4 o r s = none)
    (h : Parked e (accept o r s)) : submit o r s = accept o r s := by
  simp only [submit, h4]
  split
  · rename_i x hx
    rw [not_eligible_of_parked h he hx]
    rfl
  · rfl

/-! ### What becomes of an accepted request -/

theorem command_up (o : OpInfo) (r : Req) (s : State) (hu : interpreterUp (toL r.t s) = true) :
    command o r s = submit o r (arrived r s) := by
  rw [command, if_pos hu]
  rfl

@[simp] theorem pushOut_disabled (p : Port) (f : OutFrame) (s : State) : (pushOut p f s).host.disabled = s.host.disabled := by
  unfold pushOut
  split <;> rfl

theorem giveQueued_disabled (e : Entry) (s : State) : (giveQueued e s).host.disabled = s.host.disabled := by
  unfold giveQueued
  split
  · rfl
  · dsimp only
    split
    · rfl
    · rw [pushOut_disabled]
      rfl

/-- Acceptance in its four cases: the group disabled, no SNAPALIGN, group 0x0C disabled, and a latch to wait for, unless 64 commands
wait for it (R85, R112). -/
theorem accept_eq (o : OpInfo) (r : Req) (s : State) :
    accept o r (arrived r s) =
      if groupOff (groupOf o.op) (arrived r s) then
        complete (entryFor o r s) .abortedDisabled []
          (if r.snapalign then giveQueued (entryFor o r s) (heldAt o r s) else heldAt o r s)
      else if !r.snapalign then acceptedAt o r s
      else if groupOff 0x0C (arrived r s) then
        complete (entryFor o r s) .abortedDisabled [] (giveQueued (entryFor o r s) (heldAt o r s))
      else if 64 ≤ alignPending (arrived r s) then
        complete (entryFor o r s) .busy [] (giveQueued (entryFor o r s) (heldAt o r s))
      else modEntry (entryFor o r s) (fun x => { x with stage := .aligned }) (giveQueued (entryFor o r s) (heldAt o r s)) := by
  simp only [accept]
  cases snap : r.snapalign with
  | false => rfl
  | true =>
    have queued : ∀ g, groupOff g (giveQueued (entryFor o r s) (heldAt o r s)) = groupOff g (arrived r s) := fun g =>
      congrArg (fun d => d.testBit g) (giveQueued_disabled (entryFor o r s) (heldAt o r s))
    rw [if_pos rfl, if_pos rfl, ← queued, ← queued]
    rfl

end Sys2Proof.Machine

/-! ### Parts of the state that the interpreter leaves alone -/

namespace Sys2Proof.Machine

/-- A part g of the state that time, counters, frames sent and changes of slot n do not reach. -/
structure Outside {α : Type} (n : Nat) (g : State → α) : Prop where
  time : ∀ t s, g (toL t s) = g s
  bump : ∀ i s, g (bump i s) = g s
  pushOut : ∀ p f s, g (pushOut p f s) = g s
  modSlot : ∀ f s, g (modSlot n f s) = g s

/-- A part of the state that is no command in flight either. -/
structure Aside {α : Type} (n : Nat) (g : State → α) : Prop extends Outside n g where
  modFlight : ∀ f s, g (modFlight f s) = g s

section
variable {α : Type} {n : Nat} {g : State → α}

theorem Outside.ite_eq (p : Prop) [Decidable p] {s t u : State} (hs : g s = g u) (ht : g t = g u) :
    g (if p then s else t) = g u := by
  split
  · exact hs
  · exact ht

theorem Outside.sendEvent (h : Outside n g) (opc t : Nat) (payload : List Word) (s : State) :
    g (sendEvent n opc t payload s) = g s := by
  simp only [Machine.sendEvent]
  split
  · rfl
  · rw [h.modSlot, h.pushOut]

theorem Outside.queueEvent (h : Outside n g) (opc t : Nat) (payload : List Word) (s : State) :
    g (queueEvent n opc t payload s) = g s :=
  Outside.ite_eq _ (h.sendEvent opc t payload s) (h.modSlot _ s)

theorem Outside.queueEvents (h : Outside n g) (l : List (Nat × Nat × List Word)) (s : State) :
    g (l.foldl (fun s x => Machine.queueEvent n x.1 x.2.1 x.2.2 s) s) = g s := by
  induction l generalizing s with
  | nil => rfl
  | cons x l ih => rw [List.foldl_cons, ih, h.queueEvent]

theorem Outside.sendHeld (h : Outside n g) (s : State) : g (sendHeld n s) = g s := by
  simp only [Machine.sendHeld]
  rw [h.modSlot, h.queueEvents]
  cases (slotOf n s).heldRestart <;> cases (slotOf n s).heldFault <;> simp only [h.queueEvent]

/-- Stage 3 of a request of slot n (R77, R79). -/
theorem Outside.passed3 {r : Req} (h : Outside r.slot g) (s : State) : g (passed3 r s) = g s := by
  have counted : g (counted3 r s) = g s := (h.modSlot _ _).trans (Outside.ite_eq _ (h.bump _ s) rfl)
  rw [passed3_eq]
  exact Outside.ite_eq _ counted (((h.sendHeld _).trans (h.modSlot _ _)).trans counted)

theorem Outside.arrived {r : Req} (h : Outside r.slot g) (s : State) : g (arrived r s) = g s :=
  (h.passed3 _).trans (h.time _ s)

theorem Outside.refusedWith {r : Req} (h : Outside r.slot g) (o : OpInfo) (s : State) (st : Status) :
    g (refusedWith o r s st) = g s :=
  (h.pushOut _ _ _).trans (h.arrived s)

theorem Aside.modEntry (h : Aside n g) (e : Entry) (f : Entry → Entry) (s : State) : g (modEntry e f s) = g s := h.modFlight _ s

theorem Aside.completeAt (h : Aside n g) (t : Nat) (e : Entry) (st : Status) (payload : List Word) (s : State) :
    g (completeAt t e st payload s) = g s :=
  Outside.ite_eq _ (h.modFlight _ s) ((h.pushOut _ _ _).trans (h.modEntry e _ s))

theorem Aside.closeSlot (h : Aside n g) (s : State) : g (closeSlot n s) = g s := by
  have closed : ∀ (l : List Entry) (s : State), g (l.foldl (fun s e => Machine.completeAt s.now e .done [] s) s) = g s := by
    intro l
    induction l with
    | nil => exact fun _ => rfl
    | cons e l ih => exact fun s => (ih _).trans (h.completeAt _ e _ _ s)
  exact Outside.ite_eq _ ((h.modSlot _ _).trans (closed _ s)) rfl

theorem Aside.complete (h : Aside n g) {e : Entry} (he : e.req.slot = n) (st : Status) (payload : List Word) (s : State) :
    g (complete e st payload s) = g s := by
  subst he
  exact (h.closeSlot _).trans (h.completeAt _ e st payload s)

theorem Aside.giveQueued (h : Aside n g) (e : Entry) (s : State) : g (giveQueued e s) = g s :=
  Outside.ite_eq _ rfl (Outside.ite_eq _ (h.modEntry e _ s) ((h.pushOut _ _ _).trans (h.modEntry e _ s)))

theorem Aside.settle (h : Aside n g) {e : Entry} (he : e.req.slot = n) (a : Ans) (s : State) : g (settle e a s) = g s := by
  cases a with
  | done payload => exact h.complete he .done payload s
  | fail st payload => exact h.complete he st payload s
  | wait w q data =>
    have kept := h.modEntry e (fun x => { x with await := w, data := data }) s
    refine Outside.ite_eq _ ?_ (Outside.ite_eq _ ((h.giveQueued e _).trans kept) kept)
    subst he
    exact (h.closeSlot _).trans kept
  | waits l data =>
    cases l with
    | nil => exact h.complete he .done data s
    | cons w rest => exact h.modEntry e _ s

/-- A command that is carried out reaches the part only as its operation does. -/
theorem Aside.carryOut (h : Aside n g) (o : OpInfo) {e : Entry} (he : e.req.slot = n) (s : State)
    (run : ∀ t, g (o.run { e with stage := .taken } t).1 = g t) : g (carryOut o e s) = g s := by
  unfold Machine.carryOut
  split
  · exact h.complete he _ [] s
  · exact (h.settle he _ _).trans ((run _).trans (h.modEntry e _ s))

end

/-! ### The entry of an accepted request -/

/-- What tells the order of an entry: its request, its opcode and its stage. -/
def Entry.rank (e : Entry) : Req × Nat × Stage := (e.req, e.op, e.stage)

/-- The opcode's acceptance leaves request, opcode and stage of the commands in flight as they are. -/
def OpInfo.Admits (o : OpInfo) : Prop := ∀ e s, (o.onAccept e s).host.flight.map Entry.rank = s.host.flight.map Entry.rank

theorem rank_modEntry (e : Entry) (f : Entry → Entry) (s : State) (hf : ∀ x, (f x).rank = x.rank) :
    (modEntry e f s).host.flight.map Entry.rank = s.host.flight.map Entry.rank := by
  rw [modEntry_flight, List.map_map]
  refine List.map_congr_left fun x _ => ?_
  show (if sameCmd x e then f x else x).rank = x.rank
  split
  · exact hf x
  · rfl

theorem snapTake_admits : infoSnapTake.Admits := by
  intro e s
  show (snapAccept e s).host.flight.map Entry.rank = _
  unfold snapAccept
  dsimp only
  split
  · exact rank_modEntry _ _ _ fun _ => rfl
  · split
    · exact rank_modEntry _ _ _ fun _ => rfl
    · exact rank_modEntry _ _ _ fun _ => rfl

theorem touchUpdate_flight (e : Entry) (s : State) : (touchUpdate e s).host.flight = s.host.flight := by
  unfold touchUpdate
  split <;> rfl

/-- Every opcode leaves the order of the commands in flight at its acceptance. -/
theorem admits_hostRow (c : Instr) (o : OpInfo) (r : Req) (h : hostRow c = some (o, r)) : o.Admits := by
  cases c <;> simp only [hostRow, Option.some.injEq, Prod.mk.injEq, reduceCtorEq] at h <;> obtain ⟨rfl, rfl⟩ := h
  case snapTake => exact snapTake_admits
  case updateBlock | updateVerify | updateCommit | updateAbort | updateConfirm | updateBegin =>
    exact fun e s => congrArg (List.map Entry.rank) (touchUpdate_flight e s)
  all_goals exact fun _ _ => rfl

/-- A list with the ranks of l has an entry found by its request at the place where l has it. -/
theorem find_of_ranks (p : Req → Bool) (l m : List Entry) (h : l.map Entry.rank = m.map Entry.rank) {e : Entry}
    (he : m.find? (fun x => p x.req) = some e) : ∃ x, l.find? (fun x => p x.req) = some x ∧ x.rank = e.rank := by
  induction l generalizing m with
  | nil =>
    cases m with
    | nil => cases he
    | cons => cases h
  | cons x l ih =>
    cases m with
    | nil => cases h
    | cons y m =>
      rw [List.map_cons, List.map_cons, List.cons.injEq] at h
      obtain ⟨first, rest⟩ := h
      have req : x.req = y.req := congrArg Prod.fst first
      rw [List.find?_cons] at he ⊢
      rw [req]
      cases hit : p y.req with
      | true =>
        rw [hit] at he
        cases he
        exact ⟨x, rfl, first⟩
      | false =>
        rw [hit] at he
        exact ih m rest he

/-- The request just accepted is the one that its slot's tag names. -/
theorem entryOf_acceptedAt (o : OpInfo) (r : Req) (s : State) (ho : o.Admits) (h : tagHeld r (arrived r s) = false) :
    ∃ x, entryOf r (acceptedAt o r s) = some x ∧ x.req = r ∧ x.op = o.op ∧ x.stage = .waiting := by
  obtain ⟨x, found, rank⟩ := find_of_ranks (fun q => q.slot == r.slot && q.tag == r.tag) _ _ (ho (entryFor o r s) (heldAt o r s))
    (entryOf_heldAt o r s h)
  simp only [Entry.rank, Prod.mk.injEq] at rank
  exact ⟨x, found, rank⟩

/-! ### What becomes of a host command -/

/-- An accepted request without SNAPALIGN is carried out where nothing holds it back and nothing goes before it, and else waits
(R81, R82). -/
theorem submit_acceptedAt (o : OpInfo) (r : Req) (s : State) (ho : o.Admits) (h4 : stage4 o r (arrived r s) = none)
    (hg : groupOff (groupOf o.op) (arrived r s) = false) (hs : r.snapalign = false) :
    ∃ x, x.req = r ∧ x.op = o.op ∧ x.stage = .waiting ∧
      submit o r (arrived r s) =
        if eligible x (acceptedAt o r s) && !goesFirst x (acceptedAt o r s) then carryOut o x (acceptedAt o r s)
        else acceptedAt o r s := by
  obtain ⟨x, found, rank⟩ := entryOf_acceptedAt o r s ho (tagHeld_of_stage4 o r _ h4)
  have accepted : accept o r (arrived r s) = acceptedAt o r s := by simp [accept_eq, hg, hs]
  obtain ⟨req, op, stage⟩ := rank
  exact ⟨x, req, op, stage, by simp only [submit, h4, accepted, found]⟩

section
variable {α : Type} {g : State → α}

/-- A host command reaches a part of the state besides its slot only by its acceptance and its operation. -/
theorem Aside.command {r : Req} (h : Aside r.slot g) (o : OpInfo) (s : State) (ho : o.Admits)
    (onAccept : ∀ e t, e.req = r → g (o.onAccept e t) = g t) (run : ∀ e t, e.req = r → g (o.run e t).1 = g t) :
    g (command o r s) = g s := by
  have arrives : g (arrived r s) = g s := h.arrived s
  have held : g (heldAt o r s) = g s := (h.modFlight _ _).trans arrives
  have queued : g (Machine.giveQueued (entryFor o r s) (heldAt o r s)) = g s := (h.giveQueued _ _).trans held
  have accepted : g (acceptedAt o r s) = g s := (onAccept _ _ rfl).trans held
  have own : (entryFor o r s).req.slot = r.slot := rfl
  cases up : interpreterUp (toL r.t s) with
  | false => rw [command_down o r s up, h.time]
  | true =>
    cases h4 : stage4 o r (arrived r s) with
    | some st => rw [command_refused o r s st up h4, h.refusedWith]
    | none =>
      rw [command_up o r s up]
      by_cases hg : groupOff (groupOf o.op) (arrived r s) = true ∨ r.snapalign = true
      · have parked : Parked (entryFor o r s) (accept o r (arrived r s)) ∧ g (accept o r (arrived r s)) = g s := by
          rw [accept_eq]
          split
          · refine ⟨parked_complete _ _ _ _, (h.complete own _ _ _).trans (Outside.ite_eq _ queued held)⟩
          · rename_i on
            have snap : r.snapalign = true := hg.resolve_left on
            rw [snap, if_neg (by decide)]
            split
            · exact ⟨parked_complete _ _ _ _, (h.complete own _ _ _).trans queued⟩
            · split
              · exact ⟨parked_complete _ _ _ _, (h.complete own _ _ _).trans queued⟩
              · exact ⟨parked_modEntry _ _ _ fun _ => ⟨rfl, .inr rfl⟩, (h.modEntry _ _ _).trans queued⟩
        rw [submit_parked o r _ _ rfl h4 parked.1, parked.2]
      · rw [not_or, Bool.not_eq_true, Bool.not_eq_true] at hg
        obtain ⟨x, req, -, -, submitted⟩ := submit_acceptedAt o r s ho h4 hg.1 hg.2
        rw [submitted]
        exact Outside.ite_eq _ ((h.carryOut o (congrArg Req.slot req) _ fun t => run _ t req).trans accepted) accepted

end

/-! ### The obligations -/

theorem slotOf_outside (n m : Nat) (h : m ≠ n) : Outside n (slotOf m) where
  time _ _ := rfl
  bump _ _ := rfl
  pushOut p f s := pushOut_slotOf p f s m
  modSlot f s := slotOf_modSlot_other n m f s h

theorem flight_outside (n : Nat) : Outside n (fun s => s.host.flight) where
  time _ _ := rfl
  bump _ _ := rfl
  pushOut := pushOut_flight
  modSlot _ _ := rfl

theorem besidesHost_aside (n : Nat) : Aside n State.besidesHost where
  time _ _ := rfl
  bump _ _ := rfl
  pushOut := pushOut_besidesHost
  modSlot _ _ := rfl
  modFlight _ _ := rfl

/-- A request whose SNAPALIGN or LENGTH is not allowed, or that is in order but for its tag. -/
theorem stage4_badOpcode (o : OpInfo) (r : Req) (s : State) (h : r.snapalign = true) (ho : o.snap = false) :
    stage4 o r s = some .badOpcode := by
  simp [stage4, h, ho]

theorem stage4_badLength (o : OpInfo) (r : Req) (s : State) (h : r.snapalign = false ∨ o.snap = true)
    (hl : (o.len (4 * r.payload.length) && o.fits r) = false) : stage4 o r s = some .badLength := by
  have snap : (r.snapalign && !o.snap) = false := by rcases h with h | h <;> simp [h]
  have short : (!o.len (4 * r.payload.length) || !o.fits r) = true := by rw [← Bool.not_and, hl]; rfl
  simp only [stage4, snap, short, Bool.false_eq_true, if_false, if_true]

theorem stage4_tagInUse (o : OpInfo) (r : Req) (s : State) (hf : formatOk o r = true) (hp : permitted o r s = true)
    (ht : tagHeld r s = true) : stage4 o r s = some .tagInUse := by
  simp only [formatOk, Bool.and_eq_true] at hf
  obtain ⟨⟨snap, len⟩, fits⟩ := hf
  have snapOk : (r.snapalign && !o.snap) = false := by
    rw [← Bool.not_eq_true', Bool.not_and, Bool.not_not]
    exact snap
  simp only [stage4, snapOk, len, fits, hp, ht, Bool.not_true, Bool.or_self, Bool.false_eq_true, if_false, if_true]

/-- Settles O52: stage 4 is a chain of checks, and the answer and stage 3 reach the request's own slot alone. -/
theorem stageFourRefusalOnlyAnswers : Obligations.StageFourRefusalOnlyAnswers := by
  unfold Obligations.StageFourRefusalOnlyAnswers
  refine ⟨fun c o r s hc hu => ?_, fun o r s st => ⟨?_, ?_, fun hr => ?_, fun n hn => ?_⟩⟩
  · intro a fits
    have refused : ∀ st, stage4 o r a = some st → exec c s = .next (refusedWith o r s st) := fun st h => by
      rw [exec_hostRow c o r s hc, command_refused o r s st hu h]
    exact ⟨fun hs ho => refused _ (stage4_badOpcode o r a hs ho), fun hs hl => refused _ (stage4_badLength o r a hs hl),
      fun hf hp => refused _ (stage4_notPermitted o r a hf hp), fun hf hp ht => refused _ (stage4_tagInUse o r a hf hp ht),
      fun hf hp ht ho => refused _ (stage4_badObject o r a hf hp ht ho)⟩
  · exact (flight_outside r.slot).refusedWith o s st
  · exact (besidesHost_aside r.slot).refusedWith o s st
  · rw [refusedWith, pushOut_slotOf]
    exact passed3_lastSeq r _ hr
  · exact (slotOf_outside r.slot n hn).refusedWith o s st

/-- A request that is accepted and parked at once stays so. -/
theorem exec_parked (c : Instr) (o : OpInfo) (r : Req) (s t : State) (hc : hostRow c = some (o, r))
    (hu : interpreterUp (toL r.t s) = true) (h4 : stage4 o r (arrived r s) = none) (ha : accept o r (arrived r s) = t)
    (hp : Parked (entryFor o r s) t) : exec c s = .next t := by
  rw [exec_hostRow c o r s hc, command_up o r s hu, submit_parked o r _ (entryFor o r s) rfl h4 (ha ▸ hp), ha]

/-- Settles O54: acceptance answers ABORTED_DISABLED, and a command that is answered is not dispatched. -/
theorem disabledGroupAborts : Obligations.DisabledGroupAborts := by
  unfold Obligations.DisabledGroupAborts
  intro c o r s hc hu h4 hg e u
  have aside := besidesHost_aside r.slot
  have held : (heldAt o r s).besidesHost = s.besidesHost := (aside.modFlight _ _).trans (aside.arrived s)
  refine ⟨exec_parked c o r s _ hc hu h4 ?_ (parked_complete _ _ _ _), (aside.complete rfl _ _ u).trans ?_⟩
  · rw [accept_eq, if_pos hg]
  · exact Outside.ite_eq _ ((aside.giveQueued e _).trans held) held

/-- Settles O55: without SNAPALIGN by the entry that acceptance leaves in flight, with it by the cases of acceptance. -/
theorem heldCommandsWait : Obligations.HeldCommandsWait := by
  unfold Obligations.HeldCommandsWait
  intro c o r s hc hu h4 hg e
  have on : ¬ groupOff (groupOf o.op) (arrived r s) = true := by rw [hg]; decide
  refine ⟨fun hs back => ?_, fun hs h0C few => ?_, fun hs h0C many => ?_, fun hs h0C => ?_⟩
  · obtain ⟨x, req, op, stage, submitted⟩ := submit_acceptedAt o r s (admits_hostRow c o r hc) h4 hg hs
    have held : (eligible x (acceptedAt o r s) && !goesFirst x (acceptedAt o r s)) = false := by
      rw [eligible_congr x e _ req op stage, goesFirst_congr x e _ req]
      rcases back with back | back <;> simp [back]
    rw [exec_hostRow c o r s hc, command_up o r s hu, submitted, held]
    rfl
  · refine exec_parked c o r s _ hc hu h4 ?_ (parked_modEntry _ _ _ fun _ => ⟨rfl, .inr rfl⟩)
    rw [accept_eq, if_neg on, hs, h0C, if_neg (by decide), if_neg (by decide), if_neg (Nat.not_le.mpr few)]
  · refine exec_parked c o r s _ hc hu h4 ?_ (parked_complete _ _ _ _)
    rw [accept_eq, if_neg on, hs, h0C, if_neg (by decide), if_neg (by decide), if_pos many]
  · refine exec_parked c o r s _ hc hu h4 ?_ (parked_complete _ _ _ _)
    rw [accept_eq, if_neg on, hs, h0C, if_neg (by decide), if_pos rfl]

/-! ### What a query leaves of the slots (R97) -/

/-- The operation changes no slot but that of its request. -/
def OpInfo.OwnSlot (o : OpInfo) : Prop := ∀ e t n, n ≠ e.req.slot → slotOf n (o.run e t).1 = slotOf n t

/-- An operation that only answers leaves the state as it is. -/
theorem OpInfo.ownSlot_of_answer (o : OpInfo) (h : ∀ e t, (o.run e t).1 = t) : o.OwnSlot := fun e t n _ =>
  congrArg (slotOf n) (h e t)

@[simp] theorem modEntry_slotOf (e : Entry) (f : Entry → Entry) (n : Nat) (s : State) : slotOf n (modEntry e f s) = slotOf n s := rfl

@[simp] theorem freeWords_slotOf (k n : Nat) (s : State) : slotOf n (freeWords k s).2 = slotOf n s := by
  induction k generalizing s with
  | zero => rfl
  | succ k ih => exact ih _

@[simp] theorem freeBytes_slotOf (k n : Nat) (s : State) : slotOf n (freeBytes k s).2 = slotOf n s := rfl

@[simp] theorem countLoad_slotOf (k : Nat) (x : Except Status (List Byte)) (n : Nat) (s : State) :
    slotOf n (countLoad k x s) = slotOf n s := by
  unfold countLoad
  split <;> rfl

@[simp] theorem countParent_slotOf (p : Nat) (x : Except Status (List Byte × Nat × Nat)) (n : Nat) (s : State) :
    slotOf n (countParent p x s) = slotOf n s := by
  cases x with
  | error st => exact countLoad_slotOf p _ n s
  | ok y =>
    show slotOf n (bump _ (if p = 64 then _ else _)) = _
    rw [bump_slotOf]
    split
    · rfl
    · exact countLoad_slotOf p _ n s

theorem setSession_slotOf (m n : Nat) (x : Option Session) (e : Entry) (s : State) (h : n ≠ m) :
    slotOf n (setSession m x e s) = slotOf n s :=
  (modFlight_slotOf n _ _).trans (slotOf_modSlot_other m n _ s h)

theorem openPlain_slotOf (e : Entry) (n : Nat) (s : State) (h : n ≠ e.req.slot) : slotOf n (openPlain e s).1 = slotOf n s := by
  unfold openPlain
  split
  · rfl
  · exact (modEntry_slotOf e _ n _).trans ((setSession_slotOf _ n none e _ h).trans (freeBytes_slotOf 16 n s))

theorem openSession_slotOf (e : Entry) (p n : Nat) (s : State) (h : n ≠ e.req.slot) :
    slotOf n (openSession e p s).1 = slotOf n s := by
  unfold openSession
  dsimp only
  split
  · exact countParent_slotOf p _ n s
  · exact (setSession_slotOf _ n _ e _ h).trans ((freeBytes_slotOf 16 n _).trans (countParent_slotOf p _ n s))

theorem sessionOpen_ownSlot : infoSessionOpen.OwnSlot := by
  intro e t n h
  show slotOf n (if e.req.object == 0xFFFFFFFF then openPlain e t else openSession e (obj e.req) t).1 = _
  split
  · exact openPlain_slotOf e n t h
  · exact openSession_slotOf e _ n t h

theorem shaOp_slotOf (m step : Nat) (data : List Byte) (n : Nat) (s : State) (h : n ≠ m) :
    slotOf n (shaOp m step data s).1 = slotOf n s := by
  unfold shaOp
  dsimp only
  split
  · rfl
  all_goals exact slotOf_modSlot_other m n _ s h

theorem keylessOp_slotOf (r : Req) (n : Nat) (s : State) (h : n ≠ r.slot) : slotOf n (keylessOp r s).1 = slotOf n s := by
  unfold keylessOp
  dsimp only
  split
  · exact shaOp_slotOf _ _ _ n s h
  · rfl
  · split <;> rfl

theorem cryptoOp_slotOf (r : Req) (n : Nat) (s : State) (h : n ≠ r.slot) : slotOf n (cryptoOp r s).1 = slotOf n s := by
  unfold cryptoOp
  dsimp only
  split
  · rfl
  · split
    · have keyless := keylessOp_slotOf r n s h
      split <;> exact keyless
    · split
      · exact countLoad_slotOf _ _ n s
      · exact (bump_slotOf _ n _).trans (countLoad_slotOf _ _ n s)

theorem cryptoOp_ownSlot : infoCryptoOp.OwnSlot := fun e t n h => cryptoOp_slotOf e.req n t h

theorem getInfo_ownSlot : infoGetInfo.OwnSlot := fun _ _ n _ => freeWords_slotOf _ n _

theorem subscribe_ownSlot : infoSubscribe.OwnSlot := fun e t n h => slotOf_modSlot_other e.req.slot n _ t h

theorem snapAccept_slotOf (e : Entry) (n : Nat) (s : State) : slotOf n (snapAccept e s) = slotOf n s := by
  unfold snapAccept
  dsimp only
  repeat' split
  all_goals rfl

theorem snapTake_ownSlot : infoSnapTake.OwnSlot := by
  intro e t n _
  show slotOf n (snapTake e t).1 = _
  unfold snapTake
  dsimp only
  split
  · split
    · rfl
    · show slotOf n (modSet _ _ (if _ then _ else t)) = _
      split <;> rfl
  · rfl
  · rfl

theorem snapRead_ownSlot : infoSnapRead.OwnSlot := by
  intro e t n _
  show slotOf n (snapRead e.req t).1 = _
  unfold snapRead
  dsimp only
  split
  · rfl
  · split
    · rfl
    · split
      · exact freeWords_slotOf _ n t
      · rfl

theorem snapRelease_ownSlot : infoSnapRelease.OwnSlot := by
  intro e t n _
  show slotOf n (snapRelease _ t).1 = _
  unfold snapRelease
  split <;> rfl

theorem counterRead_ownSlot : infoCounterRead.OwnSlot := OpInfo.ownSlot_of_answer _ fun e t => by
  show (counterRead e.req t).1 = t
  unfold counterRead
  split <;> rfl

theorem cfgRead_ownSlot : infoCfgRead.OwnSlot := OpInfo.ownSlot_of_answer _ fun e t => by
  simp only [infoCfgRead]
  split <;> rfl

theorem loadGet_ownSlot : infoLoadGet.OwnSlot := OpInfo.ownSlot_of_answer _ fun e t => by
  simp only [infoLoadGet]
  split <;> rfl

theorem loadSense_ownSlot : infoLoadSense.OwnSlot := OpInfo.ownSlot_of_answer _ fun e t => by
  simp only [infoLoadSense]
  repeat' split
  all_goals rfl

theorem actStatus_ownSlot : infoActStatus.OwnSlot := OpInfo.ownSlot_of_answer _ fun e t => by
  simp only [infoActStatus]
  repeat' split
  all_goals rfl

theorem derateGet_ownSlot : infoDerateGet.OwnSlot := OpInfo.ownSlot_of_answer _ fun e t => by
  simp only [infoDerateGet]
  repeat' split
  all_goals rfl

theorem keyInfo_ownSlot : infoKeyInfo.OwnSlot := OpInfo.ownSlot_of_answer _ fun e t => by
  simp only [infoKeyInfo]
  repeat' split
  all_goals rfl

theorem loomPlacementGet_ownSlot : infoLoomPlacementGet.OwnSlot := OpInfo.ownSlot_of_answer _ fun e t => by
  simp only [infoLoomPlacementGet]
  split <;> rfl

/-- The queries and sessions change no slot but that of their request, at their acceptance and past their commit point. -/
theorem ownSlot_queryOrSession (c : Instr) (o : OpInfo) (r : Req) (hq : queryOrSession c = true) (h : hostRow c = some (o, r)) :
    o.OwnSlot ∧ ∀ e t n, slotOf n (o.onAccept e t) = slotOf n t := by
  cases c <;> simp only [queryOrSession, Bool.false_eq_true] at hq <;>
    (simp only [hostRow, Option.some.injEq, Prod.mk.injEq] at h; obtain ⟨rfl, rfl⟩ := h)
  case getInfo => exact ⟨getInfo_ownSlot, fun _ _ _ => rfl⟩
  case sessionOpen => exact ⟨sessionOpen_ownSlot, fun _ _ _ => rfl⟩
  case subscribe => exact ⟨subscribe_ownSlot, fun _ _ _ => rfl⟩
  case snapTake => exact ⟨snapTake_ownSlot, fun e t n => snapAccept_slotOf e n t⟩
  case snapRead => exact ⟨snapRead_ownSlot, fun _ _ _ => rfl⟩
  case snapRelease => exact ⟨snapRelease_ownSlot, fun _ _ _ => rfl⟩
  case counterRead => exact ⟨counterRead_ownSlot, fun _ _ _ => rfl⟩
  case cfgRead => exact ⟨cfgRead_ownSlot, fun _ _ _ => rfl⟩
  case loadGet => exact ⟨loadGet_ownSlot, fun _ _ _ => rfl⟩
  case loadSense => exact ⟨loadSense_ownSlot, fun _ _ _ => rfl⟩
  case actStatus => exact ⟨actStatus_ownSlot, fun _ _ _ => rfl⟩
  case derateGet => exact ⟨derateGet_ownSlot, fun _ _ _ => rfl⟩
  case keyInfo => exact ⟨keyInfo_ownSlot, fun _ _ _ => rfl⟩
  case loomPlacementGet => exact ⟨loomPlacementGet_ownSlot, fun _ _ _ => rfl⟩
  case encrypt | decrypt | macGen | macVer | sha256 | ecdsaVerify | random => exact ⟨cryptoOp_ownSlot, fun _ _ _ => rfl⟩
  all_goals exact ⟨fun _ _ _ _ => rfl, fun _ _ _ => rfl⟩

theorem slotOf_aside (n m : Nat) (h : m ≠ n) : Aside n (slotOf m) where
  toOutside := slotOf_outside n m h
  modFlight f s := modFlight_slotOf m f s

/-- Settles O45: the frame of the host side, and each operation keeps to the slot of its request. -/
theorem queriesChangeHostSideOnly : Obligations.QueriesChangeHostSideOnly := by
  unfold Obligations.QueriesChangeHostSideOnly
  refine ⟨fun c s t hc ran => ?_, fun c o r s t n hq hc ran hn => ?_⟩
  · have same := exec_besides_hostSide c s hc
    rwa [after_eq ran] at same
  · obtain ⟨own, accepts⟩ := ownSlot_queryOrSession c o r hq hc
    rw [exec_hostRow c o r s hc, Host.Outcome.next.injEq] at ran
    rw [← ran]
    refine (slotOf_aside r.slot n hn).command o s (admits_hostRow c o r hc) (fun e t _ => accepts e t n) fun e t he => own e t n ?_
    rwa [he]

/-! ### What a load command leaves of the skeins (R143, R146, R147, R182, R183) -/

theorem skL_modSkL_other (k j : Nat) (f : SkeinL → SkeinL) (s : State) (h : j ≠ k) : skL j (modSkL k f s) = skL j s := by
  simp [skL, modSkL, modLoom, Ne.symm h]

theorem skL_aside (n j : Nat) : Aside n (skL j) where
  time _ _ := rfl
  bump _ _ := rfl
  pushOut p f s := by unfold pushOut; split <;> rfl
  modSlot _ _ := rfl
  modFlight _ _ := rfl

@[simp] theorem pushMirror_skL (m : MirrorMsg) (j : Nat) (s : State) : skL j (pushMirror m s) = skL j s := rfl

@[simp] theorem bump_skL (i j : Nat) (s : State) : skL j (bump i s) = skL j s := rfl

@[simp] theorem refuse_skL (k : Nat) (st : Status) (p : List Word) (j : Nat) (s : State) : skL j (refuse k st p s).1 = skL j s := by
  show skL j (if st == .budgetExceeded then countRefused [k] s else s) = _
  split <;> rfl

theorem loadSet_skL_other (k j : Nat) (w : Word) (s : State) (h : j ≠ k) : skL j (loadSet k w s).1 = skL j s := by
  unfold loadSet
  dsimp only
  repeat' split
  all_goals simp [keepDuty, commandSp, skL_modSkL_other _ _ _ _ h]

theorem bridgeSet_skL_other (k j : Nat) (w0 w1 : Word) (s : State) (h : j ≠ k) : skL j (bridgeSet k w0 w1 s).1 = skL j s := by
  unfold bridgeSet
  dsimp only
  repeat' split
  all_goals simp [commandSp, skL_modSkL_other _ _ _ _ h]

theorem skeinDefine_skL_other (k j : Nat) (d : SkeinDef) (s : State) (h : j ≠ k) : skL j (skeinDefine k d s).1 = skL j s := by
  unfold skeinDefine
  dsimp only
  repeat' split
  all_goals simp [countRefused, skL_modSkL_other _ _ _ _ h]

theorem rotateCfg_skL_other (k j : Nat) (w : Word) (s : State) (h : j ≠ k) : skL j (rotateCfg k w s).1 = skL j s := by
  unfold rotateCfg
  dsimp only
  split
  · rfl
  · exact skL_modSkL_other k j _ s h

theorem loomPin_skL_other (k j : Nat) (w : Word) (s : State) (h : j ≠ k) : skL j (loomPin k w s).1 = skL j s := by
  unfold loomPin
  dsimp only
  split
  · rfl
  · split
    · rfl
    · exact skL_modSkL_other k j _ s h

/-- A host command whose operation keeps to the skein of its OBJECT. -/
theorem command_skL_other (c : Instr) (o : OpInfo) (r : Req) (s t : State) (j : Nat) (hc : hostRow c = some (o, r))
    (onAccept : o.onAccept = fun _ s => s) (run : ∀ e u, j ≠ skeinOf e.req → skL j (o.run e u).1 = skL j u)
    (ran : exec c s = .next t) (hj : j ≠ skeinOf r) : skL j t = skL j s := by
  rw [exec_hostRow c o r s hc, Host.Outcome.next.injEq] at ran
  rw [← ran]
  exact (skL_aside r.slot j).command o s (admits_hostRow c o r hc) (fun _ _ _ => by rw [onAccept])
    fun e u he => run e u (by rwa [he])

/-- Settles O47: the frame of the planner, each operation on the skein of its OBJECT alone, and the frame of SHED_LIFT. -/
theorem loadCommandsStayInPlanner : Obligations.LoadCommandsStayInPlanner := by
  unfold Obligations.LoadCommandsStayInPlanner
  refine ⟨fun c s t hc ran => ?_, fun c r s t j row ran hj => ?_, fun s t ran => ?_⟩
  · have same := exec_besides_planner c s hc
    rwa [after_eq ran] at same
  · rcases row with rfl | rfl | rfl | rfl | rfl
    · exact command_skL_other _ infoLoadSet r s t j rfl rfl (fun e u => loadSet_skL_other _ j _ u) ran hj
    · exact command_skL_other _ infoBridgeSet r s t j rfl rfl (fun e u => bridgeSet_skL_other _ j _ _ u) ran hj
    · exact command_skL_other _ infoSkeinDefine r s t j rfl rfl (fun e u => skeinDefine_skL_other _ j _ u) ran hj
    · exact command_skL_other _ infoLoomRotateCfg r s t j rfl rfl (fun e u => rotateCfg_skL_other _ j _ u) ran hj
    · exact command_skL_other _ infoLoomPin r s t j rfl rfl (fun e u => loomPin_skL_other _ j _ u) ran hj
  · have same := execShedLift_besides (parts := shedding) (List.Subset.refl _) s
    rw [show execShedLift s = exec .shedLift s from rfl, after_eq ran] at same
    exact same

end Sys2Proof.Machine

/-! ## Reports to the fault collector (R444, R450, R454) -/

namespace Sys2Proof.Machine

/-- The number of a source names one of the 18 words of sticky bits, and its class is one of five (R443). -/
theorem srcInfo_bounds {n k d : Nat} (h : srcInfo n = some (k, d)) : n / 32 < 18 ∧ k < 5 := by
  unfold srcInfo at h
  split at h
  case h_88 => cases h
  all_goals
    cases h
    decide

/-- A block has a unit that an L2 reaction resets where it is one of these five (R446). -/
theorem blockReset_isNone (src inst : Nat) (s : State) : (blockReset src inst s).isNone = true ↔ src / 32 ∉ [1, 6, 7, 10, 11] := by
  unfold blockReset
  split <;> simp_all

/-! ### What a reaction leaves of the classes and of the sticky bits -/

/-- The classes and the sticky bits. -/
def State.classes (s : State) : Vector FaultClass 5 × Vector Word 18 := (s.faults.cls, s.faults.sticky)

/-- What changes the host side alone leaves the collector alone. -/
theorem faults_of_hostSide {s t : State} (h : t.besides hostSide = s.besides hostSide) : t.faults = s.faults :=
  (congrArg State.faults h :)

theorem faultEvent_classes (cls : Nat) (w0 w2 : Word) (s : State) : (faultEvent cls w0 w2 s).classes = s.classes := by
  rw [State.classes, faults_of_hostSide (faultEvent_besides (List.Subset.refl _) cls w0 w2 s), State.classes]

theorem blockReset_classes {src inst : Nat} {s t : State} (h : blockReset src inst s = some t) : t.classes = s.classes := by
  unfold blockReset at h
  split at h
  case h_1 =>
    cases h
    cases portOfFault src inst s with
    | none => rfl
    | some p => rw [Option.elim, State.classes, faults_of_hostSide (portReset_besides (List.Subset.refl _) p s), State.classes]
  case h_6 => cases h
  all_goals
    cases h
    rfl

theorem bump_classes (i : Nat) (s : State) : (bump i s).classes = s.classes := rfl

theorem bumpIf_classes (b : Bool) (i : Nat) (s : State) : (if b then bump i s else s).classes = s.classes := by cases b <;> rfl

theorem takeL1_classes (s : State) : (takeL1 s).classes = s.classes := rfl

theorem modFaults_classes (f : FaultSt → FaultSt) (s : State) (h : ((f s.faults).cls, (f s.faults).sticky) = s.classes) :
    (modFaults f s).classes = s.classes := h

theorem takeL3_classes (chip : Bool) (cls : Nat) (w0 w2 : Word) (s : State) : (takeL3 chip cls w0 w2 s).classes = s.classes :=
  (modFaults_classes _ _ rfl).trans (modFaults_classes _ s rfl)

theorem takeL4_classes (s : State) : (takeL4 s).classes = s.classes :=
  (modFaults_classes _ _ rfl).trans ((modFaults_classes _ _ rfl).trans rfl)

theorem react_classes (lvl : Nat) (chip : Bool) (cls : Nat) (fresh : Bool) (w0 w2 : Word) (r : Report) (s : State) :
    (react lvl chip cls fresh w0 w2 r s).classes = s.classes := by
  unfold react
  split
  · cases fresh with
    | false => rfl
    | true => exact faultEvent_classes cls w0 w2 s
  · rw [takeL1_classes, faultEvent_classes]
  · split
    · rename_i reset
      rw [faultEvent_classes]
      split
      · rfl
      · exact blockReset_classes reset
    · rw [takeL1_classes, faultEvent_classes]
  · split
    · rfl
    · exact takeL3_classes chip cls w0 w2 s
  · exact takeL4_classes s

/-! ### A fault that starts -/

/-- The level of a fault before its block is looked at (R439, R448, R450). -/
def soughtLevel (r : Report) (c : FaultClass) (s : State) : Nat :=
  max r.minLevel (min (levelTaken c (reactionOf r.src s).1).1 r.maxLevel)

/-- The level taken: an L2 of a block without a unit is an L1 (R446). -/
def givenLevel (r : Report) (c : FaultClass) (s : State) : Nat :=
  if soughtLevel r c s = 2 ∧ r.src / 32 ∉ [1, 6, 7, 10, 11] then 1 else soughtLevel r c s

/-- W0 of a fault that starts. -/
def givenW0 (r : Report) (k : Nat) (s : State) : Word :=
  faultW0 k (givenLevel r (clsOf k s) s) (levelTaken (clsOf k s) (reactionOf r.src s).1).2 r

/-- A fault that starts changes its own class alone, by capture and escalation (R450, R454). -/
theorem newFault_classes (r : Report) (k : Nat) (fresh : Bool) (s : State) :
    (newFault r k fresh s).classes =
      (modCls k (fun c => capture r (givenW0 r k s) (faultW2 r)
        (classHit s.now (levelTaken (clsOf k s) (reactionOf r.src s).1).2 (givenW0 r k s) (faultW2 r) c)) s).classes := by
  have level : (if soughtLevel r (clsOf k s) s = 2 ∧ (blockReset r.src r.inst s).isNone then 1 else soughtLevel r (clsOf k s) s) =
      givenLevel r (clsOf k s) s := by
    rw [givenLevel]
    simp only [blockReset_isNone]
  rw [givenW0, ← level]
  unfold newFault
  dsimp only
  rw [react_classes, bumpIf_classes, bump_classes]
  rfl

@[simp] theorem capture_active (r : Report) (w0 w2 : Word) (c : FaultClass) : (capture r w0 w2 c).active = c.active := by
  unfold capture
  split <;> rfl

@[simp] theorem capture_lastW0 (r : Report) (w0 w2 : Word) (c : FaultClass) : (capture r w0 w2 c).lastW0 = c.lastW0 := by
  unfold capture
  split <;> rfl

@[simp] theorem capture_lastW2 (r : Report) (w0 w2 : Word) (c : FaultClass) : (capture r w0 w2 c).lastW2 = c.lastW2 := by
  unfold capture
  split <;> rfl

/-- The state as the report has been counted, its sticky bit set, and the time of its source's first report noted (R444, R454). -/
def noted (r : Report) (s : State) : State :=
  modFaults (fun f => { f with first := f.first.set r.src (s.now + 1) })
    (modFaults (fun f => { f with sticky := upd f.sticky (r.src / 32) (fun w => w ||| word (1 <<< (r.src % 32))) })
      (bump (ctr 0x0F r.src) s))

/-- A report of a source is taken together with its first one, or starts a fault (R444). -/
theorem report_eq (r : Report) (s : State) {k d : Nat} (h : srcInfo r.src = some (k, d)) :
    report r s =
      if s.faults.first.get r.src != 0 && s.now + 1 - s.faults.first.get r.src ≤ 400 then
        modFaults (fun f => { f with sticky := upd f.sticky (r.src / 32) (fun w => w ||| word (1 <<< (r.src % 32))) })
          (bump (ctr 0x0F r.src) s)
      else newFault r k (!(nth s.faults.sticky (r.src / 32)).getLsbD (r.src % 32)) (noted r s) := by
  simp only [report, h]
  rfl

theorem getLsbD_or_bit (w : Word) {i : Nat} (h : i < 32) : (w ||| word (1 <<< i)).getLsbD i = true := by
  simp [BitVec.getLsbD_or, word, BitVec.getLsbD_ofNat, h, Nat.testBit_shiftLeft, -BitVec.getLsbD_eq_getElem]

/-- A report sets its sticky bit. -/
theorem report_sticky (r : Report) (s : State) {k d : Nat} (h : srcInfo r.src = some (k, d)) :
    (nth (report r s).faults.sticky (r.src / 32)).getLsbD (r.src % 32) = true := by
  have set : (report r s).faults.sticky = upd s.faults.sticky (r.src / 32) (fun w => w ||| word (1 <<< (r.src % 32))) := by
    rw [report_eq r s h]
    split
    · rfl
    · exact congrArg Prod.snd (newFault_classes r k _ _)
  rw [set, nth_upd_same _ _ _ (srcInfo_bounds h).1, getLsbD_or_bit _ (Nat.mod_lt _ (by decide))]

/-- A report that starts a fault changes its class alone. -/
theorem report_cls (r : Report) (s : State) {k d : Nat} (h : srcInfo r.src = some (k, d))
    (starts : s.faults.first.get r.src = 0 ∨ 400 < s.now + 1 - s.faults.first.get r.src) :
    (report r s).faults.cls = upd s.faults.cls k (fun c => capture r (givenW0 r k s) (faultW2 r)
      (classHit s.now (levelTaken (clsOf k s) (reactionOf r.src s).1).2 (givenW0 r k s) (faultW2 r) c)) := by
  have apart : (s.faults.first.get r.src != 0 && s.now + 1 - s.faults.first.get r.src ≤ 400) = false := by
    rcases starts with zero | late
    · simp [zero]
    · simp [Nat.not_le.mpr late]
  rw [report_eq r s h, apart]
  exact congrArg Prod.fst (newFault_classes r k _ (noted r s))

/-- Settles O60: a report that starts a fault puts its class through classHit and capture, and reactions reach no class. -/
theorem reportsCaptureAndEscalate : Obligations.ReportsCaptureAndEscalate := by
  unfold Obligations.ReportsCaptureAndEscalate
  intro r s k d h
  dsimp only
  have taken : levelTaken (clsOf k s) (reactionOf r.src s).1 =
      (if (clsOf k s).active && bit 16 (clsOf k s).cfg then min 4 ((reactionOf r.src s).1 + 1) else (reactionOf r.src s).1,
        (clsOf k s).active && bit 16 (clsOf k s).cfg) := by
    unfold levelTaken
    split
    · rename_i on
      rw [on]
    · rename_i off
      rw [Bool.not_eq_true] at off
      rw [off]
  refine ⟨report_sticky r s h, fun hf near => ?_, fun starts => ?_⟩
  · have same : (s.faults.first.get r.src != 0 && s.now + 1 - s.faults.first.get r.src ≤ 400) = true := by simp [hf, near]
    rw [report_eq r s h, same]
    rfl
  · have cls := report_cls r s h starts
    have own : clsOf k (report r s) = capture r (givenW0 r k s) (faultW2 r)
        (classHit s.now (levelTaken (clsOf k s) (reactionOf r.src s).1).2 (givenW0 r k s) (faultW2 r) (clsOf k s)) := by
      rw [clsOf, cls, nth_upd_same _ _ _ (srcInfo_bounds h).2]
      rfl
    rw [own]
    simp only [givenW0, givenLevel, soughtLevel, taken]
    refine ⟨?_, ?_, ?_, fun j hj => ?_, fun empty => ?_, fun full => ?_⟩
    · rw [capture_active]
      rfl
    · rw [capture_lastW0]
      rfl
    · rw [capture_lastW2]
      rfl
    · simp only [clsOf, cls]
      exact nth_upd_other _ _ _ _ (Ne.symm hj)
    · simp [capture, classHit, empty]
    · simp [capture, classHit, full]

end Sys2Proof.Machine

/-! ## Host commands that are carried out as they arrive (R81) -/

namespace Sys2Proof.Machine

/-! ### One lemma per outcome of an operation -/

section
variable {c : Instr} {o : OpInfo} {r : Req} {s : State}

/-- A ready command brings the outcome of its operation to its entry. -/
theorem exec_ready (hc : hostRow c = some (o, r)) (h : ready o r s = true) (ha : o.onAccept = fun _ s => s) {t : State} {a : Ans}
    (run : o.run (takenEntry o r s) (atRun o r s) = (t, a)) : exec c s = .next (settle (entryFor o r s) a t) := by
  rw [exec_hostRow c o r s hc, command_ready o r s h (by rw [ha]), run]

/-- A ready command whose operation is done completes with DONE. -/
theorem exec_done (hc : hostRow c = some (o, r)) (h : ready o r s = true) (ha : o.onAccept = fun _ s => s) {t : State} {p : List Word}
    (run : o.run (takenEntry o r s) (atRun o r s) = (t, .done p)) : exec c s = .next (doneWith o r s p t) :=
  exec_ready hc h ha run

/-- A ready command whose operation is under way waits for its report. -/
theorem exec_waits (hc : hostRow c = some (o, r)) (h : ready o r s = true) (ha : o.onAccept = fun _ s => s) {t : State} {w : Await}
    {q : Bool} {d : List Word} (run : o.run (takenEntry o r s) (atRun o r s) = (t, .wait w q d)) :
    exec c s = .next (waitsWith o r s w q d t) :=
  exec_ready hc h ha run

/-- Acceptance reaches nothing besides the host side. -/
theorem atRun_besidesHost (ha : o.onAccept = fun _ s => s) : (atRun o r s).besidesHost = s.besidesHost := by
  have aside := besidesHost_aside r.slot
  rw [atRun, ha]
  exact (aside.modEntry _ _ _).trans ((aside.modFlight _ _).trans (aside.arrived s))

end

/-! ### Registers written (R100) -/

section
variable {a : Nat} {v : Word} {r : Req} {s : State}

/-- A register write that is done. -/
theorem regWrite_done (ha : a < 2 ^ 32) (h : ready infoWriteReg (regReq a v r) s = true) {t : State} {p : List Word}
    (wrote : writeReg (entryFor infoWriteReg (regReq a v r) s).authed false a v (atRun infoWriteReg (regReq a v r) s) = (t, .done p)) :
    regWrite a v r s = doneWith infoWriteReg (regReq a v r) s p t := by
  rw [regWrite_ready a v r s ha h, wrote]
  rfl

/-- A register write that waits for a report. -/
theorem regWrite_waits (ha : a < 2 ^ 32) (h : ready infoWriteReg (regReq a v r) s = true) {t : State} {w : Await} {q : Bool} {d : List Word}
    (wrote : writeReg (entryFor infoWriteReg (regReq a v r) s).authed false a v (atRun infoWriteReg (regReq a v r) s) = (t, .wait w q d)) :
    regWrite a v r s = waitsWith infoWriteReg (regReq a v r) s w q d t := by
  rw [regWrite_ready a v r s ha h, wrote]
  rfl

end

/-! ### The interpreter's own opcodes (R85, R90 to R97) -/

/-- SESSION_OPEN without a parent, with a random source that works. -/
theorem openPlain_done (e : Entry) (s : State) (h : s.keys.trngFail = false) :
    openPlain e s = (modEntry e (fun y => { y with key := none }) (setSession e.req.slot none e (freeBytes 16 s).2),
      .done (bytesToWords 6 ((freeBytes 16 s).1 ++ List.replicate 8 0))) := by
  simp only [openPlain, h, Bool.false_eq_true, if_false]

/-- An OBJECT up to 64 names a parent. -/
theorem object_ne_none (r : Req) (h : obj r ≤ 64) : (r.object == 0xFFFFFFFF) = false := by
  refine beq_eq_false_iff_ne.mpr fun none => ?_
  have big : obj r = 0xFFFFFFFF := congrArg BitVec.toNat none
  omega

/-- SESSION_OPEN on a parent that passes its checks. -/
theorem sessionOpen_run (e : Entry) (s : State) (key : List Byte) (rights gen : Nat) (h : obj e.req ≤ 64)
    (parent : sessionParent (obj e.req) s = .ok (key, rights, gen)) :
    infoSessionOpen.run e s = openSession e (obj e.req) s ∧
      openSession e (obj e.req) s =
        let host := wordsToBytes e.req.payload
        let nonce := freeBytes 16 (countParent (obj e.req) (.ok (key, rights, gen)) s)
        let sk := kdf key (ascii "EODEN-SESS") (host ++ nonce.1 ++ bytesLE 1 e.req.slot) 16
        let x : Session := { key := BitVec.ofNat 128 (natBE sk), parent := obj e.req, rights := rights, gen := gen, nonce := nonce.1 }
        (setSession e.req.slot (some x) e nonce.2, .done (bytesToWords 6 (nonce.1 ++ (cmac sk (ascii "EODEN-DEV" ++ host)).take 8))) := by
  refine ⟨?_, ?_⟩
  · simp only [infoSessionOpen, object_ne_none e.req h, Bool.false_eq_true, if_false]
  · simp only [openSession, parent]

/-- FUNC_ENABLE in its three cases (R85). -/
theorem funcEnable_on (r : Req) (s : State) (on : bit 0 (arg r 0) = true) (off : groupOff (fld 7 0 r.object) s = true) :
    funcEnable r s = (enableGroup (fld 7 0 r.object)
      (modHost (fun h => { h with disabled := h.disabled &&& (0xFFFF ^^^ (1 <<< fld 7 0 r.object)) }) s), .done []) := by
  simp [funcEnable, on, off]

theorem funcEnable_off (r : Req) (s : State) (off : bit 0 (arg r 0) = false) (on : groupOff (fld 7 0 r.object) s = false) :
    funcEnable r s = (modHost (fun h => { h with disabled := h.disabled ||| (1 <<< fld 7 0 r.object) })
      (disableGroup (fld 7 0 r.object) (abortGroup (fld 7 0 r.object) s)), .done []) := by
  simp [funcEnable, on, off]

theorem funcEnable_same (r : Req) (s : State) (same : bit 0 (arg r 0) = !groupOff (fld 7 0 r.object) s) :
    funcEnable r s = (s, .done []) := by
  simp [funcEnable, same]

/-- Settles O1: each opcode by what its operation answers. -/
theorem interpreterCommandsComplete : Obligations.InterpreterCommandsComplete := by
  unfold Obligations.InterpreterCommandsComplete
  refine ⟨fun r s h => ?_, fun r s h => ?_, fun r s h => ?_, fun r s h => ?_, fun r s h => ?_, fun r s h none works => ?_,
    fun r s key rights gen h parent found => ?_, fun r s h => ⟨fun on off => ?_, fun off on => ?_, fun same => ?_⟩⟩
  · exact exec_done rfl h rfl rfl
  · exact exec_done rfl h rfl rfl
  · exact exec_done rfl h rfl rfl
  · exact exec_done rfl h rfl rfl
  · exact exec_waits rfl h rfl rfl
  · have same := congrArg State.keys (atRun_besidesHost (o := infoSessionOpen) (r := r) (s := s) rfl)
    have working : (atRun infoSessionOpen r s).keys.trngFail = false := (congrArg KeySt.trngFail same).trans works
    refine exec_done rfl h rfl ?_
    have row : infoSessionOpen.run (takenEntry infoSessionOpen r s) (atRun infoSessionOpen r s) =
        openPlain (takenEntry infoSessionOpen r s) (atRun infoSessionOpen r s) := by
      simp only [infoSessionOpen, takenEntry_req, none, beq_self_eq_true, if_true]
    rw [row, openPlain_done _ _ working]
    rfl
  · obtain ⟨row, opened⟩ := sessionOpen_run (takenEntry infoSessionOpen r s) _ key rights gen parent found
    exact exec_done rfl h rfl (row.trans opened)
  · exact exec_done rfl h rfl (funcEnable_on r _ on off)
  · exact exec_done rfl h rfl (funcEnable_off r _ off on)
  · exact exec_done rfl h rfl (funcEnable_same r _ same)

/-! ### Register access and the register rows of the power side -/

theorem readBlock_run (e : Entry) (s : State) (h : blockOk (obj e.req) (arg e.req 0).toNat = true) :
    infoReadBlock.run e s =
      ((readBlock (arg e.req 0).toNat (obj e.req) s).2, .done (readBlock (arg e.req 0).toNat (obj e.req) s).1) := by
  simp only [infoReadBlock, h, Bool.not_true, Bool.false_eq_true, if_false]

/-- WRITE_BLOCK whose words are all taken (R103). -/
theorem writeBlock_taken (authed : Bool) (a : Nat) (ws : List Word) (s : State) (h : blockOk a ws.length = true)
    (coli : a / 0x10000 = 7 → coliBlockOk (a % 0x10000) ws s = true)
    (taken : (writeWords ws.length authed true a ws {} s).2.bad = none) :
    writeBlock authed a ws s = ((writeWords ws.length authed true a ws {} s).1,
      .waits (writeWords ws.length authed true a ws {} s).2.awaits []) := by
  have sums : ¬ (a / 0x10000 = 7 ∧ (!coliBlockOk (a % 0x10000) ws s) = true) := fun ⟨light, no⟩ => by
    rw [coli light] at no
    cases no
  simp only [writeBlock, h, sums, taken, Bool.not_true, Bool.false_eq_true, if_false]

/-- SKEIN_CTLk of a host-owned skein is a LOAD_SET (R144). -/
theorem writeSkeinCtl_takes (k : Nat) (v : Word) (s : State) (ht : loadTakes k v s = true) (owner : (defL k s).owner = 0)
    (on : groupOff 0x02 s = false) : writeSkeinCtl k v s = loadSet k v s := by
  simp only [loadTakes, Bool.and_eq_true, Bool.not_eq_true'] at ht
  obtain ⟨⟨⟨⟨defined, noLeg⟩, -⟩, -⟩, -⟩ := ht
  simp [writeSkeinCtl, defined, noLeg, owner, on]

theorem asOpcode_on (f : State → State × Ans) (s : State) (on : groupOff 0x0D s = false) : asOpcode f s = f s := by
  simp [asOpcode, on]

/-- HOLD as it stands, or out of its range, changes nothing (R243). -/
theorem writeHold_same (ms : Nat) (s : State) (h : word ms = holdComing s ∨ 1000 < ms) : writeHold ms s = (s, .done []) := by
  unfold writeHold
  rw [if_pos h.symm]

/-- Another HOLD goes to the P-die and into the fail-safe memory (R243). -/
theorem writeHold_new (ms : Nat) (s : State) (small : ms ≤ 1000) (new : word ms ≠ holdComing s) (live : linkLive s = true) :
    writeHold ms s = (nvStarts 48 (pushCfg (.hold ms) s).2, .wait (.echo (pushCfg (.hold ms) s).1) false []) := by
  have kept : ¬ (1000 < ms ∨ word ms = holdComing s) := by
    rintro (big | same)
    · omega
    · exact new same
  simp [writeHold, kept, live]

/-- RETRAIN beside HOLD as it stands. -/
theorem writeWeft_retrain (v : Word) (s : State) (h : word (fld 25 16 v) = holdComing s ∨ 1000 < fld 25 16 v) :
    writeWeft 0 (v ||| 1) s = (retrain s, .done []) := by
  have set : bit 0 (v ||| 1) = true := by simp [bit]
  simp only [writeWeft, hold_retrain, writeHold_same _ s h, set, if_true, Bool.false_eq_true, if_false]

/-- HOLD without RETRAIN. -/
theorem writeWeft_hold (n : Nat) (s : State) (h : n < 1024) : writeWeft 0 (pack [(16, n)]) s = writeHold n s := by
  simp [writeWeft, hold_alone n h, hold_no_retrain n]

/-- Settles O2: the register access commands by their operations, the rows by the block that takes their address. -/
theorem registerCommandsAndLoadRowsComplete : Obligations.RegisterCommandsAndLoadRowsComplete := by
  unfold Obligations.RegisterCommandsAndLoadRowsComplete
  refine ⟨fun r s h => ?_, fun r s h => ?_, fun r s h trial => ?_, fun r s h => ?_, fun r s h inBlock => ?_,
    fun r s h inBlock coli => ?_, fun k v r s hk => ?_, fun k v r s hk => ?_, fun k v r s hk => ?_, fun v r s => ?_,
    fun hold r s => ?_⟩
  · exact exec_done rfl h rfl rfl
  · exact exec_ready rfl h rfl rfl
  · refine exec_done rfl h rfl ?_
    show writeReg _ false (obj r) (arg r 0) _ = _
    rw [trial]
    rfl
  · exact exec_ready rfl h rfl rfl
  · exact exec_done rfl h rfl (readBlock_run _ _ inBlock)
  · intro w good
    exact exec_ready rfl h rfl (writeBlock_taken _ _ _ _ inBlock coli good)
  · intro r' a h takes owner on here check live together
    refine congrArg Host.Outcome.next ((if_pos hk).trans (regWrite_waits (by omega) h ?_))
    rw [writeReg_skeinCtl _ _ k v _ hk, writeSkeinCtl_takes k v a takes owner on, loadSet_here k v a takes here check live together]
  · intro r' a h defined on interval
    refine congrArg Host.Outcome.next ((if_pos hk).trans (regWrite_done (by omega) h ?_))
    exact (writeReg_loomCfg _ _ k v a hk).trans ((asOpcode_on _ a on).trans (rotateCfg_takes k v a defined interval))
  · intro r' a h takes on
    have here : 0x31000 + 0x10 * k + 4 * b2n true = 0x31004 + 0x10 * k := by simp [b2n]; omega
    have wrote := (writeReg_loomPin (entryFor infoWriteReg r' s).authed false k v a hk).trans
      ((asOpcode_on _ a on).trans (loomPin_takes k v a takes))
    rw [here] at wrote
    refine congrArg Host.Outcome.next ((if_pos hk).trans ?_)
    rw [here]
    exact regWrite_done (by omega) h wrote
  · intro r' a h same
    exact congrArg Host.Outcome.next (regWrite_done (by decide) h (writeWeft_retrain v a same))
  · intro r' a h small new live q
    have fits : hold % 1024 = hold := Nat.mod_eq_of_lt (by omega)
    have wrote := (writeWeft_hold hold a (by omega)).trans (writeHold_new hold a small new live)
    show Host.Outcome.next (regWrite 0x90000 (pack [(16, hold % 1024)]) r s) = _
    rw [fits]
    exact congrArg Host.Outcome.next (regWrite_waits (by decide) h wrote)

/-! ### Load control (R143 to R147) -/

/-- BRIDGE_SET of a pair that takes it (R147). -/
theorem bridgeSet_takes (k : Nat) (w0 w1 : Word) (p : SetPoint) (s : State)
    (hp : p = { duty := fld 16 0 w1, hiz := (skL k s).sp.hiz, bstate := fld 2 0 w0, decay := bit 8 w0 })
    (paired : pairedL k s = true) (leads : leaderL k s = k) (state : p.bstate ≤ 4) (duty : dutyOk (defL k s) p.duty = true)
    (check : setPointCheck k p s = none) (live : linkLive s = true) :
    bridgeSet k w0 w1 s = (commandSp k p s, .wait (.inForce k) false []) := by
  subst hp
  have fits : ¬ 4 < fld 2 0 w0 := Nat.not_lt.mpr state
  have good : (!pairedL k s || leaderL k s != k || decide (4 < fld 2 0 w0) || !dutyOk (defL k s) (fld 16 0 w1)) = false := by
    simp [paired, leads, fits, duty]
  simp only [bridgeSet, good, check, live, Bool.false_eq_true, if_false, if_true]

/-- SKEIN_DEFINE that deletes a skein, or finds none (R146). -/
theorem skeinDefine_deletes (k : Nat) (d : SkeinDef) (s : State) (off : offForDefine k s = true) (live : linkLive s = true)
    (none : d.count = 0) (defined : (defL k s).defined = true) :
    skeinDefine k d s = (modSkL k (fun x => { x with define := some { defn := {} } }) s, .wait (.pass 0 k) true []) := by
  simp [skeinDefine, off, live, none, defined]

theorem skeinDefine_nothing (k : Nat) (d : SkeinDef) (s : State) (off : offForDefine k s = true) (live : linkLive s = true)
    (none : d.count = 0) (undefined : (defL k s).defined = false) : skeinDefine k d s = (s, .wait (.pass 0 k) true []) := by
  simp [skeinDefine, off, live, none, undefined]

/-- SKEIN_DEFINE of a definition that passes its checks (R146). -/
theorem skeinDefine_takes (k : Nat) (d : SkeinDef) (s : State) (off : offForDefine k s = true) (live : linkLive s = true)
    (some' : d.count ≠ 0) (cells : cellsValid k d s = true) (mode : modeValid d = true) (timing : timingValid d = true)
    (current : currentValid d = true) :
    skeinDefine k d s = (modSkL k (fun x => { x with define := some { defn := d } }) s, .wait (.pass 0 k) true []) := by
  simp [skeinDefine, off, live, some', cells, mode, timing, current]

/-- Settles O3: the operations on operands that they take. -/
theorem loadCommandsComplete : Obligations.LoadCommandsComplete := by
  unfold Obligations.LoadCommandsComplete
  refine ⟨fun r s h => ?_, fun r s h => ?_, fun r s h => ?_, fun r s h => ?_⟩
  · intro a k w takes
    refine ⟨fun here check live near => ?_, fun here check live far => ?_, fun j away up => ?_, fun j away down check => ?_⟩
    · exact exec_waits rfl h rfl (loadSet_here k w a takes here check live near)
    · exact exec_done rfl h rfl (loadSet_apart k w a takes here check live far)
    · exact exec_waits rfl h rfl (loadSet_passed k j w a takes away up)
    · exact exec_done rfl h rfl (loadSet_kept k j w a takes away down check)
  · intro a k defined
    exact exec_done rfl h rfl (if_pos defined)
  · intro a k p paired leads state duty check live
    exact exec_waits rfl h rfl (bridgeSet_takes k _ _ p a rfl paired leads state duty check live)
  · intro a k d off live
    refine ⟨fun none defined => ?_, fun none undefined => ?_, fun some' cells mode timing current => ?_⟩
    · exact exec_waits rfl h rfl (skeinDefine_deletes k d a off live none defined)
    · exact exec_waits rfl h rfl (skeinDefine_nothing k d a off live none undefined)
    · exact exec_waits rfl h rfl (skeinDefine_takes k d a off live some' cells mode timing current)

/-! ### The Loom planner (R181 to R185) -/

/-- LOOM_CHAIN_CFG that deletes an entry in use (R184). -/
theorem chainCfg_deletes (j : Nat) (w g : Word) (s : State) (delete : bit 25 w = true) (used : (chainE j s).state ≠ 0)
    (ours : (chainE j s).state ≠ 3) :
    chainCfg j w g s = (modChain j (fun x => { x with fresh := some (w, g) }) s, .wait (.pass 1 j) true []) := by
  simp [chainCfg, delete, used, ours]

/-- LOOM_CHAIN_CFG of a free entry for a skein that it may name (R184). -/
theorem chainCfg_takes (j : Nat) (w g : Word) (s : State) (keep : bit 25 w = false) (take : bit 26 w = false)
    (free : (chainE j s).state = 0) (other : fld 9 8 w ≠ s.deviceId) (present : (nth s.host.chain.views (fld 9 8 w)).present = true)
    (small : fld 5 0 w < 48) (defined : (defL (fld 5 0 w) s).defined = true) (mode : (defL (fld 5 0 w) s).mode = 1)
    (owner : (defL (fld 5 0 w) s).owner = 0) (noLeg : (defL (fld 5 0 w) s).leg = false) (alone : otherEntry j (fld 5 0 w) s = false)
    (off : offL (fld 5 0 w) s = true) :
    chainCfg j w g s = (modChain j (fun x => { x with fresh := some (w, g) }) s, .wait (.pass 1 j) true []) := by
  have small' : ¬ 48 ≤ fld 5 0 w := Nat.not_le.mpr small
  simp [chainCfg, keep, take, free, other, present, small', defined, mode, owner, noLeg, alone, off]

/-- Settles O4: the operations on operands that they take. -/
theorem loomCommandsComplete : Obligations.LoomCommandsComplete := by
  unfold Obligations.LoomCommandsComplete
  refine ⟨fun r s h => ?_, fun r s h => ?_, fun r s h => ?_, fun r s h => ?_, fun r s h => ?_⟩
  · intro a k defined
    exact exec_done rfl h rfl (if_pos defined)
  · intro a k ri defined interval
    exact exec_done rfl h rfl (rotateCfg_takes k _ a defined interval)
  · intro a k takes
    exact exec_done rfl h rfl (loomPin_takes k _ a takes)
  · intro a j w k pdev
    refine ⟨fun delete used ours => ?_, fun keep take free other present small defined mode owner noLeg alone off => ?_⟩
    · exact exec_waits rfl h rfl (chainCfg_deletes j w _ a delete used ours)
    · exact exec_waits rfl h rfl
        (chainCfg_takes j w _ a keep take free other present small defined mode owner noLeg alone off)
  · exact exec_done rfl h rfl rfl

end Sys2Proof.Machine

/-! ## The steps of the host ports and of the chain (R32, R78, R81, R109 to R112, R411 to R432) -/

namespace Sys2Proof.Machine

/-! ### The interpreter, the output of the ports and QSPI -/

theorem macPort_eq {port : Port} (h : port = .mac0 ∨ port = .mac1) :
    port ≠ .qspi ∧ (port == .plyUp || port == .plyDown) = false := by
  rcases h with rfl | rfl <;> decide

/-- A frame leaves a MAC with the tag of the MAC (R415). -/
theorem execResponseSent_mac (t : Nat) (port : Port) (f : OutFrame) (rest : List OutFrame) (s : State) (up : hostUp s = true)
    (mac : port = .mac0 ∨ port = .mac1) (out : (portOf port s).output = f :: rest) :
    execResponseSent t port s = .next (departed f (modPort port (fun b =>
      { b with output := rest, last := f.bytes, lastPeer := f.peer, lastTag := sentTag port (toL t s) }) (toL t s))) := by
  rcases mac with rfl | rfl <;> simp [execResponseSent, up, out]

/-- A frame leaves a Ply port where the last CREDIT shows room for it (R421). -/
theorem execResponseSent_ply (t p : Nat) (f : OutFrame) (rest : List OutFrame) (s : State) (up : hostUp s = true) (hp : p < 2)
    (out : (portOf (ixPort (3 + p)) s).output = f :: rest) (link : (plyOf p s).state = .up)
    (credit : f.bytes.length ≤ (plyOf p s).credit) :
    execResponseSent t (ixPort (3 + p)) s = .next (departed f
      (let u := modPly p (fun x => { x with credit := x.credit - f.bytes.length }) (modPort (ixPort (3 + p)) (fun b =>
        { b with output := rest, last := plyBytes 1 f.bytes, lastPeer := f.peer, lastTag := none }) (toL t s))
      if f.kind = .forwarded then bump (ctr 0x01 (0x22 + 4 * p)) u else u)) := by
  have room : ¬ (plyOf p s).credit < f.bytes.length := Nat.not_lt.mpr credit
  match p, hp with
  | 0, _ =>
    have head : (portOf .plyUp s).output = f :: rest := out
    simp [execResponseSent, ixPort, portIx, sentTag, up, head, link, room]
  | 1, _ =>
    have head : (portOf .plyDown s).output = f :: rest := out
    simp [execResponseSent, ixPort, portIx, sentTag, up, head, link, room]

/-- Settles O5: each row's conditions leave one branch of it. -/
theorem interpreterAndQspiEventsComplete : Obligations.InterpreterAndQspiEventsComplete := by
  unfold Obligations.InterpreterAndQspiEventsComplete
  refine ⟨fun t port peer frame s up => ⟨fun open' some' => ?_, fun none => ?_⟩, fun t e o s up next info => ?_,
    fun t f rest s up shifting => ?_, fun t port f rest s up mac out => ?_, fun t p f rest s up hp out link credit => ?_,
    fun e s found => ?_, fun n t s next => ?_, fun n t st s next => ?_, fun t len data s up => ?_, fun t s up => ?_, fun t s up => ?_⟩
  · show execEodenRequest t port peer frame s = _
    simp [execEodenRequest, up, open', some']
  · show execEodenRequest t port peer frame s = _
    simp [execEodenRequest, up, none]
  · show execRequestDispatch t s = _
    simp only [execRequestDispatch, up, next, info, Bool.not_true, Bool.false_eq_true, if_false, Option.elim]
  · show execResponseSent t .qspi s = _
    simp [execResponseSent, up, shifting]
  · refine (execResponseSent_mac t port f rest s up mac out).trans ?_
    rcases mac with rfl | rfl <;> rfl
  · exact execResponseSent_ply t p f rest s up hp out link credit
  · show execSnapalignExpired s = _
    simp only [execSnapalignExpired, found]
  · show execSnapshotLatch s = _
    simp only [execSnapshotLatch, next]
  · show execSnapshotLatch s = _
    simp only [execSnapshotLatch, next]
  · intro u
    refine ⟨fun long short room whole => ?_, fun bad => ?_, fun long short room cut => ?_⟩
    · have fits : ¬ (len < 20 ∨ 1052 < len ∨ qspiFree u < len) := by omega
      have whole' : ¬ data.length < len := Nat.not_lt.mpr whole
      show execQspiSend t len data s = _
      simp only [execQspiSend, up, Bool.not_true, Bool.false_eq_true, if_false]
      rw [if_neg fits, if_neg whole']
    · show execQspiSend t len data s = _
      simp only [execQspiSend, up, Bool.not_true, Bool.false_eq_true, if_false]
      rw [if_pos bad]
    · have fits : ¬ (len < 20 ∨ 1052 < len ∨ qspiFree u < len) := by omega
      show execQspiSend t len data s = _
      simp only [execQspiSend, up, Bool.not_true, Bool.false_eq_true, if_false]
      rw [if_neg fits, if_pos cut]
  · show execQspiStatus t s = _
    simp only [execQspiStatus, up, Bool.not_true, Bool.false_eq_true, if_false]
  · intro u
    refine ⟨fun empty => ?_, fun f rest out => ?_⟩
    · show execQspiFetch t s = _
      simp only [execQspiFetch, up, Bool.not_true, Bool.false_eq_true, if_false]
      rw [empty]
    · show execQspiFetch t s = _
      simp only [execQspiFetch, up, Bool.not_true, Bool.false_eq_true, if_false]
      rw [out]

/-! ### Packets of the Ply link (R420) -/

theorem bytesLE_length (n v : Nat) : (bytesLE n v).length = n := by
  induction n generalizing v with
  | zero => rfl
  | succ n ih => simp [bytesLE, ih]

/-- The header of a packet: its type, and the two bytes of its length. -/
theorem plyHeader (ty n : Nat) (hty : ty < 256) :
    bytesLE 4 (ty + 256 * n) = BitVec.ofNat 8 ty :: (bytesLE 2 n ++ [BitVec.ofNat 8 (n / 256 / 256)]) := by
  have low : BitVec.ofNat 8 (ty + 256 * n) = BitVec.ofNat 8 ty := by
    apply BitVec.eq_of_toNat_eq
    simp only [BitVec.toNat_ofNat]
    omega
  have high : (ty + 256 * n) / 256 = n := by omega
  simp only [bytesLE, low, high, List.cons_append, List.nil_append]

/-- A packet that arrives as it was sent is read back. -/
theorem readPly_plyBytes (ty : Nat) (body : List Byte) (hty : ty < 256) (hlen : body.length ≤ 1060) :
    readPly (plyBytes ty body) = some (ty, body) := by
  have head : (bytesLE 4 (ty + 256 * body.length)).length = 4 := bytesLE_length _ _
  have size : natLE (((plyBytes ty body).drop 1).take 2) = body.length := by
    have two : (bytesLE 2 body.length).length = 2 := bytesLE_length _ _
    have taken : ((plyBytes ty body).drop 1).take 2 = bytesLE 2 body.length := by
      simp only [plyBytes, plyHeader ty _ hty, List.cons_append, List.drop_succ_cons, List.drop_zero, List.append_assoc]
      exact List.take_left' two
    rw [taken, natLE_bytesLE]
    omega
  have whole : ∀ h : List Byte, h.length = 4 + body.length → plyBytes ty body = h ++ bytesLE 4 (crc32c h).toNat →
      h.drop 4 = body → (plyBytes ty body).headD 0 = BitVec.ofNat 8 ty → readPly (plyBytes ty body) = some (ty, body) := by
    intro h length packet rest type
    have front : (plyBytes ty body).take (4 + body.length) = h := by rw [packet, List.take_left' length]
    have back : (plyBytes ty body).drop (4 + body.length) = bytesLE 4 (crc32c h).toNat := by rw [packet, List.drop_left' length]
    have long : (plyBytes ty body).length = body.length + 8 := by
      rw [packet, List.length_append, length, bytesLE_length]
      omega
    simp only [readPly, size, front, back, rest, type]
    rw [if_pos ⟨hlen, long, trivial⟩]
    simp [Nat.mod_eq_of_lt hty]
  refine whole (bytesLE 4 (ty + 256 * body.length) ++ body) ?_ rfl ?_ ?_
  · rw [List.length_append, head]
  · exact List.drop_left' head
  · simp only [plyBytes, plyHeader ty _ hty, List.cons_append, List.headD_cons]

/-! ### The events of the MACs, of 802.1AS and of the Ply ports -/

/-- A UDP datagram for the device on a MAC that carries frames (R415, R416). -/
theorem execUdpDatagramRx_ours (t m : Nat) (peer : Peer) (dst dport : Nat) (vlan : Option Nat) (data : List Byte) (s : State)
    (up : hostUp s = true) (mac : macUp m s = true) (ip : dst = (macOf m s).ip.toNat) (port : dport = fld 31 16 (macOf m s).cfg)
    (tag : vlanOk m vlan s = true) :
    execUdpDatagramRx t m peer dst dport vlan true data s = .next
      (if 32768 < inputBytes (ixPort (1 + m)) (toL t s) + data.length then
        bump (ctr 0x01 (0x11 + 4 * m)) (modMac m (fun x => { x with rxDrop := true }) (toL t s))
      else bump (ctr 0x01 (0x10 + 4 * m)) (pushIn (ixPort (1 + m)) peer data (toL t s))) := by
  simp [execUdpDatagramRx, up, mac, ← ip, ← port, tag]

/-- A request for the device's own address is answered (R415). -/
theorem answerMac_ours (t m asked fromAddr : Nat) (s : State) (up : hostUp s = true) (mac : macUp m s = true)
    (ip : asked % 2 ^ 32 = (macOf m s).ip.toNat) (tag : vlanOk m (askedTag asked) s = true) :
    answerMac t m asked fromAddr s =
      modMac m (fun x => { x with replyTo := fromAddr, replies := x.replies + 1, replyTag := sentTag (ixPort (1 + m)) s }) (toL t s) := by
  have ours : ¬ (!hostUp s ∨ !macUp m s ∨ asked % 2 ^ 32 != (macOf m s).ip.toNat ∨ !vlanOk m (askedTag asked) s) := by
    rw [up, mac, ip, tag]
    simp
  rw [answerMac, if_neg ours]

/-- Settles O6: each row's conditions leave one branch of it. -/
theorem portAndPlyEventsComplete : Obligations.PortAndPlyEventsComplete := by
  unfold Obligations.PortAndPlyEventsComplete
  refine ⟨fun t m peer dst dport vlan data s up mac ip port tag => ?_, fun t m asked fromAddr s up mac ip tag => ?_,
    fun t m ns s on first => ?_, fun t t0 m ns s on last later => ?_, fun t s up synced => ?_, fun t m ns s on => ⟨?_, ?_⟩,
    fun t m gm s on => ?_, fun t p latency s runs hp down => ?_, fun t p s runs hp trained => ?_,
    readPly_plyBytes, fun t p crc packet s live up => ?_, fun t p n s live => ?_, fun t p set tick s live hset inner => ?_,
    fun d h s heard runs present awake => ?_⟩
  · intro u
    have ours := execUdpDatagramRx_ours t m peer dst dport vlan data s up mac ip port tag
    exact ⟨fun room => ours.trans (congrArg _ (if_neg (Nat.not_lt.mpr room))), fun full => ours.trans (congrArg _ (if_pos full))⟩
  · have ours := answerMac_ours t m asked fromAddr s up mac ip tag
    exact ⟨congrArg Host.Outcome.next ours, congrArg Host.Outcome.next ours⟩
  · intro u
    show execGptpSync t m ns s = _
    simp only [execGptpSync, on, Bool.not_true, Bool.false_eq_true, if_false]
    rw [show (toL t s).host.gptp.lastSync = none from first]
    rfl
  · intro u
    show execGptpSync t m ns s = _
    simp only [execGptpSync, on, Bool.not_true, Bool.false_eq_true, if_false]
    rw [show (toL t s).host.gptp.lastSync = some t0 from last]
    simp only [later, if_true]
    rfl
  · show execGptpSyncLoss t s = _
    simp [execGptpSyncLoss, up, synced]
  · show execPdelayRequest t m (some ns) s = _
    simp [execPdelayRequest, on]
  · show execPdelayRequest t m none s = _
    simp [execPdelayRequest, on]
  · show execAnnounce t m gm s = _
    simp [execAnnounce, on]
  · intro u
    show execPlyTraining t p latency s = _
    have untrained : ¬ (!plyRuns s ∨ 2 ≤ p ∨ (plyOf p s).state == .up) := by simp [runs, hp, down]
    rw [execPlyTraining, if_neg untrained]
  · intro u
    show execPlyRetrain t p s = _
    have up : ¬ (!plyRuns s ∨ 2 ≤ p ∨ (plyOf p s).state == .down) := by simp [runs, hp, trained]
    rw [execPlyRetrain, if_neg up]
  · intro u
    have carries : ¬ (!plyLive p s ∨ !hostUp s) := by simp [live, up]
    refine ⟨fun bad => ?_, fun frame read answer => ?_, fun frame read request => ?_⟩
    · show execPlyEodenPacket t p crc packet s = _
      rw [execPlyEodenPacket, if_neg carries, bad]
    · show execPlyEodenPacket t p crc packet s = _
      rw [execPlyEodenPacket, if_neg carries, read]
      simp only [answer, beq_self_eq_true, if_true]
      rfl
    · show execPlyEodenPacket t p crc packet s = _
      rw [execPlyEodenPacket, if_neg carries, read]
      simp only [beq_eq_false_iff_ne.mpr request, Bool.false_eq_true, if_false]
      rfl
  · show execCredit t p n s = _
    simp [execCredit, live]
  · intro u
    show execPlyMark t p set tick s = _
    have taken : ¬ (!plyLive p s ∨ 4 ≤ set ∨ s.deviceId = 0) := by simp [live, hset, inner]
    rw [execPlyMark, if_neg taken]
    simp only [Bool.and_eq_true, Bool.not_eq_true', beq_iff_eq, and_assoc]
    rfl
  · show execPlyLoss d s = _
    simp [execPlyLoss, heard, runs, present, awake]

/-! ### Heartbeats and MIRROR packets (R176, R422 to R427) -/

/-- A heartbeat on a live link from another device of the chain is taken (R422). -/
theorem beat_taken {h : Beat} {s : State} (live : plyLive h.p s = true) (other : h.dev ≠ s.deviceId) (known : h.dev < 4) :
    ¬ (!plyLive h.p s ∨ h.dev = s.deviceId ∨ 4 ≤ h.dev) := by
  simp [live, other, known]

/-- A heartbeat of the wrong neighbour (R424). -/
theorem execHeartbeat_wrong (h : Beat) (s : State) (live : plyLive h.p s = true) (other : h.dev ≠ s.deviceId) (known : h.dev < 4)
    (direct : h.relayed = false) (wrong : h.dev ≠ facing h.p s) :
    execHeartbeat h s = .next
      (let v := modPly h.p (fun x => { x with neighId := h.dev, orderErr := true }) (plyPacket h.p (toL h.t s))
      if (plyOf h.p s).orderErr then v else reportL 0x024 (4 + h.p) (chainEvent h.dev 4 v)) := by
  have wrongly : (!h.relayed && h.dev != facing h.p (plyPacket h.p (toL h.t s))) = true := by
    rw [direct]
    exact bne_iff_ne.mpr wrong
  rw [execHeartbeat, if_neg (beat_taken live other known)]
  simp only [wrongly, if_true]
  rfl

/-- A heartbeat goes onward from a port whose devices are in order, over a port that is trained (R422). -/
theorem relay_eq (h : Beat) (s : State) :
    (if (plyOf h.p s).orderErr || (plyOf (1 - h.p) s).orderErr || (plyOf (1 - h.p) s).state != .up then s
      else modChainSt (fun c => { c with relayed := put c.relayed (1 - h.p) (some { h with relayed := true }) }) s) =
    if (plyOf h.p s).orderErr = false ∧ (plyOf (1 - h.p) s).orderErr = false ∧ (plyOf (1 - h.p) s).state = .up then
      modChainSt (fun c => { c with relayed := put c.relayed (1 - h.p) (some { h with relayed := true }) }) s else s := by
  cases (plyOf h.p s).orderErr <;> cases (plyOf (1 - h.p) s).orderErr <;> cases (plyOf (1 - h.p) s).state <;> rfl

/-- A relayed heartbeat (R422). -/
theorem execHeartbeat_relayed (h : Beat) (s : State) (live : plyLive h.p s = true) (other : h.dev ≠ s.deviceId) (known : h.dev < 4)
    (relayed : h.relayed = true) :
    execHeartbeat h s = .next
      (let v := takeView h (plyPacket h.p (toL h.t s))
      if (plyOf h.p v).orderErr || (plyOf (1 - h.p) v).orderErr || (plyOf (1 - h.p) v).state != .up then v
      else modChainSt (fun c => { c with relayed := put c.relayed (1 - h.p) (some { h with relayed := true }) }) v) := by
  rw [execHeartbeat, if_neg (beat_taken live other known)]
  simp only [relayed, Bool.not_true, Bool.false_and, Bool.and_false, Bool.false_eq_true, if_false, if_true]

/-- A heartbeat of the right neighbour (R422, R423, R427, R603). -/
theorem execHeartbeat_right (h : Beat) (s : State) (live : plyLive h.p s = true) (other : h.dev ≠ s.deviceId) (known : h.dev < 4)
    (direct : h.relayed = false) (right : h.dev = facing h.p s) :
    execHeartbeat h s = .next
      (let u := plyPacket h.p (toL h.t s)
      let v := takeView h (takeLatency h (modPly h.p (fun x =>
        { x with neighId := h.dev, orderErr := false, heard := some u.now, echo := h.time
                 state := if x.state = .lost then .up else x.state }) u))
      let a := takeAlign h (if (plyOf h.p s).state = .lost then chainEvent h.dev 1 v else v)
      let w := if h.p = 0 ∧ h.aligned = true then chainWaitOver a else a
      if (plyOf h.p w).orderErr || (plyOf (1 - h.p) w).orderErr || (plyOf (1 - h.p) w).state != .up then w
      else modChainSt (fun c => { c with relayed := put c.relayed (1 - h.p) (some { h with relayed := true }) }) w) := by
  have rightly : (h.dev != facing h.p (plyPacket h.p (toL h.t s))) = false := bne_eq_false_iff_eq.mpr right
  rw [execHeartbeat, if_neg (beat_taken live other known)]
  simp only [rightly, direct, Bool.not_false, Bool.true_and, Bool.and_true, Bool.false_eq_true, if_false, Bool.and_eq_true,
    decide_eq_true_eq, beq_iff_eq]
  rfl

/-- Settles O7: heartbeats by their three kinds, the other rows by the one branch that their conditions leave. -/
theorem heartbeatAndMirrorComplete : Obligations.HeartbeatAndMirrorComplete := by
  unfold Obligations.HeartbeatAndMirrorComplete
  refine ⟨fun h s live other known direct wrong => ?_, fun h s live other known relayed => ?_,
    fun h s live other known direct right => ?_, fun s runs => ?_, fun t dev k value effect status j s up chain partner armed link => ?_,
    fun t s up => ?_⟩
  · intro v
    have taken := execHeartbeat_wrong h s live other known direct wrong
    exact ⟨fun seen => taken.trans (congrArg Host.Outcome.next (if_pos seen)),
      fun fresh => taken.trans (congrArg Host.Outcome.next (if_neg (by rw [fresh]; decide)))⟩
  · intro v q
    exact (execHeartbeat_relayed h s live other known relayed).trans (congrArg Host.Outcome.next (relay_eq h v))
  · intro u q v a w
    exact (execHeartbeat_right h s live other known direct right).trans (congrArg Host.Outcome.next (relay_eq h w))
  · intro u
    show execHeartbeatSend s = _
    simp only [execHeartbeatSend, runs, Bool.not_true, Bool.false_eq_true, if_false]
    rfl
  · intro u
    have mine : ((chainE j (toL t s)).pdev != dev || decide ((chainE j (toL t s)).state < 2) || !hostUp (toL t s) ||
        !plyToward dev (toL t s)) = false := by
      simp [partner, Nat.not_lt.mpr armed, up, link]
    refine ⟨?_, ?_, ?_⟩
    · show execMirror t dev k 0 value effect status s = _
      simp only [execMirror, toL_chainOf, chain, mine, Bool.false_eq_true, if_false]
      rfl
    · show execMirror t dev k 1 value effect status s = _
      simp only [execMirror, toL_chainOf, chain, mine, Bool.false_eq_true, if_false]
      rfl
    · show execMirror t dev k 2 value effect status s = _
      simp only [execMirror, toL_chainOf, chain, mine, Bool.false_eq_true, if_false]
      rfl
  · intro duties
    show execMirrorSend t s = _
    simp only [execMirrorSend, toL_hostUp, up, if_true]
    rfl

end Sys2Proof.Machine

/-! ## The Weft link: training, silence and adoption (R18, R236 to R249) -/

namespace Sys2Proof.Machine

/-- A frame of the L-die that arrives as one of its own type is taken (R229). -/
theorem sendDown_good (t : Nat) (odd : Bool) (ty : FrameType) (pl p : Nat) (e : LineErr) (f : Nat → State → State) (s : State)
    (link : s.weft.state = .live ∨ s.weft.state = .adopt) (running : s.pdie.sup ≠ .reset) (awake : s.pdie.sup ≠ .asleep)
    (read : readFrame true odd e (frameBytes ty pl) = some (ty, p)) : sendDown t odd ty pl e f s = f p (gotDown t odd p s) := by
  rcases link with link | link <;> simp [sendDown, gotDown, link, running, awake, read]

theorem gotDown_clk (t : Nat) (odd : Bool) (p : Nat) (s : State) : (gotDown t odd p s).clk = s.clk := by
  unfold gotDown
  dsimp only
  split <;> rfl

/-- The adoption of an L-die that has not just started: its own copies of the definitions stand (R245). -/
theorem adopt_kept (s : State) (kept : s.clk.step ≠ .started) :
    adopt s =
      (let known := (List.range 48).filterMap (fun k => (knownDef false k s).map (fun d => (k, d)))
      let v := adoptFio (adoptPorts false (adoptSlots (adoptArray false (adoptStatus s.pdie (drainAll false (driveAll (adoptP s)))))))
      let w := seeTamper (adoptTrx (settleDefs false known (adoptReports s.pdie v)))
      let x := if w.deviceId = 0 then modChainSt (fun c => { c with adopted := true }) w else w
      let y := if groupOff 0x03 x then disableAct x else x
      let y := if groupOff 0x04 y then disablePorts y else y
      let y := if groupOff 0x05 y then disableFio y else y
      markPrimaries (disableAdopted y)) := by
  have old : (s.clk.step == .started) = false := beq_eq_false_iff_ne.mpr kept
  simp only [adopt, old, Bool.false_eq_true, if_false]

/-- Settles O8: each row's conditions leave one branch of it. -/
theorem linkStateEventsComplete : Obligations.LinkStateEventsComplete := by
  unfold Obligations.LinkStateEventsComplete
  refine ⟨fun t latency s training running awake up old => ?_, fun t0 s start training => ?_, fun t s retry down up => ?_,
    fun m p s open' adopting idle quiet read code => ?_, fun t s normal silent sup => ?_, fun t s live late up => ?_,
    fun e s expiry sup => ?_, fun t p e c s item live running awake first read => ?_,
    fun m p s open' adopting started read refreshed idle up old arrives code => ?_⟩
  · intro u v old'
    have goes : ((toL t s).weft.state != .training || (toL t s).pdie.sup == .reset || (toL t s).pdie.sup == .asleep ||
        !ldieUp (toL t s)) = false := by simp [training, running, awake, up]
    have started : ((settleTime (declareSilence (min (toL t s).pNow ((toL t s).pdie.lastDown + 2000)) (toL t s))).clk.step ==
        .started) = false := beq_eq_false_iff_ne.mpr old'
    show execWeftTraining t latency s = _
    simp only [execWeftTraining, goes, started, Bool.false_eq_true, if_false]
    rfl
  · intro u
    show execTrainingTimeout s = _
    simp only [execTrainingTimeout, start, training, bne_self_eq_false, Bool.false_eq_true, if_false]
    rfl
  · show execTrainingRetry s = _
    simp [execTrainingRetry, retry, down, up]
  · have goes : ((toL m.t s).weft.state != .adopt || idleDueUp (toL m.t s) || cellOutWaits (toL m.t s)) = false := by
      simp [adopting, idle, quiet]
    show execAdoptionReadbackStart m s = _
    simp only [execAdoptionReadbackStart, goes, Bool.false_eq_true, if_false]
    exact congrArg Host.Outcome.next ((upFrame_good m.t true .mark _ p m.line _ (toL m.t s) open' read).trans (if_pos code))
  · intro u late v
    have goes : (decide (u.pNow < u.pdie.lastDown + 2000) || u.pdie.power != 0 || u.pdie.silentAt.isSome) = false := by
      rw [decide_eq_false (Nat.not_lt.mpr late)]
      simp [u, normal, silent]
    have linked : (u.pdie.sup == .linked || u.pdie.sup == .failSafe) = true := by
      rcases sup with sup | sup <;> simp [u, sup]
    show execLinkSilence t s = _
    simp only [execLinkSilence]
    rw [if_neg (by rw [goes]; decide), if_pos linked]
  · have goes : ((toL t s).weft.state != .live || decide ((toL t s).now < (toL t s).weft.lastUp + 2000) || !ldieUp (toL t s)) = false := by
      rw [decide_eq_false (show ¬ (toL t s).now < (toL t s).weft.lastUp + 2000 from Nat.not_lt.mpr late)]
      simp [live, up]
    show execUpLoss t s = _
    simp only [execUpLoss, goes, Bool.false_eq_true, if_false]
  · have goes : (s.pdie.sup == .reset || s.pdie.sup == .asleep || s.pdie.sup == .linked) = false := by
      rcases sup with sup | sup | sup <;> simp [sup]
    show execHoldoverExpiry s = _
    simp only [execHoldoverExpiry, expiry, goes, Bool.false_eq_true, if_false]
    rfl
  · have goes : (!linkLive (toL t s) || (!(toL t s).faults.halted && (setPointWaits (toL t s) || idleDueDown (toL t s)))) = false := by
      rcases first with halted | ⟨noSet, noIdle⟩
      · simp [linkLive, live, halted]
      · simp [linkLive, live, noSet, noIdle]
    have force : (c.item == CfgItem.fsForce) = true := List.find?_some (p := fun c : CfgOut => c.item == CfgItem.fsForce) item
    rw [beq_iff_eq] at force
    have forceWord : c.payload s.weft.ack = configPayload s.weft.ack 0x3FE 0 := by
      simp only [CfgOut.payload, CfgOut.word, force]
    show execFsForce t e s = _
    simp only [execFsForce, toL_weft, item, goes, forceWord, Bool.false_eq_true, if_false]
    exact congrArg Host.Outcome.next (sendDown_good t true .config _ p e _ (toL t s) (.inl live) running awake read)
  · intro u known v w x y y y
    have goes : ((toL m.t s).weft.state != .adopt || !(toL m.t s).weft.adopting || (toL m.t s).weft.readSeen != allSlots ||
        (toL m.t s).weft.refSeen != allSlots || idleDueDown (toL m.t s) || !ldieUp (toL m.t s)) = false := by
      simp [adopting, started, read, refreshed, idle, up]
    have kept : u.clk.step ≠ .started := by
      rw [show u.clk = (toL m.t s).clk from gotDown_clk m.t true p (toL m.t s)]
      exact old
    show execAdoptDone m s = _
    simp only [execAdoptDone, goes, Bool.false_eq_true, if_false]
    exact congrArg Host.Outcome.next
      ((downFrame_good m.t true .mark _ p m.line _ (toL m.t s) open' arrives).trans ((if_pos code).trans (adopt_kept u kept)))

/-! ### Frames of the Weft link (R228 to R235) -/

theorem gotUp_toL (t : Nat) (s : State) : gotUp t (toL t s) = gotUp t s := by
  rw [gotUp, toL_toL, gotUp]

theorem frameBytes_length (ty : FrameType) (p : Nat) : (frameBytes ty p).length = 8 := by simp [frameBytes]

/-- What the L-die notes of a refresh slot does not close the link. -/
theorem downOpen_noteRefresh (slot : Nat) (s : State) (h : downOpen s = true) : downOpen (noteRefresh slot s) = true := by
  unfold noteRefresh
  split <;> exact h

theorem downOpen_configDown (c : CfgOut) (s : State) (h : downOpen s = true) : downOpen (configDown c s) = true := by
  unfold configDown
  dsimp only
  split <;> exact h

/-- A REFRESH on a LIVE link is one down frame (R233). -/
theorem execRefresh_live (t slot : Nat) (e : LineErr) (s : State) (live : s.weft.state = .live) :
    execRefresh t slot e s = .next (downFrame t false .refresh (slotPayload slot (refreshContent slot (toL t s))) e
      (fun p s => if obeys s then takeRefresh (pfld 47 39 p) (pfld 38 0 p) s else s) (noteRefresh slot (toL t s))) := by
  have notAdopting : ((toL t s).weft.state == .adopt && (toL t s).weft.adopting && (toL t s).weft.readSeen == allSlots) = false := by
    simp [live]
  simp only [execRefresh, notAdopting, Bool.false_eq_true, if_false]

/-- A READBACK that no cell-out report goes before is one up frame (R232, R234). -/
theorem execReadback_sent (t slot : Nat) (e : LineErr) (m : List Nat) (s : State) (quiet : cellOutWaits (toL t s) = false) :
    execReadback t slot e m s = .next (upFrame t false .readback (slotPayload slot 0) e (fun p s =>
      if linkLive s then readbackSlot (pfld 47 39 p) m s
      else if s.weft.adopting then
        modWeft (fun w => { w with readSeen := setPin w.readSeen (pfld 47 39 p) true }) (readbackSlot (pfld 47 39 p) m s)
      else s) (toL t s)) := by
  simp only [execReadback, quiet, Bool.false_eq_true, if_false]

/-- A frame that is no CELL_OUT goes up as an EVENT (R230). -/
theorem sendUp_event (t p : Nat) (u : UpFrame) (e : LineErr) (s : State) (event : u.isCellOut = false) (open' : upOpen s = true)
    (read : readFrame false true e (frameBytes .event (eventPayload u.seq u.body.kind 0)) = some (.event, p)) :
    sendUp t u e s = receiveUp (pfld 47 42 p) u.body (gotUp t s) := by
  unfold sendUp
  split
  · rename_i body
    simp [UpFrame.isCellOut, body] at event
  · exact upFrame_good t true .event _ p e _ s open' read

/-- A CELL_OUT goes up in an even or an odd frame time (R230, R232). -/
theorem sendUp_cellOut (t bank mask cause tick p : Nat) (u : UpFrame) (e : LineErr) (s : State)
    (body : u.body = .cellOut bank mask cause tick) (open' : upOpen s = true)
    (read : readFrame false false e (frameBytes .cellOut (cellOutPayload u.seq bank mask cause tick)) = some (.cellOut, p)) :
    sendUp t u e s = receiveUp (pfld 47 42 p)
      (.cellOut (pfld 41 38 p) (pfld 37 30 p) (pfld 29 26 p) (fullTick (gotUp t s).now (pfld 25 12 p))) (gotUp t s) := by
  simp only [sendUp, body]
  exact upFrame_good t false .cellOut _ p e _ s open' read

/-- Settles O9: a good frame is taken, a spoilt one discarded, and each row's conditions leave one branch of it. -/
theorem weftFrameEventsComplete : Obligations.WeftFrameEventsComplete := by
  unfold Obligations.WeftFrameEventsComplete
  refine ⟨fun down odd ty p may => ⟨frameBytes_length ty p, ?_⟩, fun t slot p e s open' live read => ?_,
    fun t k p e s open' live send idle read => ?_, fun t p e c s open' live item => ?_, fun c s item => ?_,
    fun t p e s open' may read code => ?_, fun m n p s open' live release may read code => ?_, fun t p e s open' => ?_,
    fun t slot e s open' live bad => ?_, fun t slot p e m s open' live quiet read => ?_,
    fun t bank mask cause tick p e u s found body link => ?_, fun t p e u s found event live quiet few idle => ?_, fun t p e s => ?_,
    fun t e u s due live first => ?_, fun t slot e m s open' quiet bad => ?_, fun t w c s running hw writing => ⟨?_, ?_⟩,
    fun t v ok s running new => ?_, fun t p v ok s running hp new => ?_⟩
  · rw [readFrame_clean, if_pos may]
  · intro v obeyed
    refine (execRefresh_live t slot e s live).trans (congrArg Host.Outcome.next ?_)
    rw [downFrame_good t false .refresh _ p e _ _ (downOpen_noteRefresh slot (toL t s) open') read]
    exact if_pos obeyed
  · intro v
    have goes : (!(skL k (toL t s)).send || !linkLive (toL t s) || idleDueDown (toL t s)) = false := by
      rw [show (skL k (toL t s)).send = true from send, idle]
      simp [linkLive, live]
    show execSetpoint t k e s = _
    simp only [execSetpoint, goes, Bool.false_eq_true, if_false]
    exact congrArg Host.Outcome.next (downFrame_good t true .setpoint _ p e _
      (wentDown k (modSkL k (fun x => { x with send := false }) (toL t s))) open' read)
  · intro u noSet noIdle read index value v obeyed
    have goes : (!linkLive u || setPointWaits u || idleDueDown u) = false := by
      rw [noSet, noIdle, show linkLive u = true from beq_iff_eq.mpr live]
      rfl
    have mine : (obeys v && pfld 31 0 p == c.word.2 && pfld 41 32 p == c.word.1) = true := by
      rw [obeyed, index, value]
      simp
    show execConfig t e s = _
    simp only [execConfig, toL_weft, item]
    rw [if_neg (by rw [goes]; decide)]
    exact congrArg Host.Outcome.next ((downFrame_good t true .config _ p e _ _
      (downOpen_configDown c (modCfgOut c.id (fun x => { x with sent := some u.now }) u) open') read).trans (if_pos mine))
  · show execConfigEchoTimeout s = _
    simp only [execConfigEchoTimeout, item]
  · intro v obeyed
    have mine : (decide (pfld 41 38 p = MarkCode.timeExchange.code) && obeys v) = true := by
      rw [obeyed, Bool.and_true]
      exact decide_eq_true code
    show execTimeExchange t e s = _
    simp only [execTimeExchange, may, Bool.not_true, Bool.false_eq_true, if_false]
    exact congrArg Host.Outcome.next ((downFrame_good t true .mark _ p e _ (toL t s) open' read).trans (if_pos mine))
  · intro v obeyed
    have goes : (!linkLive (toL m.t s) || !(toL m.t s).loom.releases.contains n || !markMay (toL m.t s)) = false := by
      rw [may, show linkLive (toL m.t s) = true from beq_iff_eq.mpr live,
        show (toL m.t s).loom.releases.contains n = true from release]
      rfl
    have mine : (decide (pfld 41 38 p = MarkCode.ladderRelease.code) && obeys v) = true := by
      rw [obeyed, Bool.and_true]
      exact decide_eq_true code
    show execLadderRelease m n s = _
    simp only [execLadderRelease, goes, Bool.false_eq_true, if_false]
    exact congrArg Host.Outcome.next ((downFrame_good m.t true .mark _ p m.line _ (toL m.t s) open' read).trans (if_pos mine))
  · intro u first read
    have goes : ((setPointWaits u || configWaits u || markWaits u) && !idleDueDown u) = false := by
      rcases first with due | ⟨noSet, noConfig, noMark⟩
      · rw [due, Bool.not_true, Bool.and_false]
      · rw [noSet, noConfig, noMark]
        rfl
    show execIdleFrame t false e s = _
    simp only [execIdleFrame, Bool.false_eq_true, if_false]
    rw [if_neg (by rw [goes]; decide)]
    exact congrArg Host.Outcome.next (downFrame_good t true .idle _ p e _ (modWeft (fun w => { w with idleAt := u.now }) u) open' read)
  · refine (execRefresh_live t slot e s live).trans (congrArg Host.Outcome.next ?_)
    exact downFrame_bad t false .refresh _ e _ _ (downOpen_noteRefresh slot (toL t s) open') bad
  · refine (execReadback_sent t slot e m s quiet).trans (congrArg Host.Outcome.next ?_)
    rw [upFrame_good t false .readback _ p e _ (toL t s) open' read, gotUp_toL]
    exact if_pos (beq_iff_eq.mpr live)
  · intro v open' read w
    have goes : (linkLive (toL t s) || (toL t s).weft.state == .adopt) = true := by
      rcases link with link | link <;> simp [linkLive, link]
    show execCellOut t e s = _
    simp only [execCellOut, toL_pdie, found, goes, if_true]
    exact congrArg Host.Outcome.next (sendUp_cellOut t bank mask cause tick p u e v body open' read)
  · intro v open' read
    have goes : (linkLive (toL t s) && !cellOutWaits (toL t s) && decide (unacked (toL t s) < 32) && !idleDueUp (toL t s)) = true := by
      rw [quiet, idle, decide_eq_true few, show linkLive (toL t s) = true from beq_iff_eq.mpr live]
      rfl
    show execEventFrame t e s = _
    simp only [execEventFrame, toL_pdie, found, goes, if_true]
    exact congrArg Host.Outcome.next (sendUp_event t p u e v event open' read)
  · intro u open' quiet first read
    have goes : (cellOutWaits u || ((eventWaits u || startMarkWaits u) && !idleDueUp u)) = false := by
      rcases first with due | ⟨noEvent, noMark⟩
      · rw [quiet, due, Bool.not_true, Bool.and_false]
        rfl
      · rw [quiet, noEvent, noMark]
        rfl
    show execIdleFrame t true e s = _
    simp only [execIdleFrame, if_true]
    rw [if_neg (by rw [goes]; decide)]
    exact congrArg Host.Outcome.next
      (upFrame_good t true .idle _ p e _ (modP (fun p => { p with idleAt := u.pNow }) u) open' read)
  · have goes : (linkLive (toL t s) && (u.isCellOut || (!cellOutWaits (toL t s) && !idleDueUp (toL t s)))) = true := by
      rw [show linkLive (toL t s) = true from beq_iff_eq.mpr live]
      rcases first with cell | ⟨quiet, idle⟩
      · rw [cell]
        rfl
      · rw [quiet, idle]
        exact Bool.or_true _
    show execUnackedResend t e s = _
    simp only [execUnackedResend, due, goes, if_true]
  · refine (execReadback_sent t slot e m s quiet).trans (congrArg Host.Outcome.next ?_)
    rw [upFrame_bad t false .readback _ e _ (toL t s) open' bad, toL_toL]
  · show execFsMemoryVerified t w true s = _
    simp [execFsMemoryVerified, running, hw, writing]
  · show execFsMemoryVerified t w false s = _
    simp [execFsMemoryVerified, running, hw, writing]
  · show execFsMemoryVerified t 48 ok s = _
    simp [execFsMemoryVerified, running, new]
  · have index : ¬ 49 + p < 48 ∧ ¬ 49 + p = 48 ∧ 49 + p - 49 = p := by omega
    obtain ⟨past, notHold, slot⟩ := index
    show execFsMemoryVerified t (49 + p) ok s = _
    simp [execFsMemoryVerified, running, past, notHold, new]

end Sys2Proof.Machine

/-! ## Cells, skeins and banks on the P-die (R133 to R222) -/

namespace Sys2Proof.Machine

/-! ### Trips, interlock and handover -/

/-- Settles O10: each row's conditions leave one branch of it. -/
theorem tripAndInterlockEventsComplete : Obligations.TripAndInterlockEventsComplete := by
  unfold Obligations.TripAndInterlockEventsComplete
  refine ⟨fun t n current k s => ?_, fun t n k others s => ?_, fun t n s hn cool => ?_, fun t n energy s hn => ?_,
    fun t n s hn free => ?_, fun t n s hn good => ?_, fun t k s => ?_, fun k e d s change => ?_, fun k e s brake => ?_,
    fun k h s hand steady => ?_⟩
  · intro u skein high on
    have trips : (decide (current ≤ threshold n k (cellP n u).lsOn u) || (!(cellP n u).hsOn && !(cellP n u).lsOn)) = false := by
      rw [decide_eq_false (Nat.not_le.mpr high), Bool.false_or]
      rcases on with on | on <;> simp [on]
    show execTripDecision t n current s = _
    simp only [execTripDecision]
    rw [skein]
    exact congrArg Host.Outcome.next (if_neg (by rw [trips]; decide))
  · intro u skein joint
    show execLimitTimeout t n others s = _
    simp only [execLimitTimeout]
    rw [skein]
  · show execThermalShutdown t n s = _
    simp [execThermalShutdown, Nat.not_le.mpr hn, cool]
  · intro u c v
    show execClampPulseEnd t n energy s = _
    simp only [execClampPulseEnd, Bool.and_eq_true, Bool.not_eq_true', decide_eq_true_eq]
    rw [if_neg (Nat.not_le.mpr hn)]
  · intro u
    refine ⟨fun alone => ?_, fun k skein => ?_⟩
    · show execGateStuck t n s = _
      simp only [execGateStuck]
      rw [if_neg (by simp [hn, free]), alone]
      rfl
    · show execGateStuck t n s = _
      simp only [execGateStuck]
      rw [if_neg (by simp [hn, free]), skein]
      rfl
  · show execPumpLow t n s = _
    simp [execPumpLow, Nat.not_le.mpr hn, good]
  · intro u v w
    show execGateOffReported t k s = _
    simp only [execGateOffReported, Bool.and_eq_true, beq_iff_eq, bne_iff_ne, Option.isNone_iff_eq_none, and_assoc]
    rfl
  · intro u
    show execDeadtimeEnd k s = _
    simp only [execDeadtimeEnd, change]
    rfl
  · show execBrakePhaseEnd k s = _
    simp only [execBrakePhaseEnd, brake]
  · intro u
    show execHandoverLeave k s = _
    simp only [execHandoverLeave, hand, steady, Bool.false_eq_true, if_false]
    rfl

/-! ### The way back of a cell and its bank -/

/-- Settles O11: each row's conditions leave one branch of it. -/
theorem retryEventsComplete : Obligations.RetryEventsComplete := by
  unfold Obligations.RetryEventsComplete
  refine ⟨fun t n k s => ?_, fun t n k s => ?_, fun n e s pause heard => ?_, fun n p s pause => ?_, fun t n k s skein => ?_,
    fun t b s hb on fresh => ?_, fun t b s droop => ?_, fun b e s suspended => ?_, fun k t0 s first live => ?_, fun k e s window => ?_⟩
  · intro u skein
    show execThermalRelease t n s = _
    simp only [execThermalRelease]
    rw [skein]
    rfl
  · intro u skein
    show execPumpRecovered t n s = _
    simp only [execPumpRecovered]
    rw [skein]
    rfl
  · show execLadderPauseEnd n s = _
    simp [execLadderPauseEnd, pause, heard]
  · show execLadderMgmtPauseEnd n s = _
    simp only [execLadderMgmtPauseEnd, pause]
  · intro u ready' clean
    have goes : ((cellP n u).ladder == .ready && decide (fld 15 8 u.pdie.prot.ladder * 20000000 ≤ (cellP n u).cleanTicks)) = true := by
      rw [ready', decide_eq_true clean]
      rfl
    show execCleanRun t n s = _
    simp only [execCleanRun, skein, Option.elim]
    rw [if_pos goes]
  · intro u
    show execDroopSet t b s = _
    simp only [execDroopSet]
    rw [if_neg (by simp [hb, on, fresh])]
  · show execDroopClear t b s = _
    simp [execDroopClear, droop]
  · intro u
    show execDroopSuspensionEnd b s = _
    simp only [execDroopSuspensionEnd, suspended]
    rfl
  · show execClassificationClose k s = _
    simp only [execClassificationClose, first, live, if_true]
  · show execRetryWindowEnd k s = _
    simp only [execRetryWindowEnd, window]

/-! ### Diagnosis, sensing and the management plane -/

/-- A cell's change leaves the skeins' cells. -/
theorem skeinOfCellP_modCell (n m : Nat) (f : CellP → CellP) (s : State) : skeinOfCellP n (modCell m f s) = skeinOfCellP n s := rfl

/-- A condition of two flags, the second one not set. -/
theorem ite_and_not {α : Type} (a b : Bool) (x y : α) : (if a && !b then x else y) = if a = true ∧ b = false then x else y := by
  cases a <;> cases b <;> rfl

/-- A bad channel of a cell that does not conduct (R197, R219). -/
theorem execSenseBad_idle (t n : Nat) (bad : Bool) (s u : State) (hn : n < 96) (here : presentCell n (toP t s) = u)
    (hs : (cellP n u).hsOn = false) (ls : (cellP n u).lsOn = false) :
    execSenseBad t n bad s = .next
      (let v := modCell n (fun c => { c with senseBad := bad }) u
      let w := if bad = true then (skeinOfCellP n v).elim v (fun j => if (conductingCells j v).contains n then spoilPrint j v else v) else v
      if bad = true ∧ (cellP n u).senseBad = false then reportP 0x0A9 n 0 w else w) := by
  subst here
  simp only [execSenseBad, Bool.and_eq_true, Bool.not_eq_true']
  rw [if_neg (by simp [hn, hs, ls])]

/-- The points of a record of as many supplies as currents. -/
theorem zip_all_snd {α β : Type} (p : β → Bool) (l : List α) (m : List β) (h : l.length = m.length) :
    (l.zip m).all (fun x => p x.2) = m.all p := by
  rw [← List.map_snd_zip (l₁ := l) (l₂ := m) (Nat.le_of_eq h.symm), List.all_map, List.map_snd_zip (Nat.le_of_eq h.symm)]
  rfl

/-- Settles O12: each row's conditions leave one branch of it. -/
theorem senseAndManagementEventsComplete : Obligations.SenseAndManagementEventsComplete := by
  unfold Obligations.SenseAndManagementEventsComplete
  refine ⟨fun t k opn stb s => ?_, fun t n bad s hn alone hs ls => ?_, fun t n k bad s hn skein => ?_, fun t s => rfl,
    fun t s power running => ?_, fun t code s => rfl, fun t k currents supplies clean s print defined hc hs => ?_,
    fun k e s inrush => ?_, fun m rails s due up fresh => ?_, fun k s runs live defined on steady => ?_, fun s many runs live => ?_,
    fun t j s runs live taken secondary idle on => ?_, fun t j s runs live armed primary allowed idle hot on first => ?_⟩
  · intro u x defined noLeg mode enabled off long sup stb' opn' load v w
    have checked : diagChecked k u = true := by
      have steady : ((defP k u).mode == 1 || (defP k u).mode == 2) = true := by
        rcases mode with mode | mode
        · rw [show (defP k u).mode = 1 from mode]
          rfl
        · rw [show (defP k u).mode = 2 from mode]
          rfl
      have checks : diagRuns u = true := by
        rcases sup with sup | sup | sup <;> simp [diagRuns, u, sup]
      have waited : (skP k u).offSince + 200000 ≤ u.pNow := long
      simp only [diagChecked, steady, checks, decide_eq_true waited, show (defP k u).defined = true from defined,
        show (defP k u).leg = false from noLeg, show bit 0 (nth u.pdie.prot.diag k) = true from enabled, show offP k u = true from off]
      rfl
    show execOffStateDiagFilter t k opn stb s = _
    refine congrArg Host.Outcome.next ((if_pos checked).trans ?_)
    rw [ite_and_not, ite_and_not]
    rfl
  · intro v
    have here : presentCell n (toP t s) = toP t s := by
      rw [presentCell, show skeinOfCellP n (toP t s) = none from alone]
      rfl
    refine (execSenseBad_idle t n bad s (toP t s) hn here hs ls).trans ?_
    simp only [skeinOfCellP_modCell, show skeinOfCellP n (toP t s) = none from alone, Option.elim, ite_self]
    rfl
  · intro u hs ls v w
    have here : presentCell n (toP t s) = u := by
      rw [presentCell, show skeinOfCellP n (toP t s) = some k from skein]
      rfl
    exact execSenseBad_idle t n bad s u hn here hs ls
  · show execTamperFlag t s = _
    simp [execTamperFlag, power, running]
  · intro u ended
    have points : (currents.zip supplies).length = 64 := by rw [List.length_zip, hc, hs, Nat.min_self]
    have supplied := zip_all_snd (fun v => decide (6000 ≤ v) && decide (v ≤ 32000)) currents supplies (hc.trans hs.symm)
    have goes : (!(defP k u).defined || !decide ((skP k u).printStart + (skP (leaderP k u) u).defn.inrushTicks ≤ u.pNow) ||
        (currents.zip supplies).length != 64) = false := by
      rw [points, show (defP k u).defined = true from defined,
        decide_eq_true (show (skP k u).printStart + (skP (leaderP k u) u).defn.inrushTicks ≤ u.pNow from ended)]
      rfl
    show execFingerprintRecord t k currents supplies s = _
    simp only [execFingerprintRecord, show (skP k (toP t s)).print = some clean from print, supplied]
    rw [if_neg (by rw [goes]; decide)]
    rfl
  · show execInrushEnd k s = _
    simp only [execInrushEnd, inrush]
  · intro u
    have goes : (decide (m * mgmtTicks < s.now) || !ldieUp s || decide (s.spindle.lastPass = some m)) = false := by
      rw [decide_eq_false (Nat.not_lt.mpr due), up, decide_eq_false fresh]
      rfl
    show execManagementTick m rails s = _
    simp only [execManagementTick, goes, Bool.false_eq_true, if_false]
    cases passesRun (toL (m * mgmtTicks) s) <;> rfl
  · intro u
    have goes : (!passesRun s || !linkLive s || !(defL k s).defined || groupOff 0x0D s || (skL k s).hand.isSome) = false := by
      simp [runs, live, defined, on, steady]
    show execRotationDue k s = _
    simp only [execRotationDue, goes, Bool.false_eq_true, if_false, Bool.or_eq_true, beq_iff_eq]
    rfl
  · intro u
    have goes : (decide (s.loom.coolPasses < 200) || !passesRun s || !linkLive s) = false := by
      simp [Nat.not_lt.mpr many, runs, live]
    refine ⟨fun p next => ?_, fun none => ?_⟩
    · show execShedLift s = _
      simp only [execShedLift, goes, next, Bool.false_eq_true, if_false]
      rfl
    · show execShedLift s = _
      simp only [execShedLift, goes, none, Bool.false_eq_true, if_false]
      rfl
  · have goes : (!passesRun (toL t s) || !linkLive (toL t s) || (chainE j (toL t s)).state != 3 || !(chainE j (toL t s)).secondary ||
        (chainE j (toL t s)).giving != 0 || groupOff 0x0D (toL t s)) = false := by
      simp [runs, live, taken, secondary, idle, on]
    refine ⟨fun counted => ?_, fun uncounted now => ?_⟩
    · show execGiveback t j s = _
      simp only [execGiveback, goes, Bool.false_eq_true, if_false]
      exact congrArg Host.Outcome.next (if_pos counted)
    · show execGiveback t j s = _
      simp only [execGiveback, goes, Bool.false_eq_true, if_false]
      rw [if_neg (by rw [show giveCounted (chainE j (toL t s)) = false from uncounted]; decide)]
      exact congrArg Host.Outcome.next (if_pos now)
  · intro u
    have goes : (!passesRun u || !linkLive u || (chainE j u).state != 2 || (chainE j u).secondary || !bit 16 (chainE j u).give ||
        (chainE j u).swapping != 0 || decide ((chainE j u).hotPasses < 20) || groupOff 0x0D u ||
        !(((chainE j u).lastSwap.map (fun m => decide (m + 200 ≤ mgmtNow u))).getD true)) = false := by
      simp [u, runs, live, armed, primary, allowed, idle, Nat.not_lt.mpr hot, on, first]
    show execRoleSwap t j s = _
    simp only [execRoleSwap]
    exact congrArg Host.Outcome.next (if_neg (by rw [goes]; decide))

end Sys2Proof.Machine

/-! ## The rows of actuators, light and Whorl -/

namespace Sys2Proof.Machine

/-- A check that a condition fails, where it holds. -/
theorem if_not_of_true {α : Type} {b : Bool} (h : b = true) {x y : α} : (if (!b) = true then x else y) = y := by
  rw [h]
  rfl

/-- A check that a condition fails, where it does. -/
theorem if_not_of_false {α : Type} {b : Bool} (h : b = false) {x y : α} : (if (!b) = true then x else y) = x := by
  rw [h]
  rfl

/-- Settles O13: each row's conditions leave one branch of it. -/
theorem actuatorEventsComplete : Obligations.ActuatorEventsComplete := by
  unfold Obligations.ActuatorEventsComplete
  refine ⟨fun a means s phase => ?_, fun a e s ends live phase => ?_, fun a s phase => ?_, fun a e s ends => ?_,
    fun t a sample means s => ?_, fun c s up hc active => ?_, fun m s ends up => ?_, fun k m s ends up => ?_,
    fun s held receives up => ?_, fun s state trial timed runs => ?_, fun t s ends up => ?_⟩
  · show execPeakEnd a means s = _
    exact congrArg Host.Outcome.next (if_neg (by simp [phase]))
  · show execHoldEnd a s = _
    simp only [execHoldEnd, ends]
    exact congrArg Host.Outcome.next (if_pos (by simp [live, phase]))
  · show execReleaseEnd a s = _
    exact congrArg Host.Outcome.next (if_neg (by simp [phase]))
  · show execChopOffEnd a s = _
    simp only [execChopOffEnd, ends]
  · intro u x p chops on reached blanked toff v w ph code d
    have goes : ¬ ((((x.phase != 2 && x.phase != 3) || !x.on || decide (sample < if x.phase = 2 then p.iPeak else p.iHold) ||
        (!x.rise && decide (u.pNow < x.ivStart + 250))) = true)) := by
      have chopping : (x.phase != 2 && x.phase != 3) = false := by
        rcases chops with chops | chops <;> rw [chops] <;> rfl
      have timed : (!x.rise && decide (u.pNow < x.ivStart + 250)) = false := by
        rcases blanked with rises | passed
        · rw [rises]
          rfl
        · rw [decide_eq_false (Nat.not_lt.mpr passed), Bool.and_false]
      rw [chopping, timed, on, decide_eq_false (Nat.not_lt.mpr reached)]
      decide
    show execChopThreshold t a sample means s = _
    exact congrArg Host.Outcome.next (if_neg goes)
  · intro u
    show execQuietPeriodEnd c s = _
    exact congrArg Host.Outcome.next (if_neg (by simp [up, active, hc]))
  · show execExtTempStale s = _
    simp only [execExtTempStale, ends, up, if_true]
  · show execIntegrationTimeout k s = _
    simp only [execIntegrationTimeout, ends, up, if_true]
  · show execUpdateInactivity s = _
    exact congrArg Host.Outcome.next (if_neg (by simp [held, receives, up]))
  · show execTrialExpiry s = _
    exact congrArg Host.Outcome.next (if_neg (by simp [state, trial, timed, runs]))
  · show execLockoutEnd s = _
    simp only [execLockoutEnd, ends, up, if_true]

/-- Settles O14: each row's conditions leave one branch of it. -/
theorem lightEventsComplete : Obligations.LightEventsComplete := by
  unfold Obligations.LightEventsComplete
  refine ⟨fun k f s fades live runs => ?_, fun k f s fades live runs => ?_, fun p s hp lit => ?_, fun p e s ends => ?_, fun t s => rfl,
    fun p s hp line here lit => ?_, fun t p r s hp hr => ?_, fun t p c s hp hc => ?_, fun t p c s hp hc => ?_⟩
  · intro t early
    have goes : ¬ ((!linkLive s || decide (s.clk.power = 2) || decide (f.start + f.dur ≤ t)) = true) := by
      rw [live, decide_eq_false runs, decide_eq_false (Nat.not_le.mpr early)]
      decide
    show execFadeStep k s = _
    simp only [execFadeStep, fades]
    exact congrArg Host.Outcome.next (if_neg goes)
  · intro u v
    have goes : ¬ ((!linkLive s || decide (s.clk.power = 2)) = true) := by
      rw [live, decide_eq_false runs]
      decide
    show execFadeEnd k s = _
    simp only [execFadeEnd, fades]
    exact congrArg Host.Outcome.next (if_neg goes)
  · intro x from'
    have goes : ¬ (2 ≤ p ∨ (!portLit x s) = true) := by
      rw [show portLit x s = true from lit]
      exact not_or.mpr ⟨Nat.not_le.mpr hp, by decide⟩
    refine ⟨fun ticks free => ?_, fun edges held => ?_⟩
    · have own : (onDeviceTime x && !(x.sync == 1 && x.held)) = true := by
        rw [ticks]
        rcases free with free | free <;> simp [free]
      show execFrameStart p s = _
      exact congrArg Host.Outcome.next ((if_neg goes).trans (if_pos own))
    · have led : ¬ ((onDeviceTime x && !(x.sync == 1 && x.held)) = true) := by
        rcases edges with edges | edges <;> simp [edges, held]
      show execFrameStart p s = _
      exact congrArg Host.Outcome.next ((if_neg goes).trans ((if_neg led).trans (if_pos held)))
  · show execSwapCopyDone p s = _
    simp only [execSwapCopyDone, ends]
  · intro u
    show execLsyncLoss p s = _
    exact congrArg Host.Outcome.next (if_neg (by simp [hp, line, here, lit]))
  · intro u x lit on run v
    show execRowOvercurrent t p r s = _
    refine congrArg Host.Outcome.next (if_neg ?_)
    rw [show portLit (portP p (toP t s)) (toP t s) = true from lit,
      show rowOn (portP p (toP t s)) (toP t s).pNow = some r from on]
    simp [hp, hr]
  · intro u lit shut v
    show execColumnOpen t p c s = _
    refine congrArg Host.Outcome.next (if_neg ?_)
    rw [show portLit (portP p (toP t s)) (toP t s) = true from lit,
      show (portP p (toP t s)).colOpen.testBit c = false from shut]
    simp [hp, hc]
  · intro u x lit sinks run v
    show execColumnShort t p c s = _
    refine congrArg Host.Outcome.next (if_neg ?_)
    rw [show portLit (portP p (toP t s)) (toP t s) = true from lit,
      show (sinking (portP p (toP t s)) (toP t s).pNow).contains c = true from sinks]
    simp [hp, hc]

/-! ### Whorl instructions (R295, R296) -/

/-- SET, SETR, FADE and SHIFT check their targets themselves, and an unknown OP has none. -/
theorem tgtOk_own (w : Word) (h : [0x01, 0x02, 0x03, 0x0C].contains (fld 31 27 w) = true ∨ 0x0F ≤ fld 31 27 w) : tgtOk w = true := by
  have own : ([0x01, 0x02, 0x03, 0x0C].contains (wOp w) || decide (0x0F ≤ wOp w)) = true :=
    (Bool.or_eq_true _ _).mpr (h.imp_right decide_eq_true)
  rw [tgtOk, Bool.or_assoc, own, Bool.or_true]

/-- TGT 0 is one that every instruction has. -/
theorem tgtOk_zero (w : Word) (h : fld 26 20 w = 0) : tgtOk w = true := by
  rw [tgtOk, Bool.or_assoc, show wTgt w = 0 from h]
  rfl

/-- A TGT on an instruction that names no target. -/
theorem tgtOk_other (w : Word) (n : Nat) (op : fld 31 27 w = n) (h : fld 26 20 w ≠ 0)
    (other : ([0x01, 0x02, 0x03, 0x0C].contains n || decide (0x0F ≤ n)) = false) : tgtOk w = false := by
  rw [tgtOk, Bool.or_assoc, show wOp w = n from op, other, Bool.or_false]
  exact beq_false_of_ne h

/-- Settles O15: an engine that executes carries out its row's instruction, or stops at its TGT. -/
theorem whorlInstructionsComplete : Obligations.WhorlInstructionsComplete := by
  unfold Obligations.WhorlInstructionsComplete
  refine ⟨fun t e s opened => ?_, fun t e s opened => ?_, fun e s he waits free live up runs => ?_⟩
  · intro w b
    have acts {act : Nat → Word → State → State} {n : Nat} (op : fld 31 27 w = n) (tgt : tgtOk w = true) :
        (.next (whorlExec (· == n) act t e s) : Host.Outcome State Fault Refusal) = .next (runaway e (act e w b)) :=
      congrArg Host.Outcome.next (whorlExec_open _ act t e s opened (beq_iff_eq.mpr op) tgt)
    have stops {act : Nat → Word → State → State} {n : Nat} (op : fld 31 27 w = n) (tgt : fld 26 20 w ≠ 0)
        (other : ([0x01, 0x02, 0x03, 0x0C].contains n || decide (0x0F ≤ n)) = false) :
        (.next (whorlExec (· == n) act t e s) : Host.Outcome State Fault Refusal) = .next (runaway e (stopWith e 2 b)) :=
      congrArg Host.Outcome.next (whorlExec_target _ act t e s opened (beq_iff_eq.mpr op) (tgtOk_other w n op tgt other))
    have own {n : Nat} (op : fld 31 27 w = n) (h : [0x01, 0x02, 0x03, 0x0C].contains n = true) : tgtOk w = true :=
      tgtOk_own w (.inl (by rw [op]; exact h))
    refine ⟨fun op => (acts op (own op rfl)).trans rfl, fun op => (acts op (own op rfl)).trans rfl, fun op skein => ?_, fun op none => ?_,
      fun op zero => (acts op (tgtOk_zero w zero)).trans rfl, fun op zero => (acts op (tgtOk_zero w zero)).trans rfl,
      fun op zero => (acts op (tgtOk_zero w zero)).trans rfl, fun op zero => (acts op (tgtOk_zero w zero)).trans rfl,
      fun op zero period => ?_, fun op zero period => ?_, fun tgt => ⟨fun op => stops op tgt rfl, fun op => stops op tgt rfl,
      fun op => stops op tgt rfl, fun op => stops op tgt rfl, fun op => stops op tgt rfl⟩⟩
    · exact (acts op (own op rfl)).trans (congrArg (fun u => Host.Outcome.next (runaway e u)) (if_pos skein))
    · exact (acts op (own op rfl)).trans (congrArg (fun u => Host.Outcome.next (runaway e u)) (if_neg (Nat.not_lt.mpr none)))
    · refine (acts op (tgtOk_zero w zero)).trans ?_
      simp only [syncTime, period, if_false]
    · refine (acts op (tgtOk_zero w zero)).trans ?_
      simp only [syncTime, period, if_true]
      rfl
  · intro w b p v
    have acts {act : Nat → Word → State → State} {n : Nat} (op : fld 31 27 w = n) (tgt : tgtOk w = true) :
        (.next (whorlExec (· == n) act t e s) : Host.Outcome State Fault Refusal) = .next (runaway e (act e w b)) :=
      congrArg Host.Outcome.next (whorlExec_open _ act t e s opened (beq_iff_eq.mpr op) tgt)
    have stops {act : Nat → Word → State → State} {n : Nat} (op : fld 31 27 w = n) (tgt : fld 26 20 w ≠ 0)
        (other : ([0x01, 0x02, 0x03, 0x0C].contains n || decide (0x0F ≤ n)) = false) :
        (.next (whorlExec (· == n) act t e s) : Host.Outcome State Fault Refusal) = .next (runaway e (stopWith e 2 b)) :=
      congrArg Host.Outcome.next (whorlExec_target _ act t e s opened (beq_iff_eq.mpr op) (tgtOk_other w n op tgt other))
    have shifts (op : fld 31 27 w = 0x0C) : tgtOk w = true := tgtOk_own w (.inl (by rw [op]; rfl))
    refine ⟨fun op zero => (acts op (tgtOk_zero w zero)).trans rfl, fun op zero => (acts op (tgtOk_zero w zero)).trans rfl,
      fun op zero => (acts op (tgtOk_zero w zero)).trans rfl, fun op zero column => ?_, fun op zero column => ?_,
      fun op outside => ?_, fun op low high => ?_, fun op zero => (acts op (tgtOk_zero w zero)).trans rfl,
      fun op zero => (acts op (tgtOk_zero w zero)).trans rfl, fun op => ?_,
      fun tgt => ⟨fun op => stops op tgt rfl, fun op => stops op tgt rfl, fun op => stops op tgt rfl,
      fun op => stops op tgt rfl, fun op => stops op tgt rfl, fun op => stops op tgt rfl⟩⟩
    · exact (acts op (tgtOk_zero w zero)).trans
        (congrArg (fun u => Host.Outcome.next (runaway e u)) (if_neg (Nat.not_lt.mpr column)))
    · exact (acts op (tgtOk_zero w zero)).trans
        (congrArg (fun u => Host.Outcome.next (runaway e u)) (if_pos column))
    · have none : ¬ (0x40 ≤ wTgt w ∧ wTgt w < 0x50) := fun ⟨low, high⟩ =>
        outside.elim (Nat.not_lt.mpr low) (Nat.not_le.mpr high)
      exact (acts op (shifts op)).trans (congrArg (fun u => Host.Outcome.next (runaway e u)) (if_neg none))
    · exact (acts op (shifts op)).trans
        (congrArg (fun u => Host.Outcome.next (runaway e u)) (if_pos ⟨low, high⟩))
    · exact congrArg Host.Outcome.next (whorlExec_open _ _ t e s opened (decide_eq_true op) (tgtOk_own w (.inr op)))
  · have goes : ¬ ((decide (16 ≤ e) || (engine e s).state != .waiting || (engine e s).swapOf.isSome || !linkLive s || !hostUp s ||
        decide (s.clk.power = 2)) = true) := by
      rw [waits, free, live, up, decide_eq_false (Nat.not_le.mpr he), decide_eq_false runs]
      decide
    show execWhorlWaitExpiry e s = _
    exact congrArg Host.Outcome.next (if_neg goes)

/-! ### Field pins (R313 to R336) -/

/-- A pin that drives and has not latched is latched by a fault of its driver (R316). -/
theorem latchOutput_drives (i : Nat) (s : State) (mode : pinMode (pinP i s).cfg = 2) (drives : (pinP i s).out = true)
    (free : (pinP i s).latch = false) :
    latchOutput i s = setFioFault (bump (ctr 0x08 0x200) (modPinP i (fun x => { x with latch := true }) s)) :=
  if_neg (by simp [mode, drives, free])

/-- FIO_CFG of pins that may be set so is sent to the P-die. -/
theorem fioCfg_takes (first : Nat) (ws : List Word) (s : State) (fits : first + ws.length ≤ 80) (fine : ws.all pinCfgOk = true)
    (wet : ((List.range 80).filter (fun i =>
      pinWet10 (if first ≤ i ∧ i < first + ws.length then wordAt ws (i - first) else pinWanted i s))).length ≤ 16)
    (live : linkLive s = true) :
    let x := (List.range ws.length).foldl (fun (acc : List Await × State) (i : Nat) =>
      let q := pushCfg (.fio (0x1000 + 4 * (first + i)) (wordAt ws i)) acc.2
      (acc.1 ++ [Await.echo q.1], q.2)) ([], s)
    fioCfg first ws s = (x.2, .waits x.1 []) := by
  intro x
  simp only [fioCfg, fine, live]
  rw [if_neg (Nat.not_lt.mpr fits), if_neg (by decide), if_neg (Nat.not_lt.mpr wet), if_neg (by decide)]

/-- Settles O16: the conditions of each clause leave one branch of its row. -/
theorem fieldPinEventsAndCommandsComplete : Obligations.FieldPinEventsAndCommandsComplete := by
  unfold Obligations.FieldPinEventsAndCommandsComplete
  refine ⟨fun t pins s samples => ?_, fun r s raised some' up => ?_, fun i e s ends => ?_, fun t i s mode drives free => ⟨?_, ?_⟩,
    fun t i s mode hall samples => ?_, fun states s sleep => ?_, fun states s deep => ?_, fun r s h => ?_, fun r s h => ?_, fun r s h => ?_,
    fun r s h => ?_⟩
  · show execDebouncedChange t pins s = _
    exact congrArg Host.Outcome.next (if_neg (by simp [samples]))
  · show execFioEventGapEnd s = _
    simp only [execFioEventGapEnd, raised]
    exact congrArg Host.Outcome.next (if_pos (by simp [Option.isSome_iff_ne_none.mpr some', up]))
  · show execWettingBoostEnd i s = _
    simp only [execWettingBoostEnd, ends]
  · show execOutputTrip t i s = _
    exact congrArg Host.Outcome.next (latchOutput_drives i (toP t s) mode drives free)
  · show execOutputThermal t i s = _
    exact congrArg Host.Outcome.next (latchOutput_drives i (toP t s) mode drives free)
  · show execHallOvercurrent t i s = _
    exact congrArg Host.Outcome.next (if_neg (by simp [mode, hall, samples]))
  · intro due
    show execPoll states s = _
    exact congrArg Host.Outcome.next ((if_pos (.inl sleep)).trans (by simp only [sleep, if_true]; rfl))
  · show execPoll states s = _
    exact congrArg Host.Outcome.next ((if_pos (.inr deep)).trans (by simp [deep]))
  · intro a ws send x count fits fine wet live
    refine exec_ready rfl h rfl ((if_neg ?_).trans (fioCfg_takes _ _ _ fits fine wet live))
    exact fun differs => bne_iff_ne.mp differs count
  · exact exec_done rfl h rfl rfl
  · intro a mask value q outputs live
    exact exec_waits rfl h rfl ((infoFioWrite_run _ _).trans (fioWrite_takes mask value a outputs live))
  · intro a x used bits
    have goes : ¬ (fld 1 0 x.cfg = 0 ∨ (!onlyBits 1 (arg r 0)) = true) := by simp [used, bits]
    refine ⟨fun reads => exec_done rfl h rfl ?_, fun clears live => exec_waits rfl h rfl ?_⟩
    · exact (if_neg goes).trans (if_not_of_false reads)
    · exact (if_neg goes).trans ((if_not_of_true clears).trans (if_not_of_true live))

end Sys2Proof.Machine

/-! ## The rows of CAN, network time, transceivers and the ring -/

namespace Sys2Proof.Machine

/-- What becomes of a sent frame on its channel's ring. -/
def ringTold (k sof : Nat) (f : CanFrame) (s : State) : State :=
  match ringOf k f.w0 f.rtr f.data s with
  | some m => if m.1 = (nmCh k s).addr then ringSent k sof m s else s
  | none => s

/-- A frame that is none of the ring. -/
theorem ringTold_none (k sof : Nat) (f : CanFrame) (s : State) (plain : ringOf k f.w0 f.rtr f.data s = none) :
    ringTold k sof f s = s := by
  unfold ringTold
  rw [plain]

/-- A frame of the ring. -/
theorem ringTold_some (k sof : Nat) (f : CanFrame) (s : State) (m : Nat × Nat × RingFlags × Nat)
    (ring : ringOf k f.w0 f.rtr f.data s = some m) :
    ringTold k sof f s = if m.1 = (nmCh k s).addr then ringSent k sof m s else s := by
  unfold ringTold
  rw [ring]

/-- A frame from the head of URGENT or NORMAL leaves its buffer. -/
theorem txSent_head (t sof k src meas : Nat) (f : CanFrame) (s : State) (head : src < 2) :
    txSent t sof k src meas f s = ringTold k sof f
      (let u := modHead k src (fun _ => none) (frameEnded k t (txGood k (frameFmt f.w0) meas (sofSeen k sof s)))
      if f.conf then canEvent sof k 2 f.handle (natToWords 2 sof) u else u) :=
  congrArg (fun u => ringTold k sof f (if f.conf then canEvent sof k 2 f.handle (natToWords 2 sof) u else u)) (if_pos head)

/-- A frame of a trigger ends the trigger's turn. -/
theorem txSent_trig (t sof k i meas : Nat) (f : CanFrame) (s : State) :
    txSent t sof k (2 + i) meas f s = ringTold k sof f
      (let u := bump (ctr 0x0A 0x102) (modTrig i (fun x => { x with due := none })
        (frameEnded k t (txGood k (frameFmt f.w0) meas (sofSeen k sof s))))
      if f.conf then canEvent sof k 2 f.handle (natToWords 2 sof) u else u) := by
  have trig := congrArg (fun n => bump (ctr 0x0A 0x102) (modTrig n (fun x => { x with due := none })
    (frameEnded k t (txGood k (frameFmt f.w0) meas (sofSeen k sof s))))) (Nat.add_sub_cancel_left 2 i)
  exact congrArg (fun u => ringTold k sof f (if f.conf then canEvent sof k 2 f.handle (natToWords 2 sof) u else u))
    ((if_neg (Nat.not_lt.mpr (Nat.le_add_right 2 i))).trans trig)

/-- Whether an error is muted says nothing about the controllers. -/
theorem rxMuted_canCtl (k : Nat) (data : Bool) (s : State) : canCtl k (rxMuted k data s).2 = canCtl k s := by
  simp only [rxMuted]
  split <;> rfl

/-- A reception error counts in an active controller. -/
theorem rxBad_active (t k lec n : Nat) (data : Bool) (s : State) (active : (canCtl k s).state = .active) :
    rxBad t k lec n data s = passiveEdge k s (bump (ctr 0x0A (0x10 * k + 3)) (modCtl k (fun c =>
      { c with rxErr := min 255 (c.rxErr + n), errCap := errCapWord false data lec, lastEnd := t }) s)) := by
  simp only [rxBad, active]
  rfl

/-- A reception error counts nothing in a controller that only listens. -/
theorem rxBad_other (t k lec n : Nat) (data : Bool) (s : State) (other : (canCtl k s).state ≠ .active) :
    rxBad t k lec n data s = passiveEdge k s (bump (ctr 0x0A (0x10 * k + 3)) (modCtl k (fun c =>
      { c with rxErr := min 255 c.rxErr, errCap := errCapWord false data lec, lastEnd := t }) s)) := by
  simp only [rxBad, beq_false_of_ne other]
  rfl

/-- Settles O17: with no frame left in progress, each row acts where its condition holds. -/
theorem canEventsComplete : Obligations.CanEventsComplete := by
  unfold Obligations.CanEventsComplete
  refine ⟨fun t k x s h => ?_, fun t sof k src meas f s clear head => ?_, fun t sof k i meas f s clear => ?_,
    fun t k src lec data quiet s clear frame => ?_, fun t k lec data quiet s clear => ?_, fun t k src s clear => ?_,
    fun k e s ends off => ?_, fun t k s state => ?_, fun t k s state => ?_, fun t k lec data s state => ?_,
    fun t k lec data eight s clear => ?_⟩
  · intro u ring ref
    exact congrArg Host.Outcome.next (frameValid_plain t k x s h ring ref)
  · intro a offer active picked driven u v
    have ok : ((offered k src a).isSome && (canCtl k a).state == .active && chosen k src sof a && drives k sof a) = true := by
      rw [offer, active, picked, driven]
      rfl
    have sent : exec (.canTxSuccess t sof k src meas) s = .next (txSent t sof k src meas f a) := by
      show execCanTxSuccess t sof k src meas s = _
      refine congrArg Host.Outcome.next ((onFrame_clear k sof _ _ s clear ok).trans ?_)
      simp only [show offered k src (settleTrigs (toL t s)) = some f from offer]
      rfl
    have told := txSent_head t sof k src meas f a head
    exact ⟨fun plain => sent.trans (congrArg Host.Outcome.next (told.trans (ringTold_none k sof f v plain))),
      fun m ring => sent.trans (congrArg Host.Outcome.next (told.trans (ringTold_some k sof f v m ring)))⟩
  · intro a offer active picked driven quiet u plain
    have ok : ((offered k (2 + i) a).isSome && (canCtl k a).state == .active && chosen k (2 + i) sof a && drives k sof a) = true := by
      rw [offer, active, picked, driven]
      rfl
    show execCanTxSuccess t sof k (2 + i) meas s = _
    refine congrArg Host.Outcome.next ((onFrame_clear k sof _ _ s clear ok).trans ?_)
    simp only [show offered k (2 + i) (settleTrigs (toL t s)) = some f from offer]
    refine (txSent_trig t sof k i meas f a).trans ?_
    rw [quiet]
    exact ringTold_none k sof f u plain
  · intro a tried b c u
    show execCanTxError t k src lec data quiet s = _
    refine congrArg Host.Outcome.next ((onFrame_clear k 0 _ _ s clear ((if_neg frame).trans tried)).trans ?_)
    exact if_neg frame
  · intro a active u
    have ok : ((canCtl k a).state == .active) = true := beq_iff_eq.mpr active
    show execCanTxError t k 19 lec data quiet s = _
    exact congrArg Host.Outcome.next (onFrame_clear k 0 _ _ s clear ok)
  · intro a tried u
    show execArbitrationLoss t k src s = _
    exact congrArg Host.Outcome.next (onFrame_clear k 0 _ _ s clear tried)
  · show execBoffDelayEnd k s = _
    simp only [execBoffDelayEnd, ends, off, if_true]
  · show execRecoveryDone t k s = _
    exact congrArg Host.Outcome.next (if_neg (by simp [state]))
  · intro off u
    show execIntegrationDone t k s = _
    have goes : ¬ (((canCtl k (toL t s)).state != .integrating) = true) := by simp [state]
    have target : targetState k (toL t s) = if off = true ∧ bit 16 (canCtl k s).cfg.ctl = true then .restricted
        else if off = true then .stopped else modeState (canCtl k s).cfg.mode := by
      show (if off = true then (if bit 16 (canCtl k s).cfg.ctl then CanState.restricted else .stopped)
        else modeState (canCtl k s).cfg.mode) = _
      cases off <;> cases bit 16 (canCtl k s).cfg.ctl <;> rfl
    refine congrArg (fun u => Host.Outcome.next (reformIfDue k u)) ((if_neg goes).trans ?_)
    exact congrArg (fun x => cfgDone k .done (syncTrx k (modCtl k (fun c => { c with state := x, tail := none }) (toL t s)))) target
  · show execRestrictedError t k lec data s = _
    exact congrArg Host.Outcome.next (if_neg (by simp [state]))
  · intro r
    have kept : canCtl k r.2 = canCtl k s := rxMuted_canCtl k data (toL t s)
    refine ⟨fun active => ?_, fun monitors => ?_⟩
    · show execCanRxError t k lec data eight s = _
      refine congrArg Host.Outcome.next ((onFrame_clear k 0 _ _ s clear (by rw [active]; rfl)).trans ?_)
      exact rxBad_active t k lec _ data r.2 (by rw [kept, active])
    · show execCanRxError t k lec data eight s = _
      refine congrArg Host.Outcome.next ((onFrame_clear k 0 _ _ s clear (by rw [monitors]; rfl)).trans ?_)
      exact rxBad_other t k lec _ data r.2 (by rw [kept, monitors]; decide)

/-- The frames of network time are those of its channel, with what their first byte and the ring say. -/
theorem frameValid_reference (t sof k p q : Nat) (w0 : Word) (data : List Byte) (s : State) (ref : refPrio k w0 false data s = some q)
    (h : canOpen k (plainFrame sof w0 data) s = true)
    (ring : ringOf k w0 false data (frameTaken t k (plainFrame sof w0 data) s) = none)
    (prio : refPrio k w0 false data (frameTaken t k (plainFrame sof w0 data) s) = some p)
    (on : groupOff 0x06 (frameTaken t k (plainFrame sof w0 data) s) = false) :
    execReferenceMessage t sof k w0 data s = .next (refReceived p sof data (frameTaken t k (plainFrame sof w0 data) s)) := by
  refine congrArg Host.Outcome.next ((if_pos (by rw [ref]; rfl)).trans ?_)
  exact frameValid_ref t k p (plainFrame sof w0 data) s h ring prio on

/-- Settles O18: each row's conditions leave one branch of it. -/
theorem networkTimeEventsComplete : Obligations.NetworkTimeEventsComplete := by
  unfold Obligations.NetworkTimeEventsComplete
  refine ⟨fun t i s hi up on => ?_, fun i d s due => ?_, fun t sof k p q w0 data s ref h => ?_, fun t sof s => ?_,
    fun b s base up sends synced role => ?_⟩
  · intro u n start x enabled full timed based at' turn fresh
    have outer : ¬ (16 ≤ i ∨ (!hostUp s) = true ∨ groupOff 0x06 s = true) := by simp [hi, up, on]
    have fires : (bit 31 x.cfg && x.buf.isSome && (n.synced || n.sending) && n.base.isSome && t == n.pointAt t (fld 19 0 x.cfg * 200) &&
        n.countAt t % 2 ^ fld 29 27 x.cfg == fld 26 21 x.cfg % 2 ^ fld 29 27 x.cfg && x.fired != some start) = true := by
      rw [enabled, Option.isSome_iff_ne_none.mpr full, (Bool.or_eq_true _ _).mpr timed, Option.isSome_iff_ne_none.mpr based,
        beq_iff_eq.mpr at', beq_iff_eq.mpr turn, bne_iff_ne.mpr fresh]
      rfl
    show execTriggerFire t i s = _
    exact congrArg Host.Outcome.next ((if_neg outer).trans (if_pos fires))
  · intro u up due'
    have misses : (hostUp s && (nth u.can.trigs i).due.isSome) = true := by
      rw [up, Option.isSome_iff_ne_none.mpr due']
      rfl
    show execTriggerMiss i s = _
    simp only [execTriggerMiss, due]
    exact congrArg Host.Outcome.next (if_pos misses)
  · intro u ring prio on
    exact frameValid_reference t sof k p q w0 data s ref h ring prio on
  · intro n k fmt clear up on active starts late driven w time data u
    have ok : (hostUp s && !groupOff 0x06 s && (canCtl k s).state == .active && refStart k sof s == some t && decide (t ≤ sof) &&
        drives k sof s) = true := by
      rw [up, on, active, starts, decide_eq_true late, driven]
      simp
    show execReferenceSend t sof s = _
    exact congrArg Host.Outcome.next (onFrame_clear k sof _ _ s clear ok)
  · intro n t u v
    have goes : ¬ ((!hostUp s) = true ∨ s.can.nt.sending = true ∨ s.can.nt.role = 0 ∨
        (s.can.nt.role = 1 ∧ (!s.can.nt.synced) = true)) := by
      simp [up, sends, role, synced]
    show execNtLoss s = _
    simp only [execNtLoss, base]
    exact congrArg Host.Outcome.next ((if_neg goes).trans (if_pos synced))

/-- Settles O19: each row's conditions leave one branch of it. -/
theorem transceiverAndGatewayEventsComplete : Obligations.TransceiverAndGatewayEventsComplete := by
  unfold Obligations.TransceiverAndGatewayEventsComplete
  refine ⟨fun t n a b c s hn stands => ?_, fun t n dlc head data s hn stands picks warm => ⟨fun few => ?_, fun many => ?_⟩,
    fun t n s hn stands picks warm => ?_, fun t n s hn runs => ?_, fun t n s hn runs => ⟨fun cool => ?_, fun hot => ?_⟩,
    fun t c s hc wake untold live up on => ?_, fun t m peer data s hm up on link from' => ?_, fun t m s hm up words => ?_,
    fun t g s hg up => ?_, fun t m up fast s hm host enabled => ?_, fun t m fast s hm host enabled => ?_⟩
  · intro p q r hp hq hr quick
    have counts : (p.1 && q.1 && r.1 && decide (a + b + c ≤ fld 15 12 (trxP n r.2).cfg * 1000000)) = true := by
      rw [hp, hq, hr, decide_eq_true quick]
      rfl
    show execWakeUpPattern t n a b c s = _
    exact congrArg Host.Outcome.next ((if_neg (by simp [hn, stands])).trans (if_pos counts))
  · intro u
    show execWakeUpFrame t n head dlc data s = _
    exact congrArg Host.Outcome.next ((if_neg (by simp [hn, stands, picks, warm])).trans (if_neg (Nat.not_le.mpr few)))
  · show execWakeUpFrame t n head dlc data s = _
    exact congrArg Host.Outcome.next ((if_neg (by simp [hn, stands, picks, warm])).trans (if_pos many))
  · show execFecWake t n s = _
    exact congrArg Host.Outcome.next (if_neg (by simp [hn, stands, picks, warm]))
  · show execTxdDomTimeout t n s = _
    exact congrArg Host.Outcome.next (if_neg (by simp [hn, runs]))
  · show execTrxThermal t n true s = _
    exact congrArg Host.Outcome.next (if_neg (by simp [hn, cool, runs]))
  · show execTrxThermal t n false s = _
    exact congrArg Host.Outcome.next (if_neg (by simp [hn, hot, runs]))
  · intro u
    show execNmWake t c s = _
    exact congrArg Host.Outcome.next (if_neg (by simp [hc, wake, untold, live, up, on]))
  · show execGwDatagramRx t m peer data s = _
    exact congrArg Host.Outcome.next (if_neg (by simp [Nat.not_le.mpr hm, up, on, link, from']))
  · have full : (nth s.nm.gw.fill m).words.isEmpty = false := List.isEmpty_eq_false_iff.mpr words
    show execGwDatagramSend t m s = _
    refine congrArg Host.Outcome.next ((if_neg (by simp [Nat.not_le.mpr hm, up, full])).trans ?_)
    exact if_neg (by simp [full])
  · show execSegmentIsolation t g s = _
    exact congrArg Host.Outcome.next (if_pos ⟨hg, up⟩)
  · intro rises steady opened rate
    subst rises
    show execMacLinkChange t m true fast s = _
    exact congrArg Host.Outcome.next (if_neg (by simp [Nat.not_le.mpr hm, host, enabled, steady, opened]))
  · show execMacLinkChange t m false fast s = _
    exact congrArg Host.Outcome.next (if_neg (by simp [Nat.not_le.mpr hm, host, enabled]))

/-- Settles O20: each row's conditions leave one branch of it. -/
theorem ringEventsComplete : Obligations.RingEventsComplete := by
  unfold Obligations.RingEventsComplete
  refine ⟨fun t sof k w0 data f m s flags h => ?_, fun c e s token runs turn => ⟨fun goes => ?_, fun claim low => ?_⟩,
    fun c a e s succ sent runs phase => ?_, fun c a s heard up => ?_, fun c s runs phase _ fresh => ?_, fun c e s restart runs => ?_,
    fun t c s runs silent => ?_, fun c s phase runs awake => ?_, fun t c s phase wakes runs => ?_⟩
  · intro u ring ref
    have received := congrArg (Host.Outcome.next (φ := Fault) (ρ := Refusal))
      (frameValid_ring t k (plainFrame sof w0 data) s m h ring ref)
    refine ⟨fun commit wake => Eq.trans ?_ received, fun commit => Eq.trans ?_ received, fun wake => Eq.trans ?_ received⟩
    · show execRingFrameRx t sof k w0 data s = _
      simp only [execRingFrameRx, flags, commit, wake]
      rfl
    · show execCommitRx t sof k w0 data s = _
      simp only [execCommitRx, flags, commit, if_true]
    · show execWakeFrameRx t sof k w0 data s = _
      simp only [execWakeFrameRx, flags, wake, if_true]
  · intro u
    have here : ¬ ((!nmRuns c s) = true ∨ (!((nmCh c s).phase == 1 || ((nmCh c s).phase == 2 && (nmCh c s).claim))) = true) := by
      rcases turn with turn | ⟨turn, claim⟩
      · simp [runs, turn]
      · simp [runs, turn, claim]
    have passes : ¬ (((nmCh c s).claim && (bitList 64 (nmCh c s).pres).head? != some (nmCh c s).addr) = true) := by
      rw [Bool.and_eq_true, bne_iff_ne]
      exact goes
    show execTokenSend c s = _
    simp only [execTokenSend, token]
    exact congrArg Host.Outcome.next ((if_neg here).trans (if_neg passes))
  · have here : ¬ ((!nmRuns c s) = true ∨ (!((nmCh c s).phase == 1 || ((nmCh c s).phase == 2 && (nmCh c s).claim))) = true) := by
      rcases turn with turn | ⟨turn, -⟩
      · simp [runs, turn]
      · simp [runs, turn, claim]
    have yields : ((nmCh c s).claim && (bitList 64 (nmCh c s).pres).head? != some (nmCh c s).addr) = true := by
      rw [Bool.and_eq_true, bne_iff_ne]
      exact ⟨claim, low⟩
    show execTokenSend c s = _
    simp only [execTokenSend, token]
    exact congrArg Host.Outcome.next ((if_neg here).trans (if_pos yields))
  · show execSuccessorTimeout c s = _
    simp only [execSuccessorTimeout, succ, sent]
    exact congrArg Host.Outcome.next (if_neg (by simp [runs, phase]))
  · show execPresenceTimeout c a s = _
    exact congrArg Host.Outcome.next (if_neg (by simp [heard, up]))
  · intro u
    show execReformSend c s = _
    exact congrArg Host.Outcome.next (if_neg (by simp [runs, phase, fresh]))
  · intro u
    show execRingRestartFrame c s = _
    simp only [execRingRestartFrame, restart]
    exact congrArg Host.Outcome.next (if_neg (by simp [runs]))
  · show execAloneDeclare t c s = _
    exact congrArg Host.Outcome.next (if_pos ⟨runs, silent⟩)
  · intro u
    show execSilenceTick c s = _
    refine congrArg Host.Outcome.next ((if_neg (by simp [phase, runs])).trans ?_)
    exact if_neg (by simp [awake])
  · show execWakeQuietGap t c s = _
    exact congrArg Host.Outcome.next (if_neg (by simp [phase, wakes, runs]))

end Sys2Proof.Machine

/-! ## The rows of cores, fault collector, keys, stores and clocks -/

namespace Sys2Proof.Machine

/-- A kick bound to no time, with the right value (R440). -/
theorem kick_first (c v : Nat) (s : State) (first : (nth s.spindle.wdog c).last = none)
    (right : v = (if (nth s.spindle.wdog c).expectA5 then 0xA5 else 0x5A)) :
    kick c v s = modWdog c (fun w => { w with last := some s.now, expectA5 := !w.expectA5, expired := false }) s := by
  refine if_neg ?_
  rw [first, bne_eq_false_iff_eq.mpr right]
  exact Bool.false_ne_true

/-- A kick with a wrong value (R440). -/
theorem kick_wrong (c v : Nat) (s : State) (wrong : v ≠ (if (nth s.spindle.wdog c).expectA5 then 0xA5 else 0x5A)) :
    kick c v s = reportL 0x043 c
      (modWdog c (fun w => { w with last := some s.now, expectA5 := !w.expectA5, expired := false }) s) := by
  refine if_pos ?_
  rw [bne_iff_ne.mpr wrong, Bool.true_or]

/-- Settles O21: each row's conditions leave one branch of it. -/
theorem coreAndCollectorEventsComplete : Obligations.CoreAndCollectorEventsComplete := by
  unfold Obligations.CoreAndCollectorEventsComplete
  refine ⟨fun t c v s core runs moves => ?_, fun t s up pair => ⟨?_, ?_⟩, fun miss s up pair awake => ?_,
    fun c t s last core runs fresh => ?_, fun t addr access master core s up => ?_, fun t src inst detail addr access master s up => ?_,
    fun s on => ?_⟩
  · intro u w x
    have kicks : exec (.wdogKick t c v) s = .next (kick c v u) := by
      show execWdogKick t c v s = _
      exact congrArg Host.Outcome.next (if_pos (by simp [core, runs, moves]))
    exact ⟨fun first right => kicks.trans (congrArg Host.Outcome.next (kick_first c v u first right)),
      fun wrong => kicks.trans (congrArg Host.Outcome.next (kick_wrong c v u wrong))⟩
  · show execLockstepMismatch t s = _
    exact congrArg Host.Outcome.next (if_neg (by simp [up, pair]))
  · show execDelayCopyError t s = _
    exact congrArg Host.Outcome.next (if_neg (by simp [up, pair]))
  · intro u m v
    show execCheckerSelfTest miss s = _
    exact congrArg Host.Outcome.next (if_neg (by simp [up, pair, awake]))
  · show execWatchdogExpiry c s = _
    simp only [execWatchdogExpiry, last]
    exact congrArg Host.Outcome.next (if_pos (by simp [core, runs, fresh]))
  · intro u v
    refine ⟨?_, ?_, ?_⟩
    · show execMemoryError t 0 addr access master core s = _
      exact congrArg Host.Outcome.next (if_not_of_true up)
    · show execMemoryError t 1 addr access master core s = _
      exact congrArg Host.Outcome.next (if_not_of_true up)
    · show execMemoryError t 2 addr access master core s = _
      exact congrArg Host.Outcome.next (if_not_of_true up)
  · intro u
    refine ⟨fun raises => ?_, fun split low high => ?_⟩
    · have can : raisable src u = true := by
        rw [raisable]
        rcases raises with split | low | high
        · rw [split]
          rfl
        · rw [decide_eq_false (Nat.not_le.mpr low), Bool.and_false, Bool.false_and]
          rfl
        · rw [decide_eq_false (Nat.not_le.mpr high), Bool.and_false]
          rfl
      show execFaultReport t src inst detail addr access master s = _
      exact congrArg Host.Outcome.next ((if_not_of_true up).trans (congrArg runResets (if_not_of_true can)))
    · have cannot : raisable src u = false := by
        rw [raisable, split, decide_eq_true low, decide_eq_true high]
        rfl
      show execFaultReport t src inst detail addr access master s = _
      exact congrArg Host.Outcome.next ((if_not_of_true up).trans (congrArg runResets (if_not_of_false cannot)))
  · intro u
    show execAlvToggle s = _
    exact congrArg Host.Outcome.next (if_neg on)

/-- Settles O22: each row's conditions leave one branch of it. -/
theorem keyEventsComplete : Obligations.KeyEventsComplete := by
  unfold Obligations.KeyEventsComplete
  refine ⟨fun t z s zero => ?_, fun t a b s locked live up => ?_, fun t table s writes => ?_, fun t s works on runs => ?_,
    fun t s on runs => ?_, fun t ok rest s pend => ?_, fun t n ok rest s pend => ?_⟩
  · intro u next
    have row : exec (.zeroisationStepDone t) s = .next (
        if z.step = 0 then next 1 (zeroStep1 z u)
        else if (z.step = 1 && !s.keys.trngFail) = true then completeAll .erase .done (fun _ => []) (next 2 (zeroStep2 u))
        else if z.step = 1 then completeAll .erase .faultActive (fun _ => [])
          (zeroEnd z.code (modKeys (fun k => { k with nonceHeld := some z.code }) (zeroStep3 u)))
        else zeroEnd z.code (zeroStep3 u)) := by
      show execZeroisationStepDone t s = _
      simp only [execZeroisationStepDone, zero]
      rfl
    refine ⟨fun first => row.trans ?_, fun second works => row.trans ?_, fun second failed => row.trans ?_, fun last => row.trans ?_⟩
    · rw [if_pos first]
    · rw [if_neg (by omega), if_pos (by simp [second, works])]
    · rw [if_neg (by omega), if_neg (by simp [failed]), if_pos second]
    · rw [if_neg (by omega), if_neg (by simp; omega), if_neg (by omega)]
  · intro u
    show execKeyStoreReady t a b s = _
    simp only [execKeyStoreReady, locked, live, up, toL_keys, Bool.or_eq_true, decide_eq_true_eq, or_assoc]
    rfl
  · intro u
    refine ⟨?_, fun again => ?_, fun failed => ?_⟩
    · show execKeyBankVerified t true s = _
      simp only [execKeyBankVerified, keyBankVerified, writes, if_true]
      rfl
    · show execKeyBankVerified t false s = _
      simp only [execKeyBankVerified, keyBankVerified, writes, toL_keys, again, if_true, Bool.false_eq_true, if_false]
      rfl
    · show execKeyBankVerified t false s = _
      simp only [execKeyBankVerified, keyBankVerified, writes, toL_keys, Nat.not_lt.mpr failed, Bool.false_eq_true, if_false]
      rfl
  · show execTrngHealthFail t s = _
    exact congrArg Host.Outcome.next (if_neg (by simp [works, trngRuns, on, runs]))
  · intro u
    have tests : trngRuns s = true := by simp [trngRuns, on, runs]
    have passed : modKeys (fun k => { k with trngFail := k.trngFail && !trngRuns s }) (toL t s) = u := by
      simp only [tests, Bool.not_true, Bool.and_false]
      rfl
    have waiting : (if trngRuns u then u.keys.nonceHeld else none) = s.keys.nonceHeld := if_pos tests
    refine ⟨fun none => ?_, fun code held => ?_⟩
    · show execTrngHealthPass t s = _
      simp only [execTrngHealthPass, passed, waiting, none]
    · intro v
      show execTrngHealthPass t s = _
      simp only [execTrngHealthPass, passed, waiting, held, Bool.and_eq_true, decide_eq_true_eq, beq_iff_eq]
      rfl
  · show execOtpProgramDone t ok s = _
    simp only [execOtpProgramDone, pend, if_true]
  · show execOtpProgramDone t ok s = _
    simp only [execOtpProgramDone, pend]
    rfl

/-- Settles O23: each row's conditions leave one branch of it. -/
theorem storeEventsComplete : Obligations.StoreEventsComplete := by
  unfold Obligations.StoreEventsComplete
  refine ⟨fun t edits s writes => ⟨?_, fun again => ?_, fun failed => ?_⟩, fun t bad s up => ?_, fun t b s hands runs => ?_,
    fun t b s hands runs => ?_⟩
  · show execCfgBankVerified t true s = _
    simp only [execCfgBankVerified, writes, if_true]
  · show execCfgBankVerified t false s = _
    simp only [execCfgBankVerified, writes, toL_store, again, if_true, Bool.false_eq_true, if_false]
  · show execCfgBankVerified t false s = _
    simp only [execCfgBankVerified, writes, toL_store, Nat.not_lt.mpr failed, Bool.false_eq_true, if_false]
  · intro u
    have up' : hostUp u = true := up
    refine ⟨fun op => ?_, fun op => ?_, fun op => ?_, fun op => ?_, fun op doing other => ?_⟩
    · show execUpdateWriteVerified t true bad s = _
      simp only [execUpdateWriteVerified, op]
      exact congrArg Host.Outcome.next (if_not_of_true up)
    · show execUpdateWriteVerified t true bad s = _
      simp only [execUpdateWriteVerified, op]
      exact congrArg Host.Outcome.next (if_not_of_true up)
    · show execUpdateWriteVerified t true bad s = _
      simp only [execUpdateWriteVerified, op]
      exact congrArg Host.Outcome.next (if_not_of_true up)
    · show execUpdateWriteVerified t true bad s = _
      simp only [execUpdateWriteVerified, op]
      exact congrArg Host.Outcome.next (if_not_of_true up)
    · show execUpdateWriteVerified t false bad s = _
      simp only [execUpdateWriteVerified, doing]
      exact congrArg Host.Outcome.next ((if_not_of_true up).trans (if_pos (by simp [other])))
  · intro u pause v w x
    show execHandover t s = _
    simp only [execHandover, hands]
    exact congrArg Host.Outcome.next (if_neg (by simp [runs]))
  · show execHandoverFailure t s = _
    exact congrArg Host.Outcome.next (if_neg (by simp [hands, runs]))

/-! ### Power and clock opcodes (R585 to R588) -/

/-- A change for the P-die is sent while the link is LIVE. -/
theorem writeP_live (i : CfgItem) (s : State) (live : linkLive s = true) :
    writeP i s = ((pushCfg i s).2, .wait (.echo (pushCfg i s).1) false []) :=
  if_pos live

/-- PWR_STATE_REQ of a low-power state that nothing forbids begins the entry. -/
theorem pwrStateReq_takes (e : Entry) (s : State) (fits : wakeFits (obj e.req) (arg e.req 0) s = true) (low : 2 ≤ obj e.req)
    (free : s.clk.entry = none) (idle : s.store.upd.state = 0 ∨ 4 ≤ s.store.upd.state)
    (quiet : bit 0 (arg e.req 0) = true ∨ quietFor (obj e.req) s = true) :
    pwrStateReq e s = (stopRun 6 (modClk (fun c =>
      { c with entry := some { target := obj e.req, since := s.now, force := bit 0 (arg e.req 0), slot := e.req.slot, tag := e.req.tag }
               wakeHeard := 0 }) s), .wait .power true []) := by
  have busy : ¬ ((s.clk.entry.isSome || (decide (1 ≤ s.store.upd.state) && decide (s.store.upd.state ≤ 3))) = true) := by
    rw [free, Option.isSome_none, Bool.false_or, Bool.and_eq_true, decide_eq_true_eq, decide_eq_true_eq]
    omega
  have works : ¬ ((!bit 0 (arg e.req 0) && !quietFor (obj e.req) s) = true) := by
    rcases quiet with quiet | quiet <;> simp [quiet]
  exact (if_not_of_true fits).trans ((if_neg (Nat.not_lt.mpr low)).trans ((if_neg busy).trans (if_neg works)))

/-- PWR_STATE_REQ of RUN or IDLE. -/
theorem pwrStateReq_runs (e : Entry) (s : State) (fits : wakeFits (obj e.req) (arg e.req 0) s = true) (high : obj e.req < 2) :
    pwrStateReq e s = (if obj e.req = 0 then restartWdogs (modClk (fun c => { c with power := obj e.req }) s)
      else modClk (fun c => { c with power := obj e.req }) s, .done [word (obj e.req)]) :=
  (if_not_of_true fits).trans (if_pos high)

/-- CLK_GATE of units that it may close and open. -/
theorem clkGate_takes (r : Req) (s : State) (apart : arg r 0 &&& arg r 1 = 0) (close : onlyBits 0x1FFFF (arg r 0) = true)
    (opn : onlyBits 0x1FFFF (arg r 1) = true) (own : ∀ n, portUnit r.port = some n → bit n (arg r 0) = false) :
    clkGate r s = ((List.range 12).foldl (fun u k => if bit k (arg r 1) && s.clk.gate.testBit k then startCtl k u else u)
      (modClk (fun c =>
        { c with gate := c.gate - (c.gate &&& (arg r 1).toNat)
                 gatePend := (c.gatePend - (c.gatePend &&& (arg r 1).toNat)) |||
                   ((arg r 0).toNat - ((arg r 0).toNat &&& c.gate)) }) s), .done []) := by
  have bits : ¬ ((arg r 0 &&& arg r 1 != 0 || !onlyBits 0x1FFFF (arg r 0) || !onlyBits 0x1FFFF (arg r 1)) = true) := by
    simp [apart, close, opn]
  have port : ¬ (((portUnit r.port).map (fun u => bit u (arg r 0))).getD false = true) := by
    cases unit : portUnit r.port with
    | none => exact Bool.false_ne_true
    | some n => exact fun owned => Bool.false_ne_true ((own n unit).symm.trans owned)
  exact (if_neg bits).trans (if_neg port)

/-- WAKE_CFG of words that it takes goes to the P-die. -/
theorem wakeCfg_takes (r : Req) (s : State) (en : onlyBits 0x3FFF (arg r 0) = true) (pin : onlyBits 0xF00FF (arg r 1) = true)
    (timer : (arg r 2).toNat ≤ 86400) (live : linkLive s = true) :
    wakeCfg r s =
      (let q := pushCfg (.wake (arg r 0) (edgeWritten (wakeComing s).2.1 (fld 7 0 (arg r 1))) (arg r 2).toNat) s
      (q.2, .wait (.echo q.1) false [])) := by
  have fine : ¬ ((!onlyBits 0x3FFF (arg r 0) || !onlyBits 0xF00FF (arg r 1) || decide (86400 < (arg r 2).toNat)) = true) := by
    simp [en, pin, timer]
  exact (if_neg fine).trans (writeP_live _ s live)

/-- Settles O24: the conditions of each clause leave one branch of its row. -/
theorem clockEventsAndPowerCommandsComplete : Obligations.ClockEventsAndPowerCommandsComplete := by
  unfold Obligations.ClockEventsAndPowerCommandsComplete
  refine ⟨fun t outcome s => ?_, fun t s up runs => ?_, fun s coasts auto free up => ?_, fun t rc forced s switches up => ?_,
    fun t s up runs locked => ?_, fun t n s hn pends idle up => ?_, fun r s h => ?_, fun r s h => exec_done rfl h rfl rfl, fun r s h => ?_,
    fun r s h => ?_⟩
  · intro u v
    refine ⟨fun switches => ?_, fun free starts released crystal ok absent bad => ?_⟩
    · show execXiMeasurement t outcome s = _
      simp only [execXiMeasurement, toL_clk, switches]
      rfl
    · have goes : ¬ ((s.ldie != .starting || s.clk.step != .released || s.clk.pref || s.clk.xtalOk || s.clk.xtalAbsent ||
          s.clk.xtalBad) = true) := by
        simp [starts, released, crystal, ok, absent, bad]
      show execXiMeasurement t outcome s = _
      simp only [execXiMeasurement, toL_clk, free]
      exact congrArg Host.Outcome.next (if_neg goes)
  · intro u v w x
    show execRootFailure t s = _
    exact congrArg Host.Outcome.next (if_neg (by simp [up, runs]))
  · show execAutoRcSwitch s = _
    exact congrArg Host.Outcome.next (if_pos (by simp [coasts, auto, free, up]))
  · intro u v
    show execRootSwitchLock t forced s = _
    simp only [execRootSwitchLock, toL_clk, switches]
    exact congrArg Host.Outcome.next (if_not_of_true up)
  · show execPllLockLoss t s = _
    exact congrArg Host.Outcome.next (if_neg (by simp [up, runs, locked]))
  · show execUnitGateClosed t n s = _
    exact congrArg Host.Outcome.next (if_neg (by simp [Nat.not_le.mpr hn, pends, idle, up]))
  · intro a target u fits
    exact ⟨fun high => exec_done rfl h rfl (pwrStateReq_runs _ a fits high),
      fun low free idle quiet => exec_waits rfl h rfl (pwrStateReq_takes (takenEntry infoPwrStateReq r s) a fits low free idle quiet)⟩
  · intro a close opn u apart closes opens own
    exact exec_done rfl h rfl (clkGate_takes r a apart closes opens own)
  · intro a q en pin timer live
    exact exec_waits rfl h rfl (wakeCfg_takes r a en pin timer live)

end Sys2Proof.Machine

/-! ## The rows of power states, rails, resets, starts and ranging -/

namespace Sys2Proof.Machine

/-- An edge of a WAKE ball that its EDGE asks for; the other sources have none. -/
theorem wakeEdge_fits (src : Nat) (up : Bool) (edge : Nat) (fits : src < 4 → edge = 3 ∨ edge = (if up then 1 else 2)) :
    (decide (4 ≤ src) || (up && (edge == 1 || edge == 3)) || (!up && (edge == 2 || edge == 3))) = true := by
  by_cases ball : src < 4
  · rcases fits ball with both | one
    · cases up <;> simp [both]
    · cases up <;> simp [one]
  · rw [decide_eq_true (Nat.not_lt.mp ball)]
    rfl

/-- Settles O25: the conditions of each clause leave one branch of its row. -/
theorem powerEntryAndRailEventsComplete : Obligations.PowerEntryAndRailEventsComplete := by
  unfold Obligations.PowerEntryAndRailEventsComplete
  refine ⟨fun t e s entry phase => ?_, fun e s entry phase => ?_, fun t e s entry phase target latched left => ?_,
    fun t src up s hsrc enabled edge => ?_, fun t status q rest s reqs => ?_, fun t s off deep waking free => ?_,
    fun t rail s starts released => ?_, fun t r s waits off => ?_⟩
  · intro u early done
    have goes : ¬ ((decide (5 ≤ e.phase) || decide (e.since + phaseLimit e.phase < u.now) || !phaseDone e u) = true) := by
      rw [decide_eq_false (Nat.not_le.mpr phase), decide_eq_false (Nat.not_lt.mpr early), done]
      decide
    have row {v : State} (branch : (if (e.latched != 0) = true then abandon e.phase e u
        else if e.phase = 4 then passLast e u
        else beginPhase (e.phase + 1) e.target
          (modClk (fun c => { c with entry := some { e with phase := e.phase + 1, since := u.now } }) u)) = v) :
        exec (.abortPoint t) s = .next v := by
      show execAbortPoint t s = _
      simp only [execAbortPoint, toL_clk, entry]
      exact congrArg Host.Outcome.next ((if_neg goes).trans branch)
    refine ⟨fun latched => row (if_pos (bne_iff_ne.mpr latched)), fun none last => row ?_, fun none other => row ?_⟩
    · exact (if_neg (by simp [none])).trans (if_pos last)
    · exact (if_neg (by simp [none])).trans (if_neg other)
  · show execEntryPhaseTimeout s = _
    simp only [execEntryPhaseTimeout, entry]
    exact congrArg Host.Outcome.next (if_neg (Nat.not_le.mpr phase))
  · show execEntryCommit t s = _
    simp only [execEntryCommit, toL_clk, toL_host, entry, left, target, latched, decide_eq_false (Nat.not_lt.mpr phase)]
    rfl
  · intro u v w asked
    have wakeEdge : u.clk.wakeEdge = s.clk.wakeEdge := by simp only [u]; split <;> rfl
    have wakeEn : u.clk.wakeEn = s.clk.wakeEn := by simp only [u]; split <;> rfl
    have power : u.clk.power = s.clk.power := by simp only [u]; split <;> rfl
    have entry : u.clk.entry = s.clk.entry := by simp only [u]; split <;> rfl
    have waking : u.clk.waking = s.clk.waking := by simp only [u]; split <;> rfl
    have row {x : State} (listens : (u.clk.entry.isSome || decide (2 ≤ u.clk.power)) = true)
        (acts : (wakeActs ((u.clk.entry.map (fun e => e.target)).getD u.clk.power)).testBit src = true)
        (branch : (if (decide (u.clk.power < 2) || u.clk.waking) = true then v else if u.clk.power = 2 then w else wakePDie w) = x) :
        exec (.wakeLatch t src up) s = .next x := by
      have goes : ¬ ((decide (14 ≤ src) || !(u.clk.entry.isSome || decide (2 ≤ u.clk.power)) ||
          !(decide (4 ≤ src) || (up && ((u.clk.wakeEdge >>> (2 * src)) % 4 == 1 || (u.clk.wakeEdge >>> (2 * src)) % 4 == 3)) ||
            (!up && ((u.clk.wakeEdge >>> (2 * src)) % 4 == 2 || (u.clk.wakeEdge >>> (2 * src)) % 4 == 3))) ||
          !bit src u.clk.wakeEn || !(wakeActs ((u.clk.entry.map (fun e => e.target)).getD u.clk.power)).testBit src ||
          !wakeRequested src u) = true) := by
        rw [listens, acts, wakeEdge, wakeEdge_fits src up _ edge, wakeEn, enabled, asked, decide_eq_false (Nat.not_le.mpr hsrc)]
        decide
      show execWakeLatch t src up s = _
      exact congrArg Host.Outcome.next ((if_neg goes).trans branch)
    refine ⟨fun e enters acts awake => row ?_ ?_ (if_pos ?_), fun none low acts sleeps => row ?_ ?_ ((if_neg ?_).trans ?_)⟩
    · rw [entry, enters]
      rfl
    · rw [entry, enters]
      exact acts
    · rw [power, decide_eq_true awake]
      rfl
    · rw [power, decide_eq_true low, Bool.or_true]
    · rw [entry, none, power]
      exact acts
    · rw [power, waking, sleeps, decide_eq_false (Nat.not_lt.mpr low)]
      decide
    · rw [power]
  · intro u v
    refine ⟨fun met => ?_, fun again => ?_, fun last => ?_⟩
    · show execRegRequestAcknowledged t status s = _
      simp only [execRegRequestAcknowledged, toL_clk, reqs]
      exact congrArg Host.Outcome.next (if_pos met)
    · show execRegRequestTimeout t status s = _
      simp only [execRegRequestTimeout, toL_clk, reqs]
      exact congrArg Host.Outcome.next (if_pos again)
    · show execRegRequestTimeout t status s = _
      simp only [execRegRequestTimeout, toL_clk, reqs]
      exact congrArg Host.Outcome.next (if_neg (Nat.not_lt.mpr last))
  · intro u
    show execDeepSleepWake t s = _
    exact congrArg Host.Outcome.next (if_neg (by simp [off, deep, waking, free]))
  · show execRailTimeout t rail s = _
    exact congrArg Host.Outcome.next (if_neg (by simp [starts, released]))
  · show execRestoreRetry t s = _
    simp only [execRestoreRetry, toP_clk, waits]
    exact congrArg Host.Outcome.next (if_neg (by simp [off]))

/-- Settles O26: the conditions of each clause leave one branch of its row. -/
theorem resetsAndStartsComplete : Obligations.ResetsAndStartsComplete := by
  unfold Obligations.ResetsAndStartsComplete
  refine ⟨fun t id split bootsel s power => ?_, fun t id split bootsel s power => ?_,
    fun t ns id split bootsel s on => ⟨fun short => ?_, fun long => ?_⟩, fun t p s pending => ⟨fun chip => ?_, fun warm normal => ?_⟩,
    fun t s => rfl, fun t s => rfl, fun t s sup => ?_,
    fun t miss bad s starts => ⟨fun released => ?_, fun started live => ?_⟩, fun t miss bad s other sleeps waking up => ?_,
    fun t bad s starts checked normal => ?_, fun t bad s starts checked recovers => ?_, fun s waits starts => ?_⟩
  · show execLDiePowerOn t id split bootsel s = _
    exact congrArg Host.Outcome.next (if_pos (bne_iff_ne.mpr power))
  · intro u
    have off : ¬ (((toP t s).clk.power != 4) = true) := by simp [power]
    show execLDiePowerOn t id split bootsel s = _
    refine congrArg Host.Outcome.next ((if_neg off).trans ?_)
    simp only [beq_iff_eq]
    rfl
  · show execRstn t ns id split bootsel s = _
    exact congrArg Host.Outcome.next (if_pos (by simp [short]))
  · show execRstn t ns id split bootsel s = _
    have whole : ¬ (ns < 1000) := Nat.not_lt.mpr long
    refine congrArg Host.Outcome.next ((if_neg (by simp [on]; omega)).trans ?_)
    rw [if_neg whole]
    exact if_pos (show bit 0 (1 : Word) = true by decide)
  · show execL3Chip t s = _
    simp only [execL3Chip, toL_faults, pending, chip, if_true]
  · show execL3Warm t s = _
    simp only [execL3Warm, toL_faults, toL_store, pending, warm, normal]
    rfl
  · intro u
    show execPDiePowerOnRelease t s = _
    exact congrArg Host.Outcome.next (if_neg (by simp [sup]))
  · show execRestore t miss bad s = _
    refine congrArg Host.Outcome.next ((if_pos (beq_iff_eq.mpr starts)).trans ?_)
    rw [toL_clk, released]
  · show execRestore t miss bad s = _
    refine congrArg Host.Outcome.next ((if_pos (beq_iff_eq.mpr starts)).trans ?_)
    rw [toL_clk, started]
    exact if_pos live
  · show execRestore t miss bad s = _
    exact congrArg Host.Outcome.next ((if_neg (by simp [other])).trans (if_pos (by simp [sleeps, waking, up])))
  · have cold : decide (s.spindle.reason = 1 ∧ s.clk.power ≠ 3) = (decide (s.spindle.reason = 1) && s.clk.power != 3) := by
      by_cases one : s.spindle.reason = 1
      · by_cases deep : s.clk.power = 3
        · simp [one, deep]
        · simp [one, deep]
      · simp [one]
    have goes : ¬ (((toL t s).ldie != .starting || (toL t s).clk.step != .checked || (toL t s).clk.recovery != 0) = true) := by
      simp [starts, checked, normal]
    show execFirmwareStarted t bad s = _
    unfold execFirmwareStarted
    dsimp only
    rw [if_neg goes, toL_spindle, toL_clk, ← cold]
  · show execRecoveryStart t bad s = _
    exact congrArg Host.Outcome.next (if_neg (by simp [starts, checked, recovers]))
  · show execChainWaitTimeout s = _
    exact congrArg Host.Outcome.next (if_neg (by simp [waits, starts]))

/-! ### Ranging opcodes (R519 to R523) -/

/-- RANGE_START of usable tokens and anchors, with no run where it begins one. -/
theorem rangeStart_takes (r : Req) (s : State) (valid : rangeStartValid r s = true) (opened : lockedOut s = false)
    (ready' : s.keys.state = .ready) (live : linkLive s = true)
    (toks : (bitList 8 (fld 7 0 r.object)).any (fun t => loads (tokenKey t s)) = true)
    (ancs : (bitList 6 (fld 5 0 (arg r 0))).all (fun n => loads (linkKey n s)) = true)
    (free : fld 15 8 (arg r 0) = 0 ∨ s.range.run = none) :
    rangeStart r s = if fld 15 8 (arg r 0) = 0 then (stopRun 1 s, .done [word s.range.runNo])
      else (modRange (fun x => { x with
          run := some { toks := fld 7 0 r.object, ancs := fld 5 0 (arg r 0), left := fld 15 8 (arg r 0), immo := bit 16 (arg r 0)
                        roundT := fld 15 0 (arg r 1), start := ceilDiv (s.now + 60000) 100000 * 100000, cmd := some (r.slot, r.tag) }
          runNo := (x.runNo + 1) % 65536, roundNo := 0 }) s, .wait .ranging false []) := by
  have busy : (fld 15 8 (arg r 0) != 0 && s.range.run.isSome) = false := by
    rcases free with free | free <;> simp [free]
  simp only [rangeStart, valid, busy, opened, ready', live, toks, ancs]
  rfl

/-- RANGE_ZONE_CFG of a valid item whose key may serve, with no run. -/
theorem rangeZoneCfg_takes (r : Req) (s : State) (valid : zoneCfgValid (obj r) r.payload = true) (free : s.range.run = none)
    (key : cfgKey (obj r) r.payload s = none) :
    rangeZoneCfg r s = if obj r < 0x100 ∨ (0x200 ≤ obj r ∧ obj r < 0x300) then (putZoneCfg (obj r) r.payload s, .done [])
      else
        (let w := freeWord (putZoneCfg (obj r) r.payload s)
        let mute := (List.range 6).filter (fun n => bit 31 (anchor n w.2).cfg && !bit n w.1)
        if mute.isEmpty then (w.2, .done []) else (mute.foldl (fun s n => linkError n s) w.2, .fail .faultActive [])) := by
  simp only [rangeZoneCfg, valid, free, key]
  rfl

/-- Settles O27: the conditions of each clause leave one branch of its row or operation. -/
theorem rangingEventsAndCommandsComplete : Obligations.RangingEventsAndCommandsComplete := by
  unfold Obligations.RangingEventsAndCommandsComplete
  refine ⟨fun r s run slot runs => ⟨fun idle => ?_, fun busy live => ?_⟩, fun good pre answers r n s run slot unread => ?_,
    fun r n s run slot read => ?_, fun r s h => ?_, fun r s h => exec_done rfl h rfl rfl, fun r s h => ?_, fun r s h bits => ?_,
    fun r s h => ?_⟩
  · show execAnchorSlotStart s = _
    simp only [execAnchorSlotStart, run, slot, runs, idle]
    rfl
  · show execAnchorSlotStart s = _
    simp only [execAnchorSlotStart, run, slot, runs, busy, live]
    rfl
  · intro v u
    show execReportRead good pre answers s = _
    simp only [execReportRead, run, slot, unread, Bool.and_eq_true]
    rfl
  · intro u x v r' w
    show execSlotResult s = _
    simp only [execSlotResult, run, slot]
    exact congrArg Host.Outcome.next (if_not_of_true read)
  · intro a toks ancs rounds valid opened ready' live tokens anchors
    refine ⟨fun zero => exec_done rfl h rfl ?_, fun some' free => ?_⟩
    · exact (rangeStart_takes r a valid opened ready' live tokens anchors (.inl zero)).trans (if_pos zero)
    · intro run
      exact exec_waits rfl h rfl ((rangeStart_takes r a valid opened ready' live tokens anchors (.inr free)).trans (if_neg some'))
  · intro a o u w mute valid free key
    have takes := rangeZoneCfg_takes r a valid free key
    refine ⟨fun own => exec_done rfl h rfl (takes.trans (if_pos own)), fun shared => ?_⟩
    have asked := takes.trans (if_neg shared)
    cases told : mute.isEmpty with
    | true => exact exec_done rfl h rfl (asked.trans (if_pos told))
    | false => exact exec_ready rfl h rfl (asked.trans (if_neg (by rw [told]; decide)))
  · intro a u
    have takes : lockoutClear r a = (if lockedOut a then endLockout u else modRange (fun x => { x with fails := 0 }) u, .done []) := by
      have same : lockedOut u = lockedOut a := by
        simp only [u]
        split <;> rfl
      refine (if_not_of_true bits).trans ?_
      rw [← same]
    exact exec_done rfl h rfl takes
  · intro a w profile free
    have fine : ¬ ((bit 31 w && !immoProfileOk w a) = true) := by
      rw [Bool.and_eq_true, Bool.not_eq_true']
      exact fun ⟨on, bad⟩ => absurd (profile on) (by rw [bad]; decide)
    refine exec_done rfl h rfl ((if_neg fine).trans (if_neg ?_))
    rw [free]
    decide

end Sys2Proof.Machine

/-! ## Register rows of field pins, light, network and clocks -/

namespace Sys2Proof.Machine

/-! ### Field pins and light -/

/-- A write of the field pins while their function group is enabled. -/
theorem asFio_on (f : State → State × Ans) (s : State) (on : groupOff 0x05 s = false) : asFio f s = f s := by
  rw [asFio, on]
  rfl

/-- The configuration of pin i alone is a FIO_CFG of one pin. -/
theorem fioCfg_one (i : Nat) (v : Word) (s : State) (hi : i < 80) (fine : pinCfgOk v = true)
    (wet : ((List.range 80).filter (fun j => pinWet10 (if i ≤ j ∧ j < i + 1 then v else pinWanted j s))).length ≤ 16)
    (live : linkLive s = true) :
    fioCfg i [v] s = ((pushCfg (.fio (0x1000 + 4 * i) v) s).2, .waits [.echo (pushCfg (.fio (0x1000 + 4 * i) v) s).1] []) := by
  have same (j : Nat) : (if i ≤ j ∧ j < i + [v].length then wordAt [v] (j - i) else pinWanted j s) =
      if i ≤ j ∧ j < i + 1 then v else pinWanted j s := by
    by_cases one : i ≤ j ∧ j < i + 1
    · have only : wordAt [v] (j - i) = v := by
        rw [show j - i = 0 by omega]
        rfl
      exact (if_pos (c := i ≤ j ∧ j < i + [v].length) one).trans (only.trans (if_pos one).symm)
    · rw [if_neg one]
      exact if_neg one
  refine fioCfg_takes i [v] s hi (by simp [fine]) ?_ live
  simpa only [same] using wet

/-- FIO_STAT.FAULT alone, written to be cleared on the P-die (R326). -/
theorem writeReg_fioFault (x y : Bool) (s : State) (live : linkLive s = true) :
    writeReg x y 0x80004 1 s = ((pushCfg (.fio 0x04 1) s).2, .wait (.echo (pushCfg (.fio 0x04 1) s).1) false []) := by
  have kept : modFio (fun x => { x with lost := x.lost && !bit 1 (1 : Word) }) s = s := by
    rw [show bit 1 (1 : Word) = false by decide]
    simp [modFio]
  have row : writeReg x y 0x80004 1 s =
    writeP (.fio 0x04 1) (modFio (fun x => { x with lost := x.lost && !bit 1 (1 : Word) }) s) := rfl
  rw [row, kept]
  exact writeP_live _ s live

/-- A word of the Whorl program that no engine executes. -/
theorem whorlLoad_one (i : Nat) (v : Word) (s : State) (hi : i < 1024)
    (idle : (s.light.engines.toList.any (fun x => (x.state == .running || x.state == .waiting) && x.low < i + 1 && i ≤ x.high)) = false) :
    whorlLoad i [v] s = (modLight (fun x => { x with prog := x.prog.set i v.toNat }) s, .done []) :=
  (if_neg (Nat.not_lt.mpr hi)).trans (if_neg (by rw [show [v].length = 1 from rfl, idle]; decide))

/-- FS of a matrix port, changed alone, goes into the fail-safe memory (R300). -/
theorem writePortCfg_fs (p : Nat) (v : Word) (s : State) :
    let old := portCfgComing p s
    let new := writeFields [rw 30 30, rw 29 29, rw 28 28, rwIn 27 26 0 1, rw 23 20, rwIn 19 16 0 8, rw 15 8, rw 0 0] old v
    let q := pushCfg (.portFs p (bit 30 new)) (modPortL p (fun x => { x with cfg := setFld 29 28 (fld 29 28 new) x.cfg }) s)
    old &&& portPBits = new &&& portPBits → bit 30 old ≠ bit 30 new → linkLive s = true →
    writePortCfg p v s = (modWeft (fun w => { w with nvPend := setPin w.nvPend (49 + p) true }) q.2, .waits [.echo q.1] []) := by
  dsimp only [writePortCfg]
  generalize portCfgComing p s = old
  generalize writeFields [rw 30 30, rw 29 29, rw 28 28, rwIn 27 26 0 1, rw 23 20, rwIn 19 16 0 8, rw 15 8, rw 0 0] old v = new
  intro scan fs live
  rw [bne_eq_false_iff_eq.mpr scan, bne_iff_ne.mpr fs, live]
  rfl

/-- Settles O28: each row is a write of its register, which its block takes. -/
theorem fieldRegisterRowsComplete : Obligations.FieldRegisterRowsComplete := by
  unfold Obligations.FieldRegisterRowsComplete
  refine ⟨fun i v r s hi => ?_, fun n v r s hn => ?_, fun r s => ?_, fun i v r s hi => ?_, fun p c v r s hp hc => ?_, fun p v r s hp => ?_,
    fun i p b n v r s hi window => ?_, fun v r s => ?_⟩
  · intro r' a h on fine wet live q
    have wrote := (writeReg_fioPinCfg (entryFor infoWriteReg r' s).authed false i v a hi).trans
      ((asFio_on _ a on).trans (fioCfg_one i v a hi fine wet live))
    refine congrArg Host.Outcome.next ((if_pos hi).trans ((regWrite_ready _ v r s (by omega) h).trans ?_))
    rw [wrote]
  · intro r' a h on live m q
    refine congrArg Host.Outcome.next ((if_pos hn).trans (regWrite_waits (by omega) h ?_))
    exact (writeReg_fioOut _ _ n v a hn).trans ((asFio_on _ a on).trans (fioWrite_outWord n _ a live))
  · intro r' a h live q
    exact congrArg Host.Outcome.next (regWrite_waits (by decide) h (writeReg_fioFault _ _ a live))
  · intro r' a h on idle
    refine congrArg Host.Outcome.next ((if_pos hi).trans (regWrite_done (by omega) h ?_))
    exact (writeReg_whorlProgram _ _ i v a hi on).trans (whorlLoad_one i v a hi idle)
  · intro r' a h sum live q
    refine congrArg Host.Outcome.next ((if_pos ⟨hp, hc⟩).trans (regWrite_waits (by omega) h ?_))
    exact (writeReg_coli _ p c v a hp hc).trans ((if_neg (Nat.not_lt.mpr sum)).trans (writeP_live _ a live))
  · intro r' a old new h scan fs live q
    have wrote := (writeReg_portCfg (entryFor infoWriteReg r' s).authed false p v a hp).trans (writePortCfg_fs p v a scan fs live)
    refine congrArg Host.Outcome.next ((if_pos hp).trans ((regWrite_ready _ v r s (by omega) h).trans ?_))
    rw [wrote]
  · intro r' a h live u
    have wrote := (writeReg_frame (entryFor infoWriteReg r' s).authed false i p b n v a hi window).trans
      (show writeWindow p b n v a = (u, .waits (pixelEchoes p a u) []) from if_not_of_true live)
    refine congrArg Host.Outcome.next ((if_pos hi).trans ((regWrite_ready _ v r s (by omega) h).trans ?_))
    rw [wrote]
  · intro r' a h
    exact congrArg Host.Outcome.next (regWrite_done (by decide) h rfl)

/-! ### Network and clocks -/

/-- A word of the routing table that leaves its entry valid (R407). -/
theorem writeRoutes_one (e j : Nat) (v : Word) (s : State) (he : e < 2048) (hj : j < 4)
    (valid : routeOk (routeAt e (modGw (fun x => { x with routes := x.routes.set (4 * e + j) v.toNat }) s)) = true) :
    writeRoutes (4 * e + j) [v] s = (modGw (fun x => { x with routes := x.routes.set (4 * e + j) v.toNat }) s, .done []) := by
  have one : (4 * e + j + 1 + 3) / 4 - (4 * e + j) / 4 = 1 := by omega
  have entry : (4 * e + j) / 4 = e := by omega
  have inside : ¬ (8192 < 4 * e + j + [v].length) := by
    rw [show [v].length = 1 from rfl]
    omega
  refine (if_neg inside).trans (if_pos ?_)
  rw [show [v].length = 1 from rfl, one, entry]
  exact (Bool.and_true _).trans valid

/-- Settles O29: each row is a write of its register, which its block takes, or a read that clears. -/
theorem networkRegisterRowsComplete : Obligations.NetworkRegisterRowsComplete := by
  unfold Obligations.NetworkRegisterRowsComplete
  refine ⟨fun e j v r s he hj => ?_, fun i win v r s hi => ?_, fun n j v r s hn hj => ?_, fun v r s => ?_, fun v r s => ?_,
    fun k r s hk => ?_, fun n v r s hn => ?_, fun n v r s hn block => ?_, fun v r s => ?_, fun m v r s hm => ?_, fun v r s => ?_⟩
  · intro r' a u h on valid
    refine congrArg Host.Outcome.next ((if_pos ⟨he, hj⟩).trans (regWrite_done (by omega) h ?_))
    exact (writeReg_route _ _ e j v a he hj on).trans (writeRoutes_one e j v a he hj valid)
  · intro r' a old c w h base window fits
    have small : b2n win ≤ 1 := by cases win <;> decide
    refine congrArg Host.Outcome.next ((if_pos hi).trans (regWrite_done (by omega) h ?_))
    exact (writeReg_trig _ _ i win v _ hi).trans (writeTrig_takes i win v _ base window fits)
  · intro r' a new slot h authed
    have wrote := writeReg_auth (entryFor infoWriteReg r' s).authed false n j v a hn hj
    have row {t : State} (done : writeAuth n (4 * j) v true a = (t, .done [])) :
        exec (.canAuthWrite n j v r) s = .next (doneWith infoWriteReg r' s [] t) := by
      rw [authed] at wrote
      refine congrArg Host.Outcome.next ((if_pos ⟨hn, hj⟩).trans (regWrite_done (by omega) h ?_))
      rw [show (entryFor infoWriteReg (regReq (0xAD000 + 0x10 * n + 4 * j) v r) s).authed = true from authed]
      exact wrote.trans done
    refine ⟨fun first off => row ?_, fun first on store occupied purpose => row ?_, fun second => row ?_, fun rest => row ?_⟩
    · subst first
      exact if_not_of_false off
    · subst first
      have usable : ¬ ((!slot.occupied || slot.purpose != 3) = true) := by simp [occupied, purpose]
      exact (if_not_of_true on).trans ((if_neg (by simp [store])).trans (if_neg usable))
    · subst second
      rfl
    · obtain three | two : j = 3 ∨ j = 2 := by omega
      · subst three
        rfl
      · subst two
        rfl
  · intro r' h
    exact congrArg Host.Outcome.next (regWrite_done (by decide) h rfl)
  · intro r' u h range
    exact congrArg Host.Outcome.next (regWrite_done (by decide) h (congrArg (·, Ans.done []) (if_neg (Nat.not_lt.mpr range))))
  · intro r' a h
    have here : obj r' = 0xA0024 + 0x1000 * k := Nat.mod_eq_of_lt (by omega)
    refine (congrArg Host.Outcome.next (if_pos hk)).trans (exec_done (c := .readReg r') rfl h rfl ?_)
    show (readClears (obj r') a, Ans.done [(readReg (obj r') a).getD 0]) = _
    rw [here, readReg_errcap k a hk, readClears_errcap k a hk]
    rfl
  · intro r' w h
    exact congrArg Host.Outcome.next (regWrite_ready n v r s hn h)
  · intro r' h
    exact congrArg Host.Outcome.next (regWrite_done hn h (writeReg_readOnly _ _ n v _ block))
  · intro r' h
    exact congrArg Host.Outcome.next (regWrite_done (by decide) h rfl)
  · intro r' h
    exact congrArg Host.Outcome.next (regWrite_done (by omega) h (writeReg_macIp _ _ m v _ hm))
  · intro r' a h
    exact congrArg Host.Outcome.next (regWrite_done (by decide) h (writeReg_pwrLimit _ _ v a))

end Sys2Proof.Machine

/-! ## Host commands of actuators, sensing and light -/

namespace Sys2Proof.Machine

/-- A flag that is not set. -/
theorem if_of_false {α : Type} {b : Bool} (h : b = false) {x y : α} : (if b = true then x else y) = y := by
  rw [h]
  exact if_neg Bool.false_ne_true

/-! ### Actuators (R266, R271 to R274) -/

/-- ACT_PROFILE_SET of an idle slot with KIND 0. -/
theorem profileSet_deletes (a : Nat) (p : ActProfile) (s : State) (idle : (actL a s).phase = 0) (live : linkLive s = true)
    (none : p.kind = 0) :
    profileSet a p s = ((pushCfg (.actProfile a {}) s).2, .wait (.echo (pushCfg (.actProfile a {}) s).1) false []) :=
  (if_neg (by simp [idle])).trans ((if_pos none).trans (writeP_live _ s live))

/-- ACT_PROFILE_SET of an idle slot with a profile that passes its checks. -/
theorem profileSet_takes (a : Nat) (p : ActProfile) (s : State) (idle : (actL a s).phase = 0) (live : linkLive s = true)
    (some' : p.kind ≠ 0) (bind' : bindValid a p s = true) (fields : fieldsValid p = true) (currents : actCurrentsValid a p s = true)
    (clamp : clampValid a p s = true) :
    profileSet a p s = ((pushCfg (.actProfile a p) s).2, .wait (.echo (pushCfg (.actProfile a p) s).1) false []) :=
  (if_neg (by simp [idle])).trans ((if_neg some').trans ((if_neg (by simp [bind', fields])).trans
    ((if_neg (by simp [currents, clamp])).trans (writeP_live _ s live))))

/-- ACT_FIRE of a slot in HOLD. -/
theorem actFire_holds (a : Nat) (s : State) (kind : (actL a s).prof.kind ≠ 0) (live : linkLive s = true)
    (free : (actL a s).prof.skeins.any (fun k => fireBarred k s) = false) (holds : (actL a s).phase = 3) :
    actFire a s = (modActL a (fun y =>
      { y with holdEnd := if (actL a s).prof.holdT = 0 then none else some (s.now + (actL a s).prof.holdT * 200000) }) s, .done [2]) :=
  (if_neg kind).trans ((if_neg (by simp [holds])).trans ((if_neg (by simp [live, free])).trans (if_pos holds)))

/-- ACT_FIRE of an idle slot that its budget covers. -/
theorem actFire_idle (a : Nat) (s : State) (kind : (actL a s).prof.kind ≠ 0) (live : linkLive s = true)
    (free : (actL a s).prof.skeins.any (fun k => fireBarred k s) = false) (idle : (actL a s).phase = 0)
    (budget : fireBudget (actL a s).prof s = none) :
    actFire a s =
      (let u := modActL a (fun y => { y with aborted := false, deferred := false }) s
      let v := setPhase a 1 (modActL a (fun y => { y with deferred := true }) u)
      let w := bump (ctr 0x06 (8 * a + 1)) (modAct (fun y => { y with queue := y.queue ++ [a] }) v)
      if claimFits a u && !queued (actL a s).prof u then ((decidePeak a u).2, .wait (.echo (decidePeak a u).1) false [0])
      else (actEvent w.now a 2 w, .done [1])) := by
  refine (if_neg kind).trans ((if_neg (by simp [idle])).trans ((if_neg (by simp [live, free])).trans ((if_neg (by simp [idle])).trans ?_)))
  rw [budget]

/-- ACT_STOP of a deferred slot. -/
theorem actStop_deferred (a : Nat) (s : State) (kind : (actL a s).prof.kind ≠ 0) (waits : (actL a s).phase = 1) :
    actStop a s =
      (claimFell a (setPhase a 0 (modAct (fun y => { y with queue := y.queue.filter (fun b => b != a) }) s)), .done []) := by
  refine (if_neg kind).trans ?_
  rw [waits]
  rfl

/-- ACT_STOP of a slot in PEAK or HOLD. -/
theorem actStop_fires (a : Nat) (s : State) (kind : (actL a s).prof.kind ≠ 0) (fires : (actL a s).phase = 2 ∨ (actL a s).phase = 3)
    (live : linkLive s = true) (still : linkLive (setPhase a 4 s) = true) :
    actStop a s = ((pushCfg (.act a 4) (setPhase a 4 s)).2, .wait (.echo (pushCfg (.act a 4) (setPhase a 4 s)).1) false []) := by
  refine (if_neg kind).trans ?_
  rcases fires with peak | hold
  · rw [peak]
    exact (if_pos live).trans (writeP_live _ _ still)
  · rw [hold]
    exact (if_pos live).trans (writeP_live _ _ still)

/-- ACT_STOP of a slot that does not fire. -/
theorem actStop_rests (a : Nat) (s : State) (kind : (actL a s).prof.kind ≠ 0) (rests : (actL a s).phase = 0 ∨ 4 ≤ (actL a s).phase) :
    actStop a s = (s, .done []) := by
  refine (if_neg kind).trans ?_
  rcases rests with idle | after
  · rw [idle]
    rfl
  · obtain ⟨n, phase⟩ := Nat.exists_eq_add_of_le' after
    rw [phase]
    rfl

/-! ### Latches (R223) -/

/-- Bit j of a field is its own bit of the word. -/
theorem fld_testBit (hi lo j : Nat) (w : Word) (h : j < hi + 1 - lo) : (fld hi lo w).testBit j = bit (lo + j) w := by
  rw [fld, Nat.testBit_mod_two_pow, Nat.testBit_shiftRight, decide_eq_true h, Bool.true_and]
  rfl

/-- LOAD_CLEAR_LATCH without LATCH. -/
theorem clearLatch_learns (k : Nat) (w : Word) (s : State) (defined : (defL k s).defined = true) (bits : onlyBits 7 w = true)
    (latch : bit 0 w = false) :
    clearLatch k w s = (if bit 1 w then relearn k s
      else if bit 2 w then modSkL k (fun x => { x with learn := { x.learn with degraded := false, r := x.learn.m, drift := 0 } }) s
      else s, .done []) := by
  simp only [clearLatch, defined, bits, latch, clearLearn, fld_testBit 2 1 0 w (by decide), fld_testBit 2 1 1 w (by decide)]
  rfl

/-- LOAD_CLEAR_LATCH with LATCH. -/
theorem clearLatch_sends (k : Nat) (w : Word) (s : State) (defined : (defL k s).defined = true) (bits : onlyBits 7 w = true)
    (latch : bit 0 w = true) (loose : (defL k s).cells.any (fun n => (viewOf n s).gateStuck) = false) (live : linkLive s = true) :
    clearLatch k w s =
      ((pushCfg (.clearLatch k (fld 2 1 w)) s).2, .wait (.echo (pushCfg (.clearLatch k (fld 2 1 w)) s).1) false []) := by
  simp only [clearLatch, defined, bits, latch, loose, live]
  exact writeP_live _ s live

/-- Settles O30: the conditions of each clause leave one branch of its operation. -/
theorem actuatorSenseAndFailsafeCommandsComplete : Obligations.ActuatorSenseAndFailsafeCommandsComplete := by
  unfold Obligations.ActuatorSenseAndFailsafeCommandsComplete
  refine ⟨fun r s h => ?_, fun r s h => ?_, fun r s h => ?_, fun r s h => ?_, fun r s h => ?_, fun r s h => ?_, fun r s h => ?_⟩
  · intro x a p idle live
    exact ⟨fun none => exec_waits rfl h rfl (profileSet_deletes a p x idle live none),
      fun some' bind' fields currents clamp => exec_waits rfl h rfl (profileSet_takes a p x idle live some' bind' fields currents clamp)⟩
  · intro x a p kind live free
    refine ⟨fun holds => exec_done rfl h rfl (actFire_holds a x kind live free holds), ?_⟩
    intro u v w idle budget
    have fires := actFire_idle a x kind live free idle budget
    refine ⟨fun fits alone => exec_waits rfl h rfl (fires.trans (if_pos ?_)), fun waits => exec_done rfl h rfl (fires.trans (if_neg ?_))⟩
    · rw [fits, alone]
      rfl
    · rcases waits with claim | queue
      · rw [claim]
        exact Bool.false_ne_true
      · rw [queue, Bool.not_true, Bool.and_false]
        exact Bool.false_ne_true
  · intro x a kind
    exact ⟨fun waits => exec_done rfl h rfl (actStop_deferred a x kind waits),
      fun fires live still => exec_waits rfl h rfl (actStop_fires a x kind fires live still),
      fun rests => exec_done rfl h rfl (actStop_rests a x kind rests)⟩
  · intro x a kind
    exact exec_done rfl h rfl (if_neg kind)
  · intro a k w v more q defined bits
    refine ⟨fun c t item clears => ?_, fun latch => exec_done rfl h rfl (clearLatch_learns k w a defined bits latch),
      fun latch loose live => exec_waits rfl h rfl (clearLatch_sends k w a defined bits latch loose live)⟩
    simp only [echoed, item, clears, if_true, Bool.false_eq_true, if_false]
  · intro a k d defined live
    exact exec_done rfl h rfl ((if_not_of_true defined).trans (if_not_of_true live))
  · intro a k fits live
    exact exec_waits rfl h rfl ((if_not_of_true fits).trans (if_not_of_true live))

/-! ### Light (R302 to R307) -/

/-- DIM_SET of a lighting skein that nothing else drives. -/
theorem dimSet_takes (k : Nat) (w0 w1 : Word) (s : State) (defined : (defL k s).defined = true) (light : (defL k s).owner = 1)
    (dims : (defL k s).static = false) (level : onlyBits 0xFFFF w0 = true) (time : onlyBits 0xFFFF w1 = true)
    (free : bit 1 (lightSk k s).cfg = false) (fits : setPointCheck k (levelSp k (fld 15 0 w0) s) s = none) (live : linkLive s = true) :
    dimSet k w0 w1 s = (goLevel k (fld 15 0 w0) (fld 15 0 w1) (completeAll (.dim k) .done (fun _ => []) s),
      .wait (if fld 15 0 w1 = 0 then .inForce k else .dim k) false []) := by
  simp only [dimSet, defined, light, dims, level, time, free, fits, live]
  rfl

/-- MATRIX_WRITE of pixels that lie in the frame, of a port that no engine owns. -/
theorem matrixWrite_takes (p : Nat) (ws : List Word) (s : State) (some' : 1 ≤ fld 25 16 (wordAt ws 0)) (few : fld 25 16 (wordAt ws 0) ≤ 510)
    (inside : fld 9 0 (wordAt ws 0) + fld 25 16 (wordAt ws 0) ≤ 768) (length : (ws.drop 1).length = ceilDiv (fld 25 16 (wordAt ws 0)) 2)
    (free : bit 28 (portL p s).cfg = false) (live : linkLive s = true) :
    matrixWrite p ws s =
      (let u := writePixels p (backOf p s)
        ((List.range (fld 25 16 (wordAt ws 0))).map (fun j => (fld 9 0 (wordAt ws 0) + j, halfWord (ws.drop 1) j))) s
      (u, .waits (pixelEchoes p s u) [])) := by
  have fits : ¬ ((decide (fld 25 16 (wordAt ws 0) = 0) || decide (510 < fld 25 16 (wordAt ws 0)) ||
      decide (768 < fld 9 0 (wordAt ws 0) + fld 25 16 (wordAt ws 0)) ||
      (ws.drop 1).length != ceilDiv (fld 25 16 (wordAt ws 0)) 2) = true) := by
    rw [decide_eq_false (by omega), decide_eq_false (by omega), decide_eq_false (by omega), bne_eq_false_iff_eq.mpr length]
    decide
  exact (if_neg fits).trans ((if_of_false free).trans (if_not_of_true live))

/-- Settles O31: the conditions of each clause leave one branch of its operation. -/
theorem lightCommandsComplete : Obligations.LightCommandsComplete := by
  unfold Obligations.LightCommandsComplete
  refine ⟨fun r s h => ?_, fun r s h => ?_, fun r s h => ?_, fun r s h => ?_, fun r s h => ?_, fun r s h => exec_done rfl h rfl rfl,
    fun r s h => ?_⟩
  · intro a k l fade defined light dims level time free fits live
    exact exec_waits rfl h rfl (dimSet_takes k (arg r 0) (arg r 1) a defined light dims level time free fits live)
  · intro a p first count px u some' few inside length free live
    exact exec_ready rfl h rfl (matrixWrite_takes p r.payload a some' few inside length free live)
  · intro a p free live
    exact exec_waits rfl h rfl ((if_of_false free).trans (if_not_of_true live))
  · intro a stop inside idle
    have quiet : ¬ ((a.light.engines.toList.any (fun x =>
        (x.state == .running || x.state == .waiting) && x.low < stop && obj r ≤ x.high)) = true) := by
      rw [idle]
      decide
    exact exec_done rfl h rfl ((if_neg (Nat.not_lt.mpr inside)).trans (if_neg quiet))
  · intro a start low high above below stands rests
    have range : ¬ (start < low ∨ high < start) := by omega
    have still : ¬ (((engine (obj r) a).state == .running || (engine (obj r) a).state == .waiting) = true) := by
      simp [stands, rests]
    exact exec_waits rfl h rfl ((if_neg range).trans (if_neg still))
  · intro a words k x
    refine ⟨fun skein defined light => exec_done rfl h rfl ?_, fun port => exec_done rfl h rfl (if_neg (Nat.not_lt.mpr port))⟩
    have lit : ((defL k a).defined && (defL k a).owner == 1) = true := by
      rw [defined, light]
      rfl
    exact (if_pos skein).trans (if_pos lit)

end Sys2Proof.Machine

/-! ## Host commands of CAN and the network -/

namespace Sys2Proof.Machine

/-! ### CAN (R371 to R374) -/

/-- A frame has room in the queue it goes to, and its channel is not in COMMIT. -/
def txRoom (k : Nat) (r : Req) (f : CanFrame) (s : State) : Bool :=
  (nth s.nm.chans k).phase != 2 &&
    (bit 21 (arg r 1) || (if bit 14 (arg r 1) then slotsUsed (canCtl k s).urgent + frameSlots f ≤ 16
      else slotsUsed (canCtl k s).normal + frameSlots f ≤ 64))

theorem txRoom_of (k : Nat) (r : Req) (f : CanFrame) (s : State) (awake : (nth s.nm.chans k).phase ≠ 2)
    (fits : bit 21 (arg r 1) = true ∨ (if bit 14 (arg r 1) then slotsUsed (canCtl k s).urgent + frameSlots f ≤ 16
      else slotsUsed (canCtl k s).normal + frameSlots f ≤ 64)) : txRoom k r f s = true := by
  rw [txRoom, bne_iff_ne.mpr awake, Bool.true_and, Bool.or_eq_true]
  refine fits.imp_right fun room => ?_
  cases urgent : bit 14 (arg r 1) <;> rw [urgent] at room <;> exact decide_eq_true room

/-- The controller sends, or the frame is a trigger's. -/
theorem canTx_goes (k : Nat) (r : Req) (s : State)
    (runs : bit 21 (arg r 1) = true ∨ (canCtl k s).state = .active ∨ (canCtl k s).state = .integrating) :
    (!bit 21 (arg r 1) && (canCtl k s).state != .active && (canCtl k s).state != .integrating) = false := by
  rcases runs with trig | active | integrates
  · simp [trig]
  · simp [active]
  · simp [integrates]

/-- CAN_TX of a frame that no profile authenticates. -/
theorem canTx_plain (k : Nat) (r : Req) (s : State) (prof : (if bit 11 (arg r 1) then none else authProfileOf k true (arg r 0) s) = none)
    (valid : canTxValid k r 0 s = true)
    (runs : bit 21 (arg r 1) = true ∨ (canCtl k s).state = .active ∨ (canCtl k s).state = .integrating)
    (room : txRoom k r (txFrame r) s = true) : canTx k r s = placeFrame k r (txFrame r) s := by
  simp only [canTx, prof, Option.map_none, Option.getD_none, valid, canTx_goes k r s runs]
  exact if_pos room

/-- CAN_TX of a frame that a profile authenticates. -/
theorem canTx_authed (k : Nat) (r : Req) (s : State) (n : Nat) (key : List Byte)
    (prof : (if bit 11 (arg r 1) then none else authProfileOf k true (arg r 0) s) = some n)
    (valid : canTxValid k r (canAuth n s).extra s = true)
    (runs : bit 21 (arg r 1) = true ∨ (canCtl k s).state = .active ∨ (canCtl k s).state = .integrating)
    (load : authLoad n s = .ok key)
    (room : txRoom k r { txFrame r with data := (txFrame r).data ++ List.replicate (canAuth n s).extra 0 } s = true) :
    canTx k r s =
      (let x := authSend n key (txFrame r).w0 (txFrame r).data (countLoad (fld 21 16 (canAuth n s).cfg) (.ok key) s)
      placeFrame k r { txFrame r with data := x.1 } x.2) := by
  simp only [canTx, prof, Option.map_some, Option.getD_some, valid, canTx_goes k r s runs, load]
  exact if_not_of_true room

/-- CAN_FILTER_SET of entries that are valid. -/
theorem canFilterSet_takes (r : Req) (s : State) (some' : 1 ≤ (arg r 0).toNat) (few : (arg r 0).toNat ≤ 64)
    (inside : fld 5 0 r.object + (arg r 0).toNat ≤ 64)
    (fine : ((List.range (arg r 0).toNat).map (filterArg r)).all (filterOk (fld 11 8 r.object)) = true) :
    canFilterSet r s = (modCtl (fld 11 8 r.object) (fun c =>
        { c with filters := (List.range (arg r 0).toNat).foldl (fun v i => put v (fld 5 0 r.object + i) (filterArg r i)) c.filters
                 was := c.was ++ [(s.now, c.filters)] }) s,
      if (canCtl (fld 11 8 r.object) s).onBus then .wait (.canFilter (fld 11 8 r.object) s.now) false [] else .done []) := by
  refine if_neg ?_
  rw [fine, decide_eq_false (by omega), decide_eq_false (by omega), decide_eq_false (by omega)]
  decide

/-- Settles O32: the conditions of each clause leave one branch of its operation. -/
theorem canCommandsComplete : Obligations.CanCommandsComplete := by
  unfold Obligations.CanCommandsComplete
  refine ⟨fun r s h => ?_, fun r s h => ?_, fun r s h => ?_, fun r s h => ?_⟩
  · intro a e k old n c u v wait valid
    have takes := if_not_of_true valid (x := (a, Ans.fail .badObject [])) (y :=
      if old.state = .busOff ∧ c.mode = 1 then
        (wait none (modCtl k (fun x => { x with state := .recovering, boffEnd := none }) v), Ans.wait (.can k) true [])
      else if lasting c = lasting old.cfg then (v, .done [])
      else if c.mode = 0 then (giveQueued e (stopCtl k v), .done [])
      else (wait (some (mgmtStart v + 100)) (startCtl k v), .wait (.can k) true []))
    have run := (show infoCanCfg.run e a = _ from rfl).trans takes
    exact ⟨fun off mode => exec_waits rfl h rfl (run.trans (if_pos ⟨off, mode⟩)),
      fun starts same => exec_done rfl h rfl (run.trans ((if_neg starts).trans (if_pos same))),
      fun starts new off => exec_done rfl h rfl (run.trans ((if_neg starts).trans ((if_neg new).trans (if_pos off)))),
      fun starts new on => exec_waits rfl h rfl (run.trans ((if_neg starts).trans ((if_neg new).trans (if_neg on))))⟩
  · intro a k w1 c f prof extra slots runs awake valid room
    refine ⟨fun n key found load => ?_, fun none => ?_⟩
    · intro b x queue
      have added : extra = (canAuth n a).extra := by
        simp only [extra, found, Option.map_some, Option.getD_some]
      have fits := txRoom_of k r { f with data := f.data ++ List.replicate extra 0 } a awake room
      rw [added] at valid fits
      have sent := canTx_authed k r a n key found valid runs load fits
      exact exec_done rfl h rfl (sent.trans (if_of_false queue))
    · have added : extra = 0 := by
        simp only [extra, none, Option.map_none, Option.getD_none]
      have fits := txRoom_of k r { f with data := f.data ++ List.replicate extra 0 } a awake room
      rw [added] at valid
      rw [added, List.replicate_zero, List.append_nil] at fits
      have sent := canTx_plain k r a none valid runs fits
      exact ⟨fun queue => exec_done rfl h rfl (sent.trans (if_of_false queue)),
        fun trig => exec_done rfl h rfl (sent.trans (if_pos trig))⟩
  · intro a k b w c l
    refine ⟨fun buffer => exec_done rfl h rfl (if_pos buffer), fun fifo some' => exec_done rfl h rfl ?_⟩
    exact (if_neg (show ¬ b < 32 by omega)).trans (if_neg some')
  · intro a k j n u some' few inside fine
    have takes := canFilterSet_takes r a some' few inside fine
    exact ⟨fun on => exec_waits rfl h rfl (takes.trans (congrArg (Prod.mk u) (if_pos on))),
      fun off => exec_done rfl h rfl (takes.trans (congrArg (Prod.mk u) (if_of_false off)))⟩

/-! ### Network time, network management and the gateway (R375, R400, R401, R407) -/

/-- The cycles of the device's own start leave the configuration. -/
theorem ownCycle_role (n : CanNt) (now : Nat) : (ownCycle n now).role = n.role := rfl

/-- NT_CFG of a valid configuration. -/
theorem ntCfg_takes (w0 w1 w2 : Word) (s : State) :
    let old := s.can.nt
    let cfg := w0 &&& 0x000711FF
    let cyc := w2.toNat
    let moved := fld 3 0 cfg != old.ctrl || cyc != old.cycleT
    let role := fld 5 4 cfg
    let n1 : CanNt := { old with cfg := cfg, ref := w1 &&& 0x7FFFFFFF, cycle := w2, synced := old.synced && !moved && role != 2 }
    let n2 := if role = 2 then { n1 with offset := 0, slew := 0, rate := 0, last := none } else n1
    let n3 := if moved || old.role = 0 || role = 2 then ownCycle n2 s.now else n2
    fld 3 0 cfg ≤ 11 → 1 ≤ fld 18 16 cfg → 20000 ≤ cyc → cyc ≤ 200000000 →
    s.can.trigs.toList.all (fun t => trigFits cyc t.cfg && trigFits cyc ((t.next.map (fun x => x.1)).getD t.cfg)) = true →
    ntCfg w0 w1 w2 s =
      (modNt (fun _ => { n3 with sending := !groupOff 0x06 s && (role == 2 || (role == 3 && old.sending)) }) s, .done []) := by
  intro old cfg cyc moved role n1 n2 n3 ctrl miss short long trigs
  have ok : (decide (fld 3 0 cfg ≤ 11) && decide (1 ≤ fld 18 16 cfg) && decide (20000 ≤ cyc) && decide (cyc ≤ 200000000) &&
      s.can.trigs.toList.all (fun t => trigFits cyc t.cfg && trigFits cyc ((t.next.map (fun x => x.1)).getD t.cfg))) = true := by
    rw [decide_eq_true ctrl, decide_eq_true miss, decide_eq_true short, decide_eq_true long, trigs]
    rfl
  have role2 : n2.role = role := by
    simp only [n2]
    split <;> rfl
  have role3 : n3.role = role := by
    simp only [n3]
    split
    · exact role2
    · exact role2
  have kept : n3 = if moved || old.role = 0 || n2.role = 2 then ownCycle n2 s.now else n2 := by rw [role2]
  refine (if_not_of_true ok).trans ?_
  rw [← role3]
  exact congrArg (fun n : CanNt => (modNt (fun _ =>
    { n with sending := !groupOff 0x06 s && (n.role == 2 || (n.role == 3 && old.sending)) }) s, Ans.done [])) kept.symm

/-- NM_SLEEP_REQ of a channel that takes part in network management. -/
theorem nmSleepReq_runs (r : Req) (e : Entry) (s : State) (req : e.req = r) (en : (nmCh (obj r) s).en = true)
    (bits : onlyBits 1 (arg r 0) = true) : infoNmSleepReq.run e s = nmSleepReq (obj r) (bit 0 (arg r 0)) s := by
  subst req
  exact if_neg (by simp [en, bits])

/-- GW_ROUTE_SET of whole entries that are valid. -/
theorem writeRoutes_entries (e n : Nat) (ws : List Word) (s : State) (length : ws.length = 4 * n) (inside : e + n ≤ 2048)
    (valid : ∀ i, i < n → routeOk (routeAt (e + i) (modGw (fun x =>
      { x with routes := (List.range (4 * n)).foldl (fun t j => t.set (4 * e + j) (wordAt ws j).toNat) x.routes }) s)) = true) :
    writeRoutes (4 * e) ws s = (modGw (fun x =>
      { x with routes := (List.range (4 * n)).foldl (fun t j => t.set (4 * e + j) (wordAt ws j).toNat) x.routes }) s, .done []) := by
  have entries : (4 * e + 4 * n + 3) / 4 - 4 * e / 4 = n := by omega
  have first : 4 * e / 4 = e := by omega
  have all : ((List.range ((4 * e + 4 * n + 3) / 4 - 4 * e / 4)).map (fun j => 4 * e / 4 + j)).all (fun i => routeOk (routeAt i
      (modGw (fun x => { x with routes := (List.range (4 * n)).foldl (fun t j => t.set (4 * e + j) (wordAt ws j).toNat) x.routes }) s)))
      = true := by
    rw [entries, first, List.all_map, List.all_eq_true]
    exact fun i hi => valid i (List.mem_range.mp hi)
  simp only [writeRoutes, length]
  exact (if_neg (by omega)).trans (if_pos all)

/-- A word of a payload's rest. -/
theorem wordAt_drop (l : List Word) (n i : Nat) : wordAt (l.drop n) i = wordAt l (n + i) := by
  simp [wordAt, List.getD_eq_getElem?_getD, List.getElem?_drop]

/-- Settles O33: the conditions of each clause leave one branch of its operation. -/
theorem networkCommandsComplete : Obligations.NetworkCommandsComplete := by
  unfold Obligations.NetworkCommandsComplete
  refine ⟨fun r s h => ?_, fun r s h => ?_, fun r s h => ?_, fun r s h => ?_⟩
  · intro a old cfg cyc moved role n1 n2 n3 ctrl miss short long trigs
    exact exec_done rfl h rfl (ntCfg_takes (arg r 0) (arg r 1) (arg r 2) a ctrl miss short long trigs)
  · intro a c u v w en bits
    have runs := nmSleepReq_runs r (takenEntry infoNmSleepReq r s) a rfl en bits
    refine ⟨fun release asleep => exec_done rfl h rfl (runs.trans ?_), fun release awake => exec_waits rfl h rfl (runs.trans ?_),
      fun need up => exec_done rfl h rfl (runs.trans ?_), fun need down => exec_waits rfl h rfl (runs.trans ?_)⟩
    · exact (if_pos release).trans (if_pos asleep)
    · exact (if_pos release).trans (if_neg awake)
    · exact (if_of_false need).trans (if_pos up)
    · exact (if_of_false need).trans (if_neg down)
  · intro a c x t
    exact exec_done rfl h rfl rfl
  · intro a n u length inside valid
    have words : (r.payload.drop 1).length = 4 * n := by
      rw [List.length_drop, length]
      omega
    have takes := writeRoutes_entries (obj r) n (r.payload.drop 1) a words inside
    simp only [wordAt_drop] at takes
    exact exec_done rfl h rfl (takes valid)

end Sys2Proof.Machine

/-! ## Host commands of keys, cryptography and configuration -/

namespace Sys2Proof.Machine

/-! ### Keys (R477 to R495) -/

/-- KEY_PROVISION of an empty slot with a wrap that verifies. -/
theorem keyProvision_takes (r : Req) (s : State) :
    let w := arg r 0
    let n := obj r
    let b := (wordsToBytes r.payload).drop 4
    let size := if bit 23 w then 32 else 16
    let ct := (b.drop 12).take size
    let ses := (slotOf r.slot s).session.getD {}
    let ktk := kdf (keyBytes ses.key) (ascii "EODEN-KTK") ses.nonce 16
    let u := modKeySlot n (newSlot (fld 19 16 w) (fld 11 8 w) (gcmCtr ktk (b.take 12) ct)) (bump (ctr 0x0D 0) s)
    fieldsFit (fld 19 16 w) (fld 11 8 w) (bit 23 w) = true → r.payload.length = (if bit 23 w then 16 else 12) →
    onlyBits 0x008F0F00 w = true → hasKeys r s = true → s.weft.tamper = false → s.keys.state = .ready →
    (keySlot n s).occupied = false → (keySlot n s).gen ≠ 0xFFFF →
    gcmTag ktk (b.take 12) (bytesLE 4 w.toNat ++ bytesLE 4 n) ct = (b.drop (12 + size)).take 16 →
    keyProvision r s = (storeChange 3 n u, .wait (.keyBank (nextKeyWrite u)) true []) := by
  intro w n b size ct ses ktk u fields length bits rights calm ready' empty fresh verified
  have fits : ¬ ((!fieldsFit (fld 19 16 w) (fld 11 8 w) (bit 23 w) || r.payload.length != (if bit 23 w then 16 else 12) ||
      !onlyBits 0x008F0F00 w) = true) := by
    rw [fields, bits, bne_eq_false_iff_eq.mpr length]
    decide
  have free : ¬ (((keySlot n s).occupied || decide ((keySlot n s).gen = 0xFFFF)) = true) := by
    rw [empty, decide_eq_false fresh]
    decide
  have tag : ¬ ((gcmTag ktk (b.take 12) (bytesLE 4 w.toNat ++ bytesLE 4 n) ct != (b.drop (12 + size)).take 16) = true) := by
    rw [verified, bne_self_eq_false]
    decide
  exact (if_neg fits).trans ((if_neg (by simp [rights, calm])).trans ((if_neg (by simp [ready'])).trans
    ((if_neg free).trans (if_neg tag))))

/-- KEY_DERIVE of a usable parent into a slot that is free or stale. -/
theorem keyDerive_takes (r : Req) (s : State) :
    let w := arg r 0
    let p := obj r
    let c := fld 5 0 w
    let ll := fld 5 0 (arg r 1)
    let cl := fld 14 8 (arg r 1)
    let b := (wordsToBytes r.payload).drop 8
    let par := keySlot p s
    let old := keySlot c s
    let key := kdf par.key (b.take ll) ((b.drop (padded ll)).take cl) (if bit 23 w then 32 else 16)
    let slot := { newSlot (fld 19 16 w) (fld 27 24 w) key old with
      derived := true, parent := p, depth := par.depth + 1, pgen := par.gen, gen := old.gen + b2n old.occupied }
    p ≠ c → fieldsFit (fld 19 16 w) (fld 27 24 w) (bit 23 w) = true → 1 ≤ ll → ll ≤ 32 → cl ≤ 64 →
    4 * r.payload.length = 8 + padded ll + padded cl → onlyBits 0x0F8F003F w = true → par.depth ≤ 3 → hasKeys r s = true →
    s.weft.tamper = false → s.keys.state = .ready → par.occupied = true → par.purpose = 1 → stale p s = false →
    (old.occupied = false ∨ stale c s = true) → old.gen ≠ 0xFFFF →
    keyDerive r s =
      (storeChange 4 c (endDeadSessions none (modKeySlot c (fun _ => slot) (countLoad p (.ok []) s))), .done []) := by
  intro w p c ll cl b par old key slot apart fields label short context length bits depth rights calm ready' occupied purpose fresh free
    gens
  have fits : ¬ ((decide (p = c) || !fieldsFit (fld 19 16 w) (fld 27 24 w) (bit 23 w) ||
      (decide (ll = 0) || decide (32 < ll) || decide (64 < cl) || 4 * r.payload.length != 8 + padded ll + padded cl) ||
      !onlyBits 0x0F8F003F w || decide (3 < par.depth)) = true) := by
    rw [decide_eq_false apart, fields, bits, bne_eq_false_iff_eq.mpr length, decide_eq_false (Nat.ne_of_gt label),
      decide_eq_false (Nat.not_lt.mpr short), decide_eq_false (Nat.not_lt.mpr context), decide_eq_false (Nat.not_lt.mpr depth)]
    decide
  have target : ¬ (((old.occupied && !stale c s) || decide (old.gen = 0xFFFF)) = true) := by
    rw [decide_eq_false gens, Bool.or_false]
    rcases free with free | free <;> simp [free]
  exact (if_neg fits).trans ((if_neg (by simp [rights, calm])).trans ((if_neg (by simp [ready'])).trans
    ((if_neg (by simp [show (keySlot (obj r) s).occupied = true from occupied, show (keySlot (obj r) s).purpose = 1 from purpose])).trans
      ((if_of_false fresh).trans (if_neg target)))))

/-- KEY_INVALIDATE of a key slot by a session that may. -/
theorem keyInvalidate_runs (e : Entry) (s : State) (slot : obj e.req < 64) (bits : onlyBits 1 (arg e.req 0) = true)
    (rights : hasKeys e.req s = true) (ready' : s.keys.state = .ready) :
    infoKeyInvalidate.run e s =
      (let more := if bit 0 (arg e.req 0) then (descendants s.keys.slots 4 [obj e.req]).eraseDups else []
      let u := endDeadSessions (some (e.req.slot, e.req.tag)) ((obj e.req :: more).foldl (fun s m => modKeySlot m emptied s) s)
      if !(keySlot (obj e.req) s).occupied then (s, .done [])
      else (storeChange 2 (obj e.req) u, .wait (.keyBank (nextKeyWrite u)) true [])) :=
  (if_neg (Nat.ne_of_lt slot)).trans ((if_not_of_true bits).trans ((if_not_of_true rights).trans (if_neg (by simp [ready']))))

/-- Settles O34: the conditions of each clause leave one branch of its operation. -/
theorem keyCommandsComplete : Obligations.KeyCommandsComplete := by
  unfold Obligations.KeyCommandsComplete
  refine ⟨fun r s h => ?_, fun r s h => ?_, fun r s h slot bits => ?_, fun r s => ?_, fun r s h => ?_, fun r s h code => ?_⟩
  · intro a w n b size ct ses ktk u fields length bits rights calm ready' empty fresh verified
    exact exec_waits rfl h rfl (keyProvision_takes r a fields length bits rights calm ready' empty fresh verified)
  · intro a w p c ll cl b par old key slot apart fields label short context length bits depth rights calm ready' occupied purpose fresh free
      gens
    exact exec_done rfl h rfl
      (keyDerive_takes r a apart fields label short context length bits depth rights calm ready' occupied purpose fresh free gens)
  · intro a n more u rights ready'
    have runs := keyInvalidate_runs (takenEntry infoKeyInvalidate r s) a slot bits rights ready'
    exact ⟨fun empty => exec_done rfl h rfl (runs.trans (if_not_of_false empty)),
      fun full => exec_waits rfl h rfl (runs.trans (if_not_of_true full))⟩
  · intro r' a h code rights
    have right : ¬ ((arg r 0 != 0x52455449) = true) := by simp [code]
    have retires : rootRetire r' a = ({ a with otp := { a.otp with pend := a.otp.pend ++ [0] } }, .wait .otp true []) :=
      (if_neg right).trans (if_not_of_true rights)
    exact exec_waits rfl h rfl retires
  · intro a n x
    exact ⟨fun root => exec_done rfl h rfl (if_pos root), fun slot => exec_done rfl h rfl (if_neg (Nat.ne_of_lt slot))⟩
  · intro a rights ready'
    have right : ¬ ((arg r 0 != 0x5A45524F) = true) := by simp [code]
    have clears : zeroise r a = (startZeroise 2 (some (r.slot, r.tag)) a, .wait .erase false []) :=
      (if_neg right).trans ((if_not_of_true rights).trans (if_neg (by simp [ready'])))
    exact exec_waits rfl h rfl clears

/-! ### Cryptography (R475, R493) -/

/-- A row of CRYPTO_OP with a key that loads: the operation's words are its answer. -/
theorem keyedRow (n purpose : Nat) (r : Req) (s : State) (key : List Byte) (small : n < 5) (serves : cryptoPurpose n = purpose)
    (valid : cryptoValid (withOp n r) s = true) (loaded : loadCheck (obj r) purpose none s = .ok key) :
    cryptoOp (withOp n r) s = (bump (ctr 0x0D 2) (countLoad (obj r) (.ok key) s),
      .done (keyedOp key (cryptoArgs (withOp n r)) (cryptoData (withOp n r)))) := by
  have op : (cryptoArgs (withOp n r)).op = n := withOp_op n r (by omega)
  refine cryptoOp_keyed (withOp n r) s key valid (by rw [op]; exact small) ?_
  rw [op, serves]
  exact loaded

/-- Settles O35: each row answers as the operation that its OP names. -/
theorem cryptoCommandsComplete : Obligations.CryptoCommandsComplete := by
  unfold Obligations.CryptoCommandsComplete
  refine ⟨fun r s key => ?_, fun r s key => ?_, fun r s key => ?_, fun r s key => ?_, fun r s => ?_, fun r s => ?_, fun r s => ?_⟩
  · intro r' a h valid loaded
    have op : (cryptoArgs r').op = 1 := withOp_op 1 r (by decide)
    have runs := keyedRow 1 5 r a key (by decide) rfl valid loaded
    simp only [keyedOp, show (cryptoArgs (withOp 1 r)).op = 1 from op] at runs
    exact exec_done rfl h rfl runs
  · intro r' a h valid loaded
    have op : (cryptoArgs r').op = 2 := withOp_op 2 r (by decide)
    have runs := keyedRow 2 6 r a key (by decide) rfl valid loaded
    simp only [keyedOp, show (cryptoArgs (withOp 2 r)).op = 2 from op] at runs
    exact exec_done rfl h rfl runs
  · intro r' a h valid loaded
    have op : (cryptoArgs r').op = 3 := withOp_op 3 r (by decide)
    have runs := keyedRow 3 7 r a key (by decide) rfl valid loaded
    simp only [keyedOp, show (cryptoArgs (withOp 3 r)).op = 3 from op] at runs
    exact exec_done rfl h rfl runs
  · intro r' a h valid loaded
    have op : (cryptoArgs r').op = 4 := withOp_op 4 r (by decide)
    have runs := keyedRow 4 8 r a key (by decide) rfl valid loaded
    simp only [keyedOp, show (cryptoArgs (withOp 4 r)).op = 4 from op] at runs
    exact exec_done rfl h rfl runs
  · intro r' a x h valid
    have op : (cryptoArgs r').op = 5 := withOp_op 5 r (by decide)
    have answers : keylessOp r' a = (x.1, .done x.2) := by
      simp only [keylessOp, op]
      rfl
    exact exec_done rfl h rfl (cryptoOp_keyless r' a _ _ valid (Nat.le_of_eq op.symm) answers)
  · intro r' a f ok h valid
    have op : (cryptoArgs r').op = 6 := withOp_op 6 r (by decide)
    have answers : keylessOp r' a = (a, .done [word (b2n (!ok))]) := by
      simp only [keylessOp, op]
      rfl
    exact exec_done rfl h rfl (cryptoOp_keyless r' a _ _ valid (by rw [op]; decide) answers)
  · intro r' a x h valid works
    have op : (cryptoArgs r').op = 7 := withOp_op 7 r (by decide)
    have answers : keylessOp r' a = (x.2, .done (byteWords x.1)) := by
      simp only [keylessOp, op, works]
      rfl
    exact exec_done rfl h rfl (cryptoOp_keyless r' a _ _ valid (by rw [op]; decide) answers)

/-! ### The configuration (R534, R535, R633) -/

/-- A CFG_WRITE row whose OBJECT the row names. -/
theorem cfgRow_run (n : Nat) (r : Req) (e : Entry) (s : State) (req : e.req = { r with object := word n }) (small : n < 5) :
    infoCfgWrite.run e s = cfgWrite n r.payload s := by
  have object : obj e.req = n := by
    rw [req]
    exact Nat.mod_eq_of_lt (by omega)
  show cfgWrite (obj e.req) e.req.payload s = _
  rw [object, req]

/-- OBJECT 4 writes the live items of the classes named. -/
theorem cfgWrite_live (ws : List Word) (s : State) :
    let m := (wordAt ws 0).toNat
    let e : CfgEdit := { clear := m, recs := ((List.range 15).map (fun c => if m.testBit c then liveRecs c s else [])).flatten }
    ws.length = 1 → m &&& 0x7FFE = m → m ≠ 0 → bankBytes (e.apply (workRecs s)) ≤ 131072 →
    cfgWrite 4 ws s = (pushEdit e s, .wait (.cfgBank (s.store.writes + 1)) true []) := by
  intro m e length classes some' fits
  have fine : ¬ ((ws.length != 1 || m &&& 0x7FFE != m || decide (m = 0)) = true) := by
    rw [length, bne_eq_false_iff_eq.mpr classes, decide_eq_false some']
    decide
  exact (if_neg fine).trans (if_neg (Nat.not_lt.mpr fits))

/-- Settles O36: each row is its own case of CFG_WRITE, whose records pass their checks. -/
theorem configCommandsComplete : Obligations.ConfigCommandsComplete := by
  unfold Obligations.ConfigCommandsComplete
  refine ⟨fun r l s => ?_, fun r l s => ?_, fun r l s => ?_, fun r l s => ?_, fun r s => ?_,
    fun r s h => ⟨fun idle => ?_, fun writes => ?_⟩⟩
  · intro stage r' a h checks
    refine exec_waits rfl h rfl ((cfgRow_run 0 r _ a rfl (by decide)).trans ?_)
    simp only [cfgWrite]
    rw [checks]
  · intro stage r' a h checks
    refine exec_done rfl h rfl ((cfgRow_run 1 r _ a rfl (by decide)).trans ?_)
    simp only [cfgWrite]
    rw [checks]
  · intro stage r' a h checks
    refine exec_done rfl h rfl ((cfgRow_run 2 r _ a rfl (by decide)).trans ?_)
    simp only [cfgWrite]
    rw [checks]
    rfl
  · intro stage r' a all h checks
    refine exec_waits rfl h rfl ((cfgRow_run 3 r _ a rfl (by decide)).trans ?_)
    simp only [cfgWrite]
    rw [checks]
  · intro r' a m e h length classes some' fits
    exact exec_waits rfl h rfl ((cfgRow_run 4 r _ a rfl (by decide)).trans (cfgWrite_live r.payload a length classes some' fits))
  · exact exec_done rfl h rfl (if_neg (by rw [idle]; decide))
  · exact exec_waits rfl h rfl (if_pos writes)

end Sys2Proof.Machine

/-! ## Host commands of the update flow, faults, snapshots and counters -/

namespace Sys2Proof.Machine

/-! ### Updates (R542 to R551) -/

section
variable {c : Instr} {o : OpInfo} {r : Req} {s : State}

/-- A ready update command brings the outcome of its operation to its entry: its acceptance touches the session alone (R541). -/
theorem exec_update (hc : hostRow c = some (o, r)) (h : ready o r s = true) (ha : o.onAccept = touchUpdate) {t : State} {a : Ans}
    (run : o.run (takenEntry o r s) (atRun o r s) = (t, a)) : exec c s = .next (settle (entryFor o r s) a t) := by
  rw [exec_hostRow c o r s hc, command_ready o r s h (by rw [ha]; exact touchUpdate_flight _ _), run]

end

/-- UPDATE_BEGIN of a descriptor that passes its checks, with no session open. -/
theorem updateBegin_takes (r : Req) (s : State) (idle : (checkHolder s).store.upd.state = 0) (object : r.object = 0)
    (form : descFormOk r.payload = true) (fits : descFits (descOf r.payload) (checkHolder s) = true)
    (signed : descSigned r.payload = true) (floor : (checkHolder s).otp.floor ≤ (descOf r.payload).arb) :
    updateBegin r s =
      (let u := modFw (otherBank (checkHolder s)) (fun _ => { desc := some (descOf r.payload) }) (checkHolder s)
      (bump (ctr 0x0E 2) (modUpd (fun _ =>
        { state := 1, slot := r.slot, held := true, idleEnd := mgmtStart u + 6000, ends := (slotOf r.slot u).ends }) u), .done [])) :=
  (if_neg (by simp [idle])).trans ((if_neg (by simp [object, form, fits])).trans
    ((if_not_of_true signed).trans (if_neg (Nat.not_lt.mpr floor))))

/-- A block of the image that the session's holder may store. -/
theorem blockRefused_none (r : Req) (s : State) (opened : s.store.upd.state = 1) (holder : holds r.slot s = true)
    (inside : obj r < (bankDesc (otherBank s) s).nblk) (check : crc32c (wordsToBytes (args r 1 128)) = arg r 0) :
    blockRefused r s = none :=
  (if_neg (by simp [opened, holder])).trans ((if_neg (Nat.not_le.mpr inside)).trans (if_neg (by simp [check])))

/-- UPDATE_BLOCK of such a block. -/
theorem updateBlock_takes (r : Req) (s : State) (fine : blockRefused r (checkHolder s) = none) :
    updateBlock r s = if bankWrites (checkHolder s) then (checkHolder s, .wait .bankIdle true [])
      else writeImageBlock r (checkHolder s) := by
  simp only [updateBlock, fine]

/-- The write of such a block, which its read-back may fail (log entry 2). -/
theorem writeImageBlock_takes (r : Req) (s : State) (fine : blockRefused r s = none) :
    writeImageBlock r s =
      (let u : State := { s with free := s.free + 1 }
      let v := modFw (otherBank u) (fun x =>
        { x with blocks := putBlock (obj r) (args r 1 128) x.blocks, checks := x.checks.set (obj r) (arg r 0).toNat }) u
      if !Config.blockWritten s.free then (u, .fail .storeFail [])
      else (bump (ctr 0x0E 3) (modUpd (fun x =>
        { x with got := if x.got.contains (obj r) then x.got else x.got ++ [obj r] }) v), .done [])) := by
  simp only [writeImageBlock, fine]

/-- UPDATE_ABORT with no update session (R545). -/
theorem updateAbort_idle (r : Req) (s : State) (idle : (checkHolder s).store.upd.state = 0) :
    updateAbort r s = (checkHolder s, .done []) := by
  simp only [updateAbort, idle]

/-- UPDATE_ABORT by the holder of an open session (R545). -/
theorem updateAbort_open (r : Req) (s : State) (opened : (checkHolder s).store.upd.state = 1 ∨ (checkHolder s).store.upd.state = 2)
    (holder : holds r.slot (checkHolder s) = true) : updateAbort r s = (endUpdate 2 (checkHolder s), .done []) := by
  rcases opened with receives | verified
  · simp only [updateAbort, receives, holder, if_true]
  · simp only [updateAbort, verified, holder, if_true]

/-- UPDATE_ABORT of a trial (R545). -/
theorem updateAbort_trial (r : Req) (s : State) (runs : (checkHolder s).store.upd.state = 4)
    (trial : (checkHolder s).store.boot.trial = true) : updateAbort r s = (revert 1 (checkHolder s), .wait (.update 3) false []) := by
  simp only [updateAbort, runs, trial, if_true]

/-- Settles O37: each operation's checks pass, and its state is the one that its clause names. -/
theorem updateCommandsComplete : Obligations.UpdateCommandsComplete := by
  unfold Obligations.UpdateCommandsComplete
  refine ⟨fun r s h object => ?_, fun r s h => ?_, fun r s h => ?_, fun r s h => ?_, fun r s h => ?_, fun r s h => ?_⟩
  · intro a d u idle form fits signed floor
    exact exec_update rfl h rfl (updateBegin_takes r (atRun infoUpdateBegin r s) idle object form fits signed floor)
  · intro a b ws c d opened holder inside check
    have fine := blockRefused_none r b opened holder inside check
    have takes := updateBlock_takes r a fine
    refine ⟨fun writes => exec_update rfl h rfl (takes.trans (if_pos writes)), fun idle => ?_⟩
    have wrote := (takes.trans (if_of_false idle)).trans (writeImageBlock_takes r b fine)
    cases ok : Config.blockWritten b.free with
    | true => exact exec_update rfl h rfl (wrote.trans (if_not_of_true ok))
    | false => exact exec_update rfl h rfl (wrote.trans (if_not_of_false ok))
  · intro a opened holder whole
    have verifies : updateVerify r (atRun infoUpdateVerify r s) =
        (modUpd (fun u => { u with op := some .verify }) a, .wait (.update 0) true []) := by
      refine (if_neg (by simp [show (checkHolder (atRun infoUpdateVerify r s)).store.upd.state = 1 from opened,
        show holds r.slot (checkHolder (atRun infoUpdateVerify r s)) = true from holder])).trans ?_
      rw [show missingBlock (checkHolder (atRun infoUpdateVerify r s)) = none from whole]
    exact exec_update rfl h rfl verifies
  · intro a u verified holder
    have commits : updateCommit r (atRun infoUpdateCommit r s) = (u, .wait (.update 1) true []) :=
      if_neg (by simp [show (checkHolder (atRun infoUpdateCommit r s)).store.upd.state = 2 from verified,
        show holds r.slot (checkHolder (atRun infoUpdateCommit r s)) = true from holder])
    have row : exec (.updateCommit r) s = .next (waitsWith infoUpdateCommit r s (.update 1) true [] u) := exec_update rfl h rfl commits
    exact ⟨row, fun recovery => (congrArg Host.Outcome.next (if_pos (beq_iff_eq.mpr recovery))).trans row⟩
  · intro a
    refine ⟨fun idle => ?_, fun opened holder => ?_, fun runs trial => ?_⟩
    · exact exec_update rfl h rfl (updateAbort_idle r (atRun infoUpdateAbort r s) idle)
    · exact exec_update rfl h rfl (updateAbort_open r (atRun infoUpdateAbort r s) opened holder)
    · exact exec_update rfl h rfl (updateAbort_trial r (atRun infoUpdateAbort r s) runs trial)
  · intro a runs trial idle
    have confirms : updateConfirm a = (modUpd (fun u => { u with op := some .bootConfirm }) a, .wait (.update 2) true []) :=
      if_neg (by simp [runs, trial, idle])
    exact exec_update rfl h rfl confirms

/-! ### Faults, snapshots and counters (R108 to R111, R460 to R464) -/

/-- The latch tick that a SNAP_TAKE fixes at its acceptance (R109). -/
def snapTick (r : Req) (s : State) : Nat := latchTick (arrived r s).now r

/-- The entry of a SNAP_TAKE that holds its set. -/
def snapEntry (r : Req) (s : State) : Entry :=
  { entryFor infoSnapTake r s with data := word 0 :: natToWords 2 (snapTick r s) }

/-- The state of such a SNAP_TAKE, which waits with its set held. -/
def snapHeld (r : Req) (s : State) : State :=
  modEntry (snapEntry r s) (fun x => { x with data := word 0 :: natToWords 2 (snapTick r s) })
    (modSet (obj r % 4) (fun _ => { held := true, pending := true, chain := r.object.getLsbD 8, tick := snapTick r s })
      (heldAt infoSnapTake r s))

/-- Such a SNAP_TAKE past its commit point. -/
def snapTaken (r : Req) (s : State) : State := modEntry (snapEntry r s) (fun x => { x with stage := .taken }) (snapHeld r s)

section
variable {r : Req} {s : State}

/-- The tag of a ready request is free before it. -/
theorem tagHeld_of_ready {o : OpInfo} (h : ready o r s = true) : tagHeld r (arrived r s) = false := by
  simp only [ready, Bool.and_eq_true, Option.isNone_iff_eq_none] at h
  obtain ⟨⟨⟨⟨⟨⟨-, checks⟩, -⟩, -⟩, -⟩, -⟩, -⟩ := h
  exact tagHeld_of_stage4 o r _ checks

theorem snapAccept_free (late : (arrived r s).now + snapLead (r.object.getLsbD 8) ≤ snapTick r s)
    (early : snapTick r s ≤ (arrived r s).now + 200000000)
    (free : (reelSet (obj r % 4) (heldAt infoSnapTake r s)).held = false) :
    snapAccept (entryFor infoSnapTake r s) (heldAt infoSnapTake r s) = snapHeld r s :=
  snapAccept_held (entryFor infoSnapTake r s) (heldAt infoSnapTake r s) late early free

theorem entryOf_snapHeld (fresh : tagHeld r (arrived r s) = false) : entryOf r (snapHeld r s) = some (snapEntry r s) :=
  entryOf_snapAccept r s _ _ fresh

theorem snapTaken_now : (snapTaken r s).now = (arrived r s).now := by
  simp only [snapTaken, snapHeld, heldAt, modEntry, modSet, modFlight, modReel, modHost_now]

/-- What such a SNAP_TAKE does past its commit point (R108, R109). -/
theorem snapTake_snapTaken (small : snapTick r s < 2 ^ 64) (late : (arrived r s).now + snapLead (r.object.getLsbD 8) ≤ snapTick r s) :
    snapTake { snapEntry r s with stage := .taken } (snapTaken r s) =
      (modSet (obj r % 4) (fun x => { x with armed := true })
        (if r.object.getLsbD 8 && (plyOf 1 (snapTaken r s)).state == .up && !(plyOf 1 (snapTaken r s)).orderErr then
          modChainSt (fun c => { c with sentMark := some (obj r % 4, snapTick r s) }) (snapTaken r s) else snapTaken r s),
        .wait (.latch (obj r % 4) (snapTick r s)) ((arrived r s).now + 200000 < snapTick r s) (natToWords 2 (snapTick r s))) :=
  have keeps : (snapTaken r s).now + snapLead (r.object.getLsbD 8) ≤ snapTick r s := by
    rw [snapTaken_now]
    exact late
  snapTake_held { snapEntry r s with stage := .taken } (snapTick r s) (snapTaken r s) rfl small keeps

/-- A ready SNAP_TAKE whose set is free at its acceptance is carried out with the entry that holds it. -/
theorem command_snapTake (h : ready infoSnapTake r s = true)
    (accepted : snapAccept (entryFor infoSnapTake r s) (heldAt infoSnapTake r s) = snapHeld r s) {t : State} {x : Ans}
    (takes : snapTake { snapEntry r s with stage := .taken } (snapTaken r s) = (t, x)) :
    command infoSnapTake r s = settle (snapEntry r s) x t := by
  have held : entryOf r (infoSnapTake.onAccept (entryFor infoSnapTake r s) (heldAt infoSnapTake r s)) = some (snapEntry r s) :=
    (congrArg (entryOf r) accepted).trans (entryOf_snapHeld (tagHeld_of_ready h))
  have row := command_accepted infoSnapTake r s (snapEntry r s) h held rfl rfl rfl
  have run : infoSnapTake.run { snapEntry r s with stage := .taken } (modEntry (snapEntry r s) (fun x => { x with stage := .taken })
      (infoSnapTake.onAccept (entryFor infoSnapTake r s) (heldAt infoSnapTake r s))) = (t, x) :=
    (congrArg (fun a => snapTake { snapEntry r s with stage := .taken }
      (modEntry (snapEntry r s) (fun x => { x with stage := .taken }) a)) accepted).trans takes
  rw [run] at row
  exact row

end

section
variable {r : Req} {s : State} (on : bit 0 s.faults.ctl = true) (known : (srcInfo (obj r)).isSome = true)
include on known

/-- FAULT_INJECT of a source that injection reaches passes its two checks (R464). -/
theorem faultInject_passes (source : (bit 8 (arg r 0) && !hwSource (obj r) s) = false) {x y z : State × Ans} :
    (if (!bit 0 s.faults.ctl) = true then x
      else if ((srcInfo (obj r)).isNone || (bit 8 (arg r 0) && !hwSource (obj r) s)) = true then y else z) = z :=
  (if_not_of_true on).trans (if_neg (by simp [source, Option.isNone_eq_false_iff.mpr known]))

/-- FAULT_INJECT of a soft fault leaves it to its row (R464, log entry 38). -/
theorem faultInject_soft (soft : bit 8 (arg r 0) = false) :
    faultInject r s = (modFaults (fun f => { f with inject := f.inject ++ [(obj r, fld 7 0 (arg r 0))] }) s, .done []) :=
  (faultInject_passes on known (by simp [soft])).trans (if_not_of_false soft)

/-- FAULT_INJECT arms a corrected memory error in the hardware. -/
theorem faultInject_singleBit (hard : bit 8 (arg r 0) = true) (code : obj r = 0x003) :
    faultInject r s = (modSpindle (fun x => { x with injCe := true }) s, .done []) := by
  have source : hwSource (obj r) s = true := by simp [hwSource, code]
  refine ((faultInject_passes on known (by simp [source])).trans (if_not_of_true hard)).trans ?_
  rw [code]
  rfl

/-- FAULT_INJECT arms a lockstep mismatch in the hardware of a pair. -/
theorem faultInject_mismatch (hard : bit 8 (arg r 0) = true) (code : obj r = 0x040) (pair : s.split = false) :
    faultInject r s = (modSpindle (fun x => { x with injMismatch := true }) s, .done []) := by
  have source : hwSource (obj r) s = true := by simp [hwSource, code, pair]
  refine ((faultInject_passes on known (by simp [source])).trans (if_not_of_true hard)).trans ?_
  rw [code]
  rfl

end

/-- Settles O38: the conditions of each clause leave one branch of its operation. -/
theorem faultAndSnapshotCommandsComplete : Obligations.FaultAndSnapshotCommandsComplete := by
  unfold Obligations.FaultAndSnapshotCommandsComplete
  refine ⟨fun r s h => exec_done rfl h rfl rfl, fun r s h bits => ?_, fun r s h => exec_done rfl h rfl rfl, fun r s h fits => ?_,
    fun r s h => ?_, fun r s h => ?_, fun r s h => ?_, fun r s h => ?_, fun r s h counts => ?_⟩
  · intro w u
    exact exec_done rfl h rfl (if_not_of_true bits)
  · exact exec_done rfl h rfl (if_not_of_true fits)
  · intro a w on known
    refine ⟨fun soft => ?_, fun hard code => ?_, fun hard code pair => ?_⟩
    · exact exec_done rfl h rfl (faultInject_soft on known soft)
    · exact exec_done rfl h rfl (faultInject_singleBit on known hard code)
    · exact exec_done rfl h rfl (faultInject_mismatch on known hard code pair)
  · intro n chain t0 t e a u v small late early free
    exact congrArg Host.Outcome.next (command_snapTake h (snapAccept_free late early free) (snapTake_snapTaken small late))
  · intro a x held counts latched
    have goes : ¬ ((!x.held || !countArgs r) = true) := by simp [held, counts]
    have reads {t : State} {p : List Word} (branch : (if x.pending = true then
        ((freeWords (arg r 1).toNat a).2, Ans.done (freeWords (arg r 1).toNat a).1)
        else (a, Ans.done (counterWords x.counters.get (arg r 0).toNat (arg r 1).toNat))) = (t, .done p)) :
        exec (.snapRead r) s = .next (doneWith infoSnapRead r s p t) :=
      exec_done rfl h rfl ((if_neg goes).trans ((if_of_false latched).trans branch))
    exact ⟨fun whole => reads (if_of_false whole), fun never => reads (if_pos never)⟩
  · intro a latched
    exact exec_done rfl h rfl (if_of_false latched)
  · intro a
    exact exec_done rfl h rfl (if_not_of_true counts)

end Sys2Proof.Machine
